-- ==== Sys2Proof/Word.lean ====
section
/-! DEFINITION. The word types of the model. -/

namespace Sys2Proof

/-- A byte (R11: multi-byte values are little-endian everywhere). -/
abbrev Byte := BitVec 8

/-- A binary32 pattern or a 32-bit integer in a register, lane or accumulator cell. -/
abbrev Word := BitVec 32

end Sys2Proof
end

