-- ==== Sys2Proof/Syntax.lean ====
section
/-! DEFINITION. The commands of the SK-1840 block: one constructor of `Instr` per row of the table of operations and
events, and the plain operand types they carry. An operand holds what the command brings from outside: a bus request, a
message, a sensor reading, the symbol errors that the media returned. -/

namespace Sys2Proof

/-- The four paths of the object dictionary (16_object_dictionary.md, "Paths"). Window 0-3 is the G-FAM function of port
0-3; window 4 + 16p + n is logical device n of port p, in the order of WINDOW_SCOPE (13_host_ports.md). -/
inductive Path where
  | window (w : Fin 68)
  | field
  | i3c
  | vdm
  deriving DecidableEq, Repr

/-- A client of the dictionary (R443): a window, an MCTP endpoint of a path, or an address and port on the field network. -/
structure Client where
  path : Path
  key  : Nat
  deriving DecidableEq, Repr

/-- The tiers of memory (R41, tier-map field TIER). -/
inductive Tier where
  | hbm
  | ddr
  deriving DecidableEq, Repr

/-- Symbol errors of one code word as the media returned it: (symbol, exclusive-or mask), data symbols first (R114). -/
abbrev SymErrors := List (Nat × BitVec 8)

/-- Who a media read was made for (R121, R563). -/
inductive Reader where
  | host (p : Fin 4) (req : Fin 4096)
  | fetch (v : Fin 34)
  | stream (v : Fin 34) (e : Fin 6)
  | cacheFill (v : Fin 34)
  | copy (n : Fin 16)
  | migration (n : Fin 16)
  | pool (src : BitVec 6) (tag : BitVec 16)
  | complex
  deriving DecidableEq, Repr

/-- A best-effort request as it reaches a slice (R100, R101, R69): requester port of R69, whether it writes, its bytes, the
DPA it serves, the TENANT of a copy descriptor, whether a copy channel works for firmware, migration or rebuild, and whether
it is a write of a partition wash. -/
structure BeSpec where
  port   : Fin 10
  write  : Bool
  bytes  : Nat
  dpa    : BitVec 46
  tenant : Option (Fin 256)
  device : Bool
  wash   : Bool
  deriving DecidableEq, Repr

/-- Bits of on-die memory that have flipped since the last slot (R128, R153, R160): of an 8 B word of a palette, of a line of a
vat cache, of a line of the parity cache; with how many. -/
inductive Upset where
  | palette (v : Fin 34) (word : Nat) (n : Nat)
  | vatCache (v : Fin 34) (line : Nat) (n : Nat)
  | parityCache (line : Nat) (n : Nat)
  deriving DecidableEq, Repr

/-- MetaValue of a host MemRd (R310, R311). -/
inductive MetaValue where
  | any
  | shared
  | invalid
  deriving DecidableEq, Repr

/-- A MARKER flit (R385) with its arrival time in ps after the receiver's own frame start. -/
structure Marker where
  frame   : BitVec 64
  probe   : BitVec 16
  echo    : Bool
  skewPs  : BitVec 32
  master  : BitVec 6
  lock    : BitVec 2
  arrival : Int
  deriving DecidableEq, Repr

/-- A PCIe ATS Translation Completion (R294): translated address, log2 of the page size, R, W and U bits, or an error. -/
structure AtsResult where
  ok       : Bool
  hpa      : BitVec 64
  sizeLog2 : Nat
  read     : Bool
  write    : Bool
  untrans  : Bool
  deriving DecidableEq, Repr

/-- An ATS Invalidation Request (R295): PASID if carried, Global Invalidate, and the range. -/
structure AtsInvalidation where
  pasid : Option (BitVec 20)
  glob  : Bool
  va    : BitVec 64
  len   : Nat
  tag   : Nat
  deriving DecidableEq, Repr

/-- The agents of the home agent (R305). `other p` is a non-caching requester on requester port p of R563. -/
inductive Agent where
  | vat (k : Fin 32)
  | host (r : Fin 4096)
  | buffer
  | watch
  | other (p : Fin 16)
  deriving DecidableEq, Repr

/-- Where an SPDM request arrives (R423): the DOE mailbox of a function, or an MCTP path. -/
inductive SpdmPath where
  | doe (f : Fin 68)
  | mctp
  deriving DecidableEq, Repr

/-- The algorithms that a requester offers (R423). -/
structure SpdmAlgorithms where
  p521   : Bool
  sha512 : Bool
  ecdhe  : Bool
  gcm256 : Bool
  deriving DecidableEq, Repr

/-- The header fields of a flit (R382). -/
structure FlitHeader where
  seq      : BitVec 12
  ackSeq   : BitVec 12
  ackValid : Bool
  creditVc : BitVec 3
  credit   : BitVec 16
  deriving DecidableEq, Repr

/-- The payload of an INIT flit (R384). -/
structure InitFlit where
  expect   : BitVec 12
  width    : BitVec 2
  position : BitVec 6
  port     : BitVec 2
  coord    : BitVec 6
  sizeX    : BitVec 3
  sizeY    : BitVec 3
  cls      : BitVec 2
  deriving DecidableEq, Repr

/-- What a ring-barrier arrival or a partner fault notice names (R229, R230). -/
structure RingArrival where
  group   : BitVec 16
  seq     : BitVec 32
  barrier : BitVec 8
  deriving DecidableEq, Repr

/-- The two control complexes (R459). -/
inductive Cx where
  | A
  | B
  deriving DecidableEq, Repr, Inhabited

/-- A block that is reset on its own (R496, R506). -/
inductive Block where
  | vat (v : Fin 34)
  | port (p : Fin 4)
  | link (p : Fin 4)
  | cx (x : Cx)
  deriving DecidableEq, Repr

/-- The end of HBM training (R60): every stack trained at the rate of `step` (0: 8.0, 1: 7.2, 2: 6.4 Gb/s) after lane
repair; a pseudo-channel failing at it; lanes repaired per stack. -/
structure HbmTraining where
  ok       : Bool
  repaired : List Nat
  deriving DecidableEq, Repr

/-- The module of a DDR channel by its SPD (R55): an MRDIMM (else an RDIMM), ECC, package ranks, dies of a package, x8 devices
(else x4), and capacity in GiB. -/
structure Dimm where
  mrdimm : Bool
  ecc    : Bool
  ranks  : Nat
  dies   : Nat
  x8     : Bool
  gib    : Nat
  deriving DecidableEq, Repr

/-- What training at one rate finds wrong (R61): the DQ lanes that fail, as (subchannel, lane 0-39), and any other failure. -/
structure RateFailure where
  rate  : Nat
  lanes : List (Nat × Nat)
  other : Bool
  deriving DecidableEq, Repr

/-- One DDR channel as the sequencer finds it (R55, R57, R61): no module, more than one, or one with its failures by rate. -/
inductive DdrTraining where
  | empty
  | several
  | single (d : Dimm) (fails : List RateFailure)
  deriving DecidableEq, Repr

/-- The monitored clocks (R514, R519). -/
inductive Clock where
  | refPcie
  | refPool
  | crystal
  | sidOsc
  | vatPll
  | crossbarPll
  | hbmPll
  | ddrPll (c : Fin 12)
  | poolPll
  | portPll (p : Fin 4)
  | cxPll (x : Cx)
  deriving DecidableEq, Repr

/-- What a configuration write changes on a function (R356, R293, R307, R354, R360). -/
inductive CfgWrite where
  | backInvalidate (on : Bool)
  | ats (on : Bool)
  | msix (on : Bool)
  | ide (on : Bool)
  | hdmDecoder (d : Fin 2) (v : BitVec 256)
  deriving DecidableEq, Repr

/-- The commands, one per row of the table of operations and events. -/
inductive Instr where
  /-- SLOT_BOUNDARY (R84). Each 4 ns slot boundary: every slice gives the slot to a gate owner, a lent grant or best-effort traffic, and refills shaper tokens. -/
  | slotBoundary (ups : List Upset)
  /-- FRAME_BOUNDARY (R85). At slot 0 of each frame, the frame-boundary changes take effect in their fixed order. -/
  | frameBoundary
  /-- LAUNCH_POINT (R235). At each launch point the launch stage applies accepted context commands and examines launch rings and input slots. -/
  | launchPoint
  /-- VAT_RESERVE (R175). A launch that has waited VAT_AGE_LIMIT launch points reserves its vats. -/
  | vatReserve (k : Fin 1024)
  /-- ROW_COUNT_CLEAR (R72). Every 2000 frames, all aggressor-table counts are cleared. -/
  | rowCountClear
  /-- URGENCY_LEVEL_RAISE (R69). A best-effort request's age crosses a fraction of its port's latency target and its urgency level rises. -/
  | urgencyLevelRaise (sl : Fin 44) (id : Nat)
  /-- WHEEL_BUCKET_RELEASE (R104). When a wheel bucket's slot begins, its held requests become eligible again. -/
  | wheelBucketRelease (sl : Fin 44)
  /-- WHEEL_OVERFLOW_SWEEP (R104). Every 256 slots, overflow entries that release within the next 1024 slots move into buckets. -/
  | wheelOverflowSweep (sl : Fin 44)
  /-- BE_REQUEST_ARRIVAL (R101). A best-effort request reaches a slice queue and gets its virtual finish tag. -/
  | beRequestArrival (sl : Fin 44) (r : BeSpec)
  /-- MEDIA_READ_RETURN (R119). Read data returns from the media and each code word is decoded as data or poison. -/
  | mediaReadReturn (rd : Reader) (dpa : BitVec 46) (err : SymErrors)
  /-- ESCALATION_GRANT (R133). A free escalation engine takes the next queued page, locks it and reads the page and its parity. -/
  | escalationGrant (errs : List (Nat × BitVec 16))
  /-- ESCALATION_DECODE_DONE (R130). Page decode ends, and the corrected word or poison is delivered to the reader. -/
  | escalationDecodeDone (e : Fin 8) (stallNs : Nat)
  /-- ESCALATION_WRITEBACK_DONE (R130). The corrected page is written back and the page is unlocked. -/
  | escalationWritebackDone (e : Fin 8)
  /-- PARITY_CACHE_WRITEBACK (R128). A dirty parity-cache line is written back within 64 frames of first becoming dirty. -/
  | parityCacheWriteback (line : Nat)
  /-- MERGE_HOLD_EXPIRE (R135). HOLD_WINDOW of an entry expires and the entry is released by read-modify-write. -/
  | mergeHoldExpire (line : BitVec 40)
  /-- MERGE_RMW_READ_DONE (R137). The read of a read-modify-write returns and the entry is merged and written, or discarded on poison. -/
  | mergeRmwReadDone (line : BitVec 40) (err : SymErrors)
  /-- SCRUB_READ_DONE (R140). A scrubber read returns; corrected lines are written back and uncorrectable ones are escalated or poisoned. -/
  | scrubReadDone (sl : Fin 44) (dpa : BitVec 46) (err : SymErrors)
  /-- SCRUB_LAP_LATE (R141). A scrubber lap runs past SCRUB_LAP_ALARM and a record is written. -/
  | scrubLapLate (tier : Tier)
  /-- SCRUB_ENABLE_WRITE (R144). A write of SCRUB_ENABLE stops the scrubber or resumes the current lap. -/
  | scrubEnableWrite (c : Client) (v : BitVec 8)
  /-- FLIP_ARM (R143). A write of ARM to a flip-mask control word arms the mask, or is rejected when misaligned or on the wrong tier. -/
  | flipArm (c : Client) (tier : Tier) (v : BitVec 64)
  /-- CA_PARITY_ALERT (R76). A command-address parity alert stops the channel, which clears the device and replays from its retry buffer. -/
  | caParityAlert (sl : Fin 44) (ch : Fin 8)
  /-- HBM_TEMP_SAMPLE (R64). An HBM stack sensor is sampled and tested against the refresh and emergency thresholds. -/
  | hbmTempSample (st : Fin 8) (r : Option Int)
  /-- DIMM_TEMP_SAMPLE (R64). A DIMM SPD hub sensor is read every 1 ms and tested against the refresh and emergency thresholds. -/
  | dimmTempSample (ch : Fin 12) (r : Option Int)
  /-- CORE_TEMP_SAMPLE (R486). Core-die diodes are sampled every 10 µs and tested for throttle, emergency and THERMTRIP_N. -/
  | coreTempSample (rs : List (Option Int))
  /-- HOST_MEM_READ (R36). A CXL.mem read is decoded, checked for rights and served, or answered with poison. -/
  | hostMemRead (p : Fin 4) (req : Fin 4096) (hpa : BitVec 64) (mv : MetaValue)
  /-- HOST_MEM_WRITE (R36). A CXL.mem write is decoded, checked for rights and written, or dropped. -/
  | hostMemWrite (p : Fin 4) (req : Fin 4096) (hpa : BitVec 64) (data : List (BitVec 8)) (mask : BitVec 64) (poison : Bool)
  /-- FM_API_GFD_DECODER (R35). A Fabric Manager API command programs a GFD decoder, or is rejected as Invalid Input. -/
  | fmApiGfdDecoder (d : Fin 64) (v : BitVec 256)
  /-- PARTITION_ACTIVATE (R32). ACTIVATE makes a STOPPED partition ACTIVE. -/
  | partitionActivate (c : Client) (t : Fin 256)
  /-- PARTITION_STOP (R32). STOP refuses new launches and poisons host reads until the tenant's running plans end. -/
  | partitionStop (c : Client) (t : Fin 256)
  /-- PARTITION_RELEASE (R434). RELEASE makes a STOPPED partition WASHING, resets its contexts and rotates its key. -/
  | partitionRelease (c : Client) (t : Fin 256)
  /-- PARTITION_ALLOCATE (R32). ALLOCATE checks BASE, SIZE and DB_SIZE and makes a FREE partition STOPPED. -/
  | partitionAllocate (c : Client) (t : Fin 256)
  /-- PARTITION_WASH_DONE (R434). The last wash write completes, WASH_DONE is sent to every chip and the partition becomes FREE. -/
  | partitionWashDone (t : Fin 256)
  /-- COPY_REQUEST (R79). A host writes a copy descriptor, which is checked and queued on a free channel or answered BUSY. -/
  | copyRequest (c : Client) (desc : BitVec 256)
  /-- COPY_LINE_POISON (R81). A copy's source line reads as poison and the channel halts before writing it. -/
  | copyLinePoison (n : Fin 16)
  /-- COPY_RESUME (R81). RESUME rereads the halted line and continues if it is no longer poisoned. -/
  | copyResume (c : Client) (n : Fin 16)
  /-- COPY_SKIP (R81). SKIP writes poison to the destination line and continues. -/
  | copySkip (c : Client) (n : Fin 16)
  /-- COPY_ABORT (R81). ABORT ends a halted copy with STATUS 2. -/
  | copyAbort (c : Client) (n : Fin 16)
  /-- COPY_COMPLETE (R82). A copy ends and its completion word is written last. -/
  | copyComplete (n : Fin 16)
  /-- GATE_WRITE (R88). A write of a gate entry is checked and placed in the pending table, or rejected. -/
  | gateWrite (c : Client) (sl : Fin 44) (e : Fin 16) (v : BitVec 64)
  /-- SHAPER_WRITE (R106). A shaper write sets the shaper's tokens, discards its wheel entries and retests heads. -/
  | shaperWrite (c : Client) (n : Fin 16) (v : BitVec 64)
  /-- MARKER_FLIT (R385). A MARKER flit gives a frame-offset sample, or answers or ends a delay probe. -/
  | markerFlit (p : Fin 4) (m : Marker)
  /-- FRAME_LOCK_ACQUIRED (R109). After 16 frames within ±8 ns, the joining chip may assert POOL_READY. -/
  | frameLockAcquired
  /-- FRAME_LOCK_LOST (R111). After 16 frames beyond ±40 ns, FRAME_LOCK becomes LOST and a record is written. -/
  | frameLockLost
  /-- FRAME_LOCK_RESTORED (R111). After 16 frames within ±40 ns, FRAME_LOCK returns to LOCKED. -/
  | frameLockRestored
  /-- MMA_CLEAR (R218). The matrix slot clears a bank and runs COUNT rank-1 updates. -/
  | mmaClear (v : Fin 34) (cyc : Nat)
  /-- MMA_ACC (R218). The matrix slot adds COUNT rank-1 updates to a bank. -/
  | mmaAcc (v : Fin 34) (cyc : Nat)
  /-- DRAIN (R218). A bank is delivered to the vector unit in 64 cycles. -/
  | drain (v : Fin 34) (cyc : Nat)
  /-- FADD (R219). Vector FP32 add. -/
  | fadd (v : Fin 34) (cyc : Nat)
  /-- FSUB (R219). Vector FP32 subtract. -/
  | fsub (v : Fin 34) (cyc : Nat)
  /-- FMUL (R219). Vector FP32 multiply. -/
  | fmul (v : Fin 34) (cyc : Nat)
  /-- FFMA (R219). Vector fused multiply-add, SRC1 × SRC2 + SRC3. -/
  | ffma (v : Fin 34) (cyc : Nat)
  /-- FMIN (R219). Vector FP32 minimum. -/
  | fmin (v : Fin 34) (cyc : Nat)
  /-- FMAX (R219). Vector FP32 maximum. -/
  | fmax (v : Fin 34) (cyc : Nat)
  /-- FCMPLT (R219). Vector less-than compare giving INT32 −1 or 0. -/
  | fcmplt (v : Fin 34) (cyc : Nat)
  /-- FCMPEQ (R219). Vector equality compare giving INT32 −1 or 0. -/
  | fcmpeq (v : Fin 34) (cyc : Nat)
  /-- SELECT (R219). Vector select of SRC1 or SRC2 by SRC3. -/
  | selectV (v : Fin 34) (cyc : Nat)
  /-- IADD (R219). Vector wrapping integer add. -/
  | iadd (v : Fin 34) (cyc : Nat)
  /-- ISUB (R219). Vector wrapping integer subtract. -/
  | isub (v : Fin 34) (cyc : Nat)
  /-- IMUL (R219). Vector wrapping integer multiply. -/
  | imul (v : Fin 34) (cyc : Nat)
  /-- AND (R219). Vector bitwise AND. -/
  | andV (v : Fin 34) (cyc : Nat)
  /-- OR (R219). Vector bitwise OR. -/
  | orV (v : Fin 34) (cyc : Nat)
  /-- XOR (R219). Vector bitwise XOR. -/
  | xorV (v : Fin 34) (cyc : Nat)
  /-- SHL (R219). Vector shift left by SRC2 mod 32. -/
  | shl (v : Fin 34) (cyc : Nat)
  /-- SHR (R219). Vector arithmetic shift right by SRC2 mod 32. -/
  | shr (v : Fin 34) (cyc : Nat)
  /-- MOV (R219). Vector move, with any named conversion. -/
  | mov (v : Fin 34) (cyc : Nat)
  /-- SEED (R199). The lane generators are loaded from SRC1, with 0 loaded as 1. -/
  | seed (v : Fin 34) (cyc : Nat)
  /-- BCAST (R219). Every lane takes SRC1 at the lane that lane 0 of SRC2 names. -/
  | bcast (v : Fin 34) (cyc : Nat)
  /-- EXP2 (R220). The exponential unit computes 256 values of 2^x. -/
  | exp2 (v : Fin 34) (cyc : Nat)
  /-- RMAX (R220). Segmented maximum reduction. -/
  | rmax (v : Fin 34) (cyc : Nat)
  /-- RMIN (R220). Segmented minimum reduction. -/
  | rmin (v : Fin 34) (cyc : Nat)
  /-- RSUM (R220). Segmented sum reduction in a fixed tree order. -/
  | rsum (v : Fin 34) (cyc : Nat)
  /-- STREAM_READ (R221). A READ tile command is queued on a read engine. -/
  | streamRead (v : Fin 34) (cyc : Nat)
  /-- STREAM_WRITE (R221). A WRITE tile command is queued on a write engine. -/
  | streamWrite (v : Fin 34) (cyc : Nat)
  /-- GATHER (R222). A GATHER tile command reads its row indices and is queued on a read engine. -/
  | gather (v : Fin 34) (cyc : Nat)
  /-- SCATTER (R222). A SCATTER tile command reads its row indices and is queued on a write engine. -/
  | scatter (v : Fin 34) (cyc : Nat)
  /-- LOOP (R227). A loop level starts with its index at 0. -/
  | loopV (v : Fin 34) (cyc : Nat)
  /-- ENDLOOP (R227). A loop level branches back or falls through. -/
  | endloop (v : Fin 34) (cyc : Nat)
  /-- BARRIER (R228). A vat waits at a vat barrier until all N vats arrive, and all continue 4 cycles after the last. -/
  | barrier (v : Fin 34) (cyc : Nat)
  /-- RING_BARRIER (R229). A vat arrives at a ring barrier and its arrival is sent to the partners. -/
  | ringBarrier (v : Fin 34) (cyc : Nat)
  /-- WAIT_FRAME (R231). A vat is held until the next frame boundary. -/
  | waitFrame (v : Fin 34) (cyc : Nat)
  /-- WAIT_LP (R231). A vat is held until the next launch point. -/
  | waitLp (v : Fin 34) (cyc : Nat)
  /-- PROBE (R232). A probe point is marked, and an enabled dump copies the tensor. -/
  | probe (v : Fin 34) (cyc : Nat)
  /-- STEP (R233). The step ends, state is snapshotted and counters are latched, and a pending fault stops the plan. -/
  | step (v : Fin 34) (cyc : Nat)
  /-- END (R242). A vat issues END for the invocation. -/
  | endV (v : Fin 34) (cyc : Nat)
  /-- TILE_START (R290). An engine starts its next tile with the whole-tile check; a failure flags tokens and moves nothing. -/
  | tileStart (v : Fin 34) (e : Fin 6)
  /-- TILE_COMPLETE (R157). A tile's last byte lands and its token is set, releasing waiting vats. -/
  | tileComplete (v : Fin 34) (e : Fin 6)
  /-- VAT_HANG (R163). A vat stalled beyond VAT_HANG_LIMIT is reset and its context faulted. -/
  | vatHang (v : Fin 34) (cyc : Nat)
  /-- TAKEOVER_DONE (R167). A takeover completes: the home switch and LOGICAL_MAP are updated and the old vat is released. -/
  | takeoverDone
  /-- ROTATION_DUE (R168). A rotation position falls due every ROTATION_PERIOD. -/
  | rotationDue
  /-- ROTATION_WAIT_EXPIRE (R169). A rotation that has not started ROTATION_WAIT after its due time holds launches that need the vat. -/
  | rotationWaitExpire
  /-- VAT_WASH_DONE (R178). A vat wash ends and the vat takes its new owner or becomes clean. -/
  | vatWashDone (v : Fin 34) (ns : Nat)
  /-- VAT_TEST_SLICE_DONE (R524). A vat test slice ends, and the vat becomes the rotating spare or is marked failed. -/
  | vatTestSliceDone (v : Fin 34) (pass : Bool) (sig : BitVec 2048)
  /-- ROTATION_ENABLE_WRITE (R182). A write of ROTATION_ENABLE stops rotation or restarts due times from that moment. -/
  | rotationEnableWrite (c : Client) (v : BitVec 8)
  /-- CONTEXT_ENABLE (R208). ENABLE checks the context entry and enables the context with fresh sequence counters. -/
  | contextEnable (c : Client)
  /-- CONTEXT_DISABLE (R208). DISABLE stops pick-up and ends residency after the running invocation. -/
  | contextDisable (c : Client)
  /-- CONTEXT_RESUME (R251). RESUME restores the step snapshot and restarts the faulted step. -/
  | contextResume (c : Client)
  /-- CONTEXT_ABORT (R208). ABORT ends the invocation with STATUS ABORTED and releases the vats. -/
  | contextAbort (c : Client)
  /-- CONTEXT_RESET (R208). RESET stops the plan at once, washes its vats and disables the context. -/
  | contextReset (c : Client)
  /-- INVOCATION_END (R242). Every vat has issued END and every write tile has set its token; the invocation ends. -/
  | invocationEnd (k : Fin 1024)
  /-- RING_BARRIER_RELEASE (R229). A ring barrier's compiled allowance expires and the vat continues if every partner has arrived. -/
  | ringBarrierRelease (v : Fin 34) (cyc : Nat)
  /-- BARRIER_TIMEOUT (R230). A ring barrier not released within RING_BARRIER_LIMIT traps the context. -/
  | barrierTimeout (k : Fin 1024)
  /-- PIN_FETCH_DONE (R287). A mirror walk ends and installs a locked pin, sends an ATS request, or pins the page ABSENT. -/
  | pinFetchDone (k : Fin 1024) (va : BitVec 56)
  /-- ATS_COMPLETION (R294). A Translation Completion is decoded into a DPA and installed in the L2 TLB. -/
  | atsCompletion (k : Fin 1024) (va : BitVec 56) (a : AtsResult)
  /-- ATS_TIMEOUT (R294). No Translation Completion arrives within ATS_TIMEOUT, giving ATS_ERROR. -/
  | atsTimeout (k : Fin 1024) (va : BitVec 56)
  /-- ATS_INVALIDATION_REQUEST (R295). An ATS Invalidation Request hits the matching TLB entries and pins. -/
  | atsInvalidationRequest (p : Fin 4) (ld : Fin 16) (q : AtsInvalidation)
  /-- INVALIDATE (R299). A write of INVALIDATE invalidates pages of the selected context. -/
  | invalidate (c : Client) (va : BitVec 64) (len : BitVec 64)
  /-- RDS (R311). The home agent serves a shared read by the directory state. -/
  | rds (a : Agent) (line : BitVec 40)
  /-- RDO (R311). The home agent serves an ownership read, invalidating other holders. -/
  | rdo (a : Agent) (line : BitVec 40)
  /-- RDC (R311). The home agent serves a non-caching read. -/
  | rdc (a : Agent) (line : BitVec 40)
  /-- WRF (R311). The home agent serves a full-line write, invalidating every holder. -/
  | wrf (a : Agent) (line : BitVec 40) (data : List (BitVec 8))
  /-- EVICT (R312). A holder's writeback or clean eviction removes it from the directory entry. -/
  | evict (a : Agent) (line : BitVec 40) (data : Option (List (BitVec 8)))
  /-- SNOOP_RESPONSE (R314). A snoop or invalidation response is accepted, and the entry closes when all have arrived. -/
  | snoopResponse (a : Agent) (line : BitVec 40) (data : Option (List (BitVec 8)))
  /-- BICONFLICT (R320). A host BIConflict is answered with BIConflictAck after the host's earlier responses. -/
  | biconflict (r : Fin 4096) (line : BitVec 40)
  /-- HOLD_TIME_EXPIRE (R317). HOLD_TIME after an M grant elapses and a waiting request may snoop the line. -/
  | holdTimeExpire (line : BitVec 40)
  /-- BI_TIMEOUT (R325). A BISnp unanswered after BI_TIMEOUT declares the snooped requester dead. -/
  | biTimeout (r : Fin 4096) (line : BitVec 40)
  /-- REQUESTER_GONE (R325). The fabric manager declares a requester dead. -/
  | requesterGone (c : Client) (r : BitVec 16)
  /-- REQUESTER_REVIVE (R327). A dead requester is revived, unless a sweep is active. -/
  | requesterRevive (c : Client) (r : BitVec 16)
  /-- DIRECTORY_SWEEP_DONE (R326). The death sweep of the directory ends and ordered mode for recovery ends. -/
  | directorySweepDone
  /-- DIRECTORY_UE (R328). An uncorrectable directory entry is recovered by invalidating every possible holder. -/
  | directoryUe (line : BitVec 40)
  /-- CAS (R322). Atomic compare-and-swap descriptor runs near or far. -/
  | cas (a : Agent) (t : Fin 256) (i : Fin 64) (desc : BitVec 512)
  /-- FETCH_ADD (R322). Atomic fetch-and-add descriptor runs. -/
  | fetchAdd (a : Agent) (t : Fin 256) (i : Fin 64) (desc : BitVec 512)
  /-- SWAP (R322). Atomic swap descriptor runs. -/
  | swap (a : Agent) (t : Fin 256) (i : Fin 64) (desc : BitVec 512)
  /-- FETCH_AND (R322). Atomic fetch-and-AND descriptor runs. -/
  | fetchAnd (a : Agent) (t : Fin 256) (i : Fin 64) (desc : BitVec 512)
  /-- FETCH_OR (R322). Atomic fetch-and-OR descriptor runs. -/
  | fetchOr (a : Agent) (t : Fin 256) (i : Fin 64) (desc : BitVec 512)
  /-- FETCH_MAX (R322). Atomic unsigned fetch-and-max descriptor runs. -/
  | fetchMax (a : Agent) (t : Fin 256) (i : Fin 64) (desc : BitVec 512)
  /-- REGION_ENABLE (R333). ENABLE checks a shared region and enables it with the stored mordant record. -/
  | regionEnable (c : Client) (r : Fin 256)
  /-- REGION_ENABLE_FRESH (R333). ENABLE_FRESH writes an all-zero mordant record and enables the region. -/
  | regionEnableFresh (c : Client) (r : Fin 256)
  /-- REGION_DISABLE (R333). DISABLE makes later publish descriptors fail with DISABLED. -/
  | regionDisable (c : Client) (r : Fin 256)
  /-- PUBLISH_DESCRIPTOR (R338). A publish descriptor runs as a far compare-and-swap on the mordant record. -/
  | publishDescriptor (who : BitVec 16) (r : Fin 256) (bank : Fin 4) (desc : BitVec 512)
  /-- MIGRATION_ROUND_DONE (R347). A copy round of a move ends; dirty pages are recopied or the move is abandoned. -/
  | migrationRoundDone (n : Fin 16)
  /-- MIGRATION_FINAL_PASS_DONE (R347). The final pass ends, the entry is MAPPED on the destination and held writes are released. -/
  | migrationFinalPassDone (n : Fin 16)
  /-- MIGRATION_ZERO_FILL_DONE (R347). The vacated media is zero-filled and mapped to the unowned DPA extent. -/
  | migrationZeroFillDone (n : Fin 16)
  /-- MIGRATION_BACKOFF_EXPIRE (R347). An abandoned extent is retried after MIGRATION_BACKOFF frames. -/
  | migrationBackoffExpire (extent : Fin 1835008)
  /-- PORT_LINK_UP (R352). A host port's link trains and CXL.mem is enabled, or the port stays CXL.io only. -/
  | portLinkUp (p : Fin 4) (rate width : Nat) (flit256 : Bool)
  /-- PORT_LINK_DOWN (R376). A host port's link goes down and its outstanding transactions are completed internally. -/
  | portLinkDown (p : Fin 4)
  /-- PERST_N (R375). A recognised PERST_N resets one host port. -/
  | perstN (p : Fin 4) (low : Bool)
  /-- HOT_RESET (R375). A Hot Reset from the switch resets one host port. -/
  | hotReset (p : Fin 4)
  /-- FLR (R375). A Function Level Reset clears one function. -/
  | flr (f : Fin 68)
  /-- CXL_RESET (R375). A CXL Reset clears one function without clearing memory. -/
  | cxlReset (f : Fin 68)
  /-- IDENTIFY_MEMORY_DEVICE (R359). The mailbox returns the memory-device identity. -/
  | identifyMemoryDevice (f : Fin 68)
  /-- GET_SUPPORTED_LOGS (R359). The mailbox returns the supported logs. -/
  | getSupportedLogs (f : Fin 68)
  /-- GET_LOG (R359). The mailbox returns the CEL. -/
  | getLog (f : Fin 68)
  /-- GET_HEALTH_INFO (R359). The mailbox returns health information. -/
  | getHealthInfo (f : Fin 68)
  /-- GET_POISON_LIST (R359). The mailbox returns up to 256 poisoned lines in the function's range. -/
  | getPoisonList (f : Fin 68)
  /-- CLEAR_POISON (R359). The mailbox writes the given data as a full-line write. -/
  | clearPoison (f : Fin 68) (dpa : BitVec 46) (data : List (BitVec 8))
  /-- UNSUPPORTED_MAILBOX_COMMAND (R359). Any other mailbox command returns Unsupported. -/
  | unsupportedMailboxCommand (f : Fin 68) (op : BitVec 16)
  /-- DOE_DISCOVERY (R360). DOE discovery lists the mailbox protocols. -/
  | doeDiscovery (f : Fin 68) (idx : Nat)
  /-- CDAT_READ (R361). CDAT table access returns the DSMAS, DSLBIS and DSEMTS entries. -/
  | cdatRead (f : Fin 68) (entry : Nat)
  /-- IDE_KM (R360). IDE_KM within a secured session sets a port's IDE keys. -/
  | ideKm (f : Fin 68) (session : Nat) (key : BitVec 256)
  /-- GET_VERSION (R423). SPDM GET_VERSION is answered. -/
  | getVersion (r : SpdmPath)
  /-- GET_CAPABILITIES (R423). SPDM GET_CAPABILITIES is answered. -/
  | getCapabilities (r : SpdmPath)
  /-- NEGOTIATE_ALGORITHMS (R423). SPDM algorithms are negotiated: P-521, SHA-512, AES-256-GCM. -/
  | negotiateAlgorithms (r : SpdmPath) (q : SpdmAlgorithms)
  /-- GET_DIGESTS (R423). SPDM certificate digests are returned. -/
  | getDigests (r : SpdmPath)
  /-- GET_CERTIFICATE (R423). An SPDM certificate chain is returned. -/
  | getCertificate (r : SpdmPath) (slot : Fin 2)
  /-- CHALLENGE (R423). An SPDM challenge is signed with the alias key. -/
  | challenge (r : SpdmPath) (nonce : BitVec 256)
  /-- GET_MEASUREMENTS (R423). SPDM measurement blocks 1–5 are returned. -/
  | getMeasurements (r : SpdmPath) (index : Nat)
  /-- KEY_EXCHANGE (R423). An SPDM ECDHE key exchange opens a session. -/
  | keyExchange (r : SpdmPath) (session : Nat)
  /-- FINISH (R423). SPDM FINISH completes session establishment. -/
  | finish (r : SpdmPath) (session : Nat)
  /-- HEARTBEAT (R423). An SPDM session heartbeat is answered. -/
  | heartbeat (r : SpdmPath) (session : Nat)
  /-- KEY_UPDATE (R423). SPDM session keys are updated. -/
  | keyUpdate (r : SpdmPath) (session : Nat)
  /-- END_SESSION (R423). An SPDM session ends and the glaze keys it installed are withdrawn. -/
  | endSession (r : SpdmPath) (session : Nat)
  /-- GET_CSR (R423). A certificate signing request for the DeviceID key is returned. -/
  | getCsr (r : SpdmPath)
  /-- SET_CERTIFICATE (R422). A certificate chain is installed in the slot that the life-cycle state allows. -/
  | setCertificate (r : SpdmPath) (slot : Fin 2) (chain : List (BitVec 8))
  /-- GLAZE_KEY_INSTALL (R363). GLAZE_KEY installs a window key and resets its sequence numbers. -/
  | glazeKeyInstall (f : Fin 68) (session : Nat) (w : Fin 64) (key : BitVec 256)
  /-- GLAZE_KEY_WITHDRAW (R363). GLAZE_KEY withdraws a window key. -/
  | glazeKeyWithdraw (f : Fin 68) (session : Nat) (w : Fin 64)
  /-- RING_KEY_INSTALL (R431). RING_KEY installs the ring key, or is refused when a different key is set. -/
  | ringKeyInstall (r : SpdmPath) (session : Nat) (key : BitVec 512)
  /-- GLAZE_WRITE (R365). An IN WRITE packet is checked and its payload decrypted into tenant memory. -/
  | glazeWrite (w : Fin 64)
  /-- GLAZE_READ (R365). An IN READ packet seals tenant bytes into an OUT DATA packet. -/
  | glazeRead (w : Fin 64)
  /-- GLAZE_OUT_ROOM (R365). OUT ring space frees and the engine resumes the waiting IN packet. -/
  | glazeOutRoom (w : Fin 64)
  /-- REQ_DOORBELL (R368). A doorbell write submits the window's request message, or sets DOORBELL_OVERRUN. -/
  | reqDoorbell (w : Fin 68) (seq : BitVec 32)
  /-- VERSION_ACK (R370). A write of the new interface version re-opens a window after a version change. -/
  | versionAck (w : Fin 68) (v : BitVec 32)
  /-- BOOT_GO (R373). BOOT_GO starts the signature check of the image in the boot aperture. -/
  | bootGo (v : BitVec 32)
  /-- FIRMWARE_CHECK_DONE (R425). The image check ends with RUNNING or REJECTED with a REASON. -/
  | firmwareCheckDone
  /-- DATA_FLIT (R387). A DATA flit is accepted, discarded as a copy, or triggers a REPLAY_REQ. -/
  | dataFlit (p : Fin 4) (h : FlitHeader) (packets : List (BitVec 128 × List (BitVec 8)))
  /-- IDLE_FLIT (R383). An IDLE flit delivers its acknowledgement and credit fields. -/
  | idleFlit (p : Fin 4) (h : FlitHeader)
  /-- ACK_CREDIT (R391). An ACK_CREDIT flit updates the cumulative credit counters. -/
  | ackCredit (p : Fin 4) (h : FlitHeader) (credits : BitVec 80)
  /-- REPLAY_REQ (R389). A REPLAY_REQ makes the sender resend buffered flits, or is fatal to the link. -/
  | replayReq (p : Fin 4) (h : FlitHeader) (from_ : BitVec 12)
  /-- RETRAIN_REQ (R402). A RETRAIN_REQ is answered, or crossing requests are resolved, and the link enters RETRAIN. -/
  | retrainReq (p : Fin 4) (width : BitVec 2) (coord : BitVec 6)
  /-- INIT (R379). An INIT flit's position, port, sizes and class are checked against the wiring. -/
  | initFlit (p : Fin 4) (i : InitFlit)
  /-- ACK_TIMER (R388). 200 ns after the oldest unacknowledged flit, an acknowledgement is sent. -/
  | ackTimer (p : Fin 4)
  /-- REPLAY_REQ_RESEND (R389). If E has not advanced 1 µs after a REPLAY_REQ, it is sent again. -/
  | replayReqResend (p : Fin 4)
  /-- RETRAIN_REQ_REPEAT (R402). An unanswered RETRAIN_REQ is repeated every 2 µs. -/
  | retrainReqRepeat (p : Fin 4)
  /-- CREDIT_REFRESH (R391). All five credit counters are returned at least once per 1 µs. -/
  | creditRefresh (p : Fin 4)
  /-- PMD_TRAINING_DONE (R400). PMD training ends at width 16, 8 or 4 and the link moves to ALIGNING. -/
  | pmdTrainingDone (p : Fin 4) (lanes : Nat)
  /-- TRAINING_FAILED (R400). A third training failure takes the link to DOWN. -/
  | trainingFailed (p : Fin 4)
  /-- TRAINING_RETRY (R400). A DOWN link is retried every 1 s. -/
  | trainingRetry (p : Fin 4)
  /-- ALIGNMENT_DONE (R400). Code-word lock and deskew complete and the link moves to INIT. -/
  | alignmentDone (p : Fin 4)
  /-- ALIGNMENT_TIMEOUT (R400). Alignment times out and the link returns to TRAINING. -/
  | alignmentTimeout (p : Fin 4)
  /-- LINK_INIT_DONE (R400). INIT exchange, credit reset, probes and replay complete and the link becomes ACTIVE. -/
  | linkInitDone (p : Fin 4) (delayPs : Nat)
  /-- LOSS_OF_SIGNAL (R400). Loss of signal or lock takes an ACTIVE link to TRAINING. -/
  | lossOfSignal (p : Fin 4)
  /-- RETRAIN_DONE (R401). Recalibration completes at the agreed width and the link moves to INIT. -/
  | retrainDone (p : Fin 4)
  /-- RETRAIN_TIMEOUT (R400). A retrain times out and the link moves to TRAINING. -/
  | retrainTimeout (p : Fin 4)
  /-- RETRAIN (R400). LINK_COMMAND RETRAIN starts a plain retrain. -/
  | retrain (c : Client) (p : Fin 4)
  /-- WIDTH_16 (R401). LINK_COMMAND WIDTH_16 retrains the link up to 16 lanes through TRAINING. -/
  | width16 (c : Client) (p : Fin 4)
  /-- WIDTH_8 (R401). LINK_COMMAND WIDTH_8 narrows the link through RETRAIN. -/
  | width8 (c : Client) (p : Fin 4)
  /-- WIDTH_4 (R401). LINK_COMMAND WIDTH_4 narrows the link through RETRAIN. -/
  | width4 (c : Client) (p : Fin 4)
  /-- DOWN (R400). LINK_COMMAND DOWN takes the link to DOWN. -/
  | down (c : Client) (p : Fin 4)
  /-- UP (R400). LINK_COMMAND UP starts training of a DOWN link. -/
  | up (c : Client) (p : Fin 4)
  /-- RD (R393). A pool read request is checked at its target and answered with RD_DATA. -/
  | rd (h : BitVec 128)
  /-- RD_DATA (R393). A read response reaches its requester. -/
  | rdData (h : BitVec 128) (data : List (BitVec 8))
  /-- WR (R393). A pool full-line write is checked at its target and acknowledged. -/
  | wr (h : BitVec 128) (data : List (BitVec 8))
  /-- WR_ACK (R393). A write acknowledgement reaches its requester. -/
  | wrAck (h : BitVec 128)
  /-- DELTA (R407). A parity holder applies a line's parity change, or poisons its parity line. -/
  | delta (h : BitVec 128) (data : List (BitVec 8))
  /-- CHUNK (R411). A rebuild chain member adds its scaled chunk and forwards it, or the target writes the sum. -/
  | chunk (h : BitVec 128) (data : List (BitVec 8))
  /-- RING_BARRIER_ARRIVAL (R229). A partner's ring-barrier arrival is received. -/
  | ringBarrierArrival (h : BitVec 128) (b : RingArrival)
  /-- NOTICE (R230). A partner fault notice traps plans waiting at barriers of that invocation. -/
  | notice (h : BitVec 128) (b : RingArrival)
  /-- DIGEST (R543). A remote fault report or batched count is entered into the origin's aggregation table. -/
  | digest (h : BitVec 128) (r : BitVec 512)
  /-- WASH_DONE (R435). A wash-completion packet discards retained TLB entries of the named tenant on the sender. -/
  | washDone (h : BitVec 128) (payload : BitVec 128)
  /-- POOL_REQUEST_TIMEOUT (R394). A pool request unanswered after POOL_REQUEST_TIMEOUT is taken as poison or a failed write. -/
  | poolRequestTimeout (tag : BitVec 16)
  /-- ROUTE_TABLE_WRITE (R398). A routing table is written, or rejected while packets of its epoch are in flight. -/
  | routeTableWrite (c : Client) (tbl : Fin 2) (v : BitVec 512)
  /-- ACTIVE_EPOCH_WRITE (R397). ACTIVE_EPOCH switches the routing table for injected packets; partners no longer present are lost. -/
  | activeEpochWrite (c : Client) (v : BitVec 8)
  /-- CONGESTION_SAMPLE (R399). Every 64 ns, receive-buffer occupancy is binned. -/
  | congestionSample (p : Fin 4)
  /-- CONGESTION_MAP_READ (R399). A read of CONGESTION_MAP returns the bins and clears them. -/
  | congestionMapRead (c : Client) (p : Fin 4)
  /-- REBUILD_START (R410). START begins a rebuild of the lost coordinate at MAP. -/
  | rebuildStart (c : Client) (lost lost2 : BitVec 8)
  /-- REBUILD_ABORT (R410). ABORT returns the rebuild engine to IDLE and clears the journal. -/
  | rebuildAbort (c : Client)
  /-- REBUILD_MAP_DONE (R410). The map copy is rebuilt and loaded, and the rebuild moves to COPY. -/
  | rebuildMapDone
  /-- REBUILD_EXTENT_COMMIT (R413). An extent is committed in the journal; after the last one the rebuild is READY. -/
  | rebuildExtentCommit (slot : Fin 8)
  /-- REBUILD_POISONING_DONE (R410). Uncommitted extents have been written as poison; the rebuild is READY with REBUILD_FAILED. -/
  | rebuildPoisoningDone (n : Nat)
  /-- LC_TRANSITION (R418). A life-cycle token is checked and the fuses are burnt, or it is refused. -/
  | lcTransition (c : Client) (token : BitVec 1184)
  /-- SVN_COMMIT (R426). A write raises MIN_SVN, or is refused. -/
  | svnCommit (c : Client) (n : BitVec 8)
  /-- ENTROPY_RETRY (R429). After an entropy health-test failure, key generation is retried every 1 ms. -/
  | entropyRetry (ok : Bool)
  /-- DEBUG_REQUEST (R420). A test-port debug request causes a WARM_LOST chip reset. -/
  | debugRequest
  /-- OD_READ (R445). An object dictionary READ returns a value or a latched segment. -/
  | odRead (c : Client) (h : BitVec 128)
  /-- OD_WRITE (R445). An object dictionary WRITE stages or applies a value of an entry without a row of its own. -/
  | odWrite (c : Client) (h : BitVec 128) (data : List (BitVec 8))
  /-- DOWNLOAD (R453). DOWNLOAD writes image bytes into the image area over the field network. -/
  | download (c : Client) (h : BitVec 128) (data : List (BitVec 8))
  /-- DOWNLOAD_GO (R453). DOWNLOAD_GO sets the image length and starts the check. -/
  | downloadGo (c : Client) (h : BitVec 128)
  /-- SEGMENT_LATCH_EXPIRE (R445). A segmented read latch expires 10 ms after the last read. -/
  | segmentLatchExpire (c : Client)
  /-- OPTION_WRITE (R457). A write of OPTION_WRITE is checked and the option record is stored. -/
  | optionWrite (c : Client) (v : BitVec 2048)
  /-- OPTION_WRITE_DONE (R457). The commit word is programmed and OPTION_STATE becomes written. -/
  | optionWriteDone
  /-- NEIGHBOR_DISCOVERY (R451). IPv6 Neighbor Discovery on the field network is answered. -/
  | neighborDiscovery (target : BitVec 128)
  /-- ICMPV6_ECHO (R451). An ICMPv6 Echo is answered. -/
  | icmpv6Echo (data : List (BitVec 8))
  /-- DISCOVERY_REPLY (R451). After a random delay, a multicast READ of index 0x1000 is answered. -/
  | discoveryReply (c : Client) (h : BitVec 128)
  /-- ENTDAA (R452). The I3C target takes a dynamic address by ENTDAA. -/
  | entdaa (addr : BitVec 7)
  /-- SETDASA (R452). The I3C target takes a dynamic address from its static address. -/
  | setdasa (static addr : BitVec 7)
  /-- COMPLEX_HEARTBEAT (R461). A complex's trusted part sends a heartbeat to the arbiter. -/
  | complexHeartbeat (x : Cx)
  /-- HEARTBEAT_MISSED (R461). A fifth consecutive missed heartbeat declares the complex failed and starts a fail-over or a chip reset. -/
  | heartbeatMissed (x : Cx)
  /-- COMPLEX_PANIC (R461). A trusted part reports a panic, SRAM UE or PLL failure, and its complex is declared failed. -/
  | complexPanic (x : Cx) (pll : Bool)
  /-- WATCHDOG_EXPIRE (R461). A complex's watchdog expires and the complex is declared failed. -/
  | watchdogExpire (x : Cx)
  /-- FAILOVER_SERVICE_OPEN (R465). The new active has replayed the journal and applied queued window writes; the gap ends. -/
  | failoverServiceOpen (gapNs : Nat)
  /-- CRASH_RECORD_DONE (R464). A failed complex's crash record is written and the complex boots again or is held. -/
  | crashRecordDone (x : Cx)
  /-- COMPLEX_BOOT_DONE (R463). A booting complex's image is checked and its service part starts, or it fails. -/
  | complexBootDone (x : Cx)
  /-- COMPLEX_SYNCED (R463). A resyncing complex's replay is synced and it becomes STANDBY. -/
  | complexSynced (x : Cx)
  /-- REVERT_DELAY_EXPIRE (R468). In classes S and M, a complex that lost control by failure takes it back by a planned switch-over. -/
  | revertDelayExpire
  /-- COMPLEX_RESTART (R463). COMPLEX_COMMAND RESTART boots a HELD complex. -/
  | complexRestart (c : Client) (x : BitVec 8)
  /-- SWITCHOVER (R465). COMPLEX_COMMAND SWITCHOVER starts a planned switch-over. -/
  | switchover (c : Client) (x : BitVec 8)
  /-- FW_LOAD (R469). LOAD boots the staged image in the standby. -/
  | fwLoad (c : Client)
  /-- FW_ACTIVATE (R469). ACTIVATE switches over to the staged image, or is deferred during an emergency. -/
  | fwActivate (c : Client)
  /-- FW_CANCEL (R469). CANCEL boots the running image in the standby again. -/
  | fwCancel (c : Client)
  /-- FW_STAGE (R472). A 1 MiB window of the new image is written into the staging area. -/
  | fwStage (c : Client) (data : List (BitVec 8))
  /-- SWITCHOVER_DEFERRAL_EXPIRE (R470). 1 s after an emergency clears, a deferred switch-over runs by itself. -/
  | switchoverDeferralExpire
  /-- BUS_SAMPLE (R474). The SID samples bus voltage and current every 10 µs and tests supply events. -/
  | busSample (r : Option (Nat × Int))
  /-- BROWN_OUT (R475). Bus below 34 V for 20 µs turns the gate off. -/
  | brownOut
  /-- OVERVOLTAGE (R475). Bus above 58 V for 1 ms turns the gate off. -/
  | overvoltage
  /-- FAST_OVERCURRENT (R475). Current above 1.5 × limit for 1 µs latches the gate off. -/
  | fastOvercurrent
  /-- TIMED_OVERCURRENT (R475). Current above the limit for 1 ms latches the gate off. -/
  | timedOvercurrent
  /-- THERMAL_TRIP (R489). THERMTRIP_N is asserted and latches the gate off. -/
  | thermalTrip
  /-- GATE_ON (R475). After 10 ms of good bus voltage, the gate turns on and the chip starts with a cold reset. -/
  | gateOn
  /-- AVS_MEASUREMENT (R479). Every 100 ms the AVS target is measured and written to the regulator when it changed. -/
  | avsMeasurement (targets : List Nat)
  /-- REGULATOR_SETTLED (R480). The regulator reports settled and an upward step is applied at the next frame boundary. -/
  | regulatorSettled
  /-- REGULATOR_SLOW (R480). The regulator is not settled within 100 µs, and the raise is abandoned. -/
  | regulatorSlow (us : Nat)
  /-- REGULATOR_TELEMETRY_SAMPLE (R481). Regulator telemetry is sampled, and VDD_CORE is tested for running test slices. -/
  | regulatorTelemetrySample (rail : Fin 5) (mv : Option Nat)
  /-- REGULATOR_WARNING (R486). A regulator overcurrent or overtemperature warning starts a power emergency. -/
  | regulatorWarning (rail : Fin 5) (on : Bool)
  /-- TACH_SAMPLE (R481). Fan and pump tachometers are sampled every 100 ms. -/
  | tachSample (i : Fin 4) (rpm : Option Nat)
  /-- POWER_LOOP_RUN (R482). Every 8 frames the power loop chooses a throttle step against POWER_CAP. -/
  | powerLoopRun (dynMw : Nat)
  /-- THERMAL_LOOP_RUN (R483). Every 1 ms the thermal loop sets PWM duties and its throttle request. -/
  | thermalLoopRun
  /-- THERMAL_STEP_LOWER (R483). Every 10 ms at or above THROTTLE_TEMP, the thermal request drops one step. -/
  | thermalStepLower
  /-- EMERGENCY_CLEAR (R487). After 10 ms with every condition false, the emergency clears and the clamp withdraws. -/
  | emergencyClear
  /-- EMERGENCY_HOLD_EXPIRE (R487). 1 s after clearing, EMERGENCY is reset. -/
  | emergencyHoldExpire
  /-- THROTTLE_N_ASSERT (R488). THROTTLE_N held low by another device for 1 µs requests THROTTLE_PIN_STEP. -/
  | throttleNAssert
  /-- THROTTLE_N_RELEASE (R488). 1 µs after THROTTLE_N is released, its request ends. -/
  | throttleNRelease
  /-- POWER_ON_RESET (R492). VDD_CORE or VDD_PHY rising from below 0.40 V starts a cold reset. -/
  | powerOnReset
  /-- PRST_N_ASSERT (R494). A recognised PRST_N pulse starts a warm reset or ends a gate-off latch. -/
  | prstNAssert
  /-- PRST_N_RELEASE (R494). PRST_N returns high and the bring-up machine proceeds. -/
  | prstNRelease
  /-- RESET_CHIP (R506). A software chip-scope reset starts WARM_HELD or WARM_LOST by HOLD. -/
  | resetChip (c : Client) (hold : Bool)
  /-- RESET_TENANT (R506). A software tenant reset resets the tenant's contexts, copies and moves. -/
  | resetTenant (c : Client) (t : Fin 256)
  /-- RESET_CONTEXT (R506). A software context reset acts as RESET. -/
  | resetContext (c : Client) (k : Fin 1024)
  /-- RESET_VAT (R506). A software vat reset isolates, resets and washes one physical vat. -/
  | resetVat (c : Client) (v : Fin 34)
  /-- RESET_HOST_PORT (R506). A software host-port reset acts as PERST_N. -/
  | resetHostPort (c : Client) (p : Fin 4)
  /-- RESET_POOL_LINK (R506). A software pool-link reset takes the link to TRAINING and discards sequence state. -/
  | resetPoolLink (c : Client) (p : Fin 4)
  /-- BLOCK_RESET_RELEASE (R496). An isolated block is released from reset and its isolation is lifted. -/
  | blockResetRelease (b : Block)
  /-- CROSSBAR_DEADLOCK (R492). No crossbar credit returned for 10 ms resets the chip as PRST_N does. -/
  | crossbarDeadlock
  /-- WARM_ENTRY_DONE (R497). Every slice is in self-refresh and the WARM_HELD reset asserts. -/
  | warmEntryDone
  /-- WARM_ENTRY_TIMEOUT (R498). An entry step misses its bound and the reset falls back to WARM_LOST. -/
  | warmEntryTimeout
  /-- OPTIONS_READ_DONE (R456). The option record is read and the machine moves to PLL. -/
  | optionsReadDone
  /-- PLL_LOCKED (R499). All core PLLs lock and the machine moves to training or verify. -/
  | pllLocked
  /-- PLL_LOCK_TIMEOUT (R499). No lock within 10 ms stops the machine. -/
  | pllLockTimeout
  /-- HBM_TRAINING_DONE (R60). HBM training ends at a rate, with a rate step-down, or with a stop. -/
  | hbmTrainingDone (r : HbmTraining)
  /-- DDR_TRAINING_DONE (R61). Every present DDR channel is trained or left absent; the tier map is built. -/
  | ddrTrainingDone (r : List DdrTraining)
  /-- HBM_FILL_DONE (R500). The HBM zero fill ends. -/
  | hbmFillDone
  /-- VERIFY_DONE (R62). The warm verify pass passes or fails and the machine proceeds. -/
  | verifyDone (failing : Option Nat)
  /-- FILL_DONE (R500). Both tiers are filled and the control complexes are released into boot form. -/
  | fillDone
  /-- SERVICE_STATE_LOADED (R499). The image runs and service state is loaded; the machine enters ACTIVE and Memory_Active is set. -/
  | serviceStateLoaded
  /-- CLOCK_MONITOR_WINDOW (R514). A 10 µs monitor window ends and a clock off frequency in two windows is declared failed. -/
  | clockMonitorWindow (k : Clock) (ppm : Int)
  /-- CLOCK_NO_EDGE (R514). No edge for 1 µs declares a clock failed. -/
  | clockNoEdge (k : Clock)
  /-- PLL_LOSS_OF_LOCK (R514). A PLL reports loss of lock and its failure action is taken. -/
  | pllLossOfLock (k : Clock)
  /-- CLOCK_RESTORED (R514). A failed clock has been good for its required time and is restored. -/
  | clockRestored (k : Clock) (us : Nat)
  /-- TIME_BASE_SYNC (R516). Every 1 ms the core copy of the time base is compared with the SID. -/
  | timeBaseSync (sid : BitVec 64)
  /-- PATTERN_DUE (R529). A controller or crossbar pattern slice falls due every PATTERN_INTERVAL. -/
  | patternDue
  /-- PATTERN_SLICE_DONE (R528). A pattern slice's MISR is compared, and a second failure makes the slice fatal. -/
  | patternSliceDone (sl : Fin 44) (pass : Bool) (misr : BitVec 128)
  /-- TEST_VAT (R529). TEST_COMMAND starts a vat slice on demand. -/
  | testVat (c : Client) (v : BitVec 8)
  /-- TEST_CONTROLLER (R529). TEST_COMMAND starts a controller slice on demand. -/
  | testController (c : Client) (sl : BitVec 8)
  /-- TEST_CROSSBAR (R529). TEST_COMMAND starts a crossbar slice on demand. -/
  | testCrossbar (c : Client) (sl : BitVec 8)
  /-- IDCODE (R530). The TAP selects the IDCODE register. -/
  | idcode
  /-- SAMPLE_PRELOAD (R530). The TAP samples or preloads the boundary register. -/
  | samplePreload (pins : Nat)
  /-- EXTEST (R531). EXTEST is taken only while PRST_N is low and makes the reset WARM_LOST. -/
  | extest
  /-- CLAMP (R531). CLAMP is taken only while PRST_N is low and makes the reset WARM_LOST. -/
  | clamp
  /-- HIGHZ (R531). HIGHZ is taken only while PRST_N is low and makes the reset WARM_LOST. -/
  | highz
  /-- PRIVATE_INSTRUCTION (R531). A private TAP instruction acts only in BLANK, MANUFACTURE and RMA. -/
  | privateInstruction (code : BitVec 4)
  /-- BYPASS (R530). The TAP selects the bypass register. -/
  | bypass
  /-- LIGHT_COUNTERS_READ (R532). A read latches all 175 light counters in one cycle. -/
  | lightCountersRead (c : Client)
  /-- DUMP_REQUEST (R535). A dump request write is checked and takes effect at the next invocation. -/
  | dumpRequest (c : Client) (n : Fin 8) (v : BitVec 256)
  /-- AGGREGATION_WINDOW_CLOSE (R542). A 1 ms aggregation window closes and its digest is written. -/
  | aggregationWindowClose (i : Nat)
  /-- AGGREGATION_OVERFLOW_END (R542). The overflow period ends and one AGGREGATION_OVERFLOW record is written. -/
  | aggregationOverflowEnd
  /-- DIGEST_BATCH_SEND (R543). At the end of 100 µs, a batched count of remote reports is sent to their origin. -/
  | digestBatchSend (i : Nat)
  /-- FAULT_LOG_MOVE (R544). The active complex moves queued fault records into the log and notifies FM_NOTIFY. -/
  | faultLogMove
  /-- FAULT_LOG_READ (R546). A write sets the client's read position and a read returns up to 16 records. -/
  | faultLogRead (c : Client) (pos : Option (BitVec 32))
  /-- FAULT_ACK (R547). A write acknowledges records up to LOG_SEQ n and may release FAULT_N. -/
  | faultAck (c : Client) (n : BitVec 32)
  /-- MSIX_COALESCE_EXPIRE (R547). 1 ms after the last raise, pending Error records are signalled by one MSI-X raise. -/
  | msixCoalesceExpire (f : Fin 68)
  /-- BOOT_APERTURE_WRITE (R374). A host write to the boot aperture lands in the image area and claims it, or is dropped while the network path holds the claim or STATE is not READY or REJECTED. -/
  | bootApertureWrite (off : BitVec 24) (data : List (BitVec 8))
  /-- WINDOW_REQUEST_WRITE (R371). A write to a host control window register other than the doorbell is stored, queued during a fail-over gap (or dropped with WRITES_LOST), or dropped after a version change. -/
  | windowRequestWrite (w : Fin 68) (off : BitVec 16) (data : List (BitVec 8))
  /-- CONFIGURATION_REQUEST (R356). A CXL.io configuration request is answered with Successful Completion, and its writes enable back-invalidation, ATS, MSI-X and IDE on a function. -/
  | configurationRequest (f : Fin 68) (wr : Option CfgWrite)
  /-- SID_POWER_UP (R515). The 42 V bus first powers the SID, which starts the time base at 0 and its always-on registers before the gate is turned on. -/
  | sidPowerUp
  /-- BAD_CRC_FLIT (R383). A flit with a bad CRC, an uncorrectable code word or a reserved TYPE is discarded and counted, and a marker lost this way gives no offset sample. -/
  | badCrcFlit (p : Fin 4) (fec : Bool)
  deriving DecidableEq, Repr

end Sys2Proof
end

