-- ==== Sys2Proof/Decode.lean ====
section
/-! DEFINITION. The command that a word of the table spells. -/

namespace Sys2Proof

/-- The table of operations and events gives no row bits of its own: commands are events on the block's interfaces. No
word spells one. -/
def decodeTableWord (_nbits _w : Nat) : Option Instr := none

end Sys2Proof
end

