-- ==== Sys2Proof/Machine/Bits.lean ====
section
/-! DEFINITION. Bit fields, byte order and packing (R11, R540). -/

namespace Sys2Proof
namespace Machine

/-- Bits [hi:lo] of a number. -/
def bitsAt (n hi lo : Nat) : Nat := (n >>> lo) % 2 ^ (hi + 1 - lo)

/-- Bit `k` of a number. -/
def bitAt (n k : Nat) : Bool := (n >>> k) % 2 = 1

/-- Bits [hi:lo] of a word. -/
def bits {w : Nat} (v : BitVec w) (hi lo : Nat) : Nat := bitsAt v.toNat hi lo

/-- Bit `k` of a word. -/
def bit {w : Nat} (v : BitVec w) (k : Nat) : Bool := bitAt v.toNat k

/-- The number with bits [hi:lo] replaced. -/
def setBits (n hi lo v : Nat) : Nat :=
  (n >>> (hi + 1)) <<< (hi + 1) + (v % 2 ^ (hi + 1 - lo)) <<< lo + n % 2 ^ lo

/-- The two's-complement value of the low `w` bits of a number. -/
def signedOf (w n : Nat) : Int :=
  let m := n % 2 ^ w
  if m < 2 ^ (w - 1) then (m : Int) else (m : Int) - (2 : Int) ^ w

/-- The low `w` bits of an integer in two's complement. -/
def twos (w : Nat) (i : Int) : Nat := (i % ((2 : Int) ^ w)).toNat

/-- The `n` low bytes of a number, least significant first (R11). -/
def leBytes : Nat → Nat → List (BitVec 8)
  | 0, _ => []
  | n + 1, v => BitVec.ofNat 8 v :: leBytes n (v / 256)

/-- The number whose bytes are given, least significant first (R11). -/
def leNat : List (BitVec 8) → Nat
  | [] => 0
  | b :: bs => b.toNat + 256 * leNat bs

/-- Bytes cut or filled with zero to length `n`. -/
def fitBytes (n : Nat) (bs : List (BitVec 8)) : List (BitVec 8) :=
  bs.take n ++ List.replicate (n - bs.length) 0

/-- R540: fields of (width, value) packed upward, each aligned to its width, and to 64 bits where wider. -/
def packFields : Nat → List (Nat × Nat) → Nat
  | _, [] => 0
  | at_, (w, v) :: fs =>
    let a := if w > 64 then 64 else w
    let p := if a = 0 then at_ else ((at_ + a - 1) / a) * a
    (v % 2 ^ w) <<< p ||| packFields (p + w) fs

/-- R540: the 40 B payload of the fields. -/
def payload (fs : List (Nat × Nat)) : BitVec 320 := BitVec.ofNat 320 (packFields 0 fs)

/-- A number with the 1 bits of a list of places. -/
def bitSet (ks : List Nat) : Nat := ks.foldl (fun n k => if bitAt n k then n else n + 2 ^ k) 0

/-- The places below `n` of the 1 bits of a number. -/
def onesOf (n v : Nat) : List Nat := (List.range n).filter (bitAt v)

/-- Exclusive-or of two byte lists, as long as the first. -/
def xorBytes : List (BitVec 8) → List (BitVec 8) → List (BitVec 8)
  | [], _ => []
  | a :: as, [] => a :: as
  | a :: as, b :: bs => (a ^^^ b) :: xorBytes as bs

/-- Quotient rounded up. -/
def ceilDiv (a b : Nat) : Nat := (a + b - 1) / b

/-- Bits of a byte list, least significant bit of the first byte first. -/
def bytesBits (bs : List (BitVec 8)) (hi lo : Nat) : Nat := bitsAt (leNat bs) hi lo

end Machine
end Sys2Proof
end

