-- ==== Sys2Proof/Machine/Codes.lean ====
section
/-! DEFINITION. The word codes (05): GF(2^8), Reed-Solomon decoding of a received word, and the two hypotheses of R119. A
received word stands here as its difference from the stored code word, which the codes' linearity allows. -/

namespace Sys2Proof
namespace Machine

/-- R114: multiplication in GF(2^8) with x^8 + x^4 + x^3 + x^2 + 1, over the low `n` bits of the second factor. -/
def gfMulN : Nat → Nat → Nat → Nat
  | 0, _, _ => 0
  | n + 1, a, b =>
    (if b % 2 = 1 then a else 0) ^^^ gfMulN n (if a * 2 ≥ 256 then (a * 2) ^^^ 0x11D else a * 2) (b / 2)

/-- Product of two elements. -/
def gfMul (a b : Nat) : Nat := gfMulN 8 a b

/-- Power of an element. -/
def gfPow (a : Nat) : Nat → Nat
  | 0 => 1
  | n + 1 => gfMul a (gfPow a n)

/-- α^n by repeated doubling, α the class of x. -/
def gfAlpha : Nat → Nat
  | 0 => 1
  | n + 1 => gfMul 2 (gfAlpha n)

/-- Inverse: a^254 by squarings. -/
def gfInv (a : Nat) : Nat :=
  let s1 := gfMul a a
  let s2 := gfMul s1 s1
  let s3 := gfMul s2 s2
  let s4 := gfMul s3 s3
  let s5 := gfMul s4 s4
  let s6 := gfMul s5 s5
  let s7 := gfMul s6 s6
  gfMul s1 (gfMul s2 (gfMul s3 (gfMul s4 (gfMul s5 (gfMul s6 s7)))))

/-- Sum of two polynomials, constant term first. -/
def polyAdd : List Nat → List Nat → List Nat
  | [], q => q
  | p, [] => p
  | a :: p, b :: q => (a ^^^ b) :: polyAdd p q

/-- A polynomial times a constant. -/
def polyScale (c : Nat) (p : List Nat) : List Nat := p.map (gfMul c)

/-- Product of two polynomials. -/
def polyMul : List Nat → List Nat → List Nat
  | [], _ => []
  | a :: p, q => polyAdd (polyScale a q) (0 :: polyMul p q)

/-- Value of a polynomial at a point. -/
def polyEval (x : Nat) : List Nat → Nat
  | [] => 0
  | a :: p => a ^^^ gfMul x (polyEval x p)

/-- Formal derivative, in characteristic 2. -/
def polyDeriv (p : List Nat) : List Nat :=
  (List.range (p.length - 1)).map (fun i => if i % 2 = 0 then p.getD (i + 1) 0 else 0)

/-- Degree, 0 for a constant. -/
def polyDeg (p : List Nat) : Nat :=
  ((List.range p.length).filter (fun i => p.getD i 0 ≠ 0)).foldl (fun m i => if m < i then i else m) 0

/-- R114: syndromes S0 to S(m-1) of a received word given as (position, difference). -/
def syndromes (m : Nat) (r : List (Nat × Nat)) : List Nat :=
  (List.range m).map (fun i => r.foldl (fun a e => a ^^^ gfMul e.2 (gfAlpha (i * e.1 % 255))) 0)

/-- One step of Berlekamp and Massey: locator, previous locator, length, steps since, previous discrepancy. -/
def bmStep (S : List Nat) (st : List Nat × List Nat × Nat × Nat × Nat) (n : Nat) : List Nat × List Nat × Nat × Nat × Nat :=
  let (c, b, l, m, d0) := st
  let d := (List.range (l + 1)).foldl (fun a i => a ^^^ gfMul (c.getD i 0) (if i ≤ n then S.getD (n - i) 0 else 0)) 0
  if d = 0 then (c, b, l, m + 1, d0)
  else
    let t := polyAdd c (List.replicate m 0 ++ polyScale (gfMul d (gfInv d0)) b)
    if 2 * l ≤ n then (t, c, n + 1 - l, 1, d) else (t, b, l, m + 1, d0)

/-- The shortest locator of a run of syndromes, with its length. -/
def locator (S : List Nat) : List Nat × Nat :=
  let r := (List.range S.length).foldl (bmStep S) ([1], [1], 0, 1, 1)
  (r.1, r.2.2.1)

/-- Bounded-distance decoding of syndromes over `n` positions, with erased positions and at most `t` further errors: the
differences found, none where no word lies within reach. -/
def rsDecode (n t : Nat) (S : List Nat) (erased : List Nat) : Option (List (Nat × Nat)) :=
  if S.all (fun x => x = 0) then some []
  else
    let g := erased.foldl (fun p x => polyMul p [1, gfAlpha (x % 255)]) [1]
    let T := (polyMul S g).take S.length
    let lam := locator (T.drop erased.length)
    if lam.2 > t || polyDeg lam.1 ≠ lam.2 then none
    else
      let roots := (List.range n).filter (fun x => polyEval (gfInv (gfAlpha (x % 255))) lam.1 = 0 && !erased.contains x)
      if roots.length ≠ lam.2 then none
      else
        let psi := polyMul lam.1 g
        let om := (polyMul S psi).take S.length
        let v := (erased ++ roots).map (fun x =>
          let a := gfAlpha (x % 255)
          let i := gfInv a
          (x, gfMul a (gfMul (polyEval i om) (gfInv (polyEval i (polyDeriv psi))))))
        if syndromes S.length v = S then some (v.filter (fun e => e.2 ≠ 0)) else none

/-- R116, R117. The decoder modes; `erased` names the erased device of the word's subchannel, if it is there. -/
inductive EccMode where
  | hbm
  | deviceKill
  | symbol
  | erased (dev : Option Nat)
  deriving DecidableEq, Repr

/-- Data symbols of a word. -/
def EccMode.k : EccMode → Nat
  | .hbm => 32
  | _ => 64

/-- Check symbols of a word. -/
def EccMode.m : EccMode → Nat
  | .hbm => 4
  | _ => 16

/-- R114: the position of a symbol numbered data first: data symbols take the high-order positions. -/
def EccMode.pos (e : EccMode) (i : Nat) : Nat := if i < e.k then e.m + i else i - e.k

/-- The symbol at a position. -/
def EccMode.sym (e : EccMode) (p : Nat) : Nat := if p < e.m then e.k + p else p - e.m

/-- R114: the positions of an x4 device (0-9) of a DDR word. -/
def devicePositions (d : Nat) : List Nat := (List.range 8).map (fun i => EccMode.pos .symbol (8 * d + i))

/-- R116: decoding under one hypothesis: the symbols corrected, none where uncorrectable. A word of the
subchannel that does not hold the channel's erased device: R117 names the erased-device decoder for the whole channel and R61
device-kill mode; DESIGN CHOICE: 4 symbols and no erasure (log entry 147). -/
def EccMode.decode (e : EccMode) (r : List (Nat × Nat)) : Option (List (Nat × Nat)) :=
  let S := syndromes e.m r
  let n := e.k + e.m
  let v := match e with
    | .hbm => rsDecode n 1 S []
    | .deviceKill =>
      if S.all (fun x => x = 0) then some []
      else (List.range 10).findSome? (fun d => rsDecode n 0 S (devicePositions d))
    | .symbol => rsDecode n 8 S []
    | .erased none => rsDecode n 4 S []
    | .erased (some d) => rsDecode n 4 S (devicePositions d)
  v.map (fun l => l.map (fun p => (e.sym p.1, p.2)))

/-- R119: the poison marker at the check symbols, by position. -/
def EccMode.marker (e : EccMode) : List (Nat × Nat) :=
  (List.range e.m).map (fun i => (i, [0xA5, 0x5A, 0xC3, 0x3C].getD (i % 4) 0))

/-- The difference of a word by position: symbol errors over a stored word, with the marker where it is poison. -/
def EccMode.received (e : EccMode) (poison : Bool) (errs : List (Nat × BitVec 8)) : List (Nat × Nat) :=
  errs.map (fun x => (e.pos x.1, x.2.toNat)) ++ (if poison then e.marker else [])

/-- What a word decoder reports (R116, R119). -/
inductive WordResult where
  | data (corrected : List (Nat × Nat))
  | poison
  | uncorrectable
  deriving DecidableEq, Repr

/-- The corrected symbols that are not those of the erased device (R118, R119). -/
def EccMode.beyond (e : EccMode) (l : List (Nat × Nat)) : List (Nat × Nat) :=
  match e with
  | .erased (some d) => l.filter (fun p => p.1 / 8 ≠ d)
  | _ => l

/-- R119: the two hypotheses, poison first. -/
def EccMode.report (e : EccMode) (r : List (Nat × Nat)) : WordResult :=
  match e.decode (r ++ e.marker) with
  | some l => if (e.beyond l).isEmpty then .poison else .uncorrectable
  | none =>
    match e.decode r with
    | some l => .data l
    | none => .uncorrectable

/-! ### The armour page code (R122): GF(2^16) -/

/-- R122: multiplication in GF(2^16) with x^16 + x^12 + x^3 + x + 1, over the low `n` bits of the second factor. -/
def gf16MulN : Nat → Nat → Nat → Nat
  | 0, _, _ => 0
  | n + 1, a, b =>
    (if b % 2 = 1 then a else 0) ^^^ gf16MulN n (if a * 2 ≥ 65536 then (a * 2) ^^^ 0x1100B else a * 2) (b / 2)

/-- Product of two elements. -/
def gf16Mul (a b : Nat) : Nat := if a = 0 || b = 0 then 0 else gf16MulN 16 a b

/-- R122: the generator with the roots α^0 to α^(p-1), constant term first, with the next power of α. -/
def armourGenStep : Nat → List Nat × Nat
  | 0 => ([1], 1)
  | p + 1 =>
    let r := armourGenStep p
    (List.zipWith (fun a b => a ^^^ b) (0 :: r.1) (r.1.map (gf16Mul r.2) ++ [0]), gf16Mul 2 r.2)

/-- R122: the generator of the code with p parity symbols, without its leading coefficient 1, constant term first. -/
def armourGen (p : Nat) : List Nat := (armourGenStep p).1.take p

/-- R122: one step of the division by the generator: the remainder times x, plus a data symbol times x^p. -/
def armourStep (g rem : List Nat) (sym : Nat) : List Nat :=
  let top := (rem.getLast?.getD 0) ^^^ sym
  List.zipWith (fun a b => a ^^^ b) (0 :: rem.dropLast) (g.map (gf16Mul top))

/-- R122: the parity of data symbols, symbol 0 first, in the systematic code: data symbol i takes position p + i. Symbols that
lead with zero from the top change nothing. -/
def armourEncode (p : Nat) (syms : List Nat) : List Nat :=
  let g := armourGen p
  (syms.reverse.dropWhile (fun x => x = 0)).foldl (armourStep g) (List.replicate p 0)

/-- R122: a page's bytes as its symbols: bytes 2i and 2i + 1, little-endian. -/
def pageSymbols : List (BitVec 8) → List Nat
  | a :: b :: rest => (a.toNat + 256 * b.toNat) :: pageSymbols rest
  | [a] => [a.toNat]
  | [] => []

/-- R122: parity symbols as stored: little-endian, parity symbol 0 first. -/
def parityBytes (syms : List Nat) : List (BitVec 8) := syms.flatMap (leBytes 2)

/-- R122, R126: the change of a page's parity bytes that a change of its bytes from offset `off` on makes. -/
def armourDelta (p off : Nat) (delta : List (BitVec 8)) : List (BitVec 8) :=
  parityBytes (armourEncode p (List.replicate (off / 2) 0 ++ pageSymbols delta))

end Machine
end Sys2Proof
end

