-- ==== Sys2Proof/Config.lean ====
section
/-! DEFINITION. What the manual leaves open: constants without a body, so that nothing can be proved of their values. -/

namespace Sys2Proof

/-- The free values: the k-th value of width w that the manual leaves open (log entry 7). -/
opaque Config.free (w : Nat) (k : Nat) : BitVec w

/-- The candidate result of EXP2 for an operand, kept where it meets the bound of R150 (log entry 9). -/
opaque Config.exp2 (x : BitVec 32) : BitVec 32

/-- The result of a minimum (or maximum) of two FP32 values where the manual states none: a NaN operand, or zeros of both signs
(R185, log entry 20). -/
opaque Config.minMax (max : Bool) (a b : BitVec 32) : BitVec 32

/-- The candidate cosine (or sine) of a fraction of a turn of 2^64 parts, kept where it meets the bound of R265 (log entry 182). -/
opaque Config.trig (sine : Bool) (turns : BitVec 64) : BitVec 32

/-- A tree of sums over numbered lanes (R150). -/
inductive SumTree where
  | leaf (i : Nat)
  | node (l r : SumTree)
  deriving DecidableEq, Repr, Inhabited

/-- The fixed order in which the reduce unit adds `n` lanes; the manual does not name it (log entry 19). -/
opaque Config.sumTree (n : Nat) : SumTree

/-- The 512 bits of a key that the entropy source drew: slot (256 the device key, 257 a ring key not installed) + 512 ×
generation + 2^41 × epoch, after `origin` loads of another chip's keys (R427, R429, R431; log entry 143). -/
opaque Config.key (origin slot : Nat) : BitVec 512

/-- The number from which the private key of a seed is derived: the manual does not state the derivation (R421, R422, log
entry 143). -/
opaque Config.privateKey (seed : BitVec 512) : Nat

/-- The number from which the per-message secret of a signature comes (FIPS 186-5 lets it be drawn, log entry 143). -/
opaque Config.messageSecret (seed digest : BitVec 512) : Nat

/-- R75: the rolling activation count at which a bank of a tier (0 HBM, 1 DDR) is due a refresh-management command: the device
standard's threshold, which the manual does not print (log entry 145). -/
opaque Config.raaLimit (tier : Nat) : Nat

/-- R121: the kind of the record that firmware writes on a bus error; the manual names none (log entry 146). -/
opaque Config.busErrorKind : BitVec 16

/-- R478: the setpoint in mV of rail 2 (VDD_HBM_C) or 3 (VDD_HBM_Q): a value of JESD270-4, which the manual does not print (log
entry 187). -/
opaque Config.hbmRail (rail : Nat) : Nat

/-- The SHA-512 digest of the boot ROM of the trusted part (R423); a constant of the silicon. -/
opaque Config.bootRomDigest : BitVec 512

/-- R538: REPORTER and, below 5, REPORTER_KIND of a first report of scope context, tenant or vat that names no host requester:
the rules do not say which of them names whom (log entry 141). -/
opaque Config.reporter (code unit subject : Nat) : BitVec 12 × Fin 5

end Sys2Proof
end

