-- ==== Sys2Proof/Machine/State.lean ====
section
/-! DEFINITION. The state of the SK-1840 block: every register, queue, buffer, counter, mode and pin that the manual
names, as plain data; the stop reasons; and the state at cold reset. A docstring names the rule and its file by number
(R84, 04 is rule R84 of 04_memory_calendar.md), then the width and the reset value. -/

namespace Sys2Proof
namespace Machine

/-- Sparse storage by number, keys strictly rising; the operations are in Machine/Table.lean. -/
abbrev Tab (α : Type) := List (Nat × α)

/-! ### Faults and recovery (22) -/

/-- R538, 22. A fault record of 64 B, field by field. -/
structure FaultRec where
  kind         : BitVec 16
  error        : Bool
  scope        : BitVec 3
  digest       : Bool
  lostBefore   : Bool
  held         : Bool
  origin       : BitVec 6
  unit         : BitVec 16
  subject      : BitVec 16
  time         : BitVec 64
  logSeq       : BitVec 32
  count        : BitVec 16
  reporter     : BitVec 12
  reporterKind : BitVec 4
  payload      : BitVec 320
  deriving DecidableEq, Repr, Inhabited

/-- R542, 22. One of the 512 aggregation windows: its first report, the count and the time of the last report counted,
and whether the first report was written. -/
structure AggWindow where
  first   : FaultRec
  count   : Nat
  last    : BitVec 64
  written : Bool
  deriving DecidableEq, Repr, Inhabited

/-- R543, 22. The batch of reports about another chip's unit, counted for 100 µs after the first was sent. -/
structure DigestBatch where
  first : FaultRec
  count : Nat
  last  : BitVec 64
  deriving DecidableEq, Repr, Inhabited

/-- The fault log and its signalling (22). -/
structure FaultState where
  /-- R542, 22: aggregation table, 512 windows; reset empty. -/
  windows   : List AggWindow
  /-- R542, 22: reports not aggregated in the open overflow period; reset none. -/
  overflow  : Option Nat
  /-- R543, 22: batches to other origins; reset empty. -/
  batches   : List DigestBatch
  /-- R544, 22: hardware queue of 1024 records, oldest first; reset empty. -/
  queue     : List FaultRec
  /-- R544, 22: log ring of 65,536 records, oldest first; reset empty. -/
  log       : List FaultRec
  /-- R544, 22: LOG_SEQ counter, 32 bits; reset 0. -/
  logSeq    : BitVec 32
  /-- R544, 22: records lost since the queue filled: number, first and last LOG_SEQ; reset none. -/
  lost      : Option (Nat × BitVec 32 × BitVec 32)
  /-- R547, 22: records acknowledged by FAULT_ACK up to this LOG_SEQ; reset 0. -/
  acked     : BitVec 32
  /-- R547, 22: LOG_SEQ of the unacknowledged chip-scope Error records; reset empty. -/
  chipErr   : List (BitVec 32)
  /-- R547, 22: functions with MSI-X vector 1 raised in the last 1 ms, and whether more is pending; reset empty. -/
  coalesce  : List (Nat × Bool)
  /-- R464, R499, R546, 17, 19, 22: crash records in the xSPI flash, newest first: (complex 0 or 1, or 2 for the bring-up machine, time); reset DESIGN CHOICE empty. -/
  crash     : List (Nat × Nat)
  /-- R501, R540, 22: records to be written when firmware first runs; reset empty. -/
  deferred  : List FaultRec
  deriving DecidableEq, Repr, Inhabited

/-! ### The memory slices and the calendar (03, 04) -/

/-- R103, R104, R105, 04. Where a best-effort request stands: eligible, in a wheel bucket, or in the overflow list, with its
release slot and the shapers that hold it; none where row throttling does. -/
inductive Hold where
  | free
  | bucket (release : Nat) (shapers : List Nat)
  | overflow (release : Nat) (shapers : List Nat)
  deriving DecidableEq, Repr, Inhabited

/-- What a request of the chip's own does when its column command issues (R126, R128, R129, R140): nothing further, re-encode
an armoured page, or write a corrected code word back. -/
inductive BeWork where
  | none
  | reencode (page : Nat)
  | scrubWrite (word : Nat)
  deriving DecidableEq, Repr, Inhabited

/-- R68, R69, R100, R101, 03, 04. A best-effort request in a bank queue: its WFQ class and requester port, its bytes and DPA,
its bank and row, its finish tag, urgency level, times passed at level 1, time of arrival, and place on the wheel. -/
structure BeReq where
  id      : Nat
  cls     : Nat
  port    : Nat
  write   : Bool
  bytes   : Nat
  dpa     : Nat
  bank    : Nat
  row     : Nat
  tag     : BitVec 40
  level   : Nat
  passes  : Nat
  arrived : Nat
  hold    : Hold
  work    : BeWork
  deriving DecidableEq, Repr, Inhabited

/-- R67, R94, 03, 04. Bytes a stream engine has left to move on this slice inside the gates of its class. -/
structure PlanReq where
  cls   : Nat
  ctx   : Nat
  bytes : Nat
  dpa   : BitVec 46
  write : Bool
  bank  : Nat
  row   : Nat
  deriving DecidableEq, Repr, Inhabited

/-- R72, 03. An entry of a bank group's aggressor table: row, requester (port of R69, or 10 for the plan queue),
count, and whether its count past ROW_THRESHOLD was recorded (R74). -/
structure Aggressor where
  row   : Nat
  req   : Nat
  count : Nat
  told  : Bool
  deriving DecidableEq, Repr, Inhabited

/-- R76, 03. A command that a controller issued to its device. -/
inductive DramCmd where
  | act (bank row : Nat)
  | column (bank row dpa : Nat) (write : Bool)
  | refresh
  | manage (bank : Nat)
  | calibrate
  deriving DecidableEq, Repr, Inhabited

/-- R131, 05. Slots that an escalation engine still takes on a slice: the engine, the context and stream class of the plan
that set it off, whether the scrubber did, slots left, and the slot from which it waits. -/
structure EscSlots where
  eng   : Nat
  plan  : Option (Nat × Nat)
  scrub : Bool
  slots : Nat
  since : Nat
  deriving DecidableEq, Repr, Inhabited

/-- R521, 21. The kinds of pattern slice. -/
inductive Pattern where
  | controller
  | crossbar
  deriving DecidableEq, Repr, Inhabited

/-- One memory slice: controller, calendar instance and queues (03, 04). Slices are numbered HBM 0-31, DDR 32-43. -/
structure Slice where
  /-- R86, R89, 04: pending gate table, 16 × 64 bits; reset all 0, entries 0-2 set at training (R87). -/
  gates     : Tab (BitVec 64)
  /-- R86, R89, 04: effective gate table, 16 × 64 bits; reset all 0. -/
  eff       : Tab (BitVec 64)
  /-- R57, R61, 03: the slice's media are trained; reset 0. -/
  trained   : Bool
  /-- R77, 03: the slice is fatal; reset 0. -/
  fatal     : Bool
  /-- R64, 03: all eight refresh gates are in use; reset 0. -/
  hot       : Bool
  /-- R64, 03: what the next frame boundary sets `hot` to; reset 0. -/
  hotNext   : Bool
  /-- R66, 03: frames since training or verify; reset 0. -/
  frames    : Nat
  /-- R67, 03: plan queue, in stream order; reset empty. -/
  planq     : List PlanReq
  /-- R94, 04: slots left of the plan burst group being issued; reset 0. -/
  planBusy  : Nat
  /-- R95, 04: slots left of the best-effort burst group being issued; reset 0. -/
  beBusy    : Nat
  /-- R68, 03: best-effort bank queues, in arrival order; reset empty. -/
  beq       : List BeReq
  /-- The model's own number of the next request; reset 0. -/
  nextId    : Nat
  /-- R101, 04: virtual time V, 40 bits; reset DESIGN CHOICE 0. -/
  vtime     : BitVec 40
  /-- R101, 04: F[i] of the twelve WFQ classes, 40 bits; reset DESIGN CHOICE 0. -/
  finish    : Tab (BitVec 40)
  /-- R103, 04: tokens of the sixteen shapers, in 1/256 B; reset 0. -/
  tokens    : Tab Nat
  /-- R98, 03: open rows: (bank, row, opened by the plan queue in the current instance); reset empty. -/
  openRows  : List (Nat × Nat × Bool)
  /-- R72, 03: aggressor tables by bank group, 64 entries each; reset empty. -/
  aggr      : Tab (List Aggressor)
  /-- R73, R105, 03, 04: throttled (port, bank, row) with the slot of the last activation; reset empty. -/
  throttled : List (Nat × Nat × Nat × Nat)
  /-- R68, 03: bank queues in in-order mode; reset empty. -/
  inOrder   : List Nat
  /-- R75, 03: rolling activation count of each bank; reset DESIGN CHOICE 0. -/
  raa       : Tab Nat
  /-- R65, R75, 03: the model's own count of refresh gates in which refresh was issued, and of refresh-management commands;
  reset 0. -/
  refreshes : Nat
  managed   : Nat
  /-- R76, 03: retry buffer of each channel, the last 32 commands with the slot of each, newest first; reset empty. -/
  retry     : Tab (List (Nat × DramCmd))
  /-- R76, 03: slot from which a channel that stopped on an alert issues commands again; reset none. -/
  stopUntil : Tab Nat
  /-- R131, 05: slots that escalations still take here, oldest first; reset empty. -/
  escq      : List EscSlots
  /-- R77, 03: alerts of the open incident of each channel and the time of the last; reset none. -/
  incident  : Tab (Nat × Nat)
  /-- R77, 03: incidents of each channel; reset 0. -/
  incidents : Tab Nat
  /-- R525, 21: the pattern slice to arm at the next frame boundary; reset none. -/
  armNext   : Option Pattern
  /-- R93, R525, 04, 21: the pattern slice armed in this frame; reset none. -/
  armed     : Option Pattern
  /-- R528, 21: pattern failures in a row; reset 0. -/
  testFails : Nat
  deriving DecidableEq, Repr, Inhabited

/-- The calendar of the chip (04). -/
structure CalState where
  /-- R84, 04: slot counter, 11 bits; reset DESIGN CHOICE 0. -/
  slot     : BitVec 11
  /-- R84, 04: frame number, 64 bits; reset 0. -/
  frame    : BitVec 64
  /-- R84, 04: slots since cold reset, which places the wheel's buckets; reset 0. -/
  ticks    : Nat
  /-- R108, 04: correction that slot 2047 of this frame takes, in ns; reset 0. -/
  corr     : Int
  /-- R109, R111, 04: frames in a row within the limit; reset 0. -/
  goodRun  : Nat
  /-- R111, 04: frames in a row beyond ±40 ns; reset 0. -/
  badRun   : Nat
  /-- R385, 14: delay probes sent and not echoed: (port, probe, departure in ps); reset empty. -/
  probes   : List (Nat × Nat × Int)
  /-- The 44 memory slices; reset as `Slice`. -/
  slices   : Tab Slice
  /-- R85, R31, R100, 02, 04: QoS classes and WFQ weights and overheads that the slices use, by dictionary key; reset the defaults. -/
  qosEff   : Tab Nat
  deriving DecidableEq, Repr, Inhabited

/-! ### Stored data (05), tier map (02), copy channels (03) -/

/-- R135, 05. A merge-buffer entry: line, byte mask, bytes by offset, requester, and whether its read-modify-write read is out. -/
structure MergeEntry where
  line : Nat
  mask : BitVec 64
  data : List Host.Cell
  req  : Nat
  rmw  : Bool
  deriving DecidableEq, Repr, Inhabited

/-- R130, R133, 05. An escalation request: page, DPA of the word reported, from the scrubber, the readers that
wait with the word of each. -/
structure EscReq where
  page    : Nat
  word    : Nat
  scrub   : Bool
  readers : List (Reader × Nat)
  deriving DecidableEq, Repr, Inhabited

/-- R130, 05. An escalation engine at work: its request, the page symbols in error as read, whether it is writing back, and the
plan-gate slots that it has taken under step 3 of R131. -/
structure EscEngine where
  req   : EscReq
  errs  : List (Nat × BitVec 16)
  wback : Bool
  taken : Nat
  deriving DecidableEq, Repr, Inhabited

/-- R128, 05. A line of the parity cache: its number in the parity region (DPA[45:6]), dirty, the frame at which it first
became dirty, its 64 bytes, and the flipped bits of its worst 8 B word. -/
structure PcLine where
  line  : Nat
  dirty : Bool
  since : Nat
  data  : BitVec 512
  err   : Nat
  deriving DecidableEq, Repr, Inhabited

/-- R79, R81, R82, 03. A copy channel: state, queue of descriptors, lines done of the head, lines skipped, halted line. -/
structure CopyCh where
  /-- COPY_STATE, 03: 0 idle, 1 running, 2 halted; reset 0. -/
  state   : BitVec 8
  /-- R79, 03: queue of up to 256 descriptors, the head running; reset empty. -/
  queue   : List (BitVec 256)
  /-- BYTES_DONE, 03; 64 bits; reset 0. -/
  done    : Nat
  /-- R82, 03: LINES_SKIPPED, 32 bits; reset 0. -/
  skipped : Nat
  /-- HALT_PPA, 03; 52 bits; reset 0. -/
  haltPpa : BitVec 52
  /-- R80, 03: ends of the head's ranges on other chips whose rights are still to be asked there, as PPAs; reset empty. -/
  probes  : List Nat
  deriving DecidableEq, Repr, Inhabited

/-- R134, 05. A write held because its page is locked: line, bytes, mask, requester. -/
structure HeldWrite where
  line : Nat
  data : List (BitVec 8)
  mask : BitVec 64
  req  : Nat
  deriving DecidableEq, Repr, Inhabited

/-- R139, 05. The scrubber on one slice: words scanned in this lap. -/
structure Scrub where
  done : Nat
  deriving DecidableEq, Repr, Inhabited

/-- The media and what protects them. -/
structure MediaState where
  /-- The bytes behind the device physical addresses, as plaintext, in canonical form (unlisted: 0); R138, R428; reset empty. -/
  mem       : List Host.Cell
  /-- R119, R120, 05: poisoned 64 B lines, rising line numbers DPA[45:6]; reset empty. -/
  poison    : List Nat
  /-- R428, R429, 15: the key (R429: slot + 512 × generation + 2^41 × epoch; slot 256 device, 257 ring) under which each 32 B half line was last written, by DPA / 32; absent: the all-zero state; reset empty. -/
  keyTag    : Tab Nat
  /-- R434, 15: ranges of lines washed, newest first: first line, line after the last, key; reset empty. -/
  washed    : List (Nat × Nat × Nat)
  /-- R142, R143, 05: symbol errors stored in code words by a flip, by word DPA; reset empty. -/
  serr      : Tab SymErrors
  /-- R42, R44, 02: tier-map entries that differ from the default layout, 32 bits each; reset empty. -/
  tier      : Tab (BitVec 32)
  /-- R356, R499, 13, 19: the tier map is built (Memory_Valid); reset 0. -/
  valid     : Bool
  /-- R124, 05: parity blocks that the migration engine placed: (extent, first 8 KiB unit of the tier's region, units); reset empty. -/
  armour    : List (Nat × Nat × Nat)
  /-- R122, R124, 05: what the armour parity regions hold on the media, 64 B lines by DPA[45:6]; absent 0; reset empty. -/
  parity    : Tab (BitVec 512)
  /-- R128, 05: parity cache; reset empty. -/
  pcache    : List PcLine
  /-- R129, 05: pages whose parity is being re-encoded; reset empty. -/
  noParity  : List Nat
  /-- R135, 05: merge buffer, 512 entries, oldest first; reset empty. -/
  merge     : List MergeEntry
  /-- R133, 05: escalation queue, 64 entries, oldest first; reset empty. -/
  escQueue  : List EscReq
  /-- R130, 05: the eight escalation engines at work; reset empty. -/
  escEng    : Tab EscEngine
  /-- R134, 05: writes to locked pages, in order of arrival; reset empty. -/
  heldW     : List HeldWrite
  /-- R139, 05: the scrubber on each slice; reset 0. -/
  scrub     : Tab Scrub
  /-- R141, 05: time at which the current lap of each tier (0 HBM, 1 DDR) began, ns; reset 0. -/
  lapStart  : Tab Nat
  /-- R141, 05: tiers whose current lap was reported late (0 HBM, 1 DDR); reset empty. -/
  lapLate   : List Nat
  /-- R118, R144, 05: CE_PER_UNIT: times of the corrected words of each of the 752 units in the last 24 h; reset empty. -/
  ceUnit    : Tab (List Nat)
  /-- R118, 05: time of each unit's last WORD_CE_THRESHOLD record; reset empty. -/
  ceSent    : Tab Nat
  /-- R117, 05: DDR_ECC_MODE in force by channel; reset 0. -/
  eccMode   : Tab Nat
  /-- The sixteen copy channels (03). -/
  copy      : Tab CopyCh
  deriving DecidableEq, Repr, Inhabited

/-! ### Vats (06), number formats (07), plans (08) -/

/-- R155, R221, R222, 06, 08. A tile command in an engine queue: operation 1-4, token, descriptor index, loop counts and
row indices as of its acceptance; whether it has passed the whole-tile check and runs; and the translations that it passed
with (base VA, shift, PPA). -/
structure TileCmd where
  op      : Nat
  token   : Nat
  tile    : Nat
  loops   : List Nat
  desc    : BitVec 512
  idx     : List Nat
  running : Bool
  pins    : List (Nat × Nat × Nat)
  deriving DecidableEq, Repr, Inhabited

/-- What a vat waits for (R161, R228, R229, R231). -/
inductive VatWait where
  | none
  | barrier (id : Nat)
  | ring (id : Nat) (allowNs : Nat)
  | frame
  | launchPoint
  | done
  deriving DecidableEq, Repr, Inhabited

/-- R227, 08. A running loop level: index, trip count, and the bundle after the LOOP. -/
structure LoopLevel where
  index : Nat
  trip  : Nat
  first : Nat
  deriving DecidableEq, Repr, Inhabited

/-- R233, 08. The snapshot at a STEP: bundle index, loop levels, generators. -/
structure Snapshot where
  bundle : Nat
  loops  : Tab LoopLevel
  gens   : Tab (BitVec 32)
  deriving DecidableEq, Repr, Inhabited

/-- R160, R310, 06, 11. A line of a vat cache, with the flipped bits of its worst 8 B word. -/
structure CacheLine where
  dirty : Bool
  data  : List (BitVec 8)
  err   : Nat
  deriving DecidableEq, Repr, Inhabited

/-- R533, R534, 21. The counter set of one vat since its last latch. -/
structure VatCount where
  stall : Nat
  wait  : Nat
  read  : Nat
  write : Nat
  remote : Nat
  mma   : Nat
  exps  : Nat
  tiles : Nat
  escal : Nat
  dumps : Nat
  deriving DecidableEq, Repr, Inhabited

/-- R148, R197, R225, 06, 07, 08. A drain: its bank, its issue cycle, whether its values are INT32, and the values; none
where the manual leaves them undefined. -/
structure Drain where
  bank  : Nat
  cycle : Nat
  int   : Bool
  cells : Option (List (BitVec 32))
  deriving DecidableEq, Repr, Inhabited

/-- A physical vat (06). -/
structure Vat where
  /-- R164, R171, R181, 06: on the vat-failure list; reset from that list. -/
  unusable  : Bool
  /-- R173, R181, 06: owner context and OWNED; reset none. -/
  owner     : Option Nat
  /-- R177, 06: washed and not used since; reset DESIGN CHOICE 1. -/
  clean     : Bool
  /-- R181, 06: RESIDENT; reset 0. -/
  resident  : Bool
  /-- R176, R181, 06: FAULT_HELD; reset 0. -/
  faultHeld : Bool
  /-- R181, 06: ACTIVITY, 2 bits; reset 0. -/
  activity  : BitVec 2
  /-- R181, 06: LAST_TEST, 2 bits; reset 0. -/
  lastTest  : BitVec 2
  /-- R496, 19: isolated, with the transfers completed with errors; reset none. -/
  isolated  : Option Nat
  /-- R151, R154, 06: palette, 3 MiB, in canonical form (unlisted: 0); reset DESIGN CHOICE 0. -/
  palette   : List Host.Cell
  /-- R153, 06: flipped bits of palette words, by address / 8; reset none. -/
  palErr    : Tab Nat
  /-- R148, 06: accumulator banks, cell at bank × 16384 + row × 128 + column, 32 bits; reset DESIGN CHOICE 0. -/
  acc       : Tab (BitVec 32)
  /-- R197, 07: banks whose last write was in INT32; reset none. -/
  accInt    : List Nat
  /-- R148, R225, 06, 08: per bank, the cycle at which DRAIN may read it; reset 0. -/
  accReady  : Tab Nat
  /-- R148, 06: the drain in progress; reset none. -/
  drain     : Option Drain
  /-- R149, 06: vector registers, lane at register × 256 + lane, 32 bits; reset DESIGN CHOICE 0. -/
  vregs     : Tab (BitVec 32)
  /-- R225, 08: per register, the cycle from which its value is usable; reset 0. -/
  ready     : Tab Nat
  /-- R199, 07: lane generators, 32 bits; lane i starts an invocation at i + 1; reset i + 1. -/
  gens      : Tab (BitVec 32)
  /-- R202, 07: sticky OVERFLOW, INVALID, NAN_DROPPED; reset 0. -/
  overflow  : Bool
  invalid   : Bool
  nanDrop   : Bool
  /-- R157, 06: tile tokens that are set, of 64; reset none. -/
  tokSet    : List Nat
  /-- R159, R292, 06, 10: tokens set with the poison or fault flag; reset none. -/
  tokBad    : List Nat
  /-- R155, 06: queues of the six engines, 8 tile commands each; reset empty. -/
  engines   : Tab (List TileCmd)
  /-- R159, R292, 06, 10: engines that move nothing further in the step; reset none. -/
  engStop   : List Nat
  /-- R227, 08: the running loop levels; reset none. -/
  loops     : Tab LoopLevel
  /-- R161, 06: index of the bundle last issued; reset 0. -/
  bundle    : Nat
  /-- R161, R217, 06, 08: the bundle last issued, 256 bits; reset 0. -/
  word      : BitVec 256
  /-- R161, 06: slots of the bundle last issued that have still to act: 0 matrix, 1 vector, 2 exponential and reduce, 3 and 4
  stream, 5 control; reset empty. -/
  todo      : List Nat
  /-- R161, R227, 06, 08: index of the bundle that issues next; reset 0. -/
  next      : Nat
  /-- R161, R217, R244, 06, 08: the cycle from which the next DELAY counts; none while it counts from a time; reset none. -/
  base      : Option Nat
  /-- R217, R231, R235, R251, 08: the time in ns from which the next DELAY counts where `base` is none; reset 0. -/
  from_     : Nat
  /-- R228, 08: the cycle before which the next bundle does not issue, 4 after the last arrival at a barrier; reset 0. -/
  hold      : Nat
  /-- R161, R162, 06: bundle buffer, 2048 bundles by index; reset empty. -/
  buffer    : Tab (BitVec 256)
  /-- R162, 06: index of the next bundle to be fetched; reset 0. -/
  fetchAt   : Nat
  /-- R162, 06: bundles on their way: PPA and index; reset empty. -/
  fetching  : List (Nat × Nat)
  /-- R161, 06: the vat's wait; reset none. -/
  wait      : VatWait
  /-- R152, 06: compute-port accesses (cycle, bank line of the palette) from the last issue on; reset empty. -/
  ports     : List (Nat × Nat)
  /-- R233, 08: the step snapshot; reset empty. -/
  snap      : Snapshot
  /-- R160, 06: vat cache by line; reset empty. -/
  cache     : Tab CacheLine
  /-- R160, R291, 06, 10: micro-TLB, 64 entries: (virtual page, shift), most recently used first; reset empty. -/
  utlb      : List (Nat × Nat)
  /-- R241, R518, 08, 20: cycle of the first bundle, and of the last issue; reset none and 0. -/
  firstCyc  : Option Nat
  lastCyc   : Nat
  /-- R158, R161-R163, R533, 06, 21: the cycle at which the bundle that the vat stalls on fell due; reset none. -/
  stall     : Option Nat
  /-- R214, R233, 08: the step that runs, and steps ended in this invocation; reset 0. -/
  step      : Nat
  stepNo    : Nat
  /-- R533, 21: cycle and time (ns) of the step's start latch; reset 0. -/
  stepCyc   : Nat
  stepTime  : Nat
  /-- R231, R533, 08, 21: time at which the wait began, ns; reset 0. -/
  waitFrom  : Nat
  /-- R225, R226, 08: palette ranges written and not yet readable: address, bytes, cycle; reset empty. -/
  palReady  : List (Nat × Nat × Nat)
  /-- R225, 08: the cycle from which the matrix unit is free; reset 0. -/
  matBusy   : Nat
  /-- R197, R200, 07: vector registers whose value is INT32; reset none. -/
  regInt    : List Nat
  /-- R533, 21: counters since the step's start latch, and since the invocation's; reset 0. -/
  stepCount : VatCount
  invCount  : VatCount
  deriving DecidableEq, Repr, Inhabited

/-- R166, R167, 06. A takeover in progress: logical vat, from, to. -/
structure Takeover where
  logical : Nat
  old     : Nat
  spare   : Nat
  deriving DecidableEq, Repr, Inhabited

/-- The vat array and its rotation (06). -/
structure VatState where
  vats      : Tab Vat
  /-- R164, 06: LOGICAL_MAP entries that differ from the identity; 0xFF absent; reset from the failure list. -/
  lmap      : Tab Nat
  /-- R164, R171, 06: the rotating spare, if any; reset 32. -/
  spare     : Option Nat
  /-- R164, 06: the repair spare, if still a spare; reset 33. -/
  repair    : Option Nat
  /-- R164, R171, 06: vat-failure list in the xSPI flash; reset DESIGN CHOICE empty. -/
  failures  : List Nat
  /-- R168-R170, 06: positions that have fallen due and not run, oldest first: position, due time in ns, and whether ROTATION_WAIT has passed; reset empty. -/
  due       : List (Nat × Nat × Bool)
  /-- R163, 06: logical positions moved to the head of the rotation order; reset empty. -/
  head      : List Nat
  /-- R166, 06: the takeover in progress; reset none. -/
  takeover  : Option Takeover
  /-- R172, R529, 06, 21: physical vats to be tested once washed; reset empty. -/
  toTest    : List Nat
  /-- R168, 06: rotation position of the test that was last set off; reset DESIGN CHOICE 0. -/
  testPos   : Nat
  /-- R174, 06: context that last launched; reset DESIGN CHOICE 1023. -/
  lastCtx   : Nat
  /-- R514, 20: launches wait until the vats of a failed vat clock are washed; reset 0. -/
  vatPllBad : Bool
  deriving DecidableEq, Repr, Inhabited

/-! ### Contexts (08) and translation (10) -/

/-- R213, 08. A footprint entry. -/
structure Footprint where
  base : Nat
  size : Nat
  read : Bool
  write : Bool
  armoured : Bool
  coherent : Bool
  deriving DecidableEq, Repr, Inhabited

/-- R235, R237, R241, 08. An invocation or a resident plan: header, image address, what its record will say. -/
structure Inv where
  header  : BitVec 1024
  image   : Nat
  seq     : BitVec 32
  tag     : BitVec 32
  args    : BitVec 256
  start   : BitVec 64
  frame   : BitVec 64
  lp      : BitVec 2
  altered : Bool
  events  : BitVec 5
  flags   : BitVec 3
  step    : BitVec 16
  stepAt  : BitVec 64
  /-- R214, 08: OFFSET and BUNDLES of the stream of each vat, read at pick-up. -/
  streams : List (Nat × Nat)
  deriving DecidableEq, Repr, Inhabited

/-- R249, R250, R301, 08, 10. A fault held for the end of the step: kind, payload, the 4 KiB page and the step it fell in, the mask of its PTT entry, and whether that entry's fetch succeeded. -/
structure PlanFault where
  kind    : BitVec 16
  payload : BitVec 320
  page    : Nat
  step    : Nat
  pttMask : BitVec 32
  resolved : Bool
  deriving DecidableEq, Repr, Inhabited

/-- R202, R533, 21. What the vats that ended a step leave for its record: how many, their counts together, the most cycles,
the flags, and the time of the first start latch. -/
structure StepAcc where
  ended  : Nat
  sum    : VatCount
  cycles : Nat
  flags  : BitVec 3
  start  : Nat
  deriving DecidableEq, Repr, Inhabited

/-- R208, 08. Commands of a context that wait for a launch point. -/
inductive CtxCmd where
  | enable
  | disable
  | resume
  | abort
  deriving DecidableEq, Repr, Inhabited

/-- How far a launch or an invocation of the context has come (R235, R237, R251). -/
inductive Phase where
  | idle
  | starting (resident : Bool)
  | running
  | resuming
  deriving DecidableEq, Repr, Inhabited

/-- A context (08). -/
structure Ctx where
  /-- R206, 08: CONTEXT_ENTRY, 512 bits; reset 0. -/
  entry      : BitVec 512
  /-- R303, 10: ATS_BINDING, 64 bits; reset 0. -/
  binding    : BitVec 64
  /-- R537, 21: COUNTER_LOG, 64 bits; reset 0. -/
  counterLog : BitVec 64
  /-- R535, 21: the eight dump requests in force, 256 bits each; reset 0. -/
  dumps      : Tab (BitVec 256)
  /-- R535, 21: dump requests that wait for the next start; reset none. -/
  dumpsNext  : Tab (BitVec 256)
  /-- R207, 08: STATE, 2 bits; reset 0. -/
  state      : BitVec 2
  /-- R207, 08: RESIDENT; reset 0. -/
  resident   : Bool
  /-- R207, 08: FAULT_STEP, 16 bits; reset 0. -/
  faultStep  : BitVec 16
  /-- R207, R234, 08: LAUNCH_INDEX, 6 bits; reset 0. -/
  launchIndex : BitVec 6
  /-- R207, R234, 08: LAUNCH_NEXT, 32 bits; reset 0. -/
  launchNext : BitVec 32
  /-- R208, 08: commands accepted and not yet in effect, in arrival order; reset empty. -/
  cmds       : List CtxCmd
  /-- R208, 08: DISABLE has taken effect and vats are still held; reset 0. -/
  disabling  : Bool
  /-- R235, 08: launch phase; reset idle. -/
  phase      : Phase
  /-- R235, 08: the invocation, or the resident plan held; reset none. -/
  inv        : Option Inv
  /-- R208, R241, 08: records written since ENABLE, 32 bits: the low COMPLETION_LOG2 bits are the write index, the next bit the inverse of the phase; reset 0. -/
  compIndex  : BitVec 32
  /-- R241, 08: STATUS and REASON of the record that waits for the last write tile; reset none. -/
  owed       : Option (Nat × Nat)
  /-- R242, R243, 08: CONSUMED as last read, 32 bits; reset 0. -/
  consumed   : BitVec 32
  /-- R241, R243, 08: records, PHASE apart, that wait for an entry that CONSUMED has passed, oldest first; reset empty. -/
  unwritten  : List (BitVec 512)
  /-- R533, 21: steps of the invocation that some vat has ended, by number; reset empty. -/
  stepAcc    : Tab StepAcc
  /-- R243, 08: launch points waited with fewer than 2 entries free; reset 0. -/
  fullWait   : Nat
  /-- R237, 08: INPUT_SEQ that the last invocation took; reset 0. -/
  inputTaken : BitVec 32
  /-- R175, 06: launch points that the head launch has waited; reset 0. -/
  headAge    : Nat
  /-- R174, R175, 06: logical vats that the launch at the head of the ring waits for; reset empty. -/
  headVats   : List Nat
  /-- R175, 06: order in which this launch reserved its vats; reset none. -/
  reserved   : Option Nat
  /-- R174, 08: footprint ranges of the running or resident plan; reset empty. -/
  prints     : List Footprint
  /-- R250, 08: faults of the current step, first in time first; reset empty. -/
  faults     : List PlanFault
  /-- R302, 10: the last fault qualifies for automatic RESUME; reset 0. -/
  autoResume : Bool
  /-- R230, 08: invocation sequence numbers for which a partner sent a fault notice, with the coordinate; reset empty. -/
  notices    : List (BitVec 32 × BitVec 6)
  /-- R229, 08: arrivals received: (coordinate, sequence number, barrier); reset empty. -/
  arrivals   : List (BitVec 6 × BitVec 32 × BitVec 8)
  /-- R534, 21: RECORD_NO, 32 bits; reset 0. -/
  recordNo   : BitVec 32
  /-- R534, 21: LAST_COUNTERS, 1024 bits; reset 0. -/
  lastCount  : BitVec 1024
  /-- OD 0x4410:05 LAST_FAULT, 08; 512 bits; reset 0. -/
  lastFault  : BitVec 512
  deriving DecidableEq, Repr, Inhabited

/-- R287, R288, R296, 10. An entry of the L2 TLB. -/
structure L2Entry where
  ctx     : Nat
  page    : Nat
  shift   : Nat
  ppa     : Nat
  read    : Bool
  write   : Bool
  locked  : Bool
  absent  : Option Nat
  invalid : Bool
  running : Nat
  used    : Nat
  deriving DecidableEq, Repr, Inhabited

/-- R287, R293, R298, 10. A walk or an ATS request outstanding. -/
structure Fetch where
  ctx   : Nat
  va    : Nat
  ats   : Bool
  stale : Bool
  read  : Bool
  write : Bool
  deriving DecidableEq, Repr, Inhabited

/-- R300, 10. An entry of the pending-translation table. -/
structure Ptt where
  ctx  : Nat
  page : Nat
  mask : BitVec 32
  deriving DecidableEq, Repr, Inhabited

/-- R296, R299, 10. An invalidation whose completion waits for running tiles: where it answers and the pins waited for. -/
structure Invalidation where
  port : Option (Fin 4)
  tag  : Nat
  pins : List (Nat × Nat)
  deriving DecidableEq, Repr, Inhabited

/-- Translation (10). -/
structure TlbState where
  l2      : List L2Entry
  /-- R284, 10: the walk cache: (context, DPA of a non-leaf entry) and the entry, 256 of them, the newest first; reset empty. -/
  walks   : List ((Nat × Nat) × Nat)
  fetches : List Fetch
  ptt     : List Ptt
  invs    : List Invalidation
  /-- R288, 10: age counter of the least-recently-used order; reset 0. -/
  age     : Nat
  deriving DecidableEq, Repr, Inhabited

/-! ### Coherence (11), shared regions and migration (12) -/

/-- R311, 11. The kinds of coherent access. -/
inductive ReqKind where
  | rdS
  | rdO
  | rdC
  | wrF
  deriving DecidableEq, Repr, Inhabited

/-- R314, R316, 11. A request in the home queue; of a write, its byte mask, and whether it carries poison (R358); whether its
response is discarded (R376). -/
structure HomeReq where
  kind : ReqKind
  who  : Agent
  line : Nat
  data : List (BitVec 8)
  mask : BitVec 64 := BitVec.allOnes 64
  poison : Bool := false
  mute : Bool := false
  /-- R320: it came behind a snoop outstanding to its sender, and waits for BIConflict. -/
  behind : Bool := false
  /-- R315: it waits for a way of its set, and the line evicted for it. -/
  parked : Bool := false
  victim : Option Nat := none
  deriving DecidableEq, Repr

/-- R310, 11. Directory states. -/
inductive DirState where
  | I
  | S
  | F
  | E
  | M
  deriving DecidableEq, Repr, Inhabited

/-- R308, 11. A directory entry. -/
structure DirEntry where
  st      : DirState
  isOpen  : Bool
  owner   : Option Agent
  vats    : BitVec 32
  hosts   : List Nat
  coarse  : Option (BitVec 32)
  watch   : Bool
  way     : Nat
  alloc   : Nat
  hold    : Bool
  waitFor : List Agent
  req     : Option HomeReq
  data    : Option (List (BitVec 8))
  poison  : Bool
  evict   : Bool
  deriving DecidableEq, Repr

/-- R322, R324, 11. An atomic descriptor that waits for its line: the agent that takes the line, window line, descriptor,
target DPA, whether it runs far, and whether another agent was snooped. -/
structure AtomicJob where
  who     : Agent
  window  : Nat
  desc    : BitVec 512
  target  : Nat
  far     : Bool
  snooped : Bool
  /-- R323: the status of a descriptor whose check fails. -/
  bad     : Option Nat := none
  deriving DecidableEq, Repr

/-- The home agent (11). -/
structure CohState where
  /-- R308, 11: directory, 262,144 sets × 16 ways, by line number; reset empty. -/
  dir      : Tab DirEntry
  /-- R316, 11: home queue, 1024 requests, in arrival order; reset empty. -/
  queue    : List HomeReq
  /-- R305, R324, 11: atomic buffer, 256 lines, most recently used first; reset empty. -/
  abuf     : List (Nat × List (BitVec 8))
  /-- R317, 11: ordered mode for start-up; reset 1. -/
  startUp  : Bool
  /-- R317, R328, 11: a DIRECTORY_UE is being handled; reset 0. -/
  recovery : Bool
  /-- R326, 11: DEAD_REQUESTERS, 4096 bits; reset empty. -/
  dead     : List Nat
  /-- R326, 11: SWEEP_ACTIVE: the requesters being swept, each with its event, the lines poisoned and the record's unit; reset none. -/
  sweep    : List (Nat × Nat × Nat × Nat)
  /-- R324, 11: contention predictor, 4096 counters of 2 bits; reset 1. -/
  pred     : Tab (BitVec 2)
  /-- R322-R324, 11: atomics that wait for their line, in arrival order; reset empty. -/
  jobs     : List AtomicJob
  /-- R315, 11: allocation counter of the victim order; reset 0. -/
  age      : Nat
  deriving DecidableEq, Repr

/-- R347, 12. A move in flight on a channel. -/
structure Move where
  extent  : Nat
  ch      : Nat
  source  : BitVec 32
  dest    : BitVec 32
  partner : Nat
  round   : Nat
  dirty   : List Nat
  zero    : Bool
  unit    : Nat
  deriving DecidableEq, Repr, Inhabited

/-- R343, R344, 12. The engine's work list of one tenant: GEN taken, and the entries. -/
structure Rat where
  gen     : BitVec 32
  entries : List (BitVec 64)
  deriving DecidableEq, Repr, Inhabited

/-- Shared regions and migration (12). -/
structure RegionState where
  /-- R333, 12: REGION_STATE is ENABLED; reset none. -/
  enabled : List Nat
  /-- R347, 12: moves in flight; reset empty. -/
  moves   : List Move
  /-- R347, 12: abandoned extents that wait for MIGRATION_BACKOFF; reset empty. -/
  backoff : List Nat
  /-- R343, 12: work lists by tenant; reset empty. -/
  rat     : Tab Rat
  deriving DecidableEq, Repr, Inhabited

/-! ### Tenants (02, 15) -/

/-- A tenant partition (02, 15). -/
structure Tenant where
  /-- OD 0x49tt:01 BASE, 02; 64 bits; reset 0. -/
  base    : BitVec 64
  /-- OD 0x49tt:02 SIZE, 02; 64 bits; reset 0. -/
  size    : BitVec 64
  /-- OD 0x49tt:03 DB_SIZE, 02; 64 bits; reset 0. -/
  dbSize  : BitVec 64
  /-- OD 0x49tt:05 STATE, 02; 8 bits; reset 0 (FREE). -/
  state   : BitVec 8
  /-- R32, R33, 02: STOP has been accepted, and no ACTIVATE or ALLOCATE since; reset 0. -/
  stopping : Bool
  /-- OD 0x49tt:06 KEY_GENERATION, 02, 15; 32 bits; reset 0. -/
  keyGen  : BitVec 32
  /-- R434, R436, 15: the wash waits for a key (step 2); reset 0. -/
  keyWait : Bool
  /-- R434, 15: time of RELEASE; reset 0. -/
  washAt  : Nat
  /-- R434, R436, 15: bytes that step 3 of the wash has written so far; reset 0. -/
  washed  : Nat
  deriving DecidableEq, Repr, Inhabited

/-! ### Host ports (13) and identity (15) -/

/-- A host port (13). -/
structure Port where
  /-- R352, 13: the link is up; reset 0. -/
  up      : Bool
  /-- R352, 13: CXL.mem is enabled; reset 0. -/
  mem     : Bool
  /-- R375, 13: PERST_N is held low; reset 0. -/
  perst   : Bool
  /-- R376, 13: requests outstanding, as (requester, line); reset empty. -/
  reqs    : List (Nat × Nat)
  deriving DecidableEq, Repr, Inhabited

/-- A PCIe function (R354, 13). -/
structure Func where
  /-- R307, R356, 13: back-invalidation enabled; reset 0. -/
  bi    : Bool
  /-- R293, R356: ATS enabled; reset 0. -/
  ats   : Bool
  /-- R354, R356: MSI-X enabled; reset 0. -/
  msix  : Bool
  /-- R360: IDE stream enabled; reset 0. -/
  ide   : Bool
  /-- R360: IDE key set by IDE_KM, 256 bits; reset none. -/
  ideKey : Option (BitVec 256)
  /-- R37, R375: the two HDM decoders of a logical device, 256 bits; reset 0. -/
  hdm   : Tab (BitVec 256)
  deriving DecidableEq, Repr, Inhabited

/-- R360, R423, 13, 15. A secured SPDM session. -/
structure Session where
  path  : SpdmPath
  id    : Nat
  open_ : Bool
  keys  : Nat
  deriving DecidableEq, Repr

/-- R367, 13. A host control window. -/
structure Window where
  /-- R367, 13: REQUEST, 28 KiB, in canonical form (unlisted: 0); reset DESIGN CHOICE 0. -/
  request  : List Host.Cell
  /-- R367, 13: RESPONSE, the message last answered; reset DESIGN CHOICE empty. -/
  response : List (BitVec 8)
  /-- R367, 13: RSP_SEQ, 32 bits; reset DESIGN CHOICE 0. -/
  rspSeq   : BitVec 32
  /-- R368, R371, 13: the request outstanding; reset none. -/
  pending  : Option (BitVec 32)
  /-- R370, 13: VERSION_CHANGED; reset 0. -/
  changed  : Bool
  /-- R371, 13: WRITES_LOST; reset 0. -/
  lost     : Bool
  /-- R368, 13: DOORBELL_OVERRUN; reset 0. -/
  overrun  : Bool
  deriving DecidableEq, Repr, Inhabited

/-- R371, 13. A window write queued during a fail-over gap. -/
inductive GapWrite where
  | data (w : Nat) (off : Nat) (bytes : List (BitVec 8))
  | doorbell (w : Nat) (seq : BitVec 32)
  | versionAck (w : Nat) (v : BitVec 32)
  | entry (c : Client) (idx sub : Nat) (value : List (BitVec 8))
  | read (c : Client) (idx sub : Nat)
  | message (c : Client) (h : BitVec 128) (data : List (BitVec 8))
  deriving DecidableEq, Repr

/-- R363, R365, 13. A glaze window. -/
structure Glaze where
  /-- R363, 13: key, 256 bits, with the session that installed it; reset none. -/
  key     : Option (BitVec 256 × SpdmPath × Nat)
  /-- IN_NEXT, 13; 64 bits; reset 0. -/
  inNext  : BitVec 64
  /-- OUT_NEXT, 13; 64 bits; reset 0. -/
  outNext : BitVec 64
  /-- R363, 13: packets taken under this key in each direction; reset 0. -/
  inCount : Nat
  outCount : Nat
  /-- R365, 13: the watched header line has been written and not yet answered; reset 0. -/
  armed   : Bool
  deriving DecidableEq, Repr

/-- The boot form (R372-R374, R453). -/
structure Boot where
  /-- R372, 13: BOOT_STATUS.STATE, 3 bits; reset 0. -/
  state  : BitVec 3
  /-- R372, 13: BOOT_STATUS.REASON, 8 bits; reset 0. -/
  reason : BitVec 8
  /-- R374, 13: which path claims the image area (1 port 0, 2 network), BOOT_PATH; reset 0. -/
  claim  : BitVec 8
  /-- R367, 13: BOOT_LENGTH, 32 bits; reset DESIGN CHOICE 0. -/
  length : BitVec 32
  /-- R372, 13: firmware-image area of the control region, in canonical form (unlisted: 0); reset empty. -/
  image  : List Host.Cell
  /-- R453, 16: DOWNLOAD_GO request that waits for its response; reset none. -/
  goFrom : Option (Client × BitVec 128)
  deriving DecidableEq, Repr, Inhabited

/-- The host side (13). -/
structure HostState where
  ports    : Tab Port
  funcs    : Tab Func
  windows  : Tab Window
  /-- R371, 13: window writes queued during a gap, up to 64, and those dropped; reset empty. -/
  gapQueue : List GapWrite
  gapLost  : Nat
  boot     : Boot
  glaze    : Tab Glaze
  /-- R356, 13: MEMORY_ACTIVE; reset 0. -/
  active   : Bool
  /-- R35, 02: GFD_DECODER, 64 × 256 bits; reset 0. -/
  gfd      : Tab (BitVec 256)
  /-- R36, 02: REQUESTER_ACCESS, 4096 × 512 bits; reset 0. -/
  access   : Tab (BitVec 512)
  /-- R36, 02: (requester, tenant or 256, time in ns) of the records written in the last 1 ms; reset empty. -/
  viol     : List (Nat × Nat × Nat)
  /-- R423, 15: SPDM sessions; reset empty. -/
  sessions : List Session
  /-- R423, 15: paths on which version, capabilities and algorithms are agreed; reset empty. -/
  agreed   : List (SpdmPath × Nat)
  deriving DecidableEq, Repr

/-! ### Pool links (14) -/

/-- R382, R386, 14. A DATA flit held in the replay buffer: sequence number and its packets. -/
structure HeldFlit where
  seq     : BitVec 12
  packets : List (BitVec 128 × List (BitVec 8))
  deriving DecidableEq, Repr, Inhabited

/-- R400, 14. Link states. -/
inductive LinkSt where
  | down
  | training
  | aligning
  | init
  | active
  | retrain
  deriving DecidableEq, Repr, Inhabited

/-- A pool-link port (14). -/
structure Link where
  /-- LINK_STATE, 14; reset 0 (DOWN). -/
  st       : LinkSt
  /-- R400, 14: DOWN is held until LINK_COMMAND UP; reset 0. -/
  held     : Bool
  /-- LINK_WIDTH, 14; lanes; reset 0. -/
  width    : Nat
  /-- R400, 14: training failures in a row; reset 0. -/
  fails    : Nat
  /-- R386, 14: next sequence number to send, 12 bits; reset DESIGN CHOICE 0. -/
  txSeq    : BitVec 12
  /-- R386, 14: replay buffer, 1024 entries, oldest first; reset empty. -/
  buffer   : List HeldFlit
  /-- R387, 14: E, 12 bits; reset DESIGN CHOICE 0. -/
  expect   : BitVec 12
  /-- R387, R389, 14: the REPLAY_REQ outstanding; reset none. -/
  replayReq : Option (BitVec 12)
  /-- R388, 14: DATA flits accepted since the last acknowledgement; reset 0. -/
  unacked  : Nat
  /-- R390, 14: the last REPLAY_REQ received and how many in a row; reset none. -/
  replays  : Option (BitVec 12 × Nat)
  /-- R390, 14: buffered flits are to be discarded at retraining; reset 0. -/
  discard  : Bool
  /-- R391, 14: SENT, RET and the units freed at our receiver, per VC, 16 bits; reset 0. -/
  sent     : Tab (BitVec 16)
  ret      : Tab (BitVec 16)
  freed    : Tab (BitVec 16)
  /-- R391, R399, 14: units held in our receive buffers, per VC; reset 0. -/
  occ      : Tab Nat
  /-- R402, 14: RETRAIN_REQ of our own outstanding, with its width code; reset none. -/
  retrainReq : Option (BitVec 2)
  /-- R402, 14: the width code agreed for the retrain; reset none. -/
  agreed   : Option (BitVec 2)
  /-- R379, 14: INIT exchange checked; reset 0. -/
  inited   : Bool
  /-- R379, 14: the peer's next expected sequence number from INIT; reset 0. -/
  peerE    : BitVec 12
  /-- R385, 14: the peer's frame master and logical coordinate; reset 0. -/
  master   : BitVec 6
  coord    : BitVec 6
  /-- R399, 14: CONGESTION_MAP, 5 × 8 counters of 32 bits; reset 0. -/
  congestion : Tab Nat
  /-- R391, R395, 14: packets that wait for credit or for their link, in order, each with the port and VC whose receive buffer holds it; reset empty. -/
  outq     : List (BitVec 128 × List (BitVec 8) × Option (Nat × Nat))
  deriving DecidableEq, Repr, Inhabited

/-- R392, R394, 14. A pool request this chip made and waits for. -/
structure PoolReq where
  tag   : BitVec 16
  hdr   : BitVec 128
  data  : List (BitVec 8)
  owner : Option Reader
  /-- R82: for an RD, the bytes of a completion word that are to be written into its line, and their place. -/
  word  : Option (Nat × List (BitVec 8))
  deriving DecidableEq, Repr

/-- R410, R413, 14. The rebuild engine and its journal. -/
structure Rebuild where
  /-- REBUILD_STATE, 14; 8 bits; reset 0. -/
  st     : BitVec 8
  /-- R413, 14: REBUILD_ID, 32 bits; reset 0. -/
  id     : BitVec 32
  /-- R413, 14: LOST, 6 bits; reset 0. -/
  lost   : BitVec 6
  /-- R413, 14: LOST2, 6 bits; reset 0x3F. -/
  lost2  : BitVec 6
  /-- R413, 14: CURSOR_TIER and CURSOR; reset 0. -/
  tier   : Bool
  cursor : BitVec 21
  /-- R413, 14: slot lines 0-7: EXTENT, TIER, COMMIT; reset empty. -/
  slots  : Tab (BitVec 23)
  /-- R412, R414, 14: DELTAs held for extents in flight, and extents to redo; reset empty. -/
  heldD  : List (BitVec 128 × List (BitVec 8))
  redo   : List Nat
  /-- R411, 14: extents started, in the order of the rebuild; reset 0. -/
  next   : Nat
  deriving DecidableEq, Repr, Inhabited

/-- The pool ring (14). -/
structure PoolState where
  links   : Tab Link
  /-- R404, 14: POOL_READY; reset 0. -/
  ready   : Bool
  /-- R20, R405, 01, 14: a ring check failed; reset 0. -/
  broken  : Bool
  /-- R109, 04: the frame lock needed for POOL_READY was acquired; reset 0. -/
  locked  : Bool
  /-- R394, 14: requests outstanding; reset empty. -/
  reqs    : List PoolReq
  /-- R392: next TAG, 16 bits; reset DESIGN CHOICE 0. -/
  tag     : BitVec 16
  /-- R407, R414, 14: DELTAs not yet accepted by their holder, each with the time of its data write; reset empty. -/
  deltas  : List (BitVec 128 × List (BitVec 8) × Nat)
  /-- R393, R311, 14, 11: RD requests of other chips that wait for a host to give a line up; reset empty. -/
  waiting : List (BitVec 128)
  /-- R497, R498, 19: DELTAs stored in the control region; reset empty. -/
  stored  : List (BitVec 128 × List (BitVec 8))
  /-- R410, R413, 14: the rebuild engine; reset as `Rebuild`, LOST2 0x3F. -/
  rebuild : Rebuild
  deriving DecidableEq, Repr, Inhabited

/-! ### Security (15), dictionary (16), complexes (17) -/

/-- Life cycle and keys (15). -/
structure SecState where
  /-- R417, 15: LC_STATE in force, 8 bits; reset from fuses, PRESUMED 3 (FIELD). -/
  lcState  : BitVec 8
  /-- R418, 15: state burnt and waiting for a cold reset; reset none. -/
  lcNext   : Option (BitVec 8)
  /-- R426, 15: MIN_SVN fuse counter, 8 bits; reset from fuses, 0 at manufacture. -/
  minSvn   : BitVec 8
  /-- OD 0x6000:05 RUNNING_SVN, 15; 8 bits; reset DESIGN CHOICE 0. -/
  runSvn   : BitVec 8
  /-- OD 0x6000:06 DEVICE_UID, 15; 64 bits; from fuses, DESIGN CHOICE 0. -/
  uid      : BitVec 64
  /-- R421, 15: the identity secret is burnt, and its 512 bits; reset DESIGN CHOICE 1 and 0. -/
  identity : Bool
  secret   : BitVec 512
  /-- OD 0x1000:05 MAC_ADDRESS, 16; 48 bits; from fuses, DESIGN CHOICE 0. -/
  mac      : BitVec 48
  /-- R422, 15: certificate slots; reset DESIGN CHOICE empty. -/
  certs    : Tab (List (BitVec 8))
  /-- R431, 15: ring key, 512 bits; reset none. -/
  ringKey  : Option (BitVec 512)
  /-- R429, 15: generations of the whole key store, raised when all keys are regenerated; reset 0. -/
  keyEpoch : Nat
  /-- R431, 15: how many times the keys of a lost chip were loaded from its map copy, and the 512 bits of those keys by the
  model's key number; reset 0, empty. -/
  keyOrigin : Nat
  loaded    : Tab (BitVec 512)
  /-- R419, R424, 15: the public keys that tokens and manifests are checked with: life cycle, production, test; fixed in the
  silicon; DESIGN CHOICE the base point of P-521. -/
  lcKey    : Nat × Nat
  prodKey  : Nat × Nat
  testKey  : Nat × Nat
  /-- R429, 15: entropy failures in a row; reset 0. -/
  entropy  : Nat
  /-- R422, 15: manifest of the running image, bytes 0-127, which seeds the alias key; reset none. -/
  manifest : Option (BitVec 1024)
  deriving DecidableEq, Repr, Inhabited

/-- R443, R445, R448, 16. What the service keeps for a client. -/
structure ClientSt where
  client : Client
  /-- CONTEXT_SELECT, 08; 16 bits; reset 0. -/
  ctxSel : BitVec 16
  /-- TIER_MAP_LOOKUP and DIRECTORY_LOOKUP keys, 02, 11; reset DESIGN CHOICE 0. -/
  tierKey : BitVec 32
  dirKey  : BitVec 64
  /-- R546, 22: fault-log read position; reset DESIGN CHOICE 0. -/
  logPos : BitVec 32
  /-- R445, 16: staged segments: entry and bytes; reset none. -/
  staged : Option (Nat × List (BitVec 8))
  /-- R445, 16: latched value of a segmented read: entry and bytes; reset none. -/
  latch  : Option (Nat × List (BitVec 8))
  /-- R448, 16: the response kept, with its SEQ, INDEX and SUBINDEX; reset none. -/
  kept   : Option (BitVec 128 × BitVec 128 × List (BitVec 8))
  deriving DecidableEq, Repr

/-- The option record (16). -/
structure OptState where
  /-- OD 0x1010:01 OPTION_IN_USE, 16; 2048 bits; reset the Reset column of R455 until read. -/
  inUse   : BitVec 2048
  /-- R455, R456, 16: the two flash copies with their commit words; reset DESIGN CHOICE erased. -/
  copy0   : BitVec 2048
  commit0 : BitVec 32
  copy1   : BitVec 2048
  commit1 : BitVec 32
  /-- R456, 16: which copy is in use; reset 0. -/
  used    : Bool
  /-- OD 0x1010:03 OPTION_STATE, 16; 8 bits; reset 0. -/
  st      : BitVec 8
  /-- R457, 16: the record being stored; reset none. -/
  writing : Option (BitVec 2048)
  deriving DecidableEq, Repr, Inhabited

/-- R463, 17. States of a control complex. -/
inductive CxSt where
  | booting
  | resync
  | standby
  | active
  | failed
  | held
  deriving DecidableEq, Repr, Inhabited

/-- A control complex (17). -/
structure Complex where
  /-- R463, 17: COMPLEX_A_STATE / COMPLEX_B_STATE; reset BOOTING. -/
  st      : CxSt
  /-- R461, 17: heartbeats missed in a row; reset 0. -/
  missed  : Nat
  /-- R463, 17: failures in RESTART_WINDOW (times in ns); reset empty. -/
  fails   : List Nat
  /-- R468, 17: it lost control by failure and is owed a return; reset 0. -/
  owed    : Bool
  /-- R469, 17: it runs or boots the staged image; reset 0. -/
  staged  : Bool
  /-- R469: SVN and INTERFACE_VERSION of its image; reset 0. -/
  svn     : BitVec 8
  iver    : BitVec 32
  deriving DecidableEq, Repr, Inhabited

/-- The control complexes and the firmware update (17). -/
structure CxState where
  a        : Complex
  b        : Complex
  /-- OD 0x7C00:01 ACTIVE_COMPLEX, 17; reset A. -/
  active   : Cx
  /-- R465, R467, 17: a fail-over gap is open; reset 0. -/
  gap      : Bool
  /-- R370, R471, 13, 17: INTERFACE_VERSION before the gap; reset 0. -/
  gapIver  : BitVec 32
  /-- R470, 17: planned switch-overs deferred: to which complex; reset none. -/
  deferred : Option Cx
  /-- OD 0x7C10:05 FW_UPDATE_STATE, 17; 16 bits; reset 0. -/
  fwState  : BitVec 16
  /-- R472, 17: staging image area, in canonical form (unlisted: 0); reset DESIGN CHOICE 0. -/
  staging  : List Host.Cell
  deriving DecidableEq, Repr, Inhabited

/-! ### Supply, power and thermal control (18) -/

/-- Power and thermal state (18). -/
structure PwrState where
  /-- R475, 18: the hot-swap gate is on; reset 1. -/
  gateOn    : Bool
  /-- R475, R477, 18: the gate-off is latched until PRST_N; reset 0. -/
  latched   : Bool
  /-- R476, 18: SUPPLY_GATE_OFF is to be written; reset 0. -/
  gateRec   : Bool
  /-- R474, 18: the last 64 bus samples (mV, mA), newest first; reset empty. -/
  samples   : List (Nat × Int)
  /-- R486, 18: samples in a row with bus power above POWER_EMERGENCY, and bus voltage below 38 V; reset 0. -/
  powerHi   : Nat
  busLow    : Nat
  /-- R486, 18: rails with a regulator warning; reset none. -/
  warnings  : List Nat
  /-- R481, 18: core, HBM and DIMM readings in 0.1 °C; reset 0. -/
  core      : Tab Int
  hbm       : Tab Int
  dimm      : Tab Int
  /-- R481, 18: reads failed in a row by sensor of R564, and the sensors absent; reset none. -/
  missed    : Tab Nat
  absent    : List Nat
  /-- R481, R522, 18, 21: VDD_CORE as last read, in mV; reset 800. -/
  vddRead   : Nat
  /-- R484, 18: step in force and pending step, 3 bits; reset 0. -/
  step      : BitVec 3
  pend      : BitVec 3
  /-- R480, 18: an upward step that waits for its voltage, and whether the regulator has settled; reset none. -/
  raise     : Option (BitVec 3)
  settled   : Bool
  /-- R480, 18: a raise was given up, and the next power-loop run tries again; reset 0. -/
  slow      : Bool
  /-- R482, R483, R487, R488, 18: the steps that the sources request; reset none. -/
  reqPower  : BitVec 3
  reqTherm  : Option (BitVec 3)
  /-- R483, 18: time from which every core sensor has been 3 °C below THROTTLE_TEMP; reset none. -/
  coolFrom  : Option Nat
  /-- R487, 18: the emergency clamp is requested; reset 0. -/
  clamp     : Bool
  /-- R488, 18: THROTTLE_N held low by another device is requested; reset 0. -/
  pin       : Bool
  /-- R486, R487, 18: an emergency is active; EMERGENCY is still held after it; thermal; when it began; lowest step; reset 0. -/
  emerg     : Bool
  emergHold : Bool
  emergAt   : Nat
  emergLow  : BitVec 3
  /-- R484, 18: VDD_CORE_MV, 16 bits; reset 800. -/
  vddMv     : BitVec 16
  /-- R478, R553, 18, 23: VDD_SRAM setpoint in mV, 16 bits; reset 850. -/
  sramMv    : BitVec 16
  /-- OD 0x2200:04 AVS_TARGETS, 18; six values in mV; reset DESIGN CHOICE the ranges' maxima. -/
  avs       : Tab Nat
  /-- OD 0x2200:02 PWM_DUTY, 18; four values in 1/256; reset 255 (PWM high in reset, R557). -/
  pwm       : Tab Nat
  /-- R488, R487, 18: the chip drives THROTTLE_N low; reset 0. -/
  thrDrive  : Bool
  /-- R489, 18: THERMTRIP_N is asserted; reset 0. -/
  thermtrip : Bool
  deriving DecidableEq, Repr, Inhabited

/-! ### Reset and bring-up (19), clocks (20), test (21) -/

/-- R499, 19. States of the bring-up machine. -/
inductive BringUp where
  | reset
  | options
  | pll
  | trainHbm
  | trainDdr
  | verify
  | fill
  | released
  | active
  | stopped
  deriving DecidableEq, Repr, Inhabited

/-- R491, 19. Chip-level reset kinds. -/
inductive ResetKind where
  | cold
  | warmHeld
  | warmLost
  deriving DecidableEq, Repr, Inhabited

/-- Reset and bring-up (19). -/
structure RstState where
  /-- OD 0x7C20:04 BRINGUP_PHASE, 19; reset RESET. -/
  phase   : BringUp
  /-- OD 0x7C20:01 RESET_CAUSE, 19; 8 bits; set at reset, 1 (power-on). -/
  cause   : BitVec 8
  /-- OD 0x7C20:02 RESET_SOURCES, 19; 16 bits; set at reset, bit 1. -/
  sources : BitVec 16
  /-- OD 0x7C20:03 RESET_KIND, 19; set at reset, COLD. -/
  kind    : ResetKind
  /-- R497, 19: the WARM_HELD entry sequence is running; reset 0. -/
  entry   : Bool
  /-- R494, 19: PRST_N is held low; reset DESIGN CHOICE 1 at power-on. -/
  prstLow : Bool
  /-- R503, 19: training had completed; the HBM fill has ended; reset 0. -/
  trained : Bool
  hbmDone : Bool
  /-- R496: ports, links and complexes that were reset on their own and are isolated; reset none. -/
  isolated : List Block
  /-- OD 0x7C20:05 BRINGUP_TIMES, 19; ten durations in µs; reset DESIGN CHOICE 0. -/
  times   : Tab Nat
  /-- R499: time at which the phase was entered; reset 0. -/
  since   : Nat
  /-- R356, R499, 13: crash record and FAULT_N of STOPPED; reset 0. -/
  stopped : Bool
  deriving DecidableEq, Repr, Inhabited

/-- Clocks and time (20). -/
structure ClkState where
  /-- R515, R516, 20: core copy of the time base in ns, 64 bits; reset 0 at the SID's first power. -/
  now     : Nat
  /-- R516, 20: ns for which the copy, found ahead of the SID, still holds its value; reset none. -/
  holdTo  : Option Nat
  /-- OD 0x7C40:02 FRAME_TIME, 20; frame number and time base at its start; reset DESIGN CHOICE 0. -/
  frameTime : BitVec 64 × BitVec 64
  /-- R514, R519, 20: CLOCK_STATUS, 32 bits; reset 0. -/
  status  : BitVec 32
  /-- R514, 20: clocks off frequency in the last window, by status code; reset none. -/
  suspect : List Nat
  /-- R514: failed core or DDR PLLs behind CORE_PLL; reset none. -/
  coreBad : List Nat
  /-- R518, 20: DOMAIN_CYCLES by domain, in millionths of a cycle; reset 0. -/
  cycles  : Tab Nat
  deriving DecidableEq, Repr, Inhabited

/-- Self-test and the test port (21). -/
structure TestState where
  /-- R530, 21: instruction register of the TAP, 8 bits; reset 0x01 (IDCODE). -/
  tapIr   : BitVec 8
  /-- R530, 21: boundary register sample; reset DESIGN CHOICE 0. -/
  boundary : Nat
  /-- R529, 21: vats and pattern slices started on demand; reset none. -/
  vatTest : Option Nat
  /-- R522, 21: the physical vat whose slice runs; reset none. -/
  testing : Option Nat
  /-- OD 0x7010 VAT_SIGNATURE by physical vat: SEED_INDEX and signature; reset 0. -/
  sigs    : Tab (Nat × BitVec 2048)
  /-- R532, 21: light counters 2 to 175, 64 bits each; reset 0. -/
  light   : Tab Nat
  /-- R534, 21: counter records queued, oldest first: (context, record); reset empty. -/
  records : List (Nat × BitVec 1024)
  deriving DecidableEq, Repr, Inhabited

/-! ### What the chip drives on its interfaces -/

/-- The model's own record of what the block sends out, newest first. -/
inductive Out where
  | hostData (p : Fin 4) (req : Nat) (data : List (BitVec 8)) (poison : Bool) (mv : MetaValue)
  | hostCmp (p : Fin 4) (req : Nat)
  | bisnp (r : Nat) (line : Nat) (inv : Bool)
  | biConflictAck (r : Nat) (line : Nat)
  | readerData (rd : Reader) (dpa : Nat) (data : List (BitVec 8)) (poison : Bool)
  | fmApi (ok : Bool)
  | odResponse (c : Client) (hdr : BitVec 128) (data : List (BitVec 8))
  | status (c : Client) (st : BitVec 8) (value : Nat)
  | msix (f : Nat) (vec : Nat)
  | notify (dest : BitVec 144) (hdr : BitVec 128) (data : List (BitVec 8))
  | mailbox (f : Nat) (code : Nat) (words : List Nat)
  | doe (f : Nat) (words : List Nat)
  | spdm (r : SpdmPath) (code : Nat) (words : List Nat)
  | packet (p : Fin 4) (flit : BitVec 96) (hdr : BitVec 128) (data : List (BitVec 8))
  | flit (p : Fin 4) (header : BitVec 96) (payload : Nat)
  | replay (p : Fin 4) (seqs : List (BitVec 12))
  | marker (p : Fin 4) (frame : BitVec 64) (master lock : Nat)
  | echo (p : Fin 4) (probe : BitVec 16)
  | atsRequest (p : Fin 4) (pasid : Option Nat) (va : Nat) (noWrite priv : Bool)
  | invCompletion (p : Fin 4) (tag : Nat)
  | regulator (rail mv : Nat)
  | network (kind : Nat) (data : List (BitVec 8))
  | i3cAddress (a : BitVec 7)
  | tdo (value : Nat)
  | gate (on : Bool)
  | caReplay (sl ch : Nat) (cmds : List DramCmd)
  | busError (dpa : Nat)
  | cfg (f : Nat) (valid active : Bool) (timeout : Nat)
  | cdat (f : Nat) (words : List Nat)
  deriving DecidableEq, Repr

/-- The state of the block. -/
structure State where
  /-- The commands that wait, first in, first out; reset empty. -/
  pending : List Instr
  /-- R440-R442, 16: every dictionary entry that holds a value of its own, by index × 256 + subindex; absent: its stated default; reset empty. -/
  od      : Tab Nat
  flt     : FaultState
  cal     : CalState
  med     : MediaState
  vat     : VatState
  ctxs    : Tab Ctx
  tlb     : TlbState
  coh     : CohState
  reg     : RegionState
  tenants : Tab Tenant
  host    : HostState
  pool    : PoolState
  sec     : SecState
  clients : List ClientSt
  opt     : OptState
  cx      : CxState
  pwr     : PwrState
  rst     : RstState
  clk     : ClkState
  tst     : TestState
  /-- R452, 16: the I3C dynamic address, 7 bits; reset none. -/
  i3c     : Option (BitVec 7)
  /-- The model's own: what the block has sent, newest first; reset empty. -/
  out     : List Out
  /-- The model's own: number of the next free value; reset DESIGN CHOICE 0. -/
  fresh   : Nat
  /-- The part: -H64 (else -H36), R2, R3, 00; a constant of the chip, DESIGN CHOICE -H64 at reset. -/
  h64     : Bool
  deriving DecidableEq, Repr

/-- Why a step stops the machine. No rule of the manual stops the chip on a command, so there is no such reason. -/
inductive Fault where
  deriving DecidableEq, Repr

/-- Why a command has no meaning in the model. -/
inductive Refusal where
  /-- An arm of exec that has no meaning yet. Safe. -/
  | notModelled (mnemonic : String)
  deriving DecidableEq, Repr

/-- The option record of an erased flash: the Reset column of R455 (PLCA_NODE_ID 255, PLCA_NODE_COUNT 8, else 0), 16. -/
def defaultOptions : BitVec 2048 := BitVec.ofNat 2048 (255 * 2 ^ 176 + 8 * 2 ^ 184)

/-- The base point of P-521 (FIPS 186-5), the DESIGN CHOICE of the public keys that the manual does not print (log entry 144). -/
def basePoint : Nat × Nat :=
  (0xC6858E06B70404E9CD9E3ECB662395B4429C648139053FB521F828AF606B4D3DBAA14B5E77EFE75928FE1DC127A2FFA8DE3348B3C1856A429BF97E7E31C2E5BD66,
   0x11839296A789A3BC0045C8A5FB42C7D1BD998F54449579B446817AFBD17273E662C97EE72995EF42640C550B9013FAD0761353C7086A272C24088BE94769FD16650)

/-- The chip right after a power-on cold reset (R491, R492): no firmware, no training, every entry at its default. -/
def State.reset : State where
  pending := []
  od      := []
  flt     := default
  cal     := default
  med     := default
  vat     := { vats := [], lmap := [], spare := some 32, repair := some 33, failures := [], due := [],
               head := [], takeover := none, toTest := [], testPos := 0, lastCtx := 1023, vatPllBad := false }
  ctxs    := []
  tlb     := default
  coh     := { dir := [], queue := [], abuf := [], startUp := true, recovery := false, dead := [], sweep := [],
               pred := [], jobs := [], age := 0 }
  reg     := default
  tenants := []
  host    := { ports := [], funcs := [], windows := [], gapQueue := [], gapLost := 0, boot := default, glaze := [],
               active := false, gfd := [], access := [], viol := [], sessions := [], agreed := [] }
  pool    := { (default : PoolState) with rebuild := { (default : Rebuild) with lost2 := 0x3F } }
  sec     := { (default : SecState) with lcState := 3, identity := true, lcKey := basePoint, prodKey := basePoint, testKey := basePoint }
  clients := []
  opt     := { (default : OptState) with
               inUse := defaultOptions, copy0 := BitVec.allOnes 2048, commit0 := BitVec.allOnes 32,
               copy1 := BitVec.allOnes 2048, commit1 := BitVec.allOnes 32 }
  cx      := { a := default, b := default, active := .A, gap := false, gapIver := 0, deferred := none, fwState := 0, staging := [] }
  pwr     := { (default : PwrState) with gateOn := true, vddRead := 800, vddMv := 800, sramMv := 850 }
  rst     := { (default : RstState) with phase := .reset, cause := 1, sources := 2, kind := .cold, prstLow := true }
  clk     := default
  tst     := { (default : TestState) with tapIr := 1 }
  i3c     := none
  out     := []
  fresh   := 0
  h64     := true

end Machine
end Sys2Proof
end

