-- ==== Sys2Proof/Machine/Crypto.lean ====
section
/-! DEFINITION. The cryptography that the manual takes from published standards (R14): SHA-512 (FIPS 180-4), AES-256
(FIPS 197) with its XTS and GCM modes (SP 800-38E, SP 800-38D), and ECDSA on P-521 (FIPS 186-5). A byte string is a list, its
first byte first; a digest or key is the number of its bytes, least significant first (R11). -/

namespace Sys2Proof
namespace Machine

/-! ### SHA-512 (FIPS 180-4) -/

/-- The 80 round constants. -/
def shaK : List Nat :=
  [0x428a2f98d728ae22, 0x7137449123ef65cd, 0xb5c0fbcfec4d3b2f, 0xe9b5dba58189dbbc,
    0x3956c25bf348b538, 0x59f111f1b605d019, 0x923f82a4af194f9b, 0xab1c5ed5da6d8118,
    0xd807aa98a3030242, 0x12835b0145706fbe, 0x243185be4ee4b28c, 0x550c7dc3d5ffb4e2,
    0x72be5d74f27b896f, 0x80deb1fe3b1696b1, 0x9bdc06a725c71235, 0xc19bf174cf692694,
    0xe49b69c19ef14ad2, 0xefbe4786384f25e3, 0x0fc19dc68b8cd5b5, 0x240ca1cc77ac9c65,
    0x2de92c6f592b0275, 0x4a7484aa6ea6e483, 0x5cb0a9dcbd41fbd4, 0x76f988da831153b5,
    0x983e5152ee66dfab, 0xa831c66d2db43210, 0xb00327c898fb213f, 0xbf597fc7beef0ee4,
    0xc6e00bf33da88fc2, 0xd5a79147930aa725, 0x06ca6351e003826f, 0x142929670a0e6e70,
    0x27b70a8546d22ffc, 0x2e1b21385c26c926, 0x4d2c6dfc5ac42aed, 0x53380d139d95b3df,
    0x650a73548baf63de, 0x766a0abb3c77b2a8, 0x81c2c92e47edaee6, 0x92722c851482353b] ++
  [0xa2bfe8a14cf10364, 0xa81a664bbc423001, 0xc24b8b70d0f89791, 0xc76c51a30654be30,
    0xd192e819d6ef5218, 0xd69906245565a910, 0xf40e35855771202a, 0x106aa07032bbd1b8,
    0x19a4c116b8d2d0c8, 0x1e376c085141ab53, 0x2748774cdf8eeb99, 0x34b0bcb5e19b48a8,
    0x391c0cb3c5c95a63, 0x4ed8aa4ae3418acb, 0x5b9cca4f7763e373, 0x682e6ff3d6b2b8a3,
    0x748f82ee5defb2fc, 0x78a5636f43172f60, 0x84c87814a1f0ab72, 0x8cc702081a6439ec,
    0x90befffa23631e28, 0xa4506cebde82bde9, 0xbef9a3f7b2c67915, 0xc67178f2e372532b,
    0xca273eceea26619c, 0xd186b8c721c0c207, 0xeada7dd6cde0eb1e, 0xf57d4f7fee6ed178,
    0x06f067aa72176fba, 0x0a637dc5a2c898a6, 0x113f9804bef90dae, 0x1b710b35131c471b,
    0x28db77f523047d84, 0x32caab7b40c72493, 0x3c9ebe0a15c9bebc, 0x431d67c49c100d4c,
    0x4cc5d4becb3e42b6, 0x597f299cfc657e2a, 0x5fcb6fab3ad6faec, 0x6c44198c4a475817]

/-- The initial hash value. -/
def shaInit : List Nat :=
  [0x6a09e667f3bcc908, 0xbb67ae8584caa73b, 0x3c6ef372fe94f82b, 0xa54ff53a5f1d36f1,
    0x510e527fade682d1, 0x9b05688c2b3e6c1f, 0x1f83d9abfb41bd6b, 0x5be0cd19137e2179]

/-- Rotation right in 64 bits. -/
def rotr64 (n x : Nat) : Nat := (x >>> n) ||| ((x <<< (64 - n)) % 2 ^ 64)

/-- The message schedule, newest word first. -/
def shaSchedule : Nat → List Nat → List Nat
  | 0, w => w
  | n + 1, w =>
    let a := w.getD 1 0
    let b := w.getD 14 0
    let s1 := rotr64 19 a ^^^ rotr64 61 a ^^^ (a >>> 6)
    let s0 := rotr64 1 b ^^^ rotr64 8 b ^^^ (b >>> 7)
    shaSchedule n ((s1 + w.getD 6 0 + s0 + w.getD 15 0) % 2 ^ 64 :: w)

/-- One round over the eight working variables, a first. -/
def shaRound (v : List Nat) (kw : Nat) : List Nat :=
  match v with
  | [a, b, c, d, e, f, g, h] =>
    let t1 := h + (rotr64 14 e ^^^ rotr64 18 e ^^^ rotr64 41 e) + ((e &&& f) ^^^ ((2 ^ 64 - 1 - e) &&& g)) + kw
    let t2 := (rotr64 28 a ^^^ rotr64 34 a ^^^ rotr64 39 a) + ((a &&& b) ^^^ (a &&& c) ^^^ (b &&& c))
    [(t1 + t2) % 2 ^ 64, a, b, c, (d + t1) % 2 ^ 64, e, f, g]
  | _ => v

/-- The number whose bytes are given, most significant first. -/
def beNat (bs : List (BitVec 8)) : Nat := bs.foldl (fun n b => n * 256 + b.toNat) 0

/-- The `n` low bytes of a number, most significant first. -/
def beBytes (n v : Nat) : List (BitVec 8) := (leBytes n v).reverse

/-- One block of 128 bytes. -/
def shaBlock (h : List Nat) (block : List (BitVec 8)) : List Nat :=
  let w := ((List.range 16).map (fun i => beNat ((block.drop (8 * i)).take 8))).reverse
  let ks := List.zipWith (fun k w => k + w) shaK (shaSchedule 64 w).reverse
  List.zipWith (fun a b => (a + b) % 2 ^ 64) h (ks.foldl shaRound h)

/-- The message padded to whole blocks. -/
def shaPad (bs : List (BitVec 8)) : List (BitVec 8) :=
  let n := bs.length
  bs ++ 0x80 :: List.replicate ((239 - n % 128) % 128) 0 ++ beBytes 16 (8 * n)

/-- The blocks of a padded message, `n` of them. -/
def shaBlocks : Nat → List Nat → List (BitVec 8) → List Nat
  | 0, h, _ => h
  | n + 1, h, bs => shaBlocks n (shaBlock h (bs.take 128)) (bs.drop 128)

/-- SHA-512 of a byte string, as 64 bytes. -/
def sha512Bytes (bs : List (BitVec 8)) : List (BitVec 8) :=
  let p := shaPad bs
  (shaBlocks (p.length / 128) shaInit p).flatMap (beBytes 8)

/-- SHA-512 of a byte string, as the number of its bytes. -/
def sha512 (bs : List (BitVec 8)) : BitVec 512 := BitVec.ofNat 512 (leNat (sha512Bytes bs))

/-! ### AES-256 (FIPS 197). A block is a list of 16 bytes as numbers. -/

/-- The S-box and its inverse, entry 0 lowest. -/
def aesSboxTable : Nat :=
  0x16bb54b00f2d99416842e6bf0d89a18cdf2855cee9871e9b948ed9691198f8e19e1dc186b95735610ef6034866b53e708a8bbd4b1f74dde8c6b4a61c2e2578ba08ae7a65eaf4566ca94ed58d6d37c8e779e4959162acd3c25c2406490a3a32e0db0b5ede14b8ee4688902a22dc4f816073195d643d7ea7c41744975fec130ccdd2f3ff1021dab6bcf5389d928f40a351a89f3c507f02f94585334d43fbaaefd0cf584c4a39becb6a5bb1fc20ed00d153842fe329b3d63b52a05a6e1b1a2c830975b227ebe28012079a059618c323c7041531d871f1e5a534ccf73f362693fdb7c072a49cafa2d4adf04759fa7dc982ca76abd7fe2b670130c56f6bf27b777c63
def aesInvTable : Nat :=
  0x7d0c2155631469e126d677ba7e042b17619953833cbbebc8b0f52aae4d3be0a0ef9cc9939f7ae52d0d4ab519a97f51605fec8027591012b131c7078833a8dd1ff45acd78fec0db9a2079d2c64b3e56fc1bbe18aa0e62b76f89c5291d711af1476edf751ce837f9e28535ade72274ac9673e6b4f0cecff297eadc674f4111913a6b8a130103bdafc1020f3fca8f1e2cd00645b3b80558e4f70ad3bc8c00abd890849d8da75746155edab9edfd5048706c92b6655dcc5ca4d41698688664f6f87225d18b6d49a25b76b224d92866a12e084ec3fa420b954cee3d23c2a632947b54cbe9dec444438e3487ff2f9b8239e37cfbd7f3819ea340bf38a53630d56a0952

def aesSub (x : Nat) : Nat := bitsAt aesSboxTable (8 * x + 7) (8 * x)
def aesInvSub (x : Nat) : Nat := bitsAt aesInvTable (8 * x + 7) (8 * x)

/-- Product in GF(2^8) with x^8 + x^4 + x^3 + x + 1, over the low `n` bits of the second factor. -/
def aesMulN : Nat → Nat → Nat → Nat
  | 0, _, _ => 0
  | n + 1, a, b =>
    (if b % 2 = 1 then a else 0) ^^^ aesMulN n (if a ≥ 128 then (a * 2) ^^^ 0x11B else a * 2) (b / 2)

/-- Exclusive-or of two lists of numbers. -/
def xorNats (a b : List Nat) : List Nat := List.zipWith (fun x y => x ^^^ y) a b

/-- The next eight words of the key schedule from the last eight, with a round constant. -/
def aesNextKey (k : List Nat) (rcon : Nat) : List Nat :=
  let word (i : Nat) : List Nat := (k.drop (4 * i)).take 4
  let last := word 7
  let t := xorNats ((last.drop 1 ++ last.take 1).map aesSub) [rcon, 0, 0, 0]
  let n0 := xorNats (word 0) t
  let n1 := xorNats (word 1) n0
  let n2 := xorNats (word 2) n1
  let n3 := xorNats (word 3) n2
  let n4 := xorNats (word 4) (n3.map aesSub)
  let n5 := xorNats (word 5) n4
  let n6 := xorNats (word 6) n5
  n0 ++ n1 ++ n2 ++ n3 ++ n4 ++ n5 ++ n6 ++ xorNats last n6

/-- The fifteen round keys of a 256-bit key. -/
def aesRoundKeys (key : List Nat) : List (List Nat) :=
  let all := ([1, 2, 4, 8, 16, 32, 64] : List Nat).foldl (fun (a : List Nat × List Nat) r =>
    let k := aesNextKey a.2 r
    (a.1 ++ k, k)) (key, key)
  (List.range 15).map (fun i => (all.1.drop (16 * i)).take 16)

/-- The rows of a block shifted by `d` places per row. -/
def aesShift (d : Nat) (b : List Nat) : List Nat := (List.range 16).map (fun i => b.getD ((i + d * 4 * (i % 4)) % 16) 0)

/-- A matrix of rows that are one another rotated, times each column. -/
def aesMix (m : List Nat) (b : List Nat) : List Nat :=
  (List.range 16).map (fun i => (List.range 4).foldl (fun a j =>
    a ^^^ aesMulN 8 (b.getD (i / 4 * 4 + (i + j) % 4) 0) (m.getD j 0)) 0)

/-- Encryption of a block under round keys. -/
def aesEncrypt (ks : List (List Nat)) (b : List Nat) : List Nat :=
  match ks with
  | [] => b
  | k0 :: rest =>
    let mid := (rest.take 13).foldl (fun b k => xorNats (aesMix [2, 3, 1, 1] (aesShift 1 (b.map aesSub))) k) (xorNats b k0)
    xorNats (aesShift 1 (mid.map aesSub)) (rest.getD 13 [])

/-- Decryption of a block under round keys. -/
def aesDecrypt (ks : List (List Nat)) (b : List Nat) : List Nat :=
  match ks.reverse with
  | [] => b
  | k14 :: rest =>
    let mid := (rest.take 13).foldl (fun b k => aesMix [14, 11, 13, 9] (xorNats ((aesShift 3 b).map aesInvSub) k)) (xorNats b k14)
    xorNats ((aesShift 3 mid).map aesInvSub) (rest.getD 13 [])

/-- Bytes as numbers, and back. -/
def toNats (bs : List (BitVec 8)) : List Nat := bs.map BitVec.toNat
def ofNats (ns : List Nat) : List (BitVec 8) := ns.map (BitVec.ofNat 8)

/-! ### XTS (SP 800-38E, R427) -/

/-- The tweak of the next block: times α in GF(2^128), least significant byte first. -/
def xtsNext (t : Nat) : Nat := if t ≥ 2 ^ 127 then (t * 2 - 2 ^ 128) ^^^ 0x87 else t * 2

/-- The tweak of block `j`. -/
def xtsTweak (t : Nat) : Nat → Nat
  | 0 => t
  | j + 1 => xtsNext (xtsTweak t j)

/-- R427: the blocks from `j` on of data unit `line`, each passed through `f` between two additions of its tweak. -/
def xtsBlocks (f : List Nat → List Nat) (t : Nat) : Nat → Nat → List (BitVec 8) → List (BitVec 8)
  | 0, _, _ => []
  | n + 1, j, bs =>
    let tw := toNats (leBytes 16 (xtsTweak t j))
    ofNats (xorNats (f (xorNats (toNats (bs.take 16)) tw)) tw) ++ xtsBlocks f t n (j + 1) (bs.drop 16)

/-- The first tweak of a line: its number encrypted under the tweak key, the high half of the slot's key. -/
def xtsFirst (key : BitVec 512) (line : Nat) : Nat :=
  leNat (ofNats (aesEncrypt (aesRoundKeys (toNats (leBytes 32 (bits key 511 256)))) (toNats (leBytes 16 line))))

/-- R427: the ciphertext of the 32 B half of a line that begins at DPA 32 × `half`, under a slot's key. -/
def xtsSeal (key : BitVec 512) (half : Nat) (plain : List (BitVec 8)) : List (BitVec 8) :=
  xtsBlocks (aesEncrypt (aesRoundKeys (toNats (leBytes 32 (bits key 255 0))))) (xtsFirst key (half / 2)) 2 (half % 2 * 2) plain

/-- R427: the plaintext of a half line. -/
def xtsOpen (key : BitVec 512) (half : Nat) (sealed : List (BitVec 8)) : List (BitVec 8) :=
  xtsBlocks (aesDecrypt (aesRoundKeys (toNats (leBytes 32 (bits key 255 0))))) (xtsFirst key (half / 2)) 2 (half % 2 * 2) sealed

/-! ### GCM (SP 800-38D, R363) -/

/-- Product in the field of GHASH, over `n` bits of `x` from the most significant on. -/
def ghashMul : Nat → Nat → Nat → Nat
  | 0, _, _ => 0
  | n + 1, x, v =>
    (if bitAt x n then v else 0) ^^^ ghashMul n x (if v % 2 = 1 then (v / 2) ^^^ (0xE1 * 2 ^ 120) else v / 2)

/-- The 16-byte blocks of a byte string, the last filled with zero. -/
def blocks16 : Nat → List (BitVec 8) → List (List (BitVec 8))
  | 0, _ => []
  | n + 1, bs => fitBytes 16 (bs.take 16) :: blocks16 n (bs.drop 16)

/-- GHASH of blocks under a hash key. -/
def ghash (h : Nat) (bs : List (List (BitVec 8))) : Nat := bs.foldl (fun y b => ghashMul 128 (y ^^^ beNat b) h) 0

/-- Counter-mode output from counter `c` on over `n` blocks. -/
def gctr (ks : List (List Nat)) (iv : List (BitVec 8)) : Nat → Nat → List (BitVec 8) → List (BitVec 8)
  | 0, _, _ => []
  | n + 1, c, bs =>
    let k := ofNats (aesEncrypt ks (toNats (iv ++ beBytes 4 c)))
    List.zipWith (fun a b => a ^^^ b) (bs.take 16) k ++ gctr ks iv n (c + 1) (bs.drop 16)

/-- The tag of a ciphertext. -/
def gcmTag (ks : List (List Nat)) (iv aad ct : List (BitVec 8)) : List (BitVec 8) :=
  let h := beNat (ofNats (aesEncrypt ks (List.replicate 16 0)))
  let s := ghash h (blocks16 (ceilDiv aad.length 16) aad ++ blocks16 (ceilDiv ct.length 16) ct
    ++ [beBytes 8 (8 * aad.length) ++ beBytes 8 (8 * ct.length)])
  gctr ks iv 1 1 (beBytes 16 s)

/-- AES-256-GCM sealing: the ciphertext and its 16-byte tag. The initialisation vector is the 96 bits' bytes, least
significant first. -/
def gcmSeal (key : BitVec 256) (iv : BitVec 96) (aad body : List (BitVec 8)) : List (BitVec 8) :=
  let ks := aesRoundKeys (toNats (leBytes 32 key.toNat))
  let v := leBytes 12 iv.toNat
  let ct := gctr ks v (ceilDiv body.length 16) 2 body
  ct ++ gcmTag ks v aad ct

/-- AES-256-GCM opening: the plaintext where the tag, the last 16 bytes, verifies. -/
def gcmOpen (key : BitVec 256) (iv : BitVec 96) (aad sealed : List (BitVec 8)) : Option (List (BitVec 8)) :=
  let ks := aesRoundKeys (toNats (leBytes 32 key.toNat))
  let v := leBytes 12 iv.toNat
  let n := sealed.length - 16
  let ct := sealed.take n
  if gcmTag ks v aad ct = sealed.drop n then some (gctr ks v (ceilDiv n 16) 2 ct) else none

/-! ### ECDSA on P-521 (FIPS 186-5). A point stands in Jacobian coordinates; Z = 0 is the point at infinity. -/

/-- The prime, the order, the coefficient b and the base point of P-521. -/
def ecP : Nat := 2 ^ 521 - 1
def ecN : Nat :=
  0x1fffffffffffffffffffffffffffffffffffffffffffffffffffffffffffffffffa51868783bf2f966b7fcc0148f709a5d03bb5c9b8899c47aebb6fb71e91386409
def ecB : Nat :=
  0x51953eb9618e1c9a1f929a21a0b68540eea2da725b99b315f3b8b489918ef109e156193951ec7e937b1652c0bd3bb1bf073573df883d2c34f1ef451fd46b503f00
def ecG : Nat × Nat := basePoint

/-- Power modulo `m` by squaring, over `k` bits of the exponent from the most significant on. -/
def powMod (m b e : Nat) : Nat → Nat → Nat
  | 0, r => r
  | k + 1, r =>
    let q := r * r % m
    powMod m b e k (if bitAt e k then q * b % m else q)

/-- Inverse modulo a prime. -/
def invMod (m a : Nat) : Nat := powMod m a (m - 2) 521 1

/-- Difference modulo the prime. -/
def ecSub (a b : Nat) : Nat := (a + (ecP - b % ecP)) % ecP

/-- Twice a point. -/
def ecDouble (q : Nat × Nat × Nat) : Nat × Nat × Nat :=
  let (x, y, z) := q
  if z = 0 || y = 0 then (1, 1, 0)
  else
    let zz := z * z % ecP
    let m := 3 * (ecSub x zz * (x + zz) % ecP) % ecP
    let yy := y * y % ecP
    let s := 4 * (x * yy % ecP) % ecP
    let x3 := ecSub (m * m % ecP) (2 * s)
    (x3, ecSub (m * ecSub s x3 % ecP) (8 * (yy * yy % ecP)), 2 * (y * z % ecP) % ecP)

/-- A point plus an affine point. -/
def ecAdd (q : Nat × Nat × Nat) (a : Nat × Nat) : Nat × Nat × Nat :=
  let (x, y, z) := q
  if z = 0 then (a.1, a.2, 1)
  else
    let zz := z * z % ecP
    let h := ecSub (a.1 * zz % ecP) x
    let r := ecSub (a.2 * (z * zz % ecP) % ecP) y
    if h = 0 then (if r = 0 then ecDouble q else (1, 1, 0))
    else
      let hh := h * h % ecP
      let hhh := h * hh % ecP
      let v := x * hh % ecP
      let x3 := ecSub (ecSub (r * r % ecP) hhh) (2 * v)
      (x3, ecSub (r * ecSub v x3 % ecP) (y * hhh % ecP), z * h % ecP)

/-- A point in affine coordinates. -/
def ecAffine (q : Nat × Nat × Nat) : Nat × Nat :=
  let i := invMod ecP q.2.2
  let ii := i * i % ecP
  (q.1 * ii % ecP, q.2.1 * (i * ii % ecP) % ecP)

/-- u × P + v × Q over the low `n` bits, with `pq` the sum of P and Q where it has affine coordinates. -/
def ecMul2 (u v : Nat) (p q : Nat × Nat) (pq : Option (Nat × Nat)) : Nat → Nat × Nat × Nat → Nat × Nat × Nat
  | 0, r => r
  | n + 1, r =>
    let d := ecDouble r
    let s := match bitAt u n, bitAt v n, pq with
      | true, true, some s => ecAdd d s
      | true, true, none => d
      | true, false, _ => ecAdd d p
      | false, true, _ => ecAdd d q
      | false, false, _ => d
    ecMul2 u v p q pq n s

/-- k × G in affine coordinates. -/
def ecBase (k : Nat) : Nat × Nat := ecAffine (ecMul2 k 0 ecG ecG none 521 (1, 1, 0))

/-- Whether a pair is a point of the curve. -/
def ecOnCurve (q : Nat × Nat) : Bool :=
  q.1 < ecP && q.2 < ecP && q.2 * q.2 % ecP = (q.1 * q.1 % ecP * q.1 + ecB + ecP * 3 - 3 * q.1) % ecP

/-- A digest as the integer of FIPS 186-5: its bytes, most significant first. -/
def ecDigest (d : BitVec 512) : Nat := beNat (leBytes 64 d.toNat)

/-- FIPS 186-5, 6.4.2: whether (r, s) is a signature of a digest under a public key. -/
def ecdsaVerify (key : Nat × Nat) (digest : BitVec 512) (r s : Nat) : Bool :=
  if !(ecOnCurve key && 0 < r && r < ecN && 0 < s && s < ecN) then false
  else
    let w := invMod ecN s
    let sum := ecAdd (ecG.1, ecG.2, 1) key
    let pq := if sum.2.2 = 0 then none else some (ecAffine sum)
    let p := ecMul2 (ecDigest digest * w % ecN) (r * w % ecN) ecG key pq 521 (1, 1, 0)
    p.2.2 ≠ 0 && (ecAffine p).1 % ecN = r

/-- FIPS 186-5, 6.4.1: the signature (r, s) of a digest under the private key `d`, with the per-message secret `k`. -/
def ecdsaSign (d k : Nat) (digest : BitVec 512) : Nat × Nat :=
  let r := (ecBase k).1 % ecN
  (r, invMod ecN k * ((ecDigest digest + r * d) % ecN) % ecN)

/-- A pair of 528-bit numbers as one field: the first in the low 66 bytes, least significant byte first. -/
def ecPack (p : Nat × Nat) : BitVec 1056 := BitVec.ofNat 1056 (p.1 % 2 ^ 528 + p.2 % 2 ^ 528 * 2 ^ 528)

/-- The private key of the pair derived from a seed: in 1 to n - 1; the derivation is free (log entry 143). -/
def privateKey (seed : BitVec 512) : Nat := Config.privateKey seed % (ecN - 1) + 1

/-- The public key of the pair derived from a seed. -/
def publicKey (seed : BitVec 512) : BitVec 1056 := ecPack (ecBase (privateKey seed))

/-- The signature of a digest under the pair derived from a seed; the per-message secret is free (log entry 143). -/
def ecSign (seed digest : BitVec 512) : BitVec 1056 :=
  ecPack (ecdsaSign (privateKey seed) (Config.messageSecret seed digest % (ecN - 1) + 1) digest)

end Machine
end Sys2Proof
end

