-- ==== Sys2Proof/Machine/Table.lean ====
section
/-! DEFINITION. Sparse tables and byte memories: lists of numbered values, numbers strictly rising. A table stands for a
value at every number, with a default where nothing is listed. -/

namespace Sys2Proof
namespace Machine

/-- The value listed at `k`. -/
def Tab.find? {α : Type} : Tab α → Nat → Option α
  | [], _ => none
  | (j, v) :: t, k => if j = k then some v else Tab.find? t k

/-- The value at `k`, `d` where nothing is listed. -/
def Tab.get {α : Type} (t : Tab α) (k : Nat) (d : α) : α := (Tab.find? t k).getD d

/-- The table with `v` at `k`. -/
def Tab.set {α : Type} : Tab α → Nat → α → Tab α
  | [], k, v => [(k, v)]
  | (j, u) :: t, k, v =>
    if k < j then (k, v) :: (j, u) :: t
    else if k = j then (k, v) :: t
    else (j, u) :: Tab.set t k v

/-- The table with nothing at `k`. -/
def Tab.erase {α : Type} : Tab α → Nat → Tab α
  | [], _ => []
  | (j, u) :: t, k => if j = k then Tab.erase t k else (j, u) :: Tab.erase t k

/-- The table with `f` applied at `k`, from `d` where nothing is listed. -/
def Tab.mod {α : Type} (t : Tab α) (k : Nat) (d : α) (f : α → α) : Tab α := Tab.set t k (f (Tab.get t k d))

/-- The table with one value changed at every number of a list. -/
def Tab.setAll {α : Type} (t : Tab α) (ks : List Nat) (v : α) : Tab α := ks.foldl (fun t k => Tab.set t k v) t

/-- The table with the values of a list at the numbers from `base` on. -/
def Tab.setBlock {α : Type} (t : Tab α) (base : Nat) (vs : List α) : Tab α :=
  t.filter (fun p => p.1 < base) ++ (vs.zipIdx base).map (fun p => (p.2, p.1)) ++ t.filter (fun p => base + vs.length ≤ p.1)

/-- The values at `n` numbers from `base`, `d` where nothing is listed. -/
def Tab.block {α : Type} (t : Tab α) (base n : Nat) (d : α) : List α := (List.range n).map (fun i => Tab.get t (base + i) d)

/-- The byte at address `a`; an unlisted address reads 0. -/
def Mem.get (m : List Host.Cell) (a : Nat) : BitVec 8 := Tab.get m a 0

/-- The memory with byte `b` at `a`, in canonical form: 0 is not listed. -/
def Mem.set (m : List Host.Cell) (a : Nat) (b : BitVec 8) : List Host.Cell :=
  if b = 0 then Tab.erase m a else Tab.set m a b

/-- The `n` bytes from address `a`. -/
def Mem.read (m : List Host.Cell) : Nat → Nat → List (BitVec 8)
  | _, 0 => []
  | a, n + 1 => Mem.get m a :: Mem.read m (a + 1) n

/-- The memory with the bytes `bs` from address `a`. -/
def Mem.write (m : List Host.Cell) : Nat → List (BitVec 8) → List Host.Cell
  | _, [] => m
  | a, b :: bs => Mem.write (Mem.set m a b) (a + 1) bs

/-- The memory with those of the bytes `bs` from address `a` that the mask selects, bit 0 for the first. -/
def Mem.writeMask (m : List Host.Cell) : Nat → List (BitVec 8) → Nat → List Host.Cell
  | _, [], _ => m
  | a, b :: bs, k => Mem.writeMask (if k % 2 = 1 then Mem.set m a b else m) (a + 1) bs (k / 2)

/-- The memory with zero in the `n` bytes from `a`. -/
def Mem.zero (m : List Host.Cell) (a n : Nat) : List Host.Cell := m.filter (fun c => c.1 < a || a + n ≤ c.1)

/-- Whether the addresses rise strictly and no zero is listed. -/
def Mem.wf : List Host.Cell → Bool
  | [] => true
  | [(_, b)] => b != 0
  | (a, b) :: (c, d) :: t => a < c && b != 0 && Mem.wf ((c, d) :: t)

/-- Lists as sets of numbers. -/
def addNew (l : List Nat) (k : Nat) : List Nat := if l.contains k then l else k :: l

end Machine
end Sys2Proof
end

