-- ==== Sys2Proof/Machine/Params.lean ====
section
/-! DEFINITION. The object dictionary's rows (R439-R441), the defaults of its entries (R442), and how the model reads and
writes an entry that holds a value of its own. -/

namespace Sys2Proof
namespace Machine

/-- R440, 16. The types of entries; a DOMAIN's length is its chapter's. -/
inductive OdType where
  | bool
  | u8
  | u16
  | u32
  | u64
  | i16
  | i32
  | octets (n : Nat)
  | vstring (n : Nat)
  | domain
  deriving DecidableEq, Repr

/-- R441, 16. The access codes. -/
inductive OdAccess where
  | const
  | ro
  | rw
  | wo
  | rws
  deriving DecidableEq, Repr

/-- A row of a dictionary table: first index, how many indices in a row, first and last subindex, type, access, default. -/
structure OdRow where
  idx  : Nat
  n    : Nat
  lo   : Nat
  hi   : Nat
  ty   : OdType
  acc  : OdAccess
  dflt : Nat
  deriving DecidableEq, Repr

/-- Rows of the dictionary, part 0. -/
def odRows0 : List OdRow :=
  [ ⟨0x1000, 1, 1, 1, (.vstring 16), .const, 0⟩,
    ⟨0x1000, 1, 2, 2, (.vstring 16), .const, 0⟩,
    ⟨0x1000, 1, 3, 3, (.vstring 4), .const, 0⟩,
    ⟨0x1000, 1, 4, 4, .u32, .ro, 0⟩,
    ⟨0x1000, 1, 5, 5, (.octets 6), .const, 0⟩,
    ⟨0x1000, 1, 6, 6, .u16, .const, 0x1AB8⟩,
    ⟨0x1000, 1, 7, 7, .u8, .ro, 0⟩,
    ⟨0x1000, 1, 8, 8, .u64, .ro, 0⟩,
    ⟨0x1000, 1, 9, 9, .u64, .ro, 0⟩,
    ⟨0x1000, 1, 10, 10, .u64, .ro, 0⟩,
    ⟨0x1010, 1, 1, 1, (.octets 256), .ro, 0⟩,
    ⟨0x1010, 1, 2, 2, (.octets 256), .wo, 0⟩,
    ⟨0x1010, 1, 3, 3, .u8, .ro, 0⟩,
    ⟨0x2000, 1, 1, 1, .u32, .ro, 0⟩,
    ⟨0x2000, 1, 2, 2, .i32, .ro, 0⟩,
    ⟨0x2000, 1, 3, 3, .u32, .ro, 0⟩,
    ⟨0x2000, 1, 4, 4, .u32, .rws, 0x3E8⟩,
    ⟨0x2000, 1, 5, 5, .u32, .rws, 0x7530⟩,
    ⟨0x2000, 1, 6, 6, .u16, .rws, 0x3E8⟩,
    ⟨0x2000, 1, 7, 7, .u8, .ro, 0⟩,
    ⟨0x2000, 1, 8, 8, .u32, .ro, 0⟩,
    ⟨0x2010, 1, 1, 1, .u32, .rw, 0xE7EF0⟩,
    ⟨0x2010, 1, 2, 2, .u32, .rw, 0⟩,
    ⟨0x2010, 1, 3, 3, .u32, .rw, 0⟩,
    ⟨0x2010, 1, 4, 4, .u8, .rw, 0⟩ ]

/-- Rows of the dictionary, part 1. -/
def odRows1 : List OdRow :=
  [ ⟨0x2010, 1, 5, 5, .u8, .rw, 5⟩,
    ⟨0x2010, 1, 6, 6, .u32, .ro, 0⟩,
    ⟨0x2010, 1, 7, 7, .u64, .ro, 0⟩,
    ⟨0x2010, 1, 8, 8, (.octets 8), .rws, 0x43424140⟩,
    ⟨0x2100, 1, 1, 1, .i16, .ro, 0⟩,
    ⟨0x2100, 1, 2, 2, .domain, .ro, 0⟩,
    ⟨0x2100, 1, 3, 3, .i16, .rw, 0x3E8⟩,
    ⟨0x2100, 1, 4, 4, .i16, .rw, 0x44C⟩,
    ⟨0x2100, 1, 5, 5, .i16, .rw, 0x3B6⟩,
    ⟨0x2100, 1, 6, 6, .i16, .rw, 0x384⟩,
    ⟨0x2100, 1, 7, 7, .u32, .ro, 0⟩,
    ⟨0x2200, 1, 1, 1, (.octets 32), .rw, 0⟩,
    ⟨0x2200, 1, 2, 2, (.octets 4), .ro, 0⟩,
    ⟨0x2200, 1, 3, 3, (.octets 8), .ro, 0⟩,
    ⟨0x2200, 1, 4, 4, (.octets 12), .ro, 0⟩,
    ⟨0x3000, 1, 1, 1, .u16, .ro, 0x1F40⟩,
    ⟨0x3000, 1, 2, 2, .u32, .ro, 0⟩,
    ⟨0x3000, 1, 3, 3, .u16, .ro, 0⟩,
    ⟨0x3010, 1, 1, 1, .u32, .ro, 0⟩,
    ⟨0x3010, 1, 2, 2, .u32, .ro, 0⟩,
    ⟨0x3010, 1, 3, 3, .u32, .ro, 0⟩,
    ⟨0x3010, 1, 4, 4, .domain, .rw, 0⟩,
    ⟨0x3010, 1, 5, 5, .u32, .ro, 0⟩,
    ⟨0x3020, 1, 1, 1, .u32, .rws, 0⟩,
    ⟨0x3020, 1, 2, 2, .u32, .rws, 0⟩ ]

/-- Rows of the dictionary, part 2. -/
def odRows2 : List OdRow :=
  [ ⟨0x3020, 1, 3, 3, .u32, .ro, 0⟩,
    ⟨0x3050, 1, 1, 10, .u32, .rw, 0⟩,
    ⟨0x3050, 1, 11, 11, .domain, .ro, 0⟩,
    ⟨0x3050, 1, 12, 12, .domain, .ro, 0⟩,
    ⟨0x3060, 1, 1, 1, .u32, .rws, 0x1000⟩,
    ⟨0x3060, 1, 2, 2, .u16, .rw, 0x40⟩,
    ⟨0x3060, 1, 3, 3, .u32, .ro, 0⟩,
    ⟨0x3070, 1, 1, 1, .u32, .ro, 0⟩,
    ⟨0x3070, 1, 2, 2, .u32, .ro, 0⟩,
    ⟨0x3070, 1, 3, 3, .u64, .ro, 0⟩,
    ⟨0x3080, 1, 1, 1, .u16, .rws, 0xC000⟩,
    ⟨0x3080, 1, 2, 2, .domain, .wo, 0⟩,
    ⟨0x3100, 8, 1, 1, .u8, .ro, 1⟩,
    ⟨0x3100, 8, 2, 2, .u16, .ro, 0⟩,
    ⟨0x3100, 8, 3, 3, .i16, .ro, 0⟩,
    ⟨0x3110, 12, 1, 1, .u8, .ro, 0⟩,
    ⟨0x3110, 12, 2, 2, .u8, .ro, 0⟩,
    ⟨0x3110, 12, 3, 3, .u16, .ro, 0⟩,
    ⟨0x3110, 12, 4, 4, .u32, .ro, 0⟩,
    ⟨0x3110, 12, 5, 5, .u8, .ro, 0xFF⟩,
    ⟨0x3110, 12, 6, 6, .u8, .ro, 40⟩,
    ⟨0x3180, 16, 1, 1, .u8, .ro, 0⟩,
    ⟨0x3180, 16, 2, 2, .u8, .wo, 0⟩,
    ⟨0x3180, 16, 3, 3, .u64, .ro, 0⟩,
    ⟨0x3180, 16, 4, 4, .u64, .ro, 0⟩ ]

/-- Rows of the dictionary, part 3. -/
def odRows3 : List OdRow :=
  [ ⟨0x3400, 1, 1, 1, .u64, .ro, 0⟩,
    ⟨0x3400, 1, 2, 2, .i32, .ro, 0⟩,
    ⟨0x3400, 1, 3, 3, .u8, .ro, 0⟩,
    ⟨0x3400, 1, 4, 4, .u8, .ro, 0⟩,
    ⟨0x3400, 1, 5, 5, .u32, .ro, 0⟩,
    ⟨0x3410, 1, 1, 12, .u8, .rw, 0x10⟩,
    ⟨0x3411, 1, 1, 12, .u16, .rw, 0x100⟩,
    ⟨0x3412, 1, 1, 12, .u16, .rw, 0x80⟩,
    ⟨0x3430, 1, 1, 16, .u64, .rw, 0⟩,
    ⟨0x3431, 1, 1, 1, .u32, .ro, 0⟩,
    ⟨0x3431, 1, 2, 2, .domain, .ro, 0⟩,
    ⟨0x3440, 32, 1, 16, .u64, .rw, 0⟩,
    ⟨0x3460, 12, 1, 16, .u64, .rw, 0⟩,
    ⟨0x3470, 1, 1, 1, .domain, .ro, 0⟩,
    ⟨0x3470, 1, 2, 2, .domain, .ro, 0⟩,
    ⟨0x3470, 1, 3, 3, .domain, .ro, 0⟩,
    ⟨0x3480, 1, 1, 8, (.octets 8), .ro, 0⟩,
    ⟨0x3480, 1, 9, 16, (.octets 8), .ro, 0⟩,
    ⟨0x3800, 1, 1, 1, .u64, .ro, 0⟩,
    ⟨0x3800, 1, 2, 2, .u64, .ro, 0⟩,
    ⟨0x3800, 1, 3, 3, .u64, .ro, 0⟩,
    ⟨0x3800, 1, 4, 4, .u64, .ro, 0⟩,
    ⟨0x3800, 1, 5, 5, .u64, .ro, 0⟩,
    ⟨0x3800, 1, 6, 6, .u64, .ro, 0⟩,
    ⟨0x3800, 1, 7, 7, .u64, .ro, 0⟩ ]

/-- Rows of the dictionary, part 4. -/
def odRows4 : List OdRow :=
  [ ⟨0x3800, 1, 8, 8, .u32, .rw, 0x3E8⟩,
    ⟨0x3800, 1, 9, 9, .domain, .ro, 0⟩,
    ⟨0x3800, 1, 10, 10, .u32, .ro, 0⟩,
    ⟨0x3810, 1, 1, 12, .u8, .rw, 0⟩,
    ⟨0x3820, 1, 1, 1, .u64, .ro, 0⟩,
    ⟨0x3820, 1, 2, 2, .u64, .ro, 0⟩,
    ⟨0x3820, 1, 3, 3, .u32, .ro, 0⟩,
    ⟨0x3820, 1, 4, 4, .u32, .ro, 0⟩,
    ⟨0x3830, 1, 1, 1, .u16, .rw, 0xC8⟩,
    ⟨0x3830, 1, 2, 2, .u64, .ro, 0⟩,
    ⟨0x3830, 1, 3, 3, .u64, .ro, 0⟩,
    ⟨0x3830, 1, 4, 4, .u64, .ro, 0⟩,
    ⟨0x3840, 1, 1, 1, .bool, .rw, 1⟩,
    ⟨0x3840, 1, 2, 2, .u64, .ro, 0⟩,
    ⟨0x3840, 1, 3, 3, .u64, .ro, 0⟩,
    ⟨0x3840, 1, 4, 4, .u16, .ro, 0⟩,
    ⟨0x3840, 1, 5, 5, .u16, .ro, 0⟩,
    ⟨0x3840, 1, 6, 6, .u32, .rw, 0x15180⟩,
    ⟨0x3840, 1, 7, 7, .u64, .ro, 0⟩,
    ⟨0x3840, 1, 8, 8, .u64, .ro, 0⟩,
    ⟨0x3850, 1, 1, 1, (.octets 36), .rw, 0⟩,
    ⟨0x3850, 1, 2, 2, .u64, .rw, 0⟩,
    ⟨0x3850, 1, 3, 3, (.octets 80), .rw, 0⟩,
    ⟨0x3850, 1, 4, 4, .u64, .rw, 0⟩,
    ⟨0x3850, 1, 5, 5, .u32, .ro, 0⟩ ]

/-- Rows of the dictionary, part 5. -/
def odRows5 : List OdRow :=
  [ ⟨0x4000, 1, 1, 1, .u8, .ro, 0x20⟩,
    ⟨0x4000, 1, 2, 2, .u32, .ro, 0⟩,
    ⟨0x4000, 1, 3, 3, .u8, .ro, 2⟩,
    ⟨0x4000, 1, 4, 4, .u32, .rw, 0x186A0⟩,
    ⟨0x4000, 1, 5, 5, .u8, .rw, 8⟩,
    ⟨0x4000, 1, 6, 6, .bool, .rw, 0⟩,
    ⟨0x4000, 1, 7, 7, .bool, .rw, 1⟩,
    ⟨0x4000, 1, 8, 8, .u32, .rws, 0x3A98⟩,
    ⟨0x4000, 1, 9, 9, .u32, .rws, 0xEA60⟩,
    ⟨0x4000, 1, 10, 10, .u8, .ro, 0⟩,
    ⟨0x4000, 1, 11, 11, .u64, .ro, 0⟩,
    ⟨0x4000, 1, 12, 12, .u32, .ro, 0⟩,
    ⟨0x4000, 1, 13, 13, .u64, .ro, 0⟩,
    ⟨0x4000, 1, 14, 14, .u32, .ro, 0⟩,
    ⟨0x4000, 1, 15, 15, .u64, .ro, 0⟩,
    ⟨0x4010, 1, 1, 34, .u32, .ro, 0⟩,
    ⟨0x4020, 1, 1, 32, .u8, .ro, 0⟩,
    ⟨0x4030, 1, 1, 1, .u64, .ro, 0⟩,
    ⟨0x4030, 1, 2, 2, .u32, .ro, 0⟩,
    ⟨0x4030, 1, 3, 3, .u64, .ro, 0⟩,
    ⟨0x4040, 1, 1, 1, .u64, .ro, 0⟩,
    ⟨0x4040, 1, 2, 2, .u64, .ro, 0⟩,
    ⟨0x4040, 1, 3, 3, .u64, .ro, 0⟩,
    ⟨0x4100, 1, 1, 1, .u16, .ro, 0⟩,
    ⟨0x4100, 1, 2, 2, .u8, .ro, 0⟩ ]

/-- Rows of the dictionary, part 6. -/
def odRows6 : List OdRow :=
  [ ⟨0x4100, 1, 3, 3, .u64, .ro, 0⟩,
    ⟨0x4100, 1, 4, 4, .u64, .ro, 0⟩,
    ⟨0x4100, 1, 5, 5, .u64, .ro, 0⟩,
    ⟨0x4100, 1, 6, 6, .u64, .ro, 0⟩,
    ⟨0x4100, 1, 7, 7, .u64, .ro, 0⟩,
    ⟨0x4100, 1, 8, 8, .u32, .rw, 0x186A0⟩,
    ⟨0x4110, 1, 1, 1, .u64, .rws, 0⟩,
    ⟨0x4110, 1, 2, 2, (.octets 16), .wo, 0⟩,
    ⟨0x4110, 1, 3, 3, .u8, .ro, 1⟩,
    ⟨0x4400, 1, 1, 1, .u16, .ro, 0⟩,
    ⟨0x4400, 1, 2, 2, .u32, .rw, 0x2710⟩,
    ⟨0x4400, 1, 3, 3, .u8, .const, 3⟩,
    ⟨0x4400, 1, 4, 4, .u8, .const, 1⟩,
    ⟨0x4400, 1, 5, 5, .u64, .ro, 0⟩,
    ⟨0x4400, 1, 6, 6, .u64, .ro, 0⟩,
    ⟨0x4400, 1, 7, 7, .u64, .ro, 0⟩,
    ⟨0x4400, 1, 8, 8, .domain, .ro, 0⟩,
    ⟨0x4410, 1, 1, 1, .u16, .rw, 0⟩,
    ⟨0x4410, 1, 2, 2, (.octets 64), .rws, 0⟩,
    ⟨0x4410, 1, 3, 3, .u8, .wo, 0⟩,
    ⟨0x4410, 1, 4, 4, .u64, .ro, 0⟩,
    ⟨0x4410, 1, 5, 5, (.octets 64), .ro, 0⟩,
    ⟨0x4480, 1, 1, 1, .u8, .const, 1⟩,
    ⟨0x4480, 1, 2, 2, .u32, .const, 0x1000000⟩,
    ⟨0x4480, 1, 3, 3, .u8, .const, 0x40⟩ ]

/-- Rows of the dictionary, part 7. -/
def odRows7 : List OdRow :=
  [ ⟨0x4480, 1, 4, 4, .u16, .const, 0x1000⟩,
    ⟨0x4480, 1, 5, 5, .u8, .const, 0x80⟩,
    ⟨0x4900, 256, 1, 1, .u64, .rws, 0⟩,
    ⟨0x4900, 256, 2, 2, .u64, .rws, 0⟩,
    ⟨0x4900, 256, 3, 3, .u64, .rws, 0⟩,
    ⟨0x4900, 256, 4, 4, .u8, .rw, 0⟩,
    ⟨0x4900, 256, 5, 5, .u8, .ro, 0⟩,
    ⟨0x4900, 256, 6, 6, .u32, .ro, 0⟩,
    ⟨0x4900, 256, 7, 7, (.octets 32), .rw, 0⟩,
    ⟨0x4900, 256, 8, 8, .u8, .wo, 0⟩,
    ⟨0x4900, 256, 9, 9, .u16, .ro, 0⟩,
    ⟨0x4900, 256, 10, 10, .u64, .ro, 0⟩,
    ⟨0x4900, 256, 11, 11, .u64, .ro, 0⟩,
    ⟨0x5000, 1, 1, 1, .u8, .ro, 0⟩,
    ⟨0x5000, 1, 2, 2, .bool, .ro, 0⟩,
    ⟨0x5010, 4, 1, 1, .u8, .ro, 0⟩,
    ⟨0x5010, 4, 2, 2, .u8, .ro, 0⟩,
    ⟨0x5010, 4, 3, 3, .u32, .ro, 0⟩,
    ⟨0x5010, 4, 4, 4, .bool, .ro, 0⟩,
    ⟨0x5030, 1, 1, 1, .domain, .rw, 0⟩,
    ⟨0x5030, 1, 2, 2, .domain, .rw, 0⟩,
    ⟨0x5040, 1, 1, 68, .u16, .rw, 0x8000⟩,
    ⟨0x5100, 64, 1, 1, .u8, .rws, 0⟩,
    ⟨0x5100, 64, 2, 2, .u64, .rws, 0⟩,
    ⟨0x5100, 64, 3, 3, .u8, .rws, 0x10⟩ ]

/-- Rows of the dictionary, part 8. -/
def odRows8 : List OdRow :=
  [ ⟨0x5100, 64, 4, 4, .u16, .rws, 0x10⟩,
    ⟨0x5100, 64, 5, 5, .bool, .rw, 0⟩,
    ⟨0x5100, 64, 6, 6, .u8, .ro, 0⟩,
    ⟨0x5100, 64, 7, 7, .u64, .ro, 0⟩,
    ⟨0x5100, 64, 8, 8, .u64, .ro, 0⟩,
    ⟨0x5100, 64, 9, 9, .u32, .ro, 0⟩,
    ⟨0x5180, 1, 1, 1, (.octets 32), .rw, 0⟩,
    ⟨0x5200, 1, 1, 1, .u8, .ro, 0⟩,
    ⟨0x5200, 1, 2, 2, .u32, .ro, 0⟩,
    ⟨0x5400, 1, 1, 1, .u8, .ro, 0⟩,
    ⟨0x5400, 1, 2, 2, .u8, .ro, 0⟩,
    ⟨0x5400, 1, 3, 3, .u8, .ro, 0⟩,
    ⟨0x5400, 1, 4, 4, .bool, .ro, 0⟩,
    ⟨0x5400, 1, 5, 5, .u8, .rw, 0⟩,
    ⟨0x5400, 1, 6, 6, (.octets 64), .rw, 0⟩,
    ⟨0x5400, 1, 7, 7, (.octets 64), .rw, 0⟩,
    ⟨0x5400, 1, 8, 8, .domain, .ro, 0⟩,
    ⟨0x5400, 1, 9, 9, .u32, .rw, 0x3E8⟩,
    ⟨0x5400, 1, 10, 10, .u32, .ro, 0⟩,
    ⟨0x5400, 1, 11, 11, .u32, .rw, 0x30D40⟩,
    ⟨0x5400, 1, 12, 12, .u8, .ro, 0⟩,
    ⟨0x5400, 1, 13, 13, (.octets 4), .wo, 0⟩,
    ⟨0x5400, 1, 14, 14, .u32, .ro, 0⟩,
    ⟨0x5400, 1, 15, 15, .u32, .ro, 0⟩,
    ⟨0x5410, 4, 1, 1, .u8, .ro, 0⟩ ]

/-- Rows of the dictionary, part 9. -/
def odRows9 : List OdRow :=
  [ ⟨0x5410, 4, 2, 2, .u8, .ro, 0⟩,
    ⟨0x5410, 4, 3, 3, .u32, .ro, 0⟩,
    ⟨0x5410, 4, 4, 4, .u8, .wo, 0⟩,
    ⟨0x5410, 4, 5, 5, .u64, .ro, 0⟩,
    ⟨0x5410, 4, 6, 6, .u64, .ro, 0⟩,
    ⟨0x5410, 4, 7, 7, .u64, .ro, 0⟩,
    ⟨0x5410, 4, 8, 8, .u64, .ro, 0⟩,
    ⟨0x5410, 4, 9, 9, .u32, .ro, 0⟩,
    ⟨0x5410, 4, 10, 10, .u32, .ro, 0⟩,
    ⟨0x5410, 4, 11, 11, .domain, .ro, 0⟩,
    ⟨0x5800, 1, 1, 1, .u32, .ro, 0⟩,
    ⟨0x5800, 1, 2, 2, .u64, .ro, 0⟩,
    ⟨0x5800, 1, 3, 3, .u64, .ro, 0⟩,
    ⟨0x5800, 1, 4, 4, .u64, .ro, 0⟩,
    ⟨0x5800, 1, 5, 5, .u64, .ro, 0⟩,
    ⟨0x5800, 1, 6, 6, .u16, .rw, 0xC8⟩,
    ⟨0x5800, 1, 7, 7, .u32, .rw, 0x7D0⟩,
    ⟨0x5800, 1, 8, 8, .u8, .ro, 1⟩,
    ⟨0x5800, 1, 9, 9, .u64, .ro, 0⟩,
    ⟨0x5800, 1, 10, 10, .u64, .ro, 0⟩,
    ⟨0x5800, 1, 11, 11, .u64, .ro, 0⟩,
    ⟨0x5800, 1, 12, 12, .u64, .ro, 0⟩,
    ⟨0x5800, 1, 13, 13, .u16, .ro, 0⟩,
    ⟨0x5800, 1, 14, 14, .domain, .rw, 0⟩,
    ⟨0x5810, 1, 1, 1, .u16, .wo, 0⟩ ]

/-- Rows of the dictionary, part 10. -/
def odRows10 : List OdRow :=
  [ ⟨0x5810, 1, 2, 2, .u16, .wo, 0⟩,
    ⟨0x5810, 1, 3, 3, (.octets 512), .ro, 0⟩,
    ⟨0x5810, 1, 4, 4, .bool, .ro, 0⟩,
    ⟨0x5900, 256, 1, 1, .u64, .rws, 0⟩,
    ⟨0x5900, 256, 2, 2, .u8, .rws, 0⟩,
    ⟨0x5A00, 256, 1, 1, .u8, .rws, 0⟩,
    ⟨0x5A00, 256, 2, 2, .u64, .rws, 0⟩,
    ⟨0x5A00, 256, 3, 3, .u64, .rws, 0⟩,
    ⟨0x5A00, 256, 4, 4, .u8, .rws, 1⟩,
    ⟨0x5A00, 256, 5, 5, .u64, .rws, 0⟩,
    ⟨0x5A00, 256, 6, 6, .u64, .rws, 0⟩,
    ⟨0x5A00, 256, 7, 10, .u16, .rws, 0xFFFF⟩,
    ⟨0x5A00, 256, 11, 11, .u8, .ro, 0⟩,
    ⟨0x5A00, 256, 12, 12, .u8, .wo, 0⟩,
    ⟨0x5A00, 256, 13, 13, .u64, .ro, 0⟩,
    ⟨0x5A00, 256, 14, 14, .u64, .ro, 0⟩,
    ⟨0x5B00, 1, 1, 1, .u64, .ro, 0⟩,
    ⟨0x5B00, 1, 2, 2, .u64, .ro, 0⟩,
    ⟨0x5B00, 1, 3, 3, .u64, .ro, 0⟩,
    ⟨0x5B00, 1, 4, 4, .u32, .ro, 0⟩,
    ⟨0x5B00, 1, 5, 5, .u32, .rw, 0x400⟩,
    ⟨0x5B00, 1, 6, 6, .bool, .rw, 1⟩,
    ⟨0x5C00, 256, 1, 1, .u64, .rws, 0⟩,
    ⟨0x5C00, 256, 2, 2, .u16, .rws, 0⟩,
    ⟨0x6000, 1, 1, 1, .u8, .ro, 0⟩ ]

/-- Rows of the dictionary, part 11. -/
def odRows11 : List OdRow :=
  [ ⟨0x6000, 1, 2, 2, (.octets 148), .wo, 0⟩,
    ⟨0x6000, 1, 3, 3, .u8, .ro, 0⟩,
    ⟨0x6000, 1, 4, 4, .u8, .wo, 0⟩,
    ⟨0x6000, 1, 5, 5, .u8, .ro, 0⟩,
    ⟨0x6000, 1, 6, 6, (.octets 8), .const, 0⟩,
    ⟨0x6000, 1, 7, 7, .u32, .ro, 0⟩,
    ⟨0x6010, 1, 1, 1, .u8, .ro, 0⟩,
    ⟨0x6010, 1, 2, 2, .u64, .ro, 0⟩,
    ⟨0x7000, 1, 1, 1, .bool, .rw, 1⟩,
    ⟨0x7000, 1, 2, 2, .u32, .rw, 0x3E8⟩,
    ⟨0x7000, 1, 3, 3, .u8, .ro, 0⟩,
    ⟨0x7000, 1, 4, 4, .u8, .ro, 0⟩,
    ⟨0x7000, 1, 5, 5, .u64, .ro, 0⟩,
    ⟨0x7000, 1, 6, 6, .u32, .ro, 0⟩,
    ⟨0x7000, 1, 7, 7, .u32, .ro, 0⟩,
    ⟨0x7000, 1, 8, 8, (.octets 2), .wo, 0⟩,
    ⟨0x7000, 1, 9, 9, .u32, .const, 0x1184096B⟩,
    ⟨0x7010, 1, 1, 34, (.octets 257), .ro, 0⟩,
    ⟨0x7400, 1, 1, 1, .domain, .ro, 0⟩,
    ⟨0x7400, 1, 2, 2, .u64, .ro, 0⟩,
    ⟨0x7410, 1, 1, 1, .u64, .rws, 0⟩,
    ⟨0x7410, 1, 2, 2, (.octets 128), .ro, 0⟩,
    ⟨0x7420, 1, 1, 8, (.octets 32), .rw, 0⟩,
    ⟨0x7800, 1, 1, 1, .u32, .ro, 0⟩,
    ⟨0x7800, 1, 2, 2, .domain, .rw, 0⟩ ]

/-- Rows of the dictionary, part 12. -/
def odRows12 : List OdRow :=
  [ ⟨0x7800, 1, 3, 3, .u32, .wo, 0⟩,
    ⟨0x7800, 1, 4, 4, .u64, .ro, 0⟩,
    ⟨0x7800, 1, 5, 5, .u64, .ro, 0⟩,
    ⟨0x7800, 1, 6, 6, .u64, .ro, 0⟩,
    ⟨0x7800, 1, 7, 7, .u64, .ro, 0⟩,
    ⟨0x7800, 1, 8, 8, (.octets 18), .rw, 0⟩,
    ⟨0x7800, 1, 9, 9, .domain, .ro, 0⟩,
    ⟨0x7C00, 1, 1, 1, .u8, .ro, 0⟩,
    ⟨0x7C00, 1, 2, 2, .u8, .ro, 0⟩,
    ⟨0x7C00, 1, 3, 3, .u8, .ro, 0⟩,
    ⟨0x7C00, 1, 4, 4, .u32, .ro, 0⟩,
    ⟨0x7C00, 1, 5, 5, .u32, .ro, 0⟩,
    ⟨0x7C00, 1, 6, 6, .u32, .ro, 0⟩,
    ⟨0x7C00, 1, 7, 7, .u32, .rw, 0x2710⟩,
    ⟨0x7C00, 1, 8, 8, .u8, .rw, 3⟩,
    ⟨0x7C00, 1, 9, 9, .u32, .rw, 0xE10⟩,
    ⟨0x7C00, 1, 10, 10, (.octets 2), .wo, 0⟩,
    ⟨0x7C10, 1, 1, 1, .u8, .rw, 0⟩,
    ⟨0x7C10, 1, 2, 2, .domain, .wo, 0⟩,
    ⟨0x7C10, 1, 3, 3, .u32, .rw, 0⟩,
    ⟨0x7C10, 1, 4, 4, .u8, .wo, 0⟩,
    ⟨0x7C10, 1, 5, 5, .u16, .ro, 0⟩,
    ⟨0x7C10, 1, 6, 6, .u8, .ro, 0⟩,
    ⟨0x7C10, 1, 7, 7, .u32, .ro, 0⟩,
    ⟨0x7C20, 1, 1, 1, .u8, .ro, 0⟩ ]

/-- Rows of the dictionary, part 13. -/
def odRows13 : List OdRow :=
  [ ⟨0x7C20, 1, 2, 2, .u16, .ro, 0⟩,
    ⟨0x7C20, 1, 3, 3, .u8, .ro, 0⟩,
    ⟨0x7C20, 1, 4, 4, .u8, .ro, 0⟩,
    ⟨0x7C20, 1, 5, 5, .domain, .ro, 0⟩,
    ⟨0x7C20, 1, 6, 6, .u32, .wo, 0⟩,
    ⟨0x7C20, 1, 7, 7, .u32, .ro, 0⟩,
    ⟨0x7C20, 1, 8, 8, .u32, .ro, 0⟩,
    ⟨0x7C40, 1, 1, 1, .u64, .ro, 0⟩,
    ⟨0x7C40, 1, 2, 2, (.octets 16), .ro, 0⟩,
    ⟨0x7C40, 1, 3, 3, .u8, .ro, 0⟩,
    ⟨0x7C40, 1, 4, 4, .u32, .ro, 0⟩,
    ⟨0x7C40, 1, 5, 5, .u32, .ro, 0⟩,
    ⟨0x7C40, 1, 6, 6, .domain, .ro, 0⟩,
    ⟨0x7C40, 1, 7, 7, .u32, .ro, 0x4190AB00⟩ ]

/-- R439-R441: the entries of the object dictionary, in index order. -/
def odRows : List OdRow :=
  odRows0 ++ odRows1 ++ odRows2 ++ odRows3 ++ odRows4 ++ odRows5 ++ odRows6 ++ odRows7 ++ odRows8 ++ odRows9 ++ odRows10 ++ odRows11 ++ odRows12 ++ odRows13

/-- Whether a row holds the entry. -/
def OdRow.holds (r : OdRow) (idx sub : Nat) : Bool := r.idx ≤ idx && idx < r.idx + r.n && r.lo ≤ sub && sub ≤ r.hi

/-- R439: the row of an entry, none where the entry does not exist. -/
def odRow (idx sub : Nat) : Option OdRow := odRows.find? (fun r => OdRow.holds r idx sub)

/-- R440: bytes of a fixed-size type. -/
def OdType.size : OdType → Option Nat
  | .bool => some 1
  | .u8 => some 1
  | .u16 => some 2
  | .u32 => some 4
  | .u64 => some 8
  | .i16 => some 2
  | .i32 => some 4
  | .octets n => some n
  | .vstring _ => none
  | .domain => none

/-- The number that names an entry, with an element of a DOMAIN above it (element 0 is the entry itself). -/
def odKey (idx sub : Nat) (elem : Nat := 0) : Nat := elem * 2 ^ 24 + idx * 256 + sub

/-- R378, R455: the option record's fields. -/
def State.option (s : State) (hi lo : Nat) : Nat := bits s.opt.inUse hi lo

/-- OD 0x5400:01: the physical position, y × 8 + x. -/
def State.position (s : State) : Nat := s.option 133 128

/-- OD 0x5400:06 default: identity, PRESENT for every chip of the ring. -/
def State.identityRoutes (s : State) : Nat :=
  leNat ((List.range 64).map (fun c =>
    BitVec.ofNat 8 (if c % 8 ≤ s.option 136 134 && c / 8 ≤ s.option 139 137 then c + 128 else c)))

/-- OD 0x2200:01 default: eight points from 50 °C 30 % to 100 % at 95 °C, each (temperature, duty in 1/256); the manual
gives the ends, and the six points between lie on the line (log entry 17). -/
def fanCurveDefault : Nat :=
  leNat (([(500, 77), (564, 103), (629, 128), (693, 154), (757, 179), (821, 205), (886, 230), (950, 256)] : List (Nat × Nat)).flatMap
    (fun p => leBytes 2 p.1 ++ leBytes 2 p.2))

/-- The defaults that are not one number for every subindex and part (R69, R369, 04, 18, 14). -/
def State.odDefault (s : State) (idx sub : Nat) : Nat :=
  if idx = 0x3050 then
    match sub with
    | 1 => 500 | 2 => 500 | 3 => 500 | 4 => 500 | 5 => 700 | 6 => 5000
    | 7 => 100000 | 8 => 1500 | 9 => 20000 | 10 => 1000 | _ => 0
  else if idx = 0x3410 then (if sub ≤ 8 then 16 else if sub ≤ 10 then 32 else if sub = 11 then 1 else 8)
  else if idx = 0x5040 then (if sub = (if s.option 142 142 = 1 then 5 else 1) then 0x8000 else 0xFFFF)
  else if idx = 0x4020 then sub - 1
  else if idx = 0x2010 && sub = 1 then (if s.h64 then 950000 else 900000)
  else if idx = 0x2010 && sub = 2 then (if s.h64 then 1093000 else 1035000)
  else if idx = 0x2200 && sub = 1 then fanCurveDefault
  else if idx = 0x5400 && sub = 6 then s.identityRoutes
  else if idx = 0x3400 && sub = 4 then s.position
  else ((odRow idx sub).map (fun r => r.dflt)).getD 0

/-- The value of an entry, or of one element of a DOMAIN, that holds a value of its own. -/
def State.par (s : State) (idx sub : Nat) : Nat := (Tab.find? s.od (odKey idx sub)).getD (s.odDefault idx sub)

/-- The value of element `e` (from 0) of a DOMAIN of counters; 0 at cold reset. -/
def State.parElem (s : State) (idx sub e : Nat) : Nat := Tab.get s.od (odKey idx sub (e + 1)) 0

/-- The entry set to a value. -/
def State.setPar (s : State) (idx sub v : Nat) : State := { s with od := Tab.set s.od (odKey idx sub) v }

/-- An element of a DOMAIN of counters set to a value. -/
def State.setElem (s : State) (idx sub e v : Nat) : State := { s with od := Tab.set s.od (odKey idx sub (e + 1)) v }

/-- A counter of `w` bits raised by `n`, wrapping at its width. -/
def State.bump (s : State) (w idx sub : Nat) (n : Nat := 1) : State :=
  s.setPar idx sub ((s.par idx sub + n) % 2 ^ w)

/-- An element of a DOMAIN of counters of `w` bits raised by `n`. -/
def State.bumpElem (s : State) (w idx sub e : Nat) (n : Nat := 1) : State :=
  s.setElem idx sub e ((s.parElem idx sub e + n) % 2 ^ w)

/-- An entry that keeps the largest value seen. -/
def State.peak (s : State) (idx sub v : Nat) : State := if s.par idx sub < v then s.setPar idx sub v else s

end Machine
end Sys2Proof
end

