-- ==== Sys2Proof/Machine/Ops.lean ====
section
/-! DEFINITION. The named operations over the state: what a command answers, the parts of the state by number, the free
values, and what the block drives on its interfaces. -/

namespace Sys2Proof
namespace Machine

/-- What a command answers. -/
abbrev Res := Host.Outcome State Fault Refusal

/-- The command completes in state `s`. -/
def ok (s : State) : Res := .next s

/-- The state with a message sent (log entry 11). -/
def State.emit (s : State) (o : Out) : State := { s with out := o :: s.out }

/-- The next free value of width `w`, and the state in which it is used up (log entry 7). -/
def State.takeFree (w : Nat) (s : State) : BitVec w × State := (Config.free w s.fresh, { s with fresh := s.fresh + 1 })

/-- `n` free bytes. -/
def State.takeBytes : Nat → State → List (BitVec 8) × State
  | 0, s => ([], s)
  | n + 1, s =>
    let r := s.takeFree 8
    let q := State.takeBytes n r.2
    (r.1 :: q.1, q.2)

/-- `n` free words. -/
def State.takeWords : Nat → State → List (BitVec 32) × State
  | 0, s => ([], s)
  | n + 1, s =>
    let r := s.takeFree 32
    let q := State.takeWords n r.2
    (r.1 :: q.1, q.2)

/-- R516: the time base, in ns. -/
def State.now (s : State) : Nat := s.clk.now

/-- A vat before anything used it (06): clean, every generator at its start value. -/
def freshVat : Vat := { (default : Vat) with clean := true, lastTest := 0 }

/-- R532: a light counter raised, by its place in the set (the time base is 1). -/
def State.light (s : State) (i n : Nat) : State :=
  { s with tst := { s.tst with light := Tab.set s.tst.light i ((Tab.get s.tst.light i 0 + n) % 2 ^ 64) } }

/-- R532: the places of the light counters: cycles and stalls of a vat, bytes read and written of a slice, bytes received
and sent of a host port, DATA flits sent and received of a link, launches, steps. -/
def lightRun (v : Nat) : Nat := 2 + v
def lightStall (v : Nat) : Nat := 36 + v
def lightRead (k : Nat) : Nat := 70 + k
def lightWrite (k : Nat) : Nat := 114 + k
def lightRx (p : Nat) : Nat := 158 + 2 * p
def lightTx (p : Nat) : Nat := 159 + 2 * p
def lightFlitTx (p : Nat) : Nat := 166 + 2 * p
def lightFlitRx (p : Nat) : Nat := 167 + 2 * p
def lightLaunch : Nat := 174
def lightStep : Nat := 175

/-- Physical vat `v`. -/
def State.vatAt (s : State) (v : Nat) : Vat := Tab.get s.vat.vats v freshVat

/-- The state with a physical vat changed. -/
def State.modVat (s : State) (v : Nat) (f : Vat → Vat) : State :=
  { s with vat := { s.vat with vats := Tab.set s.vat.vats v (f (s.vatAt v)) } }

/-- Memory slice `k`: HBM 0-31, DDR 32-43. -/
def State.sliceAt (s : State) (k : Nat) : Slice := Tab.get s.cal.slices k default

/-- The state with a memory slice changed. -/
def State.modSlice (s : State) (k : Nat) (f : Slice → Slice) : State :=
  { s with cal := { s.cal with slices := Tab.set s.cal.slices k (f (s.sliceAt k)) } }

/-- Context `k`. -/
def State.ctxAt (s : State) (k : Nat) : Ctx := Tab.get s.ctxs k default

/-- The state with a context changed. -/
def State.modCtx (s : State) (k : Nat) (f : Ctx → Ctx) : State := { s with ctxs := Tab.set s.ctxs k (f (s.ctxAt k)) }

/-- Tenant `t`. -/
def State.tenantAt (s : State) (t : Nat) : Tenant := Tab.get s.tenants t default

/-- The state with a tenant changed. -/
def State.modTenant (s : State) (t : Nat) (f : Tenant → Tenant) : State :=
  { s with tenants := Tab.set s.tenants t (f (s.tenantAt t)) }

/-- Host port `p`. -/
def State.portAt (s : State) (p : Nat) : Port := Tab.get s.host.ports p default

/-- The state with a host port changed. -/
def State.modPort (s : State) (p : Nat) (f : Port → Port) : State :=
  { s with host := { s.host with ports := Tab.set s.host.ports p (f (s.portAt p)) } }

/-- PCIe function `f`: 0-3 the G-FAM function of a port, 4 + 16p + n logical device n of port p. -/
def State.funcAt (s : State) (f : Nat) : Func := Tab.get s.host.funcs f default

/-- The state with a function changed. -/
def State.modFunc (s : State) (f : Nat) (g : Func → Func) : State :=
  { s with host := { s.host with funcs := Tab.set s.host.funcs f (g (s.funcAt f)) } }

/-- Host control window `w`. -/
def State.windowAt (s : State) (w : Nat) : Window := Tab.get s.host.windows w default

/-- The state with a window changed. -/
def State.modWindow (s : State) (w : Nat) (f : Window → Window) : State :=
  { s with host := { s.host with windows := Tab.set s.host.windows w (f (s.windowAt w)) } }

/-- A glaze window before a key is installed (R363). -/
def freshGlaze : Glaze :=
  { key := none, inNext := 0, outNext := 0, inCount := 0, outCount := 0, armed := false }

/-- Glaze window `w`. -/
def State.glazeAt (s : State) (w : Nat) : Glaze := Tab.get s.host.glaze w freshGlaze

/-- The state with a glaze window changed. -/
def State.modGlaze (s : State) (w : Nat) (f : Glaze → Glaze) : State :=
  { s with host := { s.host with glaze := Tab.set s.host.glaze w (f (s.glazeAt w)) } }

/-- Pool-link port `p`. -/
def State.linkAt (s : State) (p : Nat) : Link := Tab.get s.pool.links p default

/-- The state with a pool-link port changed. -/
def State.modLink (s : State) (p : Nat) (f : Link → Link) : State :=
  { s with pool := { s.pool with links := Tab.set s.pool.links p (f (s.linkAt p)) } }

/-- Copy channel `n`. -/
def State.copyAt (s : State) (n : Nat) : CopyCh := Tab.get s.med.copy n default

/-- The state with a copy channel changed. -/
def State.modCopy (s : State) (n : Nat) (f : CopyCh → CopyCh) : State :=
  { s with med := { s.med with copy := Tab.set s.med.copy n (f (s.copyAt n)) } }

/-- A complex's state. -/
def State.cxAt (s : State) : Cx → Complex
  | .A => s.cx.a
  | .B => s.cx.b

/-- The state with a complex changed. -/
def State.modCx (s : State) (x : Cx) (f : Complex → Complex) : State :=
  match x with
  | .A => { s with cx := { s.cx with a := f s.cx.a } }
  | .B => { s with cx := { s.cx with b := f s.cx.b } }

/-- The other complex. -/
def otherCx : Cx → Cx
  | .A => .B
  | .B => .A

/-- OD 0x5400:06, 07: a byte of a routing table (R397). -/
def State.route (s : State) (tbl c : Nat) : Nat := bitsAt (s.par 0x5400 (6 + tbl)) (8 * c + 7) (8 * c)

/-- R397: whether a logical coordinate is PRESENT in a table. -/
def State.routePresent (s : State) (tbl c : Nat) : Bool := s.route tbl c ≥ 128

/-- OD 0x5400:05. -/
def State.epoch (s : State) : Nat := s.par 0x5400 5 % 2

/-- R22, R23: the chip's own logical coordinate: the coordinate that the active table maps to its position; its position
where no entry does. -/
def State.coord (s : State) : Nat :=
  ((List.range 64).find? (fun c =>
    s.routePresent s.epoch c && s.route s.epoch c % 64 = s.position)).getD s.position

/-- R369: the scope of a client: 0x8000 admin (every path but the windows), 0-255 a tenant, 0xFFFF closed. -/
def State.clientScope (s : State) (c : Client) : Nat :=
  match c.path with
  | .window w => s.par 0x5040 (w.val + 1)
  | _ => 0x8000

/-- Whether a client has admin scope. -/
def State.isAdmin (s : State) (c : Client) : Bool := s.clientScope c = 0x8000

/-- The firmware that serves requests is running (R372: RUNNING is 4). -/
def State.running (s : State) : Bool := s.host.boot.state = 4

end Machine
end Sys2Proof
end

