-- ==== Sys2Proof/Machine/Faults.lean ====
section
/-! DEFINITION. Reporting a fault (22): the kinds of record, aggregation, the hardware queue, and the signals. -/

namespace Sys2Proof
namespace Machine

/-- A kind of record: KIND, whether Error, SCOPE (0 chip, 1 context, 2 tenant, 3 vat, 4 slice, 5 port, 6 link). -/
structure FKind where
  code  : Nat
  error : Bool
  scope : Nat
  deriving DecidableEq, Repr

def kAccessViolation : FKind := ⟨0x0201, false, 2⟩
def kPoolAccessDenied : FKind := ⟨0x0202, false, 2⟩
def kSliceFatal : FKind := ⟨0x0301, true, 0⟩
def kChannelAbsent : FKind := ⟨0x0302, true, 0⟩
def kPlanRowActivations : FKind := ⟨0x0303, false, 1⟩
def kCopyHalted : FKind := ⟨0x0304, false, 2⟩
def kWordCeThreshold : FKind := ⟨0x0501, false, 4⟩
def kWordUe : FKind := ⟨0x0502, true, 2⟩
def kArmourEscalated : FKind := ⟨0x0503, false, 2⟩
def kArmourFailed : FKind := ⟨0x0504, true, 2⟩
def kParityRebuild : FKind := ⟨0x0505, false, 0⟩
def kEscalationOverflow : FKind := ⟨0x0506, true, 0⟩
def kScrubLapLate : FKind := ⟨0x0507, false, 0⟩
def kPoisonPartialWrite : FKind := ⟨0x0508, false, 2⟩
def kVatFailed : FKind := ⟨0x0601, true, 0⟩
def kVatCountChanged : FKind := ⟨0x0602, true, 0⟩
def kPaletteUe : FKind := ⟨0x0603, true, 1⟩
def kBundleFault : FKind := ⟨0x0604, true, 1⟩
def kVatHang : FKind := ⟨0x0605, true, 3⟩
def kRotationForced : FKind := ⟨0x0606, false, 0⟩
def kRotationSkipped : FKind := ⟨0x0607, false, 0⟩
def kPlanPoison : FKind := ⟨0x0801, true, 1⟩
def kFetchPoison : FKind := ⟨0x0802, true, 1⟩
def kPlanTranslation : FKind := ⟨0x0803, true, 1⟩
def kBarrierTimeout : FKind := ⟨0x0804, true, 1⟩
def kPartnerFault : FKind := ⟨0x0805, true, 1⟩
def kPartnerLost : FKind := ⟨0x0806, true, 1⟩
def kImageEncoding : FKind := ⟨0x0807, true, 1⟩
def kHostDeath : FKind := ⟨0x0B01, true, 5⟩
def kDirectoryUe : FKind := ⟨0x0B02, true, 0⟩
def kPublishRecordPoison : FKind := ⟨0x0C01, true, 2⟩
def kMigrationAbandoned : FKind := ⟨0x0C02, false, 2⟩
def kPortLinkDegraded : FKind := ⟨0x0D01, false, 5⟩
def kGlazeAuthFailed : FKind := ⟨0x0D02, false, 2⟩
def kFirmwareRejected : FKind := ⟨0x0D03, true, 0⟩
def kWindowWritesLost : FKind := ⟨0x0D04, false, 0⟩
def kLinkFatal : FKind := ⟨0x0E01, true, 6⟩
def kLinkWidthReduced : FKind := ⟨0x0E02, false, 6⟩
def kRingMiswired : FKind := ⟨0x0E03, true, 6⟩
def kRingClassMismatch : FKind := ⟨0x0E04, true, 0⟩
def kFrameLockLost : FKind := ⟨0x0E05, false, 6⟩
def kRebuildFailed : FKind := ⟨0x0E06, true, 0⟩
def kPoolRequestLost : FKind := ⟨0x0E07, false, 0⟩
def kEntropyFailure : FKind := ⟨0x0F01, true, 0⟩
def kLcTransitionRefused : FKind := ⟨0x0F02, false, 0⟩
def kOptionRecordInvalid : FKind := ⟨0x1001, false, 0⟩
def kComplexFailed : FKind := ⟨0x1101, true, 0⟩
def kComplexHeld : FKind := ⟨0x1102, true, 0⟩
def kUpdateFailed : FKind := ⟨0x1103, false, 0⟩
def kBothComplexesFailed : FKind := ⟨0x1104, true, 0⟩
def kSupplyGateOff : FKind := ⟨0x1201, true, 0⟩
def kPowerEmergency : FKind := ⟨0x1202, false, 0⟩
def kThermalEmergency : FKind := ⟨0x1203, false, 0⟩
def kEmergencyCleared : FKind := ⟨0x1204, false, 0⟩
def kRegulatorSlow : FKind := ⟨0x1205, false, 0⟩
def kSensorAbsent : FKind := ⟨0x1206, false, 0⟩
def kResetRecorded : FKind := ⟨0x1301, false, 0⟩
def kMemoryVerifyFailed : FKind := ⟨0x1302, true, 0⟩
def kBlockIsolated : FKind := ⟨0x1303, false, 0⟩
def kClockFailed : FKind := ⟨0x1401, true, 0⟩
def kClockRestored : FKind := ⟨0x1402, false, 0⟩
def kSliceTestFailed : FKind := ⟨0x1501, false, 4⟩
def kTestSliceSkipped : FKind := ⟨0x1502, false, 0⟩
def kAggregationOverflow : FKind := ⟨0x1601, false, 0⟩
def kFaultLogLost : FKind := ⟨0x1602, false, 0⟩

/-- R538, R539: a record of the chip's own, as first detected. A report of the chip itself or of a slice or link of it has no
reporter; whom another names is open (log entry 141). -/
def State.mkRec (s : State) (k : FKind) (unit subject : Nat) (fields : List (Nat × Nat)) : FaultRec where
  kind         := BitVec.ofNat 16 k.code
  error        := k.error
  scope        := BitVec.ofNat 3 k.scope
  digest       := false
  lostBefore   := false
  held         := s.cx.gap
  origin       := BitVec.ofNat 6 s.coord
  unit         := BitVec.ofNat 16 unit
  subject      := BitVec.ofNat 16 subject
  time         := BitVec.ofNat 64 s.now
  logSeq       := 0
  count        := 0
  reporter     := if k.scope = 1 || k.scope = 2 || k.scope = 3 then (Config.reporter k.code unit subject).1 else 0
  reporterKind := if k.scope = 1 || k.scope = 2 || k.scope = 3 then BitVec.ofNat 4 (Config.reporter k.code unit subject).2.val else 0
  payload      := payload fields

/-- R538: a record as its 64 B. -/
def FaultRec.pack (r : FaultRec) : BitVec 512 :=
  BitVec.ofNat 512 (r.kind.toNat + (if r.error then 2 ^ 16 else 0) + r.scope.toNat * 2 ^ 17 + (if r.digest then 2 ^ 20 else 0)
    + (if r.lostBefore then 2 ^ 21 else 0) + (if r.held then 2 ^ 22 else 0) + r.origin.toNat * 2 ^ 24
    + r.unit.toNat * 2 ^ 32 + r.subject.toNat * 2 ^ 48 + r.time.toNat * 2 ^ 64 + r.logSeq.toNat * 2 ^ 128
    + r.count.toNat * 2 ^ 160 + r.reporter.toNat * 2 ^ 176 + r.reporterKind.toNat * 2 ^ 188 + r.payload.toNat * 2 ^ 192)

/-- R538: the record that 64 B hold. -/
def FaultRec.unpack (b : BitVec 512) : FaultRec where
  kind         := BitVec.ofNat 16 (bits b 15 0)
  error        := bit b 16
  scope        := BitVec.ofNat 3 (bits b 19 17)
  digest       := bit b 20
  lostBefore   := bit b 21
  held         := bit b 22
  origin       := BitVec.ofNat 6 (bits b 29 24)
  unit         := BitVec.ofNat 16 (bits b 47 32)
  subject      := BitVec.ofNat 16 (bits b 63 48)
  time         := BitVec.ofNat 64 (bits b 127 64)
  logSeq       := BitVec.ofNat 32 (bits b 159 128)
  count        := BitVec.ofNat 16 (bits b 175 160)
  reporter     := BitVec.ofNat 12 (bits b 187 176)
  reporterKind := BitVec.ofNat 4 (bits b 191 188)
  payload      := BitVec.ofNat 320 (bits b 511 192)

/-- R542: the key of a record. -/
def FaultRec.sameKey (a b : FaultRec) : Bool :=
  a.origin = b.origin && a.scope = b.scope && a.unit = b.unit && a.kind = b.kind && a.subject = b.subject

/-- R544: a record enters the hardware queue and takes its LOG_SEQ, or is lost where the queue is full. An Error record
of scope chip asserts FAULT_N until it is acknowledged (R547). -/
def State.enqueue (s : State) (r : FaultRec) : State :=
  let n := s.flt.logSeq + 1
  if s.flt.queue.length ≥ 1024 then
    { s with flt := { s.flt with
        logSeq := n,
        lost := match s.flt.lost with
          | none => some (1, n, n)
          | some (k, a, _) => some (k + 1, a, n) } }.bump 64 0x7800 6
  else
    { s with flt := { s.flt with
        logSeq := n,
        queue := s.flt.queue ++ [{ r with logSeq := n }],
        chipErr := if r.error && r.scope = 0 then s.flt.chipErr ++ [n] else s.flt.chipErr } }.bump 64 0x7800
      (if r.error then 4 else 5)

/-- R542: a report of the chip's own units passes aggregation: it opens a window and is written, adds to an open window,
or is counted where all 512 windows are in use. -/
def State.submit (s : State) (r : FaultRec) : State :=
  match s.flt.windows.findIdx? (fun w => FaultRec.sameKey w.first r) with
  | some i =>
    let ws := s.flt.windows.modify i (fun w => { w with count := w.count + 1, last := r.time })
    { s with flt := { s.flt with windows := ws } }.bump 64 0x7800 7
  | none =>
    if s.flt.windows.length ≥ 512 then
      { s with flt := { s.flt with overflow := some ((s.flt.overflow.getD 0) + 1) } }
    else
      let w : AggWindow := { first := r, count := 0, last := r.time, written := true }
      { s with flt := { s.flt with windows := s.flt.windows ++ [w] } }.enqueue r

/-- R542: a count of reports adds to the open window of its key, or opens one that is written only as a digest. -/
def State.countReport (s : State) (r : FaultRec) : State :=
  let n := r.count.toNat
  let s0 := s.bump 64 0x7800 7 n
  match s.flt.windows.findIdx? (fun w => FaultRec.sameKey w.first r) with
  | some i =>
    { s0 with flt := { s.flt with windows := s.flt.windows.modify i (fun w => { w with count := w.count + n, last := r.time }) } }
  | none =>
    if s.flt.windows.length ≥ 512 then { s with flt := { s.flt with overflow := some ((s.flt.overflow.getD 0) + n) } }
    else
      let w : AggWindow := { first := { r with count := 0 }, count := n, last := r.time, written := false }
      { s0 with flt := { s.flt with windows := s.flt.windows ++ [w] } }

/-- R544: a FAULT_LOG_LOST record enters first when the queue has room again. -/
def State.enqueueLost (s : State) : State :=
  match s.flt.lost with
  | none => s
  | some (k, a, b) =>
    if s.flt.queue.length ≥ 1024 then s
    else
      { s with flt := { s.flt with lost := none } }.enqueue
        { s.mkRec kFaultLogLost 0 0 [(32, k), (32, a.toNat), (32, b.toNat)] with lostBefore := true }

/-- A report of a kind about unit `unit` of its scope, with its subject and payload fields (width, value). -/
def State.report (s : State) (k : FKind) (unit subject : Nat) (fields : List (Nat × Nat)) : State :=
  s.submit (s.mkRec k unit subject fields)

/-- R539: the record of a report of scope tenant at a DPA: scope chip and unit 0 where no partition, or only a FREE one, holds
it. -/
def State.tenantRec (s : State) (k : FKind) (tenant : Option Nat) (subject : Nat) (fields : List (Nat × Nat)) : FaultRec :=
  match tenant with
  | some t => s.mkRec k t subject fields
  | none => { s.mkRec k 0 subject fields with scope := 0 }

/-- R539: a report of scope tenant at a DPA. -/
def State.reportTenant (s : State) (k : FKind) (tenant : Option Nat) (subject : Nat) (fields : List (Nat × Nat)) : State :=
  s.submit (s.tenantRec k tenant subject fields)

/-- R501, R540: a record that is written when firmware first runs; at once where firmware runs already. -/
def State.reportDeferred (s : State) (k : FKind) (unit subject : Nat) (fields : List (Nat × Nat)) : State :=
  if s.running then s.report k unit subject fields
  else { s with flt := { s.flt with deferred := s.flt.deferred ++ [s.mkRec k unit subject fields] } }

/-- A record that waits for the next start of firmware, whether or not firmware runs now. -/
def State.reportDeferredAlways (s : State) (k : FKind) (fields : List (Nat × Nat)) : State :=
  { s with flt := { s.flt with deferred := s.flt.deferred ++ [s.mkRec k 0 0 fields] } }

/-- The deferred records are written. -/
def State.flushDeferred (s : State) : State :=
  s.flt.deferred.foldl (fun s r => s.submit r) { s with flt := { s.flt with deferred := [] } }

/-- MSI-X is raised where the function has it enabled (R354). -/
def State.msix (s : State) (f vec : Nat) : State := if (s.funcAt f).msix then s.emit (.msix f vec) else s

/-- R546: whether a record is visible through a scope: all to admin, to a tenant its own and its contexts'. -/
def State.visible (s : State) (scope : Nat) (r : FaultRec) : Bool :=
  if scope = 0x8000 then true
  else if scope ≥ 256 then false
  else if r.scope = 2 then r.unit.toNat = scope
  else if r.scope = 1 then bits (s.ctxAt r.unit.toNat).entry 7 0 = scope
  else false

/-- R547: vector 1 of a function, at most once per 1 ms. -/
def State.raiseFaultVector (s : State) (f : Nat) : State :=
  if s.flt.coalesce.any (fun e => e.1 = f) then
    { s with flt := { s.flt with coalesce := s.flt.coalesce.map (fun e => if e.1 = f then (f, true) else e) } }
  else { s with flt := { s.flt with coalesce := (f, false) :: s.flt.coalesce } }.msix f 1

/-- R547: the functions to which an Error record is signalled. -/
def State.signalError (s : State) (r : FaultRec) : State :=
  (List.range 68).foldl (fun s f => if s.visible (s.par 0x5040 (f + 1)) r then s.raiseFaultVector f else s) s

/-- R496: a port, link or complex is isolated; BLOCK_ISOLATED names it and the transfers that were completed with errors. -/
def State.isolate (s : State) (b : Block) (scope unit transfers : Nat) : State :=
  ({ s with rst := { s.rst with isolated := if s.rst.isolated.contains b then s.rst.isolated else b :: s.rst.isolated } }).report
    { kBlockIsolated with scope := scope } (if scope = 0 then 0 else unit) 0 [(32, unit), (32, transfers)]

/-- R496: the isolation of a port, link or complex that has left reset is lifted. -/
def State.deisolate (s : State) (b : Block) : State :=
  { s with rst := { s.rst with isolated := s.rst.isolated.filter (fun x => x ≠ b) } }

/-- R547, R557: FAULT_N is asserted; in chip reset it is not driven, STOPPED apart. -/
def State.faultN (s : State) : Bool := s.rst.stopped || (s.rst.phase ≠ .reset && (s.flt.chipErr ≠ [] || bit s.clk.status 3))

end Machine
end Sys2Proof
end

