-- ==== Sys2Proof/Machine/Address.lean ====
section
/-! DEFINITION. Address spaces (02): installed media, the reserved regions, the tier map, partitions and their rights, and
where a device physical address lies on the media (02, 03). -/

namespace Sys2Proof
namespace Machine

/-- OD 0x3010:02: HBM media extents of the part. -/
def State.hbmExtents (s : State) : Nat := if s.h64 then 262144 else 147456

/-- OD 0x311c:04 of a channel that is present (trained, or fatal since). -/
def State.channelExtents (s : State) (c : Nat) : Nat :=
  if s.par (0x3110 + c) 1 = 1 || s.par (0x3110 + c) 1 = 3 then s.par (0x3110 + c) 4 else 0

/-- OD 0x3010:03: DDR media extents. -/
def State.ddrExtents (s : State) : Nat := ((List.range 12).map s.channelExtents).sum

/-- OD 0x5400:03: the configuration class, 0 S, 1 M, 2 L. -/
def State.ringClass (s : State) : Nat := s.option 141 140

/-- SX × SY of the option record. -/
def State.ringChips (s : State) : Nat := (s.option 136 134 + 1) * (s.option 139 137 + 1)

/-- R405: spares of a class L ring. -/
def State.spares (s : State) : Nat := if s.ringClass = 2 then ceilDiv s.ringChips 32 else 0

/-- R405: the rank of a coordinate among the ring's coordinates at bring-up. -/
def State.rankOf (s : State) (c : Nat) : Nat := c / 8 * (s.option 136 134 + 1) + c % 8

/-- R23, R47, R405: the chip is a spare: a chip of class L with one of the highest coordinates, until a routing table gives it
the coordinate that it takes over. -/
def State.isSpare (s : State) : Bool := s.ringClass = 2 && s.rankOf s.coord + s.spares ≥ s.ringChips

/-- R405: control-region extents of a tier (0 HBM, 1 DDR). -/
def controlExtents (tier : Nat) : Nat := if tier = 0 then 32 else 0

/-- Media extents of a tier. -/
def State.mediaExtents (s : State) (tier : Nat) : Nat := if tier = 0 then s.hbmExtents else s.ddrExtents

/-- R405: stripe members with data: 7 in class M, 10 in class L. -/
def State.stripeData (s : State) : Nat := if s.ringClass = 1 then 7 else 10

/-- R405: parity lines of a stripe: 1 in class M, 2 in class L. -/
def State.stripeParity (s : State) : Nat := if s.ringClass = 1 then 1 else 2

/-- R405: stripe levels V of a tier; none in class S. -/
def State.levels (s : State) (tier : Nat) : Nat :=
  if s.ringClass = 0 then 0
  else (s.mediaExtents tier - controlExtents tier) / (s.stripeData + s.stripeParity)

/-- OD 0x3020:03: cross-chip parity extents of a tier. -/
def State.ringParity (s : State) (tier : Nat) : Nat := if s.ringClass = 0 then 0 else s.stripeParity * s.levels tier

/-- R405: leftover extents of a tier. -/
def State.leftover (s : State) (tier : Nat) : Nat :=
  if s.ringClass = 0 then 0 else (s.mediaExtents tier - controlExtents tier) % (s.stripeData + s.stripeParity)

/-- OD 0x3020:01, 02: armour-parity extents of a tier. -/
def State.armourExtents (s : State) (tier : Nat) : Nat :=
  match Tab.find? s.od (odKey 0x3020 (tier + 1)) with
  | some v => v
  | none => if tier = 1 && s.ringClass = 0 then ceilDiv s.ddrExtents 64 else 0

/-- Reserved regions: extents set aside on a tier. -/
def State.reserved (s : State) (tier : Nat) : Nat :=
  controlExtents tier + s.ringParity tier + s.leftover tier + (if tier = 0 && s.ringClass ≠ 0 then 4 else 0)
    + s.armourExtents tier

/-- Extents of a tier that are not reserved. -/
def State.usable (s : State) (tier : Nat) : Nat := s.mediaExtents tier - s.reserved tier

/-- OD 0x3010:05: first extent above the tenant-usable range. -/
def State.tenantTop (s : State) : Nat := if s.isSpare then 0 else s.usable 0 + s.usable 1

/-- OD 0x3010:01. -/
def State.dpaExtents (s : State) : Nat := s.hbmExtents + s.ddrExtents

/-- The j-th of the blocks that each channel of a list holds, in ascending order: media extent number. -/
def nthBlock : List (Nat × Nat) → Nat → Option Nat
  | [], _ => none
  | (c, n) :: cs, j => if j < n then some (c * 2 ^ 17 + j) else nthBlock cs (j - n)

/-- R42: blocks of each channel that are not reserved: the reserved ones are the top of the tier. -/
def State.freeBlocks (s : State) : List (Nat × Nat) :=
  let go := (List.range 12).foldl (fun (a : List (Nat × Nat) × Nat) c =>
    let n := s.channelExtents c
    let k := if n ≤ a.2 then n else a.2
    (a.1 ++ [(c, k)], a.2 - k)) ([], s.usable 1)
  go.1

/-- R42, step 3: round robin over the channels that still have free blocks, from block `base` of each. -/
def roundRobin (free : List (Nat × Nat)) : Nat → Nat → Nat → Option Nat
  | 0, _, _ => none
  | fuel + 1, base, i =>
    let left := free.filter (fun p => base < p.2)
    match left with
    | [] => none
    | p :: ps =>
      let m := ps.foldl (fun m q => if q.2 < m then q.2 else m) p.2
      let k := left.length
      if i < k * (m - base) then (left[i % k]?).map (fun q => q.1 * 2 ^ 17 + (base + i / k))
      else roundRobin free fuel m (i - k * (m - base))

/-- A tier-map entry from its fields (02). -/
def mkEntry (media tier layout st armour : Nat) : BitVec 32 :=
  BitVec.ofNat 32 (media + tier * 2 ^ 21 + layout * 2 ^ 22 + st * 2 ^ 23 + armour * 2 ^ 25)

/-- R42: the default layout's entry of a DPA extent. -/
def State.defaultEntry (s : State) (e : Nat) : BitVec 32 :=
  let armour := if s.ringClass = 0 then 3 else 0
  let dev := s.isSpare
  if e < s.usable 0 then mkEntry e 0 1 (if dev then 3 else 1) 0
  else if e < s.usable 0 + s.usable 1 then
    match roundRobin s.freeBlocks 13 0 (e - s.usable 0) with
    | some m => mkEntry m 1 0 (if dev then 3 else 1) armour
    | none => 0
  else
    let j := e - (s.usable 0 + s.usable 1)
    if j < s.reserved 0 then mkEntry (s.usable 0 + j) 0 1 3 0
    else
      match nthBlock ((List.range 12).map (fun c => (c, s.channelExtents c))) (s.usable 1 + (j - s.reserved 0)) with
      | some m => if j - s.reserved 0 < s.reserved 1 then mkEntry m 1 0 3 0 else 0
      | none => 0

/-- R47: the tier-map entry of a DPA extent; on a spare every extent reads as DEVICE, whatever a rebuild has loaded. -/
def State.tierEntry (s : State) (e : Nat) : BitVec 32 :=
  match Tab.find? s.med.tier e with
  | some x => if s.isSpare then x ||| (3#32 <<< 23) else x
  | none => s.defaultEntry e

/-- The tier-map entry of a DPA. -/
def State.entryAt (s : State) (dpa : Nat) : BitVec 32 := s.tierEntry (dpa / 2 ^ 21)

/-- R27: the DPA lies on installed media. -/
def State.installed (s : State) (dpa : Nat) : Bool := dpa / 2 ^ 21 < s.dpaExtents

/-- R48: the DPA lies in a DEVICE extent. -/
def State.isDevice (s : State) (dpa : Nat) : Bool := s.installed dpa && bits (s.entryAt dpa) 24 23 = 3

/-- R39-R41: the slice (HBM 0-31, DDR 32-43) and slice-local offset behind a DPA. -/
def State.locate (s : State) (dpa : Nat) : Nat × Nat :=
  let e := s.entryAt dpa
  let off := dpa % 2 ^ 21
  if bit e 21 then (32 + bits e 20 17, bits e 16 0 * 2 ^ 21 + off)
  else if bit e 22 then
    (bitsAt off 15 11, bits e 20 5 * 2 ^ 21 + bits e 4 0 * 2 ^ 16 + bitsAt off 20 16 * 2 ^ 11 + off % 2 ^ 11)
  else (bits e 4 0, bits e 20 5 * 2 ^ 21 + off)

/-- The slice behind a DPA. -/
def State.sliceOf (s : State) (dpa : Nat) : Nat := (s.locate dpa).1

/-- R54: the pseudo-channel (0-15) of an HBM slice-local offset. -/
def hbmPseudo (off : Nat) : Nat := bitsAt off 12 9

/-- R54: bank group, bank and row of an HBM slice-local offset. -/
def hbmBank (off : Nat) : Nat × Nat × Nat :=
  ((bitsAt off 15 14) ^^^ (bitsAt off 19 18), bitsAt off 17 16, bitsAt off 33 18)

/-- R58: subchannel, bank group, bank, logical rank and row of a DDR channel-local offset with 2^n logical ranks. -/
def ddrBank (n off : Nat) : Nat × Nat × Nat × Nat × Nat :=
  let row := off >>> (17 + n)
  (bitsAt off 6 6, (bitsAt off 14 12) ^^^ (row % 8), bitsAt off 16 15, (off >>> 17) % 2 ^ n, row)

/-- R58: log2 of the logical ranks of a channel, from its training. -/
def State.ranksLog2 (s : State) (c : Nat) : Nat := s.parElem (0x3110 + c) 2 1

/-- R54, R58: the bank of its slice, numbered with four banks to a bank group, and the row that hold a DPA. -/
def State.bankRow (s : State) (dpa : Nat) : Nat × Nat :=
  let (k, off) := s.locate dpa
  if k < 32 then
    let (g, b, r) := hbmBank off
    ((hbmPseudo off * 4 + g) * 4 + b, r)
  else
    let n := s.ranksLog2 (k - 32)
    let (sub, g, b, rank, r) := ddrBank n off
    (((sub * 2 ^ n + rank) * 8 + g) * 4 + b, r)

/-- R54, R58. Where a device puts a byte: on HBM stack, stack channel, pseudo-channel, bank group, bank, row, half of the row and
byte of the 512 B segment; on DDR channel, subchannel, logical rank, bank group, bank, row, column and byte of the burst. -/
inductive MediaAddr where
  | hbm (stack channel pseudo group bank row half byte : Nat)
  | ddr (channel sub rank group bank row column byte : Nat)
  deriving DecidableEq, Repr

/-- R54: slice-in-stack j and pseudo-channel p of the slice as stack channel 8j + (p >> 1). -/
def stackChannel (k p : Nat) : Nat := 8 * (k % 4) + p / 2

/-- R54, R58: the place of a DPA on its device. -/
def State.mediaAddr (s : State) (dpa : Nat) : MediaAddr :=
  let (k, off) := s.locate dpa
  if k < 32 then
    let p := hbmPseudo off
    let (g, b, r) := hbmBank off
    .hbm (k / 4) (stackChannel k p) (p % 2) g b r (bitsAt off 13 13) (bitsAt off 8 0)
  else
    let (sub, g, b, rank, r) := ddrBank (s.ranksLog2 (k - 32)) off
    .ddr (k - 32) sub rank g b r (bitsAt off 11 7) (bitsAt off 5 0)

/-- The tenant whose partition, in any state but FREE, holds a DPA (R27, R29). -/
def State.owner (s : State) (dpa : Nat) : Option Nat :=
  (List.find? (fun (p : Nat × Tenant) => p.2.state ≠ 0 && p.2.base.toNat ≤ dpa && dpa < p.2.base.toNat + p.2.size.toNat) s.tenants).map (fun p => p.1)

/-- R28: the DPA lies in the HDM-DB part of its partition. -/
def State.isHdmDb (s : State) (dpa : Nat) : Bool :=
  match s.owner dpa with
  | some t => dpa < (s.tenantAt t).base.toNat + (s.tenantAt t).dbSize.toNat
  | none => false

/-- OD 0x49tt:07: whether tenant `r` is in the READERS mask of tenant `t`. -/
def State.isReader (s : State) (t r : Nat) : Bool := bitAt (s.par (0x4900 + t) 7) r

/-- R32: a vat or pool-link access of tenant `t` to a DPA is allowed. -/
def State.allowed (s : State) (t dpa : Nat) (write : Bool) : Bool :=
  match s.owner dpa with
  | some o => (s.tenantAt o).state = 2 && (o = t || (!write && s.isReader o t))
  | none => false

/-- R22: the coordinate that a PPA names. -/
def ppaCoord (ppa : Nat) : Nat := bitsAt ppa 51 46

/-- The DPA part of a PPA. -/
def ppaDpa (ppa : Nat) : Nat := ppa % 2 ^ 46

/-- R22: the PPA is served from local memory. -/
def State.isLocal (s : State) (ppa : Nat) : Bool := ppaCoord ppa = s.coord

/-- R31: the QoS class of a tenant, as the slices use it. -/
def State.qosClass (s : State) (t : Nat) : Nat := Tab.get s.cal.qosEff (odKey (0x4900 + t) 4) 0

/-- R77: the slice behind a DPA is fatal. -/
def State.fatalAt (s : State) (dpa : Nat) : Bool := (s.sliceAt (s.sliceOf dpa)).fatal

/-- R28, R29: base, size and HDM-DB size that a partition may have, with the other partitions as they are. -/
def State.partitionFits (s : State) (t : Nat) (base size db : Nat) : Bool :=
  base % 2 ^ 21 = 0 && size % 2 ^ 21 = 0 && db % 2 ^ 21 = 0 && db ≤ size
    && base + size ≤ s.tenantTop * 2 ^ 21
    && s.tenants.all (fun p => p.1 = t || p.2.state = 0 || base + size ≤ p.2.base.toNat
      || p.2.base.toNat + p.2.size.toNat ≤ base || size = 0 || p.2.size = 0)

/-- The low 46 bits of a line number's address. -/
def lineDpa (line : Nat) : Nat := line * 64

/-- The line number of a DPA. -/
def lineOf (dpa : Nat) : Nat := dpa / 64

end Machine
end Sys2Proof
end

