-- ==== Sys2Proof/Machine/Flits.lean ====
section
/-! DEFINITION. The flits of a pool link as they go out (14): header, CRC, the payload of CONTROL and MARKER flits, and the lanes
that carry them. -/

namespace Sys2Proof
namespace Machine

/-- R382: a flit header of 96 bits: TYPE 0 IDLE, 1 DATA, 2 CONTROL, 3 MARKER. -/
def flitHeader (type seq ack : Nat) (ackValid : Bool) (creditVc credit units : Nat) : BitVec 96 :=
  BitVec.ofNat 96 (type % 16 + seq % 2 ^ 12 * 2 ^ 4 + ack % 2 ^ 12 * 2 ^ 16 + (if ackValid then 2 ^ 28 else 0)
    + creditVc % 8 * 2 ^ 29 + credit % 2 ^ 16 * 2 ^ 32 + units % 16 * 2 ^ 48)

/-- R383: the CRC-32 of a byte string: polynomial 0x04C11DB7, reflected, initial value and final exclusive-or of ones. -/
def crc32 (bs : List (BitVec 8)) : BitVec 32 :=
  let step (c : BitVec 32) (_ : Nat) : BitVec 32 := if c.getLsbD 0 then (c >>> 1) ^^^ 0xEDB88320#32 else c >>> 1
  (bs.foldl (fun c b => (List.range 8).foldl step (c ^^^ b.setWidth 32)) 0xFFFFFFFF#32) ^^^ 0xFFFFFFFF#32

/-- R382, R383: the 256 B of a flit: header, 240 B of payload, CRC. -/
def flitBytes (header : BitVec 96) (payload : List (BitVec 8)) : List (BitVec 8) :=
  let b := leBytes 12 header.toNat ++ fitBytes 240 payload
  b ++ leBytes 4 (crc32 b).toNat

/-- R383: a received flit is kept: its CRC agrees and its TYPE is not reserved. -/
def flitGood (bs : List (BitVec 8)) : Bool :=
  leNat ((bs.drop 252).take 4) = (crc32 (bs.take 252)).toNat && leNat (bs.take 1) % 16 < 4

/-- R382, R392: the payload of a DATA flit: packets packed from byte 12, a 16 B header and its data each. -/
def dataPayload (ps : List (BitVec 128 × List (BitVec 8))) : List (BitVec 8) := ps.flatMap (fun p => leBytes 16 p.1.toNat ++ p.2)

/-- R382, R386: the header of a DATA flit that this chip sends with packets of `units` units. DESIGN CHOICE: acknowledgements and
credits go in other flits (log entry 18). -/
def dataHeader (seq : BitVec 12) (units : Nat) : BitVec 96 := flitHeader 1 seq.toNat 0 false 7 0 units

/-- Lanes of a width code (R384). -/
def codeLanes (w : Nat) : Nat := if w = 0 then 16 else if w = 1 then 8 else 4
def lanesCode (n : Nat) : Nat := if n ≥ 16 then 0 else if n ≥ 8 then 1 else 2

/-- R384: the low 208 bits of the payload of a CONTROL flit of port `p`: KIND, SEQ_ARG, WIDTH, who and where the sender is, and the
five cumulative credit counters. -/
def State.controlPayload (s : State) (p kind arg width : Nat) : Nat :=
  let freed := (List.range 5).map (fun vc => (Tab.get (s.linkAt p).freed vc 0).toNat * 2 ^ (128 + 16 * vc))
  kind % 16 + arg % 2 ^ 12 * 2 ^ 4 + width % 4 * 2 ^ 16 + s.position * 2 ^ 18 + p % 4 * 2 ^ 24 + s.coord * 2 ^ 26
    + s.option 136 134 * 2 ^ 32 + s.option 139 137 * 2 ^ 35 + s.ringClass * 2 ^ 38 + freed.sum

/-- R384: a CONTROL flit goes out: 1 ACK_CREDIT, 2 REPLAY_REQ, 3 RETRAIN_REQ, 4 INIT. -/
def State.control (s : State) (p kind arg width : Nat) : State :=
  s.emit (.flit (Fin.ofNat 4 p) (flitHeader 2 0 0 false 7 0 0) (s.controlPayload p kind arg width))

/-- R383, R388: an IDLE flit that carries an acknowledgement goes out. -/
def State.idleAck (s : State) (p ack : Nat) : State := s.emit (.flit (Fin.ofNat 4 p) (flitHeader 0 0 ack true 7 0 0) 0)

/-- R385: the low 136 bits of the payload of a MARKER flit. -/
def markerPayload (frame probe : Nat) (echo : Bool) (skew master lock : Nat) : Nat :=
  frame % 2 ^ 64 + probe % 2 ^ 16 * 2 ^ 64 + (if echo then 2 ^ 80 else 0) + skew % 2 ^ 32 * 2 ^ 96 + master % 2 ^ 6 * 2 ^ 128
    + lock % 4 * 2 ^ 134

/-- R381: the lane that carries a byte of a flit at a width. -/
def byteLane (width byte : Nat) : Nat := byte / (256 / width)

/-- R381: the bytes of a flit that lane `j` carries at a width. -/
def laneSlice (width j : Nat) (flit : List (BitVec 8)) : List (BitVec 8) := (flit.drop (j * (256 / width))).take (256 / width)

/-- R381: the alignment bit of a lane's block: 1 in block 0 of every 16th code word of 20 blocks. -/
def alignBit (block : Nat) : Bool := block % 320 = 0

/-- R381: time of a flit at a width, in ps, and its flit rate per direction, in GB/s. -/
def flitPs (width : Nat) : Nat := 640 * (16 / width)
def flitRate (width : Nat) : Nat := 400 / (16 / width)

end Machine
end Sys2Proof
end

