-- ==== Sys2Proof/Machine/Ring.lean ====
section
/-! DEFINITION. Packets on the pool ring (14): the header, the way a packet takes, credits, and the flit that carries it. -/

namespace Sys2Proof
namespace Machine

/-- R392. The fields of a packet header. -/
structure PktHdr where
  vc      : Nat
  type    : Nat
  epoch   : Nat
  dest    : Nat
  src     : Nat
  units   : Nat
  lines   : Nat
  tenant  : Nat
  tag     : Nat
  status  : Nat
  reqKind : Nat
  dpa     : Nat
  coef    : Nat
  deriving DecidableEq, Repr, Inhabited

/-- R392: the header as 16 B. -/
def PktHdr.pack (h : PktHdr) : BitVec 128 :=
  BitVec.ofNat 128 (h.vc % 8 + h.type % 16 * 2 ^ 3 + h.epoch % 2 * 2 ^ 7 + h.dest % 64 * 2 ^ 8 + h.src % 64 * 2 ^ 14
    + h.units % 16 * 2 ^ 20 + h.lines % 4 * 2 ^ 24 + h.tenant % 256 * 2 ^ 32 + h.tag % 2 ^ 16 * 2 ^ 40
    + h.status % 16 * 2 ^ 56 + h.reqKind % 16 * 2 ^ 60 + h.dpa % 2 ^ 46 * 2 ^ 64 + h.coef % 16 * 2 ^ 112)

/-- R392: the fields of 16 B. -/
def PktHdr.unpack (b : BitVec 128) : PktHdr where
  vc      := bits b 2 0
  type    := bits b 6 3
  epoch   := bits b 7 7
  dest    := bits b 13 8
  src     := bits b 19 14
  units   := bits b 23 20
  lines   := bits b 25 24
  tenant  := bits b 39 32
  tag     := bits b 55 40
  status  := bits b 59 56
  reqKind := bits b 63 60
  dpa     := bits b 109 64
  coef    := bits b 115 112

/-- R391: receive buffer of a virtual channel, in 16 B units. -/
def vcSize (vc : Nat) : Nat := if vc < 2 then 2048 else if vc < 4 then 4096 else 512

/-- R391: whether a packet of `u` units may be sent on a link's VC. -/
def Link.credit (l : Link) (vc u : Nat) : Bool :=
  let used := ((Tab.get l.sent vc 0) - (Tab.get l.ret vc 0)).toNat
  used + u ≤ vcSize vc

/-- R396: the two ports of a dimension, the chosen one first; none where the positions agree. -/
def ringPorts (size own target rising falling : Nat) : Option (Nat × Nat) :=
  if own = target then none
  else
    let d := (target + size - own) % size
    if d ≤ size - d then some (rising, falling) else some (falling, rising)

/-- R396: a port takes no traffic while TRAINING or DOWN. -/
def State.portShut (s : State) (p : Nat) : Bool := (s.linkAt p).st = .training || (s.linkAt p).st = .down

/-- R396: the port towards a physical position, X first, then Y; none where both ways are shut. -/
def State.portTo (s : State) (pos : Nat) : Option Nat :=
  let sx := s.option 136 134 + 1
  let sy := s.option 139 137 + 1
  let x := ringPorts sx (s.position % 8) (pos % 8) 0 1
  let y := ringPorts sy (s.position / 8) (pos / 8) 2 3
  match x, y with
  | some (a, b), _ => if !s.portShut a then some a else if !s.portShut b then some b else none
  | none, some (a, b) => if !s.portShut a then some a else if !s.portShut b then some b else none
  | none, none => none

/-- R395: leaving through a port crosses the date line of its ring. -/
def State.crossesDate (s : State) (p : Nat) : Bool :=
  let sx := s.option 136 134 + 1
  let sy := s.option 139 137 + 1
  if p = 0 then s.position % 8 + 1 = sx
  else if p = 1 then s.position % 8 = 0
  else if p = 2 then s.position / 8 + 1 = sy
  else s.position / 8 = 0

/-- R395: the VC of a packet on the link it leaves by: channel A at injection or at the turn, B from the date line on. -/
def State.vcOn (s : State) (h : PktHdr) (fromPort : Option Nat) (p : Nat) : Nat :=
  if h.vc = 4 then 4
  else
    let cls := h.vc / 2 * 2
    let kept := match fromPort with
      | some q => if q / 2 = p / 2 then h.vc % 2 else 0
      | none => 0
    if kept = 1 || s.crossesDate p then cls + 1 else cls

/-- R391, R395: the head packet of port `p` may leave: credit for it, and room for two where MGMT enters a ring, at injection or at
the turn from X to Y. -/
def mayLeave (p : Nat) (l : Link) (b : BitVec 128) (from_ : Option (Nat × Nat)) : Bool :=
  let h := PktHdr.unpack b
  let u := h.units + 1
  l.credit h.vc (if h.vc = 4 && from_.all (fun q => q.1 / 2 ≠ p / 2) then 2 * u else u)

/-- R386: packets leave a port in order while the link is ACTIVE, credit lasts and the replay buffer has room; one packet
to a flit (log entry 18). -/
def State.pumpN : Nat → Nat → State → State
  | 0, _, s => s
  | n + 1, p, s =>
    let l := s.linkAt p
    match l.outq with
    | [] => s
    | (b, d, from_) :: rest =>
      if l.st = .active && l.buffer.length < 1024 && mayLeave p l b from_ then
        let h := PktHdr.unpack b
        let sent := Tab.get l.sent h.vc 0 + BitVec.ofNat 16 (h.units + 1)
        let l' := { l with
          outq := rest, txSeq := l.txSeq + 1, sent := Tab.set l.sent h.vc sent,
          buffer := l.buffer ++ [{ seq := l.txSeq, packets := [(b, d)] }] }
        let s1 := match from_ with
          | some (q, vc) => (s.modLink p (fun _ => l')).modLink q (fun x => { x with
              occ := Tab.set x.occ vc (Tab.get x.occ vc 0 - (h.units + 1)),
              freed := Tab.set x.freed vc (Tab.get x.freed vc 0 + BitVec.ofNat 16 (h.units + 1)) })
          | none => s.modLink p (fun _ => l')
        State.pumpN n p ((s1.light (lightFlitTx p) 1).emit (.packet (if h : p < 4 then ⟨p, h⟩ else 0) (dataHeader l.txSeq (h.units + 1)) b d))
      else s

/-- The packets of a port that may leave, leave. -/
def State.pump (s : State) (p : Nat) : State := State.pumpN (s.linkAt p).outq.length p s

/-- A packet joins the queue of a port. -/
def State.sendOn (s : State) (p : Nat) (h : PktHdr) (data : List (BitVec 8)) (from_ : Option (Nat × Nat)) : State :=
  (s.modLink p (fun l => { l with outq := l.outq ++ [(h.pack, data, from_)] })).pump p

/-- R397: the physical position of a destination in the table that the packet's EPOCH names; none where not PRESENT. -/
def State.destPos (s : State) (h : PktHdr) : Option Nat :=
  if s.routePresent h.epoch h.dest then some (s.route h.epoch h.dest % 64) else none

/-- R396, R397: a packet takes its way from here; none where no way is open or the destination is not PRESENT. -/
def State.forward (s : State) (h : PktHdr) (data : List (BitVec 8)) (fromPort : Option Nat) : Option State :=
  match s.destPos h with
  | none => none
  | some pos =>
    match s.portTo pos with
    | none => none
    | some p => some (s.sendOn p { h with vc := s.vcOn h fromPort p } data (fromPort.map (fun q => (q, h.vc))))

/-- R397: a packet of the chip's own enters the ring under ACTIVE_EPOCH; none where it cannot. -/
def State.inject (s : State) (h : PktHdr) (data : List (BitVec 8)) : Option State :=
  s.forward { h with epoch := s.epoch, src := s.coord } data none

/-- R398: packets of an epoch that this chip holds or waits for. -/
def State.inFlight (s : State) (e : Nat) : Nat :=
  ((List.range 4).map (fun p =>
    ((s.linkAt p).outq.filter (fun q => (PktHdr.unpack q.1).epoch = e)).length
      + ((s.linkAt p).buffer.filter (fun f => f.packets.any (fun q => (PktHdr.unpack q.1).epoch = e))).length)).sum
    + (s.pool.reqs.filter (fun r => (PktHdr.unpack r.hdr).epoch = e)).length

/-- R229, R230, R395: a management packet of one unit to another chip; it waits where the ring is shut, and is lost where the
destination is not PRESENT. -/
def State.sendMgmt (s : State) (type dest tenant : Nat) (data : List (BitVec 8)) : State :=
  let h : PktHdr := { (default : PktHdr) with
    vc := 4, type := type, dest := dest, units := data.length / 16, tenant := tenant }
  (s.inject h data).getD s

/-- R229, R230: the unit that names a ring barrier: group, sequence number, barrier (log entry 22). -/
def ringUnit (group seq barrier : Nat) : List (BitVec 8) := leBytes 16 (group + seq * 2 ^ 16 + barrier * 2 ^ 48)

/-- R405: chips of the ring that are not spares. -/
def State.stripeChips (s : State) : Nat := s.ringChips - s.spares

/-- R405: the coordinate of a chip ordinal. -/
def State.ordinalCoord (s : State) (i : Nat) : Nat :=
  let sx := s.option 136 134 + 1
  i / sx * 8 + i % sx

/-- R405: the tier, and the rank of a media extent in its tier. -/
def State.mediaRank (s : State) (e : BitVec 32) : Nat × Nat :=
  if bit e 21 then
    (1, ((List.range (bits e 20 17)).map s.channelExtents).sum + bits e 16 0)
  else (0, bits e 20 0)

/-- R42, R405: the DPA extent of parity extent `l` of a tier; the same on every chip of the ring. -/
def State.parityExtentDpa (s : State) (tier l : Nat) : Nat :=
  let rank := s.mediaExtents tier - controlExtents tier - s.ringParity tier + l
  let e := s.usable 0 + s.usable 1 + (if tier = 1 then s.reserved 0 else 0) + (rank - s.usable tier)
  e * 2 ^ 21

/-- R405: the holders of the parity of a data line: coordinate, parity DPA, whether Q, and the member index. -/
def State.parityHolders (s : State) (dpa : Nat) : List (Nat × Nat × Bool × Nat) :=
  if s.ringClass = 0 || s.stripeChips = 0 then []
  else
    let (tier, r) := s.mediaRank (s.entryAt dpa)
    let dl := s.stripeData
    if r ≥ dl * s.levels tier then []
    else
      let l := r / dl
      let t := r % dl + 1
      let n := s.stripeChips
      let own := s.rankOf s.coord
      let off := dpa % 2 ^ 21
      if s.ringClass = 1 then
        let i := (own + n * t - t) % n
        [(s.ordinalCoord i, s.parityExtentDpa tier l + off, false, t)]
      else
        let i := (own + n * (t + 1) - 1 - t) % n
        [(s.ordinalCoord i, s.parityExtentDpa tier (2 * l) + off, false, t),
         (s.ordinalCoord ((i + 1) % n), s.parityExtentDpa tier (2 * l + 1) + off, true, t)]

end Machine
end Sys2Proof
end

