-- ==== Sys2Proof/Machine/Queues.lean ====
section
/-! DEFINITION. Best-effort requests (03, 04): their WFQ class, finish tag and place in a bank queue. -/

namespace Sys2Proof
namespace Machine

/-- R101, R31: the WFQ weight in use of a class. -/
def State.weight (s : State) (cls : Nat) : Nat :=
  (Tab.find? s.cal.qosEff (odKey 0x3410 (cls + 1))).getD (s.odDefault 0x3410 (cls + 1))

/-- R101: the length overhead in use of a class on slice `k`. -/
def State.overhead (s : State) (cls k : Nat) : Nat :=
  let idx := if k < 32 then 0x3411 else 0x3412
  (Tab.find? s.cal.qosEff (odKey idx (cls + 1))).getD (s.odDefault idx (cls + 1))

/-- R90: slot capacity of a slice in tenths of a byte. -/
def State.slotTenths (s : State) (k : Nat) : Nat :=
  if k < 32 then (if s.par 0x3000 1 ≥ 8000 then 20480 else if s.par 0x3000 1 ≥ 7200 then 18430 else 16380)
  else s.par (0x3110 + (k - 32)) 3 * 32 / 100

/-- R100: the WFQ class of the tenant that owns a DPA: its QoS class; 8 where no tenant does (log entry 148). -/
def State.ownerClass (s : State) (dpa : Nat) : Nat :=
  match s.owner dpa with
  | some t => s.qosClass t % 8
  | none => 8

/-- R100: the WFQ class of a request: a tenant's QoS class for hosts, pool-link ingress and host-requested copies; 8 for
migration, control complexes and copies for the chip's own work; 9 armour; 10 scrubber; 11 partition wash. -/
def State.beClass (s : State) (r : BeSpec) : Nat :=
  if r.wash then 11
  else if r.port.val < 5 then s.ownerClass r.dpa.toNat
  else if r.port.val = 5 then
    (if r.device then 8 else match r.tenant with | some t => s.qosClass t.val % 8 | none => 8)
  else if r.port.val = 6 then 10
  else if r.port.val = 7 then 9
  else 8

/-- R101: tags are compared by signed difference modulo 2^40. -/
def tagLt (a b : BitVec 40) : Bool := (b - a).toNat ≠ 0 && (b - a).toNat < 2 ^ 39

/-- R101: the finish tag of a request of a class and length that arrives at slice `k`. -/
def State.finishTag (s : State) (k cls bytes : Nat) : BitVec 40 :=
  let x := s.sliceAt k
  let f := Tab.get x.finish cls 0
  let st := if tagLt x.vtime f then f else x.vtime
  st + BitVec.ofNat 40 (256 * (bytes + s.overhead cls k) / s.weight cls)

/-- R68, R101: a request of a class joins the queue of the bank that holds its DPA; a read that meets a pending write of its
bank and row puts the queue in in-order mode. -/
def State.enqueueBe (s : State) (cls port : Nat) (write : Bool) (bytes dpa : Nat) (work : BeWork) : State :=
  let k := s.sliceOf dpa
  let b := s.bankRow dpa
  let tag := s.finishTag k cls bytes
  let conflict := !write && (s.sliceAt k).beq.any (fun p => p.write && p.bank = b.1 && p.row = b.2)
  s.modSlice k (fun x =>
    let q : BeReq := { id := x.nextId, cls := cls, port := port, write := write, bytes := bytes, dpa := dpa, bank := b.1, row := b.2,
                       tag := tag, level := 0, passes := 0, arrived := s.now, hold := .free, work := work }
    { x with beq := x.beq ++ [q], nextId := x.nextId + 1, finish := Tab.set x.finish cls tag,
             inOrder := if conflict then addNew x.inOrder b.1 else x.inOrder })

/-- R140: the scrubber's pending writes of a line are dropped: a write to the line has arrived. -/
def State.dropScrubs (s : State) (line : Nat) : State :=
  let k := s.sliceOf (line * 64)
  let stale (r : BeReq) : Bool := match r.work with | .scrubWrite w => w / 64 = line | _ => false
  if (s.sliceAt k).beq.any stale then s.modSlice k (fun x => { x with beq := x.beq.filter (fun r => !stale r) }) else s

/-- R245: an event marked on the invocation of a context: 0 escalation, 1 translation fault, 2 poison, 3 throttle, 4 barrier. -/
def State.markEvent (s : State) (k e : Nat) : State :=
  (s.modCtx k (fun x => { x with inv := x.inv.map (fun i => { i with events := i.events ||| BitVec.ofNat 5 (2 ^ e) }) })).bumpElem
    64 0x4400 8 e

end Machine
end Sys2Proof
end

