-- ==== Sys2Proof/Machine/Stored.lean ====
section
/-! DEFINITION. Stored data (05, 15): keys, code words, poison, armour parity, ring parity, page decode, the merge buffer and the
flip mask, and how a line is read and written. Memory holds plaintext with the key of each half line, from which the stored
ciphertext follows. -/

namespace Sys2Proof
namespace Machine

/-! ### Keys (R30, R427-R431) -/

/-- R30, R428-R431: the number of the key that protects a DPA now: the owner's slot and generation, the ring key for the map
copy, else the device key; with the epoch of the key store and the loads of another chip's keys. -/
def State.keyOf (s : State) (dpa : Nat) : Nat :=
  let ep := s.sec.keyEpoch * 2 ^ 41 + s.sec.keyOrigin * 2 ^ 73
  match s.owner dpa with
  | some t => ep + (s.tenantAt t).keyGen.toNat * 512 + t
  | none =>
    let (tier, r) := s.mediaRank (s.entryAt dpa)
    let top := s.stripeData * s.levels 0
    if s.ringClass ≠ 0 && tier = 0 && r < top && top ≤ r + 4 then ep + 257 else ep + 256

/-- The mark of a half line whose stored bytes the model holds as they are: ring parity and rebuilt ciphertext. -/
def rawKey : Nat := 2 ^ 100

/-- R427, R429, R431: the 512 bits of a key: the ring key that is installed, the key that a rebuilt map copy gave, else what the
entropy source drew. -/
def State.keyBits (s : State) (k : Nat) : BitVec 512 :=
  let drawn := (Tab.find? s.sec.loaded k).getD (Config.key (k / 2 ^ 73) (k % 2 ^ 73))
  if k % 512 = 257 && k % 2 ^ 73 / 2 ^ 41 = s.sec.keyEpoch then s.sec.ringKey.getD drawn else drawn

/-- R428: the key under which a half line was last written; none in the all-zero state, in which a rebuilt zero line is too. -/
def State.writtenKey (s : State) (half : Nat) : Option Nat :=
  match Tab.find? s.med.keyTag half with
  | some k => if k = rawKey && (Mem.read s.med.mem (half / 2 * 64) 64).all (fun b => b = 0) then none else some k
  | none => (s.med.washed.find? (fun r => r.1 ≤ half / 2 && half / 2 < r.2.1)).map (fun r => r.2.2)

/-- The 32 bytes that the model holds for a half line. -/
def State.halfBytes (s : State) (half : Nat) : List (BitVec 8) := Mem.read s.med.mem (half * 32) 32

/-- The 64 bytes that the model holds for a line. -/
def State.lineBytes (s : State) (line : Nat) : List (BitVec 8) := Mem.read s.med.mem (line * 64) 64

/-- Whether a line is poison (R119). -/
def State.isPoison (s : State) (line : Nat) : Bool := s.med.poison.contains line

/-- R427, R428: the bytes that the media hold for a half line, whatever its poison. -/
def State.storedHalf (s : State) (half : Nat) : List (BitVec 8) :=
  match s.writtenKey half with
  | none => List.replicate 32 0
  | some k => if k = rawKey then s.halfBytes half else xtsSeal (s.keyBits k) half (s.halfBytes half)

/-- R119, R427: the data that the media hold for a line; a poisoned line holds zero. -/
def State.storedBytes (s : State) (line : Nat) : List (BitVec 8) :=
  if s.isPoison line then List.replicate 64 0 else s.storedHalf (2 * line) ++ s.storedHalf (2 * line + 1)

/-- R428: a half line as its key delivers it: its plaintext; zero in the all-zero state; under another key the bytes that this
key makes of the other's ciphertext. -/
def State.loadHalf (s : State) (half : Nat) : List (BitVec 8) :=
  match s.writtenKey half with
  | none => s.halfBytes half
  | some k => if k = s.keyOf (half * 32) then s.halfBytes half else xtsOpen (s.keyBits (s.keyOf (half * 32))) half (s.storedHalf half)

/-- R428: a line as its key delivers it. -/
def State.loadLine (s : State) (line : Nat) : List (BitVec 8) := s.loadHalf (2 * line) ++ s.loadHalf (2 * line + 1)

/-! ### Code words (R114-R119) -/

/-- The slice of a line is an HBM slice. -/
def State.onHbm (s : State) (dpa : Nat) : Bool := s.sliceOf dpa < 32

/-- Bytes of a code word at a DPA: 32 on HBM, 64 on DDR. -/
def State.wordBytes (s : State) (dpa : Nat) : Nat := if s.onHbm dpa then 32 else 64

/-- The first byte of the code word that holds a DPA. -/
def State.wordBase (s : State) (dpa : Nat) : Nat := dpa / s.wordBytes dpa * s.wordBytes dpa

/-- The code words of a line. -/
def State.lineWords (s : State) (line : Nat) : List Nat :=
  if s.onHbm (line * 64) then [line * 64, line * 64 + 32] else [line * 64]

/-- R117: the decoder modes that DDR_ECC_MODE asks for, by channel. -/
def State.eccWanted (s : State) : Tab Nat :=
  (s.od.filter (fun (p : Nat × Nat) => p.1 / 256 = 0x3810)).map (fun p => (p.1 % 256 - 1, p.2))

/-- R56: the module of a channel has x8 devices. -/
def State.isX8 (s : State) (c : Nat) : Bool := s.parElem (0x3110 + c) 2 0 = 1

/-- R117, R61: the decoder in force for a code word. -/
def State.eccMode (s : State) (dpa : Nat) : EccMode :=
  let (k, off) := s.locate dpa
  if k < 32 then .hbm
  else
    let c := k - 32
    let er := s.par (0x3110 + c) 5
    if s.isX8 c then .symbol
    else if er ≠ 0xFF then .erased (if er / 16 = bitsAt off 6 6 then some (er % 16) else none)
    else if Tab.get s.med.eccMode c 0 = 1 then .symbol
    else .deviceKill

/-- Symbol errors stored in the code word at a DPA (R142). -/
def State.storedErrors (s : State) (dpa : Nat) : SymErrors := Tab.get s.med.serr (s.wordBase dpa) []

/-- Symbol errors of two sources in one word. -/
def joinErrors (a b : SymErrors) : SymErrors :=
  b.foldl (fun (l : SymErrors) e =>
    match l.find? (fun x => x.1 = e.1) with
    | some x => if x.2 ^^^ e.2 = 0 then l.filter (fun y => y.1 ≠ e.1) else l.map (fun y => if y.1 = e.1 then (y.1, y.2 ^^^ e.2) else y)
    | none => if e.2 = 0 then l else l ++ [e]) a

/-- R116, R119: what the word decoder reports of the code word at a DPA that returns with symbol errors over the stored ones. A
word without any is what was stored, since the marker lies beyond every mode's reach. -/
def State.decodeWord (s : State) (dpa : Nat) (err : SymErrors) : WordResult :=
  let m := s.eccMode dpa
  match joinErrors (s.storedErrors dpa) err with
  | [] => if s.isPoison (dpa / 64) then .poison else .data []
  | es => m.report (m.received (s.isPoison (dpa / 64)) es)

/-- R118, R144: the unit of a corrected symbol of the word at a DPA: its index of the 752, slice, and SUBJECT. An x8 device holds
two symbols of each beat, sixteen in all. -/
def State.ceUnitOf (s : State) (dpa sym : Nat) : Nat × Nat × Nat :=
  let (k, off) := s.locate dpa
  if k < 32 then (16 * k + hbmPseudo off, k, hbmPseudo off)
  else
    let sub := bitsAt off 6 6
    let d := if s.isX8 (k - 32) then sym / 16 else sym / 8
    (512 + 20 * (k - 32) + 10 * sub + d, k, sub * 16 + d)

/-- One day in ns. -/
def dayNs : Nat := 86400000000000

/-- R118, R144: one corrected word counted for a unit; its 24 h count past CE_THRESHOLD writes a record, once in 24 h. -/
def State.countUnit (s : State) (u : Nat × Nat × Nat) : State :=
  let ts := s.now :: (Tab.get s.med.ceUnit u.1 []).filter (fun t => s.now < t + dayNs)
  let s1 := { s with med := { s.med with ceUnit := Tab.set s.med.ceUnit u.1 ts } }
  let quiet := (Tab.find? s.med.ceSent u.1).any (fun t => s.now < t + dayNs)
  if ts.length ≤ s.par 0x3800 8 || quiet then s1
  else
    { s1 with med := { s1.med with ceSent := Tab.set s1.med.ceSent u.1 s.now } }.report kWordCeThreshold u.2.1 u.2.2
      [(32, u.2.1), (32, ts.length)]

/-- R118: a corrected word: those of its symbols that are not the erased device's are counted. -/
def State.countCorrected (s : State) (dpa : Nat) (syms : List (Nat × Nat)) : State :=
  let cs := (s.eccMode dpa).beyond syms
  if cs.isEmpty then s
  else
    let us := cs.foldl (fun (l : List (Nat × Nat × Nat)) c => let u := s.ceUnitOf dpa c.1; if l.contains u then l else l ++ [u]) []
    us.foldl State.countUnit (s.bump 64 0x3800 (if s.onHbm dpa then 1 else 2))

/-- R144: an uncorrectable word is counted. -/
def State.countUe (s : State) (dpa : Nat) : State := s.bump 64 0x3800 (if s.onHbm dpa then 3 else 4)

/-- R541: the syndrome of a word as 16 B. -/
def State.syndromeOf (s : State) (dpa : Nat) (err : SymErrors) : Nat :=
  let m := s.eccMode dpa
  leNat ((syndromes m.m (m.received (s.isPoison (dpa / 64)) (joinErrors (s.storedErrors dpa) err))).map (BitVec.ofNat 8))

/-- R142, R143: the subindex of the flip mask of a tier, 1 HBM and 3 DDR; its control word follows it. -/
def flipSub (hbm : Bool) : Nat := if hbm then 1 else 3

/-- R143: the DPA of the flip mask that is armed on a tier. -/
def State.flipArmed (s : State) (hbm : Bool) : Option Nat :=
  let ctl := s.par 0x3850 (flipSub hbm + 1)
  if bitAt ctl 46 then some (ctl % 2 ^ 46) else none

/-- R143: a write that reaches the media at the armed DPA takes the mask into its code word. -/
def State.applyFlip (s : State) (wordDpa : Nat) : State :=
  let hbm := s.onHbm wordDpa
  let sub := flipSub hbm
  if s.flipArmed hbm = some wordDpa then
    let n := if hbm then 36 else 80
    let mask := s.par 0x3850 sub
    let errs : SymErrors := (List.range n).filterMap (fun j =>
      let b := bitsAt mask (8 * j + 7) (8 * j)
      if b = 0 then none else some (j, BitVec.ofNat 8 b))
    let s1 := { s with med := { s.med with serr := Tab.set s.med.serr wordDpa errs } }
    (s1.setPar 0x3850 (sub + 1) (setBits (setBits (s.par 0x3850 (sub + 1)) 46 46 0) 47 47 1)).bump 32 0x3850 5
  else s

/-- R143: every code word from line `lo` to before line `hi` is written: an armed mask among them is taken. -/
def State.flipRange (s : State) (lo hi : Nat) : State :=
  [true, false].foldl (fun s hbm =>
    match s.flipArmed hbm with
    | some d => if lo ≤ d / 64 && d / 64 < hi && !s.fatalAt d then s.applyFlip d else s
    | none => s) s

/-- The code words of a line hold no symbol error any more. -/
def State.clearErrors (s : State) (line : Nat) : State :=
  { s with med := { s.med with serr := (s.lineWords line).foldl (fun t w => Tab.erase t w) s.med.serr } }

/-! ### Armour parity (R122-R129) -/

/-- The ARMOUR field of a DPA's extent, as parity bytes per page: 0, 16, 32, 64 or 128 (R122). -/
def armourPage (a : Nat) : Nat := match a with | 1 => 16 | 2 => 32 | 3 => 64 | 4 => 128 | _ => 0

/-- R124: 8 KiB units of a parity block. -/
def armourUnits (a : Nat) : Nat := armourPage a * 512 / 8192

/-- R122: parity bytes per page of a DPA's extent. -/
def State.armourBytes (s : State) (dpa : Nat) : Nat := armourPage (bits (s.entryAt dpa) 27 25)

/-- The page of a DPA. -/
def pageOf (dpa : Nat) : Nat := dpa / 4096

/-- R42: the first DPA extent of a tier's armour parity region. -/
def State.armourBase (s : State) (tier : Nat) : Nat := s.usable 0 + s.usable 1 + (if tier = 0 then 0 else s.reserved 0)

/-- R124: the DPA of byte `o` of the parity block that begins at a unit. On HBM a unit lies in one slice: unit u in slice
u / 8 mod 32 (log entry 149). -/
def State.unitDpa (s : State) (tier u o : Nat) : Nat :=
  let base := (s.armourBase tier + u / 256) * 2 ^ 21
  if tier = 0 then
    let x := u % 8 * 8192 + o
    base + x / 2048 * 65536 + u / 8 % 32 * 2048 + x % 2048
  else base + u % 256 * 8192 + o

/-- R124: the slice (HBM) or channel (DDR) that holds a unit of a tier's region. -/
def State.unitPlace (s : State) (tier u : Nat) : Nat :=
  if tier = 0 then u / 8 % 32 else bits (s.tierEntry (s.armourBase 1 + u / 256)) 20 17

/-- R46, R124: the first place of `n` units in a tier's region that no block takes, off a slice or channel. A block lies in one
slice's part of an extent (log entry 149). -/
def State.firstFit (s : State) (tier n : Nat) (used : List (Nat × Nat)) (avoid : Option Nat) : Option Nat :=
  let w := if tier = 0 then 8 else 256
  (List.range (s.armourExtents tier * 256 + 1 - n)).find? (fun u =>
    u % w + n ≤ w && avoid.all (fun a => s.unitPlace tier u ≠ a) && used.all (fun b => u + n ≤ b.1 || b.1 + b.2 ≤ u))

/-- R124, R125: the blocks that bring-up places in class S for the DDR extents of the default layout, in their order: first-fit,
off the extent's own channel where the region has such a place (log entry 149). -/
def State.defaultBlocks (s : State) : List (Nat × Nat × Nat) :=
  if s.ringClass ≠ 0 then []
  else (List.range (s.usable 1)).foldl (fun (bs : List (Nat × Nat × Nat)) i =>
    let e := s.usable 0 + i
    let used := bs.map (fun b => b.2)
    match (s.firstFit 1 4 used (some (bits (s.defaultEntry e) 20 17))).orElse (fun _ => s.firstFit 1 4 used none) with
    | some u => bs ++ [(e, u, 4)]
    | none => bs) []

/-- R124: the parity block of a DPA extent, as its first 8 KiB unit of its tier's region and its units. -/
def State.armourBlock (s : State) (e : Nat) : Nat × Nat :=
  match s.med.armour.find? (fun (b : Nat × Nat × Nat) => b.1 = e) with
  | some b => b.2
  | none =>
    match s.defaultBlocks.find? (fun (b : Nat × Nat × Nat) => b.1 = e) with
    | some b => b.2
    | none => (0, 0)

/-- R124: the DPA at which the parity of a page begins. -/
def State.parityDpa (s : State) (pg : Nat) : Nat :=
  let e := pg / 512
  s.unitDpa (if bit (s.tierEntry e) 21 then 1 else 0) (s.armourBlock e).1 (pg % 512 * s.armourBytes (pg * 4096))

/-- R124, R128: the lines that hold a page's parity. -/
def State.parityLines (s : State) (pg : Nat) : List Nat :=
  let n := s.armourBytes (pg * 4096)
  let first := s.parityDpa pg / 64
  if n = 0 then [] else if n = 128 then [first, first + 1] else [first]

/-- R128: what a line of parity is: the cache's, else the media's. -/
def State.parityLine (s : State) (line : Nat) : BitVec 512 :=
  match s.med.pcache.find? (fun l => l.line = line) with
  | some l => l.data
  | none => Tab.get s.med.parity line 0

/-- R122: the parity symbols that are stored for a page. -/
def State.storedParity (s : State) (pg : Nat) : List Nat :=
  let n := s.armourBytes (pg * 4096)
  let all := (s.parityLines pg).flatMap (fun l => leBytes 64 (s.parityLine l).toNat)
  pageSymbols ((all.drop (s.parityDpa pg % 64)).take n)

/-- R122: the stored bytes of a page. -/
def State.storedPage (s : State) (pg : Nat) : List (BitVec 8) := (List.range 64).flatMap (fun i => s.storedBytes (pg * 64 + i))

/-- R77, R128, R143: a line of parity is written to the media. -/
def State.writeParity (s : State) (line : Nat) (data : BitVec 512) : State :=
  if s.fatalAt (line * 64) then s
  else
    let s1 := { s with med := { s.med with parity := if data = 0 then Tab.erase s.med.parity line else Tab.set s.med.parity line data } }
    let s2 := s1.clearErrors line
    (s2.lineWords line).foldl State.applyFlip s2

/-- R124: the extents whose parity block holds a line. -/
def State.parityOwners (s : State) (line : Nat) : List Nat :=
  ((s.med.armour ++ s.defaultBlocks).map (fun (b : Nat × Nat × Nat) => b.1)).eraseDups.filter (fun e =>
    (List.range 512).any (fun i => (s.parityLines (e * 512 + i)).contains line))

/-- R129: a line of parity is lost: a record; the pages that it covers lose their parity until each is re-encoded by requests of
class 9, one for each page of the extents concerned (log entry 150). -/
def State.parityLost (s : State) (line way : Nat) : State :=
  let es := s.parityOwners line
  let pages := es.flatMap (fun e => (List.range 512).map (fun i => e * 512 + i))
  let gone := pages.filter (fun p => (s.parityLines p).contains line)
  let s1 := { s with med := { s.med with
    pcache := s.med.pcache.filter (fun l => l.line ≠ line), noParity := gone.foldl addNew s.med.noParity } }
  let s2 := (s1.bump 32 0x3820 4).report kParityRebuild 0 0 [(32, line % 16384), (32, way), (32, es.length)]
  pages.foldl (fun s p => s.enqueueBe 9 7 false 64 (p * 4096) (.reencode p)) s2

/-- R128: the place of a line among those of its set, oldest first. -/
def State.wayOf (s : State) (line : Nat) : Nat :=
  (s.med.pcache.filter (fun l => l.line % 16384 = line % 16384)).findIdx (fun l => l.line = line)

/-- R128: a line is dropped from its full set: the oldest; a dirty one is written back (log entry 58). -/
def State.evictParity (s : State) (line : Nat) : State :=
  let set := s.med.pcache.filter (fun l => l.line % 16384 = line % 16384)
  match set with
  | v :: _ =>
    if set.length < 16 then s
    else if v.err ≥ 2 then s.parityLost v.line 0
    else
      let s1 := { s with med := { s.med with pcache := s.med.pcache.filter (fun l => l.line ≠ v.line) } }
      if v.dirty then s1.writeParity v.line v.data else s1
  | [] => s

/-- R128: a line of parity is brought into the cache: set line mod 16,384 of its number DPA[45:6] (log entry 151), 16 ways. A miss
is filled by a class 9 read. A cached line with two flipped bits or more, or a code word that cannot be corrected, is lost
(R129); false where it is. -/
def State.fetchParity (s : State) (line : Nat) : Bool × State :=
  match s.med.pcache.find? (fun l => l.line = line) with
  | some l => if l.err ≥ 2 then (false, s.parityLost line (s.wayOf line)) else (true, s.bump 64 0x3820 1)
  | none =>
    let s1 := (s.bump 64 0x3820 2).enqueueBe 9 7 false 64 (line * 64) .none
    if s1.fatalAt (line * 64) || (s1.lineWords line).any (fun w => s1.decodeWord w [] = .uncorrectable) then (false, s1.parityLost line 0)
    else
      let s2 := s1.evictParity line
      let fresh : PcLine := { line := line, dirty := false, since := 0, data := Tab.get s2.med.parity line 0, err := 0 }
      (true, { s2 with med := { s2.med with pcache := s2.med.pcache ++ [fresh] } })

/-- R126: bytes are added (exclusive-or) into the cached lines of parity from a DPA on. -/
def State.addParity (s : State) (dpa : Nat) (delta : List (BitVec 8)) : State :=
  let line := dpa / 64
  let r := s.fetchParity line
  let d := leNat delta * 256 ^ (dpa % 64)
  let put (s : State) (l : Nat) (d : Nat) : State :=
    { s with med := { s.med with pcache := s.med.pcache.map (fun (x : PcLine) =>
        if x.line = l then { x with data := x.data ^^^ BitVec.ofNat 512 d, dirty := true, since := if x.dirty then x.since else s.cal.frame.toNat }
        else x) } }
  let s1 := if r.1 then put r.2 line d else r.2
  if delta.length ≤ 64 then s1
  else
    let q := s1.fetchParity (line + 1)
    if q.1 then put q.2 (line + 1) (d / 2 ^ 512) else q.2

/-- OD 0x3820:03: dirty lines now. -/
def State.parityDirty (s : State) : Nat := (s.med.pcache.filter (fun l => l.dirty)).length

/-- R126: a write changes its page's parity by the code of the change of its stored bytes from a DPA on; the old line is read by a
best-effort request of the writer's class, unless the writer reads it otherwise. -/
def State.updateParity (s : State) (dpa : Nat) (delta : List (BitVec 8)) (read : Bool) : State :=
  let n := s.armourBytes dpa
  let pg := pageOf dpa
  if n = 0 || s.med.noParity.contains pg then s
  else
    let s1 := if read then s.enqueueBe (s.ownerClass dpa) 7 false delta.length dpa .none else s
    s1.addParity (s1.parityDpa pg) (armourDelta (n / 2) (dpa % 4096) delta)

/-- R125, R129: a page's parity is computed from the page anew. -/
def State.freshParity (s : State) (pg : Nat) : State :=
  let n := s.armourBytes (pg * 4096)
  let s1 := { s with med := { s.med with noParity := s.med.noParity.erase pg } }
  if n = 0 then s1
  else
    let want := parityBytes (armourEncode (n / 2) (pageSymbols (s1.storedPage pg)))
    s1.addParity (s1.parityDpa pg) (xorBytes want (parityBytes (s1.storedParity pg)))

/-- R125, R347: the parity block of an extent is written anew, from the pages as they are stored. -/
def State.freshBlock (s : State) (e : Nat) : State :=
  let n := s.armourBytes (e * 2 ^ 21)
  if n = 0 then s
  else
    let all := (List.range 512).flatMap (fun i => parityBytes (armourEncode (n / 2) (pageSymbols (s.storedPage (e * 512 + i)))))
    let tier := if bit (s.tierEntry e) 21 then 1 else 0
    let s1 := { s with med := { s.med with noParity := s.med.noParity.filter (fun p => p / 512 ≠ e) } }
    (List.range (512 * n / 64)).foldl (fun s j =>
      let line := s.unitDpa tier (s.armourBlock e).1 (64 * j) / 64
      ({ s with med := { s.med with pcache := s.med.pcache.filter (fun l => l.line ≠ line) } }).writeParity line
        (BitVec.ofNat 512 (leNat ((all.drop (64 * j)).take 64)))) s1

/-! ### Moves, ring parity and poison -/

/-- R44: a page written while its extent moves is copied again. -/
def State.markDirty (s : State) (dpa : Nat) : State :=
  let e := dpa / 2 ^ 21
  let pg := dpa % 2 ^ 21 / 4096
  let mv := s.reg.moves.map (fun m => if m.extent = e then { m with dirty := addNew m.dirty pg } else m)
  { s with reg := { s.reg with moves := mv } }

/-- Both halves of a line under one key. -/
def State.tagLine (s : State) (line k : Nat) : State :=
  { s with med := { s.med with keyTag := Tab.set (Tab.set s.med.keyTag (2 * line) k) (2 * line + 1) k } }

/-- Bytes that go to the media of a line as they are: ring parity, and ciphertext of another chip (R407, R411). -/
def State.storeStored (s : State) (line : Nat) (data : List (BitVec 8)) : State :=
  if s.fatalAt (line * 64) then s
  else
    let s1 := { s with med := { s.med with
      mem := Mem.write s.med.mem (line * 64) (fitBytes 64 data), poison := s.med.poison.erase line } }
    let s2 := (s1.clearErrors line).tagLine line rawKey
    (s2.lineWords line).foldl State.applyFlip s2

/-- R407: the change of one parity line by a DELTA, at its holder, by read-modify-write in class 8; STATUS 1 poisons it. A DELTA
for a poisoned parity line makes the holder read every member: whether it is valid again, and what it holds, is free (R408). -/
def State.applyDelta (s : State) (dpa : Nat) (delta : List (BitVec 8)) (poison : Bool) : State :=
  let line := dpa / 64
  if s.fatalAt dpa then s
  else if poison then
    if s.isPoison line then s
    else
      let s1 := { s with med := { s.med with poison := line :: s.med.poison } }.clearErrors line
      ((s1.lineWords line).foldl State.applyFlip s1).bump 64 0x3800 7
  else if s.isPoison line then
    let f := s.takeFree 1
    let b := f.2.takeBytes 64
    if f.1 = 0 then f.2 else b.2.storeStored line b.1
  else (s.enqueueBe 8 4 true 64 dpa .none).storeStored line (xorBytes (s.storedBytes line) delta)

/-- α^(t-1) × each byte (R405, class L, Q). -/
def qScale (t : Nat) (d : List (BitVec 8)) : List (BitVec 8) :=
  d.map (fun b => BitVec.ofNat 8 (gfMul (gfAlpha (t - 1)) b.toNat))

/-- R407: a DELTA to each parity holder of a data line: on the ring, or at once where this chip holds the parity. A DELTA
that finds no way is kept and sent again. R20: a chip whose ring checks failed keeps no ring parity. -/
def State.sendDeltas (s : State) (dpa : Nat) (delta : List (BitVec 8)) (poison : Bool) : State :=
  if s.pool.broken then s
  else (s.parityHolders dpa).foldl (fun s h =>
    let d := if h.2.2.1 then qScale h.2.2.2 delta else delta
    if h.1 = s.coord then s.applyDelta h.2.1 d poison
    else
      let hd : PktHdr := { (default : PktHdr) with
        vc := 0, type := 5, dest := h.1, units := if poison then 0 else 4, tag := s.pool.tag.toNat,
        status := if poison then 1 else 0, reqKind := 4, dpa := h.2.1, coef := h.2.2.2 }
      let hd' := { hd with epoch := s.epoch, src := s.coord }
      let s1 := { s with pool := { s.pool with tag := s.pool.tag + 1, deltas := s.pool.deltas ++ [(hd'.pack, d, s.now)] } }
      (s1.inject hd d).getD s1) s

/-- R119, R120: poison is written into a stored line; a fatal slice stores nothing (R77). The line then holds zero, which its
page's parity follows. -/
def State.poisonLine (s : State) (line : Nat) : State :=
  let dpa := line * 64
  if s.fatalAt dpa || s.isPoison line then s
  else
    let old := s.storedBytes line
    let s1 := { s with med := { s.med with poison := line :: s.med.poison } }.clearErrors line
    let s2 := (((s1.updateParity dpa old false).bump 64 0x3800 7).markDirty dpa).sendDeltas dpa (List.replicate 64 0) true
    (s2.lineWords line).foldl State.applyFlip s2

/-- R120: an uncorrectable word whose page is not armoured: its line is poison, with a WORD_UE record. -/
def State.wordLost (s : State) (dpa port : Nat) (err : SymErrors) : State :=
  (s.poisonLine (dpa / 64)).reportTenant kWordUe (s.owner dpa) 0
    [(64, dpa), (32, s.sliceOf dpa), (32, port), (128, s.syndromeOf dpa err)]

/-! ### Page decode (R123, R130) -/

/-- R129: the page has parity that armour may use. -/
def State.armoured (s : State) (dpa : Nat) : Bool := s.armourBytes dpa ≠ 0 && !s.med.noParity.contains (pageOf dpa)

/-- The DPAs of the code words of a page. -/
def State.pageWords (s : State) (pg : Nat) : List Nat :=
  let n := s.wordBytes (pg * 4096)
  (List.range (4096 / n)).map (fun i => pg * 4096 + i * n)

/-- Symbol errors of a word that page symbols in error name: page symbol i is page bytes 2i and 2i + 1 (R122). -/
def wordErrors (base n : Nat) (errs : List (Nat × BitVec 16)) : SymErrors :=
  errs.flatMap (fun e =>
    [(2 * e.1, e.2.toNat % 256), (2 * e.1 + 1, e.2.toNat / 256)].filterMap (fun (b : Nat × Nat) =>
      if e.1 < 2048 && base ≤ b.1 && b.1 < base + n && b.2 ≠ 0 then some (b.1 - base, BitVec.ofNat 8 b.2) else none))

/-- What a page decode finds, by symbol, the parity symbols from 2048 on: symbols in error after the word decoders, symbols
erased in both passes (poison), symbols erased in the second (words reported uncorrectable), symbols of fatal slices, and the
data words reported uncorrectable. -/
structure PageRead where
  bad     : List Nat
  erased  : List Nat
  flagged : List Nat
  gone    : List Nat
  words   : List Nat
  deriving DecidableEq, Repr

/-- The page symbols of the word at page offset `off`, `n` bytes. -/
def wordSymbols (off n : Nat) : List Nat := (List.range (n / 2)).map (fun i => off / 2 + i)

/-- R123: the parity of a page as it is read: from the cache where its line is there, else word-decoded from the media; a parity
symbol that differs from the code of the stored page is in error. -/
def State.readParity (s : State) (pg : Nat) (errs : List (Nat × BitVec 16)) (a : PageRead) : PageRead :=
  let n := s.armourBytes (pg * 4096)
  let at_ := s.parityDpa pg
  let syms := (List.range (n / 2)).map (fun i => (2048 + i, at_ + 2 * i))
  let cached (d : Nat) : Bool := s.med.pcache.any (fun l => l.line = d / 64 && l.err < 2)
  let bad (d : Nat) : Bool := s.decodeWord (s.wordBase d) [] = .uncorrectable
  let off := List.zipWith (fun a b => a ^^^ b) (s.storedParity pg) (armourEncode (n / 2) (pageSymbols (s.storedPage pg)))
  { a with
    gone := a.gone ++ (syms.filter (fun x => !cached x.2 && s.fatalAt x.2)).map (fun x => x.1),
    flagged := a.flagged ++ (syms.filter (fun x => !cached x.2 && !s.fatalAt x.2 && bad x.2)).map (fun x => x.1),
    bad := a.bad ++ (syms.filter (fun x =>
      off.getD (x.1 - 2048) 0 ≠ 0 || errs.any (fun e => e.1 = x.1 && e.2 ≠ 0) || (!cached x.2 && !s.fatalAt x.2 && bad x.2))).map (fun x => x.1) }

/-- R123, R134: a page and its parity as they are read and word-decoded; `errs` are symbols that return in error besides the
stored ones. -/
def State.readPage (s : State) (pg : Nat) (errs : List (Nat × BitVec 16)) : PageRead :=
  s.readParity pg errs ((s.pageWords pg).foldl (fun (a : PageRead) w =>
    let off := w - pg * 4096
    let n := s.wordBytes w
    let syms := wordSymbols off n
    if s.fatalAt w then { a with gone := a.gone ++ syms }
    else
      let es := joinErrors (s.storedErrors w) (wordErrors off n errs)
      match s.decodeWord w (wordErrors off n errs) with
      | .poison => { a with erased := a.erased ++ syms }
      | .uncorrectable =>
        { a with
          flagged := a.flagged ++ syms, words := a.words ++ [w],
          bad := a.bad ++ ((es.filter (fun e => e.1 < n)).map (fun e => (off + e.1) / 2)).eraseDups }
      | .data cs =>
        let left := joinErrors es (cs.map (fun c => (c.1, BitVec.ofNat 8 c.2)))
        { a with bad := a.bad ++ ((left.filter (fun e => e.1 < n)).map (fun e => (off + e.1) / 2)).eraseDups })
    { bad := [], erased := [], flagged := [], gone := [], words := [] })

/-- R123: the pass in which a page decodes with p parity symbols, if it does: E + 2t ≤ p. -/
def PageRead.pass (r : PageRead) (p : Nat) : Option Nat :=
  let t1 := (r.bad.filter (fun b => !r.erased.contains b)).length
  let t2 := (r.bad.filter (fun b => !r.erased.contains b && !r.flagged.contains b)).length
  if r.erased.length + 2 * (t1 + r.gone.length) ≤ p then some 1
  else if r.erased.length + r.flagged.length + r.gone.length + 2 * t2 ≤ p then some 2
  else none

/-- R123: the pass in which a page decodes as it is read now, if it does. -/
def State.pagePass (s : State) (pg : Nat) (errs : List (Nat × BitVec 16)) : Option Nat :=
  (s.readPage pg errs).pass (s.armourBytes (pg * 4096) / 2)

/-- R130, step 4: a page that decoded: its words hold no error once they are written back, and a record names its symbols. -/
def State.pageDecoded (s : State) (pg word pass stall : Nat) (errs : List (Nat × BitVec 16)) : State :=
  let rp := s.readPage pg errs
  let syms := (rp.bad.filter (fun b => b < 2048)).mergeSort (fun a b => a ≤ b)
  let list := (List.range 8).map (fun i => (16, syms.getD i 0))
  let fixed := { s.peak 0x3800 10 stall with med := { s.med with
    serr := (s.pageWords pg).foldl (fun t w => if s.isPoison (w / 64) then t else Tab.erase t w) s.med.serr } }
  let first := match (s.storedErrors word ++ wordErrors (word % 4096) (s.wordBytes word) errs) with | x :: _ => x.1 | [] => 0
  fixed.reportTenant kArmourEscalated (s.owner (pg * 4096)) (s.ceUnitOf word first).2.2
    ([(64, pg * 4096), (32, s.sliceOf word)] ++ list ++ [(32, pass), (32, stall)])

/-- R130, step 5: a page that failed: every line with an uncorrectable word is poison, and a record is written. -/
def State.pageFailed (s : State) (pg stall : Nat) (word : Nat) (errs : List (Nat × BitVec 16)) : State :=
  let rp := s.readPage pg errs
  let lines := ((rp.words ++ (if s.fatalAt word then [] else [word])).map (fun w => w / 64)).eraseDups
  let s1 := lines.foldl State.poisonLine (s.peak 0x3800 10 stall)
  (s1.bump 64 0x3800 6).reportTenant kArmourFailed (s.owner (pg * 4096)) 0
    [(64, pg * 4096), (32, lines.length), (32, rp.erased.length + rp.flagged.length + rp.gone.length)]

/-- R143: the code words of a page that are written back take an armed flip; a moving extent copies the page again (R134). -/
def State.pageWritten (s : State) (pg : Nat) : State :=
  ((s.pageWords pg).filter (fun w => !s.isPoison (w / 64) && !s.fatalAt w)).foldl State.applyFlip (s.markDirty (pg * 4096))

/-- R130: a page is locked by an escalation engine. -/
def State.pageLocked (s : State) (pg : Nat) : Bool := s.med.escEng.any (fun p => p.2.req.page = pg)

/-- R131: the slots that a page's reads or write-back take: on each slice that holds its data, by slot capacity, and one on the
slice of its parity where that is read from the media. -/
def State.pageSlots (s : State) (pg : Nat) (parity : Bool) : List (Nat × Nat) :=
  let ks := ((s.pageWords pg).map s.sliceOf).eraseDups
  let data := ks.map (fun k =>
    (k, ceilDiv (((s.pageWords pg).filter (fun w => s.sliceOf w = k)).length * s.wordBytes (pg * 4096) * 10) (s.slotTenths k)))
  let missing := (s.parityLines pg).filter (fun l => !s.med.pcache.any (fun x => x.line = l))
  if parity then
    missing.foldl (fun t l =>
      let k := s.sliceOf (l * 64)
      if t.any (fun p => p.1 = k) then t.map (fun p => if p.1 = k then (k, p.2 + 1) else p) else t ++ [(k, 1)]) data
  else data

/-- R131: an escalation's reads or writes wait for their slots. -/
def State.takeEscSlots (s : State) (eng : Nat) (plan : Option (Nat × Nat)) (scrub : Bool) (slots : List (Nat × Nat)) : State :=
  slots.foldl (fun s p => s.modSlice p.1 (fun x => { x with
    escq := x.escq ++ [{ eng := eng, plan := plan, scrub := scrub, slots := p.2, since := s.cal.ticks }] })) s

/-- R130: an uncorrectable word of an armoured page is recovered for a reader that waits for it in this command: page decode, then
write-back or poison; its slots are taken in the slots that follow. On a locked page it joins the running escalation (R134).
True where the word was recovered. The stall is free (log entry 152). -/
def State.recover (s : State) (word : Nat) : Bool × State :=
  let pg := pageOf word
  let pass := s.pagePass pg []
  if s.pageLocked pg then (pass.isSome, s)
  else
    let f := (s.bump 64 0x3800 5).takeFree 32
    let s1 := f.2.takeEscSlots 8 none true (s.pageSlots pg true)
    match pass with
    | some n => (true, ((s1.pageDecoded pg word n f.1.toNat []).pageWritten pg).takeEscSlots 8 none true (s1.pageSlots pg false))
    | none => (false, s1.pageFailed pg f.1.toNat word [])

/-- R118-R120, R130: one code word as a reader meets it, with what its decoder reports: true where it delivers data. One that the
line's other word made poison, or recovered, already is only counted. -/
def State.readWord (s : State) (word port : Nat) (r : WordResult) : Bool × State :=
  match r with
  | .data cs => (true, s.countCorrected word cs)
  | .poison => (false, s)
  | .uncorrectable =>
    let s1 := s.countUe word
    if s1.isPoison (word / 64) then (false, s1)
    else if s1.decodeWord word [] ≠ .uncorrectable then (true, s1)
    else if s1.armoured word then s1.recover word
    else (false, s1.wordLost word port [])

/-! ### The merge buffer (R135-R137) -/

/-- The merge-buffer entry of a line (R135). -/
def State.mergeEntry (s : State) (line : Nat) : Option MergeEntry := s.med.merge.find? (fun e => e.line = line)

/-- The state without a line's merge-buffer entry. -/
def State.dropMerge (s : State) (line : Nat) : State :=
  { s with med := { s.med with merge := s.med.merge.filter (fun e => e.line ≠ line) } }

/-- Bytes of a merge entry over the bytes of a line (R136). -/
def MergeEntry.over (e : MergeEntry) (bs : List (BitVec 8)) : List (BitVec 8) :=
  (List.range 64).map (fun i => if bit e.mask i then Mem.get e.data i else bs.getD i 0)

/-- R137: the bytes of a merge entry are discarded: the line stays poison, and its writer's port is recorded. -/
def State.dropPartial (s : State) (e : MergeEntry) : State :=
  (s.dropMerge e.line).reportTenant kPoisonPartialWrite (s.owner (e.line * 64)) 0 [(64, e.line * 64), (32, e.req)]

/-! ### Reads -/

/-- A read of a whole line by a requester port: poison on a fatal slice or where a word delivers none, else its bytes with those of
the merge buffer over them (R77, R118-R121, R136). -/
def State.readLine (s : State) (line : Nat) (port : Nat := 9) : (List (BitVec 8) × Bool) × State :=
  if s.fatalAt (line * 64) || s.isPoison line then ((List.replicate 64 0, true), s)
  else
    let r := (s.lineWords line).foldl (fun (a : Bool × State) w =>
      let q := a.2.readWord w port (s.decodeWord w [])
      (a.1 && q.1, q.2)) (true, s)
    let bs := r.2.loadLine line
    let s1 := r.2.light (lightRead (r.2.sliceOf (line * 64))) 64
    if !r.1 then ((List.replicate 64 0, true), s1)
    else
      match s1.mergeEntry line with
      | some e => ((e.over bs, false), s1)
      | none => ((bs, false), s1)

/-- The bytes from a DPA, across lines, as a reader inside the chip sees them; the flag is set where any line is poison. -/
def State.readBytes (s : State) (dpa n : Nat) : (List (BitVec 8) × Bool) × State :=
  let lines := (List.range (if n = 0 then 0 else (dpa + n - 1) / 64 - dpa / 64 + 1)).map (fun i => dpa / 64 + i)
  let r := lines.foldl (fun (a : (List (BitVec 8) × Bool) × State) l =>
    let q := a.2.readLine l
    ((a.1.1 ++ q.1.1, a.1.2 || q.1.2), q.2)) (([], false), s)
  (((r.1.1.drop (dpa % 64)).take n, r.1.2), r.2)

/-! ### Writes -/

/-- R120, R126, R136, R143, R407: a full-line write of valid data: clears poison, replaces a merge entry, updates armour and ring
parity, takes a flip. A fatal slice drops it (R77). `read`: the old line is read by a best-effort request. -/
def State.storeRaw (s : State) (line : Nat) (data : List (BitVec 8)) (read : Bool := true) : State :=
  let dpa := line * 64
  if s.fatalAt dpa then s
  else
    let old := s.storedBytes line
    let s1 := { s with med := { s.med with mem := Mem.write s.med.mem dpa (fitBytes 64 data), poison := s.med.poison.erase line } }
    let s2 := ((s1.clearErrors line).tagLine line (s.keyOf dpa)).dropMerge line
    let s3 := ((s2.dropScrubs line).markDirty dpa).light (lightWrite (s2.sliceOf dpa)) 64
    let delta := xorBytes old (s3.storedBytes line)
    let s4 := (s3.updateParity dpa delta read).sendDeltas dpa delta false
    (s4.lineWords line).foldl State.applyFlip s4

/-- R333, R335: the enabled region whose mordant record a line is. -/
def State.recordOf (s : State) (line : Nat) : Option Nat :=
  s.reg.enabled.find? (fun r => ((s.tenantAt (s.par (0x5A00 + r) 1)).base.toNat + s.par (0x5A00 + r) 5) / 64 = line)

/-- R362, R365: the DPA of the header line of IN slot IN_NEXT mod SLOTS of glaze window `w`. -/
def State.glazeHeader (s : State) (w : Nat) : Nat :=
  let n := s.par (0x5100 + w) 4
  (s.tenantAt (s.par (0x5100 + w) 1)).base.toNat + s.par (0x5100 + w) 2 + 4096
    + (s.glazeAt w).inNext.toNat % n * 2 ^ s.par (0x5100 + w) 3

/-- R365: a full-line write to the header line that an enabled, keyed glaze window watches starts its packet. -/
def State.armGlaze (s : State) (line : Nat) : State :=
  s.host.glaze.foldl (fun s p =>
    if p.2.key.isSome && s.par (0x5100 + p.1) 5 = 1 && s.glazeHeader p.1 / 64 = line then s.modGlaze p.1 (fun g => { g with armed := true })
    else s) s

/-- R134: a write to a locked page is held. -/
def State.holdWrite (s : State) (line : Nat) (data : List (BitVec 8)) (mask : BitVec 64) (req : Nat) : State :=
  { s with med := { s.med with heldW := s.med.heldW ++ [{ line := line, data := data, mask := mask, req := req }] } }

/-- R336: a write to a mordant record's line by another requester than the home agent is dropped and counted. -/
def State.storeLine (s : State) (line : Nat) (data : List (BitVec 8)) (read : Bool := true) : State :=
  if (s.recordOf line).isSome then s.bump 64 0x5B00 1
  else if s.pageLocked (pageOf (line * 64)) then s.holdWrite line data (BitVec.allOnes 64) 9
  else (s.storeRaw line data read).armGlaze line

/-- R135: an aligned 32 B word of an HBM line written directly; its bytes leave the line's merge entry. Poison stays. -/
def State.storeHalf (s : State) (dpa : Nat) (data : List (BitVec 8)) : State :=
  let line := dpa / 64
  if s.fatalAt dpa then s
  else
    let half := dpa % 64
    let mg := s.med.merge.map (fun e =>
      if e.line = line then { e with mask := e.mask &&& ~~~(BitVec.ofNat 64 ((2 ^ 32 - 1) * 2 ^ half)) } else e)
    let s0 := { s with med := { s.med with merge := mg.filter (fun e => e.line ≠ line || e.mask ≠ 0 || e.rmw) } }
    if s.isPoison line then s0
    else
      let old := s0.storedHalf (dpa / 32)
      let s1 := { s0 with med := { s0.med with
        mem := Mem.write s0.med.mem dpa (fitBytes 32 data), serr := Tab.erase s0.med.serr dpa,
        keyTag := Tab.set s0.med.keyTag (dpa / 32) (s0.keyOf dpa) } }
      let s2 := ((s1.dropScrubs line).markDirty dpa).light (lightWrite (s1.sliceOf dpa)) 32
      let delta := xorBytes old (s2.storedHalf (dpa / 32))
      let whole := List.replicate half 0 ++ delta ++ List.replicate (32 - half) 0
      ((s2.updateParity dpa delta true).sendDeltas (line * 64) whole false).applyFlip dpa

/-- R135, R137: the read-modify-write of an entry whose read is made now: merged and written, or discarded on poison. -/
def State.rmwNow (s : State) (e : MergeEntry) : State :=
  let r := s.readLine e.line e.req
  if r.1.2 then r.2.dropPartial e else r.2.storeRaw e.line r.1.1 false

/-- The merge buffer's entry is released by read-modify-write: its read goes out (R135, R144). -/
def State.releaseMerge (s : State) (line : Nat) : State :=
  match s.mergeEntry line with
  | some e =>
    if e.rmw then s
    else
      let mg := s.med.merge.map (fun e => if e.line = line then { e with rmw := true } else e)
      { s with med := { s.med with merge := mg } }.bump 64 0x3830 3
  | none => s

/-- R135: every entry is released, where HOLD_WINDOW is 0. -/
def State.releaseAll (s : State) : State := (s.med.merge.map (fun e => e.line)).foldl State.releaseMerge s

/-- R135: a write that needs an entry where all 512 are in use waits for the oldest, whose read-modify-write ends first. -/
def State.mergeRoom (s : State) : State :=
  if s.med.merge.length < 512 then s
  else
    match s.med.merge with
    | e :: _ => (s.releaseMerge e.line).rmwNow e
    | [] => s

/-- R135: the bytes of a write narrower than a code word enter the merge buffer. -/
def State.mergeWrite (s : State) (line : Nat) (data : List (BitVec 8)) (mask : BitVec 64) (req : Nat) : State :=
  let put (e : MergeEntry) : MergeEntry :=
    { e with mask := e.mask ||| mask, data := Mem.writeMask e.data 0 data mask.toNat, req := req }
  let s0 := s.bump 64 0x3830 2
  let s1 := match s.mergeEntry line with
    | some _ => { s0 with med := { s0.med with merge := s0.med.merge.map (fun (e : MergeEntry) => if e.line = line then put e else e) } }
    | none =>
      let r := s0.mergeRoom
      { r with med := { r.med with merge := r.med.merge ++ [put { (default : MergeEntry) with line := line }] } }
  let s2 := match s1.mergeEntry line with
    | some e => if e.mask = BitVec.allOnes 64 then s1.storeLine line (e.over []) else s1
    | none => s1
  let s3 := if s2.par 0x3830 1 = 0 then s2.releaseAll else s2
  if s3.med.merge.length ≥ 448 then
    match s3.med.merge.find? (fun (e : MergeEntry) => !e.rmw) with
    | some e => (s3.releaseMerge e.line).bump 64 0x3830 4
    | none => s3
  else s3

/-- R134, R135: a masked write of a line: whole, by aligned 32 B words on HBM, and the rest through the merge buffer; held while
its page is locked. -/
def State.storeMasked (s : State) (line : Nat) (data : List (BitVec 8)) (mask : BitVec 64) (req : Nat) : State :=
  let d := fitBytes 64 data
  if (s.recordOf line).isSome then s.bump 64 0x5B00 1
  else if s.fatalAt (line * 64) then s
  else if s.pageLocked (pageOf (line * 64)) then s.holdWrite line d mask req
  else if mask = BitVec.allOnes 64 then s.storeLine line d
  else if s.onHbm (line * 64) then
    let lo := bits mask 31 0
    let hi := bits mask 63 32
    let full := 2 ^ 32 - 1
    let s1 := if lo = full then s.storeHalf (line * 64) (d.take 32) else s
    let s2 := if hi = full then s1.storeHalf (line * 64 + 32) (d.drop 32) else s1
    let rest := (if lo = full then 0 else lo) + (if hi = full then 0 else hi) * 2 ^ 32
    if rest = 0 then s2 else s2.mergeWrite line d (BitVec.ofNat 64 rest) req
  else if mask = 0 then s
  else s.mergeWrite line d mask req

/-- R134: a page is unlocked: the writes that it held are made, in their order. -/
def State.releaseHeld (s : State) (pg : Nat) : State :=
  let mine := s.med.heldW.filter (fun w => pageOf (w.line * 64) = pg)
  mine.foldl (fun s w => s.storeMasked w.line w.data w.mask w.req)
    { s with med := { s.med with heldW := s.med.heldW.filter (fun w => pageOf (w.line * 64) ≠ pg) } }

/-- Bytes written from a DPA, across lines, by a writer inside the chip: whole lines as lines, the rest masked. -/
def State.writeBytes (s : State) (dpa : Nat) (bs : List (BitVec 8)) (req : Nat) : State :=
  let n := bs.length
  let lines := (List.range (if n = 0 then 0 else (dpa + n - 1) / 64 - dpa / 64 + 1)).map (fun i => dpa / 64 + i)
  let padded := List.replicate (dpa % 64) 0 ++ bs
  let all := ((2 ^ n - 1) * 2 ^ (dpa % 64))
  lines.foldl (fun s l =>
    let k := l - dpa / 64
    s.storeMasked l ((padded.drop (64 * k)).take 64) (BitVec.ofNat 64 (all >>> (64 * k))) req) s

end Machine
end Sys2Proof
end

