-- ==== Sys2Proof/Machine/Clients.lean ====
section
/-! DEFINITION. Clients of the object dictionary (13, 16): who may reach an entry, what is kept for a client, and how a
request that writes an entry is answered. -/

namespace Sys2Proof
namespace Machine

/-- R447. The statuses. -/
def stOk : Nat := 0
def stBusy : Nat := 1
def stNoEntry : Nat := 2
def stDenied : Nat := 3
def stMode : Nat := 4
def stLength : Nat := 5
def stRange : Nat := 6
def stRunning : Nat := 7
def stState : Nat := 8
def stProtocol : Nat := 9
def stSegment : Nat := 10

/-- What a write of an entry does: a status, a value for the response, and the state. -/
abbrev Op := State → Nat × Nat × State

/-- The write is refused with a status and changes nothing (R446). -/
def refuse (st : Nat) (s : State) : Nat × Nat × State := (st, 0, s)

/-- The write is done. -/
def done (s : State) : Nat × Nat × State := (stOk, 0, s)

/-- A client's state before its first request (R443). -/
def freshClient (c : Client) : ClientSt :=
  { client := c, ctxSel := 0, tierKey := 0, dirKey := 0, logPos := 0, staged := none, latch := none, kept := none }

/-- What is kept for a client. -/
def State.clientAt (s : State) (c : Client) : ClientSt :=
  (s.clients.find? (fun e => e.client = c)).getD (freshClient c)

/-- The path of a client, its window apart: 0 window, 1 field, 2 I3C, 3 VDM. -/
def clientGroup (c : Client) : Nat :=
  match c.path with
  | .window _ => 0
  | .field => 1
  | .i3c => 2
  | .vdm => 3

/-- R443: places for clients of a path: 16 on the field network, 8 endpoints per MCTP path, each window its own. -/
def clientPlaces (g : Nat) : Nat := if g = 0 then 68 else if g = 1 then 16 else 8

/-- R443: the state of a client changed, the client now the most recently active; the least recently active of its path
loses its state where all places are in use. -/
def State.modClient (s : State) (c : Client) (f : ClientSt → ClientSt) : State :=
  let me := f (s.clientAt c)
  let others := s.clients.filter (fun e => e.client ≠ c)
  let same := others.filter (fun e => clientGroup e.client = clientGroup c)
  let kept := if same.length ≥ clientPlaces (clientGroup c) then
    match same.getLast? with
    | some v => others.filter (fun e => e.client ≠ v.client)
    | none => others
    else others
  { s with clients := me :: kept }

/-- CONTEXT_SELECT of a client. -/
def State.selected (s : State) (c : Client) : Nat := (s.clientAt c).ctxSel.toNat % 1024

/-- The tenant of a context (R206). -/
def State.ctxTenant (s : State) (k : Nat) : Nat := bits (s.ctxAt k).entry 7 0

/-- R369: whether a client's scope reaches an entry, for a read or a write. -/
def State.inScope (s : State) (c : Client) (idx sub : Nat) (write : Bool) : Bool :=
  let t := s.clientScope c
  if t = 0x8000 then true
  else if t ≥ 256 then false
  else if idx = 0x4900 + t || idx = 0x5900 + t || idx = 0x5C00 + t then true
  else if idx = 0x4410 || idx = 0x4110 || idx = 0x7410 || idx = 0x7420 then
    (idx = 0x4410 && sub = 1) || s.ctxTenant (s.selected c) = t
  else if 0x5A00 ≤ idx && idx < 0x5B00 then s.par idx 1 = t
  else if 0x5100 ≤ idx && idx < 0x5140 then s.par idx 1 = t
  else if idx = 0x7800 then sub = 1 || sub = 2
  else if write then false
  else idx = 0x1000 || (idx = 0x6000 && (sub = 1 || sub = 3 || sub = 5 || sub = 6)) || (idx = 0x6010 && sub = 1)

/-- R458: the counters of requests, by the status answered. -/
def State.countResponse (s : State) (st : Nat) : State :=
  let s1 := s.bump 64 0x1000 8
  if st = stOk then s1 else if st = stBusy then s1.bump 64 0x1000 10 else s1.bump 64 0x1000 9

/-- A write is answered with a status and a value. -/
def State.answer (s : State) (c : Client) (st value : Nat) : State :=
  (s.countResponse st).emit (.status c (BitVec.ofNat 8 st) value)

/-- R371: a window write that arrives in a fail-over gap is queued chip-wide, up to 64; one more is lost. -/
def State.gapPush (s : State) (w : Nat) (g : GapWrite) : State :=
  if s.host.gapQueue.length < 64 then { s with host := { s.host with gapQueue := s.host.gapQueue ++ [g] } }
  else ({ s with host := { s.host with gapLost := s.host.gapLost + 1 } }).modWindow w (fun x => { x with lost := true })

/-- R449, R450, R369: what stands against a write before its entry is looked at: closed windows take nothing, gaps and
missing firmware answer BUSY, MGMT_WRITE and the scope answer ACCESS_DENIED. -/
def State.writeBar (s : State) (c : Client) (idx sub : Nat) : Option Nat :=
  if s.cx.gap || !s.running then some stBusy
  else if clientGroup c ≠ 0 && s.option 199 199 = 0 then some stDenied
  else if !s.inScope c idx sub true then some stDenied
  else none

/-- A request of a client that writes an entry with the bytes `val`, the entry's effect being `op`. -/
def State.request (s : State) (c : Client) (idx sub : Nat) (val : List (BitVec 8)) (op : Op) : State :=
  if !s.pwr.gateOn then s
  else match c.path with
  | .window w =>
    if s.clientScope c = 0xFFFF || (s.windowAt w.val).changed then s
    else if s.cx.gap then s.gapPush w.val (.entry c idx sub val)
    else
      match s.writeBar c idx sub with
      | some st => s.answer c st 0
      | none => let r := op (s.modClient c id); r.2.2.answer c r.1 r.2.1
  | _ =>
    match s.writeBar c idx sub with
    | some st => s.answer c st 0
    | none => let r := op (s.modClient c id); r.2.2.answer c r.1 r.2.1

end Machine
end Sys2Proof
end

