-- ==== Sys2Proof/Machine/Counters.lean ====
section
/-! DEFINITION. Counter records (21): the record's layout, the queue, and the ring that COUNTER_LOG names. -/

namespace Sys2Proof
namespace Machine

/-- The counts of two sets together (R533). -/
def VatCount.add (a b : VatCount) : VatCount :=
  { stall := a.stall + b.stall, wait := a.wait + b.wait, read := a.read + b.read, write := a.write + b.write,
    remote := a.remote + b.remote, mma := a.mma + b.mma, exps := a.exps + b.exps, tiles := a.tiles + b.tiles,
    escal := a.escal + b.escal, dumps := a.dumps + b.dumps }

/-- R534: a counter record as 128 B. -/
def packCounters (no seq ctx : Nat) (inv faulted altered : Bool) (flags step start fin cycles : Nat) (c : VatCount) : BitVec 1024 :=
  BitVec.ofNat 1024 (no % 2 ^ 32 + seq % 2 ^ 32 * 2 ^ 32 + ctx % 1024 * 2 ^ 64 + (if inv then 2 ^ 74 else 0)
    + (if faulted then 2 ^ 75 else 0) + (if altered then 2 ^ 76 else 0) + flags % 8 * 2 ^ 77 + step % 2 ^ 16 * 2 ^ 80
    + start % 2 ^ 64 * 2 ^ 128 + fin % 2 ^ 64 * 2 ^ 192 + cycles % 2 ^ 64 * 2 ^ 256 + c.stall % 2 ^ 64 * 2 ^ 320
    + c.wait % 2 ^ 64 * 2 ^ 384 + c.read % 2 ^ 64 * 2 ^ 448 + c.write % 2 ^ 64 * 2 ^ 512 + c.remote % 2 ^ 64 * 2 ^ 576
    + c.mma % 2 ^ 64 * 2 ^ 640 + c.exps % 2 ^ 64 * 2 ^ 704 + c.tiles % 2 ^ 32 * 2 ^ 768 + c.escal % 2 ^ 16 * 2 ^ 800
    + c.dumps % 2 ^ 16 * 2 ^ 816)

/-- R534: a record of a context: RECORD_NO advances, LAST_COUNTERS holds it, and it joins the queue of 256 where a log is
set; a full queue drops it. -/
def State.pushRecord (s : State) (k : Nat) (r : BitVec 32 → BitVec 1024) : State :=
  let x := s.ctxAt k
  let no := x.recordNo + 1
  let s1 := s.modCtx k (fun x => { x with recordNo := no, lastCount := r no })
  if bits x.counterLog 51 48 = 0 then s1
  else if s.tst.records.length ≥ 256 then s1.bump 64 0x7400 2
  else { s1 with tst := { s1.tst with records := s1.tst.records ++ [(k, r no)] } }

/-- R534: one record is written to its ring, the second line first. -/
def State.writeRecord (s : State) (k : Nat) (r : BitVec 1024) : State :=
  let g := (s.ctxAt k).counterLog
  let at_ := bits g 45 12 * 4096 + (bits r 31 0 + 2 ^ 32 - 1) % 2 ^ bits g 51 48 * 128
  let bs := leBytes 128 r.toNat
  (s.storeLine (at_ / 64 + 1) (bs.drop 64)).storeLine (at_ / 64) (bs.take 64)

/-- R534: the records that wait are written. -/
def State.drainRecords (s : State) : State :=
  s.tst.records.foldl (fun s p => s.writeRecord p.1 p.2) { s with tst := { s.tst with records := [] } }

end Machine
end Sys2Proof
end

