-- ==== Sys2Proof/Machine/Slices.lean ====
section
/-! DEFINITION. The memory slices and their calendar (03, 04): gates, the use of each slot, best-effort scheduling, shapers
and the timing wheel. -/

namespace Sys2Proof
namespace Machine

/-- R86. A gate descriptor by field. -/
structure Gate where
  start   : Nat
  len     : Nat
  period  : Nat
  guard   : Nat
  kind    : Nat
  id      : Nat
  hotOnly : Bool
  deriving DecidableEq, Repr, Inhabited

/-- R86: the fields of 64 bits. -/
def gateOf (v : BitVec 64) : Gate where
  start   := bits v 10 0
  len     := bits v 22 11
  period  := bits v 26 23
  guard   := bits v 30 27
  kind    := bits v 34 32
  id      := bits v 37 35
  hotOnly := bit v 38

/-- A descriptor as 64 bits. -/
def Gate.pack (g : Gate) : BitVec 64 :=
  BitVec.ofNat 64 (g.start + g.len * 2 ^ 11 + g.period * 2 ^ 23 + g.guard * 2 ^ 27 + g.kind * 2 ^ 32 + g.id * 2 ^ 35
    + (if g.hotOnly then 2 ^ 38 else 0))

/-- R64, R87: length of a refresh gate: 24 slots on HBM, 40 or 56 on DDR. -/
def State.refreshSlots (s : State) (k : Nat) : Nat := if k < 32 then 24 else s.par (0x3110 + (k - 32)) 6

/-- R87: entries 0-2 of a slice. -/
def deviceGates (l : Nat) : Tab (BitVec 64) :=
  [(0, Gate.pack ⟨128, l, 9, 0, 2, 0, false⟩), (1, Gate.pack ⟨384, l, 9, 0, 2, 0, true⟩),
   (2, Gate.pack ⟨2040, 8, 11, 0, 3, 0, false⟩)]

/-- The offset of a slot in an instance of a gate, where the gate is enabled and holds the slot. -/
def Gate.offset (g : Gate) (slot : Nat) : Option Nat :=
  let p := slot % 2 ^ g.period
  if g.kind ≠ 0 && g.start ≤ p && p < g.start + g.len then some (p - g.start) else none

/-- R86: the slots of a gate's instances. -/
def Gate.slots (g : Gate) : List Nat := (List.range 2048).filter (fun t => (g.offset t).isSome)

/-- The gate of a table that holds a slot: entry, descriptor and offset. -/
def gateAt (t : Tab (BitVec 64)) (slot : Nat) : Option (Nat × Gate × Nat) :=
  (List.range 16).findSome? (fun e => ((gateOf (Tab.get t e 0)).offset slot).map (fun o => (e, gateOf (Tab.get t e 0), o)))

/-- R90: counted slots per frame of a stream class in a gate table. -/
def classSlots (t : Tab (BitVec 64)) (c : Nat) : Nat :=
  ((List.range 16).map (fun e =>
    let g := gateOf (Tab.get t e 0)
    if g.kind = 1 && g.id = c then (g.len - g.guard) * (2048 / 2 ^ g.period) else 0)).sum

/-- R90: capacity of a stream class on a slice in bytes per frame, by one of its tables. -/
def State.classBytes (s : State) (k : Nat) (t : Tab (BitVec 64)) (c : Nat) : Nat := classSlots t c * s.slotTenths k / 10

/-- R91: the lower of the effective and pending capacities. -/
def State.capacity (s : State) (k c : Nat) : Nat :=
  Nat.min (s.classBytes k (s.sliceAt k).eff c) (s.classBytes k (s.sliceAt k).gates c)

/-- The trained DDR slices. -/
def State.ddrSlices (s : State) : List Nat := ((List.range 12).map (· + 32)).filter (fun k => (s.sliceAt k).trained)

/-- Slices of a tier that the launch test reads (R91). -/
def State.testSlices (s : State) (tier : Nat) : List Nat := if tier = 0 then List.range 32 else s.ddrSlices

/-- R91: a context's plan counts in its class's commitment: running or resident, and not ended, faulted or aborted. -/
def Ctx.committed (x : Ctx) : Bool := x.inv.isSome && x.state = 1

/-- REQ_HBM (tier 0) or REQ_DDR (tier 1) of an image header (R211). -/
def headerReq (h : BitVec 1024) (tier : Nat) : Nat := if tier = 0 then bits h 127 96 else bits h 159 128

/-- R91: the commitment of a stream class on a tier. -/
def State.commitment (s : State) (c tier : Nat) : Nat :=
  (s.ctxs.map (fun p =>
    if p.2.committed && bits p.2.entry 10 8 = c then headerReq ((p.2.inv.map (fun i => i.header)).getD 0) tier else 0)).sum

/-! ### Gate writes -/

/-- R88: no instance of one gate shares a slot with another's. -/
def Gate.clear (g h : Gate) : Bool := h.kind = 0 || g.slots.all (fun t => (h.offset t).isNone)

/-- R88: the checks of an enabled or disabled descriptor by itself. -/
def gateForm (v : BitVec 64) : Bool :=
  let g := gateOf v
  bits v 31 31 = 0 && bits v 63 39 = 0 && g.kind ≤ 4 && (g.id = 0 || g.kind = 1)
    && !(g.kind = 2 || g.kind = 3) && !g.hotOnly
    && (g.kind = 0 || (g.len ≠ 0 && 6 ≤ g.period && g.period ≤ 11 && g.start + g.len ≤ 2 ^ g.period && g.guard < g.len))

/-- R88: a descriptor that entry `e` of a slice may take; one that disables it is checked by its form alone. -/
def State.gateAccepted (s : State) (k e : Nat) (v : BitVec 64) : Bool :=
  let g := gateOf v
  let sl := s.sliceAt k
  let new := Tab.set sl.gates e v
  gateForm v
    && (g.kind = 0 ||
      ((List.range 16).all (fun j => j = e || g.clear (gateOf (Tab.get sl.gates j 0)))
        && (List.range 8).all (fun c =>
          let cap := Nat.min (s.classBytes k sl.eff c) (s.classBytes k new c)
          let was := s.classBytes k sl.gates c
          let now := s.classBytes k new c
          was ≤ now || s.commitment c (if k < 32 then 0 else 1) ≤ cap)))

/-- R88, R89, R113: a write of gate entry `e` of slice `k`. -/
def gateWrite (k e : Nat) (v : BitVec 64) : Op := fun s =>
  if e < 3 then refuse stMode s
  else if !s.gateAccepted k e v then refuse stRange s
  else done (s.modSlice k (fun x => { x with gates := Tab.set x.gates e v }))

/-- R88: GATE_WRITE. -/
def execGateWrite (c : Client) (sl : Fin 44) (e : Fin 16) (v : BitVec 64) (s : State) : Res :=
  let idx := if sl.val < 32 then 0x3440 + sl.val else 0x3460 + (sl.val - 32)
  ok (s.request c idx (e.val + 1) (leBytes 8 v.toNat) (gateWrite sl.val e.val v))

/-! ### Shapers -/

/-- R102. A shaper descriptor by field. -/
structure Shaper where
  enable : Bool
  zero   : Bool
  kind   : Nat
  id     : Nat
  slices : Nat
  rate   : Nat
  burst  : Nat
  deriving DecidableEq, Repr

/-- R102: the fields of 64 bits. -/
def shaperOf (v : Nat) : Shaper where
  enable := bitAt v 0
  zero   := bitAt v 1
  kind   := bitsAt v 3 2
  id     := bitsAt v 7 4
  slices := bitsAt v 9 8
  rate   := bitsAt v 31 12
  burst  := bitsAt v 51 32

/-- Shaper `n` of the chip. -/
def State.shaper (s : State) (n : Nat) : Shaper := shaperOf (s.par 0x3430 (n + 1))

/-- A shaper applies on slice `k`. -/
def Shaper.onSlice (h : Shaper) (k : Nat) : Bool := h.enable && bitAt h.slices (if k < 32 then 0 else 1)

/-- A shaper binds a request of a class and port. -/
def Shaper.binds (h : Shaper) (cls port : Nat) : Bool := (h.kind = 0 && cls = h.id) || (h.kind = 1 && port = h.id)

/-- R101, R103: the length L of a request on slice `k`, in 1/256 B. -/
def State.beNeed (s : State) (k : Nat) (r : BeReq) : Nat := (r.bytes + s.overhead r.cls k) * 256

/-- R103: the enabled shapers that bind a request on slice `k`. -/
def State.binding (s : State) (k : Nat) (r : BeReq) : List Nat :=
  (List.range 16).filter (fun n => (s.shaper n).onSlice k && (s.shaper n).binds r.cls r.port)

/-- R103: slots until a shaper holds `need` tokens (1/256 B); never where it cannot. -/
def shaperWait (h : Shaper) (tokens need : Nat) : Nat :=
  if need ≤ tokens then 0
  else if h.rate = 0 || h.burst * 64 * 256 < need then 2 ^ 40
  else ceilDiv (need - tokens) (h.rate * 8)

/-- R104: the place on the wheel of an entry that releases at a slot: a bucket within 1023 slots, else the overflow list. -/
def holdAt (now release : Nat) (shapers : List Nat) : Hold :=
  if release ≤ now + 1023 then .bucket release shapers else .overflow release shapers

/-- OD 0x3431:01: entries of a slice's overflow list. -/
def Slice.overflows (x : Slice) : Nat :=
  (x.beq.filter (fun r => match r.hold with | .overflow _ _ => true | _ => false)).length

/-- R103: the shapers that bind a request and hold too few tokens, with the slots until each holds enough. -/
def State.lacking (s : State) (k : Nat) (r : BeReq) : List (Nat × Nat) :=
  ((s.binding k r).map (fun n => (n, shaperWait (s.shaper n) (Tab.get (s.sliceAt k).tokens n 0) (s.beNeed k r)))).filter
    (fun p => p.2 ≠ 0)

/-- R103-R105: a request goes onto the wheel until a slot. -/
def State.putOnWheel (s : State) (k id release : Nat) (shapers : List Nat) : State :=
  s.modSlice k (fun x => { x with
    beq := x.beq.map (fun (q : BeReq) => if q.id = id then { q with hold := holdAt s.cal.ticks release shapers } else q) })

/-- The request is the head of its bank queue: none before it is eligible, and in in-order mode none is before it (R68). -/
def Slice.isHead (x : Slice) (r : BeReq) : Bool :=
  x.beq.all (fun q => q.bank ≠ r.bank || r.id ≤ q.id || (q.hold ≠ .free && !x.inOrder.contains r.bank))

/-- The row open in a bank. -/
def Slice.openRow (x : Slice) (bank : Nat) : Option (Nat × Bool) :=
  (x.openRows.find? (fun r => r.1 = bank)).map (fun r => r.2)

/-- The request's row is open. -/
def Slice.rowHit (x : Slice) (r : BeReq) : Bool := (x.openRow r.bank).any (fun o => o.1 = r.row)

/-- R73, R105: the slot until which a throttled activation is held. -/
def State.throttleUntil (s : State) (k : Nat) (r : BeReq) : Option Nat :=
  let x := s.sliceAt k
  if x.rowHit r then none
  else
    match x.throttled.find? (fun o => o.1 = r.port && o.2.1 = r.bank && o.2.2.1 = r.row) with
    | some o => if s.cal.ticks < o.2.2.2 + s.par 0x3060 2 then some (o.2.2.2 + s.par 0x3060 2) else none
    | none => none

/-- R103, R105: a head that lacks tokens, or whose activation is throttled, goes onto the wheel; the shapers that it lacks count
it. -/
def State.settleHead (s : State) (k : Nat) (r : BeReq) : State :=
  if r.hold ≠ .free || !(s.sliceAt k).isHead r then s
  else
    match s.lacking k r with
    | [] =>
      match s.throttleUntil k r with
      | some t => (s.putOnWheel k r.id t []).bump 32 0x3060 3
      | none => s
    | lack =>
      let w := lack.foldl (fun m p => if m < p.2 then p.2 else m) 0
      let s1 := s.putOnWheel k r.id (s.cal.ticks + w) (lack.map (fun p => p.1))
      let s2 := lack.foldl (fun s p => s.bumpElem 32 0x3431 2 (k * 16 + p.1)) s1
      s2.peak 0x3431 1 (s2.sliceAt k).overflows

/-- R103, R105: the heads of the bank queues are tested, in arrival order; where one leaves, the next of its bank is tested. -/
def State.settleHeads (s : State) (k : Nat) : State := (s.sliceAt k).beq.foldl (fun s r => s.settleHead k r) s

/-- The shapers that hold an entry of the wheel. -/
def Hold.shapers : Hold → List Nat
  | .free => []
  | .bucket _ l => l
  | .overflow _ l => l

/-- R106: a shaper write sets the tokens on every slice and discards the shaper's wheel entries, whatever it bound before; the
heads are tested again in the slot that follows. -/
def State.shaperApply (s : State) (n : Nat) (v : Nat) : State :=
  let h := shaperOf v
  let s1 := s.setPar 0x3430 (n + 1) (setBits (setBits (v % 2 ^ 52) 11 10 0) 1 1 0)
  (List.range 44).foldl (fun s k =>
    s.modSlice k (fun x => { x with
      tokens := Tab.set x.tokens n (if h.zero then 0 else h.burst * 64 * 256),
      beq := x.beq.map (fun r => if r.hold.shapers.contains n then { r with hold := .free } else r) })) s1

/-- R12, R102: values that a shaper descriptor may take: no reserved encoding; reserved bits are ignored. SLICES 0 is reserved;
DESIGN CHOICE: a write that leaves ENABLE 0 may hold it, as the reset value does (log entry 153). -/
def shaperForm (v : Nat) : Bool :=
  let h := shaperOf v
  h.kind ≤ 1 && (if h.kind = 0 then h.id ≤ 11 else h.id ≤ 9)
    && (h.slices ≠ 0 || !h.enable)

/-- R102, R106: a write of shaper `n`. -/
def shaperWrite (n : Nat) (v : Nat) : Op := fun s => if shaperForm v then done (s.shaperApply n v) else refuse stRange s

/-- R106: SHAPER_WRITE. -/
def execShaperWrite (c : Client) (n : Fin 16) (v : BitVec 64) (s : State) : Res :=
  ok (s.request c 0x3430 (n.val + 1) (leBytes 8 v.toNat) (shaperWrite n.val v.toNat))

/-! ### Arrival, urgency and the wheel -/

/-- R101, R139: BE_REQUEST_ARRIVAL at the slice that holds its DPA; the scrubber has one request outstanding. -/
def execBeRequestArrival (sl : Fin 44) (r : BeSpec) (s : State) : Res :=
  if s.sliceOf r.dpa.toNat ≠ sl.val || (r.port = 6 && (s.sliceAt sl.val).beq.any (fun q => q.port = 6)) then ok s
  else ok (s.enqueueBe (s.beClass r) r.port.val r.write r.bytes r.dpa.toNat .none)

/-- R69: the urgency level of an age under a port's target: from 50, 75 and 90 % of it. -/
def urgencyOf (age target : Nat) : Nat :=
  if 90 * target ≤ 100 * age then 3 else if 75 * target ≤ 100 * age then 2 else if 50 * target ≤ 100 * age then 1 else 0

/-- R69, R71: URGENCY_LEVEL_RAISE: the request takes the level of its age; reaching level 3 is counted by port. -/
def execUrgencyLevelRaise (sl : Fin 44) (id : Nat) (s : State) : Res :=
  match (s.sliceAt sl.val).beq.find? (fun (r : BeReq) => r.id = id) with
  | none => ok s
  | some r =>
    let l := urgencyOf (s.now - r.arrived) (s.par 0x3050 (r.port + 1))
    if l ≤ r.level then ok s
    else
      let s1 := s.modSlice sl.val (fun x => { x with
        beq := x.beq.map (fun (q : BeReq) => if q.id = id then { q with level := l } else q) })
      ok (if l = 3 then s1.bumpElem 32 0x3050 11 (sl.val * 10 + r.port) else s1)

/-- R104: WHEEL_BUCKET_RELEASE: entries whose slot has begun are eligible again; the slot tests them after its refill. -/
def execWheelBucketRelease (sl : Fin 44) (s : State) : Res :=
  ok (s.modSlice sl.val (fun x => { x with
    beq := x.beq.map (fun r => match r.hold with
      | .bucket t _ => if t ≤ s.cal.ticks then { r with hold := .free } else r
      | _ => r) }))

/-- R104: WHEEL_OVERFLOW_SWEEP: overflow entries that release within 1024 slots move into their buckets. -/
def execWheelOverflowSweep (sl : Fin 44) (s : State) : Res :=
  ok (s.modSlice sl.val (fun x => { x with
    beq := x.beq.map (fun r => match r.hold with
      | .overflow t l => if t < s.cal.ticks + 1024 then { r with hold := .bucket t l } else r
      | _ => r) }))

/-- R72: ROW_COUNT_CLEAR: every aggressor count is cleared and every row throttle ends. -/
def execRowCountClear (s : State) : Res :=
  ok ((List.range 44).foldl (fun s k => s.modSlice k (fun x => { x with aggr := [], throttled := [] })) s)

/-! ### Commands to the devices -/

/-- R72: an activation is counted in its bank group's table of 64 entries. Of entries that share the lowest count the first in
the table's order is replaced: DESIGN CHOICE, the manual names none (log entry 154). -/
def countRow (t : List Aggressor) (row req : Nat) : List Aggressor :=
  if t.any (fun a => a.row = row && a.req = req) then
    t.map (fun a => if a.row = row && a.req = req then { a with count := a.count + 1 } else a)
  else if t.length < 64 then t ++ [{ row := row, req := req, count := 1, told := false }]
  else
    match t with
    | [] => []
    | a :: as =>
      let low := as.foldl (fun (m : Aggressor) b => if b.count < m.count then b else m) a
      t.erase low ++ [{ row := row, req := req, count := low.count + 1, told := false }]

/-- The count of a row and requester in a table, and whether it was recorded. -/
def rowCount (t : List Aggressor) (row req : Nat) : Nat × Bool :=
  ((t.find? (fun a => a.row = row && a.req = req)).map (fun a => (a.count, a.told))).getD (0, false)

/-- The bank group of a bank: four banks to a group. -/
def bankGroup (bank : Nat) : Nat := bank / 4

/-- R54, R76: the channel of its slice that holds a bank: of HBM one to two pseudo-channels. -/
def bankChannel (k bank : Nat) : Nat := if k < 32 then bank / 32 % 8 else 0

/-- R76: a command enters the retry buffer of a channel. -/
def State.retain (s : State) (k ch : Nat) (c : DramCmd) : State :=
  s.modSlice k (fun x => { x with retry := Tab.set x.retry ch (((s.cal.ticks, c) :: Tab.get x.retry ch []).take 32) })

/-- R76: the channel of a bank has stopped issuing commands. -/
def State.bankStopped (s : State) (k bank : Nat) : Bool := s.cal.ticks < Tab.get (s.sliceAt k).stopUntil (bankChannel k bank) 0

/-- R72-R75: a row is activated: its count and the bank's rolling count rise; a count past ROW_THRESHOLD throttles a best-effort
requester or, for the plan queue, writes one record naming the context. -/
def State.activateRow (s : State) (k bank row req : Nat) (ctx : Option Nat) : State :=
  let g := bankGroup bank
  let t := countRow (Tab.get (s.sliceAt k).aggr g []) row req
  let n := rowCount t row req
  let past := s.par 0x3060 1 < n.1
  let mine (o : Nat × Nat × Nat × Nat) : Bool := o.1 = req && o.2.1 = bank && o.2.2.1 = row
  let tell := past && ctx.isSome && !n.2
  let t' := if tell then t.map (fun a => if a.row = row && a.req = req then { a with told := true } else a) else t
  let upd (x : Slice) : Slice :=
    { x with
      openRows := (bank, row, ctx.isSome) :: x.openRows.filter (fun (o : Nat × Nat × Bool) => o.1 ≠ bank),
      aggr := Tab.set x.aggr g t',
      raa := Tab.set x.raa bank (Tab.get x.raa bank 0 + 1),
      throttled := if ctx.isNone && (past || x.throttled.any mine) then
          (req, bank, row, s.cal.ticks) :: x.throttled.filter (fun (o : Nat × Nat × Nat × Nat) => !mine o)
        else x.throttled }
  let s1 := (s.modSlice k upd).retain k (bankChannel k bank) (.act bank row)
  match ctx with
  | some c => if tell then s1.report kPlanRowActivations c k [(32, bank), (32, row), (32, n.1)] else s1
  | none => s1

/-- R98: a column command to a bank and row: the row is activated where it is not open. -/
def State.command (s : State) (k bank row dpa req : Nat) (write : Bool) (ctx : Option Nat) : State :=
  let s1 := match (s.sliceAt k).openRow bank with
    | some (r, p) =>
      if r ≠ row then s.activateRow k bank row req ctx
      else if ctx.isSome && !p then
        s.modSlice k (fun x => { x with openRows := x.openRows.map (fun (o : Nat × Nat × Bool) => if o.1 = bank then (bank, row, true) else o) })
      else s
    | none => s.activateRow k bank row req ctx
  s1.retain k (bankChannel k bank) (.column bank row dpa write)

/-- R75: the banks whose rolling count has reached the standard's threshold take a refresh-management command, which closes
their row and lowers their count. -/
def State.manageBanks (s : State) (k : Nat) : State :=
  let lim := Config.raaLimit (if k < 32 then 0 else 1)
  let due := (s.sliceAt k).raa.filter (fun (p : Nat × Nat) => 0 < p.2 && lim ≤ p.2)
  due.foldl (fun s p =>
    (s.modSlice k (fun x => { x with
      raa := Tab.set x.raa p.1 (p.2 - Nat.max 1 lim), managed := x.managed + 1,
      openRows := x.openRows.filter (fun (o : Nat × Nat × Bool) => o.1 ≠ p.1) })).retain k (bankChannel k p.1) (.manage p.1)) s

/-- The channels of a slice. -/
def sliceChannels (k : Nat) : List Nat := if k < 32 then List.range 8 else [0]

/-- R65, R75, R96: a refresh gate in use begins: the controller closes the open rows and issues the refresh that the standard
requires, which lowers the banks' rolling counts. DESIGN CHOICE: it refreshes every bank of the slice (log entry 155). -/
def State.refreshGate (s : State) (k : Nat) : State :=
  let lim := Config.raaLimit (if k < 32 then 0 else 1)
  let s1 := s.modSlice k (fun x => { x with
    openRows := [], refreshes := x.refreshes + 1, raa := (x.raa.map (fun p => (p.1, p.2 - lim))).filter (fun p => p.2 ≠ 0) })
  (sliceChannels k).foldl (fun s c => s.retain k c .refresh) s1

/-- R66, R96: a calibration step begins: the controller closes the open rows. -/
def State.calibrateGate (s : State) (k : Nat) : State :=
  (sliceChannels k).foldl (fun s c => s.retain k c .calibrate) (s.modSlice k (fun x => { x with openRows := [] }))

/-! ### Best-effort issue -/

/-- R70, R139: the level at which a request competes: the scrubber's counts as 0. -/
def BeReq.rank (r : BeReq) : Nat := if r.cls = 10 then 0 else r.level

/-- R68, R70: request `r` may issue before the older request `q` of its bank: at a higher level (log entry 156); or to an open
row, where `q` is at level 0, or at level 1 and has been passed fewer than four times. -/
def Slice.mayPass (x : Slice) (r q : BeReq) : Bool :=
  !x.inOrder.contains r.bank
    && (q.rank < r.rank || (x.rowHit r && (q.rank = 0 || (q.rank = 1 && q.passes < 4))))

/-- R347, step 5: the extent of a DPA is in the final pass of a move: best-effort writes to it are held in their bank queues. -/
def State.inFinalPass (s : State) (dpa : Nat) : Bool := s.reg.moves.any (fun m => m.extent = dpa / 2 ^ 21 && m.round = 5 && !m.zero)

/-- R68, R70, R73, R76, R103, R347: the requests that may be chosen: eligible, with tokens, not throttled, their channel not stopped,
and before every older request of their bank. R139: a scrubber request only where nothing else is eligible. -/
def State.candidates (s : State) (k : Nat) : List BeReq :=
  let x := s.sliceAt k
  let ok (r : BeReq) : Bool :=
    r.hold = .free && !(r.write && s.inFinalPass r.dpa) && (s.lacking k r).isEmpty && (s.throttleUntil k r).isNone && !s.bankStopped k r.bank
      && x.beq.all (fun q => q.bank ≠ r.bank || r.id ≤ q.id || (q.hold ≠ .free && !x.inOrder.contains r.bank) || x.mayPass r q)
  let c := x.beq.filter ok
  let rest := c.filter (fun r => r.cls ≠ 10)
  if rest.isEmpty then c else rest

/-- R70, R101: the order of choice: urgency, tag, class, arrival. -/
def beBefore (a b : BeReq) : Bool :=
  if a.rank ≠ b.rank then b.rank < a.rank
  else if a.tag ≠ b.tag then tagLt a.tag b.tag
  else if a.cls ≠ b.cls then a.cls < b.cls
  else a.id < b.id

/-- The first of a list in the order of choice. -/
def beFirst : List BeReq → Option BeReq
  | [] => none
  | r :: rs => some (rs.foldl (fun m q => if beBefore q m then q else m) r)

/-- R98: in a lent slot of a plan gate, a request that would close a row that the plan queue opened. -/
def Slice.closesPlanRow (x : Slice) (r : BeReq) : Bool := (x.openRow r.bank).any (fun o => o.1 ≠ r.row && o.2)

/-- R129, R140: what a request of the chip's own does when it issues. -/
def State.doWork (s : State) : BeWork → State
  | .none => s
  | .reencode p => if s.med.noParity.contains p then s.freshParity p else s
  | .scrubWrite w =>
    if s.fatalAt w then s
    else { s with med := { s.med with serr := Tab.erase s.med.serr w } }.applyFlip w

/-- R434, R436: a wash write of class 11 issues: WASH_PROGRESS of the partition that is washed follows. -/
def State.washWrite (s : State) (r : BeReq) : State :=
  match (if r.cls = 11 then s.owner r.dpa else none) with
  | some t =>
    let x := s.tenantAt t
    if x.state = 3 then
      (s.modTenant t (fun x => { x with washed := x.washed + r.bytes })).setPar (0x4900 + t) 9
        (min 1000 ((x.washed + r.bytes) * 1000 / x.size.toNat))
    else s
  | none => s

/-- R101, R103, R70, R71: a best-effort request issues: V follows its tag, tokens are taken, its row is activated, those that it
passed at level 1 are counted, a missed target is counted. In-order mode ends with an empty bank queue. -/
def State.issueBe (s : State) (k : Nat) (r : BeReq) : State :=
  let need := s.beNeed k r
  let bind := s.binding k r
  let s1 := s.modSlice k (fun x =>
    let beq := (x.beq.filter (fun (q : BeReq) => q.id ≠ r.id)).map (fun (q : BeReq) =>
      if q.bank = r.bank && q.id < r.id && q.hold = .free && q.rank = 1 && r.rank ≤ 1 then { q with passes := q.passes + 1 } else q)
    { x with
      beq := beq, vtime := r.tag,
      tokens := bind.foldl (fun t n => Tab.set t n (Tab.get t n 0 - need)) x.tokens,
      inOrder := x.inOrder.filter (fun b => beq.any (fun q => q.bank = b)) })
  let s2 := (s1.command k r.bank r.row r.dpa r.port r.write none).doWork r.work |>.washWrite r
  let s3 := if s.now - r.arrived > s.par 0x3050 (r.port + 1) then s2.bumpElem 32 0x3050 12 (k * 10 + r.port) else s2
  s3.settleHeads k

/-- R97, R101: best-effort requests issue in order while they fit in what is left of the slots' data time, in tenths of a
byte; `lentPlan` where the slot is lent by a plan gate. -/
def State.issueFit : Nat → Nat → Nat → Bool → State → State
  | 0, _, _, _, s => s
  | n + 1, k, room, lentPlan, s =>
    match beFirst ((s.candidates k).filter (fun r => r.bytes * 10 ≤ room && !(lentPlan && (s.sliceAt k).closesPlanRow r))) with
    | some r => State.issueFit n k (room - r.bytes * 10) lentPlan (s.issueBe k r)
    | none => s

/-- Slots from `slot` on that no gate of the slice opens and the frame still has, at most `n`. -/
def State.freeRun (s : State) (k slot : Nat) : Nat → Nat
  | 0 => 0
  | n + 1 =>
    if slot < 2048 && (gateAt (s.sliceAt k).eff slot).isNone then 1 + State.freeRun s k (slot + 1) n else 0

/-! ### Escalations (R131) -/

/-- R131: a slot is given to an escalation. -/
def State.giveEsc (s : State) (k : Nat) (e : EscSlots) : State :=
  s.modSlice k (fun x => { x with
    escq := x.escq.filterMap (fun q => if q = e then (if q.slots ≤ 1 then none else some { q with slots := q.slots - 1 }) else some q) })

/-- R131, step 3: plan-gate slots that an engine has taken so. -/
def State.escTaken (s : State) (e : Nat) : Nat := ((Tab.find? s.med.escEng e).map (fun g => g.taken)).getD 16

/-- R131, step 3: a plan-gate slot more. -/
def State.countTaken (s : State) (e : Nat) : State :=
  { s with med := { s.med with escEng := s.med.escEng.map (fun (p : Nat × EscEngine) => if p.1 = e then (p.1, { p.2 with taken := p.2.taken + 1 }) else p) } }

/-! ### Slots -/

/-- R95: a slot that no gate holds: an escalation's, or a burst group of at most 4 slots that ends before the next gate opens. -/
def State.freeSlot (s : State) (k slot : Nat) : State :=
  match (s.sliceAt k).escq with
  | e :: _ => s.giveEsc k e
  | [] =>
    let s := (s.manageBanks k).settleHeads k
    let run := s.freeRun k slot 4
    let cap := s.slotTenths k
    match beFirst ((s.candidates k).filter (fun r => r.bytes * 10 ≤ run * cap)) with
    | some r =>
      let n := Nat.max 1 (ceilDiv (r.bytes * 10) cap)
      let s1 := s.issueBe k r
      let s2 := State.issueFit (s1.sliceAt k).beq.length k (n * cap - r.bytes * 10) false s1
      s2.modSlice k (fun x => { x with beBusy := n - 1 })
    | none => s

/-- R75, R97: a lent slot: an escalation's, or a grant of one slot; in an idle refresh gate also refresh management. -/
def State.lentSlot (s : State) (k : Nat) (plan idleRefresh : Bool) : State :=
  let s0 := s.bumpElem 64 0x3470 2 k
  match (s0.sliceAt k).escq with
  | e :: _ => s0.giveEsc k e
  | [] =>
    let s1 := (if idleRefresh then s0.manageBanks k else s0).settleHeads k
    State.issueFit (s1.sliceAt k).beq.length k (s1.slotTenths k) plan s1

/-- R66: the calibration gate of the frame has a step due: ZQ start or latch, or tracking. -/
def Slice.calDue (x : Slice) : Bool :=
  x.frames > 0 && ((x.frames - 1) % 16384 ≤ 1 || (x.frames - 1) % 64 = 32)

/-- R94: the run of requests, from a list in stream order, that one set of open rows takes within a number of tenths of a byte. -/
def takeGroup (s : State) (k : Nat) : Nat → List (Nat × Nat) → List PlanReq → List PlanReq
  | _, _, [] => []
  | room, rows, r :: rs =>
    if room < r.bytes * 10 || rows.any (fun o => o.1 = r.bank && o.2 ≠ r.row) || s.bankStopped k r.bank then []
    else r :: takeGroup s k (room - r.bytes * 10) ((r.bank, r.row) :: rows) rs

/-- R94: slots of a burst group, at most GUARD + 1 and at most 16. -/
def State.groupSlots (s : State) (k : Nat) (g : Gate) (rs : List PlanReq) : Nat :=
  Nat.min (Nat.max 1 (ceilDiv ((rs.map (fun r => r.bytes)).sum * 10) (s.slotTenths k))) (Nat.min (g.guard + 1) 16)

/-- R67, R94: the burst groups of a gate's class that may be next: each begins with a request that no earlier request of its
stream to its bank stands before, and runs on in its stream. -/
def State.planGroups (s : State) (k : Nat) (g : Gate) : List (List PlanReq) :=
  let q := (s.sliceAt k).planq.filter (fun r => r.cls = g.id)
  let room := Nat.min (g.guard + 1) 16 * s.slotTenths k
  (List.range q.length).filterMap (fun i =>
    match q[i]? with
    | none => none
    | some r =>
      if s.bankStopped k r.bank || (q.take i).any (fun p => p.ctx = r.ctx && p.bank = r.bank) then none
      else
        match takeGroup s k room [] ((q.drop i).filter (fun p => p.ctx = r.ctx)) with
        | [] => some [r]
        | rs => some rs)

/-- R94, R97: the first burst group of the gate's class that can start at an offset of the instance: in the guard band only
where it ends by the close. -/
def State.planReady (s : State) (k : Nat) (g : Gate) (off : Nat) : Option (List PlanReq) :=
  (s.planGroups k g).find? (fun rs => off + g.guard < g.len || off + s.groupSlots k g rs ≤ g.len)

/-- R94: a plan burst group issues: its requests leave the queue, their rows are opened by the plan queue. -/
def State.issuePlan (s : State) (k : Nat) (g : Gate) (rs : List PlanReq) : State :=
  let n := s.groupSlots k g rs
  let s1 := s.modSlice k (fun x => { x with planBusy := n - 1, planq := rs.foldl (fun q r => q.erase r) x.planq })
  rs.foldl (fun s r => s.command k r.bank r.row r.dpa.toNat 10 r.write (some r.ctx)) s1

/-- R131: the slots that the waiting burst groups of a gate's class need. -/
def State.planNeed (s : State) (k : Nat) (g : Gate) : Nat :=
  ceilDiv ((((s.sliceAt k).planq.filter (fun r => r.cls = g.id)).map (fun r => r.bytes)).sum * 10) (s.slotTenths k)

/-- R131, step 3: an escalation that has waited 256 slots, has taken fewer than 16 plan-gate slots, and leaves enough slots of the
instance for the burst groups that it puts back. -/
def State.escForced (s : State) (k : Nat) (g : Gate) (off : Nat) : Option EscSlots :=
  if off + 1 + s.planNeed k g ≤ g.len then
    (s.sliceAt k).escq.find? (fun e => !e.scrub && e.since + 256 ≤ s.cal.ticks && s.escTaken e.eng < 16)
  else none

/-- A gate's slot is used by its owner or taken by an escalation (R113). -/
def State.gateUsed (s : State) (k e : Nat) : State := s.bumpElem 64 0x3470 1 (k * 16 + e)

/-- R94, R97, R131: a slot of a plan gate: the group that runs, the escalation of a plan of the class, an escalation that has
waited 256 slots, the next burst group, or a grant. -/
def State.planSlot (s : State) (k e : Nat) (g : Gate) (off : Nat) : State :=
  let x := s.sliceAt k
  if x.planBusy > 0 then (s.modSlice k (fun x => { x with planBusy := x.planBusy - 1 })).gateUsed k e
  else
    match x.escq.find? (fun q => q.plan.any (fun p => p.2 = g.id)) with
    | some q => (s.giveEsc k q).gateUsed k e
    | none =>
      match s.planReady k g off with
      | some rs =>
        match s.escForced k g off with
        | some q =>
          let back := ((x.planq.filter (fun r => r.cls = g.id)).map (fun r => r.ctx)).eraseDups
          back.foldl (fun s c => s.markEvent c 0) (((s.giveEsc k q).countTaken q.eng).gateUsed k e)
        | none => (s.issuePlan k g rs).gateUsed k e
      | none => s.lentSlot k true false

/-- R94-R98: what one slice does with a slot. -/
def State.slotOf (s : State) (k slot : Nat) : State :=
  let x := s.sliceAt k
  match gateAt x.eff slot with
  | none =>
    let s1 := s.bumpElem 64 0x3470 3 k
    if x.beBusy > 0 then s1.modSlice k (fun x => { x with beBusy := x.beBusy - 1 }) else s1.freeSlot k slot
  | some (e, g, off) =>
    if g.kind = 2 then
      if g.hotOnly && !x.hot then s.lentSlot k false true
      else (if off = 0 then s.refreshGate k else s).gateUsed k e
    else if g.kind = 3 then
      if x.calDue then (if off = 0 then s.calibrateGate k else s).gateUsed k e
      else if slot = 2047 && s.cal.corr ≠ 0 then s.gateUsed k e
      else s.lentSlot k false false
    else if g.kind = 4 then
      if x.armed.isSome then s.gateUsed k e else s.lentSlot k false false
    else
      (if off = 0 then s.modSlice k (fun x => { x with openRows := x.openRows.map (fun o => (o.1, o.2.1, false)) }) else s).planSlot k e g off

/-- R103: tokens rise by RATE × 64 B / 2048 every slot, up to BURST. -/
def State.refill (s : State) (k : Nat) : State :=
  let ns := (List.range 16).filter (fun n => (s.shaper n).onSlice k)
  if ns.isEmpty then s
  else s.modSlice k (fun x => { x with
    tokens := ns.foldl (fun t n =>
      Tab.set t n (Nat.min (Tab.get t n 0 + (s.shaper n).rate * 8) ((s.shaper n).burst * 64 * 256))) x.tokens })

/-- R510, R484: the vat clock in Hz at the step in force. -/
def State.vatHz (s : State) : Nat :=
  let pct := match s.pwr.step.toNat with | 0 => 100 | 1 => 90 | 2 => 80 | 3 => 70 | 4 => 60 | _ => 50
  1100000000 * pct / 100

/-- R510: the clock of each domain in kHz, 0 while it is stopped or held in reset: vats, crossbar, HBM, DDR channels 0-11,
host-port cores, pool-link cores, complexes A and B, SID, time base. -/
def State.domainKhz (s : State) (d : Nat) : Nat :=
  let st := s.clk.status
  let held (x : Complex) : Bool := x.st = .held || x.st = .failed
  if d = 0 then (if bit st 4 then 0 else s.vatHz / 1000)
  else if d = 1 then 1650000
  else if d = 2 then 1000000
  else if d < 15 then s.par (0x3110 + (d - 3)) 3 * 125
  else if d = 15 then 1000000
  else if d = 16 then (if bit st 1 || bit st 6 then 0 else 1562500)
  else if d = 17 then (if held s.cx.a || bit st 11 then 0 else 1000000)
  else if d = 18 then (if held s.cx.b || bit st 12 then 0 else 1000000)
  else if d = 19 then (if bit st 3 then 0 else 100000)
  else 25000

/-- R518: the cycle counters run for a time in ns. -/
def State.runCycles (s : State) (ns : Nat) : State :=
  { s with clk := { s.clk with cycles := (List.range 21).foldl (fun t d =>
    Tab.set t d ((Tab.get t d 0 + s.domainKhz d * ns) % (1000000 * 2 ^ 64))) s.clk.cycles } }

/-- R128, R153, R160: bits of on-die memory that have flipped. -/
def State.upset (s : State) : Upset → State
  | .palette v w n => s.modVat v.val (fun x => { x with palErr := Tab.set x.palErr w (Tab.get x.palErr w 0 + n) })
  | .vatCache v l n => s.modVat v.val (fun x => { x with
      cache := x.cache.map (fun p => if p.1 = l then (p.1, { p.2 with err := Nat.max p.2.err n }) else p) })
  | .parityCache l n =>
    { s with med := { s.med with pcache := s.med.pcache.map (fun (p : PcLine) => if p.line = l then { p with err := Nat.max p.err n } else p) } }

/-- R84, R108: SLOT_BOUNDARY: every trained slice gives the slot that begins to its user; the slot counter and the frame
number advance; slot 2047 of a corrected frame is 1 ns longer or shorter. `ups`: the bits of on-die memory that flipped since the last slot.
Counter records that wait are written (R534). -/
def execSlotBoundary (ups : List Upset) (s : State) : Res :=
  let slot := s.cal.slot.toNat
  let s1 := (List.range 44).foldl (fun s k =>
    let x := s.sliceAt k
    if x.trained && !x.fatal then (s.refill k).slotOf k slot else s) (ups.foldl State.upset s).drainRecords
  let ns : Nat := if slot = 2047 then (4 + s.cal.corr).toNat else 4
  let now := s1.clk.now + ns
  let s2 := s1.runCycles ns
  let clk := match s2.clk.holdTo with
    | some h => if ns < h then { s2.clk with holdTo := some (h - ns) } else { s2.clk with now := now - h, holdTo := none }
    | none => { s2.clk with now := now }
  ok { s2 with
    clk := clk,
    cal := { s1.cal with
      slot := s1.cal.slot + 1, ticks := s1.cal.ticks + 1,
      frame := if slot = 2047 then s1.cal.frame + 1 else s1.cal.frame,
      corr := if slot = 2047 then 0 else s1.cal.corr } }

end Machine
end Sys2Proof
end

