-- ==== Sys2Proof/Machine/Align.lean ====
section
/-! DEFINITION. Frame alignment across the ring (04): the master, the reference neighbour, markers, offsets and the lock. -/

namespace Sys2Proof
namespace Machine

/-- FRAME_MASTER: the lowest logical coordinate present in the active table (04, R112). -/
def State.frameMaster (s : State) : Nat :=
  ((List.range 64).find? (fun c => s.routePresent s.epoch c)).getD s.coord

/-- A pool link carries traffic. -/
def State.linkLive (s : State) (p : Nat) : Bool := (s.linkAt p).st = .active || (s.linkAt p).st = .retrain

/-- R107, R112: the ports that may join the reference neighbour, the first choice first: on the master's X ring the nearer
one by X and then the other way round, else the same by Y; after those, where both are down, the ports of the other dimension
(DEDUCED, log entry 165). -/
def State.refPorts (s : State) : List Nat :=
  let m := s.route s.epoch s.frameMaster % 64
  if m = s.position then []
  else
    let pair (w : Option (Nat × Nat)) (rising falling : Nat) : List Nat :=
      match w with
      | some (a, b) => [a, b]
      | none => [rising, falling]
    let x := pair (ringPorts (s.option 136 134 + 1) (s.position % 8) (m % 8) 0 1) 0 1
    let y := pair (ringPorts (s.option 139 137 + 1) (s.position / 8) (m / 8) 2 3) 2 3
    if s.position / 8 = m / 8 then x ++ y else y ++ x

/-- R107, R112: the port of the reference neighbour: the first choice whose link is up; none for the master and for a chip
with no way to it. -/
def State.refPort (s : State) : Option Nat := s.refPorts.find? s.linkLive

/-- R498: the DELTAs that a warm reset stored are sent first once POOL_READY is asserted again. -/
def State.sendStored (s : State) : State :=
  s.pool.stored.foldl (fun s d =>
    let h := PktHdr.unpack d.1
    let s1 := { s with pool := { s.pool with deltas := s.pool.deltas ++ [(d.1, d.2, s.now)] } }
    (s1.inject { h with vc := 0, epoch := s.epoch } d.2).getD s1) { s with pool := { s.pool with stored := [] } }

/-- R404: POOL_READY: asserted when no ring check failed (R20), the frame lock was acquired or the chip is the master, and
every link that the option record enables is ACTIVE; deasserted while no link is ACTIVE, and a chip that joins again must
acquire its lock again first (R109). -/
def State.updateReady (s : State) : State :=
  let en := (List.range 4).filter (fun p => bitAt (s.option 151 148) p)
  let up := (List.range 4).any (fun p => (s.linkAt p).st = .active)
  let all := en.all (fun p => (s.linkAt p).st = .active)
  let master := s.frameMaster = s.coord
  if !up then
    { s with pool := { s.pool with ready := false, locked := false }, cal := { s.cal with goodRun := 0, badRun := 0 } }.setPar 0x3400 3 0
  else if !s.pool.broken && (s.pool.locked || master) && all then
    (if s.pool.ready then s else { s with pool := { s.pool with ready := true } }.sendStored)
  else s

/-- FRAME_LOCK: 0 FREE, 1 ACQUIRING, 2 LOCKED, 3 LOST; FREE for the master and for a chip with no way to it (R112). -/
def State.frameLock (s : State) : Nat := if s.refPort.isNone then 0 else s.par 0x3400 3

/-- R107: at each frame start a marker with the frame number goes out on every pool link. -/
def State.sendMarkers (s : State) : State :=
  (List.range 4).foldl (fun s p => if s.linkLive p then s.emit (.marker (Fin.ofNat 4 p) s.cal.frame s.frameMaster s.frameLock) else s) s

/-- R107-R109, R111: a frame marker from the reference neighbour: its offset in ps; before POOL_READY the frame number is
the reference's and the slot counter is stepped to its phase, after it slot 2047 is lengthened or shortened by 1 ns. -/
def State.frameMarker (s : State) (p : Nat) (m : Marker) : State :=
  let delay := s.par (0x5410 + p) 3
  let off : Int := m.arrival - m.skewPs.toNat - delay
  let s1 := (s.modLink p (fun l => { l with master := m.master })).setPar 0x3400 2 (twos 32 off)
  let within (d : Int) : Bool := -d ≤ off && off ≤ d
  if !s.pool.ready then
    let s2 := if s.frameLock = 2 || s.frameLock = 3 then s1 else s1.setPar 0x3400 3 1
    if within 8000 then { s2 with cal := { s2.cal with goodRun := s2.cal.goodRun + 1, badRun := 0, frame := m.frame } }
    else
      { s2 with cal := { s2.cal with
        goodRun := 0, badRun := 0, frame := m.frame,
        slot := BitVec.ofNat 11 ((m.skewPs.toNat + delay) / 4000) } }
  else
    let c : Int := if off > 0 then 1 else if off < 0 then -1 else 0
    let s2 := if c = 0 then s1 else s1.bump 32 0x3400 5
    let good := within 40000
    { s2 with cal := { s2.cal with
      corr := c, goodRun := if good then s2.cal.goodRun + 1 else 0, badRun := if good then 0 else s2.cal.badRun + 1 } }

/-- R385: MARKER_FLIT: an echo ends its probe and gives the link delay, a probe is answered, a frame marker from the
reference neighbour gives an offset sample. -/
def execMarkerFlit (p : Fin 4) (m : Marker) (s : State) : Res :=
  if m.echo then
    match s.cal.probes.find? (fun q => q.1 = p.val && q.2.1 = m.probe.toNat) with
    | some q =>
      let d := (m.arrival - q.2.2 - m.skewPs.toNat) / 2
      ok ({ s with cal := { s.cal with probes := s.cal.probes.erase q } }.setPar (0x5410 + p.val) 3 (d.toNat % 2 ^ 32))
    | none => ok s
  else if m.probe ≠ 0 then ok (s.emit (.echo p m.probe))
  else if s.refPort = some p.val then ok (s.frameMarker p.val m)
  else ok (s.modLink p.val (fun l => { l with master := m.master }))

/-- R109: FRAME_LOCK_ACQUIRED: after 16 frames within ±8 ns the lock is LOCKED and POOL_READY may follow. -/
def execFrameLockAcquired (s : State) : Res :=
  if s.cal.goodRun ≥ 16 && !s.pool.locked then
    let s1 := s.setPar 0x3400 3 2
    ok ({ s1 with pool := { s1.pool with locked := true } }.updateReady)
  else ok s

/-- R111: FRAME_LOCK_LOST: after 16 frames beyond ±40 ns the lock is LOST, whatever it was, and a record is written. -/
def execFrameLockLost (s : State) : Res :=
  if s.cal.badRun ≥ 16 && s.frameLock ≠ 3 && s.refPort.isSome then
    let p := s.refPort.getD 0
    ok ((s.setPar 0x3400 3 3).report kFrameLockLost p 0 [(32, s.par 0x3400 2), (32, p)])
  else ok s

/-- R111: FRAME_LOCK_RESTORED: after 16 frames within ±40 ns the lock is LOCKED again. -/
def execFrameLockRestored (s : State) : Res :=
  if s.cal.goodRun ≥ 16 && s.frameLock = 3 then ok (s.setPar 0x3400 3 2) else ok s

end Machine
end Sys2Proof
end

