-- ==== Sys2Proof/Machine/Formats.lean ====
section
/-! DEFINITION. Number formats (07): exact values, rounding, conversion and saturation, block-scaled groups, FP32 arithmetic
and the exponential. Values are exact: a sign, a magnitude m and a power of two. -/

namespace Sys2Proof
namespace Machine

/-- An exact value: a NaN, an infinity, or ±m × 2^e. -/
inductive FVal where
  | nan
  | inf (neg : Bool)
  | fin (neg : Bool) (m : Nat) (e : Int)
  deriving DecidableEq, Repr, Inhabited

/-- R202. The three sticky flags, as an operation raises them. -/
structure FFlags where
  overflow : Bool
  invalid  : Bool
  nanDrop  : Bool
  deriving DecidableEq, Repr, Inhabited

/-- No flag. -/
def FFlags.none : FFlags := ⟨false, false, false⟩

/-- The flags of two operations together. -/
def FFlags.or (a b : FFlags) : FFlags := ⟨a.overflow || b.overflow, a.invalid || b.invalid, a.nanDrop || b.nanDrop⟩

/-- R184. A scalar floating-point format: exponent and mantissa bits, bias, infinity and NaN kinds (0 none, 1 IEEE, 2 the
E4M3 way: one NaN code, no infinity), and the code of the largest finite value. -/
structure FpFmt where
  E    : Nat
  M    : Nat
  bias : Nat
  spec : Nat
  big  : Nat
  qnan : Nat
  deriving DecidableEq, Repr

def fp32 : FpFmt := ⟨8, 23, 127, 1, 0x7F7FFFFF, 0x7FC00000⟩
def fp16 : FpFmt := ⟨5, 10, 15, 1, 0x7BFF, 0x7E00⟩
def bf16 : FpFmt := ⟨8, 7, 127, 1, 0x7F7F, 0x7FC0⟩
def e4m3 : FpFmt := ⟨4, 3, 7, 2, 0x7E, 0x7F⟩
def e5m2 : FpFmt := ⟨5, 2, 15, 1, 0x7B, 0x7E⟩
def e3m2 : FpFmt := ⟨3, 2, 3, 0, 0x1F, 0⟩
def e2m3 : FpFmt := ⟨2, 3, 1, 0, 0x1F, 0⟩
def e2m1 : FpFmt := ⟨2, 1, 1, 0, 7, 0⟩

/-- R183: the scalar floating-point format of a code 0-7. -/
def fpFmtOf (code : Nat) : FpFmt :=
  match code with
  | 0 => fp32 | 1 => fp16 | 2 => bf16 | 3 => e4m3 | 4 => e5m2 | 5 => e3m2 | 6 => e2m3 | _ => e2m1

/-- R184: the value of a code. -/
def FpFmt.decode (f : FpFmt) (c : Nat) : FVal :=
  let m := c % 2 ^ f.M
  let e := (c >>> f.M) % 2 ^ f.E
  let neg := bitAt c (f.E + f.M)
  if f.spec = 1 && e = 2 ^ f.E - 1 then (if m = 0 then .inf neg else .nan)
  else if f.spec = 2 && e = 2 ^ f.E - 1 && m = 2 ^ f.M - 1 then .nan
  else if e = 0 then .fin neg m (1 - f.bias - f.M)
  else .fin neg (2 ^ f.M + m) ((e : Int) - f.bias - f.M)

/-- R198, R199: m × 2^-d rounded to a whole number: 0 RNE, 1 RTZ, 2 SR with draw u. -/
def roundShift (m d mode u : Nat) : Nat :=
  let q := m >>> d
  let r := m % 2 ^ d
  if mode = 1 then q
  else if mode = 2 then (if u < r * 2 ^ 16 / 2 ^ d && r ≠ 0 then q + 1 else q)
  else
    let h := 2 ^ d
    if 2 * r > h || (2 * r = h && q % 2 = 1) then q + 1 else q

/-- Position of the highest 1 bit; 0 for 0. -/
def topBit (m : Nat) : Nat := Nat.log2 m

/-- The magnitude of ±m × 2^e rounded to a format's precision as n × 2^q, with no upper bound on the exponent. -/
def FpFmt.roundMag (f : FpFmt) (m : Nat) (e : Int) (mode u : Nat) : Nat × Int :=
  let low : Int := 1 - f.bias - f.M
  let q0 : Int := (topBit m : Int) + e - f.M
  let q := if q0 < low then low else q0
  let n := if q ≤ e then m <<< (e - q).toNat else roundShift m (q - e).toNat mode u
  if n ≥ 2 ^ (f.M + 1) then (n / 2, q + 1) else (n, q)

/-- The code of a magnitude n × 2^q already rounded. -/
def FpFmt.encodeMag (f : FpFmt) (n : Nat) (q : Int) : Nat :=
  if n < 2 ^ f.M then n else (q + f.M + f.bias).toNat * 2 ^ f.M + (n - 2 ^ f.M)

/-- The sign bit of a format over a code. -/
def FpFmt.signed (f : FpFmt) (neg : Bool) (c : Nat) : Nat := if neg then c + 2 ^ (f.E + f.M) else c

/-- R200: conversion of a value to a scalar floating-point format by a mode, with SAT and the draw u. -/
def FpFmt.encode (f : FpFmt) (v : FVal) (mode : Nat) (sat : Bool) (u : Nat) : Nat × FFlags :=
  match v with
  | .nan => if f.spec = 0 then (0, ⟨false, false, true⟩) else (f.qnan, .none)
  | .inf neg =>
    if f.spec = 1 && !sat then (f.signed neg ((2 ^ f.E - 1) * 2 ^ f.M), .none)
    else if f.spec = 2 && !sat then (f.qnan, ⟨false, true, false⟩)
    else (f.signed neg f.big, ⟨true, false, false⟩)
  | .fin neg m e =>
    if m = 0 then (f.signed neg 0, .none)
    else
      let (n, q) := f.roundMag m e mode u
      let c := f.encodeMag n q
      if c ≤ f.big then (f.signed neg c, .none)
      else if f.spec = 1 && !sat then (f.signed neg ((2 ^ f.E - 1) * 2 ^ f.M), ⟨true, false, false⟩)
      else if f.spec = 2 && !sat then (f.qnan, ⟨true, true, false⟩)
      else (f.signed neg f.big, ⟨true, false, false⟩)

/-- R186, R200: conversion of a value to a two's-complement integer of `w` bits. -/
def encodeInt (w : Nat) (v : FVal) (mode u : Nat) : Nat × FFlags :=
  let top := 2 ^ (w - 1)
  match v with
  | .nan => (0, ⟨false, false, true⟩)
  | .inf neg => (if neg then top else top - 1, ⟨true, false, false⟩)
  | .fin neg m e =>
    let n := if 0 ≤ e then m <<< e.toNat else roundShift m (-e).toNat mode u
    if neg then (if n > top then (top, ⟨true, false, false⟩) else (twos w (-(n : Int)), .none))
    else (if n > top - 1 then (top - 1, ⟨true, false, false⟩) else (n, .none))

/-- An integer as an exact value. -/
def FVal.ofInt (i : Int) : FVal := .fin (i < 0) i.natAbs 0

/-- The magnitudes of Umber3 (R190). -/
def umberMag (c : Nat) : Nat := [0, 1, 2, 4].getD (c % 4) 0

/-- R190, R198: the Umber3 code of a value, saturated as for FP4. -/
def encodeUmber (v : FVal) (mode u : Nat) : Nat × FFlags :=
  match v with
  | .nan => (0, ⟨false, false, true⟩)
  | .inf neg => (3 + (if neg then 4 else 0), ⟨true, false, false⟩)
  | .fin neg m e =>
    let sh : Nat := if e < 0 then (-e).toNat else 0
    let x := if 0 ≤ e then m <<< e.toNat else m
    let one := 2 ^ sh
    let pick (a b : Nat) (ca : Nat) : Nat :=
      let r := x - a * one
      let w := (b - a) * one
      if r = 0 then ca
      else if mode = 1 then ca
      else if mode = 2 then (if u < r * 2 ^ 16 / w then ca + 1 else ca)
      else if 2 * r > w || (2 * r = w && ca % 2 = 1) then ca + 1 else ca
    let c := if x < one then pick 0 1 0 else if x < 2 * one then pick 1 2 1 else if x < 4 * one then pick 2 4 2 else 3
    (c + (if neg then 4 else 0), ⟨x > 4 * one, false, false⟩)

/-- R188, R191: the value of a group's scale code: E8M0, or E8M4 where `m4`. -/
def scaleValue (m4 : Bool) (c : Nat) : FVal :=
  if m4 then
    let e := c / 16
    if e = 255 then .nan else if e = 0 then .fin false 0 0 else .fin false (16 + c % 16) ((e : Int) - 127 - 4)
  else if c = 255 then .nan else .fin false 1 ((c : Int) - 127)

/-- Exact product (R195). -/
def FVal.mul : FVal → FVal → FVal
  | .nan, _ => .nan
  | _, .nan => .nan
  | .inf a, .inf b => .inf (a != b)
  | .inf a, .fin b m _ => if m = 0 then .nan else .inf (a != b)
  | .fin a m _, .inf b => if m = 0 then .nan else .inf (a != b)
  | .fin a m e, .fin b n f => .fin (a != b) (m * n) (e + f)

/-- Exact sum; a zero sum is negative only where both are negative. -/
def FVal.add : FVal → FVal → FVal
  | .nan, _ => .nan
  | _, .nan => .nan
  | .inf a, .inf b => if a = b then .inf a else .nan
  | .inf a, .fin _ _ _ => .inf a
  | .fin _ _ _, .inf b => .inf b
  | .fin a m e, .fin b n f =>
    let g := if e < f then e else f
    let x : Int := (m <<< (e - g).toNat : Nat)
    let y : Int := (n <<< (f - g).toNat : Nat)
    let z := (if a then -x else x) + (if b then -y else y)
    .fin (if z = 0 then a && b else z < 0) z.natAbs g

/-- The value with its sign changed. -/
def FVal.negate : FVal → FVal
  | .nan => .nan
  | .inf a => .inf (!a)
  | .fin a m e => .fin (!a) m e

/-- Whether a value is a NaN. -/
def FVal.isNan : FVal → Bool
  | .nan => true
  | _ => false

/-- Whether a value is finite. -/
def FVal.isFin : FVal → Bool
  | .fin _ _ _ => true
  | _ => false

/-- Order of two values that are not NaN: whether a < b. -/
def FVal.lt (a b : FVal) : Bool :=
  match a, b with
  | .nan, _ => false
  | _, .nan => false
  | .inf p, .inf q => p && !q
  | .inf p, .fin _ _ _ => p
  | .fin _ _ _, .inf q => !q
  | .fin _ _ _, .fin _ _ _ =>
    match FVal.add a b.negate with
    | .fin n m _ => n && m ≠ 0
    | _ => false

/-- Equality as the compares see it: zeros of both signs agree (R185). -/
def FVal.eqv (a b : FVal) : Bool := !a.isNan && !b.isNan && !FVal.lt a b && !FVal.lt b a

/-- The value of an FP32 pattern. -/
def f32 (w : BitVec 32) : FVal := fp32.decode w.toNat

/-- R195, R198, R202: an exact result rounded once to FP32, with its flags: OVERFLOW where an infinity comes of finite
operands, INVALID where a NaN comes of operands that hold none. -/
def roundF32 (r : FVal) (args : List FVal) : BitVec 32 × FFlags :=
  let (c, f) := fp32.encode r 0 false 0
  let inv := r.isNan && !(args.any FVal.isNan)
  let ovf := f.overflow || (!r.isFin && !r.isNan && args.all FVal.isFin)
  (BitVec.ofNat 32 c, ⟨ovf, inv, false⟩)

/-- R219: FP32 operations, rounded once by RNE. -/
def fAdd (a b : BitVec 32) : BitVec 32 × FFlags := roundF32 ((f32 a).add (f32 b)) [f32 a, f32 b]
def fSub (a b : BitVec 32) : BitVec 32 × FFlags := roundF32 ((f32 a).add (f32 b).negate) [f32 a, f32 b]
def fMul (a b : BitVec 32) : BitVec 32 × FFlags := roundF32 ((f32 a).mul (f32 b)) [f32 a, f32 b]
def fFma (a b c : BitVec 32) : BitVec 32 × FFlags := roundF32 (((f32 a).mul (f32 b)).add (f32 c)) [f32 a, f32 b, f32 c]

/-- R185, R203, R219: minimum or maximum of two FP32 values. With a NaN operand the manual states no result: a value that the
operands determine, canonical where it is a NaN; of zeros of both signs, one of the two (log entry 20). -/
def fMinMax (max : Bool) (a b : BitVec 32) : BitVec 32 :=
  let x := f32 a
  let y := f32 b
  let c := Config.minMax max a b
  if x.isNan || y.isNan then (if (f32 c).isNan then 0x7FC00000 else c)
  else if FVal.lt x y then (if max then b else a)
  else if FVal.lt y x then (if max then a else b)
  else if a = b then a
  else if bit c 31 then 0x80000000 else 0

/-! ### The exponential -/

/-- 2^(2^-i) × 2^64, rounded down, for i = 1 to 40. -/
def exp2Table : List Nat :=
  [26087635650665564424, 21936999301089678046, 20116317054877281741, 19263451207323153961, 18850675170876015534, 18647615946650685158, 18546908069882975960, 18496758270674070881,
   18471734244850835105, 18459234930309000272, 18452988445124272033, 18449865995240371898, 18448304968436414829, 18447524504564044945, 18447134285009651015, 18446939178327825412,
   18446841625760745902, 18446792849670663276, 18446768461673986097, 18446756267687738521, 18446750170697637485, 18446747122203342655, 18446745597956384161, 18446744835832952145,
   18446744454771247944, 18446744264240398796, 18446744168974974960, 18446744121342263226, 18446744097525907405, 18446744085617729507, 18446744079663640560, 18446744076686596088,
   18446744075198073851, 18446744074453812733, 18446744074081682174, 18446744073895616895, 18446744073802584255, 18446744073756067935, 18446744073732809775, 18446744073721180695]

/-- 2^f × 2^64 for the 40-bit fraction f. -/
def exp2Frac (f : Nat) : Nat :=
  (List.range 40).foldl (fun a i => if bitAt f (39 - i) then a * exp2Table.getD i 0 / 2 ^ 64 else a) (2 ^ 64)

/-- 2^x as an approximation n × 2^q, within 2^-38 of it. -/
def exp2Approx (neg : Bool) (m : Nat) (e : Int) : Nat × Int :=
  let fx : Int := if 0 ≤ e + 40 then (m <<< (e + 40).toNat : Nat) else ((m >>> (-(e + 40)).toNat : Nat) : Int)
  let x : Int := if neg then -fx else fx
  (exp2Frac (x % 2 ^ 40).toNat, x / 2 ^ 40 - 64)

/-- R150: whether a pattern lies within a relative 2^-22 of a value that n × 2^q approximates to within 2^-38. -/
def exp2Near (c : BitVec 32) (n : Nat) (q : Int) : Bool :=
  match (f32 c).add (.fin true n q) with
  | .fin _ d g =>
    let k := if g < q then g else q
    (d <<< (g - k).toNat) * 2 ^ 38 ≤ (n <<< (q - k).toNat) * (2 ^ 16 - 2)
  | _ => false

/-- R150, R185: 2^x: below -126 zero, else a value within the bound, not below 2^-126: the unit's candidate where it meets both,
the nearest FP32 value otherwise (log entry 9). -/
def fExp2 (a : BitVec 32) : BitVec 32 × FFlags :=
  match f32 a with
  | .nan => (0x7FC00000, .none)
  | .inf neg => (if neg then 0 else 0x7F800000, .none)
  | .fin neg m e =>
    if FVal.lt (.fin neg m e) (.fin true 126 0) then (0, .none)
    else
      let (n, q) := exp2Approx neg m e
      let c := Config.exp2 a
      if exp2Near c n q && (f32 c).isFin && !FVal.lt (f32 c) (.fin false 1 (-126)) then (c, .none)
      else roundF32 (.fin false n q) [f32 a]

/-! ### Reductions -/

/-- The lanes of a tree, left to right. -/
def treeLeaves : SumTree → List Nat
  | .leaf i => [i]
  | .node l r => treeLeaves l ++ treeLeaves r

/-- A balanced tree over 2^k lanes from lane `b`. -/
def balanced : Nat → Nat → SumTree
  | 0, b => .leaf b
  | k + 1, b => .node (balanced k b) (balanced k (b + 2 ^ k))

/-- R150: the order of the sum of 2^k lanes: the unit's, where it holds every lane once; the balanced one otherwise. -/
def sumOrder (k : Nat) : SumTree :=
  let t := Config.sumTree (2 ^ k)
  if (treeLeaves t).length = 2 ^ k && (List.range (2 ^ k)).all (fun i => (treeLeaves t).contains i) then t else balanced k 0

/-- The sum along a tree, rounded at every node. -/
def treeSum (xs : List (BitVec 32)) : SumTree → BitVec 32 × FFlags
  | .leaf i => (xs.getD i 0, .none)
  | .node l r =>
    let a := treeSum xs l
    let b := treeSum xs r
    let c := fAdd a.1 b.1
    (c.1, (a.2.or b.2).or c.2)

/-! ### Formats in memory and palette -/

/-- R183, R192: element bits of a format's codes. -/
def codeBits (fmt : Nat) : Nat :=
  match fmt with
  | 0 => 32 | 1 => 16 | 2 => 16 | 3 => 8 | 4 => 8 | 5 => 6 | 6 => 6 | 7 => 4
  | 8 => 8 | 9 => 6 | 10 => 4 | 11 => 8 | 12 => 4 | 13 => 32 | 14 => 4 | _ => 3

/-- The format is block-scaled: 8-10 MX, 14 Ochre4, 15 Umber3. -/
def isBlock (fmt : Nat) : Bool := (8 ≤ fmt && fmt ≤ 10) || fmt = 14 || fmt = 15

/-- The format is an integer format. -/
def isIntFmt (fmt : Nat) : Bool := fmt = 11 || fmt = 12 || fmt = 13

/-- R187-R190: bytes of `n` elements; whole groups for a block-scaled format. -/
def fmtBytes (fmt n : Nat) : Nat :=
  match fmt with
  | 8 => n / 32 * 33 | 9 => n / 32 * 25 | 10 => n / 32 * 17 | 14 => n / 64 * 35 | 15 => n / 64 * 27
  | _ => n * codeBits fmt / 8

/-- R188-R190: element code and scale code of element `i` in the bytes of a block-scaled tensor. -/
def blockElem (fmt : Nat) (bs : List (BitVec 8)) (i : Nat) : Nat × Nat :=
  let w := codeBits fmt
  if fmt ≤ 10 then
    let size := 4 * w + 1
    let blk := (bs.drop (i / 32 * size)).take size
    (bitsAt (leNat blk) (w * (i % 32) + w - 1) (w * (i % 32)), (blk.getD (4 * w) 0).toNat)
  else
    let size := 8 * w + 3
    let blk := (bs.drop (i / 64 * size)).take size
    let sc := leNat (blk.drop (8 * w))
    (bitsAt (leNat blk) (w * (i % 64) + w - 1) (w * (i % 64)), bitsAt sc (12 * (i % 64 / 32) + 11) (12 * (i % 64 / 32)))

/-- The value of an element code of a format, its group's scale apart. -/
def codeValue (fmt c : Nat) : FVal :=
  match fmt with
  | 8 => e4m3.decode c
  | 9 => e2m3.decode c
  | 10 => e2m1.decode c
  | 14 => e2m1.decode c
  | 15 => .fin (bitAt c 2) (umberMag c) 0
  | 11 => .ofInt (signedOf 8 c)
  | 12 => .ofInt (signedOf 4 c)
  | 13 => .ofInt (signedOf 32 c)
  | _ => (fpFmtOf fmt).decode c

/-- The value of element `i` of a tensor's bytes (R184-R191). -/
def elemValue (fmt : Nat) (bs : List (BitVec 8)) (i : Nat) : FVal :=
  if isBlock fmt then
    let (c, k) := blockElem fmt bs i
    match scaleValue (fmt ≥ 14) k with
    | .nan => .nan
    | sc => (codeValue fmt c).mul sc
  else
    let w := codeBits fmt
    codeValue fmt (bitsAt (leNat ((bs.drop (w * i / 8)).take 5)) (w * i % 8 + w - 1) (w * i % 8))

/-- R200, R202: an element as a 32-bit lane: INT32 for an integer format, FP32 otherwise, exact but where a block-scaled value
lies beyond FP32. -/
def elemLane (fmt : Nat) (bs : List (BitVec 8)) (i : Nat) : BitVec 32 × FFlags :=
  if fmt = 0 then (BitVec.ofNat 32 (leNat ((bs.drop (4 * i)).take 4)), .none)
  else
    let r := if isIntFmt fmt then encodeInt 32 (elemValue fmt bs i) 0 0 else fp32.encode (elemValue fmt bs i) 0 false 0
    (BitVec.ofNat 32 r.1, r.2)

/-- R200: the code of a lane in a scalar format; the lane is INT32 where `int`. -/
def laneCode (fmt : Nat) (int : Bool) (x : BitVec 32) (mode : Nat) (sat : Bool) (u : Nat) : Nat × FFlags :=
  let v := if int then FVal.ofInt x.toInt else f32 x
  match fmt with
  | 11 => encodeInt 8 v mode u
  | 12 => encodeInt 4 v mode u
  | 13 => if int then (x.toNat, .none) else encodeInt 32 v mode u
  | _ => (fpFmtOf fmt).encode v mode sat u

/-- Codes packed into a bit stream (R187). -/
def packCodes (w : Nat) (cs : List Nat) : Nat :=
  (cs.foldl (fun (a : Nat × Nat) c => (a.1 + c * 2 ^ a.2, a.2 + w)) (0, 0)).1

/-- The largest magnitude of a group; none where an element is a NaN or an infinity. -/
def groupMax : List FVal → Option FVal
  | [] => some (.fin false 0 0)
  | v :: vs =>
    match v, groupMax vs with
    | .fin _ m e, some a => some (if FVal.lt a (.fin false m e) then .fin false m e else a)
    | _, _ => none

/-- R201, step 3: the E8M0 scale code of a group of largest magnitude m × 2^e. -/
def mxScale (emax m : Nat) (e : Int) : Nat :=
  let k := (topBit m : Int) + e - emax
  let k := if k < -127 then -127 else if k > 127 then 127 else k
  (k + 127).toNat

/-- R201, step 4: the smallest E8M4 value not below m × 2^e / d, clamped. -/
def e8m4Scale (d m : Nat) (e : Int) : Nat :=
  let t0 : Int := (topBit m : Int) + e - 2
  let code (x : Int) (mant : Nat) : Nat := (x + 127).toNat * 16 + mant
  let fits (x : Int) (mant : Nat) : Bool :=
    let a := if e < x - 4 then e else x - 4
    m <<< (e - a).toNat ≤ d * ((16 + mant) <<< (x - 4 - a).toNat)
  let cands : List (Int × Nat) :=
    (List.range 5).flatMap (fun (i : Nat) => (List.range 16).map (fun (j : Nat) => (t0 - 2 + Int.ofNat i, j)))
  match cands.find? (fun c => fits c.1 c.2) with
  | some c => if c.1 < -126 then code (-126) 0 else if c.1 > 127 then code 127 15 else code c.1 c.2
  | none => code 127 15

/-- x / scale as an exact magnitude for a power-of-two scale, or scaled up by 2^60 and divided for E8M4. -/
def scaledDown (v : FVal) (m4 : Bool) (sc : Nat) : FVal :=
  match v, scaleValue m4 sc with
  | .fin n m e, .fin _ sm se =>
    if sm = 0 then .fin n 0 0
    else if m4 then
      let q := (m <<< 60) / sm
      .fin n (2 * q + (if (m <<< 60) % sm = 0 then 0 else 1)) (e - 61 - se)
    else .fin n m (e - se)
  | _, _ => .fin false 0 0

/-- R201: a group of 32 lanes as element codes and a scale code; `us` are the draws. -/
def quantGroup (fmt : Nat) (xs : List FVal) (mode : Nat) (sat : Bool) (us : List Nat) : (List Nat × Nat) × FFlags :=
  let m4 := fmt ≥ 14
  match groupMax xs with
  | none => ((xs.map (fun _ => 0), if m4 then 0xFF0 else 0xFF), ⟨false, true, false⟩)
  | some (.fin _ m e) =>
    if m = 0 then ((xs.map (fun _ => 0), 0), .none)
    else
      let sc := match fmt with
        | 8 => mxScale 8 m e
        | 9 => mxScale 2 m e
        | 10 => mxScale 2 m e
        | 14 => e8m4Scale 6 m e
        | _ => e8m4Scale 4 m e
      let r := (xs.zip (us ++ List.replicate 32 0)).map (fun p =>
        let y := scaledDown p.1 m4 sc
        match fmt with
        | 8 => e4m3.encode y mode sat p.2
        | 9 => e2m3.encode y mode sat p.2
        | 15 => encodeUmber y mode p.2
        | _ => e2m1.encode y mode sat p.2)
      ((r.map (fun p => p.1), sc), r.foldl (fun a p => a.or p.2) .none)
  | some _ => ((xs.map (fun _ => 0), 0), .none)

/-- The groups of 32 of a list. -/
def groups32 {α : Type} : Nat → List α → List (List α)
  | 0, _ => []
  | n + 1, xs => xs.take 32 :: groups32 n (xs.drop 32)

/-- The bytes of a pair of groups of Ochre4 or Umber3 (R189, R190). -/
def pairBytes (w : Nat) : List (List Nat × Nat) → List (BitVec 8)
  | a :: b :: rest =>
    leBytes (8 * w) (packCodes w (a.1 ++ b.1)) ++ leBytes 3 (a.2 + b.2 * 4096) ++ pairBytes w rest
  | _ => []

/-- R200, R201: 32-bit lanes as the bytes of a tensor of a format, with the flags raised. -/
def lanesToBytes (fmt : Nat) (int : Bool) (xs : List (BitVec 32)) (mode : Nat) (sat : Bool) (us : List Nat) : List (BitVec 8) × FFlags :=
  if isBlock fmt then
    let w := codeBits fmt
    let vs := xs.map (fun x => if int then FVal.ofInt x.toInt else f32 x)
    let gs := (groups32 (xs.length / 32) vs).zip (groups32 (xs.length / 32) us)
    let qs := gs.map (fun g => quantGroup fmt g.1 mode sat g.2)
    let fl := qs.foldl (fun a q => a.or q.2) .none
    if fmt ≤ 10 then ((qs.flatMap (fun q => leBytes (4 * w) (packCodes w q.1.1) ++ leBytes 1 q.1.2)), fl)
    else (pairBytes w (qs.map (fun q => q.1)), fl)
  else
    let r := (xs.zip us).map (fun p => laneCode fmt int p.1 mode sat p.2)
    (leBytes (fmtBytes fmt xs.length) (packCodes (codeBits fmt) (r.map (fun p => p.1))), r.foldl (fun a p => a.or p.2) .none)

/-- R199: one step of a lane generator. -/
def genStep (x : BitVec 32) : BitVec 32 :=
  let a := x ^^^ (x <<< 13)
  let b := a ^^^ (a >>> 17)
  b ^^^ (b <<< 5)

/-- R192, R193: cycles of one update at a format's rate, in half cycles: 1 at rate 2, 2 at 1, 4 at 1/2, 32 at 1/16; none
where the format is no matrix operand. -/
def updateHalves (fmt : Nat) : Option Nat :=
  match fmt with
  | 0 => some 32 | 1 => some 4 | 2 => some 4 | 13 => none
  | 7 => some 1 | 12 => some 1 | 10 => some 1 | 14 => some 1 | 15 => some 1
  | _ => some 2

end Machine
end Sys2Proof
end

