-- ==== Sys2Proof/Machine/Vats.lean ====
section
/-! DEFINITION. Logical and physical vats (06), and the parts of a plan's header (08). -/

namespace Sys2Proof
namespace Machine

/-- OD 0x4020: the physical vat of a logical vat; none where it is absent. -/
def State.physical (s : State) (l : Nat) : Option Nat :=
  let p := Tab.get s.vat.lmap l l
  if p = 0xFF then none else some p

/-- The logical vat that a physical vat holds. -/
def State.logical (s : State) (v : Nat) : Option Nat := (List.range 32).find? (fun l => s.physical l = some v)

/-- OD 0x4000:02: ABSENT_LOGICAL. -/
def State.absentVats (s : State) : List Nat := (List.range 32).filter (fun l => s.physical l = none)

/-- R211: fields of the image header. -/
def hdrVats (h : BitVec 1024) : Nat := bits h 53 48
def hdrResident (h : BitVec 1024) : Bool := bit h 56
def hdrCross (h : BitVec 1024) : Bool := bit h 57
def hdrInput (h : BitVec 1024) : Bool := bit h 58
def hdrPalette (h : BitVec 1024) : Nat := bits h 85 64
def hdrBurst (h : BitVec 1024) : Nat := bits h 90 86
def hdrSize (h : BitVec 1024) : Nat := bits h 799 768
def hdrArgs (h : BitVec 1024) : Nat := bits h 853 832

/-- R211, R212: OFFSET and COUNT of section `i`. -/
def hdrSection (h : BitVec 1024) (i : Nat) : Nat × Nat := (bits h (287 + 64 * i) (256 + 64 * i), bits h (319 + 64 * i) (288 + 64 * i))

/-- The header of the plan that a context runs or holds. -/
def State.header (s : State) (k : Nat) : BitVec 1024 := ((s.ctxAt k).inv.map (fun i => i.header)).getD 0

/-- R206: FIRST_VAT and STREAM_CLASS of a context. -/
def State.firstVat (s : State) (k : Nat) : Nat := bits (s.ctxAt k).entry 15 11
def State.streamClass (s : State) (k : Nat) : Nat := bits (s.ctxAt k).entry 10 8

/-- R173: logical vats of a plan with a header, at a context. -/
def State.planLogical (s : State) (k : Nat) (h : BitVec 1024) : List Nat :=
  (List.range (hdrVats h)).map (fun i => s.firstVat k + i)

/-- The physical vats of the plan that a context runs or holds. -/
def State.planVats (s : State) (k : Nat) : List Nat := (s.planLogical k (s.header k)).filterMap s.physical

/-- The context whose plan runs on a physical vat. -/
def State.runningOn (s : State) (v : Nat) : Option Nat :=
  let x := s.vatAt v
  match x.owner with
  | some k => if x.activity = 1 && (s.ctxAt k).phase = .running then some k else none
  | none => none

/-- A change on every vat of a list. -/
def State.onVats (s : State) (vs : List Nat) (f : Vat → Vat) : State := vs.foldl (fun s v => s.modVat v f) s

end Machine
end Sys2Proof
end

