-- ==== Sys2Proof/Machine/Coherence.lean ====
section
/-! DEFINITION. Hardware-coherent regions (11): the directory, the home agent, snoops and their answers, atomics, and host
death. -/

namespace Sys2Proof
namespace Machine

/-! ### The directory -/

/-- R308: the set of a line. -/
def dirSet (line : Nat) : Nat := (line % 2 ^ 18) ^^^ (line / 2 ^ 18 % 2 ^ 18)

/-- The entry of a line. -/
def State.dirAt (s : State) (line : Nat) : Option DirEntry := Tab.find? s.coh.dir line

/-- An entry in I, not open, of a way. -/
def freshDir (way alloc : Nat) : DirEntry :=
  { st := .I, isOpen := false, owner := none, vats := 0, hosts := [], coarse := none, watch := false, way := way,
    alloc := alloc, hold := false, waitFor := [], req := none, data := none, poison := false, evict := false }

/-- R312: an entry is kept, or freed where it is in I and not open. -/
def State.putDir (s : State) (line : Nat) (e : DirEntry) : State :=
  let d := if e.st = .I && !e.isOpen then Tab.erase s.coh.dir line else Tab.set s.coh.dir line e
  { s with coh := { s.coh with dir := d } }

/-- OD 0x5800:01. -/
def State.dirInUse (s : State) : Nat := s.coh.dir.length

/-- OD 0x5800:08: 1 start-up, 3 recovery, 2 test, 0 normal (R317). -/
def State.orderedMode (s : State) : Nat :=
  if s.coh.startUp then 1
  else if s.coh.recovery || s.coh.sweep ≠ [] then 3
  else if s.cal.slices.any (fun p => p.2.armed = some .crossbar) then 2
  else 0

/-- R326: a requester is dead. -/
def State.isDead (s : State) (r : Nat) : Bool := s.coh.dead.contains r

/-- HOST_MODE is MLD. -/
def State.mld (s : State) : Bool := s.option 142 142 = 1

/-- R36, R37: the requester may read (or write) the tenant: by REQUESTER_ACCESS, or as a logical device bound to it. -/
def State.hostRight (s : State) (r t : Nat) (write : Bool) : Bool :=
  if s.mld then r < 64 && s.par 0x5040 (r + 5) = t
  else bit (Tab.get s.host.access r 0) (2 * t + (if write then 1 else 0))

/-- R309: the requesters that an invalidation of an entry's host sharers goes to. -/
def State.hostHolders (s : State) (line : Nat) (e : DirEntry) : List Nat :=
  match e.coarse with
  | none => e.hosts.filter (fun r => !s.isDead r)
  | some g => (List.range 4096).filter (fun r =>
      bit g (r / 128) && !s.isDead r && (s.owner (line * 64)).any (fun t => s.hostRight r t false))

/-- R309: a host sharer is added: to the list of four, else in coarse form. -/
def DirEntry.addHost (e : DirEntry) (r : Nat) : DirEntry :=
  match e.coarse with
  | some g => { e with coarse := some (g ||| BitVec.ofNat 32 (2 ^ (r / 128))) }
  | none =>
    if e.hosts.contains r then e
    else if e.hosts.length < 4 then { e with hosts := e.hosts ++ [r] }
    else { e with hosts := [], coarse := some (BitVec.ofNat 32 (bitSet ((r :: e.hosts).map (fun q => q / 128)))) }

/-- The vat caches that an entry names. -/
def DirEntry.vatList (e : DirEntry) : List Nat := onesOf 32 e.vats.toNat

/-- R308: an entry as its 128 bits; the tag is LN[39:18]. -/
def DirEntry.pack (e : DirEntry) (line : Nat) : Nat :=
  let st := match e.st with | .I => 0 | .S => 1 | .F => 2 | .E => 3 | .M => 4
  let ow := match e.owner with
    | some (.vat k) => (1, k.val)
    | some (.host r) => (2, r.val)
    | some .buffer => (3, 0)
    | _ => (0, 0)
  let form := if e.coarse.isSome then 2 else if e.hosts.isEmpty then 0 else 1
  let set := match e.coarse with
    | some g => g.toNat
    | none => packFields 0 [] + ((e.hosts.zip [0, 1, 2, 3]).map (fun p => p.1 * 2 ^ (12 * p.2))).sum
  line / 2 ^ 18 % 2 ^ 22 + st * 2 ^ 22 + (if e.isOpen then 2 ^ 25 else 0) + ow.1 * 2 ^ 26 + ow.2 * 2 ^ 28
    + e.vats.toNat * 2 ^ 40 + form * 2 ^ 72 + (if form = 1 then (e.hosts.length - 1) * 2 ^ 74 else 0) + set * 2 ^ 76
    + (if e.watch then 2 ^ 124 else 0)

/-! ### Vat caches -/

/-- R160: the line that logical vat `k` caches. -/
def State.cached (s : State) (k line : Nat) : Option CacheLine :=
  match s.physical k with
  | some v => Tab.find? (s.vatAt v).cache line
  | none => none

/-- A change of logical vat `k`'s cache. -/
def State.modCache (s : State) (k : Nat) (f : Tab CacheLine → Tab CacheLine) : State :=
  match s.physical k with
  | some v => s.modVat v (fun x => { x with cache := f x.cache })
  | none => s

/-- R160: the SEC-DED of a line that logical vat `k` caches, as it is read: one flipped bit is corrected and counted; more make a
clean line be fetched again, and a dirty one poison. -/
def State.checkCached (s : State) (k line : Nat) : State :=
  match s.cached k line with
  | none => s
  | some c =>
    if c.err = 0 then s
    else if c.err = 1 then (s.modCache k (fun t => Tab.set t line { c with err := 0 })).bump 64 0x4030 3
    else if c.dirty then (s.modCache k (fun t => Tab.erase t line)).poisonLine line
    else
      let r := s.readLine line
      r.2.modCache k (fun t => if r.1.2 then Tab.erase t line else Tab.set t line { dirty := false, data := r.1.1, err := 0 })

/-- The bit of a vat in a list of vats. -/
def vatBit (k : Fin 32) : BitVec 32 := BitVec.ofNat 32 (2 ^ k.val)

/-- The sharers of an entry without an agent. -/
def DirEntry.unshare (e : DirEntry) : Agent → DirEntry
  | .vat k => { e with vats := e.vats &&& ~~~(vatBit k) }
  | .host r => { e with hosts := e.hosts.erase r.val }
  | .watch => { e with watch := false }
  | .buffer => e
  | .other _ => e

/-- R312: a holder is removed from an entry; without its responder, or with none left, the state falls. -/
def DirEntry.without (e : DirEntry) (a : Agent) : DirEntry :=
  let e1 := e.unshare a
  let owner := if e.owner = some a then none else e.owner
  let any := e1.vats ≠ 0 || e1.hosts ≠ [] || e1.coarse.isSome || e1.watch || owner.isSome
  { e1 with owner := owner, st := if !any then .I else if owner.isNone then .S else e1.st }

/-- R33, R433: data that an agent returns for a line is taken while the line's partition is ACTIVE, from a host while it is
not stopping. -/
def State.takesData (s : State) (a : Agent) (line : Nat) : Bool :=
  match s.owner (line * 64) with
  | some t => (s.tenantAt t).state = 2 && !((s.tenantAt t).stopping && (match a with | .host _ => true | _ => false))
  | none => false

/-- R312: the end of a holding: modified data is written to memory, the sender is removed. -/
def State.evictHolder (s : State) (a : Agent) (line : Nat) (data : Option (List (BitVec 8))) : State :=
  let s1 := match data with
    | some d => if s.takesData a line then s.storeLine line d else s
    | none => s
  match s1.dirAt line with
  | some e => s1.putDir line (e.without a)
  | none => s1

/-- R160: the line that logical vat `k` caches, as its own access finds it; where it was lost, the directory learns it. -/
def State.useCached (s : State) (k : Fin 32) (line : Nat) : Option CacheLine × State :=
  let s1 := s.checkCached k.val line
  match s1.cached k.val line with
  | some c => (some c, s1)
  | none => (none, if (s.cached k.val line).isSome then s1.evictHolder (.vat k) line none else s1)

/-- A line leaves logical vat `k`'s cache by an ordinary Evict. -/
def State.evictVat (s : State) (k : Fin 32) (line : Nat) : State :=
  let r := s.useCached k line
  match r.1 with
  | some c => (r.2.modCache k.val (fun t => Tab.erase t line)).evictHolder (.vat k) line (if c.dirty then some c.data else none)
  | none => r.2

/-- R160: a line enters a vat cache of 256 sets of 8 ways; a line of a full set leaves by Evict (log entry 21). -/
def State.fillVat (s : State) (k : Fin 32) (line : Nat) (c : CacheLine) : State :=
  let same := match s.physical k.val with
    | some v => (s.vatAt v).cache.filter (fun (p : Nat × CacheLine) => p.1 % 256 = line % 256 && p.1 ≠ line)
    | none => ([] : List (Nat × CacheLine))
  let s1 := match same with
    | (l, _) :: _ => if same.length ≥ 8 then s.evictVat k l else s
    | [] => s
  s1.modCache k.val (fun t => Tab.set t line c)

/-- An internal invalidation of vat caches: the state, and the modified data that one of them held. -/
def State.dropVats (s : State) (line : Nat) : List Nat → Option (List (BitVec 8)) × State
  | [] => (none, s)
  | k :: ks =>
    let s1 := s.checkCached k line
    let r := State.dropVats (s1.modCache k (fun t => Tab.erase t line)) line ks
    match s1.cached k line with
    | some x => if x.dirty then (some x.data, r.2) else r
    | none => r

/-! ### Atomic windows and the atomic buffer -/

/-- R322: the window line (tenant and index) that a line is. -/
def State.windowLine (s : State) (line : Nat) : Option (Nat × Nat) :=
  match s.owner (line * 64) with
  | some t =>
    let first := ((s.tenantAt t).base.toNat + s.par (0x5900 + t) 1) / 64
    if first ≤ line && line < first + s.par (0x5900 + t) 2 then some (t, line - first) else none
  | none => none

/-- R337: the region and bank whose publish line a line is. A region counts from the first write of its PUBLISH_OFFSET. -/
def State.publishAt (s : State) (line : Nat) : Option (Nat × Nat) :=
  (List.range 256).findSome? (fun r =>
    let t := s.par (0x5A00 + r) 1
    let first := ((s.tenantAt t).base.toNat + s.par (0x5A00 + r) 6) / 64
    if (Tab.find? s.od (odKey (0x5A00 + r) 6)).isSome && s.owner (line * 64) = some t && first ≤ line && line < first + 4 then
      some (r, line - first) else none)

/-- R322, R337: a line that vat caches write through and that is never granted in E or M. -/
def State.throughLine (s : State) (line : Nat) : Bool := (s.windowLine line).isSome || (s.publishAt line).isSome

/-- The line of index `i` in a tenant's window. -/
def State.windowAtIndex (s : State) (t i : Nat) : Option Nat :=
  if i < s.par (0x5900 + t) 2 then some (((s.tenantAt t).base.toNat + s.par (0x5900 + t) 1) / 64 + i) else none

/-- R311: a line of the atomic buffer is written to memory. -/
def State.flushBuffer (s : State) (line : Nat) : State :=
  match s.coh.abuf.find? (fun p => p.1 = line) with
  | some p =>
    ({ s with coh := { s.coh with abuf := s.coh.abuf.filter (fun q => q.1 ≠ line) } }).evictHolder .buffer line (some p.2)
  | none => s

/-- R305, R324: a line enters the atomic buffer of 256 lines; the least recently used leaves. -/
def State.fillBuffer (s : State) (line : Nat) (data : List (BitVec 8)) : State :=
  let s1 := if s.coh.abuf.length ≥ 256 then
      match s.coh.abuf.getLast? with
      | some p => s.flushBuffer p.1
      | none => s
    else s
  { s1 with coh := { s1.coh with abuf := (line, data) :: s1.coh.abuf.filter (fun q => q.1 ≠ line) } }

/-! ### Requests -/

/-- BISnps of a line to hosts. -/
def State.snoop (s : State) (line : Nat) (inv : Bool) (rs : List Nat) : State :=
  rs.foldl (fun s r => (s.emit (.bisnp r line inv)).bump 64 0x5800 4) s

/-- The host port on which a request of a host for a line arrived. -/
def State.hostPort (s : State) (r line : Nat) : Fin 4 :=
  ((List.range 4).find? (fun p => (s.portAt p).reqs.contains (r, line))).elim 0 (fun p => if h : p < 4 then ⟨p, h⟩ else 0)

/-- A response to a host leaves its port; bytes sent are counted (R532). -/
def State.endHost (s : State) (p r line : Nat) : State := s.modPort p (fun x => { x with reqs := x.reqs.erase (r, line) })

/-- The data of a request goes to its sender, with the MetaValue that it is granted. -/
def State.respond (s : State) (r : HomeReq) (mv : MetaValue) (data : List (BitVec 8)) (poison : Bool) : State :=
  if r.mute then s else
  match r.who with
  | .host h =>
    let p := s.hostPort h.val r.line
    let s1 := s.endHost p.val h.val r.line
    match r.kind with
    | .wrF => s1.emit (.hostCmp p h.val)
    | _ => (s1.emit (.hostData p h.val data poison mv)).light (lightTx p.val) 64
  | .vat k =>
    if r.kind = .wrF || r.kind = .rdC || poison || (s.cached k.val r.line).isSome then s
    else s.fillVat k r.line { dirty := false, data := data, err := 0 }
  | .buffer => if r.kind = .rdO && !poison then s.fillBuffer r.line data else s
  | .other _ => if r.kind = .wrF then s else s.emit (.readerData .complex (r.line * 64) data poison)
  | .watch => s

/-- An entry whose line is quiet. -/
def DirEntry.quiet (e : DirEntry) : DirEntry :=
  { e with isOpen := false, waitFor := [], req := none, data := none, poison := false, evict := false }

/-- An entry of a quiet line that no one holds. -/
def DirEntry.cleared (e : DirEntry) : DirEntry :=
  { e.quiet with st := .I, owner := none, vats := 0, hosts := [], coarse := none, watch := false, hold := false }

/-- An entry as a read for data leaves it for the agents that hold the line: a modified host keeps it shared, a vat forwards it. -/
def DirEntry.shared (e : DirEntry) : DirEntry :=
  match e.st, e.owner with
  | .M, some (.host o) => { e.cleared with st := .S, hosts := [o.val] }
  | .M, some .buffer => e.cleared
  | .E, _ => { e.quiet with st := .F }
  | .M, _ => { e.quiet with st := .F }
  | _, _ => e.quiet

/-- An entry as a read of current data leaves it. -/
def DirEntry.peeked (e : DirEntry) : DirEntry :=
  match e.st, e.owner with
  | .M, some (.host o) => { e.cleared with st := .S, hosts := [o.val] }
  | .M, some .buffer => e.cleared
  | _, _ => e.quiet

/-- R311: the new entry of a line after a request of a kind that found `e` is served; none leaves it in I. -/
def nextDir (e : DirEntry) (kind : ReqKind) (who : Agent) (window : Bool) : DirEntry :=
  match kind with
  | .rdS =>
    match who with
    | .vat k =>
      let v := e.shared.vats ||| vatBit k
      if e.shared.st = .I && !window then { e.shared with st := .E, owner := some (.vat k), vats := v }
      else { e.shared with st := .F, owner := some (.vat k), vats := v }
    | .host r =>
      let x := e.shared.addHost r.val
      if x.st = .I then { x with st := .S } else x
    | .watch => if e.shared.st = .I then { e.shared with st := .S, watch := true } else { e.shared with watch := true }
    | .buffer => e.peeked
    | .other _ => e.peeked
  | .rdO =>
    match who with
    | .vat k => { e.cleared with st := .M, owner := some (.vat k), vats := vatBit k }
    | .host r => { e.cleared with st := .M, owner := some (.host r) }
    | .buffer => { e.cleared with st := .M, owner := some .buffer }
    | .watch => e.peeked
    | .other _ => e.peeked
  | .wrF => e.cleared
  | .rdC => e.peeked

/-- The MetaValue that a kind is granted. -/
def metaOf (kind : ReqKind) : MetaValue :=
  match kind with
  | .rdS => .shared
  | .rdO => .any
  | _ => .invalid

/-- R311: a request is served: every snoop it needed is answered, and memory holds what came back, `vd` apart, the line that
a vat in M supplies to an RdC and keeps. The line's new entry is written and the data goes to the requester. -/
def State.serve (s : State) (r : HomeReq) (e : DirEntry) (vd : Option (List (BitVec 8))) : State :=
  let s0 := if r.kind ≠ .wrF then s
    else if r.poison then s.poisonLine r.line else s.storeMasked r.line r.data r.mask (match r.who with | .host h => (s.hostPort h.val r.line).val | _ => 13)
  let rd := s0.readLine r.line
  let data := vd.getD rd.1.1
  let poison := vd.isNone && rd.1.2
  let kind := match r.who with | .vat _ => if poison && r.kind ≠ .wrF then ReqKind.rdC else r.kind | _ => r.kind
  let e1 := nextDir e kind r.who (s.throughLine r.line)
  let e2 := { e1 with hold := kind = .rdO && s.orderedMode = 0 && s.par 0x5800 6 ≠ 0 }
  (rd.2.putDir r.line e2).respond { r with kind := kind } (metaOf kind) data poison

/-- R311: the hosts that a request must snoop, and whether by BISnpInv. -/
def State.needSnoop (s : State) (r : HomeReq) (e : DirEntry) : List Nat × Bool :=
  match e.st, e.owner with
  | .M, some (.host o) =>
    if r.who = .host o then ([], false)
    else if s.isDead o.val then ([], false)
    else ([o.val], r.kind = .rdO || r.kind = .wrF)
  | _, _ =>
    match r.kind with
    | .rdO => ((s.hostHolders r.line e).filter (fun h => match r.who with | .host x => x.val ≠ h | _ => true), true)
    | .wrF => (s.hostHolders r.line e, true)
    | _ => ([], false)

/-- R311: the vat caches act on a request at once: those invalidated, or the owner that keeps S. Answers the line that a vat
in M supplies to an RdC. -/
def State.vatsAct (s : State) (r : HomeReq) (e : DirEntry) : Option (List (BitVec 8)) × State :=
  let me (k : Nat) : Bool := match r.who with | .vat x => x.val = k | _ => false
  match r.kind with
  | .rdO =>
    let q := s.dropVats r.line (e.vatList.filter (fun k => !me k))
    match q.1 with
    | some d => (none, (q.2.storeLine r.line d).bump 64 0x5800 5)
    | none =>
      match r.who with
      | .vat x =>
        let own := q.2.checkCached x.val r.line
        ((own.cached x.val r.line).bind (fun c => if c.dirty then some c.data else none), own)
      | _ => (none, q.2)
  | .wrF =>
    let q := s.dropVats r.line e.vatList
    (none, match q.1 with | some d => if r.mask = BitVec.allOnes 64 || r.poison then q.2 else q.2.storeLine r.line d | none => q.2)
  | k =>
    match e.st, e.owner with
    | .M, some (.vat o) =>
      let s := s.checkCached o.val r.line
      match s.cached o.val r.line with
      | some c =>
        if !c.dirty then (none, s)
        else if k = .rdC then (some c.data, s.bump 64 0x5800 5)
        else (none, ((s.modCache o.val (fun t => Tab.set t r.line { c with dirty := false })).storeLine r.line c.data).bump 64 0x5800 5)
      | none => (none, s)
    | .F, some (.vat _) => (none, if k = .rdS && (match r.who with | .vat _ => true | _ => false) then s.bump 64 0x5800 5 else s)
    | .E, some (.vat _) => (none, if k = .rdS then s.bump 64 0x5800 5 else s)
    | _, _ => (none, s)

/-- R309, R315, R328: an entry is opened to be evicted: its vats give their data at once, its hosts are snooped. -/
def State.openEvict (s : State) (line : Nat) (e : DirEntry) : State :=
  let s0 := if e.owner = some Agent.buffer then s.flushBuffer line else s
  let q := s0.dropVats line e.vatList
  let s1 := match q.1 with | some d => q.2.storeLine line d | none => q.2
  let hs := match e.owner with
    | some (.host o) => if s.isDead o.val then [] else [o.val]
    | _ => s1.hostHolders line e
  let s2 := (s1.snoop line true hs).bump 64 0x5800 2
  if hs.isEmpty then { s2 with coh := { s2.coh with dir := Tab.erase s2.coh.dir line } }
  else s2.putDir line { e with
    isOpen := true, evict := true, vats := 0, watch := false,
    waitFor := hs.map (fun h => Agent.host (Fin.ofNat 4096 h)) }

/-- R315: a free way of a line's set. -/
def State.freeWay (s : State) (line : Nat) : Option Nat :=
  (List.range 16).find? (fun w => !s.coh.dir.any (fun p => dirSet p.1 = dirSet line && p.2.way = w))

/-- R315, R317: the victim of a line's set: the entry least recently allocated of those not open; none while it may not be
snooped yet. -/
def State.victimOf (s : State) (line : Nat) : Option (Nat × DirEntry) :=
  match s.coh.dir.filter (fun p => dirSet p.1 = dirSet line && !p.2.isOpen) with
  | [] => none
  | p :: ps =>
    let v := ps.foldl (fun m q => if q.2.alloc < m.2.alloc then q else m) p
    if v.2.hold && s.orderedMode = 0 then none else some v

/-- R315: a way of a line's set: the way, or the line evicted for it whose hosts are awaited; neither where every way is open. -/
def State.takeWay (s : State) (line : Nat) : (Option Nat × Option Nat) × State :=
  match s.freeWay line with
  | some w => ((some w, none), s)
  | none =>
    match s.victimOf line with
    | none => ((none, none), if s.coh.dir.any (fun p => dirSet p.1 = dirSet line && !p.2.isOpen) then s else s.bump 64 0x5800 3)
    | some v =>
      let s1 := s.openEvict v.1 v.2
      match s1.freeWay line with
      | some w => ((some w, none), s1)
      | none => ((none, some v.1), s1)

/-- R311, R314: a request acts on its line: it is served at once, or opens the line and snoops (none); or it waits for a way, with
the line evicted for it. -/
def State.act (s : State) (r : HomeReq) : Option (Option Nat) × State :=
  let go (s : State) (e : DirEntry) : State :=
    let w := s.throughLine r.line
    let r := if w && r.kind = .rdO then { r with kind := .rdS } else r
    let n := s.needSnoop r e
    let q := s.vatsAct r e
    if n.1.isEmpty then
      let s1 := match e.st, e.owner with
        | .M, some (.host o) => if s.isDead o.val then q.2.poisonLine r.line else q.2
        | _, _ => q.2
      s1.serve r e q.1
    else
      (q.2.snoop r.line n.2 n.1).putDir r.line { e with
        isOpen := true, req := some r, data := none, poison := false,
        waitFor := n.1.map (fun h => Agent.host (Fin.ofNat 4096 h)) }
  let s0 := match s.dirAt r.line with
    | some e => if e.owner = some Agent.buffer then s.flushBuffer r.line else s
    | none => s
  match s0.dirAt r.line with
  | some e => (none, go s0 e)
  | none =>
    if r.kind = ReqKind.rdC || r.kind = ReqKind.wrF then (none, go s0 (freshDir 0 0))
    else
      let t := s0.takeWay r.line
      match t.1.1 with
      | some w =>
        let a := t.2.coh.age
        (none, go { t.2 with coh := { t.2.coh with age := a + 1 } } (freshDir w a))
      | none => (some t.1.2, t.2)

/-- R314, R317, R320: a request must wait: its line is open, or was granted in M less than HOLD_TIME ago to another, or its sender
has still to send BIConflict. -/
def State.mustWait (s : State) (r : HomeReq) : Bool :=
  r.behind ||
  match s.dirAt r.line with
  | some e => e.isOpen || (e.hold && s.orderedMode = 0 && e.owner ≠ some r.who)
  | none => false

/-- R316: places of the home queue that requests may take: 1024 but for 64 reserved to each of the other three classes. A sender
without a place keeps its request, for want of credit. -/
def homePlaces : Nat := 1024 - 3 * 64

/-- R320: a request comes behind a snoop of its line outstanding to its sender. -/
def State.isBehind (s : State) (r : HomeReq) : Bool :=
  match r.who with
  | .host _ => (s.dirAt r.line).any (fun e => e.isOpen && e.waitFor.contains r.who)
  | _ => false

/-- A request waits in the home queue (R316). -/
def State.enqueueHome (s : State) (r : HomeReq) : State :=
  let q := s.coh.queue ++ [{ r with behind := s.isBehind r }]
  { s with coh := { s.coh with queue := q } }.peak 0x5800 13 (Nat.min q.length homePlaces)

/-- R314-R316: request `i` of the home queue may act: none of its line is before it, and where it needs a way, none that waits for
one of its set; one that waits for a way acts when there is one, or a victim for it. -/
def State.mayAct (s : State) (i : Nat) (r : HomeReq) : Bool :=
  let before := s.coh.queue.take i
  let needs := (s.dirAt r.line).isNone && r.kind ≠ .rdC && r.kind ≠ .wrF
  let way (r : HomeReq) : Bool :=
    (s.freeWay r.line).isSome || (r.victim.all (fun v => (s.dirAt v).isNone) && (s.victimOf r.line).isSome)
  !s.mustWait r && !before.any (fun p => p.line = r.line || (needs && p.parked && dirSet p.line = dirSet r.line))
    && (!r.parked || !needs || way r)

/-- R314, R315: requests of the home queue that may act, act, in arrival order per line; at most `n` of them. -/
def State.drainHome : Nat → State → State
  | 0, s => s
  | n + 1, s =>
    let ready (i : Nat) : Bool := match s.coh.queue[i]? with | some r => s.mayAct i r | none => false
    match (List.range (Nat.min s.coh.queue.length homePlaces)).find? ready with
    | none => s
    | some i =>
      match s.coh.queue[i]? with
      | none => s
      | some r =>
        let a := s.act r
        State.drainHome n { a.2 with coh := { a.2.coh with queue := match a.1 with
          | none => a.2.coh.queue.eraseIdx i
          | some v => a.2.coh.queue.set i { r with parked := true, victim := v } } }

/-! ### Atomics -/

/-- R322: fields of a descriptor. -/
def descOp (d : BitVec 512) : Nat := bits d 3 0
def descSize (d : BitVec 512) : Nat := 4 * 2 ^ bits d 5 4

/-- R322: the value that an operation leaves at the target, and its status. -/
def atomicResult (d : BitVec 512) (old : Nat) : Nat × Nat :=
  let w := 8 * descSize d
  let x := bits d 223 96 % 2 ^ w
  match descOp d with
  | 1 => if old = x then (bits d 351 224 % 2 ^ w, 0) else (old, 1)
  | 2 => ((old + x) % 2 ^ w, 0)
  | 3 => (x, 0)
  | 4 => (old &&& x, 0)
  | 5 => (old ||| x, 0)
  | _ => (if old < x then x else old, 0)

/-- R323: a descriptor with its result fields. -/
def withResult (d : BitVec 512) (status result : Nat) : List (BitVec 8) :=
  let n := setBits (setBits d.toNat 15 8 status) 479 352 result
  leBytes 64 (setBits n 511 480 (bits d 95 64))

/-- R322-R324: the check of a descriptor of tenant `t`: none passes, else the status. -/
def State.descCheck (s : State) (t : Nat) (d : BitVec 512) : Option Nat :=
  let op := descOp d
  let sz := bits d 5 4
  if op = 0 || op > 6 || sz = 3 || (sz = 2 && op ≠ 1) then some 5
  else if bits d 63 16 % descSize d ≠ 0 then some 3
  else if bits d 63 16 + descSize d > (s.tenantAt t).size.toNat then some 2
  else none

/-- R324: the index of a line in the contention predictor, and its counter. -/
def predIndex (line : Nat) : Nat := (bitsAt line 11 0) ^^^ (bitsAt line 23 12) ^^^ (bitsAt line 35 24)
def State.predictor (s : State) (line : Nat) : Nat := (Tab.get s.coh.pred (predIndex line) 1).toNat

/-- R324: the counter after an atomic on an HDM-DB line. -/
def State.learn (s : State) (line : Nat) (snooped : Bool) : State :=
  let c := s.predictor line
  let n := if snooped then (if c < 3 then c + 1 else 3) else c - 1
  { s with coh := { s.coh with pred := Tab.set s.coh.pred (predIndex line) (BitVec.ofNat 2 n) } }

/-- A full-line write of the home agent's own to a window line, with a result (R323). -/
def State.writeResult (s : State) (window : Nat) (d : BitVec 512) (status result : Nat) : State :=
  s.enqueueHome { kind := .wrF, who := .other 13, line := window, data := withResult d status result }

/-- R324: an atomic whose line has come runs on it: in the cache of its agent, or far on memory; one on an HDM-H target runs on
memory and asks for no line. -/
def State.runJob (s : State) (j : AtomicJob) : State :=
  let line := j.target / 64
  let n := descSize j.desc
  match j.bad, j.who with
  | some st, _ => s.writeResult j.window j.desc st 0
  | none, .other _ =>
    let rd := s.readBytes j.target n
    if rd.1.2 then rd.2.writeResult j.window j.desc 4 0
    else
      let r := atomicResult j.desc (leNat rd.1.1)
      ((rd.2.writeBytes j.target (leBytes n r.1) 13).bump 64 0x5800 10).writeResult j.window j.desc r.2 (leNat rd.1.1)
  | none, _ =>
    let s := match j.who with | .vat k => (s.useCached k line).2 | _ => s
    let held : Option (List (BitVec 8)) := match j.who with
      | .vat k => (s.cached k.val line).map (fun (c : CacheLine) => c.data)
      | .buffer => (s.coh.abuf.find? (fun (p : Nat × List (BitVec 8)) => p.1 = line)).map (fun p => p.2)
      | _ => none
    match held with
    | none => ((s.evictHolder .buffer line none).learn line j.snooped).writeResult j.window j.desc 4 0
    | some bs =>
      let old := leNat ((bs.drop (j.target % 64)).take n)
      let r := atomicResult j.desc old
      let new := bs.take (j.target % 64) ++ leBytes n r.1 ++ bs.drop (j.target % 64 + n)
      let s1 := match j.who with
        | .vat k => s.modCache k.val (fun t => Tab.set t line { dirty := true, data := new, err := 0 })
        | _ => s.fillBuffer line new
      let s2 := if j.far then s1.flushBuffer line else s1
      ((s2.bump 64 0x5800 (if j.far then 10 else 9)).learn line j.snooped).writeResult j.window j.desc r.2 old

/-- R324: an atomic waits for a line of its target. -/
def AtomicJob.needsLine (j : AtomicJob) : Bool := j.bad.isNone && (match j.who with | .other _ => false | _ => true)

/-- R323: atomics whose line has come, in arrival order per window line. -/
def State.runJobs : Nat → State → State
  | 0, s => s
  | n + 1, s =>
    let waiting (i : Nat) (j : AtomicJob) : Bool :=
      (j.needsLine && (s.coh.queue.any (fun r => r.line = j.target / 64 && r.who = j.who)
        || (s.dirAt (j.target / 64)).any (fun e => e.isOpen && (e.req.any (fun r => r.who = j.who)))))
        || (s.coh.jobs.take i).any (fun q => q.window = j.window)
    match (List.range s.coh.jobs.length).find? (fun i => match s.coh.jobs[i]? with | some j => !waiting i j | none => false) with
    | none => s
    | some i =>
      match s.coh.jobs[i]? with
      | none => s
      | some j => State.runJobs n ({ s with coh := { s.coh with jobs := s.coh.jobs.eraseIdx i } }.runJob j)

/-- The home agent goes on: queued requests, then atomics, then the requests that those bring. -/
def State.settle (s : State) : State :=
  let s1 := State.drainHome (2 * (s.coh.queue.length + s.coh.jobs.length)) s
  let s2 := State.runJobs s1.coh.jobs.length s1
  State.drainHome (2 * s2.coh.queue.length) s2

/-- R311, R314, R316: a request reaches the home agent. A dead requester's is dropped (R326). -/
def State.homeRequest (s : State) (r : HomeReq) : State :=
  let dead := match r.who with | .host h => s.isDead h.val | _ => false
  if dead then s else (s.enqueueHome r).settle

/-- R322-R324: a descriptor reaches the home agent from a writer, in window line `window` of tenant `t`. -/
def State.descriptor (s : State) (a : Agent) (t window : Nat) (d : BitVec 512) : State :=
  let s0 := s.enqueueHome { kind := .wrF, who := a, line := window, data := leBytes 64 d.toNat }
  let dpa := (s0.tenantAt t).base.toNat + bits d 63 16
  let line := dpa / 64
  let job (s : State) (j : AtomicJob) : State := { s with coh := { s.coh with jobs := s.coh.jobs ++ [j] } }
  let bad := s0.descCheck t d
  if bad.isSome || !s0.isHdmDb dpa then
    (job s0 { who := .other 13, window := window, desc := d, target := dpa, far := true, snooped := false, bad := bad }).settle
  else
    let far := s0.predictor line ≥ 2
    let agent : Agent := match a with | .vat k => if far then .buffer else .vat k | _ => .buffer
    let mine (e : DirEntry) : Bool :=
      e.hosts.isEmpty && e.coarse.isNone && !e.watch && (match e.owner with | some (.host _) => false | _ => true)
        && (match a with
            | .vat k => e.vatList.all (fun v => v = k.val) && e.owner ≠ some .buffer
            | _ => e.vats = 0)
    let snooped := match s0.dirAt line with | some e => !mine e | none => false
    ((job s0 { who := agent, window := window, desc := d, target := dpa, far := far, snooped := snooped }).enqueueHome
      { kind := .rdO, who := agent, line := line, data := [] }).settle

/-! ### Publishing (12) -/

/-- R333: the publisher identity of an agent: a host's requester number, a vat's local context. -/
def State.publisherId (s : State) (a : Agent) : Nat :=
  match a with
  | .host h => h.val
  | .vat k => match (s.physical k.val).bind s.runningOn with | some c => 0x8000 + c | none => 0xFFFF
  | _ => 0xFFFF

/-- R335: a mordant record. -/
def packRecord (version bank : Nat) (prev : Nat) (prevValid : Bool) (who time digest : Nat) : List (BitVec 8) :=
  leBytes 64 (version % 2 ^ 64 + bank % 4 * 2 ^ 64 + 2 ^ 66 + prev % 4 * 2 ^ 67 + (if prevValid then 2 ^ 69 else 0)
    + who % 2 ^ 16 * 2 ^ 80 + time % 2 ^ 64 * 2 ^ 128 + digest % 2 ^ 256 * 2 ^ 256)

/-- R334: a bank that a mordant record names neither as current nor as previous is FREE. -/
def bankFree (r bank : Nat) : Bool :=
  !(bitAt r 66 && bitsAt r 65 64 = bank) && !(bitAt r 69 && bitsAt r 68 67 = bank)

/-- The DPA of a region's mordant record. -/
def State.recordDpa (s : State) (r : Nat) : Nat := (s.tenantAt (s.par (0x5A00 + r) 1)).base.toNat + s.par (0x5A00 + r) 5

/-- R338: a publish descriptor of `who` for a bank of a region: STATUS, CURRENT_VERSION, and the state with the record
written. -/
def State.publish (s : State) (who r bank : Nat) (d : BitVec 512) : (Nat × Nat) × State :=
  let q := s.readBytes (s.recordDpa r) 64
  let rec_ := leNat q.1.1
  let v := bitsAt rec_ 63 0
  let s1 := q.2
  let new := bits d 63 0
  if !s.reg.enabled.contains r then
    if q.1.2 then (let f := s1.takeFree 64; ((4, f.1.toNat), f.2)) else ((4, v), s1)
  else if who ≠ s.par (0x5A00 + r) (7 + bank) || who = 0xFFFF then
    if q.1.2 then (let f := s1.takeFree 64; ((2, f.1.toNat), f.2)) else ((2, v), s1)
  else if new = 0 || bits d 127 104 ≠ 0 || bits d 255 224 ≠ 0 then
    if q.1.2 then (let f := s1.takeFree 64; ((5, f.1.toNat), f.2)) else ((5, v), s1)
  else if q.1.2 then
    let f := (s1.report kPublishRecordPoison (s.par (0x5A00 + r) 1) 0 [(32, r), (64, s.recordDpa r), (32, who)]).takeFree 64
    ((6, f.1.toNat), f.2)
  else if new ≠ v + 1 then ((1, v), s1)
  else if !bankFree rec_ bank then ((3, v), s1)
  else
    let line := s.recordDpa r / 64
    ((0, new), s1.storeRaw line (packRecord new bank (bitsAt rec_ 65 64) (bitAt rec_ 66) who s.now (bits d 511 256)))

/-- R337-R339: a publish descriptor reaches the home agent in the publish line of a bank: the line is written, the
descriptor runs, the result is written. -/
def State.runPublish (s : State) (a : Agent) (who r bank line : Nat) (d : BitVec 512) : State :=
  let s1 := s.enqueueHome { kind := .wrF, who := a, line := line, data := leBytes 64 d.toNat }
  let q := s1.publish who r bank d
  let s2 := q.2.bump 64 (0x5A00 + r) (if q.1.1 = 0 then 13 else 14)
  let n := setBits (setBits (setBits d.toNat 103 96 q.1.1) 191 128 q.1.2) 223 192 (bits d 95 64)
  (s2.enqueueHome { kind := .wrF, who := .other 13, line := line, data := leBytes 64 n }).settle

/-- R322, R337: a full-line write reaches the home agent: a descriptor where the line is a window line or a publish line,
else WrF. -/
def State.homeWrite (s : State) (a : Agent) (line : Nat) (data : List (BitVec 8)) : State :=
  match s.windowLine line with
  | some (t, _) => s.descriptor a t line (BitVec.ofNat 512 (leNat data))
  | none =>
    match s.publishAt line with
    | some (r, bank) => s.runPublish a (s.publisherId a) r bank line (BitVec.ofNat 512 (leNat data))
    | none => s.homeRequest { kind := .wrF, who := a, line := line, data := data }

/-- R80, R311: a line as a non-caching requester `who` reads it now: its bytes and whether it is poison; none while a host still
holds it modified. -/
def State.peekLine (s : State) (line who : Nat) : Option (List (BitVec 8) × Bool) × State :=
  let plain (s : State) : Option (List (BitVec 8) × Bool) × State := let r := s.readLine line who; (some r.1, r.2)
  match s.dirAt line with
  | some e =>
    match e.st, e.owner with
    | .M, some (.host _) =>
      if s.coh.queue.any (fun r => r.line = line) || e.isOpen then (none, s)
      else (none, s.homeRequest { kind := .rdC, who := .other (Fin.ofNat 16 who), line := line, data := [] })
    | .M, some (.vat k) =>
      let s := s.checkCached k.val line
      match s.cached k.val line with
      | some c => (some (c.data, false), s)
      | none => plain s
    | _, _ => plain s
  | none => plain s

/-- R80, R82: bytes of a line are written by a requester other than a host or a vat, through the directory where it is an HDM-DB
line. -/
def State.otherWrite (s : State) (line : Nat) (data : List (BitVec 8)) (mask : BitVec 64) (who : Nat) : State :=
  if s.isHdmDb (line * 64) then
    (if mask = BitVec.allOnes 64 then s.homeWrite (.other (Fin.ofNat 16 who)) line data
    else s.homeRequest { kind := .wrF, who := .other (Fin.ofNat 16 who), line := line, data := data, mask := mask })
  else s.storeMasked line data mask who

/-- R80, R81: a line is written as poison by a requester other than a host or a vat. -/
def State.otherPoison (s : State) (line who : Nat) : State :=
  if (s.recordOf line).isSome then s.bump 64 0x5B00 1
  else if s.isHdmDb (line * 64) then
    s.homeRequest { kind := .wrF, who := .other (Fin.ofNat 16 who), line := line, data := [], poison := true }
  else s.poisonLine line

/-! ### Responses -/

/-- The end of an open line: its request is served, or its eviction written (R315, R328). -/
def State.closeLine (s : State) (line : Nat) (e : DirEntry) : State :=
  let s1 := match e.data with
    | some d =>
      let s0 := if s.takesData (.other 13) line then s.storeLine line d else s
      if e.req.isSome then s0.bump 64 0x5800 5 else s0
    | none => if e.poison then s.poisonLine line else s
  if e.evict then
    let s2 := { s1 with coh := { s1.coh with dir := Tab.erase s1.coh.dir line } }
    if e.hold then
      { s2 with coh := { s2.coh with recovery := false } }.report kDirectoryUe 0 0
        [(32, dirSet line), (32, e.way), (32, if e.data.isNone && e.poison then 1 else 0)]
    else s2
  else
    match e.req with
    | some r => s1.serve r { e with isOpen := false, waitFor := [] } none
    | none => s1.putDir line { e with isOpen := false, waitFor := [], data := none, poison := false }

/-- R311, R326: an awaited host has answered a snoop of a line, with modified data, or as Invalid; `poison` where a dead
owner leaves nothing. -/
def State.snooped (s : State) (a : Agent) (line : Nat) (data : Option (List (BitVec 8))) (poison : Bool) : State :=
  match s.dirAt line with
  | none => s
  | some e =>
    if !e.isOpen || !e.waitFor.contains a then s
    else
      let d := match data with | some d => some d | none => e.data
      let e1 := { e with waitFor := e.waitFor.erase a, data := d, poison := e.poison || poison }
      if e1.waitFor.isEmpty then (s.closeLine line e1).settle else s.putDir line e1

/-- R311: RDS, RDO, RDC and WRF of an agent to a line. -/
def execRds (a : Agent) (line : BitVec 40) (s : State) : Res :=
  ok (s.homeRequest { kind := .rdS, who := a, line := line.toNat, data := [] })
def execRdo (a : Agent) (line : BitVec 40) (s : State) : Res :=
  ok (s.homeRequest { kind := .rdO, who := a, line := line.toNat, data := [] })
def execRdc (a : Agent) (line : BitVec 40) (s : State) : Res :=
  ok (s.homeRequest { kind := .rdC, who := a, line := line.toNat, data := [] })
def execWrf (a : Agent) (line : BitVec 40) (data : List (BitVec 8)) (s : State) : Res :=
  ok (s.homeWrite a line.toNat (fitBytes 64 data))

/-- R312, R319: an Evict of an agent: a crossing answers the snoop outstanding to it, else the line is written and its sender
removed. -/
def State.evict (s : State) (a : Agent) (line : Nat) (data : Option (List (BitVec 8))) : State :=
  let s0 := match a with
    | .host h => if data.isSome then (let p := s.hostPort h.val line; (s.endHost p.val h.val line).emit (.hostCmp p h.val)) else s
    | .vat k => s.modCache k.val (fun t => Tab.erase t line)
    | _ => s
  match s0.dirAt line with
  | some e =>
    if e.isOpen && e.waitFor.contains a then
      let s1 := s0.bump 64 0x5800 11
      if e.waitFor = [a] then
        let rest := s1.closeLine line { e with data := data }
        match rest.dirAt line with
        | some f => rest.putDir line { f with isOpen := true, waitFor := [a], req := none, data := none, evict := false }
        | none => (rest.putDir line { freshDir e.way e.alloc with isOpen := true, waitFor := [a] })
      else s1.putDir line { e with data := data }
    else (s0.evictHolder a line data).settle
  | none => (s0.evictHolder a line data).settle

/-- R312, R319: EVICT. -/
def execEvict (a : Agent) (line : BitVec 40) (data : Option (List (BitVec 8))) (s : State) : Res :=
  ok (s.evict a line.toNat (data.map (fitBytes 64)))

/-- R311, R318: SNOOP_RESPONSE: an agent answers the snoop outstanding to it. -/
def execSnoopResponse (a : Agent) (line : BitVec 40) (data : Option (List (BitVec 8))) (s : State) : Res :=
  ok (s.snooped a line.toNat (data.map (fitBytes 64)) false)

/-- R320: BICONFLICT: the responses to the host's earlier requests for the line have been sent, so BIConflictAck goes out; those
that came behind the snoop are completed after it. -/
def execBiconflict (r : Fin 4096) (line : BitVec 40) (s : State) : Res :=
  let s1 := (s.bump 64 0x5800 12).emit (.biConflictAck r.val line.toNat)
  let free (q : HomeReq) : HomeReq := if q.who = .host r && q.line = line.toNat then { q with behind := false } else q
  ok ({ s1 with coh := { s1.coh with queue := s1.coh.queue.map free } }.settle)

/-- R317: HOLD_TIME_EXPIRE: the line may be snooped again. -/
def execHoldTimeExpire (line : BitVec 40) (s : State) : Res :=
  match s.dirAt line.toNat with
  | some e => if e.evict then ok s else ok ((s.putDir line.toNat { e with hold := false }).settle)
  | none => ok s

/-! ### Host death -/

/-- R326: a requester is dead: its requests are completed with no response, the snoops outstanding to it are resolved, its modified lines are poison, it
leaves every sharer list, and the sweep begins. -/
def State.hostDies (s : State) (event unit : Nat) (r : Nat) : State :=
  if s.isDead r then s
  else
    let me : Agent := .host (Fin.ofNat 4096 r)
    let gone (p : HomeReq) : HomeReq :=
      if p.who = me then { p with mute := true, behind := false, kind := if p.kind = .wrF then .wrF else .rdC } else p
    let s1 := { s with coh := { s.coh with
      dead := addNew s.coh.dead r, queue := s.coh.queue.map gone,
      dir := s.coh.dir.map (fun (p : Nat × DirEntry) => (p.1, { p.2 with req := p.2.req.map gone })) } }
    let mine := s1.coh.dir.filter (fun p => p.2.st = .M && p.2.owner = some me)
    let s2 := s1.coh.dir.foldl (fun s p => s.snooped me p.1 none (p.2.st = .M && p.2.owner = some me)) s1
    let s3 := s2.coh.dir.foldl (fun s p =>
      match s.dirAt p.1 with
      | none => s
      | some e =>
        if e.st = .M && e.owner = some me && !e.isOpen then (s.poisonLine p.1).putDir p.1 (e.without me)
        else if e.isOpen then s.putDir p.1 { e with hosts := e.hosts.erase r }
        else s.putDir p.1 (e.without me)) s2
    { s3 with coh := { s3.coh with sweep := s3.coh.sweep ++ [(r, event, mine.length, unit)] } }.settle

/-- R325: BI_TIMEOUT: a BISnp was not answered. -/
def execBiTimeout (r : Fin 4096) (line : BitVec 40) (s : State) : Res :=
  match s.dirAt line.toNat with
  | some e =>
    if e.isOpen && e.waitFor.contains (.host r) then ok (s.hostDies 4 (if s.mld then r.val / 16 else 4) r.val) else ok s
  | none => ok s

/-- R325: REQUESTER_GONE: a write of OD 0x5810:01. -/
def requesterGone (r : Nat) : Op := fun s => if r < 4096 then done (s.hostDies 3 4 r) else refuse stRange s
def execRequesterGone (c : Client) (r : BitVec 16) (s : State) : Res :=
  ok (s.request c 0x5810 1 (leBytes 2 r.toNat) (requesterGone r.toNat))

/-- R327: REQUESTER_REVIVE: a write of OD 0x5810:02, rejected while SWEEP_ACTIVE is 1. -/
def requesterRevive (r : Nat) : Op := fun s =>
  if 4096 ≤ r then refuse stRange s
  else if s.coh.sweep ≠ [] then refuse stState s
  else done { s with coh := { s.coh with dead := s.coh.dead.erase r } }
def execRequesterRevive (c : Client) (r : BitVec 16) (s : State) : Res :=
  ok (s.request c 0x5810 2 (leBytes 2 r.toNat) (requesterRevive r.toNat))

/-- R326: DIRECTORY_SWEEP_DONE: the sweep ends, and one HOST_DEATH record is written per dead requester. -/
def execDirectorySweepDone (s : State) : Res :=
  let s1 := { s with coh := { s.coh with sweep := [] } }
  ok ((s.coh.sweep.foldl (fun s d =>
    s.report kHostDeath d.2.2.2 d.1 [(32, d.1), (32, d.2.1), (32, d.2.2.1)]) s1).settle)

/-- R328: DIRECTORY_UE: the entry is lost, and the request that had it open waits again; every vat cache and every live requester with a read right is invalidated. -/
def execDirectoryUe (line : BitVec 40) (s : State) : Res :=
  let l := line.toNat
  let way := ((s.dirAt l).map (fun e => e.way)).getD 0
  let again := ((s.dirAt l).bind (fun e => e.req)).toList
  let s := { s with coh := { s.coh with queue := again ++ s.coh.queue } }
  let buf := (s.coh.abuf.find? (fun p => p.1 = l)).map (fun p => p.2)
  let q := { s with coh := { s.coh with abuf := s.coh.abuf.filter (fun p => p.1 ≠ l) } }.dropVats l (List.range 32)
  let q := (q.1.or buf, q.2)
  let s1 := match q.1 with | some d => q.2.storeLine l d | none => q.2
  let hs := match s.owner (l * 64) with
    | some t => (List.range 4096).filter (fun r => !s.isDead r && s.hostRight r t false)
    | none => []
  let e : DirEntry := { freshDir way 0 with
    st := .M, isOpen := true, evict := true, hold := true, poison := q.1.isNone,
    waitFor := hs.map (fun h => Agent.host (Fin.ofNat 4096 h)) }
  let s2 := { s1 with coh := { s1.coh with recovery := true } }.snoop l true hs
  if hs.isEmpty then ok ((s2.closeLine l { e with poison := false }).settle) else ok (s2.putDir l e)

/-- R322: an atomic of an operation, by agent `a`, in line `i` of tenant `t`'s window. -/
def State.atomic (s : State) (op : Nat) (a : Agent) (t : Fin 256) (i : Fin 64) (d : BitVec 512) : State :=
  match s.windowAtIndex t.val i.val with
  | some line => if descOp d = op then s.descriptor a t.val line d else s
  | none => s

def execCas (a : Agent) (t : Fin 256) (i : Fin 64) (desc : BitVec 512) (s : State) : Res := ok (s.atomic 1 a t i desc)
def execFetchAdd (a : Agent) (t : Fin 256) (i : Fin 64) (desc : BitVec 512) (s : State) : Res := ok (s.atomic 2 a t i desc)
def execSwap (a : Agent) (t : Fin 256) (i : Fin 64) (desc : BitVec 512) (s : State) : Res := ok (s.atomic 3 a t i desc)
def execFetchAnd (a : Agent) (t : Fin 256) (i : Fin 64) (desc : BitVec 512) (s : State) : Res := ok (s.atomic 4 a t i desc)
def execFetchOr (a : Agent) (t : Fin 256) (i : Fin 64) (desc : BitVec 512) (s : State) : Res := ok (s.atomic 5 a t i desc)
def execFetchMax (a : Agent) (t : Fin 256) (i : Fin 64) (desc : BitVec 512) (s : State) : Res := ok (s.atomic 6 a t i desc)

/-- R433: a partition has reached STOPPED: every host and vat-cache holder of its HDM-DB lines is invalidated, and what they
return is discarded. Host requests that wait for a line see poison, or are dropped (R33). -/
def State.dropLines (s : State) (t : Nat) : State :=
  let mine (line : Nat) : Bool := s.owner (line * 64) = some t
  let answer (s : State) (r : HomeReq) : State :=
    match r.who with
    | .host _ => s.respond { r with kind := if r.kind = .wrF then .wrF else .rdC } .invalid [] true
    | _ => s
  let s1 := s.coh.dir.foldl (fun s p =>
    if mine p.1 then
      let q := (s.snoop p.1 true (match p.2.owner with
        | some (.host o) => if p.2.isOpen then [] else [o.val]
        | _ => if p.2.isOpen then [] else s.hostHolders p.1 p.2)).dropVats p.1 p.2.vatList
      match p.2.req with | some r => answer q.2 r | none => q.2
    else s) s
  let s2 := (s1.coh.queue.filter (fun r => mine r.line)).foldl answer s1
  { s2 with coh := { s2.coh with
    dir := s2.coh.dir.filter (fun p => !mine p.1), queue := s2.coh.queue.filter (fun r => !mine r.line),
    abuf := s2.coh.abuf.filter (fun p => !mine p.1), jobs := s2.coh.jobs.filter (fun j => !mine (j.target / 64)) } }

/-- R321: every line of a logical vat's cache leaves by ordinary Evicts. -/
def State.flushCache (s : State) (k : Fin 32) : State :=
  match s.physical k.val with
  | some v => ((s.vatAt v).cache.foldl (fun s p => s.evictVat k p.1) s).settle
  | none => s

end Machine
end Sys2Proof
end

