-- ==== Sys2Proof/Machine/Plans.lean ====
section
/-! DEFINITION. What a running plan rests on (08, 21): its image, the lines that the launch stage watches, its steps and
counters, its faults and traps, and the completion record. -/

namespace Sys2Proof
namespace Machine

/-! ### The image -/

/-- R287, R290: the pinned translation of a context that covers a VA. -/
def State.pinFor (s : State) (k va : Nat) : Option L2Entry :=
  s.tlb.l2.find? (fun e => e.ctx = k && e.locked && va >>> e.shift = e.page)

/-- The PPA of a VA by a translation. -/
def L2Entry.ppaOf (e : L2Entry) (va : Nat) : Nat := e.ppa + va % 2 ^ e.shift

/-- R217, R222: bytes of the running plan's image, and whether they are poison; free bytes where the image's page is not
pinned or lies on another chip (log entry 23). -/
def State.imageBytes (s : State) (k off n : Nat) : (List (BitVec 8) × Bool) × State :=
  let free := let r := s.takeBytes n; ((r.1, false), r.2)
  match (s.ctxAt k).inv with
  | none => free
  | some i =>
    match s.pinFor k (i.image + off) with
    | none => free
    | some e =>
      if e.absent.isSome || e.invalid || !s.isLocal (e.ppaOf (i.image + off)) then free
      else s.readBytes (ppaDpa (e.ppaOf (i.image + off))) n

/-- R212: entry `idx` of section `sec` of the image, of `size` bytes. -/
def State.sectionEntry (s : State) (k sec idx size : Nat) : (Nat × Bool) × State :=
  let r := s.imageBytes k ((hdrSection (s.header k) sec).1 + idx * size) size
  ((leNat r.1.1, r.1.2), r.2)

/-! ### Completion -/

/-- R206: COMPLETION_RING and the number of its records. -/
def State.compRing (s : State) (k : Nat) : Nat := bits (s.ctxAt k).entry 109 64
def State.compSize (s : State) (k : Nat) : Nat := 2 ^ bits (s.ctxAt k).entry 113 110

/-- R234: a line that the launch stage watches: it holds the line as a sharer in the directory, and reads it while no writer
has taken it; none while a host has still to give it up. -/
def State.watchLine (s : State) (dpa : Nat) : Option (List (BitVec 8)) × State :=
  let line := dpa / 64
  let get (s : State) : Option (List (BitVec 8)) × State :=
    let r := s.readLine line
    (some r.1.1, r.2)
  let held (s : State) : Bool := (s.dirAt line).any (fun e => e.watch && !e.isOpen)
  if !s.isHdmDb dpa || held s then get s
  else
    let s1 := s.homeRequest { kind := .rdS, who := .watch, line := line, data := [] }
    if held s1 then get s1 else (none, s1)

/-- R242, R243: the free entries of a completion ring, counted from CONSUMED as it was last read (log entry 179). -/
def State.compFree (s : State) (k : Nat) : Nat × State :=
  let r := s.watchLine (s.compRing k)
  let s1 := match r.1 with
    | some bs => r.2.modCtx k (fun x => { x with consumed := BitVec.ofNat 32 (leNat (bs.take 4)) })
    | none => r.2
  (s1.compSize k - ((s1.ctxAt k).compIndex - (s1.ctxAt k).consumed).toNat, s1)

/-- R241: a completion record's fields. -/
structure CompRec where
  seq     : Nat
  tag     : Nat
  status  : Nat
  reason  : Nat
  step    : Nat
  altered : Bool
  events  : Nat
  flags   : Nat
  start   : Nat
  fin     : Nat
  cycles  : Nat
  frame   : Nat
  lp      : Nat
  deriving DecidableEq, Repr, Inhabited

/-- R241: the record as 512 bits, PHASE apart. -/
def CompRec.pack (r : CompRec) : BitVec 512 :=
  BitVec.ofNat 512 (r.seq % 2 ^ 32 + r.tag % 2 ^ 32 * 2 ^ 32 + r.status % 16 * 2 ^ 65
    + r.reason % 256 * 2 ^ 69 + r.step % 2 ^ 16 * 2 ^ 80 + (if r.altered then 2 ^ 96 else 0) + r.events % 32 * 2 ^ 97
    + r.flags % 8 * 2 ^ 102 + r.start % 2 ^ 64 * 2 ^ 128 + r.fin % 2 ^ 64 * 2 ^ 192 + r.cycles % 2 ^ 64 * 2 ^ 256
    + r.frame % 2 ^ 64 * 2 ^ 320 + r.lp % 4 * 2 ^ 384)

/-- R241: a record is written as one full-line write at the write index, under the lap's phase. -/
def State.putRecord (s : State) (k : Nat) (r : BitVec 512) : State :=
  let n := (s.ctxAt k).compIndex.toNat
  let size := s.compSize k
  let line := s.compRing k / 64 + 1 + n % size
  let s1 := s.modCtx k (fun x => { x with compIndex := x.compIndex + 1 })
  s1.homeRequest { kind := .wrF, who := .other 13, line := line, data := leBytes 64 (r.toNat + (if n / size % 2 = 0 then 2 ^ 64 else 0)) }

/-- R241, R243: the records of a context that wait are written in order, none over an entry that CONSUMED has not passed. -/
def State.flushRecords (k : Nat) : Nat → State → State
  | 0, s => s
  | n + 1, s =>
    match (s.ctxAt k).unwritten with
    | [] => s
    | r :: rest =>
      let f := s.compFree k
      if f.1 = 0 then f.2
      else State.flushRecords k n ((f.2.modCtx k (fun x => { x with unwritten := rest })).putRecord k r)

/-- R241, R243: a completion record of a context, behind those that wait. -/
def State.complete (s : State) (k : Nat) (r : CompRec) : State :=
  let s1 := s.modCtx k (fun x => { x with unwritten := x.unwritten ++ [r.pack] })
  State.flushRecords k (s1.ctxAt k).unwritten.length s1

/-! ### Steps and counters -/

/-- R202: the sticky flags of a vat as FLAGS. -/
def Vat.flagBits (x : Vat) : BitVec 3 :=
  BitVec.ofNat 3 ((if x.overflow then 1 else 0) + (if x.invalid then 2 else 0) + (if x.nanDrop then 4 else 0))

/-- R205: the chip-wide counts of steps that ended with a flag set. -/
def State.countFlags (s : State) (f : BitVec 3) : State :=
  let s1 := if bit f 0 then s.bump 64 0x4040 1 else s
  let s2 := if bit f 1 then s1.bump 64 0x4040 2 else s1
  if bit f 2 then s2.bump 64 0x4040 3 else s2

/-- R533, R534: a step that every vat has ended: its record, its flags. -/
def State.stepRecord (s : State) (k no : Nat) (faulted : Bool) : State :=
  let x := s.ctxAt k
  let a := Tab.get x.stepAcc no default
  let seq := (x.inv.map (fun i => i.seq.toNat)).getD 0
  let altered := (x.inv.map (fun i => i.altered)).getD false
  let step := (x.inv.map (fun i => i.step.toNat)).getD 0
  let s1 := s.modCtx k (fun x => { x with
    stepAcc := Tab.erase x.stepAcc no,
    inv := x.inv.map (fun i => { i with flags := i.flags ||| a.flags }) })
  let s2 := s1.pushRecord k (fun n => packCounters n.toNat seq k false faulted altered a.flags.toNat step a.start s.now a.cycles a.sum)
  (s2.countFlags a.flags).light lightStep 1

/-- R533: the end latch of a step on a vat at a cycle, and the start latch of the next. -/
def State.stepEnd (s : State) (k v cyc : Nat) (faulted : Bool) : State :=
  let x := s.vatAt v
  let no := x.stepNo
  let a := Tab.get (s.ctxAt k).stepAcc no default
  let cycles := cyc - x.stepCyc - x.stepCount.wait
  let b : StepAcc := {
    ended := a.ended + 1, sum := a.sum.add x.stepCount, cycles := if a.cycles < cycles then cycles else a.cycles,
    flags := a.flags ||| x.flagBits, start := if a.ended = 0 || x.stepTime < a.start then x.stepTime else a.start }
  let s1 := (s.modVat v (fun x => { x with
    stepNo := x.stepNo + 1, stepCyc := cyc, stepTime := s.now, stepCount := default,
    invCount := x.invCount.add x.stepCount, overflow := false, invalid := false, nanDrop := false })).modCtx k
      (fun c => { c with stepAcc := Tab.set c.stepAcc no b })
  if b.ended ≥ (s.planVats k).length then s1.stepRecord k no faulted else s1

/-- R241: CYCLES_RUN: first bundle to last on the slowest vat, waits excluded. -/
def State.cyclesRun (s : State) (k : Nat) : Nat :=
  (s.planVats k).foldl (fun m v =>
    let x := s.vatAt v
    let n := match x.firstCyc with | some c => x.lastCyc - c - x.invCount.wait | none => 0
    if m < n then n else m) 0

/-- R533: the invocation's record, after its completion record. -/
def State.invocationRecord (s : State) (k : Nat) (faulted : Bool) : State :=
  match (s.ctxAt k).inv with
  | none => s
  | some i =>
    let sum := (s.planVats k).foldl (fun (a : VatCount) v => a.add (s.vatAt v).invCount) default
    s.pushRecord k (fun n =>
      packCounters n.toNat i.seq.toNat k true faulted i.altered i.flags.toNat i.step.toNat i.start.toNat s.now (s.cyclesRun k) sum)

/-- R241: the completion record of the invocation of a context, with a status and a reason. -/
def State.invComplete (s : State) (k status reason : Nat) : State :=
  match (s.ctxAt k).inv with
  | none => s
  | some i =>
    let r : CompRec := {
      seq := i.seq.toNat, tag := i.tag.toNat, status := status, reason := reason, step := i.step.toNat, altered := i.altered,
      events := i.events.toNat, flags := i.flags.toNat, start := i.start.toNat, fin := s.now, cycles := s.cyclesRun k,
      frame := i.frame.toNat, lp := i.lp.toNat }
    s.complete k r

/-- R157, R242: no write tile of the plan is still to set its token. -/
def State.writesDone (s : State) (k : Nat) : Bool :=
  (s.planVats k).all (fun v => Tab.get (s.vatAt v).engines 4 [] = [] && Tab.get (s.vatAt v).engines 5 [] = [])

/-- R241: the record that waited for the last write tile is written. -/
def State.payRecord (s : State) (k : Nat) : State :=
  match (s.ctxAt k).owed with
  | some (st, re) =>
    if s.writesDone k then (s.modCtx k (fun x => { x with owed := none })).invComplete k st re else s
  | none => s

/-! ### Faults and traps -/

/-- The kind of a plan fault: scope context, and vat for VAT_HANG. -/
def planKind (code : Nat) : FKind := { code := code, error := true, scope := if code = 0x0605 then 3 else 1 }

/-- R355: the function on which a context raises its MSIX_VECTOR. -/
def State.ctxFunction (s : State) (k : Nat) : Nat :=
  let b := (s.ctxAt k).binding
  if s.mld then 4 + 16 * bits b 2 1 + bits b 6 3 else bits b 2 1

/-- R229: the sequence number that a context's ring barriers carry. -/
def State.ringSeq (s : State) (k : Nat) : BitVec 32 := ((s.ctxAt k).inv.map (fun i => i.seq)).getD 0

/-- R206: RING_GROUP and the partners of RING_MASK. -/
def State.ringGroup (s : State) (k : Nat) : Nat := bits (s.ctxAt k).entry 287 272
def State.partners (s : State) (k : Nat) : List Nat := (onesOf 64 (bits (s.ctxAt k).entry 351 288)).filter (fun c => c ≠ s.coord)

/-- R230: a fault notice to the partners of a cross-chip plan. -/
def State.sendNotices (s : State) (k : Nat) : State :=
  match (s.ctxAt k).inv with
  | none => s
  | some i =>
    if hdrCross i.header then
      (s.partners k).foldl (fun s c => s.sendMgmt 8 c (s.ctxTenant k) (ringUnit (s.ringGroup k) i.seq.toNat 0)) s
    else s

/-- R301: the payload of PLAN_TRANSLATION: context, step, tile index, VA, cause; the vat mask follows the cause (log entry
24). -/
def translationPayload (k step tile va cause : Nat) : BitVec 320 := payload [(32, k), (32, step), (32, tile), (64, va), (32, cause)]

/-- R32-R34, R333, R433: a stopping tenant is STOPPED once no plan of its contexts runs or is being started; its lines are
dropped and its regions become DISABLED. -/
def State.settleTenant (s : State) (t : Nat) : State :=
  let busy := s.ctxs.any (fun (p : Nat × Ctx) => s.ctxTenant p.1 = t && p.2.phase ≠ .idle)
  if (s.tenantAt t).stopping && (s.tenantAt t).state = 2 && !busy then
    let s1 := (s.dropLines t).modTenant t (fun x => { x with state := 1 })
    { s1 with reg := { s1.reg with enabled := s1.reg.enabled.filter (fun r => s1.par (0x5A00 + r) 1 ≠ t) } }
  else s

/-- R245: the event that a fault kind is, if one. -/
def faultEvent (code : Nat) : Option Nat :=
  if code = 0x0803 then some 1
  else if code = 0x0801 || code = 0x0802 then some 2
  else if code = 0x0804 || code = 0x0805 || code = 0x0806 then some 4
  else none

/-- R245: every fault of a step is an event of the invocation (log entry 179). -/
def State.markFaults (s : State) (k : Nat) (fs : List PlanFault) : State :=
  fs.foldl (fun s f => match faultEvent f.kind.toNat with | some e => s.markEvent k e | none => s) s

/-- R249-R251: the context is FAULTED: the record of its first fault, with the later ones counted in it; its vats are held;
MSIX_VECTOR is raised; partners are told; the completion record is written when no write tile is left. The arrivals of the
invocation at its ring barriers are forgotten (log entry 175). -/
def State.faultContext (s : State) (k : Nat) : State :=
  match (s.ctxAt k).faults with
  | [] => s
  | f :: rest =>
    let code := f.kind.toNat
    let vs := s.planVats k
    let s0 := vs.foldl (fun s v => if (s.vatAt v).wait = .done then s else s.stepEnd k v (s.vatAt v).lastCyc true) s
    let s1 := (s0.ctxAt k).stepAcc.foldl (fun s a => s.stepRecord k a.1 true) s0
    let pl := if code = 0x0803 then f.payload ||| BitVec.ofNat 320 (f.pttMask.toNat * 2 ^ 224) else f.payload
    let kd := planKind code
    let rec_ : FaultRec := { s1.mkRec kd (if code = 0x0605 then bits pl 31 0 else k) 0 [] with
      payload := pl, count := BitVec.ofNat 16 (if rest.length < 2 ^ 16 then rest.length else 2 ^ 16 - 1) }
    let s2 := s1.submit rec_
    let stored := { rec_ with logSeq := if s2.flt.logSeq = s1.flt.logSeq then 0 else s2.flt.logSeq }
    let s3 := s2.onVats vs (fun x => { x with faultHeld := true, activity := 0, wait := .none, stall := none, todo := [], fetching := [] })
    let seq := s.ringSeq k
    let s4 := s3.modCtx k (fun x => { x with
      state := 2, faultStep := BitVec.ofNat 16 f.step, phase := .idle, lastFault := stored.pack,
      inv := x.inv.map (fun i => { i with step := BitVec.ofNat 16 f.step }),
      autoResume := bit x.binding 29 && !hdrCross (s.header k) && (f :: rest).all (fun g => g.kind = 0x0803),
      arrivals := x.arrivals.filter (fun a => a.2.1 ≠ seq), owed := some (2, code % 256) })
    let s5 := ((s4.msix (s4.ctxFunction k) (bits (s4.ctxAt k).entry 266 256)).bump 64 0x4400 7).sendNotices k
    let s6 := (s5.markFaults k (f :: rest)).payRecord k
    s6.settleTenant (s6.ctxTenant k)

/-- A fault of the current step (R249): it waits for the step's end. -/
def State.stepFault (s : State) (k step : Nat) (code : Nat) (pl : BitVec 320) (page : Nat) (mask : BitVec 32) : State :=
  let f : PlanFault := { kind := BitVec.ofNat 16 code, payload := pl, page := page, step := step, pttMask := mask, resolved := false }
  s.modCtx k (fun x => { x with faults := x.faults ++ [f] })

/-- R249, R250: a trap: the plan stops at once. -/
def State.trap (s : State) (k v : Nat) (code : Nat) (pl : BitVec 320) : State :=
  (s.stepFault k (s.vatAt v).step code pl 0 0).faultContext k

/-- R250: the vats have all stopped: each has ended its step or issued END. -/
def State.stopped (s : State) (k : Nat) : Bool := (s.planVats k).all (fun v => (s.vatAt v).wait = .done)

/-- R229: the chip has arrived at a ring barrier of the invocation that a context runs. -/
def State.rang (s : State) (k id : Nat) : Bool :=
  (s.ctxAt k).arrivals.contains (BitVec.ofNat 6 s.coord, s.ringSeq k, BitVec.ofNat 8 id)

/-- R228, R229, R250: no vat of the plan can go on: each has stopped, or waits at a barrier for one that has. -/
def State.stuck (s : State) (k : Nat) : Bool :=
  let ws := (s.planVats k).map (fun v => (s.vatAt v).wait)
  ws.contains .done && ws.all (fun w => match w with | .done => true | .barrier _ => true | .ring id _ => !s.rang k id | _ => false)

/-- R250: a plan that holds a fault is FAULTED when its vats have stopped. -/
def State.settleFault (s : State) (k : Nat) : State :=
  if (s.ctxAt k).phase = .running && (s.ctxAt k).faults ≠ [] && s.stuck k then s.faultContext k else s

/-- R163: a logical vat moves to the head of the rotation order. -/
def State.toHead (s : State) (v : Nat) : State :=
  match s.logical v with
  | some l => { s with vat := { s.vat with head := s.vat.head ++ (if s.vat.head.contains l then [] else [l]) } }
  | none => s

/-- R165: BUNDLE_FAULT by cause: 1 bank conflict, 2 accumulator busy, 3 address out of range. -/
def State.bundleFault (s : State) (k v b cause : Nat) : State :=
  s.trap k v 0x0604 (payload [(32, v), (32, k), (32, b), (32, cause)])

/-- R224: IMAGE_ENCODING of a slot: 0 matrix, 1 vector, 2 exponential and reduce, 3 stream, 5 control. -/
def State.encodingTrap (s : State) (k v b slot : Nat) : State :=
  s.trap k v 0x0807 (payload [(32, k), (32, (s.logical v).getD 0), (32, b), (32, slot)])

/-- R153: PALETTE_UE at a palette address: a trap, and the vat moves to the head of the rotation order. -/
def State.paletteUe (s : State) (k v addr : Nat) : State :=
  ((s.bump 32 0x4030 2).trap k v 0x0603 (payload [(32, v), (32, addr), (32, k), (32, (s.vatAt v).step)])).toHead v

/-- R121: poison met in the fetch of a bundle or of a descriptor that it names. -/
def State.fetchTrap (s : State) (k v b : Nat) : State :=
  s.trap k v 0x0802 (payload [(32, k), (32, (s.logical v).getD 0), (32, b)])

end Machine
end Sys2Proof
end

