-- ==== Sys2Proof/Machine/Issue.lean ====
section
/-! DEFINITION. The issue stage of a vat (06, 08): the fetch of the bundle stream into the bundle buffer, the slots of a bundle,
its waits, the cycle at which it issues, and the reads and writes of the palette with their SEC-DED check. -/

namespace Sys2Proof
namespace Machine

/-! ### Requests of a plan -/

/-- R392, R394: a request of this chip on the pool ring, under the next TAG; where no way is open it is answered at once
with NO_ROUTE (false). -/
def State.poolRequest (s : State) (h : PktHdr) (data : List (BitVec 8)) (owner : Option Reader)
    (word : Option (Nat × List (BitVec 8)) := none) : Bool × State :=
  let g := { h with tag := s.pool.tag.toNat, epoch := s.epoch, src := s.coord }
  let s1 := { s with pool := { s.pool with tag := s.pool.tag + 1 } }
  match s1.inject g data with
  | some s2 =>
    let r : PoolReq := { tag := s.pool.tag, hdr := g.pack, data := data, owner := owner, word := word }
    (true, { s2 with pool := { s2.pool with reqs := s2.pool.reqs ++ [r] } })
  | none => (false, s1)

/-- R67, R156, R162: a line joins the plan queue of its slice, in stream order; lines next to each other in one row make one
request. A write to an armoured page reads the old line in the plan's own gate slots (R127). -/
def State.planRequest (s : State) (k dpa : Nat) (write : Bool) : State :=
  let br := s.bankRow dpa
  let c := s.streamClass k
  let fresh : PlanReq := { cls := c, ctx := k, bytes := 64, dpa := BitVec.ofNat 46 dpa, write := write, bank := br.1, row := br.2 }
  s.modSlice (s.sliceOf dpa) (fun x =>
    match x.planq.getLast? with
    | some r =>
      if r.cls = c && r.ctx = k && r.write = write && r.bank = br.1 && r.row = br.2 && r.dpa.toNat + r.bytes = dpa then
        { x with planq := x.planq.dropLast ++ [{ r with bytes := r.bytes + 64 }] }
      else { x with planq := x.planq ++ [fresh] }
    | none => { x with planq := [fresh] })

/-! ### The bundle stream -/

/-- R214: OFFSET and BUNDLES of the stream that a physical vat runs. -/
def State.streamOf (s : State) (k v : Nat) : Nat × Nat :=
  match s.logical v, (s.ctxAt k).inv with
  | some l, some i => i.streams.getD (l - s.firstVat k) (0, 0)
  | _, _ => (0, 0)

/-- R162: one bundle is fetched by a plan-stream read of the context's class, through the pin of its page; bundles of one line
come by one read. -/
def State.fetchBundle (s : State) (k v : Nat) (i : Nat) : State :=
  let va := ((s.ctxAt k).inv.map (fun n => n.image)).getD 0 + (s.streamOf k v).1 + 32 * i
  match s.pinFor k va with
  | none => s
  | some e =>
    if e.absent.isSome || s.runningOn v ≠ some k then s
    else
      let ppa := e.ppaOf va
      let asked := (s.vatAt v).fetching.any (fun p => p.1 / 64 = ppa / 64)
      let s1 := s.modVat v (fun x => { x with fetching := x.fetching ++ [(ppa, i)] })
      if asked then s1
      else if s.isLocal ppa then s1.planRequest k (ppaDpa ppa / 64 * 64) false
      else
        let h : PktHdr := { (default : PktHdr) with
          vc := 0, type := 1, dest := ppaCoord ppa, lines := 1, tenant := s.ctxTenant k, reqKind := 0, dpa := ppaDpa ppa / 64 * 64 }
        let r := s1.poolRequest h [] (if hv : v < 34 then some (.fetch ⟨v, hv⟩) else none)
        if r.1 then r.2 else r.2.fetchTrap k v i

/-- R161, R162: the buffer's bundles and those on their way: the 2048 below the index that is fetched next. -/
def Vat.keepBuffer (x : Vat) : Vat :=
  { x with
    buffer := x.buffer.filter (fun p => x.fetchAt ≤ p.1 + 2048 && p.1 < x.fetchAt),
    fetching := x.fetching.filter (fun p => x.fetchAt ≤ p.2 + 2048 && p.2 < x.fetchAt) }

/-- R162: the issue stage fetches ahead: the bundles of the stream up to 1024 after the next one; from the next one on where the
buffer does not hold it and it is not on its way (log entry 173). -/
def State.fetchAhead (s : State) (k v : Nat) : State :=
  let x := s.vatAt v
  let known := (Tab.find? x.buffer x.next).isSome || x.fetching.any (fun p => p.2 = x.next) || x.fetchAt = x.next
  let a := if known then x.fetchAt else x.next
  let top := Nat.max a (Nat.min (s.streamOf k v).2 (x.next + 1024))
  let s1 := s.modVat v (fun x => ({ x with fetchAt := a } : Vat).keepBuffer)
  let s2 := s1.modVat v (fun x => { x with fetchAt := top })
  let s3 := (List.range (top - a)).foldl (fun s j => s.fetchBundle k v (a + j)) s2
  s3.modVat v Vat.keepBuffer

/-- R162: a line of the bundle stream reaches the buffer. -/
def State.fillBundles (s : State) (v ppa : Nat) (data : List (BitVec 8)) : State :=
  s.modVat v (fun x =>
    let mine := x.fetching.filter (fun p => p.1 / 64 = ppa / 64)
    { x with
      fetching := x.fetching.filter (fun p => p.1 / 64 ≠ ppa / 64),
      buffer := mine.foldl (fun t p => Tab.set t p.2 (BitVec.ofNat 256 (leNat ((data.drop (p.1 % 64)).take 32)))) x.buffer })

/-- R121, R249: a line of the bundle stream is poison: the index of the first bundle in it. -/
def State.bundlePoison (s : State) (k v ppa : Nat) : State :=
  let x := s.vatAt v
  match x.fetching.find? (fun p => p.1 / 64 = ppa / 64) with
  | some p => s.fetchTrap k v p.2
  | none => s

/-! ### The slots of a bundle -/

/-- R217: DELAY: 0 means 4096. -/
def bundleDelay (w : BitVec 256) : Nat := if bits w 11 0 = 0 then 4096 else bits w 11 0

/-- R217: slot `i` of a bundle: 0 matrix, 1 vector, 2 exponential and reduce, 3 and 4 stream, 5 control. -/
def bundleSlot (w : BitVec 256) (i : Nat) : Nat :=
  match i with
  | 0 => bits w 43 12
  | 1 => bits w 107 44
  | 2 => bits w 147 108
  | 3 => bits w 187 148
  | 4 => bits w 227 188
  | _ => bits w 255 228

/-- R218-R221, R223: OP of a slot. -/
def slotOp (i w : Nat) : Nat :=
  match i with
  | 1 => bitsAt w 5 0
  | 5 => bitsAt w 3 0
  | _ => bitsAt w 2 0

/-- R219, R224: fields of the vector slot that are reserved encodings. -/
def vecReserved (w : Nat) : Bool :=
  bitsAt w 5 0 > 20 || bitsAt w 31 30 = 3 || bitsAt w 33 32 ≥ 2 || bitsAt w 51 50 = 3 || bitsAt w 63 53 ≠ 0

/-- R221, R224: a stream slot that is a reserved encoding. -/
def streamReserved (w : Nat) : Bool :=
  let op := bitsAt w 2 0
  let e := bitsAt w 5 3
  op > 4 || e > 5 || bitsAt w 39 35 ≠ 0 || ((op = 1 || op = 3) && e > 3) || ((op = 2 || op = 4) && e < 4)

/-- R218-R224: a slot that is a reserved encoding. -/
def slotReserved (i w : Nat) : Bool :=
  match i with
  | 0 => bitsAt w 2 0 ≥ 4 || bitsAt w 31 21 ≠ 0
  | 1 => vecReserved w
  | 2 => bitsAt w 2 0 > 4 || bitsAt w 6 3 > 8 || bitsAt w 39 19 ≠ 0
  | 3 => streamReserved w
  | 4 => streamReserved w
  | _ => bitsAt w 3 0 > 9 || bitsAt w 27 22 ≠ 0

/-- The slots of a bundle that are not NOP. -/
def bundleActs (w : BitVec 256) : List Nat := (List.range 6).filter (fun i => slotOp i (bundleSlot w i) ≠ 0)

/-- R224: the first slot of a bundle that is a reserved encoding. -/
def bundleBad (w : BitVec 256) : Option Nat := (List.range 6).find? (fun i => slotReserved i (bundleSlot w i))

/-! ### Waits and the cycle of issue -/

/-- A queue of an engine. -/
def Vat.queue (x : Vat) (e : Nat) : List TileCmd := Tab.get x.engines e []

/-- R158, R161, R222: a bundle waits: for a token of either stream slot, or for room in the queue of an engine that its commands
name. -/
def Vat.waits (x : Vat) (w : BitVec 256) : Bool :=
  let ss := [bundleSlot w 3, bundleSlot w 4]
  ss.any (fun t => bitAt t 28 && !x.tokSet.contains (bitsAt t 34 29))
    || (List.range 6).any (fun e =>
      let n := (ss.filter (fun t => bitsAt t 2 0 ≠ 0 && bitsAt t 5 3 = e)).length
      n ≠ 0 && (x.queue e).length + n > 8)

/-- R161, R162: what the vat stalls on has not come: the bundle that issues next, or what that bundle waits for. -/
def Vat.blocked (x : Vat) : Bool :=
  match Tab.find? x.buffer x.next with
  | none => true
  | some w => x.waits w

/-- R217, R228: the cycle at which a bundle falls due, where its DELAY counts from a cycle or the vat stalls. -/
def Vat.dueCycle (x : Vat) (w : BitVec 256) : Option Nat :=
  match x.stall, x.base with
  | some c, some b => some (Nat.max c (Nat.max (b + bundleDelay w) x.hold))
  | some c, none => some c
  | none, some b => some (Nat.max (b + bundleDelay w) x.hold)
  | none, none => none

/-- R217, R231, R235: the time base has reached a time of a vat and a number of cycles after it. -/
def State.timeDue (s : State) (x : Vat) (n : Nat) : Bool := x.from_ * s.vatHz + n * 1000000000 < (s.now + 4) * s.vatHz

/-- R161: a bundle has fallen due by a cycle. -/
def State.due (s : State) (x : Vat) (w : BitVec 256) (cyc : Nat) : Bool :=
  (x.base.isSome || s.timeDue x (bundleDelay w))
    && (match x.dueCycle w with | some d => d ≤ cyc | none => x.firstCyc.isNone || x.lastCyc < cyc)

/-- R161: a bundle that is due issues at a cycle: that at which it falls due; later where the vat stalled, or where its DELAY
counts from a time. -/
def Vat.onTime (x : Vat) (w : BitVec 256) (cyc : Nat) : Bool := x.stall.isSome || x.base.isNone || x.dueCycle w = some cyc

/-- R161: a bundle of NOP slots passes: the next DELAY counts from the cycle (or the time) at which it issued. While the vat
stalls that is not known, and the next bundle issues no sooner than it could have. -/
def State.passNop (s : State) (v : Nat) (w : BitVec 256) : State :=
  s.modVat v (fun x =>
    let y : Vat := { x with bundle := x.next, next := x.next + 1 }
    match x.stall, x.dueCycle w with
    | some c, _ => { y with stall := some (c + ((Tab.find? x.buffer (x.next + 1)).map bundleDelay).getD 1), base := some c }
    | none, some d => { y with base := some d }
    | none, none => { y with from_ := x.from_ + bundleDelay w * 1000000000 / s.vatHz })

/-- R161: the bundles of NOP slots that have issued by a cycle, at most `n` of them; a stall on one begins. -/
def State.passNops (k v cyc : Nat) : Nat → State → State
  | 0, s => s
  | n + 1, s =>
    let x := s.vatAt v
    match Tab.find? x.buffer x.next with
    | none => s
    | some w =>
      if bundleActs w ≠ [] || (bundleBad w).isSome || !s.due x w cyc then s
      else if x.waits w then s.modVat v (fun x => { x with stall := some ((x.dueCycle w).getD cyc) })
      else State.passNops k v cyc n ((s.passNop v w).fetchAhead k v)

/-- R161, R533: a bundle issues at a cycle; the first is the invocation's start latch; the cycles of a stall that ends are
counted. -/
def State.beginBundle (s : State) (k v cyc : Nat) (w : BitVec 256) : State :=
  let x := s.vatAt v
  let n := match x.stall with | some c => cyc - c | none => 0
  let y := match x.firstCyc with
    | some _ => x
    | none => { x with firstCyc := some cyc, stepCyc := cyc, stepTime := s.now }
  let s1 := s.modVat v (fun _ => { y with
    lastCyc := cyc, bundle := x.next, next := x.next + 1, word := w, todo := bundleActs w, base := some cyc, hold := 0, stall := none,
    ports := x.ports.filter (fun p => cyc ≤ p.1), palReady := x.palReady.filter (fun p => cyc < p.2.2),
    stepCount := { y.stepCount with stall := y.stepCount.stall + n } })
  (if n = 0 then s1 else s1.light (lightStall v) n).fetchAhead k v

/-- R161, R222, R224: the issue stage of a vat at a cycle: where the bundle last issued has acted whole and the vat waits for
nothing, the next bundle issues, stalls, or is not due yet. A slot that is a reserved encoding traps. -/
def State.issue (s : State) (v cyc : Nat) : State :=
  match s.runningOn v with
  | none => s
  | some k =>
    if (s.vatAt v).wait ≠ .none || (s.vatAt v).todo ≠ [] then s
    else
      let s1 := State.passNops k v cyc 2048 s
      let x := s1.vatAt v
      match Tab.find? x.buffer x.next with
      | none =>
        if x.stall.isSome || x.base.any (fun b => cyc ≤ b) || (x.base.isNone && !s1.timeDue x 1) then s1
        else s1.modVat v (fun x => { x with stall := some cyc })
      | some w =>
        if !s1.due x w cyc then s1
        else if x.waits w then s1.modVat v (fun x => { x with stall := some ((x.dueCycle w).getD cyc) })
        else if !x.onTime w cyc then s1
        else
          match bundleBad w with
          | some i => (s1.beginBundle k v cyc w).encodingTrap k v x.next i
          | none => s1.beginBundle k v cyc w

/-- R161, R217: a command of operation `op` in one of some slots at a cycle: the context, the slot, its word and the state in
which it acts, once its bundle has issued at that cycle; none where the bundle names no such operation. -/
def State.slotReady (s : State) (v cyc : Nat) (slots : List Nat) (op : Nat) : Option (Nat × Nat × State) :=
  let s1 := s.issue v cyc
  let x := s1.vatAt v
  match s1.runningOn v with
  | none => none
  | some k =>
    if x.lastCyc ≠ cyc then none
    else
      match x.todo.find? (fun i => slots.contains i && slotOp i (bundleSlot x.word i) = op) with
      | some i => some (k, bundleSlot x.word i, s1.modVat v (fun x => { x with todo := x.todo.erase i }))
      | none => none

/-- R161: a slot acts: once, at the cycle at which its bundle issues. -/
def State.slotAct (s : State) (v cyc : Nat) (slots : List Nat) (op : Nat) (f : Nat → Nat → State → State) : State :=
  match s.slotReady v cyc slots op with
  | some q => f q.1 q.2.1 q.2.2
  | none => s.issue v cyc

/-! ### The palette -/

/-- R151: the palette's size. -/
def palSize : Nat := 0x300000

/-- R153: the palette words with flipped bits that a range of bytes touches. -/
def Vat.palFlips (x : Vat) (addr n : Nat) : List (Nat × Nat) :=
  if n = 0 then [] else x.palErr.filter (fun p => addr / 8 ≤ p.1 && p.1 ≤ (addr + n - 1) / 8 && p.2 ≠ 0)

/-- R153: ranges of the palette are read: corrected words are counted; the address of the first uncorrectable one. -/
def State.palCheck (s : State) (v : Nat) (ranges : List (Nat × Nat)) : Option Nat × State :=
  let hits := ranges.flatMap (fun r => (s.vatAt v).palFlips r.1 r.2)
  let ce := (hits.filter (fun p => p.2 = 1)).length
  ((hits.find? (fun p => p.2 ≠ 1)).map (fun p => 8 * p.1), if ce = 0 then s else s.bump 64 0x4030 1 ce)

/-- R153: bytes are written to the palette; a word that is written whole is sound again. -/
def Vat.palWrite (x : Vat) (addr : Nat) (bs : List (BitVec 8)) : Vat :=
  { x with
    palette := Mem.write x.palette addr bs,
    palErr := x.palErr.filter (fun p => !(addr ≤ 8 * p.1 && 8 * p.1 + 8 ≤ addr + bs.length)) }

end Machine
end Sys2Proof
end

