-- ==== Sys2Proof/Machine/Units.lean ====
section
/-! DEFINITION. The units of a vat (06, 07, 08): the palette's compute port, the matrix unit, the vector unit, and the
exponential and reduce unit. A command names the physical vat and the vat-clock cycle; its slot is that of the bundle that
issues there. -/

namespace Sys2Proof
namespace Machine

/-- The loop indices of a vat (R215, R227): 0 outside a loop. -/
def Vat.loopIdx (x : Vat) (l : Nat) : Nat := ((Tab.find? x.loops l).map (fun y => y.index)).getD 0

/-- Σ i_L × step L, the steps signed fields of `w` bits from bit `lo` of a descriptor. -/
def Vat.loopTerm (x : Vat) (d w lo : Nat) : Int :=
  ((List.range 4).map (fun l => (x.loopIdx l : Int) * signedOf w (bitsAt d (lo + w * l + w - 1) (lo + w * l)))).sum

/-- R151: a palette address from a base and terms: 22 bits. -/
def palAddr (base : Nat) (terms : Int) : Nat := twos 22 ((base : Int) + terms)

/-! ### The compute port -/

/-- An access through the compute port: its cycle, and the ranges of bytes that it reads or writes. -/
abbrev Access := Nat × List (Nat × Nat)

/-- R152: the bank lines that an access touches, each once. -/
def portLines (rs : List (Nat × Nat)) : List Nat :=
  (rs.flatMap (fun r => (List.range (if r.2 = 0 then 0 else (r.1 + r.2 - 1) / 128 - r.1 / 128 + 1)).map (fun i => r.1 / 128 + i))).eraseDups

/-- R151, R152, R165: accesses through the compute port: the port list, or the cause of a bundle fault: two accesses, or two
lines of one access, that reach one bank in one cycle. -/
def touchPort (ports : List (Nat × Nat)) : List Access → List (Nat × Nat) ⊕ Nat
  | [] => .inl ports
  | (c, rs) :: rest =>
    if rs.any (fun r => r.1 + r.2 > palSize) then .inr 3
    else
      let ls := portLines rs
      let banks := ls.map (fun l => l % 32)
      if banks.any (fun b => ports.any (fun p => p.1 = c && p.2 = b)) || banks.eraseDups.length ≠ banks.length then .inr 1
      else touchPort (banks.map (fun b => (c, b)) ++ ports) rest

/-- R225, R226: a palette range holds a vector result that is not yet readable. -/
def Vat.palEarly (x : Vat) (a n cyc : Nat) : Bool :=
  x.palReady.any (fun p => a < p.1 + p.2.1 && p.1 < a + n && cyc < p.2.2)

/-- Sticky flags raised on a vat (R202). -/
def State.raise (s : State) (v : Nat) (f : FFlags) : State :=
  s.modVat v (fun x => { x with
    overflow := x.overflow || f.overflow, invalid := x.invalid || f.invalid, nanDrop := x.nanDrop || f.nanDrop })

/-! ### The matrix unit -/

/-- R146, R147: the operands of one update: a of each column group, and b. -/
structure MmaUp where
  a : List (List FVal)
  b : List FVal
  deriving DecidableEq, Repr

/-- R195: products and accumulator summed exactly and rounded once. -/
def fpAccum (old : BitVec 32) (ps : List (FVal × FVal)) : BitVec 32 × FFlags :=
  roundF32 (ps.foldl (fun a p => a.add (p.1.mul p.2)) (f32 old)) (f32 old :: ps.flatMap (fun p => [p.1, p.2]))

/-- An integer value of an exact one (R195, R196). -/
def FVal.toInt : FVal → Int
  | .fin n m e => let i : Int := (m <<< e.toNat : Nat); if n then -i else i
  | _ => 0

/-- R195, R196: products join an INT32 accumulator and the sum saturates once. -/
def intAccum (old : BitVec 32) (ps : List (FVal × FVal)) : BitVec 32 × FFlags :=
  let z := ps.foldl (fun a p => a + p.1.toInt * p.2.toInt) old.toInt
  if z > 2 ^ 31 - 1 then (BitVec.ofNat 32 (2 ^ 31 - 1), ⟨true, false, false⟩)
  else if z < -(2 ^ 31) then (BitVec.ofNat 32 (2 ^ 31), ⟨true, false, false⟩)
  else (BitVec.ofInt 32 z, .none)

/-- R146, R147: the two factors that an update brings to a cell of group `g`, row `r`, column `c`. -/
def accTerm (g r c : Nat) (u : MmaUp) : FVal × FVal := ((u.a.getD g []).getD r default, u.b.getD c default)

/-- R195, R196: one accumulator cell through the updates; in pairs at an update rate of 2. -/
def accCell (int pairs : Bool) (g r c : Nat) : List MmaUp → BitVec 32 → BitVec 32 × FFlags
  | [], old => (old, .none)
  | [u], old => accum [accTerm g r c u] old
  | u :: w :: rest, old =>
    let p := if pairs then accum [accTerm g r c u, accTerm g r c w] old else accum [accTerm g r c u] old
    let q := if pairs then accCell int pairs g r c rest p.1 else accCell int pairs g r c (w :: rest) p.1
    (q.1, p.2.or q.2)
where
  accum (ps : List (FVal × FVal)) (old : BitVec 32) : BitVec 32 × FFlags := if int then intAccum old ps else fpAccum old ps

/-- 128 elements of a format at a palette address. -/
def Vat.operand (x : Vat) (fmt addr : Nat) : List FVal :=
  let bs := Mem.read x.palette addr (fmtBytes fmt 128)
  (List.range 128).map (fun i => elemValue fmt bs i)

/-- R226, R192: the enabled groups of a bank hold free values. -/
def State.freeBank (s : State) (v bank en : Nat) : State :=
  let r := s.takeWords 16384
  let old := Tab.block (s.vatAt v).acc (bank * 16384) 16384 0
  let new := (old.zip r.1).zipIdx.map (fun p => if bitAt en (p.2 % 128 / 32) then p.1.2 else p.1.1)
  r.2.modVat v (fun x => { x with acc := Tab.setBlock x.acc (bank * 16384) new })

/-- R146, R216, R218: an operand of a matrix operation: where each update reads it. -/
structure OperandAt where
  fmt  : Nat
  addr : Nat → Nat
  offs : List Nat

/-- R152, R193: the accesses of an operand over the updates: the updates of one cycle read it in one access (log entry 25). -/
def OperandAt.accesses (o : OperandAt) (cyc count halves : Nat) : List Access :=
  let one (u : Nat) (off : Nat) : Nat × Nat := (o.addr u + off, fmtBytes o.fmt 128)
  if halves = 1 then
    (List.range ((count + 1) / 2)).flatMap (fun i => o.offs.map (fun off =>
      (cyc + i, if 2 * i + 1 < count then [one (2 * i) off, one (2 * i + 1) off] else [one (2 * i) off])))
  else (List.range count).flatMap (fun u => o.offs.map (fun off => (cyc + u * halves / 2, [one u off])))

/-- R146-R148, R193-R197, R218, R225: MMA_CLEAR (`clear`) and MMA_ACC with a slot word and an operand descriptor. -/
def State.mma (s : State) (k v cyc : Nat) (clear : Bool) (w d : Nat) : State :=
  let x := s.vatAt v
  let bank := bitsAt w 3 3
  let split := bitAt w 4
  let en := bitsAt w 8 5
  let fa := bitsAt d 47 44
  let fb := bitsAt d 51 48
  let count := bitsAt d 60 52
  let groups := onesOf 4 en
  let halves := match updateHalves fa, updateHalves fb with
    | some p, some q => Nat.max p q
    | _, _ => 32
  let la := x.loopTerm d 20 96
  let lb := x.loopTerm d 20 176
  let a : OperandAt := {
    fmt := fa, addr := fun u => palAddr (bitsAt d 21 0) ((u : Int) * signedOf 16 (bitsAt d 79 64) + la),
    offs := if split then groups.map (fun g => 512 * g) else if groups.isEmpty then [] else [0] }
  let b : OperandAt := {
    fmt := fb, addr := fun u => palAddr (bitsAt d 43 22) ((u : Int) * signedOf 16 (bitsAt d 95 80) + lb),
    offs := if groups.isEmpty then [] else [0] }
  let accesses := a.accesses cyc count halves ++ b.accesses cyc count halves
  let ranges := accesses.flatMap (fun p => p.2)
  match touchPort x.ports accesses with
  | .inr cause => s.bundleFault k v x.bundle cause
  | .inl ports =>
    if x.drain.any (fun q => q.bank = bank && cyc < q.cycle + 64) then s.bundleFault k v x.bundle 2
    else
      let c := s.palCheck v ranges
      match c.1 with
      | some addr => c.2.paletteUe k v addr
      | none =>
        let int := isIntFmt fa && isIntFmt fb
        let s1 := c.2.modVat v (fun x => { x with
          ports := ports, matBusy := cyc + ceilDiv (count * halves) 2,
          accReady := Tab.set x.accReady bank (cyc + (count - 1) * halves / 2 + 6),
          accInt := if groups.isEmpty then x.accInt else if int then addNew x.accInt bank else x.accInt.erase bank,
          stepCount := { x.stepCount with mma := x.stepCount.mma + count } })
        if cyc < x.matBusy || fa = 13 || fb = 13 || accesses.any (fun p => p.2.any (fun r => x.palEarly r.1 r.2 p.1)) then
          s1.freeBank v bank en
        else
          let ups : List MmaUp := (List.range count).map (fun u =>
            let one := if split then [] else x.operand fa (a.addr u)
            { a := (List.range 4).map (fun g => if split then (if bitAt en g then x.operand fa (a.addr u + 512 * g) else []) else one),
              b := x.operand fb (b.addr u) })
          let old := Tab.block x.acc (bank * 16384) 16384 0
          let cells := old.zipIdx.map (fun p =>
            let c := p.2 % 128
            if bitAt en (c / 32) then accCell int (halves = 1) (c / 32) (p.2 / 128) c ups (if clear then 0 else p.1) else (p.1, .none))
          let fl := cells.foldl (fun (a : FFlags) p => a.or p.2) .none
          (s1.modVat v (fun x => { x with acc := Tab.setBlock x.acc (bank * 16384) (cells.map (fun p => p.1)) })).raise v fl

/-- R216, R224: the operand descriptor that a matrix slot names. -/
def State.withOperand (s : State) (k v w : Nat) (f : Nat → State → State) : State :=
  let b := (s.vatAt v).bundle
  let r := s.sectionEntry k 4 (bitsAt w 20 9) 32
  if r.1.2 then r.2.fetchTrap k v b
  else if bitsAt r.1.1 63 61 ≠ 0 then r.2.encodingTrap k v b 0
  else f r.1.1 r.2

/-- R218: an MMA of operation `op`. -/
def State.mmaSlot (s : State) (v cyc op : Nat) : State :=
  s.slotAct v cyc [0] op (fun k w s => s.withOperand k v w (fun d s => s.mma k v cyc (op = 1) w d))

/-- R218: MMA_CLEAR. -/
def execMmaClear (v : Fin 34) (cyc : Nat) (s : State) : Res := ok (s.mmaSlot v.val cyc 1)

/-- R218: MMA_ACC. -/
def execMmaAcc (v : Fin 34) (cyc : Nat) (s : State) : Res := ok (s.mmaSlot v.val cyc 2)

/-- R148, R197, R225: DRAIN: the bank's values, in the type of its last writer, to the vector unit from 4 cycles on; values
that the manual leaves undefined where the bank is not readable yet or another drain runs. -/
def State.drainBank (s : State) (v cyc w : Nat) : State :=
  s.modVat v (fun x =>
    let bank := bitsAt w 3 3
    let bad := cyc < Tab.get x.accReady bank 0 || x.drain.any (fun q => cyc < q.cycle + 64)
    let cells := if bad then none else some (Tab.block x.acc (bank * 16384) 16384 0)
    { x with drain := some { bank := bank, cycle := cyc, int := x.accInt.contains bank, cells := cells } })

/-- R218: DRAIN. -/
def execDrain (v : Fin 34) (cyc : Nat) (s : State) : Res := ok (s.slotAct v.val cyc [0] 3 (fun _ w s => s.drainBank v.val cyc w))

/-! ### The vector unit -/

/-- 256 lanes, and whether they are INT32. -/
structure Lanes where
  xs  : List (BitVec 32)
  int : Bool
  deriving DecidableEq, Repr

/-- R225, R226: a register's lanes; free values before its latency has passed. -/
def State.readReg (s : State) (v r cyc : Nat) : Lanes × State :=
  let x := s.vatAt v
  if cyc < Tab.get x.ready r 0 then let q := s.takeWords 256; (⟨q.1, x.regInt.contains r⟩, q.2)
  else (⟨Tab.block x.vregs (r * 256) 256 0, x.regInt.contains r⟩, s)

/-- R225: a result enters a register, usable `lat` cycles on. -/
def State.writeReg (s : State) (v r cyc lat : Nat) (l : Lanes) : State :=
  s.modVat v (fun x => { x with
    vregs := Tab.setBlock x.vregs (r * 256) l.xs, ready := Tab.set x.ready r (cyc + lat),
    regInt := if l.int then addNew x.regInt r else x.regInt.erase r })

/-- R192, R200, R202, R219: a palette source, converted from its format, with the flags that the conversion raises; free values
before its latency has passed, and for an operation that does not take the format. -/
def State.readPal (s : State) (v op fmt addr cyc : Nat) : Lanes × State :=
  let x := s.vatAt v
  let n := fmtBytes fmt 256
  if x.palEarly addr n cyc || (isBlock fmt && op ≠ 18) then let q := s.takeWords 256; (⟨q.1, isIntFmt fmt⟩, q.2)
  else
    let bs := Mem.read x.palette addr n
    let r := (List.range 256).map (fun i => elemLane fmt bs i)
    (⟨r.map (fun p => p.1), isIntFmt fmt⟩, s.raise v (r.foldl (fun (a : FFlags) p => a.or p.2) .none))

/-- R219, R225: the drain of this cycle; free values where none delivers. -/
def State.readDrain (s : State) (v cyc : Nat) : Lanes × State :=
  let free (int : Bool) := let q := s.takeWords 256; ((⟨q.1, int⟩ : Lanes), q.2)
  match (s.vatAt v).drain with
  | some q =>
    if q.cycle + 4 ≤ cyc && cyc < q.cycle + 68 then
      match q.cells with
      | some cs => (⟨(cs.drop (256 * (cyc - q.cycle - 4))).take 256, q.int⟩, s)
      | none => free q.int
    else free false
  | none => free false

/-- The generators of a vat (R199). -/
def Vat.genList (x : Vat) : List (BitVec 32) := (List.range 256).map (fun i => Tab.get x.gens i (BitVec.ofNat 32 (i + 1)))

/-- R192, R199, R200, R219: a result enters the palette in a format; stochastic rounding takes one draw per lane. Free bytes for
an operation that does not take the format: a block-scaled one takes FP32 by MOV alone (log entry 177). -/
def State.writePal (s : State) (v op fmt addr cyc mode : Nat) (sat : Bool) (l : Lanes) : State :=
  let x := s.vatAt v
  let gs := if mode = 2 then x.genList.map genStep else x.genList
  let us := gs.map (fun g => bits g 15 0)
  let r := if isBlock fmt && (op ≠ 18 || l.int) then (let q := s.takeBytes (fmtBytes fmt 256); (q.1, FFlags.none, q.2))
    else (let q := lanesToBytes fmt l.int l.xs mode sat us; (q.1, q.2, s))
  (r.2.2.modVat v (fun x => { x.palWrite addr r.1 with
    gens := if mode = 2 then Tab.setBlock x.gens 0 gs else x.gens,
    palReady := (addr, r.1.length, cyc + 4) :: x.palReady })).raise v r.2.1

/-- A lane operation over lanes, with the flags of all. -/
def laneMap (f : BitVec 32 → BitVec 32 → BitVec 32 → BitVec 32 × FFlags) (a b c : List (BitVec 32)) : List (BitVec 32) × FFlags :=
  let r := (a.zip (b.zip c)).map (fun p => f p.1 p.2.1 p.2.2)
  (r.map (fun p => p.1), r.foldl (fun (x : FFlags) p => x.or p.2) .none)

/-- A truth value as a lane. -/
def maskOf (p : Bool) : BitVec 32 := if p then BitVec.allOnes 32 else 0

/-- R185, R219: the operations of the vector slot that act lane by lane, by number; IADD on. -/
def laneOp (op : Nat) (a b c : BitVec 32) : BitVec 32 × FFlags :=
  match op with
  | 1 => fAdd a b
  | 2 => fSub a b
  | 3 => fMul a b
  | 4 => fFma a b c
  | 5 => (fMinMax false a b, .none)
  | 6 => (fMinMax true a b, .none)
  | 7 => (maskOf (FVal.lt (f32 a) (f32 b)), .none)
  | 8 => (maskOf (FVal.eqv (f32 a) (f32 b)), .none)
  | 9 => (if c ≠ 0 then a else b, .none)
  | 10 => (a + b, .none)
  | 11 => (a - b, .none)
  | 12 => (a * b, .none)
  | 13 => (a &&& b, .none)
  | 14 => (a ||| b, .none)
  | 15 => (a ^^^ b, .none)
  | 16 => (a <<< (b.toNat % 32), .none)
  | 17 => (a.sshiftRight (b.toNat % 32), .none)
  | _ => (a, .none)

/-- R219: the result of an operation on its sources, with the flags raised; SEED gives none. -/
def vecResult (op : Nat) (a b c : Lanes) : Lanes × FFlags :=
  if op = 20 then (⟨List.replicate 256 (a.xs.getD ((b.xs.getD 0 0).toNat % 256) 0), a.int⟩, .none)
  else
    let r := laneMap (laneOp op) a.xs b.xs c.xs
    let int := if op = 9 || op = 18 || op = 19 then a.int else 7 ≤ op
    (⟨r.1, int⟩, r.2)

/-- R219: the sources of a vector slot: SRC1 by its kind, SRC2, SRC3. -/
def State.vecSources (s : State) (v cyc op w addr : Nat) : (Lanes × Lanes × Lanes) × State :=
  let a := match bitsAt w 31 30 with
    | 0 => s.readReg v (bitsAt w 17 12) cyc
    | 1 => s.readPal v op (bitsAt w 49 46) addr cyc
    | _ => s.readDrain v cyc
  let b := a.2.readReg v (bitsAt w 23 18) cyc
  let c := b.2.readReg v (bitsAt w 29 24) cyc
  ((a.1, b.1, c.1), c.2)

/-- R199, R219: a vector operation with its palette address: the result enters the register or the palette; SEED loads the
generators, 0 as 1. -/
def State.vecRun (s : State) (v cyc op w addr : Nat) : State :=
  let q := s.vecSources v cyc op w addr
  if op = 19 then q.2.modVat v (fun x => { x with gens := Tab.setBlock x.gens 0 (q.1.1.xs.map (fun g => if g = 0 then 1 else g)) })
  else
    let r := vecResult op q.1.1 q.1.2.1 q.1.2.2
    let s1 := q.2.raise v r.2
    if bitsAt w 33 32 = 0 then s1.writeReg v (bitsAt w 11 6) cyc 4 r.1
    else s1.writePal v op (bitsAt w 49 46) addr cyc (bitsAt w 51 50) (bitAt w 52) r.1

/-- R219: the slot takes SRC1 from the palette. -/
def vecFromPal (w : Nat) : Bool := bitsAt w 31 30 = 1

/-- R219: the slot writes its result to the palette. -/
def vecToPal (op w : Nat) : Bool := bitsAt w 33 32 = 1 && op ≠ 19

/-- R151-R153, R219, R224: a vector slot of operation `op` acts: with a palette address where its source or its result is
there. -/
def State.vecAct (s : State) (k v cyc op w : Nat) : State :=
  let src := vecFromPal w
  let dst := vecToPal op w
  if !src && !dst then s.vecRun v cyc op w 0
  else
    let b := (s.vatAt v).bundle
    let r := s.sectionEntry k 5 (bitsAt w 45 34) 16
    let d := r.1.1
    if r.1.2 then r.2.fetchTrap k v b
    else if bitsAt d 31 22 ≠ 0 then r.2.encodingTrap k v b 1
    else
      let x := r.2.vatAt v
      let addr := palAddr (bitsAt d 21 0) (x.loopTerm d 24 32)
      let n := fmtBytes (bitsAt w 49 46) 256
      match touchPort x.ports ((if src then [(cyc, [(addr, n)])] else []) ++ (if dst then [(cyc + 4, [(addr, n)])] else [])) with
      | .inr cause => r.2.bundleFault k v b cause
      | .inl ports =>
        let c := r.2.palCheck v (if src then [(addr, n)] else [])
        match c.1 with
        | some a => c.2.paletteUe k v a
        | none => (c.2.modVat v (fun x => { x with ports := ports })).vecRun v cyc op w addr

/-- R219: a vector slot of operation `op`. -/
def State.vectorSlot (s : State) (v cyc op : Nat) : State := s.slotAct v cyc [1] op (fun k w s => s.vecAct k v cyc op w)

/-- R219: FADD. -/
def execFadd (v : Fin 34) (cyc : Nat) (s : State) : Res := ok (s.vectorSlot v.val cyc 1)

/-- R219: FSUB. -/
def execFsub (v : Fin 34) (cyc : Nat) (s : State) : Res := ok (s.vectorSlot v.val cyc 2)

/-- R219: FMUL. -/
def execFmul (v : Fin 34) (cyc : Nat) (s : State) : Res := ok (s.vectorSlot v.val cyc 3)

/-- R219: FFMA. -/
def execFfma (v : Fin 34) (cyc : Nat) (s : State) : Res := ok (s.vectorSlot v.val cyc 4)

/-- R219: FMIN. -/
def execFmin (v : Fin 34) (cyc : Nat) (s : State) : Res := ok (s.vectorSlot v.val cyc 5)

/-- R219: FMAX. -/
def execFmax (v : Fin 34) (cyc : Nat) (s : State) : Res := ok (s.vectorSlot v.val cyc 6)

/-- R219: FCMPLT. -/
def execFcmplt (v : Fin 34) (cyc : Nat) (s : State) : Res := ok (s.vectorSlot v.val cyc 7)

/-- R219: FCMPEQ. -/
def execFcmpeq (v : Fin 34) (cyc : Nat) (s : State) : Res := ok (s.vectorSlot v.val cyc 8)

/-- R219: SELECT. -/
def execSelectV (v : Fin 34) (cyc : Nat) (s : State) : Res := ok (s.vectorSlot v.val cyc 9)

/-- R219: IADD. -/
def execIadd (v : Fin 34) (cyc : Nat) (s : State) : Res := ok (s.vectorSlot v.val cyc 10)

/-- R219: ISUB. -/
def execIsub (v : Fin 34) (cyc : Nat) (s : State) : Res := ok (s.vectorSlot v.val cyc 11)

/-- R219: IMUL. -/
def execImul (v : Fin 34) (cyc : Nat) (s : State) : Res := ok (s.vectorSlot v.val cyc 12)

/-- R219: AND. -/
def execAndV (v : Fin 34) (cyc : Nat) (s : State) : Res := ok (s.vectorSlot v.val cyc 13)

/-- R219: OR. -/
def execOrV (v : Fin 34) (cyc : Nat) (s : State) : Res := ok (s.vectorSlot v.val cyc 14)

/-- R219: XOR. -/
def execXorV (v : Fin 34) (cyc : Nat) (s : State) : Res := ok (s.vectorSlot v.val cyc 15)

/-- R219: SHL. -/
def execShl (v : Fin 34) (cyc : Nat) (s : State) : Res := ok (s.vectorSlot v.val cyc 16)

/-- R219: SHR. -/
def execShr (v : Fin 34) (cyc : Nat) (s : State) : Res := ok (s.vectorSlot v.val cyc 17)

/-- R219: MOV. -/
def execMov (v : Fin 34) (cyc : Nat) (s : State) : Res := ok (s.vectorSlot v.val cyc 18)

/-- R219: SEED. -/
def execSeed (v : Fin 34) (cyc : Nat) (s : State) : Res := ok (s.vectorSlot v.val cyc 19)

/-- R219: BCAST. -/
def execBcast (v : Fin 34) (cyc : Nat) (s : State) : Res := ok (s.vectorSlot v.val cyc 20)

/-! ### The exponential and reduce unit -/

/-- R192: a register as the exponential and reduce unit takes it: FP32; free values where it holds INT32 (log entry 177). -/
def State.readExp (s : State) (v r cyc : Nat) : List (BitVec 32) × State :=
  let q := s.readReg v r cyc
  if q.1.int then q.2.takeWords 256 else (q.1.xs, q.2)

/-- R220: the exponential and reduce slot, operation `op`, with what it makes of the segments' exponent and the source lanes. -/
def State.expSlot (s : State) (v cyc op lat : Nat) (f : Nat → List (BitVec 32) → List (BitVec 32) × FFlags) : State :=
  s.slotAct v cyc [2] op (fun _ w s =>
    let q := s.readExp v (bitsAt w 12 7) cyc
    let r := f (bitsAt w 6 3) q.1
    let s1 := (q.2.raise v r.2).writeReg v (bitsAt w 18 13) cyc lat ⟨r.1, false⟩
    s1.modVat v (fun x => { x with stepCount := { x.stepCount with exps := x.stepCount.exps + (if op = 1 then 256 else 0) } }))

/-- The flags of a list of results, and the results. -/
def withFlags (r : List (BitVec 32 × FFlags)) : List (BitVec 32) × FFlags :=
  (r.map (fun p => p.1), r.foldl (fun (a : FFlags) p => a.or p.2) .none)

/-- R150: EXP2: 2^x of every lane. -/
def execExp2 (v : Fin 34) (cyc : Nat) (s : State) : Res :=
  ok (s.expSlot v.val cyc 1 8 (fun _ xs => withFlags (xs.map fExp2)))

/-- The segments of 256 lanes, 2^n of them (R150). -/
def segments (n : Nat) (xs : List (BitVec 32)) : List (List (BitVec 32)) :=
  (List.range (2 ^ n)).map (fun i => (xs.drop (i * (256 / 2 ^ n))).take (256 / 2 ^ n))

/-- R150: minimum or maximum of a segment. -/
def segMinMax (max : Bool) : List (BitVec 32) → BitVec 32
  | [] => 0
  | x :: rest => rest.foldl (fMinMax max) x

/-- R220: segment results in the first lanes, +0 in the others. -/
def segLanes (rs : List (BitVec 32)) : List (BitVec 32) := rs ++ List.replicate (256 - rs.length) 0

/-- R150, R220: RMAX: segment s to lane s, the other lanes +0. -/
def execRmax (v : Fin 34) (cyc : Nat) (s : State) : Res :=
  ok (s.expSlot v.val cyc 2 10 (fun n xs => (segLanes ((segments n xs).map (segMinMax true)), .none)))

/-- R150, R220: RMIN. -/
def execRmin (v : Fin 34) (cyc : Nat) (s : State) : Res :=
  ok (s.expSlot v.val cyc 3 10 (fun n xs => (segLanes ((segments n xs).map (segMinMax false)), .none)))

/-- R150, R220: RSUM: the sum of each segment in the unit's fixed tree order. -/
def execRsum (v : Fin 34) (cyc : Nat) (s : State) : Res :=
  ok (s.expSlot v.val cyc 4 10 (fun n xs =>
    let r := withFlags ((segments n xs).map (fun g => treeSum g (sumOrder (8 - n))))
    (segLanes r.1, r.2)))

end Machine
end Sys2Proof
end

