-- ==== Sys2Proof/Machine/Translation.lean ====
section
/-! DEFINITION. Vat address translation (10): mirror walks, the L2 TLB and its pins, ATS, invalidations, and the
pending-translation table; and the host decoders that an ATS answer goes through (02). -/

namespace Sys2Proof
namespace Machine

/-! ### Decoders -/

/-- R35: fields of a GFD or HDM decoder of 256 bits. -/
def decBase (v : BitVec 256) : Nat := bits v 63 0
def decSize (v : BitVec 256) : Nat := bits v 127 64
def decDpa (v : BitVec 256) : Nat := bits v 173 128
def decOn (v : BitVec 256) : Bool := bit v 192
def decWays (v : BitVec 256) : Nat := bits v 207 200
def decGran (v : BitVec 256) : Nat := 2 ^ (bits v 211 208 + 8)

/-- R35: the DPA of an HPA by a decoder: DPA_BASE plus the offset with the interleave bits removed. -/
def decodeWith (v : BitVec 256) (hpa : Nat) : Option Nat :=
  if decOn v && decBase v ≤ hpa && hpa < decBase v + decSize v then
    let off := hpa - decBase v
    some (decDpa v + off / decGran v / decWays v * decGran v + off % decGran v)
  else none

/-- R35: the DPA of an HPA by the 64 GFD decoders. -/
def State.decodeGfd (s : State) (hpa : Nat) : Option Nat :=
  (List.range 64).findSome? (fun d => decodeWith (Tab.get s.host.gfd d 0) hpa)

/-- R35: the interleave ways and granularities that the device supports. -/
def decWaysOk (v : BitVec 256) : Bool := ([1, 2, 3, 4, 6, 8, 12, 16] : List Nat).contains (decWays v) && bits v 211 208 ≤ 6

/-- R37: the DPA offset of an HPA by the two HDM decoders of logical device `f`. DESIGN CHOICE: one set to ways or a granularity
that the device does not support decodes nothing (log entry 163). -/
def State.decodeHdm (s : State) (f hpa : Nat) : Option Nat :=
  (List.range 2).findSome? (fun d =>
    let v := Tab.get (s.funcAt f).hdm d 0
    if decWaysOk v then decodeWith v hpa else none)

/-- R37: the DPA of a logical device's offset in its tenant's partition; none beyond the partition. -/
def State.ldDpa (s : State) (f off : Nat) : Option Nat :=
  let t := s.par 0x5040 (f + 1)
  if t < 256 && off < (s.tenantAt t).size.toNat then some ((s.tenantAt t).base.toNat + off) else none

/-! ### Mirror walks -/

/-- R284: how a walk ends. -/
inductive Walk where
  | leaf (shift ppa : Nat) (read write : Bool)
  | ask (read write : Bool)
  | unmapped (shift : Nat)
  | bad (shift : Nat)
  deriving DecidableEq, Repr

/-- The shift of a level's index. -/
def levelShift (level : Nat) : Nat := match level with | 0 => 39 | 1 => 30 | 2 => 21 | _ => 12

/-- R283: a mirror table's bytes lie in the HDM-H part of a tenant. -/
def State.inHdmH (s : State) (t dpa n : Nat) : Bool :=
  let x := s.tenantAt t
  x.state ≠ 0 && x.base.toNat + x.dbSize.toNat ≤ dpa && dpa + n ≤ x.base.toNat + x.size.toNat

/-- R12, R283: a VALID entry of a level that keeps the layout; reserved bits are ignored. -/
def mirrorOk (level e : Nat) : Bool :=
  let leaf := bitAt e 1
  !bitAt e 4
    && (if level = 0 then !leaf else if level = 3 then leaf else true)
    && (if leaf then (if level = 1 then bitsAt e 29 12 = 0 else if level = 2 then bitsAt e 20 12 = 0 else true)
        else bitsAt e 51 46 = 0)

/-- R284: an entry of a mirror table: as the walk cache holds it, or as memory does; whether the read is poisoned. -/
def State.readMirror (s : State) (k at_ : Nat) : (Nat × Bool) × State :=
  match s.tlb.walks.find? (fun p => p.1 = (k, at_)) with
  | some p => ((p.2, false), s)
  | none =>
    let rd := s.readBytes at_ 8
    ((leNat rd.1.1, rd.1.2), rd.2)

/-- R284: a walk of context `k` from a table of a level, `n` levels left, with the rights met so far; the non-leaf entries that it
went through. -/
def State.walkFrom (k va : Nat) : Nat → Nat → Nat → Bool → Bool → List (Nat × Nat) → State → (Walk × List (Nat × Nat)) × State
  | 0, level, _, _, _, seen, s => ((.bad (levelShift level), seen), s)
  | n + 1, level, table, r, w, seen, s =>
    let sh := levelShift level
    let idx := (va >>> sh) % (if level = 0 then 2 ^ 17 else 512)
    let at_ := table + 8 * idx
    let top := Nat.min sh 30
    if !s.inHdmH (s.ctxTenant k) at_ 8 || table % 4096 ≠ 0 then ((.bad top, seen), s)
    else
      let rd := s.readMirror k at_
      let e := rd.1.1
      if rd.1.2 then ((.bad top, seen), rd.2)
      else if !bitAt e 0 then
        if bitAt e 4 then ((.ask (r && bitAt e 2) (w && bitAt e 3), seen), rd.2) else ((.unmapped top, seen), rd.2)
      else if !mirrorOk level e then ((.bad top, seen), rd.2)
      else if bitAt e 1 then ((.leaf sh (bitsAt e 51 12 * 4096) (r && bitAt e 2) (w && bitAt e 3), seen), rd.2)
      else State.walkFrom k va n (level + 1) (bitsAt e 45 12 * 4096) (r && bitAt e 2) (w && bitAt e 3) ((at_, e) :: seen) rd.2

/-- R284: the walk of a VA of a context from MIRROR_ROOT. -/
def State.walk (s : State) (k va : Nat) : (Walk × List (Nat × Nat)) × State :=
  State.walkFrom k va 4 0 (bits (s.ctxAt k).entry 237 192) true true [] s

/-! ### The L2 TLB -/

/-- R288: the L2 set of a translation. -/
def l2Set (k va shift : Nat) : Nat :=
  let vpn := va >>> shift
  let z := if shift = 12 then 0 else if shift = 21 then 1 else 2
  ((bitsAt vpn 10 0) ^^^ (bitsAt vpn 21 11) ^^^ (bitsAt vpn 32 22) ^^^ (bitsAt vpn 43 33) ^^^ (k * 2) ^^^ z) % 2048

/-- The set that an entry lies in. -/
def L2Entry.set (e : L2Entry) : Nat := l2Set e.ctx (e.page <<< e.shift) e.shift

/-- R296: the entry lies in the L2 TLB: a pin that is INVALIDATED leaves it when no tile runs on it any more. -/
def L2Entry.lies (e : L2Entry) : Bool := !e.invalid || 0 < e.running

/-- OD 0x4100:01. -/
def State.l2Locked (s : State) : Nat := (s.tlb.l2.filter (fun e => e.locked && e.lies)).length

/-- R288: what a set answers to an entry: it is held, the footprint alone overflows the set, or other plans hold the ways. -/
inductive PinResult where
  | held
  | overflow
  | busy
  deriving DecidableEq, Repr

/-- R288: an entry enters its set, in place of an older one of its page, an empty way, or the least recently used unlocked
entry. -/
def State.install (s : State) (e : L2Entry) : PinResult × State :=
  let others := s.tlb.l2.filter (fun x => !(x.ctx = e.ctx && x.page = e.page && x.shift = e.shift))
  let set := others.filter (fun x => L2Entry.set x = L2Entry.set e && x.lies)
  let put (l : List L2Entry) : State :=
    { s with tlb := { s.tlb with l2 := { e with used := s.tlb.age } :: l, age := s.tlb.age + 1 } }
  if set.length < 8 then (.held, put others)
  else
    match set.filter (fun x => !x.locked) with
    | [] => (if set.all (fun x => x.ctx = e.ctx) then .overflow else .busy, s)
    | x :: xs =>
      let v := xs.foldl (fun (m : L2Entry) y => if y.used < m.used then y else m) x
      (.held, put (others.erase v))

/-- R288: the retained entry of a context that covers a VA. -/
def State.retained (s : State) (k va : Nat) : Option L2Entry :=
  s.tlb.l2.find? (fun e => e.ctx = k && !e.locked && va >>> e.shift = e.page)

/-- R288: the end of a context's pins: its entries stay as retained ones; those ABSENT or INVALIDATED go. -/
def State.unpin (s : State) (k : Nat) : State :=
  let l2 := (s.tlb.l2.filter (fun e => !(e.ctx = k && e.locked && (e.absent.isSome || e.invalid)))).map (fun e =>
    if e.ctx = k && e.locked then { e with locked := false } else e)
  let s1 := { s with tlb := { s.tlb with
    l2 := l2, fetches := s.tlb.fetches.filter (fun f => f.ctx ≠ k), ptt := s.tlb.ptt.filter (fun p => p.ctx ≠ k) } }
  s1.modCtx k (fun x => { x with prints := [] })

/-- The footprint range of a running or resident plan that covers a VA. -/
def State.printFor (s : State) (k va : Nat) : Option Footprint :=
  (s.ctxAt k).prints.find? (fun p => p.base ≤ va && va < p.base + p.size)

/-- The first VA from `va` below `top` that no good pin covers; a pin that is INVALIDATED counts as none. -/
def State.firstGap (s : State) (k top : Nat) : Nat → Nat → Option Nat
  | 0, va => if va < top then some va else none
  | n + 1, va =>
    if top ≤ va then none
    else
      match s.pinFor k va with
      | some e => if e.invalid then some va else State.firstGap s k top n ((e.page + 1) <<< e.shift)
      | none => some va

/-- R287, R297: the VAs at which the pins of a context are still to be fetched, one per footprint range. -/
def State.gaps (s : State) (k : Nat) : List Nat :=
  (s.ctxAt k).prints.filterMap (fun p => s.firstGap k (p.base + p.size) 16385 p.base)

/-- R287: every page of the footprint is pinned. -/
def State.pinned (s : State) (k : Nat) : Bool := (s.gaps k).isEmpty

/-- R287, R300: a walk of a VA is begun; of the fetches listed, those beyond the sixteenth wait for a walker. -/
def State.startFetch (s : State) (k va : Nat) : State :=
  let p := s.printFor k va
  let f : Fetch := {
    ctx := k, va := va / 4096 * 4096, ats := false, stale := false, read := (p.map (fun p => p.read)).getD true,
    write := (p.map (fun p => p.write)).getD false }
  if s.tlb.fetches.any (fun g => g.ctx = k && g.va = f.va) then s
  else { s with tlb := { s.tlb with fetches := s.tlb.fetches ++ [f] } }

/-- R287, step 2: retained entries of the context are pinned where they cover the next page of a range, at most `n` times;
then walks are begun. -/
def State.pinMore (k : Nat) : Nat → State → PinResult × State
  | 0, s => (.held, (s.gaps k).foldl (fun s va => s.startFetch k va) s)
  | n + 1, s =>
    match (s.gaps k).findSome? (fun va => s.retained k va) with
    | some e =>
      let r := s.install { e with locked := true }
      if r.1 = .held then State.pinMore k n r.2 else r
    | none => (.held, (s.gaps k).foldl (fun s va => s.startFetch k va) s)

/-- The VA at which a pin begins. -/
def L2Entry.baseVa (e : L2Entry) : Nat := e.page <<< e.shift

/-- The PPAs (first, after last) that a pin gives to a footprint range; none where they do not meet. -/
def pinRange (l : L2Entry) (f : Footprint) : Option (Nat × Nat) :=
  let lo := Nat.max l.baseVa f.base
  let hi := Nat.min (l.baseVa + 2 ^ l.shift) (f.base + f.size)
  if lo < hi then some (l.ppa + (lo - l.baseVa), l.ppa + (hi - l.baseVa)) else none

/-- R214, R287, R348: the DPA extents (first, last) that a context's plan has pinned here for writing; `bare`: where not
ARMOURED. -/
def State.writeExtents (s : State) (k : Nat) (bare : Bool) : List (Nat × Nat) :=
  (s.tlb.l2.filter (fun l => l.ctx = k && l.locked && l.absent.isNone && s.isLocal l.ppa)).flatMap (fun l =>
    (s.ctxAt k).prints.filterMap (fun f =>
      if f.write && !(bare && f.armoured) then
        (pinRange l f).map (fun r => (ppaDpa r.1 / 2 ^ 21, ppaDpa (r.2 - 1) / 2 ^ 21))
      else none))

/-- R300: the entry of the pending-translation table for a page is freed; the faults that wait on it keep its mask, and
learn whether the fetch succeeded. -/
def State.freePtt (s : State) (k base : Nat) (good : Bool) : State :=
  match s.tlb.ptt.find? (fun p => p.ctx = k && p.page = base) with
  | none => s
  | some p =>
    let s1 := { s with tlb := { s.tlb with ptt := s.tlb.ptt.erase p } }
    s1.modCtx k (fun x => { x with
      faults := x.faults.map (fun f => if f.page = base && f.kind = 0x0803 then { f with pttMask := p.mask, resolved := good } else f) })

/-- R287, R300: a fetch has ended: its result is pinned in place. -/
def State.endFetch (s : State) (f : Fetch) (e : L2Entry) : PinResult × State :=
  let kept := s.tlb.l2.filter (fun x =>
    !(x.ctx = f.ctx && x.locked && (x.invalid || x.absent.isSome) && f.va >>> x.shift = x.page))
  let old := (s.pinFor f.ctx f.va).map L2Entry.baseVa
  let s1 := { s with tlb := { s.tlb with fetches := s.tlb.fetches.erase f, l2 := kept } }
  let r := s1.install e
  let good := e.absent.isNone
  let s2 := r.2.freePtt f.ctx f.va good
  (r.1, match old with | some b => s2.freePtt f.ctx b good | none => s2)

/-- A pin of context `k` at a VA. -/
def mkPin (k va shift ppa : Nat) (read write : Bool) (absent : Option Nat) : L2Entry :=
  { ctx := k, page := va >>> shift, shift := shift, ppa := ppa, read := read, write := write, locked := true,
    absent := absent, invalid := false, running := 0, used := 0 }

/-- R293: ATS requests may be sent for a context: ATS_ENABLE in its binding, and the function's ATS enable. -/
def State.atsOn (s : State) (k : Nat) : Bool := bit (s.ctxAt k).binding 0 && (s.funcAt (s.ctxFunction k)).ats

/-- R293: a Translation Request for the page of a fetch. -/
def State.askHost (s : State) (f : Fetch) : State :=
  let b := (s.ctxAt f.ctx).binding
  let pasid := if bit b 7 then some (bits b 27 8) else none
  ((s.emit (.atsRequest (Fin.ofNat 4 (bits b 2 1)) pasid f.va (!f.write) (bit b 28))).bump 64 0x4100 4)

/-- R284, R293, R298: the walk of a fetch ends: a stale one is issued again; a leaf or a failure is pinned; ASK_HOST asks the
host. -/
def State.walkDone (s : State) (f : Fetch) : PinResult × State :=
  let swap (s : State) (g : Fetch) : State := { s with tlb := { s.tlb with fetches := s.tlb.fetches.map (fun h => if h = f then g else h) } }
  let s0 := s.bump 64 0x4100 3
  if f.stale then (.held, swap s0 { f with stale := false })
  else
    let r := s0.walk f.ctx f.va
    let fresh := (r.1.2.map (fun d => ((f.ctx, d.1), d.2))).filter (fun p => !r.2.tlb.walks.contains p)
    let s1 := { r.2 with tlb := { r.2.tlb with walks := (fresh ++ r.2.tlb.walks).take 256 } }
    match r.1.1 with
    | .leaf sh ppa rd wr => s1.endFetch f (mkPin f.ctx f.va sh ppa rd wr none)
    | .unmapped sh => s1.endFetch f (mkPin f.ctx f.va sh 0 false false (some 2))
    | .bad sh => s1.endFetch f (mkPin f.ctx f.va sh 0 false false (some 9))
    | .ask rd wr =>
      if s1.atsOn f.ctx then
        let g := { f with ats := true, read := f.read && rd, write := f.write && wr }
        (.held, (swap s1 g).askHost f)
      else s1.endFetch f (mkPin f.ctx f.va 12 0 false false (some 8))

/-- R294, R298: an ATS answer to a fetch; that of a stale one is discarded and the fetch issued once more, its walk first. -/
def State.atsDone (s : State) (f : Fetch) (a : AtsResult) : PinResult × State :=
  if f.stale then (.held, { s with tlb := { s.tlb with fetches := s.tlb.fetches.erase f } }.startFetch f.ctx f.va)
  else if !a.ok || a.untrans then (s.bump 64 0x4100 5).endFetch f (mkPin f.ctx f.va 12 0 false false (some 8))
  else
    let sh := if a.sizeLog2 ≥ 30 then 30 else if a.sizeLog2 ≥ 21 then 21 else 12
    let hpa := a.hpa.toNat >>> sh <<< sh
    let fn := s.ctxFunction f.ctx
    let dpa := if s.mld then (s.decodeHdm fn hpa).bind (s.ldDpa fn) else s.decodeGfd hpa
    match dpa with
    | some d =>
      if s.owner d = some (s.ctxTenant f.ctx) then
        s.endFetch f (mkPin f.ctx f.va sh (s.coord * 2 ^ 46 + d) (f.read && a.read) (f.write && a.write) none)
      else s.endFetch f (mkPin f.ctx f.va 12 0 false false (some 4))
    | none => s.endFetch f (mkPin f.ctx f.va 12 0 false false (some 4))

/-! ### Invalidations -/

/-- R296: an invalidation is complete: the port's Invalidation Completion. -/
def State.invDone (s : State) (i : Invalidation) : State :=
  match i.port with
  | some p => s.emit (.invCompletion p i.tag)
  | none => s

/-- R295, R296, R298: the entries of the matched contexts that overlap [lo, hi) are hit; the completion waits for tiles that
run on hit pins. -/
def State.invalidate (s : State) (m : Nat → Bool) (lo hi : Nat) (port : Option (Fin 4)) (tag : Nat) : State :=
  let hit (e : L2Entry) : Bool := m e.ctx && e.page <<< e.shift < hi && lo < (e.page + 1) <<< e.shift
  let pins := s.tlb.l2.filter (fun e => hit e && e.locked && e.absent.isNone && !e.invalid)
  let wait := (s.tlb.l2.filter (fun e => hit e && e.locked && e.running > 0)).map (fun e => (e.ctx, L2Entry.baseVa e))
  let l2 := (s.tlb.l2.filter (fun e => !(hit e && !e.locked))).map (fun e =>
    if hit e && e.locked && e.absent.isNone then { e with invalid := true } else e)
  let fetches := s.tlb.fetches.map (fun f => if m f.ctx && f.va < hi && lo < f.va + 4096 then { f with stale := true } else f)
  let i : Invalidation := { port := port, tag := tag, pins := wait }
  let s1 := { s with tlb := { s.tlb with
    l2 := l2, fetches := fetches, walks := s.tlb.walks.filter (fun p => !m p.1.1),
    invs := if wait.isEmpty then s.tlb.invs else s.tlb.invs ++ [i] } }
  let s2 := (List.range 34).foldl (fun s v =>
    if (s.vatAt v).owner.any m then
      s.modVat v (fun x => { x with utlb := x.utlb.filter (fun e => !(e.1 <<< e.2 < hi && lo < (e.1 + 1) <<< e.2)) })
    else s) s1
  let s3 := (s2.bump 64 0x4100 6).bump 64 0x4100 7 pins.length
  if wait.isEmpty then s3.invDone i else s3

/-- R296: a tile no longer runs on the pins at these VAs of context `k`: entries hit by an invalidation are done with it. -/
def State.releasePins (s : State) (k : Nat) (bases : List Nat) : State :=
  let l2 := s.tlb.l2.map (fun e => if e.ctx = k && bases.contains e.baseVa && e.running > 0 then { e with running := e.running - 1 } else e)
  let idle (p : Nat × Nat) : Bool := !l2.any (fun e => e.ctx = p.1 && e.baseVa = p.2 && e.running > 0)
  let invs := s.tlb.invs.map (fun i => { i with pins := i.pins.filter (fun p => !idle p) })
  let s1 := { s with tlb := { s.tlb with l2 := l2, invs := invs.filter (fun i => i.pins ≠ []) } }
  (invs.filter (fun i => i.pins = [])).foldl (fun s i => s.invDone i) s1

/-- R295: ATS_INVALIDATION_REQUEST: the contexts whose binding matches the port, the logical device and the PASID. -/
def execAtsInvalidationRequest (p : Fin 4) (ld : Fin 16) (q : AtsInvalidation) (s : State) : Res :=
  let m (k : Nat) : Bool :=
    let b := (s.ctxAt k).binding
    bit b 0 && bits b 2 1 = p.val && (!s.mld || bits b 6 3 = ld.val)
      && (match q.pasid with
          | some x => q.glob || (bit b 7 && bits b 27 8 = x.toNat)
          | none => !bit b 7)
  ok (s.invalidate m q.va.toNat (q.va.toNat + q.len) (some p) q.tag)

/-- R299: a write of INVALIDATE: the selected context, a VA, a length of a multiple of 4 KiB. -/
def invalidateOp (c : Client) (va len : Nat) : Op := fun s =>
  let k := s.selected c
  if len % 4096 ≠ 0 then refuse stRange s else done (s.invalidate (fun j => j = k) va (va + len) none k)
def execInvalidate (c : Client) (va : BitVec 64) (len : BitVec 64) (s : State) : Res :=
  ok (s.request c 0x4110 2 (leBytes 8 va.toNat ++ leBytes 8 len.toNat) (invalidateOp c va.toNat len.toNat))

/-! ### The whole-tile check -/

/-- R290, R292: the check of one page of a tile: none passes, else the cause. -/
def State.checkPage (s : State) (k va : Nat) (write : Bool) : Option Nat :=
  match s.printFor k va with
  | none => some 1
  | some p =>
    if (if write then !p.write else !p.read) then some 1
    else
      match s.pinFor k va with
      | none => some 2
      | some e =>
        if e.invalid then some 7
        else
          match e.absent with
          | some c => some c
          | none =>
            let ppa := e.ppaOf va
            if (if write then !e.write else !e.read) then some 3
            else if !s.isLocal ppa then
              if s.routePresent s.epoch (ppaCoord ppa) then none else some 5
            else if s.allowed (s.ctxTenant k) (ppaDpa ppa) write && !s.isDevice (ppaDpa ppa) then none else some 4

/-- R300: a tile of logical vat `l` failed on an ABSENT or INVALIDATED pin: it joins the page's entry, or a new one is taken
and the fetch repeated. Answers the mask. -/
def State.joinPtt (s : State) (k l base : Nat) : BitVec 32 × State :=
  let b := BitVec.ofNat 32 (2 ^ l)
  match s.tlb.ptt.find? (fun p => p.ctx = k && p.page = base) with
  | some p =>
    let q := { p with mask := p.mask ||| b }
    let s1 := { s with tlb := { s.tlb with ptt := s.tlb.ptt.map (fun x => if x = p then q else x) } }
    (q.mask, s1.modCtx k (fun x => { x with
      faults := x.faults.map (fun f => if f.page = base && f.kind = 0x0803 then { f with pttMask := q.mask } else f) }))
  | none =>
    if s.tlb.ptt.length ≥ 64 then (b, s)
    else
      let p : Ptt := { ctx := k, page := base, mask := b }
      let s1 := { s with tlb := { s.tlb with ptt := s.tlb.ptt ++ [p] } }
      (b, (s1.peak 0x4100 2 s1.tlb.ptt.length).startFetch k base)

/-- R291: the pages of a tile enter the vat's micro-TLB, most recent first. -/
def useUtlb (t : List (Nat × Nat)) (es : List (Nat × Nat)) : List (Nat × Nat) :=
  (es.foldl (fun (t : List (Nat × Nat)) e => e :: t.filter (fun x => x ≠ e)) t).take 64

end Machine
end Sys2Proof
end

