-- ==== Sys2Proof/Machine/Sequencer.lean ====
section
/-! DEFINITION. The stream engines and the control slot (06, 08, 21): tile commands, the whole-tile check, the movement of a
tile, loops, barriers, waits, probes, steps, and a hung vat. -/

namespace Sys2Proof
namespace Machine

/-! ### Tiles -/

/-- R215: fields of a tile descriptor. -/
def tileLinesPerRow (d : Nat) : Nat := bitsAt d 100 88
def tileRowCount (d : Nat) : Nat := bitsAt d 113 101

/-- R215: the rows of a tile: VA and palette address; the memory side by its index where it gathers or scatters. -/
def tileRows (c : TileCmd) : List (Nat × Nat) :=
  let d := c.desc.toNat
  let sum (w lo : Nat) : Int := ((c.loops.zipIdx).map (fun p => (p.1 : Int) * signedOf w (bitsAt d (lo + w * p.2 + w - 1) (lo + w * p.2)))).sum
  (List.range (tileRowCount d)).map (fun r =>
    let m := if c.op ≥ 3 then c.idx.getD r 0 else r
    (twos 56 ((bitsAt d 55 0 : Int) + (m : Int) * signedOf 32 (bitsAt d 159 128) + sum 32 256),
     palAddr (bitsAt d 85 64) ((r : Int) * signedOf 24 (bitsAt d 183 160) + sum 24 384)))

/-- The lines of a tile: VA and palette address. -/
def tileLines (c : TileCmd) : List (Nat × Nat) :=
  (tileRows c).flatMap (fun (r : Nat × Nat) => (List.range (tileLinesPerRow c.desc.toNat)).map (fun i => (r.1 + 64 * i, r.2 + 64 * i)))

/-- The tile moves data to memory. -/
def TileCmd.writes (c : TileCmd) : Bool := c.op = 2 || c.op = 4

/-- R290: the VAs, in row order, at which the pages that a tile touches are met first. -/
def tilePages (c : TileCmd) : List Nat :=
  let n := 64 * tileLinesPerRow c.desc.toNat
  (tileRows c).flatMap (fun (r : Nat × Nat) =>
    (List.range (if n = 0 then 0 else (r.1 + n - 1) / 4096 - r.1 / 4096 + 1)).map (fun (i : Nat) =>
      if i = 0 then r.1 else (r.1 / 4096 + i) * 4096))

/-- R157: a token is set; with the flag where the tile failed (R159, R292). -/
def Vat.setToken (x : Vat) (t : Nat) (bad : Bool) : Vat :=
  { x with tokSet := addNew x.tokSet t, tokBad := if bad then addNew x.tokBad t else x.tokBad.erase t }

/-- R159, R292: an engine moves nothing further in the step: the tokens of its head and of every command behind it are set
with the flag. -/
def State.engineFails (s : State) (k v e : Nat) : State :=
  let q := (s.vatAt v).queue e
  let s1 := match q with
    | c :: _ => s.releasePins k (c.pins.map (fun (p : Nat × Nat × Nat) => p.1))
    | [] => s
  let rd : Option Reader := if h : v < 34 ∧ e < 6 then some (.stream ⟨v, h.1⟩ ⟨e, h.2⟩) else none
  let reqs := s1.pool.reqs.map (fun (r : PoolReq) => if r.owner = rd then { r with owner := none } else r)
  let s2 := { s1 with pool := { s1.pool with reqs := reqs } }
  s2.modVat v (fun x =>
    q.foldl (fun (x : Vat) (c : TileCmd) => x.setToken c.token true)
      { x with engines := Tab.set x.engines e [], engStop := addNew x.engStop e })

/-- R159, R249: a tile meets poison at a PPA: the plan faults with PLAN_POISON at the end of the step, which has ended where every
vat has stopped. -/
def State.tilePoison (s : State) (k v e ppa : Nat) : State :=
  match (s.vatAt v).queue e with
  | [] => s
  | c :: _ =>
    let st := (s.vatAt v).step
    ((s.stepFault k st 0x0801 (payload [(32, k), (32, st), (32, c.tile), (64, ppa)]) 0 0).engineFails k v e).settleFault k

/-! ### Stream slots -/

/-- R215, R224: a tile descriptor that is a reserved encoding. -/
def tileReserved (d : Nat) : Bool :=
  bitsAt d 63 56 ≠ 0 || bitsAt d 87 86 ≠ 0 || bitsAt d 127 114 ≠ 0 || bitsAt d 255 206 ≠ 0 || bitsAt d 511 480 ≠ 0

/-- R155, R157, R222: a tile command is accepted: its token is cleared, a gather or scatter reads its indices; behind a
stopped engine its token is set with the flag. A tile beyond the 4096 lines of R215 is taken as it stands (log entry 176). -/
def State.acceptTile (s : State) (k v w : Nat) : State :=
  let b := (s.vatAt v).bundle
  let r := s.sectionEntry k 3 (bitsAt w 27 12) 64
  let d := r.1.1
  if r.1.2 then r.2.fetchTrap k v b
  else if tileReserved d then r.2.encodingTrap k v b 3
  else
    let op := bitsAt w 2 0
    let e := bitsAt w 5 3
    let tok := bitsAt w 11 6
    let rows := tileRowCount d
    let q := r.2.palCheck v (if op ≥ 3 then [(bitsAt d 205 184, 4 * rows)] else [])
    let x := q.2.vatAt v
    let idx := if op ≥ 3 then (List.range rows).map (fun i => leNat (Mem.read x.palette (bitsAt d 205 184 + 4 * i) 4)) else []
    let c : TileCmd := {
      op := op, token := tok, tile := bitsAt w 27 12, loops := (List.range 4).map x.loopIdx, desc := BitVec.ofNat 512 d, idx := idx,
      running := false, pins := [] }
    let n := 64 * tileLinesPerRow d
    if (op ≥ 3 && bitsAt d 205 184 + 4 * rows > palSize) || (tileRows c).any (fun p => p.2 + n > palSize) then q.2.bundleFault k v b 3
    else
      match q.1 with
      | some a => q.2.paletteUe k v a
      | none =>
        q.2.modVat v (fun x =>
          let y := { x with tokSet := x.tokSet.erase tok, tokBad := x.tokBad.erase tok }
          if x.engStop.contains e then y.setToken tok true
          else { y with engines := Tab.set y.engines e (y.queue e ++ [c]) })

/-- R221: a stream slot of operation `op`, first or second. -/
def State.streamSlot (s : State) (v cyc op : Nat) : State := s.slotAct v cyc [3, 4] op (fun k w s => s.acceptTile k v w)

def execStreamRead (v : Fin 34) (cyc : Nat) (s : State) : Res := ok (s.streamSlot v.val cyc 1)
def execStreamWrite (v : Fin 34) (cyc : Nat) (s : State) : Res := ok (s.streamSlot v.val cyc 2)
def execGather (v : Fin 34) (cyc : Nat) (s : State) : Res := ok (s.streamSlot v.val cyc 3)
def execScatter (v : Fin 34) (cyc : Nat) (s : State) : Res := ok (s.streamSlot v.val cyc 4)

/-! ### The check and the movement of a tile -/

/-- R156: whether a page of a tile is HDM-DB: by its partition here, by its footprint range on another chip. -/
def State.pageCoherent (s : State) (k va : Nat) : Bool :=
  match s.pinFor k va with
  | some e => if s.isLocal (e.ppaOf va) then s.isHdmDb (ppaDpa (e.ppaOf va)) else (s.printFor k va).any (fun p => p.coherent)
  | none => false

/-- R290: the first page of a tile that fails the whole-tile check, and its cause. -/
def State.checkTile (s : State) (k : Nat) (c : TileCmd) : Option (Nat × Nat) :=
  let pages := tilePages c
  match pages.findSome? (fun va => (s.checkPage k va c.writes).map (fun x => (va, x))) with
  | some p => some p
  | none =>
    match pages with
    | [] => none
    | p :: _ => (pages.find? (fun va => s.pageCoherent k va ≠ s.pageCoherent k p)).map (fun va => (va, 6))

/-- The PPA of a VA by the translations that a tile runs with. -/
def TileCmd.ppa (c : TileCmd) (va : Nat) : Nat :=
  ((c.pins.find? (fun p => va >>> p.2.1 = p.1 >>> p.2.1)).map (fun p => p.2.2 + va % 2 ^ p.2.1)).getD 0

/-- R156, R311: a local HDM-DB line can be served to logical vat `l` without a host's answer. -/
def State.lineReady (s : State) (l line : Nat) (write : Bool) : Bool :=
  match s.dirAt line with
  | none => true
  | some e =>
    let host := match e.owner with | some (.host _) => true | _ => false
    !e.isOpen && !(host && e.st = .M) && !(write && (e.hosts ≠ [] || e.coarse.isSome))
      && !(e.hold && s.orderedMode = 0 && e.owner ≠ some (.vat (Fin.ofNat 32 l)))

/-- R153: a line of the palette on its way to memory: none where it is uncorrectable, which traps a plan that runs. -/
def State.palLine (s : State) (k v addr : Nat) : Option (List (BitVec 8)) × State :=
  let c := s.palCheck v [(addr, 64)]
  match c.1 with
  | some w => (none, if c.2.runningOn v = some k then c.2.paletteUe k v w else c.2.bump 32 0x4030 2)
  | none => (some (Mem.read (c.2.vatAt v).palette addr 64), c.2)

/-- R290-R292: TILE_START: the whole-tile check of the engine's next tile. A tile that passes runs on its pins, sends its
requests to other chips and asks the home agent for lines that hosts hold; one that fails moves nothing. -/
def execTileStart (v : Fin 34) (e : Fin 6) (s : State) : Res :=
  let x := s.vatAt v.val
  match x.owner, x.queue e.val with
  | some k, c :: rest =>
    if c.running then ok s
    else
      let l := (s.logical v.val).getD 0
      match s.checkTile k c with
      | some (va, cause) =>
        let st := x.step
        let pin := s.pinFor k va
        let base := (pin.map L2Entry.baseVa).getD (va / 4096 * 4096)
        let joins := pin.any (fun p => p.invalid || p.absent.isSome)
        let j := if joins then s.joinPtt k l base else (0, s)
        ok (((j.2.stepFault k st 0x0803 (translationPayload k st c.tile va cause) base j.1).engineFails k v.val e.val).settleFault k)
      | none =>
        let pins := (tilePages c).filterMap (fun va => (s.pinFor k va).map (fun p => (p.baseVa, p.shift, p.ppa)))
        let uniq := pins.foldl (fun (a : List (Nat × Nat × Nat)) p => if a.contains p then a else a ++ [p]) ([] : List (Nat × Nat × Nat))
        let c1 := { c with running := true, pins := uniq }
        let l2 := s.tlb.l2.map (fun p => if p.ctx = k && uniq.any (fun (u : Nat × Nat × Nat) => u.1 = p.baseVa) && p.locked then { p with running := p.running + 1 } else p)
        let s1 := { s with tlb := { s.tlb with l2 := l2 } }.modVat v.val (fun x => { x with
          engines := Tab.set x.engines e.val (c1 :: rest),
          utlb := useUtlb x.utlb (uniq.map (fun (u : Nat × Nat × Nat) => (u.1 >>> u.2.1, u.2.1))) })
        ok ((tileLines c1).foldl (fun s q =>
          let ppa := c1.ppa q.1
          if s.isLocal ppa then
            let s0 := if c1.writes && s.armourBytes (ppaDpa ppa) ≠ 0 then s.planRequest k (ppaDpa ppa) false else s
            let s := s0.planRequest k (ppaDpa ppa) c1.writes
            if s.isHdmDb (ppaDpa ppa) && !s.lineReady l (ppaDpa ppa / 64) c1.writes && !s.throughLine (ppaDpa ppa / 64) then
              s.homeRequest { kind := if c1.writes then .rdO else .rdS, who := .vat (Fin.ofNat 32 l), line := ppaDpa ppa / 64, data := [] }
            else s
          else
            if ((s.vatAt v.val).queue e.val).isEmpty then s
            else
              let d := if c1.writes then s.palLine k v.val q.2 else (some [], s)
              let h : PktHdr := { (default : PktHdr) with
                vc := 0, type := if c1.writes then 3 else 1, dest := ppaCoord ppa, units := if c1.writes && d.1.isSome then 4 else 0,
                status := if d.1.isSome then 0 else 1,
                lines := if c1.writes then 0 else 1, tenant := s.ctxTenant k, reqKind := 0, dpa := ppaDpa ppa }
              let r := d.2.poolRequest h (d.1.getD []) (some (.stream v e))
              if r.1 then r.2 else r.2.tilePoison k v.val e.val ppa) s1)
  | _, _ => ok s

/-- R156: the data of a local line as logical vat `l` reads it: through its cache where the line is HDM-DB. -/
def State.vatRead (s : State) (l dpa : Nat) : (List (BitVec 8) × Bool) × State :=
  if s.isHdmDb dpa then
    let r := s.useCached (Fin.ofNat 32 l) (dpa / 64)
    match r.1 with
    | some c => ((c.data, false), r.2)
    | none =>
      let s1 := r.2.homeRequest { kind := .rdS, who := .vat (Fin.ofNat 32 l), line := dpa / 64, data := [] }
      match s1.cached l (dpa / 64) with
      | some c => ((c.data, false), s1)
      | none => s1.readLine (dpa / 64)
  else s.readLine (dpa / 64)

/-- R127, R156, R322: a local line as logical vat `l` writes it: a window line through to the home agent, an HDM-DB line in its
cache, an HDM-H line in memory, whose old content the plan's own gate slots have read. -/
def State.vatWrite (s : State) (l dpa : Nat) (data : List (BitVec 8)) : State :=
  let line := dpa / 64
  let me : Agent := .vat (Fin.ofNat 32 l)
  if s.isHdmDb dpa then
    if s.throughLine line then s.homeWrite me line data
    else
      let s1 := s.homeRequest { kind := .rdO, who := me, line := line, data := [] }
      if (s1.cached l line).isSome then s1.modCache l (fun t => Tab.set t line { dirty := true, data := data, err := 0 })
      else s1.homeRequest { kind := .wrF, who := me, line := line, data := data }
  else s.storeLine line data false

/-- R153: a line that a tile cannot read from the palette is written as poison (log entry 178). -/
def State.vatPoison (s : State) (dpa : Nat) : State := s.otherPoison (dpa / 64) 10

/-- A tile's lines move between memory and palette, in order; a read stops at poison (R159). -/
def State.moveLines (k v e l : Nat) (c : TileCmd) : List (Nat × Nat) → State → State
  | [], s => s
  | q :: qs, s =>
    let ppa := c.ppa q.1
    let count (s : State) (remote : Bool) : State := s.modVat v (fun x => { x with
      stepCount := { x.stepCount with
        read := x.stepCount.read + (if c.writes then 0 else 64), write := x.stepCount.write + (if c.writes then 64 else 0),
        remote := x.stepCount.remote + (if remote then 64 else 0) } })
    if !s.isLocal ppa then State.moveLines k v e l c qs (count s true)
    else if c.writes then
      let d := s.palLine k v q.2
      State.moveLines k v e l c qs (count (match d.1 with
        | some bs => d.2.vatWrite l (ppaDpa ppa) bs
        | none => d.2.vatPoison (ppaDpa ppa)) false)
    else
      let r := s.vatRead l (ppaDpa ppa)
      if r.1.2 then r.2.tilePoison k v e ppa
      else State.moveLines k v e l c qs (count (r.2.modVat v (fun x => x.palWrite q.2 r.1.1)) false)

/-- R157: TILE_COMPLETE: the running tile's last byte lands and its token is set. It does not land while a request to
another chip is unanswered or a host has still to give a line up. -/
def execTileComplete (v : Fin 34) (e : Fin 6) (s : State) : Res :=
  let x := s.vatAt v.val
  match x.owner, x.queue e.val with
  | some k, c :: _ =>
    let l := (s.logical v.val).getD 0
    let mine := s.pool.reqs.any (fun r => r.owner = some (.stream v e))
    let lines := tileLines c
    let late := lines.filter (fun q =>
      let ppa := c.ppa q.1
      s.isLocal ppa && s.isHdmDb (ppaDpa ppa) && !s.lineReady l (ppaDpa ppa / 64) c.writes && !s.throughLine (ppaDpa ppa / 64))
    if !c.running || mine then ok s
    else if !late.isEmpty then
      ok (late.foldl (fun s q =>
        if (s.dirAt (ppaDpa (c.ppa q.1) / 64)).any (fun d => d.isOpen) then s
        else s.homeRequest { kind := if c.writes then .rdO else .rdS, who := .vat (Fin.ofNat 32 l), line := ppaDpa (c.ppa q.1) / 64, data := [] }) s)
    else
      let s1 := State.moveLines k v.val e.val l c lines s
      match (s1.vatAt v.val).queue e.val with
      | d :: rest =>
        if d.running then
          let s2 := (s1.releasePins k (c.pins.map (fun (p : Nat × Nat × Nat) => p.1))).modVat v.val (fun x =>
            { (x.setToken c.token false) with
              engines := Tab.set x.engines e.val rest,
              stepCount := { x.stepCount with tiles := x.stepCount.tiles + 1 } })
          ok (s2.payRecord k)
        else ok s1
      | [] => ok (s1.payRecord k)
  | _, _ => ok s

/-! ### The control slot -/

/-- R223: a control slot of operation `op`. -/
def State.controlSlot (s : State) (v cyc op : Nat) (f : Nat → Nat → State → State) : State := s.slotAct v cyc [5] op f

/-- R227: a loop level whose index is what the manual leaves undefined: its nesting is broken (log entry 26). -/
def State.freeLoop (s : State) (v l : Nat) : State :=
  let r := s.takeFree 24
  r.2.modVat v (fun x => { x with loops := Tab.set x.loops l { index := r.1.toNat, trip := r.1.toNat + 1, first := x.bundle + 1 } })

/-- R227: LOOP: level LEVEL starts with index 0 and the trip count of loop entry ARG. -/
def execLoopV (v : Fin 34) (cyc : Nat) (s : State) : Res :=
  ok (s.controlSlot v.val cyc 1 (fun k w s =>
    let b := (s.vatAt v.val).bundle
    let l := bitsAt w 5 4
    let r := s.sectionEntry k 6 (bitsAt w 21 6) 4
    if r.1.2 then r.2.fetchTrap k v.val b
    else if bitsAt r.1.1 31 25 ≠ 0 then r.2.encodingTrap k v.val b 5
    else
      let x := r.2.vatAt v.val
      let inside := (l = 0 || (Tab.find? x.loops (l - 1)).isSome) && (List.range 4).all (fun m => m < l || (Tab.find? x.loops m).isNone)
      if inside then
        r.2.modVat v.val (fun x => { x with loops := Tab.set x.loops l { index := 0, trip := bitsAt r.1.1 24 0, first := b + 1 } })
      else r.2.freeLoop v.val l))

/-- R227: ENDLOOP: the index rises and the bundle after the LOOP is next, or the level ends. -/
def execEndloop (v : Fin 34) (cyc : Nat) (s : State) : Res :=
  ok (s.controlSlot v.val cyc 2 (fun k w s =>
    let l := bitsAt w 5 4
    let x := s.vatAt v.val
    match Tab.find? x.loops l with
    | none => s.freeLoop v.val l
    | some y =>
      if (List.range 4).any (fun m => l < m && (Tab.find? x.loops m).isSome) then s.freeLoop v.val l
      else if y.index + 1 < y.trip then
        (s.modVat v.val (fun x => { x with loops := Tab.set x.loops l { y with index := y.index + 1 }, next := y.first })).fetchAhead k v.val
      else s.modVat v.val (fun x => { x with loops := Tab.erase x.loops l })))

/-- R229: a vat of the plan is still on its way to a ring barrier: it waits neither there nor at a vat barrier, and has not issued
END (log entry 174). -/
def State.onTheWay (s : State) (k id v : Nat) : Bool :=
  match (s.vatAt v).wait with
  | .ring j _ => j ≠ id
  | .barrier _ => false
  | .done => (s.ctxAt k).faults ≠ []
  | _ => true

/-- R229: the chip's arrival at the ring barrier at which vats of a context wait goes to its partners, once, when no vat of the
plan is still on its way. -/
def State.ringArrive (s : State) (k : Nat) : State :=
  match (s.planVats k).findSome? (fun v => match (s.vatAt v).wait with | .ring id _ => some id | _ => none) with
  | none => s
  | some id =>
    if s.rang k id || (s.planVats k).any (s.onTheWay k id) then s
    else
      let seq := s.ringSeq k
      let s1 := s.modCtx k (fun x => { x with arrivals := x.arrivals ++ [(BitVec.ofNat 6 s.coord, seq, BitVec.ofNat 8 id)] })
      (s1.partners k).foldl (fun s c => s.sendMgmt 7 c (s.ctxTenant k) (ringUnit (s.ringGroup k) seq.toNat id)) s1

/-- R228: BARRIER: the vats of the plan go on, 4 cycles after the last arrival, when all have reached the barrier. -/
def execBarrier (v : Fin 34) (cyc : Nat) (s : State) : Res :=
  ok (s.controlSlot v.val cyc 3 (fun k w s =>
    let id := bitsAt w 13 6
    let s1 := s.modVat v.val (fun x => { x with wait := .barrier id })
    if (s1.planVats k).all (fun u => (s1.vatAt u).wait = .barrier id) then
      s1.onVats (s1.planVats k) (fun x => { x with wait := .none, hold := cyc + 4 })
    else (s1.ringArrive k).settleFault k))

/-- R229: RING_BARRIER: the vat waits, and the chip arrives; a notice already here, or a partner that has left the tables, traps
(R230). -/
def execRingBarrier (v : Fin 34) (cyc : Nat) (s : State) : Res :=
  ok (s.controlSlot v.val cyc 4 (fun k w s =>
    let id := bitsAt w 13 6
    let seq := s.ringSeq k
    match (s.ctxAt k).notices.find? (fun n => n.1 = seq) with
    | some n => s.trap k v.val 0x0805 (payload [(32, k), (32, id), (32, n.2.toNat)])
    | none =>
      match (s.partners k).find? (fun c => !s.routePresent s.epoch c) with
      | some c => s.trap k v.val 0x0806 (payload [(32, k), (32, id), (32, c)])
      | none => ((s.modVat v.val (fun x => { x with wait := .ring id (bitsAt w 21 14 * 16) })).ringArrive k).settleFault k))

/-- R231: WAIT_FRAME. -/
def execWaitFrame (v : Fin 34) (cyc : Nat) (s : State) : Res :=
  ok (s.controlSlot v.val cyc 5 (fun _ _ s => s.modVat v.val (fun x => { x with wait := .frame, waitFrom := s.now })))

/-- R231: WAIT_LP. -/
def execWaitLp (v : Fin 34) (cyc : Nat) (s : State) : Res :=
  ok (s.controlSlot v.val cyc 6 (fun _ _ s => s.modVat v.val (fun x => { x with wait := .launchPoint, waitFrom := s.now })))

/-- R231, R244, R533: a wait of a vat for a frame or a launch point ends: the next DELAY counts from here, and the cycles waited,
at least one, are counted. -/
def State.endWait (s : State) (v : Nat) : State :=
  let n := (s.now - (s.vatAt v).waitFrom) * s.vatHz / 1000000000
  s.modVat v (fun x => { x with
    wait := .none, base := none, from_ := s.now, stepCount := { x.stepCount with wait := x.stepCount.wait + (if n = 0 then 1 else n) } })

/-- R229: the arrivals at a ring barrier are used up when the last vat that waits there goes on. -/
def State.ringPassed (s : State) (k id : Nat) : State :=
  if (s.planVats k).any (fun u => match (s.vatAt u).wait with | .ring j _ => j = id | _ => false) then s
  else
    let seq := s.ringSeq k
    s.modCtx k (fun x => { x with
      arrivals := (s.coord :: s.partners k).foldl (fun l c => l.erase (BitVec.ofNat 6 c, seq, BitVec.ofNat 8 id)) x.arrivals })

/-- R229, R244: RING_BARRIER_RELEASE: the vat goes on at a cycle once the chip and every partner have arrived and its allowance has
passed; a release later than compiled is an event (R245). -/
def execRingBarrierRelease (v : Fin 34) (cyc : Nat) (s : State) : Res :=
  let x := s.vatAt v.val
  match x.wait, s.runningOn v.val with
  | .ring id allow, some k =>
    let seq := s.ringSeq k
    let all := (s.partners k).all (fun c => (s.ctxAt k).arrivals.contains (BitVec.ofNat 6 c, seq, BitVec.ofNat 8 id))
    let due := ceilDiv (allow * s.vatHz) 1000000000
    if !s.rang k id || !all || cyc < x.lastCyc + due then ok s
    else
      let s1 := (s.modVat v.val (fun x => { x with
        wait := .none, base := some cyc, stepCount := { x.stepCount with wait := x.stepCount.wait + (cyc - x.lastCyc) } })).ringPassed k id
      ok (if cyc > x.lastCyc + due then s1.markEvent k 4 else s1)
  | _, _ => ok s

/-- R230: BARRIER_TIMEOUT: a ring barrier of the context was not released in time. -/
def execBarrierTimeout (k : Fin 1024) (s : State) : Res :=
  match (s.planVats k.val).find? (fun v => match (s.vatAt v).wait with | .ring _ _ => true | _ => false) with
  | some v =>
    match (s.vatAt v).wait with
    | .ring id _ =>
      let seq := s.ringSeq k.val
      let miss := (s.partners k.val).filter (fun c => !(s.ctxAt k.val).arrivals.contains (BitVec.ofNat 6 c, seq, BitVec.ofNat 8 id))
      if s.runningOn v = some k.val then ok (s.trap k.val v 0x0804 (payload [(32, k.val), (32, id), (64, bitSet miss)])) else ok s
    | _ => ok s
  | none => ok s

/-- R535: fields of a dump request. -/
def dumpLeft (d : BitVec 256) : Nat := bits d 31 16
def dumpUsed (d : BitVec 256) : Nat := bits d 159 128

/-- R536: the tensor of a probe copied into a dump buffer at USED: a header line and the tensor's lines. -/
def State.dump (s : State) (k v n : Nat) (d : BitVec 256) (probe : Nat) : State :=
  let r1 := s.sectionEntry k 1 probe 64
  let r2 := r1.2.sectionEntry k 1 (bitsAt r1.1.1 351 320) 64
  let t := r2.1.1
  let fmt := bitsAt t 315 312
  let elems := bitsAt t 351 320 * bitsAt t 383 352 * bitsAt t 415 384 * bitsAt t 447 416
  let bytes := ceilDiv (ceilDiv (elems * (match fmt with
    | 8 => 264 | 9 => 200 | 10 => 136 | 14 => 140 | 15 => 108 | _ => 32 * codeBits fmt)) 32) 512 * 64
  let va := bitsAt t 311 256
  let set (s : State) (f : Nat → Nat) : State := s.modCtx k (fun x => { x with dumps := Tab.set x.dumps n (BitVec.ofNat 256 (f (Tab.get x.dumps n 0).toNat)) })
  let used := dumpUsed d
  if used + 64 + bytes > bits d 127 96 then set r2.2 (fun q => setBits q 223 192 (bits d 223 192 + 1))
  else
    let s0 := r2.2
    let x := s0.vatAt v
    let l := (s0.logical v).getD 0
    let lines := (List.range (bytes / 64)).map (fun i => va + 64 * i)
    let mapped := lines.all (fun a => a % 4096 ≠ 0 && a ≠ va || (s0.checkPage k a false).isNone && (s0.pinFor k a).any (fun e => s0.isLocal (e.ppaOf a)))
    let dst := bits d 77 32 + used
    let moved := if mapped then lines else []
    let q := moved.zipIdx.foldl (fun (a : Bool × State) p =>
      match a.2.pinFor k p.1 with
      | some e =>
        let rd := a.2.vatRead l (ppaDpa (e.ppaOf p.1))
        if rd.1.2 then (true, rd.2.poisonLine ((dst + 64) / 64 + p.2)) else (a.1, rd.2.storeLine ((dst + 64) / 64 + p.2) rd.1.1)
      | none => a) (false, s0)
    let status := if !mapped then 1 else if q.1 then 2 else 0
    let seq := (s0.ringSeq k).toNat
    let head := seq + k * 2 ^ 32 + probe % 2 ^ 16 * 2 ^ 48 + x.step % 2 ^ 16 * 2 ^ 64 + status * 2 ^ 80
      + ((List.range 4).map (fun i => x.loopIdx i % 2 ^ 24 * 2 ^ (96 + 24 * i))).sum + s0.now % 2 ^ 64 * 2 ^ 192
      + (64 * moved.length) % 2 ^ 32 * 2 ^ 256 + fmt * 2 ^ 288
    let s2 := (q.2.storeLine (dst / 64) (leBytes 64 head)).modVat v (fun x => { x with stepCount := { x.stepCount with dumps := x.stepCount.dumps + 1 } })
    set s2 (fun q => setBits (setBits q 159 128 (used + 64 + 64 * moved.length)) 191 160 (bits d 191 160 + 1))

/-- R214, R224: a symbol entry that is a reserved encoding: its reserved bits, or a KIND above 2. -/
def symbolReserved (n : Nat) : Bool := bitsAt n 511 448 ≠ 0 || bitsAt n 319 316 > 2

/-- R232, R536: PROBE: every active dump request of the context that names the symbol takes its tensor. -/
def execProbe (v : Fin 34) (cyc : Nat) (s : State) : Res :=
  ok (s.controlSlot v.val cyc 7 (fun k w s =>
    let p := bitsAt w 21 6
    let r := s.sectionEntry k 1 p 64
    if symbolReserved r.1.1 then r.2.encodingTrap k v.val (r.2.vatAt v.val).bundle 5
    else
      (List.range 8).foldl (fun s n =>
        let d := Tab.get (s.ctxAt k).dumps n 0
        if dumpLeft d ≠ 0 && bits d 15 0 = p then s.dump k v.val n d p else s) r.2))

/-- R250: a vat stops at the end of a step that holds a fault; when all have, the context is FAULTED. -/
def State.stopVat (s : State) (k v : Nat) : State := (s.modVat v (fun x => { x with wait := .done })).settleFault k

/-- R233: STEP: the step ends and its counters are latched; step ARG begins with a snapshot; a pending fault stops the vat
before its next bundle. -/
def execStep (v : Fin 34) (cyc : Nat) (s : State) : Res :=
  ok (s.controlSlot v.val cyc 8 (fun k w s =>
    let arg := bitsAt w 21 6
    let r := s.sectionEntry k 2 arg 16
    if r.1.2 then r.2.fetchTrap k v.val (r.2.vatAt v.val).bundle
    else if bitsAt r.1.1 63 32 ≠ 0 then r.2.encodingTrap k v.val (r.2.vatAt v.val).bundle 5
    else
      let bad := (r.2.ctxAt k).faults ≠ []
      let s1 := r.2.stepEnd k v.val cyc bad
      if bad then s1.stopVat k v.val
      else
        (s1.modVat v.val (fun x => { x with step := arg, snap := { bundle := x.next, loops := x.loops, gens := x.gens } })).modCtx k
          (fun x => { x with inv := x.inv.map (fun i => { i with step := BitVec.ofNat 16 arg, stepAt := BitVec.ofNat 64 s1.now }) })))

/-- R242: END: the vat has issued END; its step is latched and its running cycles are counted. -/
def execEndV (v : Fin 34) (cyc : Nat) (s : State) : Res :=
  ok (s.controlSlot v.val cyc 9 (fun k _ s =>
    let x := s.vatAt v.val
    let bad := (s.ctxAt k).faults ≠ []
    let s1 := (s.stepEnd k v.val cyc bad).light (lightRun v.val) (cyc - x.firstCyc.getD cyc)
    if bad then s1.stopVat k v.val else (s1.modVat v.val (fun x => { x with wait := .done })).ringArrive k))

/-! ### A hung vat -/

/-- R496: a vat is isolated and reset: everything it held is zero, its owner, its snapshot and the invocation's bookkeeping
apart (log entry 27). -/
def State.resetVatCore (s : State) (v : Nat) : State :=
  let x := s.vatAt v
  let owed := (x.engines.map (fun (p : Nat × List TileCmd) => p.2.length)).sum
  let s1 := (List.range 6).foldl (fun s e => match x.owner with | some k => s.engineFails k v e | none => s) s
  (s1.modVat v (fun _ => { freshVat with
    unusable := x.unusable, owner := x.owner, resident := x.resident, faultHeld := x.faultHeld, lastTest := x.lastTest,
    snap := x.snap, step := x.step, stepNo := x.stepNo, stepCyc := x.stepCyc, stepTime := x.stepTime, firstCyc := x.firstCyc,
    lastCyc := x.lastCyc, stepCount := x.stepCount, invCount := x.invCount, clean := false,
    isolated := some owed })).report { kBlockIsolated with scope := 3 } v 0 [(32, v), (32, owed)]

/-- R163: VAT_HANG at a cycle: a vat that has stalled on one bundle for longer than VAT_HANG_LIMIT is reset, its context traps, and
it moves to the head of the rotation order. -/
def execVatHang (v : Fin 34) (cyc : Nat) (s : State) : Res :=
  match s.runningOn v.val, (s.vatAt v.val).stall with
  | some k, some c =>
    let x := s.vatAt v.val
    if !x.blocked || (cyc - c) * 1000000 ≤ s.par 0x4000 4 * s.vatHz then ok s
    else ok (((s.resetVatCore v.val).trap k v.val 0x0605 (payload [(32, v.val), (32, k), (32, x.next), (32, cyc - c)])).toHead v.val)
  | _, _ => ok s

end Machine
end Sys2Proof
end

