-- ==== Sys2Proof/Machine/Launch.lean ====
section
/-! DEFINITION. The launch stage (06, 08): the checks and the start of a plan, residency, the commands of a context, the
fetch of pins, resume, the wash of vats, and their rotation. -/

namespace Sys2Proof
namespace Machine

/-! ### What the launch stage reads -/

/-- How a byte range of an image is found before its footprint is pinned: its bytes, an ATS request on its way, or no
translation. -/
inductive Look where
  | bytes (b : List (BitVec 8))
  | wait
  | bad
  deriving DecidableEq, Repr

/-- R287, R288: a byte range of an image within one 4 KiB page, by a translation that the context has, or by a walk (log
entry 28). -/
def State.lookPage (s : State) (k va n : Nat) : Look × State :=
  let at_ (s : State) (ppa : Nat) : Look × State :=
    if s.isLocal ppa then
      if s.allowed (s.ctxTenant k) (ppaDpa ppa) false then
        let r := s.readBytes (ppaDpa ppa) n
        (.bytes r.1.1, r.2)
      else (.bad, s)
    else
      let r := s.takeBytes n
      (.bytes r.1, r.2)
  match s.tlb.l2.find? (fun e => e.ctx = k && !e.invalid && va >>> e.shift = e.page) with
  | some e => if e.absent.isNone && e.read then at_ s (e.ppaOf va) else (.bad, s)
  | none =>
    if s.tlb.fetches.any (fun f => f.ctx = k && f.va = va / 4096 * 4096) then (.wait, s)
    else
      let w := s.walk k va
      match w.1.1 with
      | .leaf sh ppa rd _ => if rd then at_ w.2 (ppa + va % 2 ^ sh) else (.bad, w.2)
      | .ask rd wr =>
        if rd && w.2.atsOn k then
          let f : Fetch := { ctx := k, va := va / 4096 * 4096, ats := true, stale := false, read := rd, write := wr }
          (.wait, { w.2 with tlb := { w.2.tlb with fetches := w.2.tlb.fetches ++ [f] } }.askHost f)
        else (.bad, w.2)
      | _ => (.bad, w.2)

/-- A byte range of an image, page by page; `m` pages at most. -/
def State.look (k : Nat) : Nat → Nat → Nat → State → Look × State
  | 0, _, _, s => (.bytes [], s)
  | m + 1, va, n, s =>
    if n = 0 then (.bytes [], s)
    else
      let here := Nat.min n (4096 - va % 4096)
      match s.lookPage k va here with
      | (.bytes b, s1) =>
        match State.look k m (va + here) (n - here) s1 with
        | (.bytes c, s2) => (.bytes (b ++ c), s2)
        | r => r
      | r => r

/-! ### The checks of a launch -/

/-- R234: fields of a launch record. -/
def recSeq (r : Nat) : Nat := bitsAt r 31 0
def recTag (r : Nat) : Nat := bitsAt r 63 32
def recImage (r : Nat) : Nat := bitsAt r 119 64
def recKind (r : Nat) : Nat := bitsAt r 121 120
def recArgs (r : Nat) : Nat := bitsAt r 511 256

/-- R212: entry sizes of the sections. -/
def sectionSize (i : Nat) : Nat := [16, 64, 16, 64, 32, 16, 4, 16].getD i 16

/-- R211, R212, R224: the header and the section directory: none passes, else reason 1, 2 or 8. -/
def headerCheck (h : BitVec 1024) : Option Nat :=
  let secs := List.range 8
  if bits h 31 0 ≠ 0x4C4F4D4B || secs.any (fun i => (hdrSection h i).1 + (hdrSection h i).2 * sectionSize i > hdrSize h) then some 1
  else if bits h 47 40 ≠ 3 || bits h 39 32 > 1 then some 2
  else if bits h 55 54 ≠ 0 || bits h 63 59 ≠ 0 || bits h 95 91 ≠ 0 || bits h 255 240 ≠ 0 || bits h 831 800 ≠ 0 || bits h 863 854 ≠ 0 || bits h 1023 896 ≠ 0
      || hdrVats h = 0 || hdrVats h > 32 || hdrPalette h % 4096 ≠ 0 || hdrPalette h > palSize || hdrBurst h = 0 || hdrBurst h > 16
      || bits h 239 224 = 0 || hdrArgs h % 32 ≠ 0 || hdrArgs h + 32 > palSize
      || secs.any (fun i => (hdrSection h i).1 % 64 ≠ 0) || (hdrSection h 7).2 < hdrVats h then some 8
  else none

/-- R213: a footprint entry, where it keeps its layout. -/
def footprintOf (n : Nat) : Option Footprint :=
  if bitsAt n 63 60 ≠ 0 || bitsAt n 127 112 ≠ 0 || bitsAt n 55 0 % 4096 ≠ 0 || bitsAt n 111 64 % 4096 ≠ 0 then none
  else some {
    base := bitsAt n 55 0, size := bitsAt n 111 64, read := bitAt n 56, write := bitAt n 57, armoured := bitAt n 58,
    coherent := bitAt n 59 }

/-- The words of `w` bytes of a byte string. -/
def wordsOf (w : Nat) (bs : List (BitVec 8)) : List Nat := (List.range (bs.length / w)).map (fun i => leNat ((bs.drop (w * i)).take w))

/-- What the image of a launch gives: a reason to refuse it, more to wait for, or its header, its footprint and its streams
(OFFSET and BUNDLES). -/
inductive Image where
  | refused (reason : Nat)
  | wait
  | good (h : BitVec 1024) (prints : List Footprint) (streams : List (Nat × Nat))
  deriving DecidableEq, Repr

/-- R211-R214, R224, R287: the image at a VA is read and checked. -/
def State.loadImage (s : State) (k va : Nat) : Image × State :=
  if va % 4096 ≠ 0 then (.refused 8, s)
  else
    match State.look k 1 va 128 s with
    | (.wait, s1) => (.wait, s1)
    | (.bad, s1) => (.refused 9, s1)
    | (.bytes hb, s1) =>
      let h := BitVec.ofNat 1024 (leNat hb)
      match headerCheck h with
      | some r => (.refused r, s1)
      | none =>
        let fp := hdrSection h 0
        if fp.2 > 64 then (.refused 9, s1)
        else
          match State.look k 2 (va + fp.1) (16 * fp.2) s1 with
          | (.wait, s2) => (.wait, s2)
          | (.bad, s2) => (.refused 9, s2)
          | (.bytes fb, s2) =>
            match State.look k 2 (va + (hdrSection h 7).1) (16 * hdrVats h) s2 with
            | (.wait, s3) => (.wait, s3)
            | (.bad, s3) => (.refused 9, s3)
            | (.bytes sb, s3) =>
              let prints := (wordsOf 16 fb).map footprintOf
              let good := prints.filterMap id
              if (wordsOf 16 sb).any (fun w => bitsAt w 127 64 ≠ 0 || bitsAt w 31 0 % 32 ≠ 0) then (.refused 8, s3)
              else if prints.any (fun p => p.isNone) then (.refused 9, s3)
              else if good.any (fun p => p.read && p.base ≤ va && va + hdrSize h ≤ p.base + p.size) then
                (.good h good ((wordsOf 16 sb).map (fun w => (bitsAt w 31 0, bitsAt w 63 32))), s3)
              else (.refused 9, s3)

/-- R236: a line range lies in the HDM-DB part of a tenant. -/
def State.inHdmDb (s : State) (t dpa n : Nat) : Bool :=
  let x := s.tenantAt t
  x.base.toNat ≤ dpa && dpa + n ≤ x.base.toNat + x.dbSize.toNat

/-- R91: the launch test of a requirement: refused, fits now, or waits for capacity. -/
inductive GateFit where
  | never
  | now
  | later
  deriving DecidableEq, Repr

/-- R91: the launch test on both tiers. -/
def State.gateFit (s : State) (k : Nat) (h : BitVec 1024) : GateFit :=
  let c := s.streamClass k
  let one (tier : Nat) : GateFit :=
    let req := headerReq h tier
    let sl := s.testSlices tier
    if req = 0 then .now
    else if sl.isEmpty || sl.any (fun i => s.capacity i c < req) then .never
    else if sl.all (fun i => s.commitment c tier + req ≤ s.capacity i c) then .now
    else .later
  if one 0 = .never || one 1 = .never then .never
  else if one 0 = .now && one 1 = .now then .now else .later

/-- R236, reason 5: a gate of the context's class on a tested slice, in either table, is too short for the plan's bursts. -/
def State.gateTooShort (s : State) (k : Nat) (h : BitVec 1024) : Bool :=
  let c := s.streamClass k
  let sl := (if headerReq h 0 = 0 then [] else s.testSlices 0) ++ (if headerReq h 1 = 0 then [] else s.testSlices 1)
  sl.any (fun i =>
    let x := s.sliceAt i
    (x.gates ++ x.eff).any (fun p =>
      let g := gateOf p.2
      g.kind = 1 && g.id = c && g.guard + 1 < hdrBurst h))

/-- R236: the reasons that need no image: tenant, ring placement, KIND, residency. -/
def State.recordCheck (s : State) (k kind : Nat) : Option Nat :=
  let t := s.ctxTenant k
  let x := s.tenantAt t
  let e := (s.ctxAt k).entry
  if x.stopping || x.state ≠ 2 then some 7
  else if !(s.inHdmDb t (bits e 61 16) 4096 && s.inHdmDb t (bits e 109 64) (64 + 64 * s.compSize k)
      && s.inHdmDb t (bits e 173 128) 64) then some 6
  else if kind = 3 then some 8
  else if kind = 2 then (if (s.ctxAt k).resident then none else some 10)
  else if (s.ctxAt k).resident then some 10 else none

/-- R236: the reasons that the image gives, and those of capacity that never fits. -/
def State.imageReason (s : State) (k kind : Nat) (h : BitVec 1024) : Option Nat :=
  let e := (s.ctxAt k).entry
  if kind = 1 && !hdrResident h then some 10
  else if s.firstVat k + hdrVats h > 32 || (s.planLogical k h).any (fun l => (s.physical l).isNone) then some 3
  else if hdrCross h && (!s.pool.ready || !bitAt (bits e 351 288) s.coord) then some 11
  else if s.gateFit k h = .never then some 4
  else if s.gateTooShort k h then some 5
  else none

/-! ### Vats of a launch -/

/-- R174: a launch that has been picked up and not started holds a logical vat for context `k`. -/
def State.startingOn (s : State) (l : Nat) : Option Nat :=
  (List.find? (fun (p : Nat × Ctx) =>
    (match p.2.phase with | .starting _ => true | _ => false) && (s.planLogical p.1 (s.header p.1)).contains l) s.ctxs).map (fun p => p.1)

/-- R171, R172: the chip has no rotating spare, and no vat that is released or under test will become one. -/
def State.noSpare (s : State) : Bool :=
  let back (v : Nat) : Bool := (s.logical v).isNone && s.vat.repair ≠ some v
  s.vat.spare.isNone && s.vat.takeover.isNone && !s.vat.toTest.any back && !s.tst.testing.any back

/-- R169, R172: a rotation that waits holds launches off a logical vat: past ROTATION_WAIT, or where the chip has no spare. -/
def State.rotationHolds (s : State) (l : Nat) : Bool :=
  s.vat.due.any (fun d => d.1 = l && (d.2.2 || s.noSpare))

/-- R175: the context that keeps a reserved logical vat. -/
def State.reservedFor (s : State) (l : Nat) : Option Nat :=
  let rs := s.ctxs.filter (fun (p : Nat × Ctx) => p.2.reserved.isSome && p.2.headVats.contains l)
  match rs with
  | [] => none
  | r :: rest => some (rest.foldl (fun (m : Nat × Ctx) p => if (p.2.reserved.getD 0) < (m.2.reserved.getD 0) then p else m) r).1

/-- R174: a logical vat is free for a launch of context `k`. -/
def State.vatFree (s : State) (k l : Nat) : Bool :=
  match s.physical l with
  | none => false
  | some v =>
    let x := s.vatAt v
    x.activity = 0 && !x.unusable && x.isolated.isNone && !((x.resident || x.faultHeld) && x.owner ≠ some k)
      && (s.startingOn l).all (fun j => j = k) && (s.reservedFor l).all (fun j => j = k) && !s.rotationHolds l
      && s.vat.takeover.all (fun t => t.logical ≠ l)

/-- R177: a launch takes its vats: those of another context, or with no owner and not clean, are washed. -/
def State.takeVats (s : State) (k : Nat) (ls : List Nat) : State :=
  (ls.filterMap s.physical).foldl (fun s v => s.modVat v (fun x =>
    if x.owner = some k || (x.owner.isNone && x.clean) then { x with owner := some k } else { x with activity := 2 })) s

/-! ### Refusals, records and the end of a plan -/

/-- R235: the record at the head is consumed. -/
def State.consume (s : State) (k : Nat) : State :=
  s.modCtx k (fun x => { x with
    launchNext := if x.launchNext = BitVec.allOnes 32 then 1 else x.launchNext + 1, launchIndex := x.launchIndex + 1,
    fullWait := 0, headAge := 0, headVats := [], reserved := none })

/-- R241: a record of a launch that ran no invocation. -/
def State.plainRecord (s : State) (k seq tag status reason : Nat) : State :=
  let r : CompRec := {
    seq := seq, tag := tag, status := status, reason := reason, step := 0, altered := false, events := 0, flags := 0,
    start := s.now, fin := s.now, cycles := 0, frame := s.cal.frame.toNat, lp := s.cal.slot.toNat / 512 }
  s.complete k r

/-- R236: a launch is refused. -/
def State.refuseLaunch (s : State) (k seq tag reason : Nat) : State :=
  (((s.unpin k).consume k).bump 64 0x4400 6).plainRecord k seq tag 1 reason

/-- R208: a disabling context whose vats are free is DISABLED. -/
def State.settleDisable (s : State) (k : Nat) : State :=
  let x := s.ctxAt k
  if x.disabling && x.phase = .idle && !x.resident && x.inv.isNone then s.modCtx k (fun x => { x with state := 0, disabling := false })
  else s

/-- R176, R178: a vat is set to be washed; `owner` none afterwards unless a launch takes it. -/
def State.washVat (s : State) (v : Nat) : State := s.modVat v (fun x => { x with activity := 2, resident := false, faultHeld := false })

/-- A plan leaves its vats: it is neither running, resident nor faulted on them. -/
def State.leaveVats (s : State) (k : Nat) : State :=
  s.onVats (s.planVats k) (fun x => { x with activity := 0, resident := false, faultHeld := false, wait := .none, stall := none })

/-- R91, R240: residency ends: the requirement leaves the commitment, and the pins end. -/
def State.endResidency (s : State) (k : Nat) : State :=
  ((s.leaveVats k).unpin k).modCtx k (fun x => { x with resident := false, inv := none, phase := .idle })

/-- R179: the launch at the head of a context's ring uses a logical vat. -/
def State.headUses (s : State) (k l : Nat) : Bool × State :=
  let x := s.ctxAt k
  let at_ := bits x.entry 61 16 + 64 * x.launchIndex.toNat
  let r := s.readBytes at_ 64
  let rec_ := leNat r.1.1
  if recSeq rec_ ≠ x.launchNext.toNat then (false, r.2)
  else
    match State.look k 1 (recImage rec_) 128 r.2 with
    | (.bytes hb, s2) => ((s2.planLogical k (BitVec.ofNat 1024 (leNat hb))).contains l, s2)
    | (_, s2) => (false, s2)

/-- R179: a non-resident plan has ended on its vats: with EAGER_WASH they are washed unless the context's next launch uses
them. -/
def State.eagerWash (s : State) (k : Nat) (ls : List Nat) : State :=
  if s.par 0x4000 6 = 0 then s
  else ls.foldl (fun s l =>
    match s.physical l with
    | none => s
    | some v =>
      let r := s.headUses k l
      if r.1 then r.2 else r.2.washVat v) s

/-- R242: INVOCATION_END: every vat has issued END and every write tile has set its token. -/
def execInvocationEnd (k : Fin 1024) (s : State) : Res :=
  let k := k.val
  let x := s.ctxAt k
  if x.phase ≠ .running || !s.stopped k || !s.writesDone k || x.faults ≠ [] || x.state ≠ 1 then ok s
  else
    let s1 := (s.invComplete k 0 0).invocationRecord k false
    let seq := s.ringSeq k
    let s2 := s1.modCtx k (fun x => { x with
      phase := .idle, notices := x.notices.filter (fun n => n.1 ≠ seq), arrivals := x.arrivals.filter (fun a => a.2.1 ≠ seq),
      dumps := x.dumps.map (fun d =>
        let n := dumpLeft d.2
        (d.1, if n = 0 || n = 0xFFFF then d.2 else BitVec.ofNat 256 (setBits d.2.toNat 31 16 (n - 1)))) })
    let s3 := s2.onVats (s2.planVats k) (fun x => { x with activity := 0, wait := .none, stall := none })
    let ls := s3.planLogical k (s3.header k)
    let s4 :=
      if x.resident then (if x.disabling then s3.endResidency k else s3)
      else (((s3.leaveVats k).unpin k).modCtx k (fun x => { x with inv := none })).eagerWash k ls
    ok ((s4.settleDisable k).settleTenant (s4.ctxTenant k))

/-! ### The start of a plan -/

/-- R233, R235, R237: a vat at the start of an invocation at time `now`: its first DELAY counts from 100 ns on. -/
def Vat.beginInvocation (x : Vat) (now : Nat) (resident : Bool) : Vat :=
  { x with
    activity := 1, resident := resident, faultHeld := false, clean := false, gens := [], overflow := false, invalid := false,
    nanDrop := false, tokSet := [], tokBad := [], engines := [], engStop := [], loops := [], bundle := 0, wait := .none, ports := [],
    snap := { bundle := 0, loops := [], gens := [] }, firstCyc := none, lastCyc := 0, stall := none, step := 0, stepNo := 0,
    word := 0, todo := [], next := 0, base := none, from_ := now + 100, hold := 0, buffer := [], fetchAt := 0, fetching := [],
    stepCyc := 0, stepTime := now, waitFrom := 0, palReady := [], ready := [], accReady := [], drain := none, matBusy := 0,
    stepCount := default, invCount := default }

/-- R235: ARGS are copied to ARGS_PAL on every vat of the plan. -/
def State.copyArgs (s : State) (k args : Nat) : State :=
  s.onVats (s.planVats k) (fun x => x.palWrite (hdrArgs (s.header k)) (leBytes 32 args))

/-- R235, R237: an invocation of a context starts at this launch point. -/
def State.beginInvocation (s : State) (k seq tag args : Nat) : State :=
  let s1 := s.copyArgs k args
  let s2 := s1.onVats (s1.planVats k) (fun x => x.beginInvocation s.now (s.ctxAt k).resident)
  let s3 := s2.modCtx k (fun x => { x with
    phase := .running, faults := [], stepAcc := [],
    dumps := x.dumpsNext.foldl (fun t d => Tab.set t d.1 d.2) x.dumps, dumpsNext := [],
    inv := x.inv.map (fun i => { i with
      seq := BitVec.ofNat 32 seq, tag := BitVec.ofNat 32 tag, args := BitVec.ofNat 256 args, start := BitVec.ofNat 64 s.now,
      frame := s.cal.frame, lp := BitVec.ofNat 2 (s.cal.slot.toNat / 512), altered := false, events := 0, flags := 0, step := 0,
      stepAt := BitVec.ofNat 64 s.now }) })
  ((s3.planVats k).foldl (fun s v => s.fetchAhead k v) s3).bump 64 0x4400 5

/-- R32, R208: a launch or an invocation of a context has ended: what waited for that takes effect. -/
def State.settleContext (s : State) (k : Nat) : State := (s.settleDisable k).settleTenant (s.ctxTenant k)

/-- R235, R236: a launch that was picked up is refused with a reason before it starts. -/
def State.dropLaunch (s : State) (k : Nat) (i : Inv) (reason : Nat) : State :=
  ((s.modCtx k (fun x => { x with phase := .idle, inv := none })).refuseLaunch k i.seq.toNat i.tag.toNat reason).settleContext k

/-- R287, R288: a pin fetch that found no place for good, or for now. -/
def State.pinTrouble (s : State) (k : Nat) (r : PinResult) : State :=
  let x := s.ctxAt k
  match x.phase, x.inv with
  | .starting _, some i =>
    if r = .overflow then s.dropLaunch k i 9
    else ((s.modCtx k (fun x => { x with phase := .idle, inv := none })).unpin k).settleContext k
  | _, _ => s

/-- R287, R297: more of a footprint is pinned. -/
def State.pinOn (s : State) (k : Nat) : State :=
  let r := State.pinMore k 16385 s
  if r.1 = .held then r.2 else r.2.pinTrouble k r.1

/-- R214: a WRITE range without ARMOURED covers an armoured extent by its pins. -/
def State.armourBad (s : State) (k : Nat) : Bool :=
  (s.writeExtents k true).any (fun r => (List.range (r.2 + 1 - r.1)).any (fun i => s.armourBytes ((r.1 + i) * 2 ^ 21) ≠ 0))

/-- No fetch of a context is outstanding. -/
def State.fetchesDone (s : State) (k : Nat) : Bool := !s.tlb.fetches.any (fun f => f.ctx = k)

/-- R177: every vat of a context's plan is its own and idle. -/
def State.vatsReady (s : State) (k : Nat) : Bool :=
  (s.planVats k).all (fun v => (s.vatAt v).owner = some k && (s.vatAt v).activity = 0)

/-- R239: a make-resident launch starts: the plan becomes resident with the INPUT_SEQ that the control line holds. -/
def State.becomeResident (s : State) (k : Nat) (i : Inv) (ctl : List (BitVec 8)) : State :=
  let s1 := ((s.consume k).copyArgs k i.args.toNat).modCtx k (fun x => { x with
    resident := true, phase := .idle, inputTaken := BitVec.ofNat 32 (leNat (ctl.take 4)) })
  ((s1.onVats (s1.planVats k) (fun x => { x with resident := true, clean := false })).plainRecord k i.seq.toNat i.tag.toNat 0 0).settleContext k

/-- R235, R239: a launch that was picked up starts at this launch point where its pins, washes and copies are done and two
completion entries are free. One whose tenant is stopping is refused (R32). -/
def State.startLaunch (s : State) (k : Nat) : State :=
  let x := s.ctxAt k
  let t := s.tenantAt (s.ctxTenant k)
  match x.phase, x.inv with
  | .starting res, some i =>
    if t.stopping || t.state ≠ 2 then s.dropLaunch k i 7
    else if !(s.pinned k && s.fetchesDone k) then (if s.fetchesDone k then s.pinOn k else s)
    else if s.armourBad k then s.dropLaunch k i 9
    else
      let f := s.compFree k
      if !s.vatsReady k || f.1 < 2 then f.2
      else if res then
        let c := f.2.watchLine (bits x.entry 173 128)
        match c.1 with
        | none => c.2
        | some ctl => c.2.becomeResident k i ctl
      else (f.2.consume k).beginInvocation k i.seq.toNat i.tag.toNat i.args.toNat
  | _, _ => s

/-- R237, R297: a resident plan begins an invocation where its input changed, its vats are not held, its pins stand and two
completion entries are free. -/
def State.residentInput (s : State) (k : Nat) : State :=
  let x := s.ctxAt k
  let t := s.tenantAt (s.ctxTenant k)
  let held := (s.planLogical k (s.header k)).any (fun l => s.rotationHolds l || s.vat.takeover.any (fun t => t.logical = l))
  if !x.resident || x.phase ≠ .idle || x.state ≠ 1 || x.disabling || x.owed.isSome || t.stopping || t.state ≠ 2 || held then s
  else
    let c := s.watchLine (bits x.entry 173 128)
    match c.1 with
    | none => c.2
    | some ctl =>
      let seq := leNat (ctl.take 4)
      if seq = x.inputTaken.toNat then c.2
      else
        let f := c.2.compFree k
        if f.1 < 2 || !f.2.vatsReady k then f.2
        else if !f.2.pinned k then f.2.pinOn k
        else
          (f.2.modCtx k (fun x => { x with inputTaken := BitVec.ofNat 32 seq })).beginInvocation k seq (bytesBits ctl 63 32)
            (bytesBits ctl 511 256)

/-! ### Commands of a context -/

/-- R208: the state that the accepted commands will leave, and whether an invocation or a launch is then on its way. -/
def Ctx.expected (x : Ctx) : Nat :=
  (x.cmds.foldl (fun (st : Nat × Bool) c =>
    match c with
    | .enable => if st.1 = 0 then (1, false) else st
    | .disable => if st.1 = 1 && !st.2 then (0, false) else st
    | .resume => if st.1 = 2 then (2, true) else st
    | .abort => if st.1 = 2 then (if x.disabling then 0 else 1, false) else st) (x.state.toNat, x.phase ≠ .idle)).1

/-- R210: the entry of a context that may be ENABLED. -/
def State.entryGood (s : State) (k : Nat) : Bool :=
  let e := (s.ctxAt k).entry
  let mask := bits e 351 288
  6 ≤ bits e 113 110 && bits e 113 110 ≤ 12 && 2 ≤ bits e 266 256
    && bits e 61 16 % 4096 = 0 && bits e 109 64 % 4096 = 0 && bits e 173 128 % 64 = 0 && (mask = 0 || bitAt mask s.coord)

/-- R208: a command waits for a launch point. -/
def State.pushCmd (s : State) (k : Nat) (c : CtxCmd) : State := s.modCtx k (fun x => { x with cmds := x.cmds ++ [c] })

/-- R208, R251: the tiles that the vats of a context still hold end: their pins and their requests to other chips are given up. -/
def State.endTiles (s : State) (k : Nat) : State :=
  (s.planVats k).foldl (fun s v => (List.range 6).foldl (fun s e => s.engineFails k v e) s) s

/-- R208, R230: RESET: the plan stops at once, its tiles complete with errors, its vats are washed, no record is written. -/
def State.resetContext (s : State) (k : Nat) : State :=
  let vs := s.planVats k
  let s0 := s.sendNotices k
  let s1 := s0.endTiles k
  let mine (s : State) : List Nat := (List.range 34).filter (fun v => (s.vatAt v).owner = some k || vs.contains v)
  let s2 := (mine s1).foldl (fun s v => if (s.vatAt v).activity = 3 then s else s.washVat v) s1
  let s3 := (s2.unpin k).modCtx k (fun x => { x with
    state := 0, cmds := [], disabling := false, phase := .idle, inv := none, resident := false, faults := [], owed := none,
    stepAcc := [], autoResume := false, notices := [], arrivals := [], headAge := 0, headVats := [], reserved := none, fullWait := 0,
    unwritten := [] })
  s3.settleTenant (s3.ctxTenant k)

/-- R208: the write of a command value to CONTEXT_COMMAND, OD 0x4410:03. -/
def contextCommand (c : Client) (v : Nat) : Op := fun s =>
  let k := s.selected c
  let st := (s.ctxAt k).expected
  match v with
  | 1 =>
    if st ≠ 0 then refuse stState s
    else if !s.entryGood k then refuse stRange s else done (s.pushCmd k .enable)
  | 2 => if st = 1 then done (s.pushCmd k .disable) else refuse stState s
  | 3 => if st = 2 then done (s.pushCmd k .resume) else refuse stState s
  | 4 => if st = 2 then done (s.pushCmd k .abort) else refuse stState s
  | 5 => done (s.resetContext k)
  | _ => refuse stRange s

/-- R208: CONTEXT_ENABLE, DISABLE, RESUME, ABORT, RESET. -/
def execContextEnable (c : Client) (s : State) : Res := ok (s.request c 0x4410 3 [1] (contextCommand c 1))
def execContextDisable (c : Client) (s : State) : Res := ok (s.request c 0x4410 3 [2] (contextCommand c 2))
def execContextResume (c : Client) (s : State) : Res := ok (s.request c 0x4410 3 [3] (contextCommand c 3))
def execContextAbort (c : Client) (s : State) : Res := ok (s.request c 0x4410 3 [4] (contextCommand c 4))
def execContextReset (c : Client) (s : State) : Res := ok (s.request c 0x4410 3 [5] (contextCommand c 5))

/-- R251, R302: a RESUME begins: the pins that were invalidated or faulted are fetched again. -/
def State.beginResume (s : State) (k : Nat) : State :=
  let pages := ((s.ctxAt k).faults.filter (fun f => f.kind = 0x0803 && !f.resolved)).map (fun f => f.page)
  let l2 := s.tlb.l2.map (fun e => if e.ctx = k && e.locked && pages.contains e.baseVa then { e with invalid := true } else e)
  ({ s with tlb := { s.tlb with l2 := l2 } }.modCtx k (fun x => { x with phase := .resuming, autoResume := false })).pinOn k

/-- R208: a command takes effect at a launch point; true where it has to wait for the FAULTED record (R241). -/
def State.applyCmd (s : State) (k : Nat) (c : CtxCmd) : Bool × State :=
  let x := s.ctxAt k
  match c with
  | .enable =>
    (false, if x.state ≠ 0 then s else s.modCtx k (fun x => { x with
      state := 1, launchNext := 1, launchIndex := 1, compIndex := 0, recordNo := 0, fullWait := 0, headAge := 0, consumed := 0 }))
  | .disable =>
    if x.state ≠ 1 then (false, s)
    else
      let s1 := s.modCtx k (fun x => { x with disabling := true })
      (false, (if x.resident && x.phase = .idle then s1.endResidency k else s1).settleDisable k)
  | .resume => (false, if x.state = 2 && x.phase ≠ .resuming then s.beginResume k else s)
  | .abort =>
    if x.state ≠ 2 then (false, s)
    else if x.owed.isSome then (true, s)
    else
      let s1 := ((s.invComplete k 3 0).invocationRecord k true).sendNotices k
      let ls := s1.planLogical k (s1.header k)
      let s2 := ((s1.endTiles k).leaveVats k).unpin k
      let s3 := s2.modCtx k (fun x => { x with
        state := 1, phase := .idle, inv := none, resident := false, faults := [], autoResume := false, notices := [], arrivals := [] })
      (false, ((if x.resident then s3 else s3.eagerWash k ls).settleDisable k).settleTenant (s3.ctxTenant k))

/-- R208: the commands of a context take effect in order. -/
def State.applyCmds (k : Nat) : Nat → State → State
  | 0, s => s
  | n + 1, s =>
    match (s.ctxAt k).cmds with
    | [] => s
    | c :: rest =>
      let r := s.applyCmd k c
      if r.1 then r.2 else State.applyCmds k n (r.2.modCtx k (fun x => { x with cmds := rest }))

/-- R251: a vat restarts the faulted step from its snapshot; tokens, queues, accumulators and vector registers are cleared. -/
def Vat.restart (x : Vat) (now : Nat) : Vat :=
  { x with
    activity := 1, faultHeld := false, bundle := x.snap.bundle, word := 0, todo := [], next := x.snap.bundle, base := none, from_ := now + 100,
    hold := 0, buffer := [], fetchAt := x.snap.bundle, fetching := [], loops := x.snap.loops, gens := x.snap.gens, tokSet := [], tokBad := [],
    engines := [], engStop := [], acc := [], accInt := [], accReady := [], drain := none, vregs := [], ready := [], regInt := [],
    palReady := [], matBusy := 0, ports := [], wait := .none, stall := none, overflow := false, invalid := false, nanDrop := false,
    stepCyc := x.lastCyc, stepTime := now, stepCount := default }

/-- R251: a resuming context restarts its step where the pins are held, the FAULTED record is written, two completion entries are
free (R242) and no vat of it is isolated (R496). -/
def State.restartStep (s : State) (k : Nat) : State :=
  let x := s.ctxAt k
  if x.phase ≠ .resuming || x.owed.isSome || (s.planVats k).any (fun v => (s.vatAt v).isolated.isSome) then s
  else if !(s.pinned k && s.fetchesDone k) then (if s.fetchesDone k then s.pinOn k else s)
  else
    let f := s.compFree k
    if f.1 < 2 then f.2
    else
      let s1 := f.2.endTiles k
      let seq := s1.ringSeq k
      let s2 := (s1.onVats (s1.planVats k) (fun x => x.restart s.now)).modCtx k (fun x => { x with
        state := 1, phase := .running, faults := [], notices := x.notices.filter (fun n => n.1 ≠ seq) })
      (s2.planVats k).foldl (fun s v => s.fetchAhead k v) s2

/-- R302: a RESUME that the device gives itself, at the first launch point with no fetch of the context outstanding. A context of a
stopping tenant stays faulted (R34). -/
def State.autoResume (s : State) (k : Nat) : State :=
  let x := s.ctxAt k
  let t := s.tenantAt (s.ctxTenant k)
  if x.state = 2 && x.autoResume && x.phase = .idle && x.faults.all (fun f => f.resolved) && s.fetchesDone k && !t.stopping && t.state = 2 then
    s.beginResume k
  else s

/-! ### Pick-up -/

/-- R240: an end-residency record is taken where no invocation runs. -/
def State.takeEnd (s : State) (k seq tag : Nat) : State :=
  if (s.ctxAt k).phase ≠ .idle || (s.ctxAt k).state ≠ 1 then s
  else
    let f := s.compFree k
    if f.1 = 0 then f.2 else ((f.2.consume k).endResidency k).plainRecord k seq tag 4 0

/-- R175, R243: a launch is at the head of its ring at this launch point, with so many completion entries free. -/
def State.atHead (s : State) (k free : Nat) : State :=
  s.modCtx k (fun x => { x with headAge := x.headAge + 1, fullWait := if free < 2 then x.fullWait + 1 else 0 })

/-- R174: a launch that passes its tests is picked up: it takes its vats and its footprint is pinned. -/
def State.takeLaunch (s : State) (k kind : Nat) (i : Inv) (prints : List Footprint) : State :=
  let s1 := s.modCtx k (fun x => { x with phase := .starting (kind = 1), inv := some i, prints := prints })
  let s2 := ({ s1 with vat := { s1.vat with lastCtx := k } }.takeVats k (s.planLogical k i.header)).light lightLaunch 1
  s2.pinOn k

/-- R235, R236, R242, R243: the record at the head of an ENABLED context's ring: refused, kept at the head, or picked up. While an
invocation runs, a refusal leaves two entries free. -/
def State.pickUp (s : State) (k : Nat) : State :=
  let x := s.ctxAt k
  if x.state ≠ 1 || x.disabling || (match x.phase with | .starting _ => true | .resuming => true | _ => false) then s
  else
    let w := s.watchLine (bits x.entry 61 16 + 64 * x.launchIndex.toNat)
    match w.1 with
    | none => w.2
    | some line =>
      let rec_ := leNat line
      let seq := recSeq rec_
      let tag := recTag rec_
      let kind := recKind rec_
      if seq ≠ x.launchNext.toNat then w.2
      else
        let f := w.2.compFree k
        let s2 := f.2.atHead k f.1
        let room := if x.phase = .idle then f.1 else f.1 - 2
        let refuse_ (s : State) (r : Nat) : State := if room = 0 then s else s.refuseLaunch k seq tag r
        match s2.recordCheck k kind with
        | some r => refuse_ s2 r
        | none =>
          if kind = 2 then s2.takeEnd k seq tag
          else if x.phase ≠ .idle then s2
          else
            match s2.loadImage k (recImage rec_) with
            | (.wait, s3) => s3
            | (.refused r, s3) => refuse_ s3 r
            | (.good h prints streams, s3) =>
              let ls := s3.planLogical k h
              let s4 := s3.modCtx k (fun x => { x with headVats := ls })
              match s4.imageReason k kind h with
              | some r => refuse_ s4 r
              | none =>
                if f.1 < 2 then (if (s4.ctxAt k).fullWait > 64 then refuse_ s4 12 else s4)
                else if s4.gateFit k h ≠ .now || !ls.all (s4.vatFree k) || s4.vat.vatPllBad then s4
                else s4.takeLaunch k kind { (default : Inv) with
                  header := h, image := recImage rec_, seq := BitVec.ofNat 32 seq, tag := BitVec.ofNat 32 tag,
                  args := BitVec.ofNat 256 (recArgs rec_), streams := streams } prints

/-- R174: the contexts in round-robin order after the one that last launched. -/
def State.pickOrder (s : State) : List Nat :=
  let ks := s.ctxs.map (fun (p : Nat × Ctx) => p.1)
  ks.filter (fun k => s.vat.lastCtx < k) ++ ks.filter (fun k => k ≤ s.vat.lastCtx)

/-- R175: VAT_RESERVE: a launch that has waited VAT_AGE_LIMIT launch points reserves its vats. -/
def execVatReserve (k : Fin 1024) (s : State) : Res :=
  let x := s.ctxAt k.val
  if x.reserved.isSome || x.headVats = [] || x.headAge < s.par 0x4000 5 then ok s
  else
    let n := s.ctxs.foldl (fun (m : Nat) (p : Nat × Ctx) => Nat.max m (p.2.reserved.getD 0)) 0
    ok (s.modCtx k.val (fun x => { x with reserved := some (n + 1) }))

/-! ### Fetches of pins -/

/-- R287: the walkers are sixteen: the fetch of a context's page that a walker works on. -/
def State.walking (s : State) (k va : Nat) (ats : Bool) : Option Fetch :=
  (s.tlb.fetches.take 16).find? (fun f => f.ctx = k && f.va = va / 4096 * 4096 && f.ats = ats)

/-- A fetch has ended with a result: the next pins follow. -/
def State.afterFetch (k : Nat) (r : PinResult × State) : State :=
  if r.1 ≠ .held then r.2.pinTrouble k r.1
  else
    match (r.2.ctxAt k).phase with
    | .starting _ => r.2.pinOn k
    | .resuming => r.2.pinOn k
    | _ => r.2

/-- R287: PIN_FETCH_DONE: a mirror walk ends. -/
def execPinFetchDone (k : Fin 1024) (va : BitVec 56) (s : State) : Res :=
  match s.walking k.val va.toNat false with
  | some f => ok (State.afterFetch k.val (s.walkDone f))
  | none => ok s

/-- R294: ATS_COMPLETION. -/
def execAtsCompletion (k : Fin 1024) (va : BitVec 56) (a : AtsResult) (s : State) : Res :=
  match s.walking k.val va.toNat true with
  | some f => ok (State.afterFetch k.val (s.atsDone f a))
  | none => ok s

/-- R294: ATS_TIMEOUT: no completion came. -/
def execAtsTimeout (k : Fin 1024) (va : BitVec 56) (s : State) : Res :=
  match s.walking k.val va.toNat true with
  | some f =>
    let a : AtsResult := { ok := false, hpa := 0, sizeLog2 := 12, read := false, write := false, untrans := false }
    ok (State.afterFetch k.val (s.atsDone f a))
  | none => ok s

/-! ### Rotation -/

/-- R166, R522: the vat clock is at the 100 % step, and VDD_CORE reads within 0.72-0.80 V: none, else reason 1 or 2. -/
def State.testBar (s : State) : Option Nat :=
  if s.pwr.step ≠ 0 then some 1 else if s.pwr.vddRead < 720 || s.pwr.vddRead > 800 then some 2 else none

/-- R166: no plan runs on a logical vat, none has been started on it, and none holds it faulted. -/
def State.vatQuiet (s : State) (l : Nat) : Bool :=
  match s.physical l with
  | none => false
  | some v => (s.vatAt v).activity = 0 && !(s.vatAt v).faultHeld && (s.startingOn l).isNone

/-- R153: the palette that a takeover copies: single errors are corrected on the way and counted. -/
def State.copyPalette (s : State) (v spare keep : Nat) : State :=
  let c := s.palCheck v [(0, keep)]
  let x := c.2.vatAt v
  c.2.modVat spare (fun y => { y with
    palette := x.palette.filter (fun c => c.1 < keep), palErr := x.palErr.filter (fun p => 8 * p.1 < keep && 1 < p.2) })

/-- R166: a takeover of a logical vat by the rotating spare starts: its role is copied, its cache is written back. -/
def State.startTakeover (s : State) (l v spare : Nat) : State :=
  let x := s.vatAt v
  let s1 := if h : l < 32 then s.flushCache ⟨l, h⟩ else s
  let keep := match x.owner with | some k => if x.resident then hdrPalette (s.header k) else 0 | none => 0
  let s2 := (s1.modVat spare (fun y => { y with
    owner := x.owner, resident := x.resident, activity := 2, utlb := [], clean := x.clean && !x.resident })).copyPalette v spare keep
  let s3 := s2.modVat v (fun y => { y with activity := 2 })
  { s3 with vat := { s3.vat with takeover := some { logical := l, old := v, spare := spare }, spare := none } }

/-- R168, R169, R172: ROTATION_SKIPPED. -/
def State.skipRotation (s : State) (p reason : Nat) : State :=
  (s.bump 32 0x7000 7).report kRotationSkipped 0 0 [(32, p), (32, reason)]

/-- R171, R524: a vat whose slice is over without a failure: it returns to its role, or becomes the rotating spare. -/
def State.slotVat (s : State) (v : Nat) : State :=
  if (s.logical v).isSome || s.vat.repair = some v then s else { s with vat := { s.vat with spare := some v } }

/-- R182, R522: a vat begins its test slice where ROTATION_ENABLE is 1 and the conditions hold; else the slice is skipped, with a
record of the condition that failed. -/
def State.startSlice (s : State) (v : Nat) : State :=
  let skip := s.modVat v (fun x => { x with activity := 0, lastTest := 3 })
  if s.par 0x4000 7 = 0 then skip.slotVat v
  else
    match s.testBar with
    | none => { s with tst := { s.tst with testing := some v } }.modVat v (fun x => { x with activity := 3 })
    | some r => (skip.skipRotation s.vat.testPos r).slotVat v

/-- The due position leaves the list. -/
def State.dropDue (s : State) (d : Nat × Nat × Bool) : State := { s with vat := { s.vat with due := s.vat.due.erase d } }

/-- The position of the test that is set off. -/
def State.aimTest (s : State) (p : Nat) : State := { s with vat := { s.vat with testPos := p } }

/-- R172: with no rotating spare, a due logical vat is tested in place, once its owner context has no resident plan; where a
resident plan holds the vat, the position is skipped. -/
def State.testInPlace (s : State) (d : Nat × Nat × Bool) (v : Nat) : State :=
  let x := s.vatAt v
  if x.resident then (s.dropDue d).skipRotation d.1 3
  else if x.owner.any (fun k => (s.ctxAt k).resident) then s
  else
    let s1 := ((s.dropDue d).aimTest d.1).washVat v
    { s1 with vat := { s1.vat with toTest := s1.vat.toTest ++ [v] } }

/-- R168-R172: what a due position does at a launch point, after pick-up; one rotation at a time (R170). -/
def State.rotateOne (s : State) (d : Nat × Nat × Bool) : State :=
  let p := d.1
  if s.vat.takeover.isSome || s.tst.testing.isSome || s.vat.toTest ≠ [] then s
  else if p = 32 then
    match s.vat.repair with
    | none => s.dropDue d
    | some v =>
      match s.testBar with
      | none => ((s.dropDue d).aimTest p).startSlice v
      | some r => (s.dropDue d).skipRotation p r
  else
    match s.physical p with
    | none => s.dropDue d
    | some v =>
      if s.vat.spare.isNone && (s.vatAt v).resident then (s.dropDue d).skipRotation p 3
      else if !s.vatQuiet p then s
      else
        match s.testBar, s.vat.spare with
        | some r, _ => if d.2.2 then (s.dropDue d).skipRotation p r else s
        | none, some sp =>
          let s1 := ((s.dropDue d).aimTest p).startTakeover p v sp
          if d.2.2 then (s1.bump 32 0x4000 12).report kRotationForced 0 0 [(32, p), (32, (s.now - d.2.1) / 1000000)] else s1
        | none, none => s.testInPlace d v

/-- R168, R182: rotation at a launch point. -/
def State.rotate (s : State) : State :=
  if s.cx.gap || s.par 0x4000 7 = 0 then s
  else s.vat.due.foldl (fun s d => s.rotateOne d) s

/-- R168: ROTATION_DUE: the next position falls due, the head of the order first (R163). With no spare, a vat that a resident
plan holds is skipped (R172). -/
def execRotationDue (s : State) : Res :=
  if s.par 0x4000 7 = 0 then ok s
  else
    let p := match s.vat.head with | h :: _ => h | [] => s.par 0x4000 10
    let s1 := match s.vat.head with
      | _ :: rest => { s with vat := { s.vat with head := rest } }
      | [] => s.setPar 0x4000 10 ((p + 1) % 33)
    let resident := p < 32 && ((s1.physical p).map (fun v => (s1.vatAt v).resident)).getD false
    if s1.noSpare && resident then ok (s1.skipRotation p 3)
    else if s1.vat.due.any (fun d => d.1 = p) then ok s1
    else ok { s1 with vat := { s1.vat with due := s1.vat.due ++ [(p, s.now, false)] } }

/-- R169: ROTATION_WAIT_EXPIRE: the oldest due position that is not yet late has waited ROTATION_WAIT. -/
def execRotationWaitExpire (s : State) : Res :=
  match s.vat.due.find? (fun d => !d.2.2) with
  | some d =>
    if s.now < d.2.1 + s.par 0x4000 9 * 1000000 then ok s
    else ok { s with vat := { s.vat with due := s.vat.due.map (fun e => if e = d then (d.1, d.2.1, true) else e) } }
  | none => ok s

/-- R167: TAKEOVER_DONE: the role is the spare's, and the old vat is released to be washed and tested (R180). ROTATIONS counts the
takeovers that are done (log entry 181). -/
def execTakeoverDone (s : State) : Res :=
  match s.vat.takeover with
  | none => ok s
  | some t =>
    let s1 := { s with vat := { s.vat with
      lmap := Tab.set s.vat.lmap t.logical t.spare, takeover := none, toTest := s.vat.toTest ++ [t.old] } }
    let s2 := s1.modVat t.spare (fun x => { x with activity := 0 })
    ok (((s2.modVat t.old (fun x => { x with owner := none, resident := false })).bump 64 0x4000 11).washVat t.old)

/-- R177, R178: VAT_WASH_DONE: the vat holds nothing of its old owner; it takes its new one, or is clean; a released vat goes
on to its test slice (R180). -/
def execVatWashDone (v : Fin 34) (ns : Nat) (s : State) : Res :=
  let x := s.vatAt v.val
  if x.activity ≠ 2 || s.vat.takeover.any (fun t => t.old = v.val || t.spare = v.val) then ok s
  else
    let l := s.logical v.val
    let s1 := match l with
      | some n => if h : n < 32 then s.flushCache ⟨n, h⟩ else s
      | none => s
    let who := match l with | some n => s1.startingOn n | none => none
    let s2 := s1.modVat v.val (fun x => { freshVat with
      unusable := x.unusable, owner := who, isolated := x.isolated, lastTest := x.lastTest, stepCount := x.stepCount, invCount := x.invCount })
    let s3 := (s2.bump 64 0x4000 13).peak 0x4000 14 ns
    if s3.vat.toTest.contains v.val then
      ok ({ s3 with vat := { s3.vat with toTest := s3.vat.toTest.erase v.val } }.startSlice v.val)
    else
      let all := (List.range 34).all (fun u => (s3.vatAt u).activity ≠ 2)
      ok (if all then { s3 with vat := { s3.vat with vatPllBad := false } } else s3)

/-- OD 0x4000:01. -/
def State.activeVats (s : State) : Nat := 32 - s.absentVats.length

/-- R164, R171, R172: a physical vat failed: it is unusable; its role passes to a spare, or its logical vat is absent. The record
names the logical vat that it holds: none (0x3F) once a takeover has released it (log entry 181). -/
def State.vatFails (s : State) (v seed : Nat) (sig : BitVec 2048) : State :=
  let l := s.logical v
  let s1 := s.modVat v (fun _ => { freshVat with unusable := true, clean := false, lastTest := 2 })
  let s2 := { s1 with vat := { s1.vat with failures := addNew s1.vat.failures v } }.report kVatFailed 0 v
    [(32, v), (32, l.getD 0x3F), (32, seed), (192, bits sig 191 0)]
  let s3 := if s2.vat.repair = some v then { s2 with vat := { s2.vat with repair := none } }
    else match l with
      | some n =>
        let s4 := { s2 with vat := { s2.vat with lmap := Tab.set s2.vat.lmap n 0xFF } }
        s4.report kVatCountChanged 0 0 [(8, s4.activeVats), (32, bitSet s4.absentVats)]
      | none => { s2 with vat := { s2.vat with spare := s2.vat.repair, repair := none } }
  s3

/-- R171, R524: VAT_TEST_SLICE_DONE: the signature is kept, the seed advances; a vat that passes becomes the rotating spare
or returns to its role, one that fails is unusable. -/
def execVatTestSliceDone (v : Fin 34) (pass : Bool) (sig : BitVec 2048) (s : State) : Res :=
  if s.tst.testing ≠ some v.val || (s.vatAt v.val).activity ≠ 3 then ok s
  else
    let seed := s.par 0x7000 4
    let s1 := { s with tst := { s.tst with
      testing := none, vatTest := if s.tst.vatTest = some v.val then none else s.tst.vatTest,
      sigs := Tab.set s.tst.sigs v.val (seed, sig) } }
    let s2 := (s1.setPar 0x7000 4 ((seed + 1) % 16)).bump 64 0x7000 5
    if pass then
      let s3 := s2.modVat v.val (fun _ => { freshVat with lastTest := 1 })
      ok (s3.slotVat v.val)
    else ok ((s2.bump 32 0x7000 6).vatFails v.val seed sig)

/-- R182: no test slice runs on a vat while ROTATION_ENABLE is 0: the one that runs is abandoned, with no record (log entry 180). -/
def State.stopSlice (s : State) : State :=
  match s.tst.testing with
  | none => s
  | some v =>
    ({ s with tst := { s.tst with testing := none, vatTest := if s.tst.vatTest = some v then none else s.tst.vatTest } }.modVat v
      (fun _ => { freshVat with lastTest := 3 })).slotVat v

/-- R182: a write of ROTATION_ENABLE, OD 0x4000:07. -/
def rotationEnable (v : Nat) : Op := fun s =>
  if v > 1 then refuse stRange s
  else done (if v = 0 then ({ s with vat := { s.vat with due := [] } }.setPar 0x4000 7 0).stopSlice else s.setPar 0x4000 7 1)

/-- R182: ROTATION_ENABLE_WRITE. -/
def execRotationEnableWrite (c : Client) (v : BitVec 8) (s : State) : Res :=
  ok (s.request c 0x4000 7 [v] (rotationEnable v.toNat))

/-! ### The launch point -/

/-- R231: the vats that wait for a launch point go on. -/
def State.releaseLp (s : State) : State :=
  (List.range 34).foldl (fun s v => if (s.vatAt v).wait = .launchPoint then s.endWait v else s) s

/-- R208, R235, R237, R166: LAUNCH_POINT: commands take effect, waits end, faulted steps and picked-up launches start,
resident plans take their inputs, ring heads are examined, and a due rotation starts. -/
def execLaunchPoint (s : State) : Res :=
  if s.cal.slot.toNat % 512 ≠ 0 then ok s
  else
    let ks := s.ctxs.map (fun (p : Nat × Ctx) => p.1)
    let s1 := ks.foldl (fun s k =>
      (State.applyCmds k (s.ctxAt k).cmds.length (State.flushRecords k (s.ctxAt k).unwritten.length s)).autoResume k) s
    let s2 := ks.foldl (fun s k => (s.restartStep k).startLaunch k) s1.releaseLp
    let s3 := s2.pickOrder.foldl (fun s k => (s.pickUp k).residentInput k) s2
    ok s3.rotate

end Machine
end Sys2Proof
end

