-- ==== Sys2Proof/Machine/Copies.lean ====
section
/-! DEFINITION. The copy channels' movement of data (03): rights, lines, halts and completion words. -/

namespace Sys2Proof
namespace Machine

/-- R79: fields of a copy descriptor. -/
def cpySrc (d : BitVec 256) : Nat := bits d 51 0
def cpyDst (d : BitVec 256) : Nat := bits d 115 64
def cpyLen (d : BitVec 256) : Nat := bits d 159 128
def cpyTenant (d : BitVec 256) : Nat := bits d 167 160
def cpyDone (d : BitVec 256) : Nat := bits d 227 176

/-- The requester port of the copy channels (R69). -/
def copyPort : Nat := 5

/-- A request for one line of another chip's memory, for a copy channel (R392). -/
def copyPacket (ppa tenant : Nat) (write : Bool) : PktHdr :=
  { (default : PktHdr) with
    vc := 0, type := if write then 3 else 1, dest := ppaCoord ppa, units := if write then 4 else 0, lines := if write then 0 else 1,
    tenant := tenant, reqKind := 1, dpa := ppaDpa ppa / 64 * 64 }

/-! ### Completion words and halts -/

/-- R82: the 8 B of a completion word. -/
def copyWord (d : BitVec 256) (status skipped : Nat) : List (BitVec 8) :=
  leBytes 8 (bits d 255 232 + status * 2 ^ 24 + skipped % 2 ^ 32 * 2 ^ 32)

/-- R79, R82: the completion word of a copy, written through the directory where it lies in an HDM-DB line. On another chip, to
which only whole lines are written, its line is read first (log entry 157). -/
def State.completionWord (s : State) (d : BitVec 256) (status skipped : Nat) : State :=
  let ppa := cpyDone d
  let bs := copyWord d status skipped
  let o := ppaDpa ppa % 64
  if s.isLocal ppa then
    s.otherWrite (ppaDpa ppa / 64) (fitBytes 64 (List.replicate o 0 ++ bs)) (BitVec.ofNat 64 (0xFF * 2 ^ o)) copyPort
  else (s.poolRequest (copyPacket ppa (cpyTenant d) false) [] none (some (o, bs))).2

/-- A request to another chip that no reader waits for. -/
def State.sendPacket (s : State) (h : PktHdr) (data : List (BitVec 8)) : State := (s.poolRequest h data none).2

/-- R82: the line of a completion word has come from another chip: it goes back with the word in it. -/
def State.sendWord (s : State) (h : PktHdr) (w : Nat × List (BitVec 8)) (line : List (BitVec 8)) : State :=
  let bs := fitBytes 64 line
  s.sendPacket (copyPacket (h.dest * 2 ^ 46 + h.dpa) h.tenant true) (bs.take w.1 ++ w.2 ++ bs.drop (w.1 + 8))

/-- R81: the head copy of a channel halts at the line that it stands at. -/
def State.haltCopy (s : State) (n : Nat) : State :=
  let c := s.copyAt n
  match c.queue with
  | [] => s
  | d :: _ =>
    let ppa := cpySrc d + c.done
    let s1 := s.modCopy n (fun c => { c with state := 2, haltPpa := BitVec.ofNat 52 ppa })
    (s1.completionWord d 1 c.skipped).reportTenant kCopyHalted (some (cpyTenant d)) n [(64, ppa), (32, bits d 255 232)]

/-! ### Rights -/

/-- R32, R80: a range that lies on this chip is allowed to a tenant. -/
def State.copyAllowed (s : State) (t ppa n : Nat) (write : Bool) : Bool :=
  if !s.isLocal ppa then true
  else s.allowed t (ppaDpa ppa) write && s.allowed t (ppaDpa ppa + n - 1) write && s.owner (ppaDpa ppa) = s.owner (ppaDpa ppa + n - 1)

/-- R80, R362: both ranges of a copy are allowed as far as this chip knows, and its tenant is not confidential. -/
def State.copyRights (s : State) (d : BitVec 256) : Bool :=
  !bitAt (s.par 0x5180 1) (cpyTenant d) && s.copyAllowed (cpyTenant d) (cpySrc d) (cpyLen d) false && s.copyAllowed (cpyTenant d) (cpyDst d) (cpyLen d) true

/-- R80: the ends of the ranges of a copy that lie on other chips: their rights are asked there, by a read of each end, before a
byte moves (log entry 158). -/
def State.copyProbes (s : State) (d : BitVec 256) : List Nat :=
  ([cpySrc d, cpyDst d].filter (fun p => !s.isLocal p)).flatMap (fun p => [p, p + cpyLen d - 64])

/-! ### Lines -/

/-- R80: the destination line at an offset of a copy lies in its source range: its bytes are undefined. -/
def copyOverlaps (d : BitVec 256) (off : Nat) : Bool := cpySrc d ≤ cpyDst d + off && cpyDst d + off < cpySrc d + cpyLen d

/-- R80, R81: the line at an offset of a copy is written: over the ring where it lies elsewhere; `none` writes poison. An
overlapped line takes free bytes (log entry 159). -/
def State.copyLine (s : State) (n : Nat) (d : BitVec 256) (off : Nat) (data : Option (List (BitVec 8))) : State :=
  let ppa := cpyDst d + off
  let r := if copyOverlaps d off && data.isSome then (let f := s.takeBytes 64; (some f.1, f.2)) else (data, s)
  let s := r.2
  let rd : Option Reader := some (.copy (Fin.ofNat 16 n))
  match r.1 with
  | some bs =>
    if !s.isLocal ppa then (s.poolRequest (copyPacket ppa (cpyTenant d) true) bs rd).2
    else s.otherWrite (ppaDpa ppa / 64) bs (BitVec.allOnes 64) copyPort
  | none =>
    if !s.isLocal ppa then (s.poolRequest { copyPacket ppa (cpyTenant d) true with units := 0, status := 1 } [] rd).2
    else s.otherPoison (ppaDpa ppa / 64) copyPort

/-- R79, R80: the head copy of a channel asks other chips: for its rights, then for its next line where that lies there. -/
def State.copyFetch (s : State) (n : Nat) : State :=
  let c := s.copyAt n
  match c.queue with
  | [] => s
  | d :: _ =>
    let rd : Option Reader := some (.copy (Fin.ofNat 16 n))
    if c.state ≠ 1 || !s.copyRights d then s
    else
      match c.probes with
      | p :: _ => (s.poolRequest (copyPacket p (cpyTenant d) false) [] rd).2
      | [] =>
        if c.done ≥ cpyLen d || s.isLocal (cpySrc d + c.done) then s
        else (s.poolRequest (copyPacket (cpySrc d + c.done) (cpyTenant d) false) [] rd).2

/-- The head of a channel's queue starts. -/
def State.copyStart (s : State) (n : Nat) : State :=
  match (s.copyAt n).queue with
  | [] => s.modCopy n (fun c => { c with state := 0 })
  | d :: _ => (s.modCopy n (fun c => { c with state := 1, done := 0, skipped := 0, probes := s.copyProbes d })).copyFetch n

/-- R81, R82: the head copy ends with a status; its completion word is written last, and the next copy starts. -/
def State.copyEnd (s : State) (n status : Nat) : State :=
  match (s.copyAt n).queue with
  | [] => s
  | d :: rest =>
    let s1 := s.completionWord d status (s.copyAt n).skipped
    let s2 := s1.modCopy n (fun c => { c with queue := rest, state := 0, probes := [] })
    if rest = [] then s2 else s2.copyStart n

/-- Lines left of the head copy. -/
def CopyCh.left (c : CopyCh) : Nat := match c.queue with | d :: _ => (cpyLen d - c.done) / 64 | [] => 0

/-- R81: the head copy moves its lines in ascending order, `m` at most: it stops at poison, at a line that a host still holds,
or at the end. True where it met poison. -/
def State.copyRun (n : Nat) : Nat → State → Bool × State
  | 0, s => (false, s)
  | m + 1, s =>
    let c := s.copyAt n
    match c.queue with
    | [] => (false, s)
    | d :: _ =>
      let src := cpySrc d + c.done
      if c.done ≥ cpyLen d || !s.isLocal src || c.probes ≠ [] then (false, s)
      else
        let r := s.peekLine (ppaDpa src / 64) copyPort
        match r.1 with
        | none => (false, r.2)
        | some (bs, poison) =>
          if poison then (true, r.2)
          else
            let s1 := r.2.copyLine n d c.done (some bs)
            State.copyRun n m (s1.modCopy n (fun c => { c with done := c.done + 64 }))

/-- R81, R121: a copy channel reads poison at a DPA of its head copy's source: the lines below it are copied, and it halts there. -/
def State.copyPoison (s : State) (n dpa : Nat) : State :=
  let c := s.copyAt n
  match c.queue with
  | [] => s
  | d :: _ =>
    let at_ := ppaDpa (cpySrc d) + c.done
    if c.state ≠ 1 || !s.isLocal (cpySrc d) || !s.copyRights d || c.probes ≠ [] || dpa < at_ || at_ + (cpyLen d - c.done) ≤ dpa then s
    else
      let r := State.copyRun n ((dpa - at_) / 64) s
      if r.1 || (r.2.copyAt n).done = dpa / 64 * 64 - ppaDpa (cpySrc d) then r.2.haltCopy n else r.2

/-- R394: a line that a copy wrote to another chip failed there: the channel halts as on poison, at that line. -/
def State.copyLost (s : State) (n ppa : Nat) : State :=
  let c := s.copyAt n
  match c.queue with
  | [] => s
  | d :: _ =>
    if c.state ≠ 1 then s
    else if cpyDst d ≤ ppa && ppa < cpyDst d + c.done then (s.modCopy n (fun c => { c with done := ppa - cpyDst d })).haltCopy n
    else s.haltCopy n

/-- R80, R394: a reply to a copy channel's request of another chip: of a right, of its next line, or of a written line. STATUS
DENIED before any line moved is a rights error. -/
def State.copyReply (s : State) (n : Nat) (h : PktHdr) (data : Option (List (BitVec 8))) (denied : Bool) : State :=
  let c := s.copyAt n
  let ppa := h.dest * 2 ^ 46 + h.dpa
  match c.queue with
  | [] => s
  | d :: _ =>
    if c.state ≠ 1 then s
    else if denied && c.done = 0 then s.copyEnd n 3
    else
      match c.probes with
      | p :: rest => if h.type = 1 && p = ppa then (s.modCopy n (fun c => { c with probes := rest })).copyFetch n else s
      | [] =>
        match data with
        | none => if h.type = 3 then s.copyLost n ppa else s.haltCopy n
        | some bs =>
          if h.type ≠ 1 || cpySrc d + c.done ≠ ppa then s
          else
            let s1 := s.copyLine n d c.done (some (fitBytes 64 bs))
            (s1.modCopy n (fun c => { c with done := c.done + 64 })).copyFetch n

end Machine
end Sys2Proof
end

