-- ==== Sys2Proof/Machine/Media.lean ====
section
/-! DEFINITION. Errors of the media as they are met (03, 05): reads that return from the media, escalation, the parity cache, the
merge buffer's releases, the scrubber, the flip mask, and command-address alerts. -/

namespace Sys2Proof
namespace Machine

/-! ### Delivery -/

/-- R563: the requester port of a reader. -/
def readerPort : Reader → Nat
  | .host p _ => p.val
  | .fetch _ => 10
  | .stream _ _ => 10
  | .cacheFill _ => 10
  | .copy _ => 5
  | .migration _ => 8
  | .pool _ _ => 4
  | .complex => 9

/-- The vat of a reader inside a vat. -/
def readerVat : Reader → Option Nat
  | .fetch v => some v.val
  | .stream v _ => some v.val
  | .cacheFill v => some v.val
  | _ => none

/-- The vat of a reader and the context that runs on it. -/
def State.readerPlan (s : State) (rd : Reader) : Option (Nat × Nat) :=
  (readerVat rd).bind (fun v => (s.runningOn v).map (fun k => (v, k)))

/-- R121: a bus error goes to firmware, which writes a record; the manual names neither its kind nor its fields (log entry 146). -/
def State.busError (s : State) (dpa : Nat) : State :=
  let f := s.takeFree 355
  let k : FKind := ⟨Config.busErrorKind.toNat, bit f.1 354, bits f.1 353 352 % 7⟩
  (f.2.emit (.busError dpa)).submit { f.2.mkRec k (bits f.1 15 0) (bits f.1 31 16) [] with payload := BitVec.ofNat 320 (bits f.1 351 32) }

/-- R121: poison reaches a reader. -/
def State.poisonTo (s : State) (rd : Reader) (dpa : Nat) : State :=
  let s1 := s.emit (.readerData rd dpa [] true)
  match rd with
  | .fetch v => match s1.runningOn v.val with | some k => s1.bundlePoison k v.val (s1.coord * 2 ^ 46 + dpa) | none => s1
  | .stream v e =>
    match s1.runningOn v.val with
    | some k => if ((s1.vatAt v.val).queue e.val).head?.any (fun c => c.running) then s1.tilePoison k v.val e.val (s1.coord * 2 ^ 46 + dpa) else s1
    | none => s1
  | .cacheFill v =>
    match s1.runningOn v.val with
    | some k =>
      match (List.range 6).find? (fun e => ((s1.vatAt v.val).queue e).head?.any (fun c =>
          c.running && (tileLines c).any (fun q => c.ppa q.1 = s1.coord * 2 ^ 46 + dpa / 64 * 64))) with
      | some e => s1.tilePoison k v.val e (s1.coord * 2 ^ 46 + dpa)
      | none => s1
    | none => s1
  | .copy n => s1.copyPoison n.val dpa
  | .migration n => s1.modCopy n.val (fun c => { c with skipped := (c.skipped + 1) % 2 ^ 32 })
  | .complex => s1.busError dpa
  | _ => s1

/-- R115, R162: the data of a read reaches its reader; a line of a bundle stream reaches the vat's bundle buffer. -/
def State.dataTo (s : State) (rd : Reader) (dpa : Nat) : State :=
  let r := s.readLine (dpa / 64)
  let s1 := r.2.emit (.readerData rd dpa r.1.1 false)
  match rd with
  | .fetch v => s1.fillBundles v.val (s1.coord * 2 ^ 46 + dpa / 64 * 64) r.1.1
  | _ => s1

/-- What a reader that was held is given: the line's data, or poison. -/
def State.serveReader (s : State) (r : Reader × Nat) : State :=
  if s.fatalAt r.2 || s.isPoison (r.2 / 64) then s.poisonTo r.1 r.2 else s.dataTo r.1 r.2

/-! ### Reports of the word decoder -/

/-- The errors that a line's read returns in one of its code words: those of the word that was asked for come first; on HBM those
of the line's other word are numbered from 36 on (log entry 29). -/
def State.returned (s : State) (dpa : Nat) (err : SymErrors) (w : Nat) : SymErrors :=
  if !s.onHbm dpa then err
  else if w = s.wordBase dpa then err.filter (fun p => p.1 < 36)
  else (err.filter (fun p => 36 ≤ p.1)).map (fun p => (p.1 - 36, p.2))

/-- R116, R119: what the word decoder reports of each code word of a line that is read at a DPA. -/
def State.decodeLine (s : State) (dpa : Nat) (err : SymErrors) : List (Nat × WordResult) :=
  (s.lineWords (dpa / 64)).map (fun w => (w, s.decodeWord w (s.returned dpa err w)))

/-- R118: the corrected words among those of a line are counted. -/
def State.countLine (s : State) (ws : List (Nat × WordResult)) : State :=
  ws.foldl (fun s p => match p.2 with | .data cs => s.countCorrected p.1 cs | _ => s) s

/-! ### Escalation -/

/-- R245: the plans of readers have met an escalation. -/
def State.markHeld (s : State) (rds : List (Reader × Nat)) : State :=
  rds.foldl (fun s rd =>
    match s.readerPlan rd.1 with
    | some (v, k) => (s.modVat v (fun x => { x with stepCount := { x.stepCount with escal := x.stepCount.escal + 1 } })).markEvent k 0
    | none => s) s

/-- R130, R133, R134: a page goes to escalation for a word: it joins the one for its page, waits in the queue of 64, or finds it
full (false). -/
def State.escalate (s : State) (dpa : Nat) (scrub : Bool) (rds : List (Reader × Nat)) : Bool × State :=
  let pg := pageOf dpa
  let s1 := s.markHeld rds
  if s.pageLocked pg then
    (true, { s1 with med := { s1.med with escEng := s1.med.escEng.map (fun (p : Nat × EscEngine) =>
      if p.2.req.page = pg then (p.1, { p.2 with req := { p.2.req with readers := p.2.req.readers ++ rds } }) else p) } })
  else if s.med.escQueue.any (fun r => r.page = pg) then
    (true, { s1 with med := { s1.med with escQueue := s1.med.escQueue.map (fun (r : EscReq) => if r.page = pg then { r with readers := r.readers ++ rds } else r) } })
  else if s.med.escQueue.length ≥ 64 then (false, s)
  else
    let r : EscReq := { page := pg, word := dpa, scrub := scrub, readers := rds }
    (true, { s1 with med := { s1.med with escQueue := s1.med.escQueue ++ [r] } })

/-- R133: an uncorrectable word: it escalates where its page is armoured; else, or where the queue is full, its line is
poison, unless it is already. True where the reader waits. -/
def State.uncorrectable (s : State) (dpa port : Nat) (err : SymErrors) (scrub : Bool) (rds : List (Reader × Nat)) : Bool × State :=
  let s1 := s.countUe dpa
  if s1.isPoison (dpa / 64) then (false, s1)
  else if s1.armoured dpa then
    let r := s1.escalate dpa scrub rds
    if r.1 then r
    else (false, (s1.poisonLine (dpa / 64)).report kEscalationOverflow 0 0 [(64, dpa), (32, port)])
  else (false, s1.wordLost dpa port err)

/-- R133: the uncorrectable words of a line, one after another; the reader is held once. True where every one of them waits. -/
def State.uncorrectables (s : State) (dpa port : Nat) (err : SymErrors) (ws : List Nat) (rds : List (Reader × Nat)) : Bool × State :=
  ws.foldl (fun (a : Bool × State) w =>
    let r := a.2.uncorrectable w port (a.2.returned dpa err w) false (if ws.head? = some w then rds else [])
    (a.1 && r.1, r.2)) (true, s)

/-- The uncorrectable words of a line that was decoded. -/
def badWords (ws : List (Nat × WordResult)) : List Nat := (ws.filter (fun p => p.2 = .uncorrectable)).map (fun p => p.1)

/-- R119, R121, R130, R134: MEDIA_READ_RETURN: a line returns to a reader. A read of a page that an engine decodes joins its
escalation. -/
def execMediaReadReturn (rd : Reader) (dpa : BitVec 46) (err : SymErrors) (s : State) : Res :=
  let w := s.wordBase dpa.toNat
  if s.fatalAt w then ok (s.poisonTo rd w)
  else
    let ws := s.decodeLine w err
    let s1 := s.countLine ws
    if ws.any (fun p => p.2 = .poison) then ok (s1.poisonTo rd w)
    else
      match badWords ws with
      | [] =>
        if s.med.escEng.any (fun p => p.2.req.page = pageOf w && !p.2.wback) then ok (s1.escalate w false [(rd, w)]).2
        else ok (s1.dataTo rd w)
      | bad =>
        let r := s1.uncorrectables w (readerPort rd) err bad [(rd, w)]
        if r.1 then ok r.2 else ok (r.2.poisonTo rd w)

/-- R131: the plan that triggered an escalation: its context and stream class. -/
def State.trigger (s : State) (r : EscReq) : Option (Nat × Nat) :=
  (r.readers.findSome? (fun rd => s.readerPlan rd.1)).map (fun p => (p.2, s.streamClass p.2))

/-- R131: slots that an engine still waits for. -/
def State.escWaits (s : State) (e : Nat) : Bool := s.cal.slices.any (fun p => p.2.escq.any (fun q => q.eng = e))

/-- R131, R133: ESCALATION_GRANT: a free engine takes the next queued page, locks it, and its reads wait for their slots; `errs`
are the page symbols that they return in error, data symbols first, parity symbols from 2048 on. -/
def execEscalationGrant (errs : List (Nat × BitVec 16)) (s : State) : Res :=
  match s.med.escQueue, (List.range 8).find? (fun e => (Tab.find? s.med.escEng e).isNone) with
  | r :: rest, some e =>
    let g : EscEngine := { req := r, errs := errs, wback := false, taken := 0 }
    let s1 := { s with med := { s.med with escQueue := rest, escEng := Tab.set s.med.escEng e g } }.bump 64 0x3800 5
    ok (s1.takeEscSlots e (s.trigger r) r.scrub (s1.pageSlots r.page true))
  | _, _ => ok s

/-- A read-modify-write whose line is free of errors now: merged and written, or discarded on poison (R137). -/
def State.mergeDone (s : State) (e : MergeEntry) : State :=
  let r := s.readLine e.line
  if r.1.2 then r.2.dropPartial e else r.2.storeLine e.line r.1.1 false

/-- R137: the read-modify-writes that a page's escalation held go on. -/
def State.resumeMerges (s : State) (pg : Nat) : State :=
  (s.med.merge.filter (fun e => e.rmw && e.line * 64 / 4096 = pg)).foldl (fun s e =>
    match s.mergeEntry e.line with | some x => s.mergeDone x | none => s) s

/-- R130, R134: an engine has ended with its page: it is unlocked, and what it held goes on. -/
def State.unlockPage (s : State) (e pg : Nat) : State :=
  (({ s with med := { s.med with escEng := Tab.erase s.med.escEng e } }).releaseHeld pg).resumeMerges pg

/-- R130, R132: ESCALATION_DECODE_DONE: the engine's reads have had their slots; the corrected words, or poison, reach the
readers. -/
def execEscalationDecodeDone (e : Fin 8) (stallNs : Nat) (s : State) : Res :=
  match Tab.find? s.med.escEng e.val with
  | none => ok s
  | some g =>
    if g.wback || s.escWaits e.val then ok s
    else
      let pg := g.req.page
      match (if s.med.noParity.contains pg then none else s.pagePass pg g.errs) with
      | some n =>
        let s1 := s.pageDecoded pg g.req.word n stallNs g.errs
        let s2 := { s1 with med := { s1.med with escEng := Tab.set s1.med.escEng e.val { g with wback := true } } }
        let s3 := s2.takeEscSlots e.val (s.trigger g.req) g.req.scrub (s2.pageSlots pg false)
        ok (g.req.readers.foldl State.serveReader s3)
      | none =>
        let s1 := s.pageFailed pg stallNs g.req.word g.errs
        ok ((g.req.readers.foldl State.serveReader s1).unlockPage e.val pg)

/-- R130: ESCALATION_WRITEBACK_DONE: the corrected page is on the media and unlocked; the write takes an armed flip, and a
moving extent copies the page again (R134, R143). -/
def execEscalationWritebackDone (e : Fin 8) (s : State) : Res :=
  match Tab.find? s.med.escEng e.val with
  | none => ok s
  | some g => if !g.wback || s.escWaits e.val then ok s else ok ((s.pageWritten g.req.page).unlockPage e.val g.req.page)

/-- R128, R129: PARITY_CACHE_WRITEBACK: a dirty line is written back; one whose SEC-DED cannot correct it is lost. -/
def execParityCacheWriteback (line : Nat) (s : State) : Res :=
  match s.med.pcache.find? (fun (l : PcLine) => l.line = line) with
  | none => ok s
  | some l =>
    if l.err ≥ 2 then ok (s.parityLost line (s.wayOf line))
    else if !l.dirty then ok s
    else
      let s1 := { s with med := { s.med with pcache := s.med.pcache.map (fun (l : PcLine) => if l.line = line then { l with dirty := false, err := 0 } else l) } }
      ok (s1.writeParity line l.data)

/-! ### The merge buffer -/

/-- R135: MERGE_HOLD_EXPIRE: the entry is released by read-modify-write. -/
def execMergeHoldExpire (line : BitVec 40) (s : State) : Res := ok (s.releaseMerge line.toNat)

/-- R77, R137: MERGE_RMW_READ_DONE: the read of a release returns, with symbol errors. Poison and a failed escalation discard the
entry; a locked page holds it. -/
def execMergeRmwReadDone (line : BitVec 40) (err : SymErrors) (s : State) : Res :=
  let l := line.toNat
  match s.mergeEntry l with
  | none => ok s
  | some e =>
    if !e.rmw then ok s
    else if s.fatalAt (l * 64) then ok (s.dropPartial e)
    else
      let ws := s.decodeLine (l * 64) err
      let s1 := s.countLine ws
      if ws.any (fun p => p.2 = .poison) then ok (s1.dropPartial e)
      else
        match badWords ws with
        | [] => if s1.pageLocked (pageOf (l * 64)) then ok s1 else ok (s1.mergeDone e)
        | bad =>
          let r := s1.uncorrectables (l * 64) e.req err bad []
          if r.1 then ok r.2 else ok (r.2.dropPartial e)

/-! ### The scrubber and the flip mask -/

/-- R139: code words of a slice. -/
def State.sliceWords (s : State) (k : Nat) : Nat :=
  if k < 32 then s.hbmExtents / 32 * 65536 else s.channelExtents (k - 32) * 32768

/-- The slices of a tier. -/
def tierSlices (t : Nat) : List Nat := if t = 0 then List.range 32 else (List.range 12).map (· + 32)

/-- R77, R139: the code words of a slice that the current lap has passed; a fatal slice is skipped. -/
def State.scrubbed (s : State) (k : Nat) : Nat :=
  if (s.sliceAt k).fatal then s.sliceWords k else (Tab.get s.med.scrub k default).done

/-- R141: the progress of a tier's lap in 1/1000. -/
def State.lapProgress (s : State) (t : Nat) : Nat :=
  let total := ((tierSlices t).map s.sliceWords).sum
  if total = 0 then 0 else ((tierSlices t).map s.scrubbed).sum * 1000 / total

/-- R141: a lap of a tier ends: its duration is reported, and the next begins. -/
def State.endLap (s : State) (t : Nat) : State :=
  let sc := s.med.scrub.filter (fun (p : Nat × Scrub) => !(tierSlices t).contains p.1)
  let s1 := s.setPar 0x3840 (2 + t) ((s.now - Tab.get s.med.lapStart t 0) % 2 ^ 64)
  { s1 with med := { s1.med with scrub := sc, lapLate := s1.med.lapLate.erase t, lapStart := Tab.set s1.med.lapStart t s.now } }.setPar 0x3840 (4 + t) 0

/-- R139-R141: SCRUB_READ_DONE: the word that the scrubber has next on its slice returns. A corrected word is to be written back; an
uncorrectable one is escalated or poison. The tier's last word ends its lap. -/
def execScrubReadDone (sl : Fin 44) (dpa : BitVec 46) (err : SymErrors) (s : State) : Res :=
  let k := sl.val
  let w := s.wordBase dpa.toNat
  let x := Tab.get s.med.scrub k default
  if s.par 0x3840 1 = 0 || (s.sliceAt k).fatal || s.sliceWords k ≤ x.done || s.locate w ≠ (k, x.done * s.wordBytes w) then ok s
  else
    let t := if k < 32 then 0 else 1
    let s0 := { s with med := { s.med with scrub := Tab.set s.med.scrub k { done := x.done + 1 } } }
    let s1 := match s0.decodeWord w err with
      | .data cs =>
        if ((s0.eccMode w).beyond cs).isEmpty then s0
        else ((s0.countCorrected w cs).bump 64 0x3840 7).enqueueBe 10 6 true (s0.wordBytes w) w (.scrubWrite w)
      | .poison => s0.bump 64 0x3840 8
      | .uncorrectable => (s0.uncorrectable w 6 err true []).2
    if (tierSlices t).all (fun j => s1.sliceWords j ≤ s1.scrubbed j) then ok (s1.endLap t)
    else ok (s1.setPar 0x3840 (4 + t) (s1.lapProgress t))

/-- R141: SCRUB_LAP_LATE: a lap runs past SCRUB_LAP_ALARM: one record for it, with the time that it has run, in ns (DESIGN CHOICE:
64 bits; the manual names neither, log entry 160). -/
def execScrubLapLate (tier : Tier) (s : State) : Res :=
  let t := if tier = .hbm then 0 else 1
  let ns := s.now - Tab.get s.med.lapStart t 0
  if s.med.lapLate.contains t || ns ≤ s.par 0x3840 6 * 1000000000 then ok s
  else ok ({ s with med := { s.med with lapLate := t :: s.med.lapLate } }.report kScrubLapLate 0 0 [(32, t), (64, ns)])

/-- R144: a write of SCRUB_ENABLE, OD 0x3840:01. -/
def scrubEnable (v : Nat) : Op := fun s => if v > 1 then refuse stRange s else done (s.setPar 0x3840 1 v)
def execScrubEnableWrite (c : Client) (v : BitVec 8) (s : State) : Res := ok (s.request c 0x3840 1 [v] (scrubEnable v.toNat))

/-- R142, R143: a write of a flip-mask control word, OD 0x3850:02 or 04; refused through a window. -/
def flipControl (c : Client) (tier : Tier) (v : Nat) : Op := fun s =>
  let sub := flipSub (tier = .hbm) + 1
  let dpa := v % 2 ^ 46
  if clientGroup c = 0 then refuse stDenied s
  else if bitAt v 46 && (dpa % (if tier = .hbm then 32 else 64) ≠ 0 || !s.installed dpa || s.onHbm dpa ≠ (tier = .hbm)) then refuse stRange s
  else
    let fired := bitAt (s.par 0x3850 sub) 47 && !bitAt v 47
    done (s.setPar 0x3850 sub (v % 2 ^ 47 + (if fired then 2 ^ 47 else 0)))
def execFlipArm (c : Client) (tier : Tier) (v : BitVec 64) (s : State) : Res :=
  ok (s.request c 0x3850 (flipSub (tier = .hbm) + 1) (leBytes 8 v.toNat) (flipControl c tier v.toNat))

/-! ### Command-address parity (03) -/

/-- R77: a slice becomes fatal: its refresh stops, its entries report it, a record is written. -/
def State.makeFatal (s : State) (k ch incidents : Nat) : State :=
  let s1 := s.modSlice k (fun x => { x with fatal := true, escq := [] })
  let s2 := s1.setPar 0x3070 3 (setBits (s1.par 0x3070 3) k k 1)
  let s3 := if k < 32 then s2.setPar (0x3100 + k / 4) 1 2 else s2.setPar (0x3110 + (k - 32)) 1 3
  s3.report kSliceFatal 0 k [(32, ch), (32, incidents)]

/-- R76: slots of 200 ns, within which a channel clears its device's error state and replays (log entry 161). -/
def replaySlots : Nat := 50

/-- R76: the commands of a retry buffer that may not have been accepted: an alert is sampled within 40 ns, 10 slots, of its command;
oldest first. -/
def unaccepted (now : Nat) (l : List (Nat × DramCmd)) : List DramCmd :=
  ((l.filter (fun c => now ≤ c.1 + 10)).map (fun c => c.2)).reverse

/-- R76, R77: CA_PARITY_ALERT: the channel stops issuing, clears its device's error state and replays from its retry buffer; a
third replay that alerts makes the slice fatal. -/
def execCaParityAlert (sl : Fin 44) (ch : Fin 8) (s : State) : Res :=
  let k := sl.val
  let x := s.sliceAt k
  if x.fatal || !x.trained || !(sliceChannels k).contains ch.val then ok s
  else
    let n := match Tab.find? x.incident ch.val with
      | some (n, t) => if s.now < t + 4096 then n + 1 else 1
      | none => 1
    let more := if n = 1 then Tab.get x.incidents ch.val 0 + 1 else Tab.get x.incidents ch.val 0
    let s1 := (s.modSlice k (fun x => { x with
      incident := Tab.set x.incident ch.val (n, s.now), incidents := Tab.set x.incidents ch.val more })).bump 32 0x3070 1
    if n ≥ 4 then ok (s1.makeFatal k ch.val more)
    else
      let s2 := (s1.modSlice k (fun x => { x with stopUntil := Tab.set x.stopUntil ch.val (s.cal.ticks + replaySlots) })).bump 32 0x3070 2
      ok (s2.emit (.caReplay k ch.val (unaccepted s.cal.ticks (Tab.get x.retry ch.val []))))

end Machine
end Sys2Proof
end

