-- ==== Sys2Proof/Machine/Regions.lean ====
section
/-! DEFINITION. Software-coherent regions, publishing and the migration engine (12). -/

namespace Sys2Proof
namespace Machine

/-! ### Shared regions -/

/-- R333: the parts of region `r` as DPA ranges (first, after last): its banks, its record, its publish lines. -/
def State.regionBanks (s : State) (r : Nat) : List (Nat × Nat) :=
  let b := (s.tenantAt (s.par (0x5A00 + r) 1)).base.toNat + s.par (0x5A00 + r) 2
  let n := s.par (0x5A00 + r) 3
  (List.range (s.par (0x5A00 + r) 4)).map (fun k => (b + k * n, b + (k + 1) * n))
def State.regionRecord (s : State) (r : Nat) : Nat × Nat := (s.recordDpa r, s.recordDpa r + 64)
def State.regionPublish (s : State) (r : Nat) : Nat × Nat :=
  let b := (s.tenantAt (s.par (0x5A00 + r) 1)).base.toNat + s.par (0x5A00 + r) 6
  (b, b + 256)
def State.regionParts (s : State) (r : Nat) : List (Nat × Nat) :=
  s.regionPublish r :: s.regionRecord r :: s.regionBanks r

/-- Two ranges share no byte. -/
def apart (a b : Nat × Nat) : Bool := a.2 ≤ b.1 || b.2 ≤ a.1 || a.1 = a.2 || b.1 = b.2

/-- R333: a region may be enabled. -/
def State.regionGood (s : State) (r : Nat) : Bool :=
  let t := s.par (0x5A00 + r) 1
  let x := s.tenantAt t
  let lo := x.base.toNat
  let mid := lo + x.dbSize.toNat
  let hi := lo + x.size.toNat
  let win := (lo + s.par (0x5900 + t) 1, lo + s.par (0x5900 + t) 1 + 64 * s.par (0x5900 + t) 2)
  let parts := s.regionParts r
  x.state = 2 && !x.stopping
    && s.par (0x5A00 + r) 2 % 2 ^ 21 = 0 && s.par (0x5A00 + r) 3 % 2 ^ 21 = 0 && s.par (0x5A00 + r) 5 % 64 = 0
    && s.par (0x5A00 + r) 6 % 256 = 0
    && (s.regionRecord r :: s.regionBanks r).all (fun p => mid ≤ p.1 && p.2 ≤ hi)
    && lo ≤ (s.regionPublish r).1 && (s.regionPublish r).2 ≤ mid && apart (s.regionPublish r) win
    && (List.range parts.length).all (fun i => (List.range parts.length).all (fun j =>
      i = j || (match parts[i]?, parts[j]? with | some a, some b => apart a b | _, _ => true)))
    && s.reg.enabled.all (fun q => (s.regionParts q).all (fun a => parts.all (fun b => apart a b)))

/-- R333: a write of REGION_COMMAND, OD 0x5Arr:0C. -/
def regionCommand (r v : Nat) : Op := fun s =>
  let on := s.reg.enabled.contains r
  let enable (s : State) : State := { s with reg := { s.reg with enabled := addNew s.reg.enabled r } }
  match v with
  | 1 => if on then refuse stState s else if !s.regionGood r then refuse stRange s else done (enable s)
  | 2 =>
    if on then refuse stState s else if !s.regionGood r then refuse stRange s
    else done (enable (s.storeRaw (s.recordDpa r / 64) (List.replicate 64 0)))
  | 3 => if on then done { s with reg := { s.reg with enabled := s.reg.enabled.erase r } } else refuse stState s
  | _ => refuse stRange s

/-- R333: REGION_ENABLE, REGION_ENABLE_FRESH, REGION_DISABLE. -/
def execRegionEnable (c : Client) (r : Fin 256) (s : State) : Res := ok (s.request c (0x5A00 + r.val) 12 [1] (regionCommand r.val 1))
def execRegionEnableFresh (c : Client) (r : Fin 256) (s : State) : Res := ok (s.request c (0x5A00 + r.val) 12 [2] (regionCommand r.val 2))
def execRegionDisable (c : Client) (r : Fin 256) (s : State) : Res := ok (s.request c (0x5A00 + r.val) 12 [3] (regionCommand r.val 3))

/-- The agent that a publisher identity names (R333). -/
def State.publisherAgent (s : State) (who : Nat) : Agent :=
  if who < 4096 then .host (Fin.ofNat 4096 who)
  else
    match (List.range 32).find? (fun k => (s.physical k).bind s.runningOn = some (who - 0x8000)) with
    | some k => .vat (Fin.ofNat 32 k)
    | none => .other 13

/-- R337, R338: PUBLISH_DESCRIPTOR: a publisher writes a descriptor to the publish line of a bank. -/
def execPublishDescriptor (who : BitVec 16) (r : Fin 256) (bank : Fin 4) (desc : BitVec 512) (s : State) : Res :=
  let line := (s.regionPublish r.val).1 / 64 + bank.val
  if !s.isHdmDb (line * 64) then ok s
  else ok (s.runPublish (s.publisherAgent who.toNat) who.toNat r.val bank.val line desc)

/-! ### Armour parity blocks -/

/-- R124: the blocks of a tier that are in use, extent `e` apart, those of moves in flight among them. -/
def State.armourUsed (s : State) (tier e : Nat) : List (Nat × Nat) :=
  let held := (List.range s.tenantTop).filterMap (fun i =>
    if i ≠ e && bit (s.tierEntry i) 21 = (tier = 1) && (s.armourBlock i).2 ≠ 0 then some (s.armourBlock i) else none)
  let moving := (s.reg.moves.filter (fun m => m.extent ≠ e && !m.zero && bit m.dest 21 = (tier = 1))).map (fun m =>
    (m.unit, armourUnits (bits m.dest 27 25)))
  held ++ moving

/-- R124: what a tier-map entry's parity must stay off: its channel, or the slice of a HOME extent. -/
def ownPlace (m : BitVec 32) : Option Nat :=
  if bit m 21 then some (bits m 20 17) else if bit m 22 then none else some (bits m 4 0)

/-- R46, R124: the first place of `n` units in a tier's region, for extent `e` on media `m`; off its own slice or channel, unless
the whole region lies there (log entry 149). -/
def State.armourPlace (s : State) (tier e n : Nat) (m : BitVec 32) : Option Nat :=
  if n = 0 then some 0
  else
    let avoid := (ownPlace m).filter (fun a => (List.range (s.armourExtents tier * 256)).any (fun u => s.unitPlace tier u ≠ a))
    s.firstFit tier n (s.armourUsed tier e) avoid

/-- The block of an extent is set. -/
def State.setBlock (s : State) (e u n : Nat) : State :=
  { s with med := { s.med with armour := (e, u, n) :: s.med.armour.filter (fun x => x.1 ≠ e) } }

/-! ### Work lists (R343-R345) -/

/-- Bytes from a line-aligned DPA, line by line; zeros of a poisoned one. -/
def State.peekLines : Nat → Nat → State → Option (List (BitVec 8)) × State
  | 0, _, s => (some [], s)
  | n + 1, line, s =>
    let a := s.peekLine line 8
    match a.1 with
    | none => (none, a.2)
    | some x =>
      let b := State.peekLines n (line + 1) a.2
      (b.1.map (fun y => (if x.2 then List.replicate 64 0 else x.1) ++ y), b.2)

/-- R343: the engine reads the header of a tenant's table, and its entries where GEN changed. DESIGN CHOICE: a poisoned header is
not taken, the entries of a poisoned line cover nothing, and a table of no entries asks for nothing (log entry 185). -/
def State.readRat (s : State) (t : Nat) : State :=
  let n := s.par (0x5C00 + t) 2
  let x := s.tenantAt t
  if n = 0 then { s with reg := { s.reg with rat := Tab.erase s.reg.rat t } }
  else if x.state ≠ 2 then s
  else
    let first := (x.base.toNat + s.par (0x5C00 + t) 1) / 64
    let h := s.peekLine first 8
    match h.1 with
    | none => h.2
    | some (hd, bad) =>
      let gen := BitVec.ofNat 32 (leNat (hd.take 4))
      if bad || gen = (Tab.get s.reg.rat t default).gen then h.2
      else
        let b := State.peekLines (ceilDiv n 8) (first + 1) h.2
        match b.1 with
        | none => b.2
        | some bs =>
          let es := (wordsOf 8 (bs.take (8 * n))).map (BitVec.ofNat 64)
          { b.2 with reg := { b.2.reg with rat := Tab.set b.2.reg.rat t { gen := gen, entries := es } } }

/-- R344: an entry of a table whose partition has `n` extents keeps the layout. -/
def ratGood (n : Nat) (v : BitVec 64) : Bool :=
  bits v 63 54 = 0 && bits v 41 21 ≠ 0 && bits v 20 0 + bits v 41 21 ≤ n && bits v 44 42 ≤ 5 && bits v 47 45 ≠ 5 && bits v 47 45 ≠ 6

/-- R345: the entry that governs extent `i` of a partition, counted from its base: the last that covers it. -/
def governing (n i : Nat) (es : List (BitVec 64)) : Option (BitVec 64) :=
  match es.reverse.find? (fun v => bits v 20 0 ≤ i && i < bits v 20 0 + bits v 41 21) with
  | some v => if ratGood n v then some v else none
  | none => none

/-- What an extent is to become: the order of its kind (0 HOT, 1 STREAM, 2 COLD, 3 ARMOUR only), tier, layout, the slice or
channel if one is required, and ARMOUR. -/
structure Want where
  kind   : Nat
  tier   : Nat
  home   : Bool
  place  : Option Nat
  armour : Nat
  deriving DecidableEq, Repr

/-- R344, R345: what an entry asks of extent `i` of its partition, whose tier-map entry is `m`; none where it is there. -/
def State.want (s : State) (v : BitVec 64) (i : Nat) (m : BitVec 32) : Option Want :=
  let cur := bits m 27 25
  let ddr := bit m 21
  let ask (ddr : Bool) : Nat :=
    let a := if bits v 47 45 = 7 then cur else bits v 47 45
    if ddr && s.ringClass = 0 && a < 3 then 3 else a
  let stay := if ask ddr = cur then none else some { kind := 3, tier := if ddr then 1 else 0, home := false, place := none, armour := ask ddr }
  match bits v 44 42 with
  | 1 =>
    let home := bit v 48
    if !ddr && home = !bit m 22 && (!home || bits m 4 0 = bits v 53 49) then stay
    else some { kind := 0, tier := 0, home := home, place := if home then some (bits v 53 49) else none, armour := ask false }
  | 3 => if ddr then stay else some { kind := 2, tier := 1, home := false, place := none, armour := ask true }
  | 4 =>
    let chs := (List.range 12).filter (fun c => (s.sliceAt (32 + c)).trained)
    match chs[(i - bits v 20 0) % chs.length]? with
    | none => none
    | some c =>
      if ddr && bits m 20 17 = c then stay
      else some { kind := 1, tier := 1, home := false, place := some c, armour := ask true }
  | _ => stay

/-! ### Moves (R346, R347) -/

/-- R346: a DPA extent whose media may take a move: MAPPED, in no partition but a FREE one, and in no move. -/
def State.unowned (s : State) (e : Nat) : Bool :=
  e < s.tenantTop && (s.owner (e * 2 ^ 21)).isNone && bits (s.tierEntry e) 24 23 = 1 && !s.reg.moves.any (fun m => m.partner = e || m.extent = e)

/-- R39, R346: all 32 extents of an HBM row are unowned: none of them is owned or DEVICE. -/
def State.rowFree (s : State) (row : Nat) : Bool :=
  let mine := (List.range s.tenantTop).filter (fun e => !bit (s.tierEntry e) 21 && bits (s.tierEntry e) 20 5 = row)
  mine.length = 32 && mine.all s.unowned

/-- R346: the unowned DPA extent whose media a wanted place takes, lowest first. -/
def State.destination (s : State) (w : Want) : Option Nat :=
  (List.range s.tenantTop).find? (fun e =>
    let m := s.tierEntry e
    s.unowned e && (bit m 21 = (w.tier = 1))
      && (if w.tier = 1 then w.place.all (fun c => bits m 20 17 = c)
        else w.place.all (fun k => bits m 4 0 = k) && (bit m 22 = !w.home || s.rowFree (bits m 20 5))))

/-- The tier-map entry of an extent. -/
def State.setEntry (s : State) (e : Nat) (v : BitVec 32) : State :=
  { s with med := { s.med with tier := Tab.set s.med.tier e v } }

/-- R346: a row of unowned extents takes a layout. -/
def State.setRow (s : State) (row : Nat) (home : Bool) : State :=
  (List.range s.tenantTop).foldl (fun s e =>
    let m := s.tierEntry e
    if !bit m 21 && bits m 20 5 = row && bit m 22 = home then s.setEntry e (BitVec.ofNat 32 (setBits m.toNat 22 22 (if home then 0 else 1)))
    else s) s

/-- A plan has the extent pinned for writing: one whose invocation has not ended, or (`bare`) any that holds the pin without
ARMOURED (R214, R348). -/
def State.writePinned (s : State) (e : Nat) (bare : Bool) : Bool :=
  s.ctxs.any (fun p => (bare || p.2.phase = .running || p.2.phase = .resuming || p.2.state = 2)
    && (s.writeExtents p.1 bare).any (fun r => r.1 ≤ e && e ≤ r.2))

/-- R347, step 1: a move of extent `e` to the media of DPA extent `p` starts on a channel. -/
def State.startMove (s : State) (ch e p : Nat) (w : Want) (unit : Nat) : State :=
  let src := s.tierEntry e
  let pm := s.tierEntry p
  let s1 := if w.kind ≠ 3 && w.tier = 0 && bit pm 22 = w.home then s.setRow (bits pm 20 5) w.home else s
  let dst := if w.kind = 3 then src else s1.tierEntry p
  let into := BitVec.ofNat 32 (setBits (setBits dst.toNat 24 23 1) 27 25 w.armour)
  let m : Move := { extent := e, ch := ch, source := src, dest := into, partner := p, round := 1, dirty := [], zero := false, unit := unit }
  let s2 := s1.setEntry e (BitVec.ofNat 32 (setBits src.toNat 24 23 2))
  { s2 with reg := { s2.reg with moves := s2.reg.moves ++ [m] } }

/-- R346, R349: one wanted change on a free channel: started, or blocked (false). -/
def State.tryMove (s : State) (ch t e : Nat) (w : Want) (es : List (BitVec 64)) : Bool × State :=
  let change := w.armour ≠ bits (s.tierEntry e) 27 25
  let go (e : Nat) (w : Want) (p : Nat) : Option State :=
    let home := if w.kind = 3 then s.tierEntry e
      else BitVec.ofNat 32 (setBits (s.tierEntry p).toNat 22 22 (if w.home then 0 else 1))
    (s.armourPlace w.tier e (armourUnits w.armour) home).map (fun u => s.startMove ch e p w u)
  if change && s.writePinned e true then (false, s)
  else if w.kind = 3 then (match go e w e with | some r => (true, r) | none => (false, s))
  else
    match s.destination w with
    | some p => (match go e w p with | some r => (true, r) | none => (false, s))
    | none =>
      if w.kind ≠ 0 then (false, s)
      else
        let x := s.tenantAt t
        let lo := x.base.toNat / 2 ^ 21
        let n := x.size.toNat / 2 ^ 21
        match ((List.range n).reverse.find? (fun i =>
          (governing n i es).any (fun v => bits v 44 42 = 2) && !bit (s.tierEntry (lo + i)) 21
            && bits (s.tierEntry (lo + i)) 24 23 = 1)) with
        | none => (false, s)
        | some i =>
          let a := bits (s.tierEntry (lo + i)) 27 25
          let down : Want := { kind := 2, tier := 1, home := false, place := none, armour := if s.ringClass = 0 && a < 3 then 3 else a }
          if down.armour ≠ a && s.writePinned (lo + i) true then (false, s)
          else
            match (s.destination down).bind (go (lo + i) down) with
            | some r => (true, r)
            | none => (false, s)

/-- R347: the changes of a kind that the work lists ask for: tenants ascending, extents ascending. -/
def State.wanted (s : State) (kind : Nat) : List (Nat × Nat × Want × List (BitVec 64)) :=
  s.reg.rat.flatMap (fun (p : Nat × Rat) =>
    let x := s.tenantAt p.1
    let lo := x.base.toNat / 2 ^ 21
    let n := x.size.toNat / 2 ^ 21
    if x.state ≠ 2 then []
    else (List.range n).filterMap (fun i =>
      let m := s.tierEntry (lo + i)
      if bits m 24 23 ≠ 1 || s.reg.backoff.contains (lo + i) then none
      else
        match governing n i p.2.entries with
        | none => none
        | some v =>
          match s.want v i m with
          | some w => if w.kind = kind then some (p.1, lo + i, w, p.2.entries) else none
          | none => none))

/-- The migration channels that carry no move. -/
def State.freeChannels (s : State) : List Nat :=
  (onesOf 16 (s.par 0x3080 1)).filter (fun c => !s.reg.moves.any (fun m => m.ch = c) && (s.copyAt c).queue = [])

/-- R346, R347: the moves that a frame boundary starts; those that wait for a destination count as blocked. -/
def State.startMoves (s : State) : State :=
  if s.par 0x5B00 6 = 0 then s
  else
    [0, 1, 2, 3].foldl (fun s kind =>
      (s.wanted kind).foldl (fun s q =>
        match s.freeChannels with
        | [] => s
        | ch :: _ =>
          if bits (s.tierEntry q.2.1) 24 23 ≠ 1 then s
          else
            let r := s.tryMove ch q.1 q.2.1 q.2.2.1 q.2.2.2
            if r.1 then r.2 else r.2.bump 64 0x5B00 3) s) s

/-- R343, R347: what the migration engine does at a frame boundary. -/
def State.migrationFrame (s : State) : State := ((List.range 256).foldl State.readRat s).startMoves

/-- The lines of a DPA extent. -/
def extentLines (e : Nat) : List Nat := (List.range 32768).map (fun i => e * 32768 + i)

/-- R143, R347, R428: an extent's media is filled with zero: its lines leave every other state, its parity follows, and an armed
flip is taken. -/
def State.zeroExtent (s : State) (e : Nat) : State :=
  let lo := e * 32768
  let hi := lo + 32768
  let inside (l : Nat) : Bool := lo ≤ l && l < hi
  let s1 := { s with med := { s.med with
    mem := Mem.zero s.med.mem (e * 2 ^ 21) (2 ^ 21), poison := s.med.poison.filter (fun l => !inside l),
    keyTag := s.med.keyTag.filter (fun p => !inside (p.1 / 2)), serr := s.med.serr.filter (fun p => !inside (p.1 / 64)),
    merge := s.med.merge.filter (fun e => !inside e.line),
    washed := s.med.washed.flatMap (fun (r : Nat × Nat × Nat) => [(r.1, Nat.min r.2.1 lo, r.2.2), (Nat.max r.1 hi, r.2.1, r.2.2)].filter (fun (q : Nat × Nat × Nat) => q.1 < q.2.1)) } }
  (s1.freshBlock e).flipRange lo hi

/-- The move of a channel. -/
def State.moveOn (s : State) (ch : Nat) : Option Move := s.reg.moves.find? (fun m => m.ch = ch)

/-- The move of a channel leaves the list, or changes. -/
def State.dropMove (s : State) (m : Move) : State := { s with reg := { s.reg with moves := s.reg.moves.filter (fun x => x.ch ≠ m.ch) } }
def State.putMove (s : State) (m m' : Move) : State :=
  { s with reg := { s.reg with moves := s.reg.moves.map (fun x => if x.ch = m.ch then m' else x) } }

/-- R407: the ring parity of an extent's media follows a change of what it stores. -/
def State.mediaDeltas (s : State) (e : Nat) (old new : Nat → List (BitVec 8)) : State :=
  if s.ringClass = 0 then s
  else (List.range 32768).foldl (fun s i => s.sendDeltas (e * 2 ^ 21 + i * 64) (xorBytes (old i) (new i)) false) s

/-- R347, step 4: a move is abandoned: its entry is MAPPED on the source again, the destination is zero-filled. -/
def State.abandonMove (s : State) (m : Move) : State :=
  let s1 := (s.dropMove m).setEntry m.extent (BitVec.ofNat 32 (setBits m.source.toNat 24 23 1))
  let old := fun i => s1.storedBytes (m.partner * 32768 + i)
  let s2 := if m.partner = m.extent then s1
    else (s1.mediaDeltas m.partner old (fun _ => List.replicate 64 0)).zeroExtent m.partner
  s2.bump 32 0x5B00 4

/-- R214, R348: what holds a move back from its final pass: a plan that may write the extent while it runs, or a change of ARMOUR
under a pin without ARMOURED. -/
def State.moveHeld (s : State) (m : Move) : Bool :=
  s.writePinned m.extent false || (bits m.dest 27 25 ≠ bits m.source 27 25 && s.writePinned m.extent true)

/-- R347, R348: MIGRATION_ROUND_DONE: the next round, the final pass, or the move is abandoned. -/
def execMigrationRoundDone (n : Fin 16) (s : State) : Res :=
  match s.moveOn n.val with
  | none => ok s
  | some m =>
    if m.zero || m.round > 4 then ok s
    else if m.round < 4 then ok (s.putMove m { m with round := m.round + 1, dirty := [] })
    else if s.moveHeld m then ok (s.putMove m { m with dirty := [] })
    else if m.dirty.length > 64 then
      let s1 := s.abandonMove m
      let s2 := { s1 with reg := { s1.reg with backoff := addNew s1.reg.backoff m.extent } }
      ok (s2.reportTenant kMigrationAbandoned (s.owner (m.extent * 2 ^ 21)) 0 [(32, m.extent), (32, m.dirty.length)])
    else ok (s.putMove m { m with round := 5 })

/-- R118-R121, R130, R347: the words of an extent that hold errors, as the copy reads them: corrected, recovered, or poison. Copied
elsewhere they leave the errors behind. -/
def State.copyWords (s : State) (e : Nat) (inPlace : Bool) : State :=
  (s.med.serr.filter (fun p => p.1 / 2 ^ 21 = e)).foldl (fun s p =>
    let s1 := (s.readWord p.1 8 (s.decodeWord p.1 [])).2
    if inPlace then s1 else { s1 with med := { s1.med with serr := Tab.erase s1.med.serr p.1 } }) s

/-- R77, R121: the lines of an extent that lie on fatal slices, which read as poison. -/
def State.fatalLines (s : State) (e : Nat) : List Nat :=
  if s.cal.slices.any (fun p => p.2.fatal) then (extentLines e).filter (fun l => s.fatalAt (l * 64) && !s.isPoison l) else []

/-- ARMOUR of a block of units. -/
def armourOf (units : Nat) : Nat := match units with | 1 => 1 | 2 => 2 | 4 => 3 | 8 => 4 | _ => 0

/-- R124, R346: the unowned extent that takes vacated media keeps its ARMOUR, in class S on DDR at least 3, where the region of
that tier holds the block; else it has none (log entry 162). -/
def State.swapBlock (s : State) (m : Move) : State :=
  let ar := bits (s.tierEntry m.partner) 27 25
  let want := if bit m.source 21 && s.ringClass = 0 && ar < 3 then 3 else ar
  let n := armourUnits want
  match s.armourPlace (if bit m.source 21 then 1 else 0) m.partner n m.source with
  | some u => s.setBlock m.partner u n
  | none => s.setBlock m.partner 0 0

/-- R347, step 5, R349: MIGRATION_FINAL_PASS_DONE: the entry is MAPPED on the destination, with fresh parity. The ring parity gives
up what the vacated media held (log entry 162). -/
def execMigrationFinalPassDone (n : Fin 16) (s : State) : Res :=
  match s.moveOn n.val with
  | none => ok s
  | some m =>
    if m.zero || m.round ≠ 5 || s.moveHeld m then ok s
    else
      let own := m.partner = m.extent
      let s0 := (s.copyWords m.extent own).bump 64 0x5B00 2
      let units := armourUnits (bits m.dest 27 25)
      if own then ok ((((s0.dropMove m).setEntry m.extent m.dest).setBlock m.extent m.unit units).freshBlock m.extent)
      else
        let data := fun i => s0.storedBytes (m.extent * 32768 + i)
        let zero := fun (_ : Nat) => List.replicate 64 (0 : BitVec 8)
        let s1 := (s0.mediaDeltas m.partner (fun i => s0.storedBytes (m.partner * 32768 + i)) data).mediaDeltas m.extent data zero
        let s2 := (((s1.setBlock m.extent m.unit units).swapBlock m).setEntry m.extent m.dest).putMove m { m with zero := true }
        ok ((s0.fatalLines m.extent).foldl State.poisonLine (s2.freshBlock m.extent))

/-- R347, step 6: MIGRATION_ZERO_FILL_DONE: the vacated media is zero and the unowned extent is mapped to it. -/
def execMigrationZeroFillDone (n : Fin 16) (s : State) : Res :=
  match s.moveOn n.val with
  | none => ok s
  | some m =>
    if !m.zero then ok s
    else
      let v := BitVec.ofNat 32 (setBits (setBits m.source.toNat 24 23 1) 27 25 (armourOf (s.armourBlock m.partner).2))
      ok (((s.dropMove m).setEntry m.partner v).zeroExtent m.partner)

/-- R347: MIGRATION_BACKOFF_EXPIRE: an abandoned extent may be tried again. -/
def execMigrationBackoffExpire (extent : Fin 1835008) (s : State) : Res :=
  ok { s with reg := { s.reg with backoff := s.reg.backoff.erase extent.val } }

end Machine
end Sys2Proof
end

