-- ==== Sys2Proof/Machine/Partitions.lean ====
section
/-! DEFINITION. Tenant partitions (02, 15) and the copy channels (03). -/

namespace Sys2Proof
namespace Machine

/-! ### Copies -/

/-- R79: the service's checks of a request. -/
def State.copyGood (s : State) (d : BitVec 256) : Bool :=
  cpySrc d % 64 = 0 && cpyDst d % 64 = 0 && cpyLen d % 64 = 0 && cpyLen d ≠ 0 && cpyDone d % 8 = 0
    && (!s.isLocal (cpyDone d) || s.owner (ppaDpa (cpyDone d)) = some (cpyTenant d))

/-- R79, R415: the channels that take requests, the one with the shortest queue first. -/
def State.copyChannel (s : State) : Option Nat :=
  let cs := (List.range 16).filter (fun n => !bitAt (s.par 0x3080 1) n && !(s.ringClass ≠ 0 && 7 ≤ n && n ≤ 13) && (s.copyAt n).queue.length < 256)
  match cs with
  | [] => none
  | c :: rest => some (rest.foldl (fun m n => if (s.copyAt n).queue.length < (s.copyAt m).queue.length then n else m) c)

/-- R79: a write of COPY_REQUEST, OD 0x3080:02: the channel's number, or BUSY. -/
def copyRequest (d : BitVec 256) : Op := fun s =>
  if !s.copyGood d then refuse stRange s
  else
    match s.copyChannel with
    | none => refuse stBusy s
    | some n =>
      let first := (s.copyAt n).queue = []
      let s1 := s.modCopy n (fun c => { c with queue := c.queue ++ [d] })
      (stOk, n, if first then s1.copyStart n else s1)

/-- R79: COPY_REQUEST. -/
def execCopyRequest (c : Client) (desc : BitVec 256) (s : State) : Res :=
  ok (s.request c 0x3080 2 (leBytes 32 desc.toNat) (copyRequest desc))

/-- R81: COPY_LINE_POISON: the lines below the first poisoned one are copied, and the channel halts. -/
def execCopyLinePoison (n : Fin 16) (s : State) : Res :=
  let c := s.copyAt n.val
  match c.queue with
  | [] => ok s
  | d :: _ =>
    if c.state ≠ 1 || !s.copyRights d then ok s
    else
      let r := State.copyRun n.val c.left s
      if r.1 then ok (r.2.haltCopy n.val) else ok s

/-- R80, R82: COPY_COMPLETE: the lines that are left are copied, and the completion word is written last; not before other chips
have answered for the rights. -/
def execCopyComplete (n : Fin 16) (s : State) : Res :=
  let c := s.copyAt n.val
  match c.queue with
  | [] => ok s
  | d :: _ =>
    if c.state ≠ 1 then ok s
    else if c.done = 0 && !s.copyRights d then ok (s.copyEnd n.val 3)
    else if c.probes ≠ [] then ok s
    else
      let r := State.copyRun n.val c.left s
      if r.1 then ok (r.2.haltCopy n.val)
      else if (r.2.copyAt n.val).left ≠ 0 || r.2.pool.reqs.any (fun q => q.owner = some (.copy n)) then ok r.2
      else ok (r.2.copyEnd n.val (if c.skipped = 0 then 0 else 4))

/-- R81: a write of COPY_COMMAND, OD 0x318n:02. -/
def copyCommand (n v : Nat) : Op := fun s =>
  let c := s.copyAt n
  if v = 0 || v > 3 then refuse stRange s
  else if c.state ≠ 2 then refuse stState s
  else
    match c.queue with
    | [] => refuse stState s
    | d :: _ =>
      let src := cpySrc d + c.done
      match v with
      | 1 =>
        let r := s.peekLine (ppaDpa src / 64) copyPort
        if s.isLocal src && r.1.any (fun x => x.2) then done (r.2.haltCopy n)
        else done ((s.modCopy n (fun c => { c with state := 1 })).copyFetch n)
      | 2 =>
        let s1 := s.copyLine n d c.done none
        done ((s1.modCopy n (fun c => { c with state := 1, done := c.done + 64, skipped := (c.skipped + 1) % 2 ^ 32 })).copyFetch n)
      | _ => done (s.copyEnd n 2)

/-- R81: COPY_RESUME, COPY_SKIP, COPY_ABORT. -/
def execCopyResume (c : Client) (n : Fin 16) (s : State) : Res := ok (s.request c (0x3180 + n.val) 2 [1] (copyCommand n.val 1))
def execCopySkip (c : Client) (n : Fin 16) (s : State) : Res := ok (s.request c (0x3180 + n.val) 2 [2] (copyCommand n.val 2))
def execCopyAbort (c : Client) (n : Fin 16) (s : State) : Res := ok (s.request c (0x3180 + n.val) 2 [3] (copyCommand n.val 3))

/-- R434, R496: every copy of a tenant ends with STATUS 2. -/
def State.endCopies (s : State) (t : Nat) : State :=
  (List.range 16).foldl (fun s n =>
    let q := (s.copyAt n).queue
    let mine := q.filter (fun d => cpyTenant d = t)
    if mine.isEmpty then s
    else
      let head := q.head?.any (fun d => cpyTenant d = t)
      let s1 := mine.foldl (fun s d => s.completionWord d 2 (if q.head? = some d then (s.copyAt n).skipped else 0)) s
      let s2 := s1.modCopy n (fun c => { c with queue := q.filter (fun d => cpyTenant d ≠ t) })
      if head then s2.copyStart n else s2) s

/-! ### Partitions -/

/-- R363: a glaze window's key is withdrawn. -/
def State.withdrawGlaze (s : State) (w : Nat) : State := s.modGlaze w (fun g => { g with key := none, armed := false })

/-- R429, R430: a tenant's key slot is rotated, where keys can be drawn; else the wash waits for it. -/
def State.rotateKey (s : State) (t : Nat) : State :=
  if s.sec.entropy ≠ 0 then s.modTenant t (fun x => { x with keyWait := true })
  else s.modTenant t (fun x => { x with keyGen := x.keyGen + 1, keyWait := false })

/-- R506, R434: the contexts, copies and moves of a tenant are reset. -/
def State.resetTenantWork (s : State) (t : Nat) : State :=
  let ks := (s.ctxs.map (fun (p : Nat × Ctx) => p.1)).filter (fun k => s.ctxTenant k = t)
  let s1 := ks.foldl (fun s k => s.resetContext k) s
  let s2 := s1.endCopies t
  (s2.reg.moves.filter (fun m => !m.zero && s2.owner (m.extent * 2 ^ 21) = some t)).foldl (fun s m => s.abandonMove m) s2

/-- R434: steps 1 and 2 of the wash of a partition. -/
def State.release (s : State) (t : Nat) : State :=
  let s1 := s.resetTenantWork t
  let s2 := (List.range 64).foldl (fun s w =>
    if s.par (0x5100 + w) 1 = t then (s.withdrawGlaze w).setPar (0x5100 + w) 5 0 else s) s1
  let s3 := (s2.modTenant t (fun x => { x with state := 3, washAt := s.now, washed := 0 })).setPar (0x4900 + t) 9 0
  s3.rotateKey t

/-- R28, R32, R33: a write of a partition's COMMAND, OD 0x49tt:08. -/
def partitionCommand (t v : Nat) : Op := fun s =>
  let x := s.tenantAt t
  match v with
  | 1 =>
    if x.state ≠ 1 then refuse stState s
    else if s.ringClass ≠ 0 && s.sec.ringKey.isNone then refuse stDenied s
    else if s.pool.rebuild.st ≠ 0 && s.pool.rebuild.st ≠ 5 then refuse stState s
    else done (s.modTenant t (fun x => { x with state := 2, stopping := false }))
  | 2 =>
    if x.state ≠ 2 || x.stopping then refuse stState s
    else done ((s.modTenant t (fun x => { x with stopping := true })).settleTenant t)
  | 3 => if x.state ≠ 1 then refuse stState s else done (s.release t)
  | 4 =>
    if x.state ≠ 0 then refuse stState s
    else if x.size = 0 || !s.partitionFits t x.base.toNat x.size.toNat x.dbSize.toNat then refuse stRange s
    else done (s.modTenant t (fun x => { x with state := 1, stopping := false }))
  | _ => refuse stRange s

/-- R32: PARTITION_ACTIVATE, PARTITION_STOP, PARTITION_RELEASE, PARTITION_ALLOCATE. -/
def execPartitionActivate (c : Client) (t : Fin 256) (s : State) : Res := ok (s.request c (0x4900 + t.val) 8 [1] (partitionCommand t.val 1))
def execPartitionStop (c : Client) (t : Fin 256) (s : State) : Res := ok (s.request c (0x4900 + t.val) 8 [2] (partitionCommand t.val 2))
def execPartitionRelease (c : Client) (t : Fin 256) (s : State) : Res := ok (s.request c (0x4900 + t.val) 8 [3] (partitionCommand t.val 3))
def execPartitionAllocate (c : Client) (t : Fin 256) (s : State) : Res := ok (s.request c (0x4900 + t.val) 8 [4] (partitionCommand t.val 4))

/-- R77, R434: the lines of a range that lie on fatal slices, which a wash skips. -/
def State.skippedLines (s : State) (lo n : Nat) : Nat :=
  if s.cal.slices.any (fun p => p.2.fatal) then ((List.range n).filter (fun i => s.fatalAt ((lo + i) * 64))).length else 0

/-- R143, R434, step 3: every line of a partition is zero plaintext under the tenant's key, those of fatal slices apart; armoured
pages take fresh parity. -/
def State.washLines (s : State) (t : Nat) : State :=
  let x := s.tenantAt t
  let lo := x.base.toNat / 64
  let hi := (x.base.toNat + x.size.toNat) / 64
  let inside (l : Nat) : Bool := lo ≤ l && l < hi
  let key := s.keyOf x.base.toNat
  let s1 := { s with med := { s.med with
    mem := Mem.zero s.med.mem x.base.toNat x.size.toNat, poison := s.med.poison.filter (fun l => !inside l || s.fatalAt (l * 64)),
    keyTag := s.med.keyTag.filter (fun p => !inside (p.1 / 2)), serr := s.med.serr.filter (fun p => !inside (p.1 / 64)),
    merge := s.med.merge.filter (fun e => !inside e.line), washed := (lo, hi, key) :: s.med.washed } }
  let s2 := (List.range (x.size.toNat / 2 ^ 21)).foldl (fun s i => s.freshBlock (x.base.toNat / 2 ^ 21 + i)) s1
  let s3 := s2.flipRange lo hi
  if s.ringClass = 0 then s3
  else (List.range (hi - lo)).foldl (fun a i =>
    if s.fatalAt ((lo + i) * 64) then a
    else a.sendDeltas ((lo + i) * 64) (xorBytes (s.storedBytes (lo + i)) (s1.storedBytes (lo + i))) false) s3

/-- R435: the payload of a WASH_DONE packet. -/
def washPayload (t gen ns : Nat) : List (BitVec 8) := leBytes 16 (1 + t % 256 * 2 ^ 8 + gen % 2 ^ 32 * 2 ^ 16 + ns % 2 ^ 64 * 2 ^ 64)

/-- R434: PARTITION_WASH_DONE: the last wash write completes; the partition is FREE and every chip is told. -/
def execPartitionWashDone (t : Fin 256) (s : State) : Res :=
  let x := s.tenantAt t.val
  if x.state ≠ 3 || x.keyWait then ok s
  else
    let ns := s.now - x.washAt
    let skipped := s.skippedLines (x.base.toNat / 64) (x.size.toNat / 64)
    let s1 := s.washLines t.val
    let s2 := (((s1.setPar (0x4900 + t.val) 9 1000).setPar (0x4900 + t.val) 10 (ns % 2 ^ 64)).setPar (0x4900 + t.val) 11 (skipped % 2 ^ 64)).modTenant t.val
      (fun x => { x with state := 0 })
    let others := (List.range 64).filter (fun c => c ≠ s2.coord && s2.routePresent s2.epoch c)
    ok (others.foldl (fun s c => s.sendMgmt 10 c t.val (washPayload t.val x.keyGen.toNat ns)) s2)

end Machine
end Sys2Proof
end

