-- ==== Sys2Proof/Machine/HostPorts.lean ====
section
/-! DEFINITION. The host ports (13): CXL.mem requests, the fabric manager's decoders, links and port resets, the memory-device
mailbox, DOE and CDAT, IDE, and the glaze windows. -/

namespace Sys2Proof
namespace Machine

/-! ### Decoding and rights -/

/-- R37, R325: requester number of a request: the requester ID, or port × 16 + logical device. -/
def State.requester (s : State) (p : Fin 4) (req : Fin 4096) : Fin 4096 :=
  if s.mld then Fin.ofNat 4096 (p.val * 16 + req.val % 16) else req

/-- The function (R354) of a requester on a port. -/
def State.portFunc (s : State) (p : Fin 4) (req : Fin 4096) : Nat := if s.mld then 4 + 16 * p.val + req.val % 16 else p.val

/-- R35, R37: the DPA of a host request; none where no decoder hits, or beyond the logical device's space. -/
def State.hostDecode (s : State) (p : Fin 4) (req : Fin 4096) (hpa : Nat) : Option Nat :=
  if s.mld then (s.decodeHdm (s.portFunc p req) hpa).bind (fun off => s.ldDpa (s.portFunc p req) off) else s.decodeGfd hpa

/-- R362: a tenant is confidential. -/
def State.confidential (s : State) (t : Nat) : Bool := bitAt (s.par 0x5180 1) t

/-- R362: bytes of glaze window `w`: its control page and two rings; as DPAs, first and after last. -/
def State.glazeRange (s : State) (w : Nat) : Nat × Nat :=
  let b := (s.tenantAt (s.par (0x5100 + w) 1)).base.toNat + s.par (0x5100 + w) 2
  (b, b + 4096 + 2 * s.par (0x5100 + w) 4 * 2 ^ s.par (0x5100 + w) 3)

/-- R362: a DPA lies in an enabled glaze window of its tenant. -/
def State.inGlaze (s : State) (t dpa : Nat) : Bool :=
  (List.range 64).any (fun w =>
    s.par (0x5100 + w) 5 = 1 && s.par (0x5100 + w) 1 = t && (s.glazeRange w).1 ≤ dpa && dpa < (s.glazeRange w).2)

/-- What stands against a host request: nothing, a refusal without a record, or an access violation of a tenant or of none. -/
inductive HostBar where
  | go (dpa : Nat)
  | quiet
  | violation (t : Option Nat) (dpa : Nat)
  deriving DecidableEq, Repr

/-- R33, R36, R37, R362: a host request's checks. A DPA beyond a logical device's partition violates its tenant; the record names
the DPA that its offset would reach (log entry 163). -/
def State.hostBar (s : State) (p : Fin 4) (req : Fin 4096) (hpa : Nat) (write : Bool) : HostBar :=
  match s.hostDecode p req hpa with
  | none =>
    let f := s.portFunc p req
    let t := s.par 0x5040 (f + 1)
    match (if s.mld then s.decodeHdm f hpa else none) with
    | some off => if t < 256 then .violation (some t) (((s.tenantAt t).base.toNat + off) % 2 ^ 46) else .violation none 0
    | none => .violation none 0
  | some dpa =>
    match s.owner dpa with
    | none => .violation none dpa
    | some t =>
      let x := s.tenantAt t
      if x.stopping then .quiet
      else if x.state ≠ 2 || !s.hostRight (s.requester p req).val t write || (s.confidential t && !s.inGlaze t dpa) then .violation (some t) dpa
      else .go dpa

/-- R36: an access violation is recorded, once per requester and tenant in 1 ms; its reporter is the host requester (R538). -/
def State.violate (s : State) (p : Fin 4) (req : Nat) (t : Option Nat) (dpa : Nat) : State :=
  let key := t.getD 256
  let live := s.host.viol.filter (fun v => s.now < v.2.2 + 1000000)
  if live.any (fun v => v.1 = req && v.2.1 = key) then { s with host := { s.host with viol := live } }
  else
    { s with host := { s.host with viol := (req, key, s.now) :: live } }.submit
      { s.tenantRec kAccessViolation t req [(64, dpa), (32, p.val)] with reporter := BitVec.ofNat 12 req, reporterKind := 2 }

/-- A host request is outstanding at its port (R376). -/
def State.beginHost (s : State) (p : Nat) (r line : Nat) : State := s.modPort p (fun x => { x with reqs := x.reqs ++ [(r, line)] })

/-- Poisoned zero data answers a read. -/
def State.hostPoison (s : State) (p : Fin 4) (r : Nat) : State :=
  (s.emit (.hostData p r (List.replicate 64 0) true .invalid)).light (lightTx p.val) 64

/-- R307: the kind of request that a MemRd makes of the home agent: caching rights only with back-invalidation enabled. -/
def State.readKind (s : State) (f : Nat) (mv : MetaValue) : ReqKind :=
  if !(s.funcAt f).bi then .rdC else match mv with | .any => .rdO | .shared => .rdS | .invalid => .rdC

/-- R36, R121, R311, R357: HOST_MEM_READ. -/
def execHostMemRead (p : Fin 4) (req : Fin 4096) (hpa : BitVec 64) (mv : MetaValue) (s : State) : Res :=
  if !(s.portAt p.val).mem then ok s
  else
    let r := s.requester p req
    if s.isDead r.val then ok s
    else if !s.host.active then ok (s.hostPoison p r.val)
    else
      match s.hostBar p req hpa.toNat false with
      | .quiet => ok (s.hostPoison p r.val)
      | .violation t dpa => ok ((s.violate p r.val t dpa).hostPoison p r.val)
      | .go dpa =>
        if s.isHdmDb dpa then
          ok ((s.beginHost p.val r.val (dpa / 64)).homeRequest
            { kind := s.readKind (s.portFunc p req) mv, who := .host r, line := dpa / 64, data := [] })
        else
          let q := s.readLine (dpa / 64)
          ok ((q.2.emit (.hostData p r.val q.1.1 q.1.2 .invalid)).light (lightTx p.val) 64)

/-- R36, R135, R357, R358: HOST_MEM_WRITE. -/
def execHostMemWrite (p : Fin 4) (req : Fin 4096) (hpa : BitVec 64) (data : List (BitVec 8)) (mask : BitVec 64) (poison : Bool) (s : State) : Res :=
  if !(s.portAt p.val).mem then ok s
  else
    let r := s.requester p req
    let s0 := s.light (lightRx p.val) 64
    if s.isDead r.val then ok s
    else if !s.host.active then ok (s0.emit (.hostCmp p r.val))
    else
      match s.hostBar p req hpa.toNat true with
      | .quiet => ok (s0.emit (.hostCmp p r.val))
      | .violation t dpa => ok ((s0.violate p r.val t dpa).emit (.hostCmp p r.val))
      | .go dpa =>
        let line := dpa / 64
        let d := fitBytes 64 data
        if s.isHdmDb dpa then
          let s1 := s0.beginHost p.val r.val line
          if mask = BitVec.allOnes 64 && !poison then ok (s1.homeWrite (.host r) line d)
          else ok (s1.homeRequest { kind := .wrF, who := .host r, line := line, data := d, mask := mask, poison := poison })
        else
          let s1 := if poison then (if (s0.recordOf line).isSome then s0.bump 64 0x5B00 1 else s0.poisonLine line) else s0.storeMasked line d mask p.val
          ok (s1.emit (.hostCmp p r.val))

/-! ### The fabric manager's decoders -/

/-- R35: the values that an enabled decoder may hold. DESIGN CHOICE: a size of 0 and a range that passes 2^64 are among those
rejected; the manual's ranges name neither (log entry 164). -/
def decGood (v : BitVec 256) : Bool :=
  decBase v % 2 ^ 28 = 0 && decWaysOk v && decSize v ≠ 0 && decSize v % (2 ^ 28 * decWays v) = 0
    && decBase v + decSize v ≤ 2 ^ 64 && decDpa v % 2 ^ 21 = 0

/-- R35: the HPA ranges of two enabled decoders overlap. -/
def decOverlap (a b : BitVec 256) : Bool :=
  decOn a && decOn b && decBase a < decBase b + decSize b && decBase b < decBase a + decSize a

/-- R12, R35: a decoder with its reserved bits zero. -/
def decTrim (v : BitVec 256) : BitVec 256 :=
  BitVec.ofNat 256 (bits v 173 0 + bits v 192 192 * 2 ^ 192 + bits v 211 200 * 2 ^ 200)

/-- R35: a decoder's DPA range lies within one partition. -/
def State.decInPartition (s : State) (v : BitVec 256) : Bool :=
  let n := decSize v / decWays v
  match s.owner (decDpa v) with
  | some t => decDpa v + n ≤ (s.tenantAt t).base.toNat + (s.tenantAt t).size.toNat
  | none => false

/-- R35: the 64 decoders may be `t`. -/
def State.gfdGood (s : State) (t : Tab (BitVec 256)) : Bool :=
  (List.range 64).all (fun d =>
    let v := Tab.get t d 0
    !decOn v || (decGood v && (Tab.get s.host.gfd d 0 = v || s.decInPartition v)
      && (List.range 64).all (fun e => e = d || !decOverlap v (Tab.get t e 0))))

/-- R35: FM_API_GFD_DECODER: programs one decoder, or answers Invalid Input. -/
def execFmApiGfdDecoder (d : Fin 64) (v : BitVec 256) (s : State) : Res :=
  let t := Tab.set s.host.gfd d.val (decTrim v)
  if s.gfdGood t then ok ({ s with host := { s.host with gfd := t } }.emit (.fmApi true)) else ok (s.emit (.fmApi false))

/-! ### Links and resets of ports -/

/-- The functions of a port. -/
def State.portFuncs (s : State) (p : Nat) : List Nat := if s.mld then (List.range 16).map (fun n => 4 + 16 * p + n) else [p]

/-- R325: hosts die as links go down: in MLD mode the port's logical devices, in G-FAM mode every requester once no port is up. -/
def State.linkDeath (s : State) (p : Nat) : State :=
  if s.mld then (List.range 16).foldl (fun s n => s.hostDies 1 p (p * 16 + n)) s
  else if (List.range 4).any (fun q => (s.portAt q).up) then s
  else
    let known := (s.coh.dir.flatMap (fun e =>
      (match e.2.owner with | some (.host h) => [h.val] | _ => []) ++ e.2.hosts)
      ++ s.coh.queue.filterMap (fun r => match r.who with | .host h => some h.val | _ => none)).eraseDups
    let rest := (List.range 4096).filter (fun r => !known.contains r && !s.isDead r)
    let s1 := known.foldl (fun s r => s.hostDies 2 4 r) s
    { s1 with coh := { s1.coh with
      dead := s1.coh.dead ++ rest, sweep := s1.coh.sweep ++ rest.map (fun r => (r, 2, 0, 4)) } }

/-- R376: a port's outstanding requests complete internally and their responses are discarded. -/
def State.muteRequests (s : State) (p : Nat) : State :=
  let rs := (s.portAt p).reqs
  let mine (r : HomeReq) : Bool := match r.who with | .host h => rs.contains (h.val, r.line) | _ => false
  let q := s.coh.queue.map (fun r => if mine r then { r with mute := true } else r)
  let d := s.coh.dir.map (fun e => (e.1, { e.2 with req := e.2.req.map (fun r => if mine r then { r with mute := true } else r) }))
  ({ s with coh := { s.coh with queue := q, dir := d } }).modPort p (fun x => { x with reqs := [] })

/-- R292, R376: ATS requests of contexts bound to a port fail while it is down. -/
def State.failAts (s : State) (p : Nat) : State :=
  let fs := s.tlb.fetches.filter (fun f => f.ats && bits (s.ctxAt f.ctx).binding 2 1 = p)
  fs.foldl (fun s f =>
    State.afterFetch f.ctx (s.atsDone f { ok := false, hpa := 0, sizeLog2 := 12, read := false, write := false, untrans := false })) s

/-- R376: a port's link goes down. -/
def State.linkDown (s : State) (p : Nat) : State :=
  if !(s.portAt p).up then s
  else
    let s1 := (s.muteRequests p).modPort p (fun x => { x with up := false, mem := false })
    (((s1.setPar (0x5010 + p) 1 0).setPar (0x5010 + p) 2 0).failAts p).linkDeath p

/-- R363, R375: a session ends, and the glaze keys that it installed are withdrawn. -/
def State.endSession (s : State) (path : SpdmPath) (id : Nat) : State :=
  let s1 := { s with host := { s.host with sessions := s.host.sessions.filter (fun x => !(x.path = path && x.id = id)) } }
  (List.range 64).foldl (fun s w =>
    match (s.glazeAt w).key with
    | some (_, q, i) => if q = path && i = id then s.withdrawGlaze w else s
    | none => s) s1

/-- R375: a function's configuration, sessions and window selections are cleared; where its port is reset (`queue`), so are its HDM
decoders, its IDE keys and its window's queue entries. -/
def State.clearFunc (s : State) (f : Nat) (queue : Bool) : State :=
  let mine := s.host.sessions.filter (fun x => match x.path with | .doe g => g.val = f | _ => false)
  let s1 := mine.foldl (fun s x => s.endSession x.path x.id) s
  let s2 := s1.modFunc f (fun x =>
    let d : Func := default
    if queue then d else { d with hdm := x.hdm, ide := x.ide, ideKey := x.ideKey })
  let s3 := { s2 with clients := s2.clients.filter (fun c => match c.client.path with | .window w => w.val ≠ f | _ => true) }
  let s4 := { s3 with host := { s3.host with agreed := s3.host.agreed.filter (fun a => match a.1 with | .doe g => g.val ≠ f | _ => true) } }
  let w0 := Fin.ofNat 68 f
  if queue then
    { s4 with host := { s4.host with gapQueue := s4.host.gapQueue.filter (fun g => match g with
      | .data w _ _ => w ≠ f | .doorbell w _ => w ≠ f | .versionAck w _ => w ≠ f
      | .entry c _ _ _ => c.path ≠ Path.window w0
      | .read c _ _ => c.path ≠ Path.window w0
      | .message c _ _ => c.path ≠ Path.window w0) } }.modWindow f (fun w => { w with pending := none })
  else s4

/-- R375: PERST_N or Hot Reset of a port. A PERST_N on port 0 discards its claim of the image area (R374). -/
def State.resetPort (s : State) (p : Nat) (perst : Bool) : State :=
  let s1 := (s.linkDown p).bump 32 (0x5010 + p) 3
  let s2 := (s.portFuncs p).foldl (fun s f => s.clearFunc f true) s1
  if perst && p = 0 && s2.host.boot.claim = 1 then
    { s2 with host := { s2.host with boot := { s2.host.boot with state := 1, claim := 0 } } }
  else s2

/-- R352: PORT_LINK_UP: the link trains; CXL.mem is enabled in 256B flit mode at 32 GT/s or above and x8 or wider. -/
def execPortLinkUp (p : Fin 4) (rate width : Nat) (flit256 : Bool) (s : State) : Res :=
  if (s.portAt p.val).perst || s.rst.isolated.contains (.port p) || bit s.clk.status (7 + p.val) then ok s
  else
    let mem := flit256 && rate ≥ 32 && width ≥ 8
    let s1 := ((s.modPort p.val (fun x => { x with up := true, mem := mem })).setPar (0x5010 + p.val) 1 rate).setPar (0x5010 + p.val) 2 width
    if mem && rate ≥ 64 && width ≥ 16 then ok s1
    else ok (s1.report kPortLinkDegraded p.val 0 [(32, p.val), (32, rate), (32, width), (32, if flit256 then 1 else 0)])

/-- R376: PORT_LINK_DOWN. -/
def execPortLinkDown (p : Fin 4) (s : State) : Res := ok (s.linkDown p.val)

/-- R375: PERST_N of a port, asserted or released. -/
def execPerstN (p : Fin 4) (low : Bool) (s : State) : Res :=
  if low then
    if (s.portAt p.val).perst then ok s
    else ok (((s.resetPort p.val true).isolate (.port p) 5 p.val (s.portAt p.val).reqs.length).modPort p.val (fun x => { x with perst := true }))
  else ok ((s.modPort p.val (fun x => { x with perst := false })).deisolate (.port p))

/-- R375: HOT_RESET from the switch. -/
def execHotReset (p : Fin 4) (s : State) : Res := ok (s.resetPort p.val false)

/-- R375: FLR and CXL Reset of one function. -/
def execFlr (f : Fin 68) (s : State) : Res := ok (s.clearFunc f.val false)
def execCxlReset (f : Fin 68) (s : State) : Res := ok (s.clearFunc f.val false)

/-- The port of a function. -/
def funcPort (f : Nat) : Nat := if f < 4 then f else (f - 4) / 16

/-- R356, R499: Memory_Valid: the tier map is built. -/
def State.memoryValid (s : State) : Bool := s.rst.phase = .fill || s.rst.phase = .released || s.rst.phase = .active

/-- R356: a configuration request is answered with Successful Completion, and with what every function then shows: Memory_Valid,
Memory_Active, and a Memory_Active_Timeout of 16 s. -/
def State.answerConfig (s : State) (f : Nat) : State := s.emit (.cfg f s.memoryValid s.host.active 16)

/-- R293, R307, R354, R356, R360: CONFIGURATION_REQUEST is answered while the link is up; a write takes effect. -/
def execConfigurationRequest (f : Fin 68) (wr : Option CfgWrite) (s : State) : Res :=
  if !(s.portAt (funcPort f.val)).up then ok s
  else
    let s1 := match wr with
      | none => s
      | some (.backInvalidate on) => s.modFunc f.val (fun x => { x with bi := on })
      | some (.ats on) => s.modFunc f.val (fun x => { x with ats := on })
      | some (.msix on) => s.modFunc f.val (fun x => { x with msix := on })
      | some (.ide on) => s.modFunc f.val (fun x => { x with ide := on })
      | some (.hdmDecoder d v) => s.modFunc f.val (fun x => { x with hdm := Tab.set x.hdm d.val v })
    ok (s1.answerConfig f.val)

/-! ### The mailbox (R359; codes and opcodes of CXL 3.1, log entry 31) -/

/-- R359, R361: the DPA ranges that a function reaches: its tenant's partition, or the enabled decoders' ranges. -/
def State.reach (s : State) (f : Nat) : List (Nat × Nat) :=
  if s.mld then
    let t := s.par 0x5040 (f + 1)
    if t < 256 && (s.tenantAt t).state ≠ 0 then [((s.tenantAt t).base.toNat, (s.tenantAt t).base.toNat + (s.tenantAt t).size.toNat)] else []
  else (List.range 64).filterMap (fun d =>
    let v := Tab.get s.host.gfd d 0
    if decOn v then some (decDpa v, decDpa v + decSize v / decWays v) else none)

/-- A line lies in a range that a function reaches. -/
def State.reaches (s : State) (f dpa : Nat) : Bool := (s.reach f).any (fun r => r.1 ≤ dpa && dpa < r.2)

/-- Bytes that a function reaches. -/
def State.capacityOf (s : State) (f : Nat) : Nat := ((s.reach f).map (fun r => r.2 - r.1)).sum

def execIdentifyMemoryDevice (f : Fin 68) (s : State) : Res :=
  ok (s.emit (.mailbox f.val 0 [s.capacityOf f.val / 2 ^ 28, s.capacityOf f.val / 2 ^ 28, 0, 256, 0]))

/-- R359: the logs and commands that the mailbox supports: the command effects log alone. -/
def mailboxOpcodes : List Nat := [0x0400, 0x0401, 0x4000, 0x4200, 0x4300, 0x4302]
def execGetSupportedLogs (f : Fin 68) (s : State) : Res := ok (s.emit (.mailbox f.val 0 [1, 4 * mailboxOpcodes.length]))
def execGetLog (f : Fin 68) (s : State) : Res := ok (s.emit (.mailbox f.val 0 mailboxOpcodes))
def execGetHealthInfo (f : Fin 68) (s : State) : Res := ok (s.emit (.mailbox f.val 0 [if s.par 0x3070 3 = 0 then 0 else 1]))

/-- R359: GET_POISON_LIST: up to 256 poisoned lines of the function's range, and whether more exist. -/
def execGetPoisonList (f : Fin 68) (s : State) : Res :=
  let off := if s.mld then ((s.reach f.val).head?.map (fun r => r.1)).getD 0 else 0
  let ls := (s.med.poison.filter (fun l => s.reaches f.val (l * 64))).mergeSort (fun a b => a ≤ b)
  ok (s.emit (.mailbox f.val 0 ((if ls.length > 256 then 1 else 0) :: (ls.take 256).map (fun l => l * 64 - off))))

/-- R359: CLEAR_POISON writes the given data as a full-line write. -/
def execClearPoison (f : Fin 68) (dpa : BitVec 46) (data : List (BitVec 8)) (s : State) : Res :=
  let at_ := if s.mld then s.ldDpa f.val dpa.toNat else some dpa.toNat
  match at_ with
  | none => ok (s.emit (.mailbox f.val 0x0F []))
  | some a =>
    let held := match s.owner a with | some t => (s.tenantAt t).state = 2 && !(s.tenantAt t).stopping | none => false
    if !s.reaches f.val a || !held then ok (s.emit (.mailbox f.val 0x0F []))
    else
      let d := fitBytes 64 data
      let s1 := s.otherWrite (a / 64) d (BitVec.allOnes 64) (funcPort f.val)
      ok (s1.emit (.mailbox f.val 0 []))

def execUnsupportedMailboxCommand (f : Fin 68) (op : BitVec 16) (s : State) : Res := ok (s.emit (.mailbox f.val 3 [op.toNat]))

/-! ### DOE, CDAT, IDE -/

/-- R351: the DOE protocols, as (vendor, type): discovery, CMA/SPDM, secured CMA/SPDM, CDAT. -/
def doeProtocols : List (Nat × Nat) := [(1, 0), (1, 1), (1, 2), (0x1E98, 2)]

/-- R360: DOE_DISCOVERY answers one protocol and the next index. -/
def execDoeDiscovery (f : Fin 68) (idx : Nat) (s : State) : Res :=
  match doeProtocols[idx]? with
  | some (v, t) => ok (s.emit (.doe f.val [v, t, if idx + 1 < doeProtocols.length then idx + 1 else 0]))
  | none => ok (s.emit (.doe f.val [0xFFFF, 0, 0]))

/-- R361: the ranges that CDAT reports for a function: (start, bytes, shareable); in MLD mode the HDM-DB part and the HDM-H
part, from the logical device's own DPA 0. -/
def State.cdatRanges (s : State) (f : Nat) : List (Nat × Nat × Bool) :=
  if s.mld then
    let t := s.par 0x5040 (f + 1)
    if t < 256 then
      let x := s.tenantAt t
      [(0, x.dbSize.toNat, true), (x.dbSize.toNat, x.size.toNat - x.dbSize.toNat, false)].filter (fun r => r.2.1 ≠ 0)
    else []
  else (s.reach f).map (fun r => (r.1, r.2 - r.1, false))

/-- R361: CDAT_READ: entry `i`: DSMAS of each range, then its latencies and bandwidth, then EFI_MEMORY_SP; and the entries. -/
def execCdatRead (f : Fin 68) (entry : Nat) (s : State) : Res :=
  let rs := s.cdatRanges f.val
  let n := 3 * rs.length
  match rs[entry / 3]? with
  | none => ok (s.emit (.cdat f.val [n]))
  | some (b, len, sh) =>
    let i := entry / 3
    let ws := match entry % 3 with
      | 0 => [0, i, b, len, if sh then 1 else 0]
      | 1 => [1, i, 350, 200, 128, 128]
      | _ => [4, i, 1]
    ok (s.emit (.cdat f.val (n :: ws)))

/-- R360: a session is open. -/
def State.sessionOpen (s : State) (path : SpdmPath) (id : Nat) : Bool := s.host.sessions.any (fun x => x.path = path && x.id = id && x.open_)

/-- R360: IDE_KM sets a port's IDE key in a secured session on the port's function, or on its logical device 0. -/
def execIdeKm (f : Fin 68) (session : Nat) (key : BitVec 256) (s : State) : Res :=
  if !s.sessionOpen (.doe f) session || (s.mld && (f.val < 4 || (f.val - 4) % 16 ≠ 0)) || (!s.mld && f.val ≥ 4) then ok s
  else ok (s.modFunc f.val (fun x => { x with ideKey := some key }))

/-! ### Glaze windows -/

/-- R363: GLAZE_KEY_INSTALL: the window's key is set, its sequence numbers become 1 and OUT_CONSUMED 0. The session is on a
function whose WINDOW_SCOPE is the window's tenant. -/
def execGlazeKeyInstall (f : Fin 68) (session : Nat) (w : Fin 64) (key : BitVec 256) (s : State) : Res :=
  if !s.sessionOpen (.doe f) session || s.par 0x5040 (f.val + 1) ≠ s.par (0x5100 + w.val) 1 then ok s
  else
    let s1 := s.modGlaze w.val (fun _ => {
      key := some (key, .doe f, session), inNext := 1, outNext := 1, inCount := 0, outCount := 0, armed := false })
    if s.par (0x5100 + w.val) 5 = 1 then ok (s1.writeBytes (s1.glazeRange w.val).1 (List.replicate 8 0) 12) else ok s1

/-- R363: GLAZE_KEY_WITHDRAW. -/
def execGlazeKeyWithdraw (f : Fin 68) (session : Nat) (w : Fin 64) (s : State) : Res :=
  if !s.sessionOpen (.doe f) session || s.par 0x5040 (f.val + 1) ≠ s.par (0x5100 + w.val) 1 then ok s
  else ok (s.withdrawGlaze w.val)

/-- R364: the IV of a packet: window, direction, sequence number. -/
def glazeIv (w : Nat) (out : Bool) (seq : Nat) : BitVec 96 :=
  BitVec.ofNat 96 (w % 2 ^ 16 + (if out then 2 ^ 16 else 0) + seq % 2 ^ 64 * 2 ^ 32)

/-- R364: the first 32 bytes of a glaze header. -/
def glazeAad (seq off len op status inSeq : Nat) : List (BitVec 8) :=
  leBytes 32 (seq % 2 ^ 64 + off % 2 ^ 46 * 2 ^ 64 + len % 2 ^ 32 * 2 ^ 128 + op % 16 * 2 ^ 160 + status % 256 * 2 ^ 164
    + inSeq % 2 ^ 64 * 2 ^ 192)

/-- Room in the OUT ring: OUT_NEXT - OUT_CONSUMED is below SLOTS (R365). -/
def State.glazeRoom (s : State) (w : Nat) : Bool × State :=
  let r := s.readBytes (s.glazeRange w).1 8
  ((s.glazeAt w).outNext.toNat - leNat r.1.1 < s.par (0x5100 + w) 4, r.2)

/-- R365: one OUT packet, payload first and header last. -/
def State.glazeOut (s : State) (w : Nat) (op status off inSeq : Nat) (body : List (BitVec 8)) : State :=
  let g := s.glazeAt w
  match g.key with
  | none => s
  | some (key, _, _) =>
    let n := s.par (0x5100 + w) 4
    let size := 2 ^ s.par (0x5100 + w) 3
    let at_ := (s.glazeRange w).1 + 4096 + n * size + g.outNext.toNat % n * size
    let aad := glazeAad g.outNext.toNat off body.length op status inSeq
    let sealed := fitBytes (body.length + 16) (gcmSeal key (glazeIv w true g.outNext.toNat) aad body)
    let s1 := s.writeBytes (at_ + 64) (sealed.take body.length) 12
    let s2 := s1.storeLine (at_ / 64) (aad ++ sealed.drop body.length ++ List.replicate 16 0)
    s2.modGlaze w (fun g => { g with outNext := g.outNext + 1, outCount := g.outCount + 1 })

/-- A tenant's bytes as the glaze engine reads them (R365), and whether any is poison; none while a host holds one of the lines
modified, which is asked for it. -/
def State.glazeRead (s : State) (dpa n : Nat) : Option (List (BitVec 8) × Bool) × State :=
  (List.range (n / 64)).foldl (fun (a : Option (List (BitVec 8) × Bool) × State) i =>
    let r := a.2.peekLine (dpa / 64 + i) 12
    (a.1.bind (fun x => r.1.map (fun y => (x.1 ++ y.1, x.2 || y.2))), r.2)) (some ([], false), s)

/-- A tenant's bytes as the glaze engine writes them. -/
def State.glazeStore (s : State) (dpa : Nat) (bs : List (BitVec 8)) : State :=
  (List.range (bs.length / 64)).foldl (fun s i =>
    let line := dpa / 64 + i
    let d := (bs.drop (64 * i)).take 64
    s.otherWrite line d (BitVec.allOnes 64) 12) s

/-- R365: the message of number `seq` with header `hd` that is next in the IN ring of window `w`: it is opened and carried out, and
answered in the OUT ring. -/
def State.glazeTake (s : State) (w : Nat) (key : BitVec 256) (hd : List (BitVec 8)) (seq : Nat) : State :=
  let g := s.glazeAt w
  let t := s.par (0x5100 + w) 1
  let size := 2 ^ s.par (0x5100 + w) 3
  let op := bytesBits hd 163 160
  let off := bytesBits hd 109 64
  let len := bytesBits hd 159 128
  let body := if op = 1 then Nat.min len (size - 64) else 0
  let p := s.readBytes (s.glazeHeader w + 64) body
  let s2 := p.2.modGlaze w (fun g => { g with inNext := g.inNext + 1, inCount := g.inCount + 1 })
  match gcmOpen key (glazeIv w false seq) (hd.take 32) (p.1.1 ++ (hd.drop 32).take 16) with
  | none =>
    ((s2.bump 32 (0x5100 + w) 9).report kGlazeAuthFailed t 0 [(32, w), (64, seq)]).glazeOut w 4 1 0 seq []
  | some plain =>
    let x := s2.tenantAt t
    let bad := x.state ≠ 2 || x.stopping || len % 64 ≠ 0 || len = 0 || len > size - 64 || off % 64 ≠ 0 || off + len > x.size.toNat
    if op ≠ 1 && op ≠ 2 then s2.glazeOut w 4 5 0 seq []
    else if bad then s2.glazeOut w 4 3 0 seq []
    else if op = 1 then (s2.glazeStore (x.base.toNat + off) (fitBytes len plain)).glazeOut w 4 0 0 seq []
    else
      let r := s2.glazeRead (x.base.toNat + off) len
      match r.1 with
      | none => r.2.modGlaze w (fun q => { q with armed := true, inNext := g.inNext, inCount := g.inCount })
      | some (bs, poison) => if poison then r.2.glazeOut w 4 4 0 seq [] else r.2.glazeOut w 3 0 off seq bs

/-- R365: the packet at the watched header is answered, a READ once no host holds a line of it; `only` where a command runs packets of one kind: 2 READ, 1 the others. -/
def State.glazeRun (s : State) (w : Nat) (only : Option Nat) : State :=
  let g := s.glazeAt w
  match g.key with
  | none => s
  | some (key, _, _) =>
    let room := s.glazeRoom w
    if !g.armed || s.par (0x5100 + w) 5 = 0 || !room.1 || g.inCount ≥ 2 ^ 32 || g.outCount ≥ 2 ^ 32 then s
    else
      let h := room.2.readBytes (room.2.glazeHeader w) 64
      let hd := h.1.1
      let op := bytesBits hd 163 160
      if only.any (fun k => (k = 2) ≠ (op = 2)) then s
      else
        let s1 := h.2.modGlaze w (fun g => { g with armed := false })
        let seq := bytesBits hd 63 0
        if seq ≠ g.inNext.toNat then s1.glazeOut w 4 2 0 seq [] else s1.glazeTake w key hd seq

/-- R365: GLAZE_WRITE, GLAZE_READ, GLAZE_OUT_ROOM. -/
def execGlazeWrite (w : Fin 64) (s : State) : Res := ok (s.glazeRun w.val (some 1))
def execGlazeRead (w : Fin 64) (s : State) : Res := ok (s.glazeRun w.val (some 2))
def execGlazeOutRoom (w : Fin 64) (s : State) : Res := ok (s.glazeRun w.val none)

end Machine
end Sys2Proof
end

