-- ==== Sys2Proof/Machine/Pool.lean ====
section
/-! DEFINITION. The pool ring (14): links and their states, sequence numbers and replay, credits, packets and what they do
here, routing tables, and the rebuild of a lost chip. -/

namespace Sys2Proof
namespace Machine

/-! ### Reports about other chips (R543) -/

/-- R543: a report whose origin is another chip: the first of its key in 100 µs goes there as a DIGEST packet, the others are
counted; it enters this chip's own log where the origin is not PRESENT. -/
def State.reportFor (s : State) (origin : Nat) (k : FKind) (unit subject : Nat) (fields : List (Nat × Nat)) : State :=
  let r := { s.mkRec k unit subject fields with origin := BitVec.ofNat 6 origin }
  if origin = s.coord || !s.routePresent s.epoch origin then s.submit r
  else
    match s.flt.batches.findIdx? (fun b => FaultRec.sameKey b.first r) with
    | some i =>
      { s with flt := { s.flt with batches := s.flt.batches.modify i (fun b => { b with count := b.count + 1, last := r.time }) } }
    | none =>
      let b : DigestBatch := { first := r, count := 0, last := r.time }
      { s with flt := { s.flt with batches := s.flt.batches ++ [b] } }.sendMgmt 9 origin 0 (leBytes 64 r.pack.toNat)

/-- R394: POOL_REQUEST_LOST, with the chip that answered, or DEST, as its origin. -/
def State.requestLost (s : State) (origin : Nat) (r : PoolReq) (status : Nat) : State :=
  let h := PktHdr.unpack r.hdr
  s.reportFor origin kPoolRequestLost 0 h.dest [(32, h.dest), (32, h.reqKind), (32, status)]

/-! ### Responses -/

/-- A response to a request's originator. -/
def State.reply (s : State) (h : PktHdr) (type status : Nat) (data : List (BitVec 8)) : State :=
  let r : PktHdr := { (default : PktHdr) with
    vc := 2, type := type, dest := h.src, units := data.length / 16, tenant := h.tenant, tag := h.tag, status := status,
    reqKind := h.reqKind, dpa := h.dpa }
  (s.inject r data).getD s

/-- R394: what became of a request of this chip's own: `data` where it was served, else the status that ended it (15 for the
timeout). -/
def State.finishRequest (s : State) (r : PoolReq) (data : Option (List (BitVec 8))) (status : Nat) : State :=
  let h := PktHdr.unpack r.hdr
  let ppa := h.dest * 2 ^ 46 + h.dpa
  let s1 := { s with pool := { s.pool with reqs := s.pool.reqs.filter (fun q => q.tag ≠ r.tag) } }
  match r.owner, data with
  | none, some bs => match r.word with | some w => if h.type = 1 then s1.sendWord h w bs else s1 | none => s1
  | none, none => s1
  | some (.stream v e), some bs =>
    if h.type ≠ 1 then s1
    else
      match (s1.vatAt v.val).queue e.val with
      | c :: _ =>
        if !c.running then s1
        else (tileLines c).foldl (fun s q =>
          if c.ppa q.1 = ppa then s.modVat v.val (fun x => x.palWrite q.2 (fitBytes 64 bs)) else s) s1
      | [] => s1
  | some (.fetch v), some bs => s1.fillBundles v.val ppa (fitBytes 64 bs)
  | some (.fetch v), none =>
    match s1.runningOn v.val with
    | some k => s1.bundlePoison k v.val ppa
    | none => s1
  | some (.stream v e), none =>
    match s1.runningOn v.val with
    | some k => if ((s1.vatAt v.val).queue e.val).head?.any (fun c => c.running) then s1.tilePoison k v.val e.val ppa else s1
    | none => s1
  | some (.copy n), _ => s1.copyReply n.val h data (status = 2)
  | some rd, some bs => s1.emit (.readerData rd h.dpa bs false)
  | some rd, none => s1.emit (.readerData rd h.dpa [] true)

/-- R407: a DELTA that was accepted leaves the list; the lag is kept as a peak. -/
def State.deltaDone (s : State) (tag : Nat) : State :=
  match s.pool.deltas.find? (fun d => (PktHdr.unpack d.1).tag = tag) with
  | some d => { s with pool := { s.pool with deltas := s.pool.deltas.erase d } }.peak 0x5400 10 (s.now - d.2.2)
  | none => s

/-- R407: a DELTA that failed is sent again. -/
def State.deltaAgain (s : State) (tag : Nat) : State :=
  match s.pool.deltas.find? (fun d => (PktHdr.unpack d.1).tag = tag) with
  | some d => let h := PktHdr.unpack d.1; (s.inject { h with vc := 0 } d.2.1).getD s
  | none => s

/-- R393, R394: a response reaches this chip. -/
def State.takeResponse (s : State) (h : PktHdr) (data : List (BitVec 8)) : State :=
  match s.pool.reqs.find? (fun r => r.tag.toNat = h.tag) with
  | some r =>
    if h.status = 0 then s.finishRequest r (some data) 0
    else
      let s1 := if h.status = 2 then s else s.requestLost h.src r h.status
      s1.finishRequest r none h.status
  | none => if h.type = 4 && h.reqKind = 4 then (if h.status = 0 then s.deltaDone h.tag else s.deltaAgain h.tag) else s

/-! ### Requests of other chips -/

/-- R32: a request that breaks the partition's rights is recorded. -/
def State.poolDenied (s : State) (h : PktHdr) : State :=
  s.reportTenant kPoolAccessDenied (s.owner h.dpa) h.src [(64, h.dpa), (32, h.tenant)]

/-- The requester port of the pool ring's ingress (R69). -/
def poolPort : Nat := 4

/-- The lines of an RD, as this chip's memory holds them: the bytes, whether any is poison; none while a host holds one. -/
def State.poolRead (s : State) (line : Nat) : Nat → Option (List (BitVec 8) × Bool) × State
  | 0 => (some ([], false), s)
  | n + 1 =>
    let one : Option (List (BitVec 8) × Bool) × State :=
      if s.isHdmDb (line * 64) then s.peekLine line poolPort else (let q := s.readLine line poolPort; (some q.1, q.2))
    match one.1 with
    | none => (none, one.2)
    | some a =>
      let rest := State.poolRead one.2 (line + 1) n
      (rest.1.map (fun b => (a.1 ++ b.1, a.2 || b.2)), rest.2)

/-- R32, R393: RD: the lines go back, or poison. -/
def State.serveRd (s : State) (b : BitVec 128) : State :=
  let h := PktHdr.unpack b
  if h.lines = 0 then s
  else if !((List.range h.lines).all (fun i => s.allowed h.tenant (h.dpa + 64 * i) false)) then (s.poolDenied h).reply h 2 2 []
  else
    let r := s.poolRead (h.dpa / 64) h.lines
    match r.1 with
    | none => { r.2 with pool := { r.2.pool with waiting := r.2.pool.waiting ++ [b] } }
    | some (bs, poison) => if poison then r.2.reply h 2 1 [] else r.2.reply h 2 0 bs

/-- RD requests that waited for a host are tried again. -/
def State.retryReads (s : State) : State :=
  s.pool.waiting.foldl (fun s b => s.serveRd b) { s with pool := { s.pool with waiting := [] } }

/-- R32, R157, R393: WR: full lines, or poison where STATUS is 1. -/
def State.serveWr (s : State) (h : PktHdr) (data : List (BitVec 8)) : State :=
  let n := if h.status = 1 then 1 else h.units / 4
  if !((List.range n).all (fun i => s.allowed h.tenant (h.dpa + 64 * i) true)) then (s.poolDenied h).reply h 4 2 []
  else
    let s1 := (List.range n).foldl (fun s i =>
      let line := h.dpa / 64 + i
      let d := fitBytes 64 ((data.drop (64 * i)).take 64)
      if h.status = 1 then s.otherPoison line poolPort else s.otherWrite line d (BitVec.allOnes 64) poolPort) s
    s1.reply h 4 0 []

/-! ### The rebuild's order of extents (R411) -/

/-- The j-th media extent of a rebuild, as (tier, rank in its tier): the map copy, the other HBM data, HBM parity, DDR. -/
def State.rebuildExtent (s : State) (j : Nat) : Option (Nat × Nat) :=
  let dh := s.stripeData * s.levels 0
  let ph := s.ringParity 0
  let dd := s.stripeData * s.levels 1
  let pd := s.ringParity 1
  let first (tier : Nat) : Nat := s.mediaExtents tier - controlExtents tier - s.ringParity tier
  if j < 4 then some (0, dh - 4 + j)
  else if j < dh then some (0, j - 4)
  else if j < dh + ph then some (0, first 0 + (j - dh))
  else if j < dh + ph + dd then some (1, j - dh - ph)
  else if j < dh + ph + dd + pd then some (1, first 1 + (j - dh - ph - dd))
  else none

/-- OD 0x5400:0F: the extents of a rebuild. -/
def State.rebuildTotal (s : State) : Nat :=
  s.stripeData * s.levels 0 + s.ringParity 0 + s.stripeData * s.levels 1 + s.ringParity 1

/-- The media extent number of a rank. -/
def State.rankMedia (s : State) (tier rank : Nat) : Nat :=
  if tier = 0 then rank else (nthBlock ((List.range 12).map (fun c => (c, s.channelExtents c))) rank).getD 0

/-- R412: where a DPA stands in a rebuild: 0 not started, 1 in flight, 2 committed. -/
def State.rebuildPlace (s : State) (dpa : Nat) : Nat :=
  let e := s.entryAt dpa
  let me := BitVec.ofNat 23 (bits e 21 0)
  match List.find? (fun (p : Nat × BitVec 23) => bits p.2 21 0 = me.toNat) s.pool.rebuild.slots with
  | some p => if bit p.2 22 then 2 else 1
  | none => if (List.range s.pool.rebuild.next).any (fun j =>
      match s.rebuildExtent j with
      | some (t, r) => s.rankMedia t r + t * 2 ^ 21 = bits e 21 0
      | none => false) then 2 else 0

/-- R407, R412: a DELTA reaches this chip. -/
def State.serveDelta (s : State) (b : BitVec 128) (data : List (BitVec 8)) : State :=
  let h := PktHdr.unpack b
  let s1 := if s.pool.rebuild.st = 2 then
      match s.rebuildPlace h.dpa with
      | 0 => s
      | 1 => { s with pool := { s.pool with rebuild := { s.pool.rebuild with heldD := s.pool.rebuild.heldD ++ [(b, data)] } } }
      | _ => s.applyDelta h.dpa (fitBytes 64 data) (h.status = 1)
    else s.applyDelta h.dpa (fitBytes 64 data) (h.status = 1)
  s1.reply h 4 0 []

/-- R411: a line of a rebuild is written: the lost chip's ciphertext as it is, with armour parity where ARMOUR is set. -/
def State.storeRebuilt (s : State) (line : Nat) (data : List (BitVec 8)) : State :=
  let old := s.storedBytes line
  let s1 := s.storeStored line data
  s1.updateParity (line * 64) (xorBytes old (s1.storedBytes line)) false

/-- R405: what a line of this chip is to its stripe: the stripe's chip ordinal i, and the role: 0 P, 1-10 data member, 11 Q. -/
def State.stripeRole (s : State) (dpa : Nat) : Option (Nat × Nat) :=
  let (tier, r) := s.mediaRank (s.entryAt dpa)
  let n := s.stripeChips
  let own := s.rankOf s.coord
  let t := r % s.stripeData + 1
  let first := s.mediaExtents tier - controlExtents tier - s.ringParity tier
  if s.ringClass = 0 || n = 0 then none
  else if r < s.stripeData * s.levels tier then
    some (if s.ringClass = 1 then (own + n * t - t) % n else (own + n * (t + 1) - 1 - t) % n, t)
  else if first ≤ r && r < first + s.ringParity tier then
    (if s.ringClass = 1 || (r - first) % 2 = 0 then some (own, 0) else some ((own + n - 1) % n, 11))
  else none

/-- R405: the roles of stripe `i` whose chips the active table does not show PRESENT. -/
def State.lostRoles (s : State) (i : Nat) : List Nat :=
  let n := s.stripeChips
  let chip (u : Nat) : Nat :=
    if u = 0 then i else if u = 11 then (i + 1) % n else if s.ringClass = 1 then (i + u) % n else (i + 1 + u) % n
  ((if s.ringClass = 1 then List.range 8 else List.range 12).filter (fun u => !s.routePresent s.epoch (s.ordinalCoord (chip u))))

/-- R411: the coefficient of role `u` in the sum that gives the lost role `x`, where `lost` are lost: erasure decoding of P and Q. -/
def erasureCoef (x u : Nat) (lost : List Nat) : Nat :=
  let a (t : Nat) : Nat := gfAlpha (t - 1)
  match x, (lost.filter (fun y => y ≠ x)).head? with
  | 0, none => if u = 11 then 0 else 1
  | 0, some 11 => if u = 11 then 0 else 1
  | 0, some b => if u = 11 then gfInv (a b) else 1 ^^^ gfMul (a u) (gfInv (a b))
  | 11, none => if u = 0 then 0 else a u
  | 11, some 0 => if u = 0 then 0 else a u
  | 11, some b => if u = 0 then a b else a u ^^^ a b
  | _, none => if u = 11 then 0 else 1
  | _, some 11 => if u = 11 then 0 else 1
  | x, some 0 => if u = 0 then 0 else if u = 11 then gfInv (a x) else gfMul (a u) (gfInv (a x))
  | x, some b =>
    let d := gfInv (a x ^^^ a b)
    if u = 0 then gfMul (a b) d else if u = 11 then d else gfMul (a b ^^^ a u) d

/-- R411: the coefficient with which this chip's line joins a chunk for the lost member that COEF names: 0 stands for a parity
line (log entry 32). -/
def State.chunkCoef (s : State) (dpa coef : Nat) : Nat :=
  if s.ringClass ≠ 2 then 1
  else
    match s.stripeRole dpa with
    | none => 0
    | some (i, u) =>
      let lost := s.lostRoles i
      erasureCoef (if coef ≠ 0 then coef else if lost.contains 0 then 0 else 11) u lost

/-- R408, R411: a CHUNK: the target stores the sum at its DPA, poison where a line that it rests on is poison; another member adds
its own scaled lines and passes the sum on, to a chip that the packet does not name (log entry 32). -/
def State.serveChunk (s : State) (h : PktHdr) (data : List (BitVec 8)) : State :=
  let n := h.units / 4
  let s1 := (List.range n).foldl (fun s i =>
    let line := h.dpa / 64 + i
    let d := fitBytes 64 ((data.drop (64 * i)).take 64)
    if s.pool.rebuild.st = 1 || s.pool.rebuild.st = 2 then (if h.status = 1 then s.poisonLine line else s.storeRebuilt line d)
    else
      let c := s.chunkCoef (line * 64) h.coef
      let scaled := (s.storedBytes line).map (fun b => BitVec.ofNat 8 (gfMul c b.toNat))
      s.emit (.readerData (.pool (BitVec.ofNat 6 h.src) (BitVec.ofNat 16 h.tag)) (line * 64) (xorBytes d scaled)
        (s.isPoison line || h.status = 1))) s
  s1.reply h 4 0 []

/-! ### Management packets -/

/-- R229: a ring-barrier arrival of a partner. -/
def State.takeArrival (s : State) (h : PktHdr) (b : RingArrival) : State :=
  { s with ctxs := s.ctxs.map (fun (p : Nat × Ctx) =>
    if bits p.2.entry 287 272 = b.group.toNat && bits p.2.entry 7 0 = h.tenant && (s.partners p.1).contains h.src then
      (p.1, { p.2 with arrivals := p.2.arrivals ++ [(BitVec.ofNat 6 h.src, b.seq, b.barrier)] }) else p) }

/-- R230: a partner's fault notice: plans that wait at a ring barrier of that invocation trap, later ones find it. -/
def State.takeNotice (s : State) (h : PktHdr) (b : RingArrival) : State :=
  let ks := (s.ctxs.filter (fun (p : Nat × Ctx) =>
    bits p.2.entry 287 272 = b.group.toNat && bits p.2.entry 7 0 = h.tenant && (s.partners p.1).contains h.src)).map (fun p => p.1)
  ks.foldl (fun s k =>
    let s1 := s.modCtx k (fun x => { x with notices := x.notices ++ [(b.seq, BitVec.ofNat 6 h.src)] })
    if s1.ringSeq k ≠ b.seq then s1
    else
      match (s1.planVats k).find? (fun v => match (s1.vatAt v).wait with | .ring _ _ => true | _ => false) with
      | some v =>
        match (s1.vatAt v).wait with
        | .ring id _ => if s1.runningOn v = some k then s1.trap k v 0x0805 (payload [(32, k), (32, id), (32, h.src)]) else s1
        | _ => s1
      | none => s1) s

/-- R542, R543: a report or a count about one of this chip's units. -/
def State.takeDigest (s : State) (h : PktHdr) (r : BitVec 512) : State :=
  let f := FaultRec.unpack r
  let g := { f with reporter := BitVec.ofNat 12 h.src, reporterKind := 1 }
  if f.count = 0 then s.submit g else s.countReport g

/-- R435: a chip has washed a partition: retained translations to it go. -/
def State.takeWash (s : State) (h : PktHdr) (p : BitVec 128) : State :=
  if bits p 7 0 ≠ 1 then s
  else
    let t := bits p 15 8
    { s with tlb := { s.tlb with l2 := s.tlb.l2.filter (fun e =>
      e.locked || !(ppaCoord e.ppa = h.src && s.ctxTenant e.ctx = t)) } }.bump 64 0x6010 2

/-- The group, sequence number and barrier of a 16 B unit (log entry 22). -/
def arrivalOf (d : List (BitVec 8)) : RingArrival :=
  { group := BitVec.ofNat 16 (bytesBits d 15 0), seq := BitVec.ofNat 32 (bytesBits d 47 16), barrier := BitVec.ofNat 8 (bytesBits d 55 48) }

/-- R393: a packet for this chip takes its effect. -/
def State.deliver (s : State) (b : BitVec 128) (data : List (BitVec 8)) : State :=
  let h := PktHdr.unpack b
  match h.type with
  | 1 => s.serveRd b
  | 2 => s.takeResponse h data
  | 3 => s.serveWr h data
  | 4 => s.takeResponse h data
  | 5 => s.serveDelta b data
  | 6 => s.serveChunk h data
  | 7 => s.takeArrival h (arrivalOf data)
  | 8 => s.takeNotice h (arrivalOf data)
  | 9 => s.takeDigest h (BitVec.ofNat 512 (leNat data))
  | 10 => s.takeWash h (BitVec.ofNat 128 (leNat data))
  | _ => s

/-- A packet type is a request. -/
def isRequest (type : Nat) : Bool := type = 1 || type = 3 || type = 5 || type = 6

/-- R394, R396, R397: a packet that finds no way: a request is answered with NO_ROUTE; another waits at the port towards its
position, or is lost where its DEST is not PRESENT. -/
def State.noWay (s : State) (h : PktHdr) (data : List (BitVec 8)) (port : Option Nat) : State :=
  if isRequest h.type then s.reply h (if h.type = 1 then 2 else 4) 3 []
  else
    match s.destPos h with
    | none => s
    | some pos =>
      let x := ringPorts (s.option 136 134 + 1) (s.position % 8) (pos % 8) 0 1
      let y := ringPorts (s.option 139 137 + 1) (s.position / 8) (pos / 8) 2 3
      match x, y with
      | some (a, _), _ => s.sendOn a { h with vc := s.vcOn h port a } data (port.map (fun q => (q, h.vc)))
      | none, some (a, _) => s.sendOn a { h with vc := s.vcOn h port a } data (port.map (fun q => (q, h.vc)))
      | none, none => s

/-- R391, R397: a packet arrives by a port, or from a command: it takes effect here, or goes on. -/
def State.receive (s : State) (port : Option Nat) (b : BitVec 128) (data : List (BitVec 8)) : State :=
  let h := PktHdr.unpack b
  let u := h.units + 1
  let free (s : State) : State := match port with
    | some p => s.modLink p (fun l => { l with freed := Tab.set l.freed h.vc (Tab.get l.freed h.vc 0 + BitVec.ofNat 16 u) })
    | none => s
  if h.dest = s.coord then (free s).deliver b data
  else
    let s1 := match port with
      | some p => s.modLink p (fun l => { l with occ := Tab.set l.occ h.vc (Tab.get l.occ h.vc 0 + u) })
      | none => s
    match s1.forward h data port with
    | some s2 => s2
    | none =>
      if isRequest h.type || (s1.destPos h).isNone then (free s).noWay h data port else s1.noWay h data port

/-- R393: a packet of a type, given as a command. -/
def State.packet (s : State) (type : Nat) (b : BitVec 128) (data : List (BitVec 8)) : State :=
  if (PktHdr.unpack b).type = type then s.receive none b data else s

def execRd (h : BitVec 128) (s : State) : Res := ok (s.packet 1 h [])
def execRdData (h : BitVec 128) (data : List (BitVec 8)) (s : State) : Res := ok (s.packet 2 h data)
def execWr (h : BitVec 128) (data : List (BitVec 8)) (s : State) : Res := ok (s.packet 3 h data)
def execWrAck (h : BitVec 128) (s : State) : Res := ok (s.packet 4 h [])
def execDelta (h : BitVec 128) (data : List (BitVec 8)) (s : State) : Res := ok (s.packet 5 h data)
def execChunk (h : BitVec 128) (data : List (BitVec 8)) (s : State) : Res := ok (s.packet 6 h data)
def execRingBarrierArrival (h : BitVec 128) (b : RingArrival) (s : State) : Res :=
  ok (s.packet 7 h (ringUnit b.group.toNat b.seq.toNat b.barrier.toNat))
def execNotice (h : BitVec 128) (b : RingArrival) (s : State) : Res :=
  ok (s.packet 8 h (ringUnit b.group.toNat b.seq.toNat b.barrier.toNat))
def execDigest (h : BitVec 128) (r : BitVec 512) (s : State) : Res := ok (s.packet 9 h (leBytes 64 r.toNat))
def execWashDone (h : BitVec 128) (payload : BitVec 128) (s : State) : Res := ok (s.packet 10 h (leBytes 16 payload.toNat))

/-- R394: POOL_REQUEST_TIMEOUT: a request went unanswered; a DELTA is sent again. STATUS 15 in the record stands for the timeout. -/
def execPoolRequestTimeout (tag : BitVec 16) (s : State) : Res :=
  match s.pool.reqs.find? (fun r => r.tag = tag) with
  | some r => ok ((s.requestLost (PktHdr.unpack r.hdr).dest r 15).finishRequest r none 15)
  | none => ok (s.deltaAgain tag.toNat)

/-! ### Link states (R400) -/

/-- The port as a Fin. -/
def portFin (p : Nat) : Fin 4 := Fin.ofNat 4 p

/-- A link changes state; POOL_READY follows (R404). R20: where the ring is broken every link stays DOWN. -/
def State.linkTo (s : State) (p : Nat) (st : LinkSt) : State :=
  (s.modLink p (fun l => { l with st := if s.pool.broken then .down else st, retrainReq := none, agreed := none, inited := false })).updateReady

/-- R394: the flits that a link discards: their requests are answered with LINK_LOST, their responses are lost. -/
def State.discardFlits (s : State) (p : Nat) : State :=
  let fs := (s.linkAt p).buffer
  let s1 := s.modLink p (fun l => { l with buffer := [] })
  (fs.flatMap (fun f => f.packets)).foldl (fun s q =>
    let h := PktHdr.unpack q.1
    if !isRequest h.type then s
    else if h.src = s.coord then
      match s.pool.reqs.find? (fun r => r.tag.toNat = h.tag) with
      | some r => (s.requestLost s.coord r 4).finishRequest r none 4
      | none => s.deltaAgain h.tag
    else s.reply h (if h.type = 1 then 2 else 4) 4 []) s1

/-- R390: a fatal error of a link. -/
def State.linkFatal (s : State) (p cause seq : Nat) : State :=
  let o := ((s.linkAt p).buffer.head?.map (fun f => f.seq)).getD (s.linkAt p).txSeq
  let s1 := ((s.bump 32 (0x5410 + p) 9).report kLinkFatal p 0 [(32, p), (32, cause), (32, seq), (32, o.toNat)]).linkTo p .training
  let s2 := s1.modLink p (fun l => { l with discard := cause = 1, replays := none })
  if cause = 1 then s2.discardFlits p else s2

/-- R388: an acknowledgement frees flits of the replay buffer, unless it is stale. -/
def State.takeAck (s : State) (p : Nat) (h : FlitHeader) : State :=
  let l := s.linkAt p
  match l.buffer with
  | [] => s
  | f :: _ =>
    let d := (h.ackSeq - f.seq).toNat
    if h.ackValid && d < l.buffer.length then (s.modLink p (fun l => { l with buffer := l.buffer.drop (d + 1) })).pump p else s

/-- R391: a credit count of a VC is taken, unless it is out of range. -/
def State.takeCredit (s : State) (p vc : Nat) (c : BitVec 16) : State :=
  if vc > 4 || (Tab.get (s.linkAt p).sent vc 0 - c).toNat > vcSize vc then s
  else (s.modLink p (fun l => { l with ret := Tab.set l.ret vc c })).pump p

/-- What every flit header brings. -/
def State.takeHeader (s : State) (p : Nat) (h : FlitHeader) : State :=
  (s.takeAck p h).takeCredit p h.creditVc.toNat h.credit

/-- The link carries flits. -/
def State.linkActive (s : State) (p : Nat) : Bool := (s.linkAt p).st = .active

/-- R388: an acknowledgement goes out in the next flit. -/
def State.sendAck (s : State) (p : Nat) : State :=
  (s.modLink p (fun l => { l with unacked := 0 })).idleAck p ((s.linkAt p).expect - 1).toNat

/-- R387: DATA_FLIT: a flit in sequence is accepted, a gap asks for a replay, a copy is discarded. -/
def execDataFlit (p : Fin 4) (h : FlitHeader) (packets : List (BitVec 128 × List (BitVec 8))) (s : State) : Res :=
  if !s.linkActive p.val then ok s
  else
    let s1 := s.takeHeader p.val h
    let d := (h.seq - (s1.linkAt p.val).expect).toNat
    if d = 0 then
      let s2 := (s1.modLink p.val (fun l => { l with expect := l.expect + 1, unacked := l.unacked + 1, replayReq := none })).light (lightFlitRx p.val) 1
      let s3 := packets.foldl (fun s q => s.receive (some p.val) q.1 q.2) s2
      ok (if (s3.linkAt p.val).unacked ≥ 32 then s3.sendAck p.val else s3)
    else if d ≤ 2047 then
      let l := s1.linkAt p.val
      if l.replayReq.isSome then ok s1
      else ok ((s1.modLink p.val (fun l => { l with replayReq := some l.expect })).control p.val 2 l.expect.toNat 0)
    else ok s1

/-- R383: IDLE_FLIT carries the header alone. -/
def execIdleFlit (p : Fin 4) (h : FlitHeader) (s : State) : Res := if s.linkActive p.val then ok (s.takeHeader p.val h) else ok s

/-- R391: ACK_CREDIT carries all five counters. -/
def execAckCredit (p : Fin 4) (h : FlitHeader) (credits : BitVec 80) (s : State) : Res :=
  if !s.linkActive p.val then ok s
  else ok ((List.range 5).foldl (fun s vc => s.takeCredit p.val vc (BitVec.ofNat 16 (bits credits (16 * vc + 15) (16 * vc)))) (s.takeHeader p.val h))

/-- R389, R390: REPLAY_REQ: the buffered flits from a number on go again; a number out of place, or the ninth request in a
row, is fatal. -/
def execReplayReq (p : Fin 4) (h : FlitHeader) (from_ : BitVec 12) (s : State) : Res :=
  if !s.linkActive p.val then ok s
  else
    let s1 := s.takeHeader p.val h
    let l := s1.linkAt p.val
    let o := (l.buffer.head?.map (fun f => f.seq)).getD l.txSeq
    let d := (from_ - o).toNat
    let n := match l.replays with | some (q, k) => if q = from_ then k + 1 else 1 | none => 1
    if d > l.buffer.length then ok (s1.linkFatal p.val 1 from_.toNat)
    else if n ≥ 9 then ok (s1.linkFatal p.val 2 from_.toNat)
    else
      let s2 := (s1.modLink p.val (fun l => { l with replays := some (from_, n) })).bump 64 (0x5410 + p.val) 5
      ok (s2.emit (.replay p ((l.buffer.drop d).map (fun f => f.seq))))

/-- R383: BAD_CRC_FLIT is discarded and counted. -/
def execBadCrcFlit (p : Fin 4) (fec : Bool) (s : State) : Res :=
  let s1 := s.bump 64 (0x5410 + p.val) 6
  ok (if fec then s1.bump 64 (0x5410 + p.val) 8 else s1)

/-- R388: ACK_TIMER. R389: REPLAY_REQ_RESEND. R391: CREDIT_REFRESH. -/
def execAckTimer (p : Fin 4) (s : State) : Res :=
  if s.linkActive p.val && (s.linkAt p.val).unacked ≠ 0 then ok (s.sendAck p.val) else ok s
def execReplayReqResend (p : Fin 4) (s : State) : Res :=
  match (s.linkAt p.val).replayReq with
  | some e => if s.linkActive p.val then ok (s.control p.val 2 e.toNat 0) else ok s
  | none => ok s
def execCreditRefresh (p : Fin 4) (s : State) : Res :=
  if s.linkActive p.val then
    ok (s.control p.val 1 0 0)
  else ok s

/-- R402: RETRAIN_REQ: answered, or crossed with this end's own. -/
def execRetrainReq (p : Fin 4) (width : BitVec 2) (coord : BitVec 6) (s : State) : Res :=
  let l := s.linkAt p.val
  if width = 3 then ok s
  else
    match l.st, l.retrainReq with
    | .retrain, some w =>
      let n := if w.toNat < width.toNat then width else w
      ok (s.modLink p.val (fun l => { l with retrainReq := none, agreed := some n, coord := coord }))
    | .retrain, none => ok (s.control p.val 3 0 (l.agreed.getD width).toNat)
    | .active, _ =>
      let s1 := (s.linkTo p.val .retrain).modLink p.val (fun l => { l with agreed := some width, coord := coord })
      ok (s1.control p.val 3 0 width.toNat)
    | _, _ => ok s

/-- R402: RETRAIN_REQ_REPEAT. -/
def execRetrainReqRepeat (p : Fin 4) (s : State) : Res :=
  match (s.linkAt p.val).st, (s.linkAt p.val).retrainReq with
  | .retrain, some w => ok (s.control p.val 3 0 w.toNat)
  | _, _ => ok s

/-- R400, R403: PMD_TRAINING_DONE at 16, 8 or 4 lanes. -/
def execPmdTrainingDone (p : Fin 4) (lanes : Nat) (s : State) : Res :=
  if (s.linkAt p.val).st ≠ .training || lanes < 4 || s.rst.isolated.contains (.link p) then ok s
  else
    let w := codeLanes (lanesCode lanes)
    let s1 := (s.linkTo p.val .aligning).modLink p.val (fun l => { l with width := w, fails := 0 })
    ok (if w < 16 then s1.report kLinkWidthReduced p.val 0 [(32, p.val), (32, w)] else s1)

/-- R400: TRAINING_FAILED: the third failure takes the link DOWN. -/
def execTrainingFailed (p : Fin 4) (s : State) : Res :=
  let l := s.linkAt p.val
  if l.st ≠ .training then ok s
  else if l.fails ≥ 2 then ok ((s.linkTo p.val .down).modLink p.val (fun l => { l with fails := 0 }))
  else ok (s.modLink p.val (fun l => { l with fails := l.fails + 1 }))

/-- The option record uses a port (R404). -/
def State.linkEnabled (s : State) (p : Nat) : Bool := bitAt (s.option 151 148) p

/-- R514: the reference or the PLL of the pool links has failed: every link stays DOWN. -/
def State.poolClockBad (s : State) : Bool := bit s.clk.status 1 || bit s.clk.status 6

/-- R400: TRAINING_RETRY: a link that is DOWN and not held trains again. -/
def execTrainingRetry (p : Fin 4) (s : State) : Res :=
  let l := s.linkAt p.val
  if l.st = .down && !l.held && s.linkEnabled p.val && !s.pool.broken && !s.poolClockBad then ok (s.linkTo p.val .training) else ok s

/-- R384, R400: this end's INIT flit, with its next expected sequence number and its width. -/
def State.sendInit (s : State) (p : Nat) : State := s.control p 4 (s.linkAt p).expect.toNat (lanesCode (s.linkAt p).width)

/-- R400: ALIGNMENT_DONE, ALIGNMENT_TIMEOUT. -/
def execAlignmentDone (p : Fin 4) (s : State) : Res :=
  if (s.linkAt p.val).st = .aligning then ok ((s.linkTo p.val .init).sendInit p.val) else ok s
def execAlignmentTimeout (p : Fin 4) (s : State) : Res :=
  if (s.linkAt p.val).st = .aligning then ok (s.linkTo p.val .training) else ok s

/-- R378: the position of the neighbour that a port joins, and its port. -/
def State.neighbour (s : State) (p : Nat) : Nat × Nat :=
  let sx := s.option 136 134 + 1
  let sy := s.option 139 137 + 1
  let x := s.position % 8
  let y := s.position / 8
  match p with
  | 0 => (y * 8 + (x + 1) % sx, 1)
  | 1 => (y * 8 + (x + sx - 1) % sx, 0)
  | 2 => ((y + 1) % sy * 8 + x, 3)
  | _ => ((y + sy - 1) % sy * 8 + x, 2)

/-- R19: the ring's chips lie in its class's range. -/
def State.classFits (s : State) : Bool :=
  match s.ringClass with
  | 0 => s.ringChips ≤ 2
  | 1 => 3 ≤ s.ringChips && s.ringChips ≤ 16
  | _ => 17 ≤ s.ringChips && s.ringChips ≤ 64

/-- R20: a chip whose ring is broken brings up no pool link. -/
def State.breakRing (s : State) : State :=
  (List.range 4).foldl (fun s p => s.linkTo p .down) { s with pool := { s.pool with broken := true, ready := false } }

/-- R20, R379: INIT: the peer's position, port, sizes and class are checked; a link that passes starts with fresh credits. -/
def execInitFlit (p : Fin 4) (i : InitFlit) (s : State) : Res :=
  if (s.linkAt p.val).st ≠ .init then ok s
  else
    let n := s.neighbour p.val
    if i.position.toNat = n.1 && i.port.toNat = n.2 && i.sizeX.toNat = s.option 136 134 && i.sizeY.toNat = s.option 139 137 && i.cls.toNat = s.ringClass then
      if !s.classFits then
        ok ((s.breakRing.modLink p.val (fun l => { l with held := true })).report kRingClassMismatch 0 0
          [(32, s.ringClass), (32, s.ringChips), (32, s.hbmExtents), (32, s.ddrExtents)])
      else
        ok (s.modLink p.val (fun l => { l with
          inited := true, peerE := i.expect, coord := i.coord, sent := [], ret := [], freed := [], occ := [] }))
    else
      ok ((s.breakRing.modLink p.val (fun l => { l with held := true })).report kRingMiswired p.val 0
        [(32, p.val), (32, i.position.toNat), (32, i.port.toNat), (32, i.sizeX.toNat), (32, i.sizeY.toNat), (32, i.cls.toNat)])

/-- R400, R401: LINK_INIT_DONE: the link is ACTIVE and replays from the peer's E; DELTAs that wait are sent again. -/
def execLinkInitDone (p : Fin 4) (delayPs : Nat) (s : State) : Res :=
  let l := s.linkAt p.val
  if l.st ≠ .init || !l.inited || s.pool.broken then ok s
  else
    let o := (l.buffer.head?.map (fun f => f.seq)).getD l.txSeq
    let d := (l.peerE - o).toNat
    let left := if d ≤ l.buffer.length then l.buffer.drop d else l.buffer
    let s1 := s.modLink p.val (fun l => { l with
      st := .active, inited := false, buffer := left, replays := none, replayReq := none, unacked := 0,
      txSeq := if l.discard then l.peerE else l.txSeq, discard := false })
    let s2 := (s1.setPar (0x5410 + p.val) 3 delayPs).updateReady
    let s3 := if left = [] then s2 else s2.emit (.replay p (left.map (fun f => f.seq)))
    ok ((s3.pump p.val).pool.deltas.foldl (fun s d => s.deltaAgain (PktHdr.unpack d.1).tag) (s3.pump p.val))

/-- R400: LOSS_OF_SIGNAL. -/
def execLossOfSignal (p : Fin 4) (s : State) : Res :=
  match (s.linkAt p.val).st with
  | .active => ok (s.linkTo p.val .training)
  | .retrain => ok (s.linkTo p.val .training)
  | .init => ok (s.linkTo p.val .training)
  | .aligning => ok (s.linkTo p.val .training)
  | _ => ok s

/-- R401: RETRAIN_DONE at the agreed width; RETRAIN_TIMEOUT. -/
def execRetrainDone (p : Fin 4) (s : State) : Res :=
  let l := s.linkAt p.val
  match l.st, l.agreed with
  | .retrain, some w =>
    let s1 := (s.linkTo p.val .init).modLink p.val (fun l => { l with width := codeLanes w.toNat })
    ok ((s1.bump 32 (0x5410 + p.val) 10).sendInit p.val)
  | _, _ => ok s
def execRetrainTimeout (p : Fin 4) (s : State) : Res := if (s.linkAt p.val).st = .retrain then ok (s.linkTo p.val .training) else ok s

/-- R400-R402: this end asks for a retrain at a width code. -/
def State.askRetrain (s : State) (p w : Nat) : State :=
  ((s.linkTo p .retrain).modLink p (fun l => { l with retrainReq := some (BitVec.ofNat 2 w) })).control p 3 0 w

/-- R400, R401: a write of LINK_COMMAND, OD 0x541p:04. -/
def linkCommand (p v : Nat) : Op := fun s =>
  let l := s.linkAt p
  let width (n : Nat) (s : State) : Nat × Nat × State :=
    if l.st ≠ .active then refuse stState s
    else if n > l.width then done (s.linkTo p .training)
    else done (s.askRetrain p (lanesCode n))
  match v with
  | 1 => if l.st ≠ .active then refuse stState s else done (s.askRetrain p (lanesCode l.width))
  | 2 => width 16 s
  | 3 => width 8 s
  | 4 => width 4 s
  | 5 => done ((s.linkTo p .down).modLink p (fun l => { l with held := true }))
  | 6 =>
    if l.st ≠ .down || s.pool.broken || !s.linkEnabled p || s.poolClockBad then refuse stState s
    else done ((s.linkTo p .training).modLink p (fun l => { l with held := false, fails := 0 }))
  | _ => refuse stRange s

def execRetrain (c : Client) (p : Fin 4) (s : State) : Res := ok (s.request c (0x5410 + p.val) 4 [1] (linkCommand p.val 1))
def execWidth16 (c : Client) (p : Fin 4) (s : State) : Res := ok (s.request c (0x5410 + p.val) 4 [2] (linkCommand p.val 2))
def execWidth8 (c : Client) (p : Fin 4) (s : State) : Res := ok (s.request c (0x5410 + p.val) 4 [3] (linkCommand p.val 3))
def execWidth4 (c : Client) (p : Fin 4) (s : State) : Res := ok (s.request c (0x5410 + p.val) 4 [4] (linkCommand p.val 4))
def execDown (c : Client) (p : Fin 4) (s : State) : Res := ok (s.request c (0x5410 + p.val) 4 [5] (linkCommand p.val 5))
def execUp (c : Client) (p : Fin 4) (s : State) : Res := ok (s.request c (0x5410 + p.val) 4 [6] (linkCommand p.val 6))

/-! ### Routing tables -/

/-- R230: plans that wait at a ring barrier for a partner that has left the tables trap. -/
def State.checkPartners (s : State) : State :=
  (List.range 34).foldl (fun s v =>
    match (s.vatAt v).wait, s.runningOn v with
    | .ring id _, some k =>
      match (s.partners k).find? (fun c => !s.routePresent s.epoch c) with
      | some c => s.trap k v 0x0806 (payload [(32, k), (32, id), (32, c)])
      | none => s
    | _, _ => s) s

/-- R410: a member of the ring is lost during the copy, or the lost coordinate has moved to this chip. -/
def State.checkRebuild (s : State) : State :=
  let r := s.pool.rebuild
  let set (f : Rebuild → Rebuild) : State := { s with pool := { s.pool with rebuild := f r } }
  if r.st = 4 && s.coord = r.lost.toNat then set (fun r => { r with st := 5 })
  else if r.st ≠ 2 then s
  else
    let gone := ((List.range s.stripeChips).map s.ordinalCoord).find? (fun c =>
      c ≠ r.lost.toNat && c ≠ r.lost2.toNat && !s.routePresent s.epoch c)
    match gone with
    | none => s
    | some c => if s.ringClass = 1 then set (fun r => { r with st := 3, lost2 := BitVec.ofNat 6 c })
      else set (fun r => { r with lost2 := if r.lost2 = 0x3F then BitVec.ofNat 6 c else r.lost2 })

/-- R398: a write of a routing table, OD 0x5400:06 or 07. -/
def routeWrite (tbl v : Nat) : Op := fun s =>
  if s.inFlight tbl ≠ 0 then refuse stRange s
  else
    let clean := leNat ((List.range 64).map (fun c => BitVec.ofNat 8 (bitsAt v (8 * c + 5) (8 * c) + (if bitAt v (8 * c + 7) then 128 else 0))))
    done ((s.setPar 0x5400 (6 + tbl) clean).checkPartners.checkRebuild)

def execRouteTableWrite (c : Client) (tbl : Fin 2) (v : BitVec 512) (s : State) : Res :=
  ok (s.request c 0x5400 (6 + tbl.val) (leBytes 64 v.toNat) (routeWrite tbl.val v.toNat))

/-- R398: a write of ACTIVE_EPOCH, OD 0x5400:05. -/
def epochWrite (v : Nat) : Op := fun s =>
  if v > 1 then refuse stRange s else done ((s.setPar 0x5400 5 v).checkPartners.checkRebuild.updateReady)
def execActiveEpochWrite (c : Client) (v : BitVec 8) (s : State) : Res := ok (s.request c 0x5400 5 [v] (epochWrite v.toNat))

/-- R399: CONGESTION_SAMPLE: the occupancy of each VC's receive buffer is counted in its bin of one eighth. -/
def execCongestionSample (p : Fin 4) (s : State) : Res :=
  ok (s.modLink p.val (fun l => { l with
    congestion := (List.range 5).foldl (fun t vc =>
      let b := Nat.min 7 (Tab.get l.occ vc 0 * 8 / vcSize vc)
      Tab.set t (vc * 8 + b) ((Tab.get t (vc * 8 + b) 0 + 1) % 2 ^ 32)) l.congestion }))

/-- R399: a read of CONGESTION_MAP: forty U32 counters, which the read clears. -/
def State.readCongestion (s : State) (p : Nat) : Nat × State :=
  (leNat ((List.range 40).flatMap (fun i => leBytes 4 (Tab.get (s.linkAt p).congestion i 0))), s.modLink p (fun l => { l with congestion := [] }))

/-- R369, R449: a client reads an entry whose read has an effect. -/
def State.query (s : State) (c : Client) (idx sub : Nat) (op : Op) : State :=
  if !s.pwr.gateOn then s
  else match c.path with
  | .window w =>
    if s.clientScope c = 0xFFFF || (s.windowAt w.val).changed then s
    else if s.cx.gap then s.gapPush w.val (.read c idx sub)
    else if !s.running then s.answer c stBusy 0
    else if !s.inScope c idx sub false then s.answer c stDenied 0
    else let r := op (s.modClient c id); r.2.2.answer c r.1 r.2.1
  | _ =>
    if s.cx.gap || !s.running then s.answer c stBusy 0
    else let r := op (s.modClient c id); r.2.2.answer c r.1 r.2.1

def execCongestionMapRead (c : Client) (p : Fin 4) (s : State) : Res :=
  ok (s.query c (0x5410 + p.val) 11 (fun s => let r := s.readCongestion p.val; (stOk, r.1, r.2)))

/-! ### The rebuild engine -/

/-- R411, R413: free slots of the journal take the next extents. -/
def State.fillSlots (s : State) : State :=
  (List.range 8).foldl (fun s i =>
    match Tab.find? s.pool.rebuild.slots i with
    | some _ => s
    | none =>
      match s.rebuildExtent s.pool.rebuild.next with
      | none => s
      | some (t, r) =>
        { s with pool := { s.pool with rebuild := { s.pool.rebuild with
          slots := Tab.set s.pool.rebuild.slots i (BitVec.ofNat 23 (s.rankMedia t r + t * 2 ^ 21)), next := s.pool.rebuild.next + 1 } } }) s

/-- R410, R431: a write of REBUILD_COMMAND, OD 0x5400:0D: START or ABORT. R406: a class M ring of fewer than 8 chips cannot rebuild
(refused by state, log entry 168). -/
def rebuildCommand (v : Nat) : Op := fun s =>
  let lost := bitsAt v 15 8
  let lost2 := bitsAt v 23 16
  let r := s.pool.rebuild
  match bitsAt v 7 0 with
  | 1 =>
    if s.ringClass ≠ 0 && s.sec.ringKey.isNone then refuse stDenied s
    else if r.st ≠ 0 || s.ringClass = 0 || (s.ringClass = 1 && s.ringChips < 8) then refuse stState s
    else if lost > 63 || lost2 > 63 then refuse stRange s
    else
      let n : Rebuild := { (default : Rebuild) with
        st := 1, id := r.id + 1, lost := BitVec.ofNat 6 lost, lost2 := BitVec.ofNat 6 lost2 }
      done (({ s with pool := { s.pool with rebuild := n } }.setPar 0x5400 14 0).setPar 0x5400 15 s.rebuildTotal)
  | 2 =>
    if r.st = 0 then refuse stState s
    else done (({ s with pool := { s.pool with rebuild := { (default : Rebuild) with id := r.id, lost2 := 0x3F } } }.setPar 0x5400 14 0).setPar 0x5400 15 0)
  | _ => refuse stRange s

def execRebuildStart (c : Client) (lost lost2 : BitVec 8) (s : State) : Res :=
  ok (s.request c 0x5400 13 [1, lost, lost2, 0] (rebuildCommand (1 + lost.toNat * 2 ^ 8 + lost2.toNat * 2 ^ 16)))
def execRebuildAbort (c : Client) (s : State) : Res := ok (s.request c 0x5400 13 [2, 0, 0, 0] (rebuildCommand 2))

/-! ### The map copy (R409, R431) -/

/-- R409: the DPA of the map copy: the four highest data extents of the HBM tier. -/
def State.mapCopyDpa (s : State) : Nat := (s.usable 1 + (s.stripeData * s.levels 0 - 4)) * 2 ^ 21

/-- The record of a tenant in the map copy, 128 B (log entry 166). -/
def State.tenantRow (s : State) (t : Nat) : List (BitVec 8) :=
  let x := s.tenantAt t
  fitBytes 128 (leBytes 8 x.base.toNat ++ leBytes 8 x.size.toNat ++ leBytes 8 x.dbSize.toNat ++ leBytes 4 x.keyGen.toNat
    ++ [x.state, BitVec.ofNat 8 (s.par (0x4900 + t) 4)] ++ leBytes 2 0 ++ leBytes 32 (s.par (0x4900 + t) 7))

/-- R431: the number of the key of a slot as it is now: tenants 0-255, and 256 the device key. -/
def State.slotKey (s : State) (k : Nat) : Nat :=
  s.sec.keyEpoch * 2 ^ 41 + s.sec.keyOrigin * 2 ^ 73 + (if k < 256 then (s.tenantAt k).keyGen.toNat * 512 else 0) + k

/-- R409, R431: line `i` of the map copy: the tier map, the tenant partition table, the 256 tenant slots and the device key (their
places are log entry 166). -/
def State.mapCopyLine (s : State) (i : Nat) : List (BitVec 8) :=
  if i < 114688 then
    (List.range 16).flatMap (fun j => leBytes 4 (if i * 16 + j < s.dpaExtents then (s.tierEntry (i * 16 + j)).toNat else 0))
  else if i < 115200 then (s.tenantRow ((i - 114688) / 2)).drop ((i - 114688) % 2 * 64) |>.take 64
  else if i < 115457 then leBytes 64 (s.keyBits (s.slotKey (i - 115200))).toNat
  else List.replicate 64 0

/-- R409, R431: within a frame of every change the map copy holds the tier map, the partition table and the keys as they are. A
rebuild target does not write the map copy that it rebuilds. -/
def State.writeMapCopy (s : State) : State :=
  if s.ringClass = 0 || s.pool.broken || !s.running || (s.pool.rebuild.st ≠ 0 && s.pool.rebuild.st ≠ 5) then s
  else (List.range 131072).foldl (fun s i =>
    let line := s.mapCopyDpa / 64 + i
    if s.loadLine line = s.mapCopyLine i then s else s.storeRaw line (s.mapCopyLine i) false) s

/-- Bytes of the map copy as they stand in memory. -/
def State.mapBytes (s : State) (off n : Nat) : Nat :=
  let a := s.mapCopyDpa + off
  leNat (((s.loadLine (a / 64) ++ s.loadLine (a / 64 + 1)).drop (a % 64)).take n)

/-- R410, R431: the tier map, the partition table, the tenant slots and the device key are loaded from the rebuilt map copy. A
partition that was ACTIVE is loaded as STOPPED, since the target activates none before DONE (log entry 167). -/
def State.loadMap (s : State) : State :=
  let row (t : Nat) : Nat := 0x700000 + 128 * t
  let tier := (List.range s.dpaExtents).map (fun e => (e, BitVec.ofNat 32 (s.mapBytes (4 * e) 4)))
  let load (t : Nat) : Tenant :=
    let st := s.mapBytes (row t + 28) 1
    { s.tenantAt t with
      base := BitVec.ofNat 64 (s.mapBytes (row t) 8), size := BitVec.ofNat 64 (s.mapBytes (row t + 8) 8),
      dbSize := BitVec.ofNat 64 (s.mapBytes (row t + 16) 8), keyGen := BitVec.ofNat 32 (s.mapBytes (row t + 24) 4),
      state := BitVec.ofNat 8 (if st = 2 then 1 else st), stopping := false, keyWait := false, washed := 0 }
  let keys := (List.range 257).map (fun k => BitVec.ofNat 512 (s.mapBytes (0x708000 + 64 * k) 64))
  let s1 := { s with
    med := { s.med with tier := tier }, tenants := (List.range 256).foldl (fun m t => Tab.set m t (load t)) s.tenants,
    sec := { s.sec with keyOrigin := s.sec.keyOrigin + 1 } }
  let s2 := (List.range 256).foldl (fun s' t =>
    (s'.setPar (0x4900 + t) 4 (s.mapBytes (row t + 29) 1)).setPar (0x4900 + t) 7 (s.mapBytes (row t + 32) 32)) s1
  let loaded := (List.range 257).foldl (fun m k => Tab.set m (s2.slotKey k) (keys.getD k 0)) s2.sec.loaded
  { s2 with sec := { s2.sec with loaded := loaded } }

/-- R410: REBUILD_MAP_DONE: the map copy is loaded, and the engine copies extents. -/
def execRebuildMapDone (s0 : State) : Res :=
  let s := s0.loadMap
  if s.pool.rebuild.st ≠ 1 then ok s0
  else ok ({ s with pool := { s.pool with rebuild := { s.pool.rebuild with st := 2 } } }.fillSlots.checkRebuild)

/-- R413: the cursor passes the extents that are committed in unbroken order, and their slots are free. -/
def State.advanceCursor : Nat → State → State
  | 0, s => s
  | n + 1, s =>
    let r := s.pool.rebuild
    let done_ := s.par 0x5400 14
    let first := r.next - (r.slots.length)
    match s.rebuildExtent first with
    | none => s
    | some (t, rk) =>
      let me := s.rankMedia t rk + t * 2 ^ 21
      match List.find? (fun (p : Nat × BitVec 23) => bits p.2 21 0 = me && bit p.2 22) r.slots with
      | some p =>
        if done_ = 0 then s
        else State.advanceCursor n { s with pool := { s.pool with rebuild := { r with
          slots := Tab.erase r.slots p.1, tier := t = 1, cursor := BitVec.ofNat 21 (s.rankMedia t rk + 1) } } }
      | none => s

/-- R412, R413: REBUILD_EXTENT_COMMIT: the extent of a slot is committed, the DELTAs held for it are applied, and after the
last extent the rebuild is READY. -/
def execRebuildExtentCommit (slot : Fin 8) (s : State) : Res :=
  let r := s.pool.rebuild
  match Tab.find? r.slots slot.val with
  | none => ok s
  | some v =>
    if r.st ≠ 2 || bit v 22 then ok s
    else
      let s1 := { s with pool := { s.pool with rebuild := { r with
        slots := Tab.set r.slots slot.val (BitVec.ofNat 23 (bits v 21 0 + 2 ^ 22)),
        heldD := r.heldD.filter (fun d => bits (s.entryAt (PktHdr.unpack d.1).dpa) 21 0 ≠ bits v 21 0) } } }
      let s2 := (r.heldD.filter (fun d => bits (s.entryAt (PktHdr.unpack d.1).dpa) 21 0 = bits v 21 0)).foldl (fun s d =>
        s.applyDelta (PktHdr.unpack d.1).dpa (fitBytes 64 d.2) ((PktHdr.unpack d.1).status = 1)) s1
      let s3 := (State.advanceCursor 8 (s2.bump 32 0x5400 14)).fillSlots
      ok (if s3.par 0x5400 14 ≥ s3.rebuildTotal then { s3 with pool := { s3.pool with rebuild := { s3.pool.rebuild with st := 4 } } } else s3)

/-- R410: REBUILD_POISONING_DONE: the uncommitted extents have been written as poison. -/
def execRebuildPoisoningDone (n : Nat) (s : State) : Res :=
  let r := s.pool.rebuild
  if r.st ≠ 3 then ok s
  else
    let started := r.slots.filter (fun p => !bit p.2 22)
    let rest := (List.range s.rebuildTotal).filterMap (fun j => if j < r.next then none else
      (s.rebuildExtent j).map (fun q => s.rankMedia q.1 q.2 + q.1 * 2 ^ 21))
    let media := started.map (fun p => bits p.2 21 0) ++ rest
    let es := (List.range s.dpaExtents).filter (fun e => media.contains (bits (s.tierEntry e) 21 0))
    let s1 := es.foldl (fun s e => (extentLines e).foldl (fun s l => s.poisonLine l) s) s
    ok ({ s1 with pool := { s1.pool with rebuild := { s1.pool.rebuild with st := 4 } } }.report kRebuildFailed 0 0
      [(32, r.lost.toNat), (32, r.lost2.toNat), (32, n)])

end Machine
end Sys2Proof
end

