-- ==== Sys2Proof/Machine/Readout.lean ====
section
/-! DEFINITION. What a read of an object-dictionary entry returns: the entries that report state of their own, and the
DOMAINs (R440, R445, and the tables of each chapter). -/

namespace Sys2Proof
namespace Machine

/-! ### Words that report state -/

/-- R181: VAT_STATUS. -/
def State.vatStatus (s : State) (v : Nat) : Nat :=
  let x := s.vatAt v
  let l := s.logical v
  let role := if x.unusable then 3 else if l.isSome then 0 else if s.vat.repair = some v then 2 else 1
  role + (if role = 0 then l.getD 0x3F else 0x3F) * 2 ^ 2 + x.owner.getD 0 * 2 ^ 8 + (if x.owner.isSome then 2 ^ 18 else 0)
    + (if x.resident then 2 ^ 19 else 0) + (if x.faultHeld then 2 ^ 20 else 0) + x.activity.toNat * 2 ^ 21 + x.lastTest.toNat * 2 ^ 23

/-- R207: CONTEXT_STATUS. -/
def State.contextStatus (s : State) (k : Nat) : Nat :=
  let x := s.ctxAt k
  let full := x.state ≠ 0 && (s.compFree k).1 < 2
  x.state.toNat + (if x.resident then 4 else 0) + (if x.phase = .running || x.state = 2 then 8 else 0) + x.faultStep.toNat * 2 ^ 4
    + x.launchIndex.toNat * 2 ^ 20 + (if full then 2 ^ 26 else 0) + x.launchNext.toNat * 2 ^ 32

/-- R484: THROTTLE_STATUS. A source counts where it asks for a step below 100 % that is STEP or lower. -/
def State.throttleStatus (s : State) : Nat :=
  let w := s.pwr
  let asks (n : Nat) : Bool := n ≠ 0 && w.step.toNat ≤ n
  w.step.toNat + w.pend.toNat * 2 ^ 3 + (if asks w.reqPower.toNat then 2 ^ 6 else 0)
    + (if w.reqTherm.any (fun t => asks t.toNat) then 2 ^ 7 else 0) + (if w.clamp then 2 ^ 8 else 0) + (if w.pin then 2 ^ 9 else 0)
    + (if asks (s.par 0x2010 4) then 2 ^ 10 else 0) + (if w.emerg || w.emergHold then 2 ^ 11 else 0) + w.vddMv.toNat * 2 ^ 16

/-- R463: a complex's state as COMPLEX_A_STATE gives it. -/
def CxSt.code : CxSt → Nat
  | .booting => 0
  | .resync => 1
  | .standby => 2
  | .active => 3
  | .failed => 4
  | .held => 5

/-- R499: a state of the bring-up machine as BRINGUP_PHASE gives it. -/
def BringUp.code : BringUp → Nat
  | .reset => 0
  | .options => 1
  | .pll => 2
  | .trainHbm => 3
  | .trainDdr => 4
  | .verify => 5
  | .fill => 6
  | .released => 7
  | .active => 8
  | .stopped => 9

/-- RESET_KIND. -/
def ResetKind.code : ResetKind → Nat
  | .cold => 0
  | .warmHeld => 1
  | .warmLost => 2

/-- R400: LINK_STATE. -/
def LinkSt.code : LinkSt → Nat
  | .down => 0
  | .training => 1
  | .aligning => 2
  | .init => 3
  | .active => 4
  | .retrain => 5

/-- R474: the averages of the last samples: voltage in mV, current in mA, power in mW (mV × mA / 1000). -/
def State.busAverage (s : State) : Nat × Int × Nat :=
  let n := s.pwr.samples.length
  if n = 0 then (0, 0, 0)
  else
    let v := (s.pwr.samples.map (fun p => p.1)).sum
    let i := (s.pwr.samples.map (fun p => p.2)).sum
    let p := (s.pwr.samples.map (fun p => (p.1 : Int) * p.2)).sum
    (v / n, i / n, (p / (1000 * n)).toNat)

/-- R482: package power, in mW. -/
def State.packagePower (s : State) : Nat := s.busAverage.2.2 - s.par 0x2010 3

/-- The running image's INTERFACE_VERSION; 0 in boot form. -/
def State.interfaceVersion (s : State) : Nat := if s.running then (s.cxAt s.cx.active).iver.toNat else 0

/-- R91: OD 0x3480: CLASS_COMMITMENT and CLASS_CAPACITY_MIN. -/
def State.classCommitment (s : State) (c : Nat) : Nat := s.commitment c 0 % 2 ^ 32 + s.commitment c 1 % 2 ^ 32 * 2 ^ 32
def State.classCapacity (s : State) (c : Nat) : Nat :=
  let low (ks : List Nat) : Nat := match ks.map (fun k => s.capacity k c) with | [] => 0 | a :: l => l.foldl Nat.min a
  low (s.testSlices 0) % 2 ^ 32 + low (s.testSlices 1) % 2 ^ 32 * 2 ^ 32

/-- ASCII text. -/
def asciiBytes (t : String) : List (BitVec 8) := t.toList.map (fun c => BitVec.ofNat 8 c.toNat)

/-! ### Entries by number -/

/-- Entries of chapters 02 to 05 that report state. -/
def State.readMemory (s : State) (c : Client) (idx sub : Nat) : Option Nat :=
  if idx = 0x3010 then
    match sub with
    | 1 => some s.dpaExtents | 2 => some s.hbmExtents | 3 => some s.ddrExtents
    | 4 => some (if (s.clientAt c).tierKey.toNat < s.dpaExtents then (s.tierEntry (s.clientAt c).tierKey.toNat).toNat else 0)
    | _ => some s.tenantTop
  else if idx = 0x3020 then
    match sub with
    | 3 => some (s.ringParity 0 + s.ringParity 1)
    | n => some (s.armourExtents (n - 1))
  else if idx = 0x3000 && sub = 2 then some (bitSet ((List.range 32).filter (fun k => (s.sliceAt k).hot)))
  else if idx = 0x3000 && sub = 3 then some (bitSet ((List.range 12).filter (fun k => (s.sliceAt (k + 32)).hot)))
  else if 0x3100 ≤ idx && idx < 0x3108 && sub = 3 then some (twos 16 (Tab.get s.pwr.hbm (idx - 0x3100) 0))
  else if idx = 0x3070 && sub = 3 then some (bitSet ((List.range 44).filter (fun k => (s.sliceAt k).fatal)))
  else if 0x3180 ≤ idx && idx < 0x3190 then
    let x := s.copyAt (idx - 0x3180)
    match sub with
    | 1 => some x.state.toNat | 3 => some x.haltPpa.toNat | 4 => some x.done | _ => none
  else if idx = 0x3400 then
    match sub with
    | 1 => some s.cal.frame.toNat | 3 => some s.frameLock | 4 => some s.frameMaster | _ => none
  else if 0x3440 ≤ idx && idx < 0x346C then
    let k := if idx < 0x3460 then idx - 0x3440 else idx - 0x3460 + 32
    some (Tab.get (s.sliceAt k).gates (sub - 1) 0).toNat
  else if idx = 0x3480 then some (if sub ≤ 8 then s.classCommitment (sub - 1) else s.classCapacity (sub - 9))
  else if idx = 0x3820 && sub = 3 then some s.parityDirty
  else if idx = 0x3840 && sub = 4 then some (s.lapProgress 0)
  else if idx = 0x3840 && sub = 5 then some (s.lapProgress 1)
  else none

/-- Entries of chapters 06, 08, 10 and 21 that report state. -/
def State.readVats (s : State) (c : Client) (idx sub : Nat) : Option Nat :=
  let k := s.selected c
  let x := s.ctxAt k
  if idx = 0x4000 then
    match sub with
    | 1 => some s.activeVats | 2 => some (bitSet s.absentVats)
    | 3 => some ((if s.vat.spare.isSome then 1 else 0) + (if s.vat.repair.isSome then 1 else 0))
    | 15 => some (bitSet s.vat.failures) | _ => none
  else if idx = 0x4010 then some (s.vatStatus (sub - 1))
  else if idx = 0x4020 then some ((s.physical (sub - 1)).getD 0xFF)
  else if idx = 0x4400 && sub = 1 then some ((s.ctxs.filter (fun p => p.2.state = 1)).length)
  else if idx = 0x4410 then
    match sub with
    | 1 => some (s.clientAt c).ctxSel.toNat | 2 => some x.entry.toNat | 4 => some (s.contextStatus k)
    | 5 => some x.lastFault.toNat | _ => none
  else if idx = 0x4100 && sub = 1 then some ((s.tlb.l2.filter (fun e => e.locked)).length)
  else if idx = 0x4110 && sub = 1 then some x.binding.toNat
  else if idx = 0x4110 && sub = 3 then some (if s.tlb.invs.any (fun i => i.port.isNone) then 0 else 1)
  else if idx = 0x7010 then
    let g := Tab.get s.tst.sigs (sub - 1) (0, 0)
    some (g.1 + g.2.toNat * 2 ^ 8)
  else if idx = 0x7410 then some (if sub = 1 then x.counterLog.toNat else x.lastCount.toNat)
  else if idx = 0x7420 then
    some ((Tab.find? x.dumpsNext (sub - 1)).getD (Tab.get x.dumps (sub - 1) 0)).toNat
  else none

/-- Entries of chapters 02, 11 to 15 that report state. -/
def State.readSharing (s : State) (c : Client) (idx sub : Nat) : Option Nat :=
  if 0x4900 ≤ idx && idx < 0x4A00 then
    let x := s.tenantAt (idx - 0x4900)
    match sub with
    | 1 => some x.base.toNat | 2 => some x.size.toNat | 3 => some x.dbSize.toNat | 5 => some x.state.toNat
    | 6 => some x.keyGen.toNat | _ => none
  else if idx = 0x5000 then some (if sub = 1 then s.option 142 142 else if s.host.active then 1 else 0)
  else if 0x5010 ≤ idx && idx < 0x5014 && sub = 4 then
    some (if (s.portFuncs (idx - 0x5010)).any (fun f => (s.funcAt f).ide) then 1 else 0)
  else if 0x5100 ≤ idx && idx < 0x5140 then
    let g := s.glazeAt (idx - 0x5100)
    match sub with
    | 6 => some (if s.par idx 5 = 0 then 0 else if g.key.isNone then 1 else 2)
    | 7 => some g.inNext.toNat | 8 => some g.outNext.toNat | _ => none
  else if idx = 0x5200 && sub = 1 then some s.host.boot.claim.toNat
  else if idx = 0x5400 then
    match sub with
    | 1 => some s.position | 2 => some (s.option 139 134) | 3 => some s.ringClass | 4 => some (if s.pool.ready then 1 else 0)
    | 12 => some s.pool.rebuild.st.toNat | _ => none
  else if 0x5410 ≤ idx && idx < 0x5414 then
    match sub with
    | 1 => some (s.linkAt (idx - 0x5410)).st.code | 2 => some (s.linkAt (idx - 0x5410)).width | _ => none
  else if idx = 0x5800 then
    match sub with
    | 1 => some s.dirInUse | 8 => some s.orderedMode
    | 14 =>
      let line := (s.clientAt c).dirKey.toNat / 64
      some (((s.dirAt line).map (fun e => e.pack line)).getD 0)
    | _ => none
  else if idx = 0x5810 && sub = 3 then some (bitSet s.coh.dead)
  else if idx = 0x5810 && sub = 4 then some (if s.coh.sweep.isEmpty then 0 else 1)
  else if 0x5A00 ≤ idx && idx < 0x5B00 && sub = 11 then some (if s.reg.enabled.contains (idx - 0x5A00) then 1 else 0)
  else if idx = 0x6000 then
    match sub with
    | 1 => some s.sec.lcState.toNat | 3 => some s.sec.minSvn.toNat | 5 => some s.sec.runSvn.toNat | 6 => some s.sec.uid.toNat
    | _ => none
  else if idx = 0x6010 && sub = 1 then some (if s.sec.ringKey.isSome then 1 else 0)
  else none

/-- Entries of chapters 16 to 22 that report state. -/
def State.readControl (s : State) (idx sub : Nat) : Option Nat :=
  if idx = 0x1000 then
    match sub with
    | 4 => some s.interfaceVersion | 5 => some s.sec.mac.toNat | 7 => some s.host.boot.state.toNat | _ => none
  else if idx = 0x1010 then some (if sub = 1 then s.opt.inUse.toNat else s.opt.st.toNat)
  else if idx = 0x2000 then
    match sub with
    | 1 => some s.busAverage.1 | 2 => some (twos 32 s.busAverage.2.1) | 3 => some s.packagePower | _ => none
  else if idx = 0x2010 && sub = 6 then some s.throttleStatus
  else if idx = 0x2100 && sub = 1 then some (twos 16 ((s.pwr.core.map (fun p => p.2)).foldl max 0))
  else if idx = 0x2200 && sub = 2 then some (leNat ((List.range 4).map (fun i => BitVec.ofNat 8 (Tab.get s.pwr.pwm i 255))))
  else if idx = 0x2200 && sub = 4 then
    some (leNat ((List.range 6).flatMap (fun i => leBytes 2 (Tab.get s.pwr.avs i ([800, 780, 760, 740, 720, 700].getD i 0)))))
  else if idx = 0x7C00 then
    match sub with
    | 1 => some (if s.cx.active = .A then 0 else 1) | 2 => some s.cx.a.st.code | 3 => some s.cx.b.st.code | _ => none
  else if idx = 0x7C10 then
    match sub with
    | 5 => some s.cx.fwState.toNat | 6 => some (s.cxAt (otherCx s.cx.active)).svn.toNat
    | 7 => some (s.cxAt (otherCx s.cx.active)).iver.toNat | _ => none
  else if idx = 0x7C20 then
    match sub with
    | 1 => some s.rst.cause.toNat | 2 => some s.rst.sources.toNat | 3 => some s.rst.kind.code | 4 => some s.rst.phase.code | _ => none
  else if idx = 0x7C40 then
    match sub with
    | 1 => some s.now | 2 => some (s.clk.frameTime.1.toNat + s.clk.frameTime.2.toNat * 2 ^ 64) | 3 => some (if bit s.clk.status 2 then 1 else 0)
    | 4 => some s.clk.status.toNat | 7 => some s.vatHz | _ => none
  else if idx = 0x7800 && sub = 1 then some ((s.flt.log.getLast?.map (fun r => r.logSeq.toNat)).getD 0)
  else none

/-- The number that an entry of fixed size reads as. -/
def State.entryNumber (s : State) (c : Client) (idx sub : Nat) : Nat :=
  ((s.readMemory c idx sub).orElse (fun _ => (s.readVats c idx sub).orElse (fun _ =>
    (s.readSharing c idx sub).orElse (fun _ => s.readControl idx sub)))).getD (s.par idx sub)

/-! ### DOMAINs -/

/-- `n` elements of `w` bytes. -/
def elems (w n : Nat) (f : Nat → Nat) : List (BitVec 8) := (List.range n).flatMap (fun i => leBytes w (f i))

/-- R532: the light counters in their order. -/
def State.lightValues (s : State) : List Nat := s.now :: (List.range 174).map (fun i => Tab.get s.tst.light (i + 2) 0)

/-- R546: up to sixteen records at or above a position that a scope sees, and the position afterwards. -/
def State.readLog (s : State) (scope : Nat) (pos : BitVec 32) : List FaultRec × BitVec 32 :=
  let rs := (s.flt.log.filter (fun r => pos.toNat ≤ r.logSeq.toNat && s.visible scope r)).take 16
  let head := (s.flt.log.getLast?.map (fun r => r.logSeq)).getD 0
  if rs.length = 16 then (rs, ((rs.getLast?.map (fun r => r.logSeq)).getD head) + 1) else (rs, head + 1)

/-- R464, R546: the crash records, newest first; the manual gives no layout of one, so its length, 64 KiB at most, and its
bytes are free. -/
def State.crashBytes (s : State) : List (BitVec 8) × State :=
  s.flt.crash.foldl (fun (a : List (BitVec 8) × State) _ =>
    let n := a.2.takeFree 16
    let b := State.takeBytes n.1.toNat n.2
    (a.1 ++ b.1, b.2)) ([], s)

/-- The bytes of a DOMAIN, and the state after the read: CONGESTION_MAP is cleared (R399), and FAULT_LOG_READ moves its position
(R546). -/
def State.domainBytes (s : State) (c : Client) (idx sub : Nat) : List (BitVec 8) × State :=
  if idx = 0x3010 then (leBytes 4 (s.entryNumber c idx sub), s)
  else if idx = 0x5800 then (leBytes 16 (s.entryNumber c idx sub), s)
  else if idx = 0x5030 && sub = 1 then (elems 32 64 (fun d => (Tab.get s.host.gfd d 0).toNat), s)
  else if idx = 0x5030 then (elems 64 4096 (fun r => (Tab.get s.host.access r 0).toNat), s)
  else if idx = 0x3050 then (elems 4 440 (s.parElem idx sub), s)
  else if idx = 0x3431 then (elems 4 704 (s.parElem idx sub), s)
  else if idx = 0x3470 then (elems 8 (if sub = 1 then 704 else 44) (s.parElem idx sub), s)
  else if idx = 0x3800 then
    (elems 4 752 (fun u => ((Tab.get s.med.ceUnit u []).filter (fun t => s.now < t + dayNs)).length), s)
  else if idx = 0x4400 then (elems 8 5 (s.parElem idx sub), s)
  else if idx = 0x5400 then (elems 4 2 s.inFlight, s)
  else if 0x5410 ≤ idx && idx < 0x5414 then
    let r := s.readCongestion (idx - 0x5410)
    (leBytes 160 r.1, r.2)
  else if idx = 0x2100 then (elems 2 64 (fun i => twos 16 (Tab.get s.pwr.core i 0)), s)
  else if idx = 0x7C20 then
    (elems 4 10 (fun i => Tab.get s.rst.times i 0 + (if i = s.rst.phase.code then (s.now - s.rst.since) / 1000 else 0)), s)
  else if idx = 0x7C40 then (elems 8 21 (fun d => Tab.get s.clk.cycles d 0 / 1000000), s)
  else if idx = 0x7400 then (s.lightValues.flatMap (leBytes 8), s)
  else if idx = 0x7800 && sub = 2 then
    let r := s.readLog (s.clientScope c) (s.clientAt c).logPos
    (r.1.flatMap (fun x => leBytes 64 x.pack.toNat), s.modClient c (fun x => { x with logPos := r.2 }))
  else if idx = 0x7800 then s.crashBytes
  else ([], s)

/-! ### The value of an entry -/

/-- The value of a VSTRING entry. -/
def State.textOf (s : State) (sub : Nat) : List (BitVec 8) :=
  match sub with
  | 1 => asciiBytes "SK-1840"
  | 2 => asciiBytes (if s.h64 then "SK-1840-H64" else "SK-1840-H36")
  | _ => asciiBytes "B0"

/-- The value that a read of an entry returns, and the state after it. -/
def State.entryValue (s : State) (c : Client) (r : OdRow) (idx sub : Nat) : List (BitVec 8) × State :=
  match r.ty with
  | .domain => s.domainBytes c idx sub
  | .vstring _ => (s.textOf sub, s)
  | t => (leBytes ((OdType.size t).getD 0) (s.entryNumber c idx sub), s)

/-- R439: the highest subindex of an index; none where the index does not exist. -/
def odHighest (idx : Nat) : Option Nat :=
  let rs := odRows.filter (fun r => r.idx ≤ idx && idx < r.idx + r.n)
  match rs with
  | [] => none
  | r :: l => some (l.foldl (fun m x => Nat.max m x.hi) r.hi)

end Machine
end Sys2Proof
end

