-- ==== Sys2Proof/Machine/Security.lean ====
section
/-! DEFINITION. Life cycle, identity and keys (15): the SPDM responder, the ring key, life-cycle transitions, MIN_SVN, and the
draw of keys. -/

namespace Sys2Proof
namespace Machine

/-! ### The SPDM responder (R423; response codes and errors of DSP0274, log entry 31) -/

/-- An SPDM error response. -/
def State.spdmError (s : State) (r : SpdmPath) (code : Nat) : State := s.emit (.spdm r 0x7F [code])

/-- How far version, capabilities and algorithms are agreed on a path: 0 to 3. -/
def State.agreedTo (s : State) (r : SpdmPath) : Nat := ((s.host.agreed.find? (fun a => a.1 = r)).map (fun a => a.2)).getD 0

/-- The state with a path's agreement at a stage. -/
def State.agree (s : State) (r : SpdmPath) (n : Nat) : State :=
  { s with host := { s.host with agreed := (r, n) :: s.host.agreed.filter (fun a => a.1 ≠ r) } }

/-- The responder runs with the firmware. A request of a stage takes effect once the stages before it are agreed. -/
def State.spdm (s : State) (r : SpdmPath) (stage : Nat) (f : State → State) : State :=
  if !s.running then s else if s.agreedTo r < stage then s.spdmError r 4 else f s

/-- R423: GET_VERSION: SPDM 1.3; it ends what was agreed before. -/
def execGetVersion (r : SpdmPath) (s : State) : Res := ok (s.spdm r 0 (fun s => (s.agree r 1).emit (.spdm r 0x04 [0x1300])))

/-- R423: GET_CAPABILITIES. -/
def execGetCapabilities (r : SpdmPath) (s : State) : Res := ok (s.spdm r 1 (fun s => (s.agree r 2).emit (.spdm r 0x61 [])))

/-- R423: NEGOTIATE_ALGORITHMS: P-521, SHA-512, ECDHE on secp521r1 and AES-256-GCM, or none. -/
def execNegotiateAlgorithms (r : SpdmPath) (q : SpdmAlgorithms) (s : State) : Res :=
  ok (s.spdm r 2 (fun s =>
    if q.p521 && q.sha512 && q.ecdhe && q.gcm256 then (s.agree r 3).emit (.spdm r 0x63 [1, 1, 1, 1]) else s.spdmError r 1))

/-- R421: the seed of the DeviceID key pair. -/
def State.deviceSeed (s : State) : BitVec 512 := s.sec.secret

/-- R422, R423: the digest of bytes 0-127 of the running image's manifest. -/
def State.manifestDigest (s : State) : BitVec 512 := sha512 (leBytes 128 (s.sec.manifest.getD 0).toNat)

/-- R422: the seed of the alias key pair: identity secret, manifest digest of the running image, the word of R422. -/
def State.aliasSeed (s : State) : BitVec 512 :=
  sha512 (leBytes 64 s.sec.secret.toNat ++ leBytes 64 s.manifestDigest.toNat ++ asciiBytes ("ali" ++ "as"))

/-- R422: the alias certificate: the alias key, and its signature by the DeviceID key. -/
def State.aliasCert (s : State) : List (BitVec 8) :=
  let k := leBytes 132 (publicKey s.aliasSeed).toNat
  k ++ leBytes 132 (ecSign s.deviceSeed (sha512 k)).toNat

/-- R422: the chain of a slot: what was installed, then the alias certificate. -/
def State.chain (s : State) (slot : Nat) : Option (List (BitVec 8)) := (Tab.find? s.sec.certs slot).map (fun c => c ++ s.aliasCert)

/-- R417, R421: the chip has an identity. -/
def State.hasIdentity (s : State) : Bool := s.sec.identity && s.sec.lcState ≠ 5

/-- R423: GET_DIGESTS: the mask of the slots that hold a chain, and their SHA-512. -/
def execGetDigests (r : SpdmPath) (s : State) : Res :=
  ok (s.spdm r 3 (fun s =>
    if !s.hasIdentity then s.spdmError r 1
    else
      let slots := ([0, 1] : List Nat).filter (fun i => (s.chain i).isSome)
      s.emit (.spdm r 0x01 (bitSet slots :: slots.map (fun i => (sha512 ((s.chain i).getD [])).toNat)))))

/-- R423: GET_CERTIFICATE. -/
def execGetCertificate (r : SpdmPath) (slot : Fin 2) (s : State) : Res :=
  ok (s.spdm r 3 (fun s =>
    match s.chain slot.val with
    | some c => if s.hasIdentity then s.emit (.spdm r 0x02 (c.map (fun b => b.toNat))) else s.spdmError r 1
    | none => s.spdmError r 1))

/-- R422, R423: CHALLENGE: the nonce, signed with the alias key of the running image (log entry 31). -/
def execChallenge (r : SpdmPath) (nonce : BitVec 256) (s : State) : Res :=
  ok (s.spdm r 3 (fun s =>
    if !s.hasIdentity then s.spdmError r 1
    else
      let d := sha512 (leBytes 32 nonce.toNat)
      s.emit (.spdm r 0x03 [nonce.toNat, (publicKey s.aliasSeed).toNat, (ecSign s.aliasSeed d).toNat])))

/-- R423: the tenant that measurement block 5 is about. -/
def State.spdmTenant (s : State) (r : SpdmPath) : Option Nat :=
  match r with
  | .doe f => let t := s.par 0x5040 (f.val + 1); if t < 256 then some t else none
  | .mctp => none

/-- R423: a measurement block. -/
def State.measurement (s : State) (r : SpdmPath) (i : Nat) : List Nat :=
  match i with
  | 1 => [Config.bootRomDigest.toNat]
  | 2 => [s.manifestDigest.toNat]
  | 3 => [(sha512 (leBytes 256 s.opt.inUse.toNat)).toNat]
  | 4 => [s.sec.lcState.toNat, s.sec.minSvn.toNat, s.sec.runSvn.toNat, s.option 142 142, s.ringClass, s.option 139 134,
      if s.sec.ringKey.isSome then 1 else 0]
  | _ =>
    let ws := List.range 64
    match s.spdmTenant r with
    | some t =>
      let x := s.tenantAt t
      [x.base.toNat, x.size.toNat, x.dbSize.toNat, x.keyGen.toNat, if s.confidential t then 1 else 0]
        ++ (ws.filter (fun w => s.par (0x5100 + w) 1 = t)).map (fun w =>
          if s.par (0x5100 + w) 5 = 0 then 0 else if (s.glazeAt w).key.isNone then 1 else 2)
    | none => [0, 0, 0, 0, 0]

/-- R422: the alias key's signature over the values of a response; a chip without an identity signs nothing (R421). -/
def State.signed (s : State) (xs : List Nat) : List Nat :=
  if s.hasIdentity then xs ++ [(ecSign s.aliasSeed (sha512 (xs.flatMap (fun x => leBytes 64 x)))).toNat] else xs

/-- R423: GET_MEASUREMENTS: their number, one block, or all of them, signed. -/
def execGetMeasurements (r : SpdmPath) (index : Nat) (s : State) : Res :=
  ok (s.spdm r 3 (fun s =>
    if index = 0 then s.emit (.spdm r 0x60 (s.signed [5]))
    else if 1 ≤ index && index ≤ 5 then s.emit (.spdm r 0x60 (s.signed (s.measurement r index)))
    else if index = 0xFF then s.emit (.spdm r 0x60 (s.signed (([1, 2, 3, 4, 5] : List Nat).flatMap (fun i => s.measurement r i))))
    else s.spdmError r 1))

/-- R360, R423: KEY_EXCHANGE: one more session of a DOE mailbox, or of the MCTP paths together, four at most. -/
def execKeyExchange (r : SpdmPath) (session : Nat) (s : State) : Res :=
  ok (s.spdm r 3 (fun s =>
    let mine := s.host.sessions.filter (fun x => x.path = r)
    if !s.hasIdentity || mine.any (fun x => x.id = session) then s.spdmError r 1
    else if mine.length ≥ 4 then s.spdmError r 0x0A
    else
      let x : Session := { path := r, id := session, open_ := false, keys := 0 }
      { s with host := { s.host with sessions := s.host.sessions ++ [x] } }.emit (.spdm r 0x64 (s.signed [session]))))

/-- A change of one session, where it stands as asked. -/
def State.inSession (s : State) (r : SpdmPath) (id : Nat) (isOpen : Bool) (code : Nat) (f : State → State) : State :=
  if s.host.sessions.any (fun x => x.path = r && x.id = id && x.open_ = isOpen) then (f s).emit (.spdm r code []) else s.spdmError r 2

/-- The sessions with one changed. -/
def State.modSession (s : State) (r : SpdmPath) (id : Nat) (f : Session → Session) : State :=
  { s with host := { s.host with sessions := s.host.sessions.map (fun x => if x.path = r && x.id = id then f x else x) } }

/-- R423: FINISH, HEARTBEAT, KEY_UPDATE. -/
def execFinish (r : SpdmPath) (session : Nat) (s : State) : Res :=
  ok (s.spdm r 3 (fun s => s.inSession r session false 0x65 (fun s => s.modSession r session (fun x => { x with open_ := true }))))
def execHeartbeat (r : SpdmPath) (session : Nat) (s : State) : Res :=
  ok (s.spdm r 3 (fun s => s.inSession r session true 0x68 id))
def execKeyUpdate (r : SpdmPath) (session : Nat) (s : State) : Res :=
  ok (s.spdm r 3 (fun s => s.inSession r session true 0x69 (fun s => s.modSession r session (fun x => { x with keys := x.keys + 1 }))))

/-- R423, R363: END_SESSION: the glaze keys that it installed are withdrawn. -/
def execEndSession (r : SpdmPath) (session : Nat) (s : State) : Res :=
  ok (s.spdm r 3 (fun s => s.inSession r session true 0x6C (fun s => s.endSession r session)))

/-- R422: GET_CSR: a signing request for the DeviceID key. -/
def execGetCsr (r : SpdmPath) (s : State) : Res :=
  ok (s.spdm r 3 (fun s =>
    if !s.hasIdentity then s.spdmError r 1
    else
      let k := publicKey s.deviceSeed
      s.emit (.spdm r 0x6D [k.toNat, (ecSign s.deviceSeed (sha512 (leBytes 132 k.toNat))).toNat])))

/-- R417, R422: SET_CERTIFICATE: slot 0 in MANUFACTURE, slot 1 in PROVISIONED. -/
def execSetCertificate (r : SpdmPath) (slot : Fin 2) (chain : List (BitVec 8)) (s : State) : Res :=
  ok (s.spdm r 3 (fun s =>
    if s.sec.lcState.toNat = slot.val + 1 then
      { s with sec := { s.sec with certs := Tab.set s.sec.certs slot.val chain } }.emit (.spdm r 0x6E [slot.val])
    else s.spdmError r 1))

/-- R431, R438: RING_KEY_INSTALL: in an open session of MCTP or of an admin-scope function; another key than the one that is
set is refused. -/
def execRingKeyInstall (r : SpdmPath) (session : Nat) (key : BitVec 512) (s : State) : Res :=
  let admin := match r with | .doe f => s.par 0x5040 (f.val + 1) = 0x8000 | .mctp => true
  if !s.running then ok s
  else if !s.sessionOpen r session then ok (s.spdmError r 2)
  else if !admin || s.sec.ringKey.any (fun k => k ≠ key) then ok (s.spdmError r 1)
  else ok ({ s with sec := { s.sec with ringKey := some key } }.emit (.spdm r 0x7E []))

/-! ### Life cycle (R417-R419) and MIN_SVN (R426) -/

/-- R418: a transition that the table allows: whether the token must be signed, none where it is not listed. -/
def State.lcAllowed (s : State) (target : Nat) : Option Bool :=
  let f := s.sec.lcState.toNat
  if target = 5 then (if f = 5 then none else some false)
  else if f = 0 && target = 1 then some true
  else if f = 1 && target = 2 then (if (Tab.find? s.sec.certs 0).isSome then some true else none)
  else if f = 2 && target = 3 then some false
  else if (f = 2 || f = 3) && target = 4 then some true
  else none

/-- R419: the signature of a token over its bytes 0-15 verifies under the life-cycle key. -/
def State.tokenSigned (s : State) (token : BitVec 1184) : Bool :=
  ecdsaVerify s.sec.lcKey (sha512 (leBytes 16 (bits token 127 0))) (bits token 655 128) (bits token 1183 656)

/-- R418, R419: a write of LC_TRANSITION, OD 0x6000:02: the fuses are burnt, or the request is refused with a record. -/
def lcTransition (token : BitVec 1184) : Op := fun s =>
  let target := bits token 71 64
  match (if bits token 63 0 = s.sec.uid.toNat && s.sec.lcNext.isNone then s.lcAllowed target else none) with
  | some signed =>
    if signed && !s.tokenSigned token then
      let c := s.takeFree 32
      refuse stDenied (c.2.report kLcTransitionRefused 0 0 [(8, s.sec.lcState.toNat), (8, target), (32, c.1.toNat)])
    else done { s with sec := { s.sec with lcNext := some (BitVec.ofNat 8 target) } }
  | none =>
    let c := s.takeFree 32
    refuse stDenied (c.2.report kLcTransitionRefused 0 0 [(8, s.sec.lcState.toNat), (8, target), (32, c.1.toNat)])

/-- R418: LC_TRANSITION. -/
def execLcTransition (c : Client) (token : BitVec 1184) (s : State) : Res :=
  ok (s.request c 0x6000 2 (leBytes 148 token.toNat) (lcTransition token))

/-- R426: a write of SVN_COMMIT, OD 0x6000:04. -/
def svnCommit (n : Nat) : Op := fun s =>
  if n ≤ s.sec.runSvn.toNat && n > s.sec.minSvn.toNat then done { s with sec := { s.sec with minSvn := BitVec.ofNat 8 n } }
  else refuse stRange s

/-- R426: SVN_COMMIT. -/
def execSvnCommit (c : Client) (n : BitVec 8) (s : State) : Res := ok (s.request c 0x6000 4 [n] (svnCommit n.toNat))

/-! ### The draw of keys -/

/-- The tenants whose wash waits for a key. -/
def State.keyWaiters (s : State) : List Nat := (s.tenants.filter (fun (p : Nat × Tenant) => p.2.keyWait)).map (fun p => p.1)

/-- R429: ENTROPY_RETRY: a draw whose health test fails is reported; one that passes gives the keys that were waited for. -/
def execEntropyRetry (pass : Bool) (s : State) : Res :=
  if pass then
    let s1 := { s with sec := { s.sec with entropy := 0 } }
    ok (s1.keyWaiters.foldl (fun s t => s.rotateKey t) s1)
  else
    let s1 := { s with sec := { s.sec with entropy := s.sec.entropy + 1 } }.bump 32 0x6000 7
    let c := s1.takeFree 32
    ok (c.2.report kEntropyFailure 0 0 [(32, c.1.toNat), (32, s1.sec.entropy)])

end Machine
end Sys2Proof
end

