-- ==== Sys2Proof/Machine/Testing.lean ====
section
/-! DEFINITION. Self-test and observability (21): pattern slices, test commands, tensor-dump requests, the light counters. -/

namespace Sys2Proof
namespace Machine

/-! ### Slices that do not run -/

/-- The number of a kind of slice: 1 vat, 2 controller, 3 crossbar (as TEST_COMMAND numbers them). -/
def Pattern.code : Pattern → Nat
  | .controller => 2
  | .crossbar => 3

/-- R522: TEST_SLICE_SKIPPED: kind, unit, reason, and 1 where the slice was running. -/
def State.skipSlice (s : State) (kind unit reason : Nat) (running : Bool) : State :=
  (s.bump 32 0x7000 7).report kTestSliceSkipped 0 0 [(32, kind), (32, unit), (32, reason), (32, if running then 1 else 0)]

/-- R524: the vat slice that runs is abandoned: the vat is reset and zeroed and goes back to what it was. -/
def State.abandonVat (s : State) (reason : Nat) : State :=
  match s.tst.testing with
  | none => s
  | some v =>
    let s1 := { s with tst := { s.tst with
      testing := none, vatTest := if s.tst.vatTest = some v then none else s.tst.vatTest } }.modVat v (fun _ => { freshVat with lastTest := 3 })
    (s1.slotVat v).skipSlice 1 v reason true

/-- R522: the pattern slices that run are abandoned. -/
def State.abandonPatterns (s : State) (reason : Nat) : State :=
  (List.range 44).foldl (fun s k =>
    match (s.sliceAt k).armed with
    | some p => (s.modSlice k (fun x => { x with armed := none })).skipSlice p.code k reason true
    | none => s) s

/-- R522: the conditions are tested while slices run. -/
def State.retestSlices (s : State) : State :=
  match s.testBar with
  | none => s
  | some r => (s.abandonVat r).abandonPatterns r

/-! ### Pattern slices -/

/-- R525: slots per frame of a slice's test gates. -/
def State.testSlots (s : State) (k : Nat) : Nat :=
  ((List.range 16).map (fun e =>
    let g := gateOf (Tab.get (s.sliceAt k).eff e 0)
    if g.kind = 4 then g.slots.length else 0)).sum

/-- R525: a slice is asked to run a pattern slice in the next frame. -/
def State.askPattern (s : State) (k : Nat) (p : Pattern) : State :=
  if s.testSlots k < 16 then s.skipSlice p.code k 3 false else s.modSlice k (fun x => { x with armNext := some p })

/-- R525, R522: at a frame boundary a slice that was asked for is armed, where the conditions hold; the one before is over. -/
def State.armPattern (s : State) (k : Nat) : State :=
  let x := s.sliceAt k
  match x.armNext with
  | none => if x.armed.isSome then s.modSlice k (fun x => { x with armed := none }) else s
  | some p =>
    match s.testBar with
    | none => s.modSlice k (fun x => { x with armed := some p, armNext := none })
    | some r => (s.modSlice k (fun x => { x with armed := none, armNext := none })).skipSlice p.code k r false

/-- R529: PATTERN_DUE: the next of the 88 positions; one whose slice is not trained, or is fatal, passes. -/
def execPatternDue (s : State) : Res :=
  if s.par 0x7000 1 = 0 || !s.running then ok s
  else
    let p := s.par 0x7000 3
    let k := p / 2
    let kind : Pattern := if p % 2 = 0 then .controller else .crossbar
    let s1 := s.setPar 0x7000 3 ((p + 1) % 88)
    if !(s1.sliceAt k).trained || (s1.sliceAt k).fatal then ok s1
    else if s1.cx.gap then ok (s1.skipSlice kind.code k 4 false)
    else ok (s1.askPattern k kind)

/-- R528: PATTERN_SLICE_DONE: a first failure runs the slice again in the next frame with the next seed, a second makes the
memory slice fatal. -/
def execPatternSliceDone (sl : Fin 44) (pass : Bool) (misr : BitVec 128) (s : State) : Res :=
  let k := sl.val
  match (s.sliceAt k).armed with
  | none => ok s
  | some p =>
    let s1 := (s.modSlice k (fun x => { x with armed := none })).bump 64 0x7000 5
    if pass then ok (s1.modSlice k (fun x => { x with testFails := 0 }))
    else
      let seed := s1.par 0x7000 4
      let n := (s1.sliceAt k).testFails + 1
      let s2 := ((s1.bump 32 0x7000 6).setPar 0x7000 4 ((seed + 1) % 16)).report { kSliceTestFailed with error := n ≥ 2 } k 0
        [(32, p.code), (32, k), (32, seed), (128, misr.toNat)]
      if n ≥ 2 then ok ((s2.modSlice k (fun x => { x with testFails := 0 })).makeFatal k 0 (s2.sliceAt k).incidents.length)
      else ok (s2.modSlice k (fun x => { x with testFails := n, armNext := some p }))

/-! ### TEST_COMMAND (R529, R537) -/

/-- R529: a vat slice on demand: a vat with a role takes its turn at the next launch point; the rotating spare is washed and
tested. -/
def State.askVat (s : State) (v : Nat) : State :=
  let s1 := { s with tst := { s.tst with vatTest := some v } }
  if s1.vat.spare = some v then
    ({ s1 with vat := { s1.vat with spare := none, toTest := s1.vat.toTest ++ [v] } }).washVat v
  else
    let pos := if s1.vat.repair = some v then some 32 else s1.logical v
    match pos with
    | some p => if s1.vat.due.any (fun d => d.1 = p) then s1 else { s1 with vat := { s1.vat with due := (p, s.now, false) :: s1.vat.due } }
    | none => s1

/-- R529, R537: a write of TEST_COMMAND, OD 0x7000:08. -/
def testCommand (kind unit : Nat) : Op := fun s =>
  if s.sec.lcState ≠ 1 && s.sec.lcState ≠ 4 then refuse stDenied s
  else
    match kind with
    | 1 => if unit ≥ 34 || (s.vatAt unit).unusable then refuse stRange s else done (s.askVat unit)
    | 2 => if unit ≥ 44 || !(s.sliceAt unit).trained then refuse stRange s else done (s.askPattern unit .controller)
    | 3 => if unit ≥ 44 || !(s.sliceAt unit).trained then refuse stRange s else done (s.askPattern unit .crossbar)
    | _ => refuse stRange s

/-- R529: TEST_VAT, TEST_CONTROLLER, TEST_CROSSBAR. -/
def execTestVat (c : Client) (v : BitVec 8) (s : State) : Res := ok (s.request c 0x7000 8 [1, v] (testCommand 1 v.toNat))
def execTestController (c : Client) (sl : BitVec 8) (s : State) : Res := ok (s.request c 0x7000 8 [2, sl] (testCommand 2 sl.toNat))
def execTestCrossbar (c : Client) (sl : BitVec 8) (s : State) : Res := ok (s.request c 0x7000 8 [3, sl] (testCommand 3 sl.toNat))

/-! ### Dumps and light counters -/

/-- R535: the buffer of a dump request: in the HDM-H part of the context's tenant, aligned to 4 KiB. -/
def State.dumpGood (s : State) (k : Nat) (v : BitVec 256) : Bool :=
  let x := s.tenantAt (s.ctxTenant k)
  let at_ := bits v 77 32
  let n := bits v 127 96
  bits v 31 16 = 0 || (at_ % 4096 = 0 && n % 4096 = 0 && x.base.toNat + x.dbSize.toNat ≤ at_ && at_ + n ≤ x.base.toNat + x.size.toNat)

/-- R535: a write of DUMP_REQUEST, OD 0x7420:01-08: the read-only counts stay but for USED, which is cleared. -/
def dumpWrite (c : Client) (n : Nat) (v : BitVec 256) : Op := fun s =>
  let k := s.selected c
  if !s.dumpGood k v then refuse stRange s
  else
    let old := (Tab.find? (s.ctxAt k).dumpsNext n).getD (Tab.get (s.ctxAt k).dumps n 0)
    let new_ := BitVec.ofNat 256 (bits v 77 0 + bits v 127 96 * 2 ^ 96 + bits old 223 160 * 2 ^ 160)
    done (s.modCtx k (fun x => { x with dumpsNext := Tab.set x.dumpsNext n new_ }))

/-- R535: DUMP_REQUEST. -/
def execDumpRequest (c : Client) (n : Fin 8) (v : BitVec 256) (s : State) : Res :=
  ok (s.request c 0x7420 (n.val + 1) (leBytes 32 v.toNat) (dumpWrite c n.val v))

/-- R532: LIGHT_COUNTERS_READ: the whole set in one cycle. -/
def execLightCountersRead (c : Client) (s : State) : Res :=
  ok (s.query c 0x7400 1 (fun s => (stOk, leNat (s.lightValues.flatMap (leBytes 8)), s)))

end Machine
end Sys2Proof
end

