-- ==== Sys2Proof/Machine/Power.lean ====
section
/-! DEFINITION. Supply, power and thermal control (18): the sensors, throttle steps, the control loops, emergencies and their
clamp, and the temperature samples of the memory tiers (R64). -/

namespace Sys2Proof
namespace Machine

/-! ### Throttle steps (R479, R480, R484) -/

/-- R479: the range of the VDD_CORE target at a step, in mV. -/
def avsRange (step : Nat) : Nat × Nat := [(720, 800), (700, 780), (680, 760), (670, 740), (660, 720), (650, 700)].getD step (650, 700)

/-- R479: the AVS target of a step. -/
def State.avsTarget (s : State) (step : Nat) : Nat := Tab.get s.pwr.avs step (avsRange step).2

/-- R478: the setpoint of VDD_SRAM at a step, in mV. -/
def sramSetpoint (step : Nat) : Nat := if step = 0 then 850 else 800

/-- R478, R479: the VDD_CORE target of a step is written to its regulator, and the setpoint of VDD_SRAM where it differs (DESIGN
CHOICE, log entry 187: the two go together). -/
def State.writeVdd (s : State) (step : Nat) : State :=
  let mv := s.avsTarget step
  let s1 := { s with pwr := { s.pwr with vddMv := BitVec.ofNat 16 mv } }.emit (.regulator 0 mv)
  if s1.pwr.sramMv.toNat = sramSetpoint step then s1
  else { s1 with pwr := { s1.pwr with sramMv := BitVec.ofNat 16 (sramSetpoint step) } }.emit (.regulator 1 (sramSetpoint step))

/-- R484: the effective step: the lowest that a source requests. -/
def State.effectiveStep (s : State) : Nat :=
  ([s.pwr.reqPower.toNat, (s.pwr.reqTherm.map (fun t => t.toNat)).getD 0, if s.pwr.clamp then 5 else 0,
    if s.pwr.pin then s.par 0x2010 5 else 0, s.par 0x2010 4]).foldl Nat.max 0

/-- R480: a change of the effective step: a lower step waits for the frame boundary, with the raise given up and the voltage
back; a higher one first asks for its voltage. -/
def State.retarget (s : State) : State :=
  let e := s.effectiveStep
  let now := s.pwr.step.toNat
  let s1 := if s.pwr.raise.any (fun r => r.toNat ≠ e) then
      { s with pwr := { s.pwr with raise := none, settled := false, pend := s.pwr.step } }.writeVdd now
    else s
  if now ≤ e then { s1 with pwr := { s1.pwr with pend := BitVec.ofNat 3 e } }
  else if s1.pwr.raise.isSome || s1.pwr.slow || s1.cx.gap then s1
  else { s1 with pwr := { s1.pwr with raise := some (BitVec.ofNat 3 e), settled := false, pend := s1.pwr.step } }.writeVdd e

/-- R480, R85: at a frame boundary the pending step takes effect: the voltage follows a lower step, and precedes a higher one.
In a fail-over gap only the clamp acts (R467). -/
def State.applyStep (s : State) : State :=
  let old := s.pwr.step.toNat
  let new_ := s.pwr.pend.toNat
  if new_ = old || (s.cx.gap && !s.pwr.clamp) then s
  else
    let low := if s.pwr.emerg && s.pwr.emergLow.toNat < new_ then BitVec.ofNat 3 new_ else s.pwr.emergLow
    let s1 := { s with pwr := { s.pwr with step := BitVec.ofNat 3 new_, raise := none, settled := false, emergLow := low } }.bump 64 0x2010 7
    if old < new_ then s1.writeVdd new_ else s1

/-- R241, R245, R518: a change of the vat clock is an event of every invocation that has not ended, and alters its cycle count. -/
def State.markThrottle (s : State) : State :=
  s.ctxs.foldl (fun s p =>
    if p.2.phase = .running || p.2.state = 2 then
      (s.modCtx p.1 (fun x => { x with inv := x.inv.map (fun i => { i with altered := true }) })).markEvent p.1 3
    else s) s

/-! ### Emergencies (R486, R487) -/

/-- R481: a sensor that is absent. -/
def State.sensorAbsent (s : State) (n : Nat) : Bool := s.pwr.absent.contains n

/-- R481: what a core, HBM or DIMM sensor counts as reading: its emergency threshold while it is absent. -/
def State.coreReading (s : State) (i : Nat) : Int := if s.sensorAbsent i then (s.par 0x2100 4 : Int) else Tab.get s.pwr.core i 0
def State.hbmReading (s : State) (i : Nat) : Int := if s.sensorAbsent (64 + i) then (s.par 0x2100 5 : Int) else Tab.get s.pwr.hbm i 0
def State.dimmReading (s : State) (c : Nat) : Int := if s.sensorAbsent (72 + c) then (s.par 0x2100 6 : Int) else Tab.get s.pwr.dimm c 0

/-- R486: the conditions that hold: (thermal, sensor or condition, reading); `slack` 0 to begin, 1 for the margins of R487. -/
def State.emergencies (s : State) (slack : Bool) : List (Bool × Nat × Int) :=
  let m : Int := if slack then 50 else 0
  let lim (sub : Nat) : Int := (s.par 0x2100 sub : Int) - m
  let core := ((List.range 64).filter (fun i => if slack then s.coreReading i > lim 4 else s.coreReading i ≥ lim 4)).map (fun i => (true, i, s.coreReading i))
  let hbm := ((List.range 8).filter (fun i => if slack then s.hbmReading i > lim 5 else s.hbmReading i ≥ lim 5)).map (fun i => (true, 64 + i, s.hbmReading i))
  let dimm := ((List.range 12).filter (fun i => if slack then s.dimmReading i > lim 6 else s.dimmReading i ≥ lim 6)).map (fun i => (true, 72 + i, s.dimmReading i))
  let last := s.pwr.samples.head?
  let mw : Nat := (last.map (fun p => ((p.1 : Int) * p.2 / 1000).toNat)).getD 0
  let power : List (Bool × Nat × Int) :=
    if slack then (if mw * 100 > s.par 0x2010 2 * 95 then [(false, 1, (mw : Int))] else [])
    else (if s.pwr.powerHi ≥ 10 then [(false, 1, (mw : Int))] else [])
  let volt : List (Bool × Nat × Int) := if s.pwr.busLow ≥ 10 then [(false, 2, ((last.map (fun p => p.1)).getD 0 : Int))] else []
  let warn : List (Bool × Nat × Int) := s.pwr.warnings.map (fun r => (false, 3, (r : Int)))
  core ++ hbm ++ dimm ++ power ++ volt ++ warn

/-- R486, R487: the conditions are tested on a sample: an emergency begins. -/
def State.testEmergency (s : State) : State :=
  match s.emergencies false with
  | (thermal, n, r) :: _ =>
    if s.pwr.emerg then s
    else
      let s2 := { s with pwr := { s.pwr with
        emerg := true, emergAt := s.now, emergLow := s.pwr.step, clamp := true, thrDrive := true, pin := false,
        pwm := [(0, 255), (1, 255), (2, 255), (3, 255)] } }.bump 32 0x2100 7
      (s2.report (if thermal then kThermalEmergency else kPowerEmergency) 0 0 [(32, n), (32, twos 32 r)]).retarget
  | [] => s

/-- R487: EMERGENCY_CLEAR: every condition has been false for 10 ms: the clamp ends, and one record is written. -/
def execEmergencyClear (s : State) : Res :=
  if !s.pwr.emerg || s.emergencies false ≠ [] || s.emergencies true ≠ [] then ok s
  else
    let s1 := { s with pwr := { s.pwr with emerg := false, emergHold := true, clamp := false, thrDrive := false } }
    ok ((s1.report kEmergencyCleared 0 0 [(32, (s.now - s.pwr.emergAt) / 1000), (32, s.pwr.emergLow.toNat)]).retarget)

/-- R487: EMERGENCY_HOLD_EXPIRE. -/
def execEmergencyHoldExpire (s : State) : Res := ok { s with pwr := { s.pwr with emergHold := false } }

/-! ### Sensors (R481) -/

/-- R481: a read of a sensor that answered, or did not: the third failure in a row marks it absent. -/
def State.sensorRead (s : State) (n : Nat) (answered : Bool) : State :=
  if answered then { s with pwr := { s.pwr with missed := Tab.erase s.pwr.missed n, absent := s.pwr.absent.filter (fun k => k ≠ n) } }
  else
    let k := Tab.get s.pwr.missed n 0 + 1
    let s1 := { s with pwr := { s.pwr with missed := Tab.set s.pwr.missed n k } }
    if k = 3 then { s1 with pwr := { s1.pwr with absent := addNew s1.pwr.absent n } }.report kSensorAbsent 0 0 [(32, n)] else s1

/-- R64: a slice changes to its hot set above 85 °C and back at 83 °C or below, at the next frame boundary. -/
def State.heat (s : State) (k : Nat) (r : Int) : State :=
  if r > 850 then s.modSlice k (fun x => { x with hotNext := true })
  else if r ≤ 830 then s.modSlice k (fun x => { x with hotNext := false })
  else s

/-- R489: THERMTRIP_N is asserted at 125 °C of a core sensor or 105 °C of a stack. -/
def State.testTrip (s : State) : State :=
  if s.pwr.core.any (fun p => p.2 ≥ 1250) || s.pwr.hbm.any (fun p => p.2 ≥ 1050) then { s with pwr := { s.pwr with thermtrip := true } } else s

/-- R64, R481, R486, R489: HBM_TEMP_SAMPLE: a reading in 0.1 °C, none where the sensor does not answer. -/
def execHbmTempSample (st : Fin 8) (r : Option Int) (s : State) : Res :=
  let s1 := s.sensorRead (64 + st.val) r.isSome
  let s2 := match r with | some t => { s1 with pwr := { s1.pwr with hbm := Tab.set s1.pwr.hbm st.val t } } | none => s1
  let t := s2.hbmReading st.val
  let s3 := (List.range 4).foldl (fun s i => s.heat (4 * st.val + i) t) s2
  ok s3.testTrip.testEmergency

/-- R64, R481, R486: DIMM_TEMP_SAMPLE: an absent sensor makes its slice hot. -/
def execDimmTempSample (ch : Fin 12) (r : Option Int) (s : State) : Res :=
  let s1 := s.sensorRead (72 + ch.val) r.isSome
  let s2 := match r with | some t => { s1 with pwr := { s1.pwr with dimm := Tab.set s1.pwr.dimm ch.val t } } | none => s1
  let s3 := if s2.sensorAbsent (72 + ch.val) then s2.modSlice (32 + ch.val) (fun x => { x with hotNext := true })
    else s2.heat (32 + ch.val) (s2.dimmReading ch.val)
  ok s3.testEmergency

/-- R483: the core sensors against THROTTLE_TEMP: the first request of the thermal loop, and the time since all are cool. -/
def State.testThrottle (s : State) : State :=
  let lim : Int := (s.par 0x2100 3 : Int)
  let hottest := (List.range 64).foldl (fun m i => max m (s.coreReading i)) (s.coreReading 0)
  let cool := hottest ≤ lim - 30
  let s1 := { s with pwr := { s.pwr with coolFrom := if cool then (some (s.pwr.coolFrom.getD s.now)) else none } }
  if hottest ≥ lim && s.pwr.reqTherm.isNone && s.running && !s.cx.gap then
    { s1 with pwr := { s1.pwr with reqTherm := some (BitVec.ofNat 3 (Nat.min 5 (s.pwr.step.toNat + 1))) } }.retarget
  else s1

/-- R481, R483, R486, R489: CORE_TEMP_SAMPLE: the 64 diodes. -/
def execCoreTempSample (rs : List (Option Int)) (s : State) : Res :=
  let s1 := (rs.zipIdx.filter (fun p => p.2 < 64)).foldl (fun s p =>
    let s1 := s.sensorRead p.2 p.1.isSome
    match p.1 with | some t => { s1 with pwr := { s1.pwr with core := Tab.set s1.pwr.core p.2 t } } | none => s1) s
  ok s1.testThrottle.testTrip.testEmergency

/-- R474, R486: BUS_SAMPLE: voltage in mV and current in mA; 64 samples are kept, ten in a row last 100 µs. -/
def execBusSample (r : Option (Nat × Int)) (s : State) : Res :=
  let s1 := s.sensorRead 89 r.isSome
  match r with
  | none => ok s1.testEmergency
  | some (v, i) =>
    let mw : Int := (v : Int) * i / 1000
    ok ({ s1 with pwr := { s1.pwr with
      samples := ((v, i) :: s1.pwr.samples).take 64,
      powerHi := if mw > (s1.par 0x2010 2 : Int) then s1.pwr.powerHi + 1 else 0,
      busLow := if v < 38000 then s1.pwr.busLow + 1 else 0 } }).testEmergency

/-- R467: a sample that firmware would have taken in a fail-over gap is marked absent. -/
def State.missSample (s : State) (n : Nat) : State := { s with pwr := { s.pwr with absent := addNew s.pwr.absent n } }

/-- R467, R481, R522: REGULATOR_TELEMETRY_SAMPLE: VDD_CORE as read decides whether test slices go on. -/
def execRegulatorTelemetrySample (rail : Fin 5) (mv : Option Nat) (s : State) : Res :=
  if s.cx.gap then ok (s.missSample (84 + rail.val))
  else
  let s1 := s.sensorRead (84 + rail.val) mv.isSome
  match mv with
  | some v => if rail.val = 0 then ok { s1 with pwr := { s1.pwr with vddRead := v } }.retestSlices else ok s1
  | none => ok s1

/-- R486: REGULATOR_WARNING: it begins or ends. -/
def execRegulatorWarning (rail : Fin 5) (on : Bool) (s : State) : Res :=
  let w := if on then addNew s.pwr.warnings rail.val else s.pwr.warnings.filter (fun r => r ≠ rail.val)
  ok ({ s with pwr := { s.pwr with warnings := w } }).testEmergency

/-- R467, R481: TACH_SAMPLE, OD 0x2200:03. -/
def execTachSample (i : Fin 4) (rpm : Option Nat) (s : State) : Res :=
  if s.cx.gap then ok (s.missSample (90 + i.val))
  else
  let s1 := s.sensorRead (90 + i.val) rpm.isSome
  match rpm with
  | some n => ok (s1.setPar 0x2200 3 (setBits (s1.par 0x2200 3) (16 * i.val + 15) (16 * i.val) (Nat.min n 0xFFFF)))
  | none => ok s1

/-! ### The loops (R479, R480, R482, R483) -/

/-- R479: AVS_MEASUREMENT: each step's target, clamped to its range; the one of the step in force is written where it changed
(a raise that waits for its voltage keeps it). -/
def execAvsMeasurement (targets : List Nat) (s : State) : Res :=
  if !s.running || s.cx.gap then ok s
  else
    let old := s.avsTarget s.pwr.step.toNat
    let avs := (List.range 6).foldl (fun t i =>
      match targets[i]? with
      | some v => Tab.set t i (Nat.max (avsRange i).1 (Nat.min v (avsRange i).2))
      | none => t) s.pwr.avs
    let s1 := { s with pwr := { s.pwr with avs := avs } }
    let new_ := s1.avsTarget s1.pwr.step.toNat
    if new_ ≠ old && s1.pwr.raise.isNone then ok (s1.writeVdd s1.pwr.step.toNat) else ok s1

/-- R480: REGULATOR_SETTLED: the raise takes effect at the next frame boundary. -/
def execRegulatorSettled (s : State) : Res :=
  match s.pwr.raise with
  | some r => ok { s with pwr := { s.pwr with settled := true, pend := r } }
  | none => ok s

/-- R480: REGULATOR_SLOW: the raise is given up, and the voltage goes back. -/
def execRegulatorSlow (us : Nat) (s : State) : Res :=
  match s.pwr.raise with
  | some r =>
    if s.pwr.settled then ok s
    else
      let s1 := { s with pwr := { s.pwr with raise := none, slow := true, pend := s.pwr.step } }
      ok ((s1.report kRegulatorSlow 0 0 [(32, 0), (32, s1.avsTarget r.toNat), (32, us)]).writeVdd s1.pwr.step.toNat)
  | none => ok s

/-- R482, R479: the predicted package power at a step: the dynamic power of VDD_CORE scales by clock × voltage²; in the
product of mW and (tenths × mV²) at the step in force. -/
def State.predicted (s : State) (dyn step : Nat) : Nat × Nat :=
  let w (n : Nat) : Nat := (10 - n) * s.avsTarget n * s.avsTarget n
  let one := w s.pwr.step.toNat
  ((s.packagePower - dyn) * one + dyn * w step, one)

/-- R482: the predicted power at a step is at most `pct` % of POWER_CAP. -/
def State.fitsCap (s : State) (dyn step pct : Nat) : Bool :=
  let p := s.predicted dyn step
  p.1 * 100 ≤ s.par 0x2010 1 * pct * p.2

/-- R482: POWER_LOOP_RUN: down to the highest step whose prediction is within POWER_CAP, or up by one step where its prediction
is at most 97 % of it. -/
def execPowerLoopRun (dynMw : Nat) (s : State) : Res :=
  if !s.running || s.cx.gap then ok s
  else
    let n := s.pwr.step.toNat
    let best := ((List.range 6).find? (fun k => s.fitsCap dynMw k 100)).getD 5
    let want : Nat := if n ≤ best then best else if s.fitsCap dynMw (n - 1) 97 then n - 1 else n
    ok ({ s with pwr := { s.pwr with reqPower := BitVec.ofNat 3 want, slow := false } }).retarget

/-- R483: the duty of a temperature by FAN_CURVE, between its points on the line. -/
def State.fanDuty (s : State) (t : Int) : Nat :=
  let v := s.par 0x2200 1
  let pts : List (Int × Int) := (List.range 8).map (fun i =>
    (signedOf 16 (bitsAt v (32 * i + 15) (32 * i)), ((bitsAt v (32 * i + 31) (32 * i + 16) : Nat) : Int)))
  let seg := (pts.zip (pts.drop 1)).find? (fun p => p.1.1 ≤ t && t < p.2.1)
  let d : Int := match seg with
    | some (a, b) => a.2 + (b.2 - a.2) * (t - a.1) / (b.1 - a.1)
    | none => match pts.head? with
      | some a => if t < a.1 then a.2 else ((pts.getLast?.map (fun p => p.2)).getD 256)
      | none => 256
  Nat.min 255 d.toNat

/-- R483: THERMAL_LOOP_RUN: the fan and pump duties from the hottest reading, and the withdrawal of the request. -/
def execThermalLoopRun (s : State) : Res :=
  if !s.running || s.cx.gap then ok s
  else
    let all := (List.range 64).map s.coreReading ++ (List.range 8).map s.hbmReading ++ (List.range 12).map s.dimmReading
    let t := all.foldl max (s.coreReading 0)
    let d := s.fanDuty t
    let s1 := if s.pwr.clamp then s else { s with pwr := { s.pwr with pwm := [(0, d), (1, d), (2, d), (3, d)] } }
    if s1.pwr.reqTherm.isSome && s1.pwr.coolFrom.any (fun a => a + 10000000 ≤ s1.now) then
      ok ({ s1 with pwr := { s1.pwr with reqTherm := none } }).retarget
    else ok s1

/-- R483: THERMAL_STEP_LOWER: one further step while a core sensor is at or above THROTTLE_TEMP. -/
def execThermalStepLower (s : State) : Res :=
  if !s.running || s.cx.gap then ok s
  else
    match s.pwr.reqTherm with
    | some r =>
      if (List.range 64).any (fun i => s.coreReading i ≥ (s.par 0x2100 3 : Int)) && r.toNat < 5 then
        ok ({ s with pwr := { s.pwr with reqTherm := some (r + 1) } }).retarget
      else ok s
    | none => ok s

/-! ### THROTTLE_N (R488) -/

/-- R488: THROTTLE_N_ASSERT and THROTTLE_N_RELEASE by another device; the pin is no input while the chip drives it. -/
def execThrottleNAssert (s : State) : Res :=
  if s.pwr.thrDrive then ok s else ok ({ s with pwr := { s.pwr with pin := true } }).retarget
def execThrottleNRelease (s : State) : Res := ok ({ s with pwr := { s.pwr with pin := false } }).retarget

/-- R484: THROTTLE_LIMIT and THROTTLE_PIN_STEP change the effective step. -/
def throttleWrite (sub v : Nat) : Op := fun s => if v > 5 then refuse stRange s else done (s.setPar 0x2010 sub v).retarget

end Machine
end Sys2Proof
end

