-- ==== Sys2Proof/Machine/Reset.lean ====
section
/-! DEFINITION. Reset and bring-up (19), and the supply events that reset the chip (18): what each kind of chip reset clears and
keeps, the entry into a warm reset, the bring-up machine, the option record as it is read (16), and resets of one block. -/

namespace Sys2Proof
namespace Machine

/-- The state in which a command of the model leaves the block. -/
def Res.stateOr (r : Res) (s : State) : State := match r with | .next t => t | _ => s

/-! ### What a chip reset clears (R491, R492, R497, R503) -/

/-- R164: the vat map of a cold reset: the logical vats whose physical vats are on the failure list take the spares in turn. Where
physical vat 32 itself is on the list, the spare that is left over is the rotating one (DESIGN CHOICE, log entry 171). -/
def coldMap (failures : List Nat) : Tab Nat × Option Nat × Option Nat :=
  let spare : Option Nat := if failures.contains 32 then none else some 32
  let repair : Option Nat := if failures.contains 33 then none else some 33
  let r := (List.range 32).foldl (fun (a : Tab Nat × Option Nat × Option Nat) l =>
    if !failures.contains l then a
    else
      match a.2.2, a.2.1 with
      | some p, sp => (Tab.set a.1 l p, sp, none)
      | none, some p => (Tab.set a.1 l p, none, none)
      | none, none => (Tab.set a.1 l 0xFF, none, none)) ([], spare, repair)
  if r.2.1.isNone && failures.contains 32 then (r.1, r.2.2, none) else r

/-- The vats after a reset: nothing runs, the map and the results of the last tests stay. -/
def State.resetVats (s : State) (map : Tab Nat) (spare repair : Option Nat) (failures : List Nat) (keepTests : Bool) : VatState :=
  { State.reset.vat with
    vats := (List.range 34).map (fun v =>
      (v, { freshVat with unusable := failures.contains v, lastTest := if keepTests then (s.vatAt v).lastTest else 0 })),
    lmap := map, spare := spare, repair := repair, failures := failures, testPos := if keepTests then s.vat.testPos else 0 }

/-- R164: the spare that a warm reset finds: the vat with no role, be it under a wash, a test or a takeover. -/
def State.warmSpare (s : State) : Option Nat :=
  (List.range 34).find? (fun v => (s.logical v).isNone && s.vat.repair ≠ some v && !s.vat.failures.contains v)

/-- A host port after a chip reset. -/
def State.resetPorts (s : State) : Tab Port := (List.range 4).map (fun p => (p, { (default : Port) with perst := (s.portAt p).perst }))

/-- R442, R416: the entries that a reset without memory held leaves: all but the writable ones, the routing tables apart. -/
def State.keptOd (s : State) : Tab Nat :=
  s.od.filter (fun p =>
    let idx := p.1 % 2 ^ 24 / 256
    let sub := p.1 % 256
    if idx = 0x5400 && (sub = 5 || sub = 6 || sub = 7) then true
    else match odRow idx sub with
      | some r => r.acc ≠ .rw && r.acc ≠ .rws
      | none => true)

/-- A slice after a warm reset: its training, the fatal state and its incidents stay, its queues are empty; the gates that
are not the device's stay where memory is held. -/
def Slice.afterReset (x : Slice) (held : Bool) : Slice :=
  let g (t : Tab (BitVec 64)) : Tab (BitVec 64) := if held then t else t.filter (fun (p : Nat × BitVec 64) => p.1 < 3)
  { (default : Slice) with
    gates := g x.gates, eff := g x.eff, trained := x.trained, fatal := x.fatal, hot := x.hot, hotNext := x.hotNext,
    incidents := x.incidents }

/-- What every memory-losing reset forgets of the media (R43, R429, R500). -/
def MediaState.lost (m : MediaState) : MediaState :=
  { (default : MediaState) with ceUnit := m.ceUnit, ceSent := m.ceSent }

/-- R457: a write of the option record that a reset cuts off has failed; its copy stays invalid. -/
def OptState.cut (o : OptState) : OptState := if o.writing.isSome then { o with writing := none, st := 3 } else o

/-- R480, R487, R557: throttling after a chip reset: the 100 % step, VDD_CORE at 0.80 V, no request. -/
def PwrState.restart (p : PwrState) : PwrState :=
  { p with
    step := 0, pend := 0, raise := none, settled := false, slow := false, reqPower := 0, reqTherm := none, coolFrom := none,
    clamp := false, emerg := false, emergHold := false, thrDrive := false, vddMv := 800, sramMv := 850, pwm := [] }

/-- R414: the rebuild engine of a chip that lost its memory: at MAP where it was at work, its journal cleared. -/
def Rebuild.restart (r : Rebuild) : Rebuild :=
  let fresh : Rebuild := { (default : Rebuild) with lost2 := 0x3F }
  if r.st = 0 || r.st = 5 then fresh else { fresh with st := 1, id := r.id, lost := r.lost, lost2 := r.lost2 }

/-- R491: a warm reset, with memory held or lost. -/
def State.warmState (s : State) (held : Bool) : State :=
  let z := State.reset
  { s with
    od := (if held then s.od else s.keptOd),
    flt := if held then s.flt else { (default : FaultState) with crash := s.flt.crash, deferred := s.flt.deferred },
    cal := { s.cal with
      corr := 0, goodRun := 0, badRun := 0, probes := [],
      slices := s.cal.slices.map (fun (p : Nat × Slice) => (p.1, p.2.afterReset held)),
      qosEff := if held then s.cal.qosEff else [] },
    med := if held then
        { s.med with merge := [], heldW := [], escQueue := [], escEng := [], pcache := [], copy := [], valid := false, eccMode := s.eccWanted }
      else s.med.lost,
    vat := s.resetVats s.vat.lmap s.warmSpare s.vat.repair s.vat.failures true,
    ctxs := if held then s.ctxs.map (fun (p : Nat × Ctx) => (p.1, { (default : Ctx) with
      entry := p.2.entry, binding := p.2.binding, counterLog := p.2.counterLog, dumps := p.2.dumps, dumpsNext := p.2.dumpsNext,
      recordNo := p.2.recordNo, lastCount := p.2.lastCount, lastFault := p.2.lastFault })) else [],
    tlb := default,
    coh := { z.coh with pred := s.coh.pred },
    reg := default,
    tenants := if held then s.tenants else [],
    host := { z.host with
      ports := s.resetPorts, gfd := if held then s.host.gfd else [], access := if held then s.host.access else [] },
    pool := { z.pool with
      tag := s.pool.tag, stored := if held then s.pool.stored else [],
      rebuild := if held then { s.pool.rebuild with heldD := [] } else s.pool.rebuild.restart },
    sec := { s.sec with
      runSvn := 0, manifest := none, entropy := 0,
      ringKey := if held then s.sec.ringKey else none, keyEpoch := if held then s.sec.keyEpoch else s.sec.keyEpoch + 1,
      loaded := if held then s.sec.loaded else [] },
    clients := [],
    opt := s.opt.cut,
    cx := z.cx,
    pwr := s.pwr.restart,
    clk := { s.clk with cycles := s.clk.cycles.filter (fun p => p.1 ≥ 19) },
    tst := { s.tst with vatTest := none, testing := none, records := [] } }

/-- R417, R421: the fuses as a cold reset reads them: a burnt life-cycle state takes effect; the identity secret is drawn at
the first one in MANUFACTURE and overwritten with ones in SCRAPPED. -/
def State.coldSec (s : State) : SecState × State :=
  let lc := s.sec.lcNext.getD s.sec.lcState
  let draw := lc = 1 && !s.sec.identity
  let r := if draw then s.takeFree 512 else (s.sec.secret, s)
  ({ (default : SecState) with
     lcState := lc, minSvn := s.sec.minSvn, uid := s.sec.uid, mac := s.sec.mac, certs := s.sec.certs,
     lcKey := s.sec.lcKey, prodKey := s.sec.prodKey, testKey := s.sec.testKey,
     identity := s.sec.identity || draw, secret := if lc = 5 then BitVec.allOnes 512 else r.1, keyEpoch := s.sec.keyEpoch + 1 }, r.2)

/-- R491: a cold reset: fuses, flash, the SID's own registers and the pins stay. -/
def State.coldState (s : State) : State :=
  let z := State.reset
  let c := s.coldSec
  let m := coldMap s.vat.failures
  { z with
    pending := s.pending, out := s.out, fresh := c.2.fresh, h64 := s.h64,
    od := s.od.filter (fun p => p.1 = odKey 0x2000 7 || p.1 = odKey 0x2000 8),
    flt := { z.flt with crash := s.flt.crash },
    vat := s.resetVats m.1 m.2.1 m.2.2 s.vat.failures false,
    host := { z.host with ports := s.resetPorts },
    sec := c.1,
    opt := { z.opt with
      copy0 := s.opt.copy0, commit0 := s.opt.commit0, copy1 := s.opt.copy1, commit1 := s.opt.commit1, used := s.opt.used },
    pwr := { z.pwr with
      gateOn := s.pwr.gateOn, latched := s.pwr.latched, gateRec := s.pwr.gateRec, samples := s.pwr.samples,
      thermtrip := s.pwr.thermtrip },
    rst := { z.rst with prstLow := s.rst.prstLow },
    clk := { z.clk with
      now := s.clk.now, holdTo := s.clk.holdTo, status := s.clk.status, suspect := s.clk.suspect, coreBad := s.clk.coreBad,
      cycles := s.clk.cycles.filter (fun p => p.1 ≥ 19) },
    tst := { z.tst with tapIr := s.tst.tapIr, boundary := s.tst.boundary } }

/-! ### The bring-up machine (R499) -/

/-- R499: the machine enters a state; the time spent in the one before is kept. -/
def State.enterPhase (s : State) (p : BringUp) : State :=
  let c := s.rst.phase.code
  { s with rst := { s.rst with
      phase := p, since := s.now, times := Tab.set s.rst.times c (Tab.get s.rst.times c 0 + (s.now - s.rst.since) / 1000) } }

/-- R494, R499: the machine leaves RESET once PRST_N is high and the supply is on. -/
def State.leaveReset (s : State) : State :=
  if s.rst.phase ≠ .reset || s.rst.prstLow || !s.pwr.gateOn then s
  else s.enterPhase (if s.rst.kind = .cold then .options else .pll)

/-- A chip reset asserts, with its cause and the sources seen (R493, R507); a reset that becomes a stronger one counts once. -/
def State.assertReset (s : State) (kind : ResetKind) (cause sources : Nat) : State :=
  let counted := s.rst.phase = .reset && s.rst.kind ≠ ResetKind.cold
  let count (t : State) : State := if counted then t else t.bump 32 0x7C20 7
  let s1 := match kind with
    | .cold => s.coldState
    | .warmHeld => count (s.warmState true)
    | .warmLost => count (s.warmState false)
  let s2 := { s1 with rst := { (default : RstState) with
    phase := .reset, cause := BitVec.ofNat 8 cause, sources := BitVec.ofNat 16 sources, kind := kind, prstLow := s.rst.prstLow,
    trained := kind ≠ ResetKind.cold && s.rst.trained, since := s.now } }
  ((s2.setPar 0x3400 2 0).setPar 0x3400 3 0).leaveReset

/-- R497, first step: every context is reset as by RESET, and POOL_READY is deasserted. -/
def State.stopWork (s : State) : State :=
  let s1 := (s.ctxs.map (fun (p : Nat × Ctx) => p.1)).foldl (fun s k => s.resetContext k) s
  { s1 with pool := { s1.pool with ready := false } }

/-- R131, R497: on the way into self-refresh every slot that an escalation waits for is free. -/
def State.freeEscSlots (s : State) : State :=
  { s with cal := { s.cal with slices := s.cal.slices.map (fun (p : Nat × Slice) => (p.1, { p.2 with escq := [] })) } }

/-- R132, R497: the escalations that wait or run finish. -/
def State.finishEscalations (s : State) : State :=
  (List.range 9).foldl (fun s _ =>
    let s1 := (List.range 8).foldl (fun s _ => (execEscalationGrant [] s).stateOr s) s
    (List.finRange 8).foldl (fun s e =>
      let s := s.freeEscSlots
      let t := ((execEscalationDecodeDone e 0 s).stateOr s).freeEscSlots
      (execEscalationWritebackDone e t).stateOr t) s1) s

/-- R497: the vats write their dirty lines back. -/
def State.flushVats (s : State) : State := (List.finRange 32).foldl (fun s k => s.flushCache k) s

/-- R497: the copy channels are empty and the host links down. -/
def State.heldLinks (s : State) : State :=
  (List.range 4).foldl (fun s p => s.linkDown p) { s with med := { s.med with copy := [] } }

/-- R135, R497: the sweeps of the directory end, and every merge-buffer entry is written by its read-modify-write. -/
def State.heldMerges (s : State) : State :=
  let t := (execDirectorySweepDone s).stateOr s
  t.med.merge.foldl (fun s e =>
    match (s.releaseMerge e.line).mergeEntry e.line with
    | some x => (s.releaseMerge e.line).rmwNow x
    | none => s) t

/-- R128, R497: the parity cache is written back. -/
def State.heldParity (s : State) : State :=
  (s.med.pcache.map (fun (l : PcLine) => l.line)).foldl (fun s l => (execParityCacheWriteback l s).stateOr s) s

/-- R497: the moves in flight are given up. -/
def State.heldMoves (s : State) : State := s.reg.moves.foldl (fun s m => s.abandonMove m) s

/-- R497: the entry steps before self-refresh, in their order. -/
def State.enterHeld (s : State) : State :=
  let t := s.stopWork.flushVats.heldLinks.finishEscalations.heldMerges.heldMoves.heldParity
  let d := t.pool.stored ++ t.pool.deltas.map (fun (d : BitVec 128 × List (BitVec 8) × Nat) => (d.1, d.2.1))
  { t with pool := { t.pool with stored := d, deltas := [] } }

/-- R493: strength of a kind. -/
def ResetKind.strength : ResetKind → Nat
  | .cold => 2
  | .warmLost => 1
  | .warmHeld => 0

/-- R493: a source that joins the reset already running. -/
def State.mergeSource (s : State) (src : Nat) : State :=
  { s with rst := { s.rst with sources := s.rst.sources ||| BitVec.ofNat 16 (2 ^ src) } }

/-- R492, R493, R499, R503: a source of a chip reset: it joins a reset of its kind or a stronger one, turns a weaker one into its
own kind, or starts a reset; memory is held only from RELEASED, ACTIVE, or the verify of memory held. -/
def State.chipReset (s : State) (kind : ResetKind) (src : Nat) : State :=
  if s.rst.phase = .reset || s.rst.entry then
    if kind.strength > s.rst.kind.strength then s.assertReset kind src (s.mergeSource src).rst.sources.toNat
    else s.mergeSource src
  else if s.rst.phase = .stopped && !(1 ≤ src && src ≤ 4) then s
  else
    match kind with
    | .cold => s.assertReset .cold src (2 ^ src)
    | .warmLost => s.stopWork.assertReset .warmLost src (2 ^ src)
    | .warmHeld =>
      if s.rst.phase = .released || s.rst.phase = .active || (s.rst.phase = .verify && s.rst.kind = .warmHeld) then
        { s with rst := { s.rst with
            entry := true, kind := .warmHeld, cause := BitVec.ofNat 8 src, sources := BitVec.ofNat 16 (2 ^ src) } }.enterHeld
      else s.stopWork.assertReset .warmLost src (2 ^ src)

/-- R492: the kind that PRST_N and what acts as it cause. -/
def State.prstKind (s : State) : ResetKind := if s.option 143 143 = 1 then .warmHeld else .warmLost

/-- R497: WARM_ENTRY_DONE: every slice is in self-refresh; the reset asserts. -/
def execWarmEntryDone (s : State) : Res :=
  if s.rst.entry then ok (s.assertReset .warmHeld s.rst.cause.toNat s.rst.sources.toNat) else ok s

/-- R498: WARM_ENTRY_TIMEOUT: the reset goes on as WARM_LOST, and RESET_CAUSE reports it. -/
def execWarmEntryTimeout (s : State) : Res :=
  if s.rst.entry then
    ok ((s.assertReset .warmLost (s.rst.cause.toNat % 128 + 128) s.rst.sources.toNat).bump 32 0x7C20 8)
  else ok s

/-! ### Supply and pins (R475-R477, R489, R492, R494) -/

/-- R475, R476: the SID turns the gate off: the core die loses power; the SID counts it. A latched one waits for PRST_N. -/
def State.gateOff (s : State) (event cause : Nat) (latch : Bool) : State :=
  if !s.pwr.gateOn then s
  else
    let s1 := { s with pwr := { s.pwr with gateOn := false, latched := latch, gateRec := true } }
    let s2 := (s1.setPar 0x2000 7 event).bump 32 0x2000 8
    (s2.assertReset .cold cause (2 ^ cause)).emit (.gate false)

/-- R475: BROWN_OUT, OVERVOLTAGE, FAST_OVERCURRENT, TIMED_OVERCURRENT; R489: THERMAL_TRIP. -/
def execBrownOut (s : State) : Res := ok (s.gateOff 1 2 false)
def execOvervoltage (s : State) : Res := ok (s.gateOff 2 2 false)
def execFastOvercurrent (s : State) : Res := ok (s.gateOff 3 3 true)
def execTimedOvercurrent (s : State) : Res := ok (s.gateOff 4 3 true)
def execThermalTrip (s : State) : Res := ok ({ s with pwr := { s.pwr with thermtrip := true } }.gateOff 5 3 true)

/-- R475: GATE_ON: the gate turns on; the chip starts with the cold reset that the gate-off, or the power-up, caused. -/
def State.turnOn (s : State) : State :=
  ({ s with pwr := { s.pwr with gateOn := true, latched := false } }.emit (.gate true)).leaveReset
def execGateOn (s : State) : Res := if s.pwr.gateOn || s.pwr.latched then ok s else ok s.turnOn

/-- R492: POWER_ON_RESET. -/
def execPowerOnReset (s : State) : Res := if s.pwr.gateOn then ok (s.chipReset .cold 1) else ok s

/-- R515, R476: SID_POWER_UP: the bus first powers the SID: the time base starts at 0, the always-on registers are at reset, and
the gate is off. -/
def execSidPowerUp (s : State) : Res :=
  let s1 := { s with pwr := { s.pwr with gateOn := false } }.assertReset .cold 1 2
  ok { s1 with od := [], pwr := { State.reset.pwr with gateOn := false }, rst := { s1.rst with since := 0 }, clk := default }

/-- R477, R489, R494: PRST_N_ASSERT: it ends a gate-off latch with the cold reset that the latch caused, or resets the chip. -/
def execPrstNAssert (s : State) : Res :=
  let s1 := { s with rst := { s.rst with prstLow := true }, pwr := { s.pwr with thermtrip := false } }
  if s1.pwr.latched then ok (s1.turnOn.mergeSource 4)
  else if !s1.pwr.gateOn then ok s1
  else ok (s1.chipReset s1.prstKind 4)

/-- R494: PRST_N_RELEASE. -/
def execPrstNRelease (s : State) : Res := ok { s with rst := { s.rst with prstLow := false } }.leaveReset

/-- R492: CROSSBAR_DEADLOCK: as PRST_N. -/
def execCrossbarDeadlock (s : State) : Res := ok (s.chipReset s.prstKind 9)

/-- R420: DEBUG_REQUEST: a reset without memory held, in MANUFACTURE and RMA. -/
def execDebugRequest (s : State) : Res :=
  if s.sec.lcState = 1 || s.sec.lcState = 4 then ok (s.chipReset .warmLost 7) else ok s

/-! ### The option record as it is read (R455, R456) -/

/-- R456: the fields of a record: MAGIC, FORMAT, no reserved field or encoding, the position in the ring, the class. -/
def optionForm (r : BitVec 2048) : Bool :=
  let sx := bits r 136 134 + 1
  let sy := bits r 139 137 + 1
  let n := sx * sy
  bits r 31 0 = 0x5254504F && bits r 39 32 = 1
    && bits r 63 40 = 0 && bits r 127 96 = 0 && bits r 147 146 = 0 && bits r 159 156 = 0 && bits r 2015 200 = 0
    && bits r 145 144 ≠ 3 && (bits r 183 176 ≠ 0 || 2 ≤ bits r 191 184)
    && bits r 130 128 < sx && bits r 133 131 < sy
    && (match bits r 141 140 with
        | 0 => n ≤ 2
        | 1 => 3 ≤ n && n ≤ 16
        | 2 => 17 ≤ n
        | _ => false)

/-- The CRC that a record should hold. -/
def optionCrc (r : BitVec 2048) : BitVec 32 := crc32 (leBytes 252 r.toNat)

/-- R456: a valid copy. -/
def optionValid (r : BitVec 2048) (commit : BitVec 32) : Bool :=
  commit = 0x54494D43#32 && optionForm r && bits r 2047 2016 = (optionCrc r).toNat

/-- R456: the copy with the higher GENERATION, counted modulo 2^32: whether that is copy 1. -/
def newerOne (r0 r1 : BitVec 2048) : Bool :=
  let d := (bits r1 95 64 + 2 ^ 32 - bits r0 95 64) % 2 ^ 32
  0 < d && d < 2 ^ 31

/-- R478, R555: the rails that are fixed at bring-up get their setpoints (log entry 187). -/
def State.fixRails (s : State) : State :=
  ((s.emit (.regulator 2 (Config.hbmRail 2))).emit (.regulator 3 (Config.hbmRail 3))).emit (.regulator 4 750)

/-- R456, R499: OPTIONS_READ_DONE. -/
def execOptionsReadDone (s : State) : Res :=
  if s.rst.phase ≠ .options then ok s
  else
    let o := s.opt
    let v0 := optionValid o.copy0 o.commit0
    let v1 := optionValid o.copy1 o.commit1
    let s1 : State :=
      if !v0 && !v1 then
        let f := s.takeWords 2
        { f.2 with opt := { o with inUse := defaultOptions, used := false } }.reportDeferred kOptionRecordInvalid 0 0
          [(32, (f.1.getD 0 0).toNat), (32, (f.1.getD 1 0).toNat)]
      else
        let one := v1 && (!v0 || newerOne o.copy0 o.copy1)
        { s with opt := { o with inUse := if one then o.copy1 else o.copy0, used := one } }
    ok (s1.fixRails.enterPhase .pll)

/-! ### PLLs, training, verify and fill (R60-R62, R499, R500) -/

/-- R60, R499: the bring-up stops: a crash record is written, and FAULT_N is asserted. -/
def State.bringUpStops (s : State) : State :=
  let s1 := s.enterPhase .stopped
  { s1 with rst := { s1.rst with stopped := true }, flt := { s1.flt with crash := (2, s1.now) :: s1.flt.crash } }

/-- R53, R60: HBM pin rates in Mb/s, by HBM_RATE. -/
def hbmRate (n : Nat) : Nat := match n with | 0 => 8000 | 1 => 7200 | _ => 6400

/-- R60: HBM training starts at the option record's rate. -/
def State.startTraining (s : State) : State := (s.setPar 0x3000 1 (hbmRate (s.option 145 144))).enterPhase .trainHbm

/-- R499, R400: PLL_LOCKED: training, or the verify of a warm reset; the pool links begin to train. -/
def execPllLocked (s : State) : Res :=
  if s.rst.phase ≠ .pll then ok s
  else
    let s1 := (List.range 4).foldl (fun s p =>
      if s.linkEnabled p && (s.linkAt p).st = .down && !s.pool.broken && !s.poolClockBad then s.linkTo p .training else s) s
    if s1.rst.kind = .cold || !s1.rst.trained then ok s1.startTraining else ok (s1.enterPhase .verify)

/-- R499: PLL_LOCK_TIMEOUT. -/
def execPllLockTimeout (s : State) : Res := if s.rst.phase = .pll then ok s.bringUpStops else ok s

/-- R61, R66, R87: a slice has been trained: it is not fatal, it counts frames anew, and its device gates are set. -/
def State.slicesTrained (s : State) (ks : List Nat) : State :=
  ks.foldl (fun s k =>
    let d := deviceGates (s.refreshSlots k)
    let put (t : Tab (BitVec 64)) : Tab (BitVec 64) := d ++ t.filter (fun (p : Nat × BitVec 64) => 3 ≤ p.1)
    s.modSlice k (fun x => { x with
      trained := true, fatal := false, frames := 0, gates := put x.gates, eff := put x.eff, retry := [], incident := [] })) s

/-- R60, R63, R499: HBM_TRAINING_DONE at the rate tried: all stacks trained, the next lower rate, or the bring-up stops. -/
def execHbmTrainingDone (r : HbmTraining) (s : State) : Res :=
  if s.rst.phase ≠ .trainHbm then ok s
  else if r.ok then
    let s1 := (List.range 8).foldl (fun s k =>
      (s.setPar (0x3100 + k) 1 1).setPar (0x3100 + k) 2 (r.repaired.getD k 0 % 2 ^ 16)) (s.slicesTrained (List.range 32))
    ok (s1.enterPhase .trainDdr)
  else if s.par 0x3000 1 = 8000 then ok (s.setPar 0x3000 1 7200)
  else if s.par 0x3000 1 = 7200 then ok (s.setPar 0x3000 1 6400)
  else ok s.bringUpStops

/-- OD 0x311c:01-06 of a channel. -/
def State.setChannel (s : State) (c status module_ rate extents erased refresh : Nat) : State :=
  (((((s.setPar (0x3110 + c) 1 status).setPar (0x3110 + c) 2 module_).setPar (0x3110 + c) 3 rate).setPar (0x3110 + c) 4
    extents).setPar (0x3110 + c) 5 erased).setPar (0x3110 + c) 6 refresh

/-- R55: the modules that are accepted. -/
def dimmListed (d : Dimm) : Bool :=
  d.ecc && (if d.mrdimm then (d.ranks = 2 || d.ranks = 4) && d.dies = 1 && !d.x8 && 32 ≤ d.gib && d.gib ≤ 256
    else (d.ranks = 1 || d.ranks = 2) && (d.dies = 1 || d.dies = 2 || d.dies = 4) && 16 ≤ d.gib && d.gib ≤ 256)

/-- R55, R61: the transfer rates of a module type that the option record allows, the highest first; `limit` 0 allows all. -/
def dimmRates (d : Dimm) (limit : Nat) : List Nat :=
  (if d.mrdimm then [8800, 8000] else [6400, 5600, 4800]).filter (fun r => limit = 0 || r ≤ limit)

/-- R58: log2 of the logical ranks: package ranks times dies. -/
def dimmLogRanks (d : Dimm) : Nat := Nat.log2 (d.ranks * d.dies)

/-- R61: the one x4 device of one subchannel, as subchannel × 16 + device, in which all the failing lanes lie. -/
def oneDevice : List (Nat × Nat) → Option Nat
  | [] => none
  | l :: ls => if ls.all (fun m => m.1 = l.1 && m.2 / 4 = l.2 / 4) then some (l.1 % 2 * 16 + l.2 / 4 % 10) else none

/-- R61: training at one rate after another from the highest: the rate at which the channel comes up, and its erased device (0xFF:
none). A failure at a rate that is not the lowest takes the next lower one; at the lowest the channel comes up only where its
failing lanes lie in one device of an x4 module (DEDUCED, log entry 170). -/
def trainRates (d : Dimm) (fails : List RateFailure) : List Nat → Option (Nat × Nat)
  | [] => none
  | r :: rest =>
    match fails.find? (fun f => f.rate = r && (f.lanes ≠ [] || f.other)) with
    | none => some (r, 0xFF)
    | some f =>
      if rest ≠ [] then trainRates d fails rest
      else if f.other || d.x8 then none
      else (oneDevice f.lanes).map (fun e => (r, e))

/-- R55, R57, R61, R63: the end of one channel's training. -/
def State.channelTrained (s : State) (c : Nat) (r : DdrTraining) : State :=
  let away (st : Nat) : State := (s.setChannel c st 0 0 0 0xFF 40).modSlice (32 + c) (fun x => { x with trained := false, fatal := false })
  let absent (cause : Nat) : State := (away 2).reportDeferred kChannelAbsent 0 c [(32, cause)]
  match r with
  | .empty => away 0
  | .several => absent 2
  | .single d fails =>
    if !dimmListed d || dimmRates d (s.option 175 160) = [] then absent 2
    else
      match trainRates d fails (dimmRates d (s.option 175 160)) with
      | none => absent 1
      | some (rate, erased) =>
        let s1 := s.setChannel c 1 (if d.mrdimm then 2 else 1) rate (d.gib * 512) erased (if d.mrdimm && d.ranks = 4 then 56 else 40)
        ((s1.setElem (0x3110 + c) 2 0 (if d.x8 then 1 else 0)).setElem (0x3110 + c) 2 1 (dimmLogRanks d)).slicesTrained [32 + c]

/-- R43: the tier map of the default layout is built, and Memory_Valid is set (R499). -/
def State.buildMap (s : State) : State := { s with med := { s.med with tier := [], armour := [], valid := true } }

/-- R61, R499: DDR_TRAINING_DONE. -/
def execDdrTrainingDone (r : List DdrTraining) (s : State) : Res :=
  if s.rst.phase ≠ .trainDdr then ok s
  else
    let s1 := (List.range 12).foldl (fun s c => s.channelTrained c (r.getD c .empty)) s
    ok ({ s1 with rst := { s1.rst with trained := true } }.buildMap.enterPhase .fill)

/-- R500: HBM_FILL_DONE: the HBM tier holds zeros, while the DDR tier trains or fills. -/
def execHbmFillDone (s : State) : Res :=
  if s.rst.phase = .trainDdr || s.rst.phase = .fill then ok { s with rst := { s.rst with hbmDone := true } } else ok s

/-- R372, R436, R463, R501: RELEASED: the complexes are in boot form, A active; a wash that was held starts again at the base. -/
def State.enterReleased (s : State) : State :=
  let s1 := s.enterPhase .released
  let s2 := { s1 with
    host := { s1.host with boot := { s1.host.boot with state := 1 } },
    cx := { s1.cx with a := { s1.cx.a with st := .active }, active := .A } }
  (s2.tenants.filter (fun (p : Nat × Tenant) => p.2.state = 3)).foldl (fun s p =>
    (s.setPar (0x4900 + p.1) 9 0).modTenant p.1 (fun x => { x with washed := 0 })) s2

/-- R62: the slices of a stack (0-7) or of a channel (8-19), as a failing verify names them (log entry 172). -/
def verifySlices (n : Nat) : List Nat := if n < 8 then (List.range 4).map (fun j => 4 * n + j) else [32 + (n - 8)]

/-- R62: a verify fails where a slice that is not fatal fails it. -/
def State.verifyFails (s : State) (failing : Option Nat) : Option Nat :=
  failing.filter (fun n => n < 20 && (verifySlices n).any (fun k => !(s.sliceAt k).fatal))

/-- R62, R117, R499: VERIFY_DONE: fatal slices are left out; a failing one makes the chip train and fill again. -/
def execVerifyDone (failing : Option Nat) (s : State) : Res :=
  if s.rst.phase ≠ .verify then ok s
  else
    match s.verifyFails failing with
    | some n =>
      let s1 := { s with med := { s.med.lost with eccMode := s.eccWanted }, rst := { s.rst with trained := false } }
      ok (s1.reportDeferred kMemoryVerifyFailed 0 0 [(32, n)]).startTraining
    | none =>
      let s1 := (List.range 44).foldl (fun s k => s.modSlice k (fun x => { x with frames := 0 })) s
      if s1.rst.kind = .warmHeld then ok ({ s1 with med := { s1.med with valid := true } }.enterReleased)
      else ok (s1.buildMap.enterPhase .fill)

/-- R138, R500: FILL_DONE: every location of both tiers holds zeros with valid check symbols, no line is poisoned; the armour and
ring-parity regions are zero too. The scrubber's laps begin (R139). -/
def execFillDone (s : State) : Res :=
  if s.rst.phase ≠ .fill then ok s
  else
    ok { s with
      med := { s.med with
        mem := [], poison := [], keyTag := [], washed := [], serr := [], pcache := [], parity := [], noParity := [], heldW := [],
        lapStart := [(0, s.now), (1, s.now)] },
      rst := { s.rst with hbmDone := true } }.enterReleased

/-- R356, R499: SERVICE_STATE_LOADED: the machine is ACTIVE, and Memory_Active is set. -/
def execServiceStateLoaded (s : State) : Res :=
  if s.rst.phase ≠ .released || !s.running then ok s
  else
    let s1 := s.enterPhase .active
    ok { s1 with host := { s1.host with active := true }, coh := { s1.coh with startUp := false } }

/-- R545: the records raised since a reset that cleared the log stand after its first record: LOG_SEQ 1 was kept for it (DEDUCED,
log entry 188). -/
def FaultState.after (f : FaultState) (first : FaultRec) : FaultState :=
  { f with
    logSeq := f.logSeq + 1,
    queue := { first with logSeq := 1 } :: f.queue.map (fun (r : FaultRec) => { r with logSeq := r.logSeq + 1 }),
    chipErr := f.chipErr.map (fun n => n + 1),
    lost := f.lost.map (fun (l : Nat × BitVec 32 × BitVec 32) => (l.1, l.2.1 + 1, l.2.2 + 1)),
    windows := f.windows ++ [{ first := first, count := 0, last := first.time, written := true }] }

/-- R507, R545: RESET_RECORDED: the first record of the new log, or the next one of a log that was kept. -/
def State.recordReset (s : State) : State :=
  let k := match s.rst.kind with | .cold => 0 | .warmHeld => 1 | .warmLost => 2
  let r := s.mkRec kResetRecorded 0 0
    [(32, k), (8, s.rst.cause.toNat), (16, s.rst.sources.toNat), (32, if s.rst.cause.toNat ≥ 128 then 1 else 0)]
  if s.rst.kind = .warmHeld then s.submit r else { s with flt := s.flt.after r }.bump 64 0x7800 5

/-- R501, R507, R545, R476: firmware first runs after the reset: RESET_RECORDED, SUPPLY_GATE_OFF, and what waited. -/
def State.firmwareRuns (s : State) : State :=
  let s1 := s.recordReset
  let s2 := if s1.pwr.gateRec then
      { s1 with pwr := { s1.pwr with gateRec := false } }.report kSupplyGateOff 0 0 [(8, s1.par 0x2000 7), (32, s1.par 0x2000 8)]
    else s1
  s2.flushDeferred

/-! ### Resets of one block (R496, R505, R506) -/

/-- R496: BLOCK_RESET_RELEASE: the block has left reset, and its isolation is lifted. -/
def execBlockResetRelease (b : Block) (s : State) : Res :=
  match b with
  | .vat v => ok (s.modVat v.val (fun x => { x with isolated := none }))
  | _ => ok (s.deisolate b)

/-- R506: a software reset of a physical vat. -/
def State.resetVat (s : State) (v : Nat) : State :=
  let s1 := s.resetVatCore v
  let s2 := match (s1.vatAt v).owner with | some k => s1.resetContext k | none => s1
  (s2.washVat v).toHead v

/-- R390, R506: a software reset of a pool link. -/
def State.resetLink (s : State) (p : Fin 4) : State :=
  let n := (s.linkAt p.val).buffer.length
  let s1 := ((s.isolate (.link p) 6 p.val n).linkTo p.val .training).modLink p.val (fun l => { l with discard := true, replays := none })
  s1.discardFlits p.val

/-- R375, R506: a software reset of a host port acts as its PERST_N. -/
def State.resetHostPort (s : State) (p : Fin 4) : State :=
  (s.resetPort p.val true).isolate (.port p) 5 p.val (s.portAt p.val).reqs.length

/-- R505, R506: a write of RESET_COMMAND, OD 0x7C20:06, of a scope that leaves the chip running. -/
def resetScoped (v : Nat) : Op := fun s =>
  let t := bitsAt v 17 8
  match v % 16 with
  | 2 => if t < 256 then done (s.resetTenantWork t) else refuse stRange s
  | 3 => done (s.resetContext t)
  | 4 => if t < 34 then done (s.resetVat t) else refuse stRange s
  | 5 => if h : t < 4 then done (s.resetHostPort ⟨t, h⟩) else refuse stRange s
  | 6 => if h : t < 4 then done (s.resetLink ⟨t, h⟩) else refuse stRange s
  | _ => refuse stRange s

/-- R505, R506: a write of RESET_COMMAND: a chip-scope one is answered before its reset starts, BUSY while one does already; it is
left to `afterResetCommand`. -/
def resetCommand (v : Nat) : Op := fun s =>
  if v % 16 = 1 then (if s.rst.entry then refuse stBusy s else done s) else resetScoped v s

/-- R505: the chip reset of an accepted chip-scope command. -/
def State.afterResetCommand (s : State) (v : Nat) : State :=
  if v % 16 = 1 then s.chipReset (if bitAt v 4 then .warmHeld else .warmLost) 6 else s

/-- A request whose effect beyond the answer follows it, where the answer is OK. -/
def State.requestThen (s : State) (c : Client) (idx sub : Nat) (val : List (BitVec 8)) (op : Op) (after : State → State) : State :=
  let t := s.request c idx sub val op
  match t.out with
  | .status d st _ :: _ => if d = c && st.toNat = stOk && t.out.length > s.out.length then after t else t
  | _ => t

/-- R505, R506: RESET_CHIP, RESET_TENANT, RESET_CONTEXT, RESET_VAT, RESET_HOST_PORT, RESET_POOL_LINK. -/
def State.resetWrite (s : State) (c : Client) (v : Nat) : State :=
  s.requestThen c 0x7C20 6 (leBytes 4 v) (resetCommand v) (fun t => t.afterResetCommand v)
def execResetChip (c : Client) (hold : Bool) (s : State) : Res := ok (s.resetWrite c (if hold then 17 else 1))
def execResetTenant (c : Client) (t : Fin 256) (s : State) : Res := ok (s.resetWrite c (2 + t.val * 256))
def execResetContext (c : Client) (k : Fin 1024) (s : State) : Res := ok (s.resetWrite c (3 + k.val * 256))
def execResetVat (c : Client) (v : Fin 34) (s : State) : Res := ok (s.resetWrite c (4 + v.val * 256))
def execResetHostPort (c : Client) (p : Fin 4) (s : State) : Res := ok (s.resetWrite c (5 + p.val * 256))
def execResetPoolLink (c : Client) (p : Fin 4) (s : State) : Res := ok (s.resetWrite c (6 + p.val * 256))

end Machine
end Sys2Proof
end

