-- ==== Sys2Proof/Machine/Complexes.lean ====
section
/-! DEFINITION. The control complexes (17): heartbeats, failure and fail-over, planned switch-overs, firmware update; and the
firmware image: its manifest and check (R424, R425), the boot form and its download (R372-R374). -/

namespace Sys2Proof
namespace Machine

/-! ### The firmware image (R424, R425) -/

/-- R417: the signers that a life-cycle state accepts: 0 production, 1 test. -/
def signerAllowed (lc signer : Nat) : Bool :=
  match lc with
  | 1 => signer ≤ 1
  | 2 => signer = 0
  | 3 => signer = 0
  | 4 => signer ≤ 1
  | _ => false

/-- R424: the manifest of an image, its first 512 B as a number. -/
def manifestOf (img : List Host.Cell) : Nat := leNat (Mem.read img 0 512)

/-- R417, R424: the public key of the signer that a manifest names: 0 production, 1 test. -/
def State.signerKey (s : State) (signer : Nat) : Nat × Nat := if signer = 0 then s.sec.prodKey else s.sec.testKey

/-- R424, R425: the signature over bytes 0-127 verifies under the signer's key, and DIGEST over bytes 512 to LENGTH - 1. -/
def State.imageSigned (s : State) (img : List Host.Cell) (len : Nat) : Bool :=
  let m := manifestOf img
  ecdsaVerify (s.signerKey (bitsAt m 111 104)) (sha512 (Mem.read img 0 128)) (bitsAt m 1551 1024) (bitsAt m 2079 1552)
    && (sha512 (Mem.read img 512 (len - 512))).toNat = bitsAt m 1023 512

/-- R425: the checks in order, over an image of the length given; none passes, else REASON. -/
def State.imageCheck (s : State) (img : List Host.Cell) (len : Nat) : Option Nat :=
  let m := manifestOf img
  if len < 4096 || 16777216 < len || len % 4096 ≠ 0 || bitsAt m 95 64 ≠ len then some 1
  else if bitsAt m 31 0 ≠ 0x4D465753 || bitsAt m 47 32 ≠ 1 || bitsAt m 63 48 ≠ 0 || bitsAt m 127 112 ≠ 0
      || bitsAt m 511 160 ≠ 0 || bitsAt m 4095 2080 ≠ 0 || 128 < bitsAt m 103 96 then some 4
  else if !signerAllowed s.sec.lcState.toNat (bitsAt m 111 104) || bitsAt m 103 96 < s.sec.minSvn.toNat then some 3
  else if !s.imageSigned img len then some 2
  else none

/-- The SVN and INTERFACE_VERSION of an image in a complex. -/
def Complex.runs (x : Complex) (img : List Host.Cell) : Complex :=
  { x with svn := BitVec.ofNat 8 (bitsAt (manifestOf img) 103 96), iver := BitVec.ofNat 32 (bitsAt (manifestOf img) 159 128) }

/-- R422, R426: what the chip keeps of the image that runs now. -/
def State.runImage (s : State) (img : List Host.Cell) : State :=
  let m := manifestOf img
  { s with sec := { s.sec with runSvn := BitVec.ofNat 8 (bitsAt m 103 96), manifest := some (BitVec.ofNat 1024 m) } }

/-! ### Boot form (R372-R374, R453) -/

/-- R444, R447: the header of a response: RESPONSE set, STATUS and LENGTH filled in. -/
def respHeader (h : BitVec 128) (st len : Nat) : BitVec 128 :=
  BitVec.ofNat 128 (setBits (setBits (setBits h.toNat 13 13 1) 63 56 st) 111 96 len)

/-- R373, R374: the image area takes a write, or a GO, from a path: 1 port 0, 2 the network. -/
def State.imageOpen (s : State) (path : Nat) : Bool :=
  (s.host.boot.state = 1 || s.host.boot.state = 3) && (s.host.boot.claim = 0 || s.host.boot.claim.toNat = path)

/-- R372, R374: bytes written to the 16 MiB image area, which the path then claims. -/
def State.imageWrite (s : State) (path off : Nat) (data : List (BitVec 8)) : State :=
  if s.imageOpen path then
    { s with host := { s.host with boot := { s.host.boot with
        claim := BitVec.ofNat 8 path, image := Mem.write s.host.boot.image off (data.take (16777216 - off)) } } }
  else s

/-- R374: BOOT_APERTURE_WRITE. -/
def execBootApertureWrite (off : BitVec 24) (data : List (BitVec 8)) (s : State) : Res := ok (s.imageWrite 1 off.toNat data)

/-- R373: the check of the image starts. -/
def State.imageGo (s : State) (path : Nat) : State :=
  if s.imageOpen path then { s with host := { s.host with boot := { s.host.boot with state := 2, reason := 0 } } } else s

/-- R373: BOOT_GO, a write of 1. -/
def execBootGo (v : BitVec 32) (s : State) : Res := if v = 1 then ok (s.imageGo 1) else ok s

/-- R453: a DOWNLOAD_GO that waits is answered once STATE has left CHECKING. -/
def State.answerGo (s : State) : State :=
  match s.host.boot.goFrom with
  | none => s
  | some (c, h) =>
    (({ s with host := { s.host with boot := { s.host.boot with goFrom := none } } }.countResponse stOk).modClient c
      (fun x => { x with kept := some (h, respHeader h stOk 0, []) })).emit (.odResponse c (respHeader h stOk 0) [])

/-- R373, R425: FIRMWARE_CHECK_DONE: RUNNING, or REJECTED with a REASON. -/
def execFirmwareCheckDone (s : State) : Res :=
  let b := s.host.boot
  if b.state ≠ 2 then ok s
  else
    match s.imageCheck b.image b.length.toNat with
    | none =>
      let s1 := { s with host := { s.host with boot := { b with state := 4, reason := 0, claim := 0 } } }
      let s2 := (s1.runImage b.image).modCx .A (fun x => x.runs b.image)
      ok s2.firmwareRuns.answerGo
    | some r =>
      let path := if b.goFrom.isSome then 2 else 1
      let s1 := { s with host := { s.host with boot := { b with state := 3, reason := BitVec.ofNat 8 r, claim := 0 } } }
      ok ((s1.bump 32 0x5200 2).report kFirmwareRejected 0 0 [(32, path), (8, r)]).answerGo

/-! ### Failure of a complex (R461-R465) -/

/-- The number of a complex. -/
def cxCode : Cx → Nat
  | .A => 0
  | .B => 1

/-- R470: planned switch-overs wait: an emergency is active, or cleared less than 1 s ago. -/
def State.switchBarred (s : State) : Bool := s.pwr.emerg || s.pwr.emergHold

/-- R469: the standby holds the staged image, ready to run. -/
def State.stagedReady (s : State) (x : Cx) : Bool := (s.cxAt x).staged && (s.cx.fwState.toNat % 256 = 3 || s.cx.fwState.toNat % 256 = 4)

/-- R457, R465, R469: a complex takes control, and a gap opens; where it holds the staged image, that image runs now. -/
def State.takeControl (s : State) (x : Cx) : State :=
  let staged := s.stagedReady x
  let old := s.interfaceVersion
  let s1 := if staged then
      { (s.runImage s.cx.staging) with
        host := { s.host with boot := { s.host.boot with image := s.cx.staging, length := BitVec.ofNat 32 (s.par 0x7C10 3) } } }
    else s
  let s2 := { s1 with
    opt := s1.opt.cut,
    cx := { s1.cx with
      active := x, gap := true, gapIver := BitVec.ofNat 32 old, deferred := none,
      fwState := if staged then 5 else s1.cx.fwState } }
  s2.modCx x (fun c => { c with st := .active, owed := false })

/-- R461, R463, R464: a complex is declared failed by cause 1 heartbeat, 2 watchdog, 3 its own report, 4 its PLL: the standby
takes control, or where there is none the chip is reset. While the SID oscillator has failed the arbiter holds its grant
(R514). The gap that the record names is filled in when it ends (`fillGap`, log entry 77). -/
def State.declareFailed (s : State) (x : Cx) (cause : Nat) : State :=
  let c := s.cxAt x
  if !(s.rst.phase = .released || s.rst.phase = .active) || c.st = .failed || bit s.clk.status 3 then s
  else
    let fail (s : State) (owed : Bool) : State :=
      (s.modCx x (fun c => { c with st := .failed, missed := 0, fails := s.now :: c.fails, owed := owed })).isolate (.cx x) 0 (cxCode x) 0
    if s.cx.active ≠ x then
      let loading := c.staged && (s.cx.fwState.toNat % 256 = 1 || s.cx.fwState.toNat % 256 = 2 || s.cx.fwState.toNat % 256 = 3
        || s.cx.fwState.toNat % 256 = 4)
      let s1 := (fail s c.owed).report kComplexFailed 0 0 [(32, cxCode x), (32, cause), (32, 0)]
      let s2 := { s1 with clk := { s1.clk with cycles := Tab.erase s1.clk.cycles (17 + cxCode x) } }
      if loading then
        ({ s2 with cx := { s2.cx with fwState := 6, deferred := none } }.modCx x (fun c => { c with staged := false })).report
          kUpdateFailed 0 0 [(8, 0)]
      else s2
    else if (s.cxAt (otherCx x)).st = .standby then
      let staged := s.stagedReady (otherCx x)
      let s1 := (fail s true).modCx x (fun c => { c with staged := staged })
      let s2 := { s1 with clk := { s1.clk with cycles := Tab.erase s1.clk.cycles (17 + cxCode x) } }
      ((s2.takeControl (otherCx x)).report kComplexFailed 0 0 [(32, cxCode x), (32, cause), (32, 0)]).bump 32 0x7C00 4
    else
      (s.reportDeferredAlways kBothComplexesFailed [(32, s.cx.a.st.code), (32, s.cx.b.st.code)]).chipReset s.prstKind 5

/-- R461: COMPLEX_HEARTBEAT. -/
def execComplexHeartbeat (x : Cx) (s : State) : Res := ok (s.modCx x (fun c => { c with missed := 0 }))

/-- R461: HEARTBEAT_MISSED: the fifth in a row declares the complex failed. -/
def execHeartbeatMissed (x : Cx) (s : State) : Res :=
  let s1 := s.modCx x (fun c => { c with missed := c.missed + 1 })
  if (s1.cxAt x).missed ≥ 5 then ok (s1.declareFailed x 1) else ok s1

/-- R461: COMPLEX_PANIC, by its PLL or by its own report; WATCHDOG_EXPIRE. -/
def execComplexPanic (x : Cx) (pll : Bool) (s : State) : Res := ok (s.declareFailed x (if pll then 4 else 3))
def execWatchdogExpire (x : Cx) (s : State) : Res := ok (s.declareFailed x 2)

/-- R463: failures of a complex in RESTART_WINDOW. -/
def State.recentFails (s : State) (x : Cx) : List Nat :=
  (s.cxAt x).fails.filter (fun t => s.now < t + s.par 0x7C00 9 * 1000000000)

/-- R463, R464: CRASH_RECORD_DONE: the complex has left reset and written its record; it boots again, or is HELD. -/
def execCrashRecordDone (x : Cx) (s : State) : Res :=
  if (s.cxAt x).st ≠ .failed || s.rst.isolated.contains (.cx x) then ok s
  else
    let n := (s.recentFails x).length
    let s1 := { s with flt := { s.flt with crash := (cxCode x, s.now) :: s.flt.crash } }
    if n < s.par 0x7C00 8 then ok (s1.modCx x (fun c => { c with st := .booting, fails := s.recentFails x }))
    else ok ((s1.modCx x (fun c => { c with st := .held, fails := s.recentFails x })).report kComplexHeld 0 0 [(32, cxCode x), (32, n)])

/-- R463, R464, R469: COMPLEX_BOOT_DONE: the image is checked: RESYNC, or FAILED; a staged one that fails ends its LOAD, and the
running image boots after it. -/
def execComplexBootDone (x : Cx) (s : State) : Res :=
  let c := s.cxAt x
  if c.st ≠ .booting || !s.running then ok s
  else
    let fw := s.cx.fwState.toNat % 256
    let loading := c.staged && fw = 1
    let img := if loading then s.cx.staging else s.host.boot.image
    let len := if loading then s.par 0x7C10 3 else s.host.boot.length.toNat
    match s.imageCheck img len with
    | none =>
      let s1 := s.modCx x (fun c => { c.runs img with st := .resync })
      if loading then ok { s1 with cx := { s1.cx with fwState := 2 } } else ok s1
    | some r =>
      let s1 := s.modCx x (fun c => { c with st := .failed, staged := false })
      if loading then
        ok ({ s1 with cx := { s1.cx with fwState := BitVec.ofNat 16 (6 + r * 256) } }.report kUpdateFailed 0 0 [(8, r)])
      else ok (s1.report kComplexHeld 0 0 [(32, cxCode x), (32, (s.recentFails x).length)])

/-- R463, R469: COMPLEX_SYNCED: STANDBY; a LOAD is READY, and an activation is over. -/
def execComplexSynced (x : Cx) (s : State) : Res :=
  let c := s.cxAt x
  if c.st ≠ .resync then ok s
  else
    let s1 := s.modCx x (fun c => { c with st := .standby })
    let fw := s.cx.fwState.toNat % 256
    if fw = 2 && c.staged then ok { s1 with cx := { s1.cx with fwState := 3 } }
    else if fw = 5 then
      ok { s1 with cx := { s1.cx with fwState := 0, a := { s1.cx.a with staged := false }, b := { s1.cx.b with staged := false } } }
    else ok s1

/-! ### Planned switch-overs and updates (R463, R468-R472) -/

/-- R463, R465, R469: control passes to the standby: the former active is STANDBY, or boots the image that was staged. -/
def State.switchOver (s : State) (x : Cx) : State :=
  let staged := s.stagedReady x
  let s1 := s.modCx (otherCx x) (fun c => { c with st := if staged then .booting else .standby, staged := staged, owed := false })
  s1.takeControl x

/-- R470: a planned switch-over happens, or is deferred; an activation then reads DEFERRED. -/
def State.planSwitch (s : State) (x : Cx) : State :=
  if s.switchBarred then
    { s with cx := { s.cx with deferred := some x, fwState := if s.stagedReady x then 4 else s.cx.fwState } }
  else s.switchOver x

/-- R468: REVERT_DELAY_EXPIRE: in classes S and M a complex that lost control by failure takes it back. -/
def execRevertDelayExpire (s : State) : Res :=
  let x := otherCx s.cx.active
  if s.ringClass ≤ 1 && (s.cxAt x).st = .standby && (s.cxAt x).owed && !s.cx.gap then ok (s.planSwitch x) else ok s

/-- R470: SWITCHOVER_DEFERRAL_EXPIRE: 1 s has passed with no emergency. -/
def execSwitchoverDeferralExpire (s : State) : Res :=
  match s.cx.deferred with
  | none => ok s
  | some x =>
    if s.pwr.emerg || s.cx.gap then ok s
    else if (s.cxAt x).st = .standby && s.cx.active ≠ x then ok (s.switchOver x)
    else ok { s with cx := { s.cx with deferred := none } }

/-- R463, R465: a write of COMPLEX_COMMAND, OD 0x7C00:0A: 1 RESTART of a HELD complex, 2 SWITCHOVER to the standby named. -/
def complexCommand (x v : Nat) : Op := fun s =>
  if 1 < x then refuse stRange s
  else
    let c : Cx := if x = 0 then .A else .B
    match v with
    | 1 =>
      if (s.cxAt c).st ≠ .held then refuse stState s
      else done (s.modCx c (fun c => { c with st := .booting, staged := false }))
    | 2 => if (s.cxAt c).st ≠ .standby then refuse stState s else done (s.planSwitch c)
    | _ => refuse stRange s

/-- R463, R465: COMPLEX_RESTART, SWITCHOVER. -/
def execComplexRestart (c : Client) (x : BitVec 8) (s : State) : Res := ok (s.request c 0x7C00 10 [x, 1] (complexCommand x.toNat 1))
def execSwitchover (c : Client) (x : BitVec 8) (s : State) : Res := ok (s.request c 0x7C00 10 [x, 2] (complexCommand x.toNat 2))

/-- R469: the standby boots an image. -/
def State.bootStandby (s : State) (staged : Bool) (fw : BitVec 16) : State :=
  { s with cx := { s.cx with fwState := fw, deferred := none } }.modCx (otherCx s.cx.active)
    (fun c => { c with st := .booting, staged := staged })

/-- R469: a write of FW_UPDATE_COMMAND, OD 0x7C10:04: 1 LOAD, 2 ACTIVATE, 3 CANCEL. -/
def fwCommand (v : Nat) : Op := fun s =>
  let fw := s.cx.fwState.toNat % 256
  let ready := (s.cxAt (otherCx s.cx.active)).st = .standby
  match v with
  | 1 => if ready && (fw = 0 || fw = 3 || fw = 6) then done (s.bootStandby true 1) else refuse stState s
  | 2 => if ready && fw = 3 then done (s.planSwitch (otherCx s.cx.active)) else refuse stState s
  | 3 => if fw = 3 || fw = 4 then done (s.bootStandby false 0) else refuse stState s
  | _ => refuse stRange s

/-- R469: FW_LOAD, FW_ACTIVATE, FW_CANCEL. -/
def execFwLoad (c : Client) (s : State) : Res := ok (s.request c 0x7C10 4 [1] (fwCommand 1))
def execFwActivate (c : Client) (s : State) : Res := ok (s.request c 0x7C10 4 [2] (fwCommand 2))
def execFwCancel (c : Client) (s : State) : Res := ok (s.request c 0x7C10 4 [3] (fwCommand 3))

/-- R472: a write of the staging area, or of its length, after READY returns the state to IDLE; outside IDLE, READY and FAILED it is
refused. -/
def State.staging (s : State) (f : State → State) : Nat × Nat × State :=
  let fw := s.cx.fwState.toNat % 256
  if fw = 3 then done { f s with cx := { (f s).cx with fwState := 0 } }
  else if fw = 0 || fw = 6 then done (f s)
  else refuse stState s

/-- R472: a write of FW_STAGE, OD 0x7C10:02: up to 1 MiB at FW_STAGE_WINDOW. -/
def stageWrite (data : List (BitVec 8)) : Op := fun s =>
  if 1048576 < data.length then refuse stLength s
  else s.staging (fun s => { s with cx := { s.cx with staging := Mem.write s.cx.staging (s.par 0x7C10 1 * 1048576) data } })

/-- R472: FW_STAGE. -/
def execFwStage (c : Client) (data : List (BitVec 8)) (s : State) : Res := ok (s.request c 0x7C10 2 data (stageWrite data))

/-- R472: a write of FW_STAGE_LENGTH, OD 0x7C10:03. -/
def stageLength (n : Nat) : Op := fun s =>
  if n < 4096 || 16777216 < n || n % 4096 ≠ 0 then refuse stRange s else s.staging (fun s => s.setPar 0x7C10 3 n)

end Machine
end Sys2Proof
end

