-- ==== Sys2Proof/Machine/Clocks.lean ====
section
/-! DEFINITION. Clock monitors, their failures and returns, and the time base (20); the test access port (21). -/

namespace Sys2Proof
namespace Machine

/-! ### Monitors (R514, R519) -/

/-- R519: the bit of a clock in CLOCK_STATUS. -/
def clockBit : Clock → Nat
  | .refPcie => 0
  | .refPool => 1
  | .crystal => 2
  | .sidOsc => 3
  | .vatPll => 4
  | .crossbarPll => 5
  | .hbmPll => 5
  | .ddrPll _ => 5
  | .poolPll => 6
  | .portPll p => 7 + p.val
  | .cxPll .A => 11
  | .cxPll .B => 12

/-- The model's own number of a clock, each its own. -/
def clockNo : Clock → Nat
  | .crossbarPll => 16
  | .hbmPll => 17
  | .ddrPll c => 18 + c.val
  | k => clockBit k

/-- A clock is a PLL. -/
def isPll : Clock → Bool
  | .refPcie => false
  | .refPool => false
  | .crystal => false
  | .sidOsc => false
  | _ => true

/-- A clock of the core PLLs behind CORE_PLL. -/
def isCore (k : Clock) : Bool := clockBit k = 5

/-- A clock counts as failed. -/
def State.clockFailed (s : State) (k : Clock) : Bool :=
  if isCore k then s.clk.coreBad.contains (clockNo k) else bit s.clk.status (clockBit k)

/-- R514: the vat PLL failed: every context that holds vats is reset as by RESET, and every vat is washed before launches
resume. -/
def State.vatClockLost (s : State) : State :=
  let ks := (s.ctxs.filter (fun (p : Nat × Ctx) => p.2.phase ≠ .idle || p.2.resident || p.2.inv.isSome)).map (fun p => p.1)
  let s1 := ks.foldl (fun s k => s.resetContext k) s
  let s2 := (List.range 34).foldl (fun s v =>
    if (s.vatAt v).unusable then s else (s.modVat v (fun x => { freshVat with lastTest := x.lastTest, clean := false })).washVat v) s1
  { s2 with
    vat := { s2.vat with vatPllBad := true, takeover := none },
    tst := { s2.tst with testing := none }, clk := { s2.clk with cycles := Tab.erase s2.clk.cycles 0 } }

/-- R514: what the chip does when a clock fails. -/
def State.clockAction (s : State) (k : Clock) : State :=
  match k with
  | .refPcie => s.chipReset .warmLost 8
  | .crossbarPll => s.chipReset .warmLost 8
  | .hbmPll => s.chipReset .warmLost 8
  | .ddrPll _ => s.chipReset .warmLost 8
  | .refPool => (List.range 4).foldl (fun s p => s.linkTo p .down) s
  | .poolPll => (List.range 4).foldl (fun s p => s.linkTo p .down) s
  | .vatPll => s.vatClockLost
  | .portPll p => s.linkDown p.val
  | .cxPll x => s.declareFailed x 4
  | .crystal => s
  | .sidOsc => s

/-- R514: a clock has failed by cause 1 frequency, 2 no edge, 3 loss of lock: its bit, its record, its action. A failure that
resets the chip is recorded once firmware runs again (R545). -/
def State.failClock (s : State) (k : Clock) (cause : Nat) : State :=
  if s.clockFailed k then s
  else
    let b := clockBit k
    let s1 := { s with clk := { s.clk with
      status := s.clk.status ||| BitVec.ofNat 32 (2 ^ b),
      coreBad := if isCore k then clockNo k :: s.clk.coreBad else s.clk.coreBad } }.bump 32 0x7C40 5
    let f := s1.takeFree 32
    let fields : List (Nat × Nat) := [(32, b), (32, cause), (32, f.1.toNat)]
    (if isCore k || k = .refPcie then f.2.reportDeferredAlways kClockFailed fields else f.2.report kClockFailed 0 0 fields).clockAction k

/-- R514: CLOCK_MONITOR_WINDOW: a clock off by more than its limit in two windows in a row has failed. The SID oscillator has no
counting monitor. -/
def execClockMonitorWindow (k : Clock) (ppm : Int) (s : State) : Res :=
  let lim : Int := if k = .crystal then 30000 else 2000
  let n := clockNo k
  if k = .sidOsc then ok s
  else if -lim ≤ ppm && ppm ≤ lim then ok { s with clk := { s.clk with suspect := s.clk.suspect.filter (fun m => m ≠ n) } }
  else if s.clk.suspect.contains n then ok (s.failClock k 1)
  else ok { s with clk := { s.clk with suspect := n :: s.clk.suspect } }

/-- R514: CLOCK_NO_EDGE. -/
def execClockNoEdge (k : Clock) (s : State) : Res := ok (s.failClock k 2)

/-- R514: PLL_LOSS_OF_LOCK. -/
def execPllLossOfLock (k : Clock) (s : State) : Res := if isPll k then ok (s.failClock k 3) else ok s

/-- R514: CLOCK_RESTORED: the bit is cleared and a record written; pool links train again. -/
def execClockRestored (k : Clock) (us : Nat) (s : State) : Res :=
  if !s.clockFailed k then ok s
  else
    let b := clockBit k
    let core := s.clk.coreBad.filter (fun n => n ≠ clockNo k)
    let clear := !isCore k || core = []
    let s1 := { s with clk := { s.clk with
      coreBad := core, suspect := s.clk.suspect.filter (fun n => n ≠ clockNo k),
      status := if clear then BitVec.ofNat 32 (setBits s.clk.status.toNat b b 0) else s.clk.status } }
    let s2 := s1.report kClockRestored 0 0 [(32, b), (32, us)]
    if (b = 1 || b = 6) && !s2.poolClockBad then
      ok ((List.range 4).foldl (fun s p =>
        if s.linkEnabled p && (s.linkAt p).st = .down && !(s.linkAt p).held && !s.pool.broken then s.linkTo p .training else s) s2)
    else ok s2

/-! ### The time base (R515, R516) -/

/-- R516: TIME_BASE_SYNC: the core copy is set forward to the SID's count, or holds until that count passes it. -/
def execTimeBaseSync (sid : BitVec 64) (s : State) : Res :=
  if s.now ≤ sid.toNat then ok { s with clk := { s.clk with now := sid.toNat, holdTo := none } }
  else ok { s with clk := { s.clk with holdTo := some (s.now - sid.toNat) } }

/-! ### The test access port (R530, R531) -/

/-- The state with an instruction in the TAP's register. -/
def State.tap (s : State) (ir : Nat) : State := { s with tst := { s.tst with tapIr := BitVec.ofNat 8 ir } }

/-- R530: IDCODE: the register is shifted out; BYPASS. -/
def execIdcode (s : State) : Res := ok ((s.tap 0x01).emit (.tdo 0x1184096B))
def execBypass (s : State) : Res := ok (s.tap 0xFF)

/-- R530: SAMPLE_PRELOAD: the pins enter the boundary register. -/
def execSamplePreload (pins : Nat) (s : State) : Res := let t := s.tap 0x02; ok { t with tst := { t.tst with boundary := pins } }

/-- R531: EXTEST, CLAMP, HIGHZ: taken only while PRST_N is low: the reset in progress loses memory; else they act as BYPASS. -/
def State.pinTest (s : State) (ir : Nat) : State :=
  if !s.rst.prstLow then s.tap 0xFF
  else if s.rst.kind = .warmHeld && (s.rst.phase = .reset || s.rst.entry) then
    (s.assertReset .warmLost s.rst.cause.toNat s.rst.sources.toNat).tap ir
  else s.tap ir
def execExtest (s : State) : Res := ok (s.pinTest 0x03)
def execClamp (s : State) : Res := ok (s.pinTest 0x04)
def execHighz (s : State) : Res := ok (s.pinTest 0x05)

/-- R531: PRIVATE_INSTRUCTION: 0x10 to 0x1F in BLANK, MANUFACTURE and RMA; BYPASS in every other state. -/
def execPrivateInstruction (code : BitVec 4) (s : State) : Res :=
  let lc := s.sec.lcState
  if lc = 0 || lc = 1 || lc = 4 then ok (s.tap (0x10 + code.toNat)) else ok (s.tap 0xFF)

end Machine
end Sys2Proof
end

