-- ==== Sys2Proof/Machine/FaultLog.lean ====
section
/-! DEFINITION. The fault log (22): the close of aggregation windows and batches, the move of records into the log, its reads
and acknowledgements, and the coalesced signals. -/

namespace Sys2Proof
namespace Machine

/-- R542: a digest of a window: the first report's reporter and payload, the count, the time of the last report counted. -/
def AggWindow.digest (w : AggWindow) : FaultRec :=
  { w.first with digest := true, count := BitVec.ofNat 16 (Nat.min w.count 0xFFFF), time := w.last }

/-- R542: AGGREGATION_WINDOW_CLOSE: window `i` closes; a digest is written where it counted a report. -/
def execAggregationWindowClose (i : Nat) (s : State) : Res :=
  match s.flt.windows[i]? with
  | none => ok s
  | some w =>
    let s1 := { s with flt := { s.flt with windows := s.flt.windows.eraseIdx i } }
    if w.count ≥ 1 then ok (s1.enqueue w.digest) else ok s1

/-- R542: AGGREGATION_OVERFLOW_END: one record for the period, never aggregated. -/
def execAggregationOverflowEnd (s : State) : Res :=
  match s.flt.overflow with
  | none => ok s
  | some n => ok ({ s with flt := { s.flt with overflow := none } }.enqueue (s.mkRec kAggregationOverflow 0 0 [(32, n)]))

/-- R543: DIGEST_BATCH_SEND: the count of a batch goes to its origin with the time of the last report; where the origin is not
PRESENT, it is counted here (R542). -/
def execDigestBatchSend (i : Nat) (s : State) : Res :=
  match s.flt.batches[i]? with
  | none => ok s
  | some b =>
    let s1 := { s with flt := { s.flt with batches := s.flt.batches.eraseIdx i } }
    if b.count = 0 then ok s1
    else
      let r : FaultRec := { b.first with count := BitVec.ofNat 16 (Nat.min b.count 0xFFFF), time := b.last }
      if s1.routePresent s1.epoch b.first.origin.toNat then ok (s1.sendMgmt 9 b.first.origin.toNat 0 (leBytes 64 r.pack.toNat))
      else ok (s1.countReport r)

/-- R547: the header of the UDP message to FM_NOTIFY: VERSION 1, OP READ, RESPONSE 1, INDEX 0x7800, SUBINDEX 0x02, LENGTH 64. -/
def notifyHeader : BitVec 128 :=
  BitVec.ofNat 128 (1 + 1 * 2 ^ 8 + 1 * 2 ^ 13 + 0x7800 * 2 ^ 32 + 2 * 2 ^ 48 + 64 * 2 ^ 96)

/-- R547: FM_NOTIFY is set. -/
def State.notifyOn (s : State) : Bool := s.par 0x7800 8 ≠ 0

/-- R544, R547: a record reaches the log ring of 65,536, and is signalled. -/
def State.logRecord (s : State) (r : FaultRec) : State :=
  let full := s.flt.log.length ≥ 65536
  let s1 := { s with flt := { s.flt with log := (if full then s.flt.log.drop 1 else s.flt.log) ++ [r] } }
  let s2 := if r.error then s1.signalError r else s1
  if (r.error || r.digest) && s2.notifyOn then s2.emit (.notify (BitVec.ofNat 144 (s2.par 0x7800 8)) notifyHeader (leBytes 64 r.pack.toNat)) else s2

/-- R544: FAULT_LOG_MOVE by the active complex; a loss is recorded once the queue has room. -/
def execFaultLogMove (s : State) : Res :=
  if !s.running || s.cx.gap then ok s
  else
    let s1 := s.flt.queue.foldl (fun s r => s.logRecord r) { s with flt := { s.flt with queue := [] } }
    ok s1.enqueueLost

/-- R546: a write of a read position, OD 0x7800:02. -/
def logPosition (c : Client) (n : BitVec 32) : Op := fun s => done (s.modClient c (fun x => { x with logPos := n }))

/-- R546: FAULT_LOG_READ. -/
def execFaultLogRead (c : Client) (pos : Option (BitVec 32)) (s : State) : Res :=
  match pos with
  | some n => ok (s.request c 0x7800 2 (leBytes 4 n.toNat) (logPosition c n))
  | none => ok (s.query c 0x7800 2 (fun s => let r := s.domainBytes c 0x7800 2; (stOk, leNat r.1, r.2)))

/-- R547: a write of FAULT_ACK, OD 0x7800:03. -/
def faultAck (n : BitVec 32) : Op := fun s =>
  done { s with flt := { s.flt with
    acked := if s.flt.acked.toNat < n.toNat then n else s.flt.acked,
    chipErr := s.flt.chipErr.filter (fun k => n.toNat < k.toNat) } }

/-- R547: FAULT_ACK. -/
def execFaultAck (c : Client) (n : BitVec 32) (s : State) : Res := ok (s.request c 0x7800 3 (leBytes 4 n.toNat) (faultAck n))

/-- R547: MSIX_COALESCE_EXPIRE: 1 ms after a raise; what came since is signalled by one raise. -/
def execMsixCoalesceExpire (f : Fin 68) (s : State) : Res :=
  match s.flt.coalesce.find? (fun e => e.1 = f.val) with
  | none => ok s
  | some (_, true) =>
    ok ({ s with flt := { s.flt with coalesce := s.flt.coalesce.map (fun (e : Nat × Bool) => if e.1 = f.val then (e.1, false) else e) } }.msix f.val 1)
  | some (_, false) => ok { s with flt := { s.flt with coalesce := s.flt.coalesce.filter (fun (e : Nat × Bool) => e.1 ≠ f.val) } }

end Machine
end Sys2Proof
end

