-- ==== Sys2Proof/Machine/Service.lean ====
section
/-! DEFINITION. The object-dictionary service (16) and the host control window (13): the write of every entry, messages and
their responses, segments, the option record, the field network and I3C, and the end of a fail-over gap (17). -/

namespace Sys2Proof
namespace Machine

/-! ### Writes of entries -/

/-- The entry takes the value. -/
def keep (idx sub v : Nat) : Op := fun s => done (s.setPar idx sub v)

/-- R447: a value that breaks a rule is out of range. -/
def keepIf (good : Bool) (idx sub v : Nat) : Op := if good then keep idx sub v else refuse stRange

/-- R441: an RWS entry is written only while its service is stopped. -/
def whileStopped (stopped : Bool) (op : Op) : Op := if stopped then op else refuse stRunning

/-- The ranges of entries that their chapters give one: least and greatest value. -/
def entryRange (idx sub : Nat) : Option (Nat × Nat) :=
  if idx = 0x3410 then some (1, 255)
  else if idx = 0x3810 then some (0, 1)
  else if 0x4900 ≤ idx && idx < 0x4A00 && sub = 4 then some (0, 7)
  else
    match idx, sub with
    | 0x3830, 1 => some (0, 1000)
    | 0x4000, 5 => some (1, 255)
    | 0x5800, 6 => some (0, 2000)
    | 0x5800, 7 => some (100, 100000)
    | 0x5400, 9 => some (100, 100000)
    | 0x5400, 11 => some (10000, 400000)
    | 0x7C00, 7 => some (1000, 3600000)
    | 0x7C00, 8 => some (1, 15)
    | 0x7C10, 1 => some (0, 15)
    | 0x2000, 4 => some (250, 4000)
    | 0x2000, 5 => some (5000, 32000)
    | 0x2000, 6 => some (100, 10000)
    | 0x2100, 3 => some (700, 1050)
    | 0x2100, 4 => some (950, 1150)
    | 0x2100, 5 => some (850, 1000)
    | 0x2100, 6 => some (800, 950)
    | 0x7000, 2 => some (100, 60000)
    | _, _ => none

/-- The entry takes a value in its range. -/
def keepRange (idx sub v : Nat) : Op :=
  keepIf (match entryRange idx sub with | some (lo, hi) => lo ≤ v && v ≤ hi | none => true) idx sub v

/-- R28, R29, R51: a write of BASE, SIZE or DB_SIZE (subindex 1 to 3) of a partition. -/
def partitionWrite (t sub v : Nat) : Op := fun s =>
  let x := s.tenantAt t
  let y : Tenant := if sub = 1 then { x with base := BitVec.ofNat 64 v }
    else if sub = 2 then { x with size := BitVec.ofNat 64 v } else { x with dbSize := BitVec.ofNat 64 v }
  if x.state ≠ 0 && x.state ≠ 1 then refuse stRunning s
  else if v % 2 ^ 21 ≠ 0 || (x.state = 1 && !s.partitionFits t y.base.toNat y.size.toNat y.dbSize.toNat) then refuse stRange s
  else done (s.modTenant t (fun _ => y))

/-- R51, R329, R350: a tenant's partition is FREE or STOPPED. -/
def State.partitionIdle (s : State) (t : Nat) : Bool := (s.tenantAt t).state = 0 || (s.tenantAt t).state = 1

/-- R42, R125: the default layout with a new size of a parity region: every extent that keeps its tier keeps its ARMOUR. -/
def State.layAnew (s s1 : State) : State :=
  let tier := s.med.tier.filterMap (fun (p : Nat × BitVec 32) =>
    let d := s1.defaultEntry p.1
    if bits d 24 23 = 1 && bit d 21 = bit p.2 21 then
      some (p.1, BitVec.ofNat 32 (setBits d.toNat 27 25 (bits p.2 27 25)))
    else none)
  { s1 with med := { s1.med with tier := tier, armour := [], parity := [], pcache := [], noParity := [] } }

/-- R46, R124: a place in its tier's region for the block of every extent that a move has armoured; none where one has none. -/
def State.placeBlocks (s : State) : Option State :=
  s.med.tier.foldl (fun (o : Option State) p =>
    o.bind (fun s =>
      let n := armourUnits (bits p.2 27 25)
      (s.armourPlace (if bit p.2 21 then 1 else 0) p.1 n p.2).map (fun u => s.setBlock p.1 u n))) (some s)

/-- R46, R51, R125: a write of ARMOUR_PARITY_HBM or _DDR: the layout is laid out anew with the extents' ARMOUR as it is, and the
parity written afresh (log entry 33); refused where the region could not hold it. -/
def armourParityWrite (sub v : Nat) : Op := fun s =>
  if s.tenants.any (fun p => p.2.state ≠ 0) then refuse stRunning s
  else
    let s1 := s.setPar 0x3020 sub v
    if s1.reserved (sub - 1) > s1.mediaExtents (sub - 1) then refuse stRange s
    else
      let s2 := s.layAnew s1
      if s2.ringClass = 0 && s2.defaultBlocks.length < s2.usable 1 then refuse stRange s
      else
        match s2.placeBlocks with
        | none => refuse stRange s
        | some s3 => done ((List.range s3.tenantTop).foldl State.freshBlock s3)

/-- R135: a write of HOLD_WINDOW: 0 releases every entry of the merge buffer at once. -/
def holdWindow (v : Nat) : Op := fun s =>
  if 1000 < v then refuse stRange s
  else if v = 0 then done (s.setPar 0x3830 1 v).releaseAll
  else done (s.setPar 0x3830 1 v)

/-- R35: a write of GFD_DECODER: all 64 decoders. -/
def gfdWrite (bs : List (BitVec 8)) : Op := fun s =>
  let t := (List.range 64).foldl (fun t d => Tab.set t d (decTrim (BitVec.ofNat 256 (leNat ((bs.drop (32 * d)).take 32))))) []
  if s.gfdGood t then done { s with host := { s.host with gfd := t } } else refuse stRange s

/-- R36: a write of REQUESTER_ACCESS: all 4096 entries. -/
def accessWrite (bs : List (BitVec 8)) : Op := fun s =>
  done { s with host := { s.host with
    access := ((List.range 4096).map (fun r => (r, BitVec.ofNat 512 (leNat ((bs.drop (64 * r)).take 64))))).filter (fun p => p.2 ≠ 0) } }

/-- R170, R182: a write of ROTATION_PERIOD (8) or ROTATION_WAIT (9). -/
def rotationWrite (sub v : Nat) : Op := fun s =>
  let period := if sub = 8 then v else s.par 0x4000 8
  let wait := if sub = 9 then v else s.par 0x4000 9
  if s.par 0x4000 7 ≠ 0 then refuse stRunning s
  else keepIf (33 * period + wait ≤ 600000) 0x4000 sub v s

/-- R253, R303, R537: the selected context is DISABLED. -/
def State.ctxIdle (s : State) (c : Client) : Bool :=
  (s.ctxAt (s.selected c)).state = 0 && !(s.ctxAt (s.selected c)).disabling

/-- R12, R206: a context entry with its reserved bits zero. -/
def entryTrim (v : BitVec 512) : BitVec 512 :=
  BitVec.ofNat 512 (bits v 61 0 + bits v 113 64 * 2 ^ 64 + bits v 173 128 * 2 ^ 128 + bits v 237 192 * 2 ^ 192
    + bits v 266 256 * 2 ^ 256 + bits v 351 272 * 2 ^ 272)

/-- R206, R253: a write of CONTEXT_ENTRY. -/
def contextEntryWrite (c : Client) (v : Nat) : Op := fun s =>
  whileStopped (s.ctxIdle c) (fun s => done (s.modCtx (s.selected c) (fun x => { x with entry := entryTrim (BitVec.ofNat 512 v) }))) s

/-- R303: a write of ATS_BINDING. -/
def bindingWrite (c : Client) (v : Nat) : Op := fun s =>
  whileStopped (s.ctxIdle c) (fun s => done (s.modCtx (s.selected c) (fun x => { x with binding := BitVec.ofNat 64 (v % 2 ^ 30) }))) s

/-- R537: a write of COUNTER_LOG: LOG2 is 0 or 4 to 15. -/
def counterLogWrite (c : Client) (v : Nat) : Op := fun s =>
  let n := bitsAt v 51 48
  if !s.ctxIdle c then refuse stRunning s
  else if n ≠ 0 && n < 4 then refuse stRange s
  else done (s.modCtx (s.selected c) (fun x => { x with counterLog := BitVec.ofNat 64 (bitsAt v 45 12 * 2 ^ 12 + n * 2 ^ 48) }))

/-- OD 0x59tt: a write of ATOMIC_WINDOW_OFFSET (1) or ATOMIC_WINDOW_LINES (2): the window lies within DB_SIZE. -/
def atomicWindowWrite (t sub v : Nat) : Op := fun s =>
  let off := if sub = 1 then v else s.par (0x5900 + t) 1
  let lines := if sub = 2 then v else s.par (0x5900 + t) 2
  if !s.partitionIdle t then refuse stRunning s
  else keepIf (off % 4096 = 0 && lines ≤ 64 && off + 64 * lines ≤ (s.tenantAt t).dbSize.toNat) (0x5900 + t) sub v s

/-- OD 0x5Ctt: a write of RAT_OFFSET (1) or RAT_ENTRIES (2): the table lies within DB_SIZE. -/
def ratWrite (t sub v : Nat) : Op := fun s =>
  let off := if sub = 1 then v else s.par (0x5C00 + t) 1
  let n := if sub = 2 then v else s.par (0x5C00 + t) 2
  if !s.partitionIdle t then refuse stRunning s
  else keepIf (off % 64 = 0 && n ≤ 1024 && off + (if n = 0 then 0 else 64 + 8 * n) ≤ (s.tenantAt t).dbSize.toNat) (0x5C00 + t) sub v s

/-- R333: an entry of a region's configuration, while it is DISABLED. -/
def regionWrite (r sub v : Nat) : Op := fun s =>
  let good : Bool := match sub with
    | 2 => v % 2 ^ 21 = 0
    | 3 => v % 2 ^ 21 = 0
    | 4 => 1 ≤ v && v ≤ 4
    | 5 => v % 64 = 0
    | 6 => v % 256 = 0
    | 7 => v < 0x1000 || (0x8000 ≤ v && v < 0x8400) || v = 0xFFFF
    | 8 => v < 0x1000 || (0x8000 ≤ v && v < 0x8400) || v = 0xFFFF
    | 9 => v < 0x1000 || (0x8000 ≤ v && v < 0x8400) || v = 0xFFFF
    | 10 => v < 0x1000 || (0x8000 ≤ v && v < 0x8400) || v = 0xFFFF
    | _ => true
  if s.reg.enabled.contains r then refuse stRunning s else keepIf good (0x5A00 + r) sub v s

/-- R369: a write of WINDOW_SCOPE. -/
def scopeWrite (sub v : Nat) : Op := keepIf (v < 256 || v = 0x8000 || v = 0xFFFF) 0x5040 sub v

/-- R377: a glaze window may be enabled. -/
def State.glazeGood (s : State) (w : Nat) : Bool :=
  let t := s.par (0x5100 + w) 1
  let x := s.tenantAt t
  let r := s.glazeRange w
  x.state = 2 && !x.stopping && bitAt (s.par 0x5180 1) t
    && x.base.toNat + x.dbSize.toNat ≤ r.1 && r.2 ≤ x.base.toNat + x.size.toNat
    && (List.range 64).all (fun q => q = w || s.par (0x5100 + q) 5 = 0 || apart r (s.glazeRange q))
    && s.reg.enabled.all (fun q => (s.regionParts q).all (apart r))
    && s.ctxs.all (fun p => p.2.state = 0 || apart r (bits p.2.entry 237 192, bits p.2.entry 237 192 + 4096))

/-- R377: a write of a glaze window's entry. -/
def glazeWrite (w sub v : Nat) : Op := fun s =>
  if sub = 5 then
    if v = 0 then done ((s.setPar (0x5100 + w) 5 0).modGlaze w (fun g => { g with armed := false }))
    else if s.par (0x5100 + w) 5 = 1 || s.glazeGood w then keep (0x5100 + w) 5 1 s
    else refuse stRange s
  else
    let good : Bool := match sub with
      | 2 => v % 4096 = 0
      | 3 => 13 ≤ v && v ≤ 21
      | 4 => 2 ≤ v && v ≤ 256
      | _ => true
    if s.par (0x5100 + w) 5 ≠ 0 then refuse stRunning s else keepIf good (0x5100 + w) sub v s

/-- R362: a write of CONFIDENTIAL_TENANTS: a bit changes only while its partition is FREE. -/
def confidentialWrite (v : Nat) : Op := fun s =>
  keepIf ((List.range 256).all (fun t => bitAt v t = bitAt (s.par 0x5180 1) t || (s.tenantAt t).state = 0)) 0x5180 1 v s

/-- R482, R486: a write of POWER_CAP (1) or POWER_EMERGENCY (2). -/
def powerWrite (sub v : Nat) : Op := fun s =>
  if sub = 1 then keepIf (300000 ≤ v && v ≤ s.odDefault 0x2010 1 && v ≤ s.par 0x2010 2) 0x2010 1 v s
  else keepIf (s.par 0x2010 1 ≤ v && v ≤ s.odDefault 0x2010 2) 0x2010 2 v s

/-- R547: FM_NOTIFY is off, or names an IPv6 link-local address in bytes 0-15. -/
def notifyGood (bs : List (BitVec 8)) : Bool :=
  leNat bs = 0 || (bs.head? = some 0xFE && 0x80 ≤ (bs.getD 1 0).toNat && (bs.getD 1 0).toNat < 0xC0)

/-- R441: ROW_THRESHOLD is written while no plan runs on the chip, MIGRATION_CHANNELS while no extent moves (R83). -/
def State.noPlans (s : State) : Bool := s.ctxs.all (fun p => p.2.phase = .idle)

/-- R457: a write of OPTION_WRITE: the record is checked, and its storing begins: GENERATION and CRC are set, and the copy not in
use is erased. -/
def optionWrite (v : BitVec 2048) : Op := fun s =>
  if s.opt.st = 1 then refuse stBusy s
  else if !optionForm v then refuse stRange s
  else
    let gen := (s.option 95 64 + 1) % 2 ^ 32
    let r := BitVec.ofNat 2048 (setBits v.toNat 95 64 gen)
    let full := BitVec.ofNat 2048 (setBits r.toNat 2047 2016 (optionCrc r).toNat)
    let o := { s.opt with st := 1, writing := some full }
    done { s with opt :=
      if o.used then { o with copy0 := BitVec.allOnes 2048, commit0 := BitVec.allOnes 32 }
      else { o with copy1 := BitVec.allOnes 2048, commit1 := BitVec.allOnes 32 } }

/-- Writes of chapters 02 to 05 that are more than a value in a range. -/
def writeMemory (c : Client) (idx sub v : Nat) (bs : List (BitVec 8)) : Option Op :=
  if idx = 0x3010 then some (fun s =>
    if v < s.dpaExtents then done (s.modClient c (fun x => { x with tierKey := BitVec.ofNat 32 v })) else refuse stRange s)
  else if idx = 0x3020 then some (armourParityWrite sub v)
  else if idx = 0x5030 then some (if sub = 1 then gfdWrite bs else accessWrite bs)
  else if 0x4900 ≤ idx && idx < 0x4A00 then
    if sub ≤ 3 then some (partitionWrite (idx - 0x4900) sub v)
    else if sub = 8 then some (partitionCommand (idx - 0x4900) v) else none
  else if idx = 0x3060 && sub = 1 then some (fun s => whileStopped s.noPlans (keep idx sub v) s)
  else if idx = 0x3080 then
    if sub = 1 then some (fun s => whileStopped s.reg.moves.isEmpty (keep idx sub v) s)
    else some (copyRequest (BitVec.ofNat 256 v))
  else if 0x3180 ≤ idx && idx < 0x3190 then some (copyCommand (idx - 0x3180) v)
  else if idx = 0x3430 then some (shaperWrite (sub - 1) v)
  else if 0x3440 ≤ idx && idx < 0x3460 then some (gateWrite (idx - 0x3440) (sub - 1) (BitVec.ofNat 64 v))
  else if 0x3460 ≤ idx && idx < 0x346C then some (gateWrite (idx - 0x3460 + 32) (sub - 1) (BitVec.ofNat 64 v))
  else if idx = 0x3830 then some (holdWindow v)
  else if idx = 0x3840 && sub = 1 then some (scrubEnable v)
  else if idx = 0x3850 then
    match sub with
    | 2 => some (flipControl c .hbm v)
    | 4 => some (flipControl c .ddr v)
    | _ => some (if clientGroup c = 0 then refuse stDenied else keep idx sub v)
  else none

/-- Writes of chapters 06, 08, 10 and 21 that are more than a value in a range. -/
def writeVats (c : Client) (idx sub v : Nat) : Option Op :=
  if idx = 0x4000 && sub = 7 then some (rotationEnable v)
  else if idx = 0x4000 && (sub = 8 || sub = 9) then some (rotationWrite sub v)
  else if idx = 0x4410 then
    match sub with
    | 1 => some (fun s => if v < 1024 then done (s.modClient c (fun x => { x with ctxSel := BitVec.ofNat 16 v })) else refuse stRange s)
    | 2 => some (contextEntryWrite c v)
    | _ => some (contextCommand c v)
  else if idx = 0x4110 then some (if sub = 1 then bindingWrite c v else invalidateOp c (bitsAt v 63 0) (bitsAt v 127 64))
  else if idx = 0x7410 then some (counterLogWrite c v)
  else if idx = 0x7420 then some (dumpWrite c (sub - 1) (BitVec.ofNat 256 v))
  else if idx = 0x7000 && sub = 8 then some (testCommand (bitsAt v 7 0) (bitsAt v 15 8))
  else none

/-- Writes of chapters 11 to 15 that are more than a value in a range. -/
def writeSharing (c : Client) (idx sub v : Nat) : Option Op :=
  if idx = 0x5800 && sub = 14 then some (fun s => done (s.modClient c (fun x => { x with dirKey := BitVec.ofNat 64 v })))
  else if idx = 0x5810 then some (if sub = 1 then requesterGone v else requesterRevive v)
  else if 0x5900 ≤ idx && idx < 0x5A00 then some (atomicWindowWrite (idx - 0x5900) sub v)
  else if 0x5A00 ≤ idx && idx < 0x5B00 then
    some (if sub = 12 then regionCommand (idx - 0x5A00) v else regionWrite (idx - 0x5A00) sub v)
  else if 0x5C00 ≤ idx && idx < 0x5D00 then some (ratWrite (idx - 0x5C00) sub v)
  else if idx = 0x5040 then some (scopeWrite sub v)
  else if 0x5100 ≤ idx && idx < 0x5140 then some (glazeWrite (idx - 0x5100) sub v)
  else if idx = 0x5180 then some (confidentialWrite v)
  else if idx = 0x5400 then
    match sub with
    | 5 => some (epochWrite v)
    | 6 => some (routeWrite 0 v)
    | 7 => some (routeWrite 1 v)
    | 13 => some (rebuildCommand v)
    | _ => none
  else if 0x5410 ≤ idx && idx < 0x5414 then some (linkCommand (idx - 0x5410) v)
  else if idx = 0x6000 then
    if sub = 2 then some (lcTransition (BitVec.ofNat 1184 v))
    else some (svnCommit v)
  else none

/-- Writes of chapters 16 to 22 that are more than a value in a range. -/
def writeControl (c : Client) (idx sub v : Nat) (bs : List (BitVec 8)) : Option Op :=
  if idx = 0x1010 then some (optionWrite (BitVec.ofNat 2048 v))
  else if idx = 0x2000 || (idx = 0x2010 && sub = 8) then some (fun s => whileStopped (!s.running) (keepRange idx sub v) s)
  else if idx = 0x2010 && (sub = 1 || sub = 2) then some (powerWrite sub v)
  else if idx = 0x2010 && (sub = 4 || sub = 5) then some (throttleWrite sub v)
  else if idx = 0x7800 then
    match sub with
    | 2 => some (logPosition c (BitVec.ofNat 32 v))
    | 3 => some (faultAck (BitVec.ofNat 32 v))
    | _ => some (keepIf (notifyGood bs) idx sub v)
  else if idx = 0x7C00 && sub = 10 then some (complexCommand (bitsAt v 7 0) (bitsAt v 15 8))
  else if idx = 0x7C10 && sub = 2 then some (stageWrite bs)
  else if idx = 0x7C10 && sub = 3 then some (stageLength v)
  else if idx = 0x7C10 && sub = 4 then some (fwCommand v)
  else if idx = 0x7C20 && sub = 6 then some (resetCommand v)
  else none

/-- R441: the write of an entry that exists and may be written, with the bytes of its value. -/
def entryWrite (c : Client) (r : OdRow) (idx sub : Nat) (bs : List (BitVec 8)) : Op :=
  let v := leNat bs
  if r.ty = .bool && 1 < v then refuse stRange
  else
    ((writeMemory c idx sub v bs).orElse (fun _ => (writeVats c idx sub v).orElse (fun _ =>
      (writeSharing c idx sub v).orElse (fun _ => writeControl c idx sub v bs)))).getD
      (keepRange idx sub v)

/-! ### Messages (R444-R450) -/

/-- R444: the fields of a header. -/
def hdrOp (h : BitVec 128) : Nat := bits h 11 8
def hdrFinal (h : BitVec 128) : Bool := bit h 12
def hdrIndex (h : BitVec 128) : Nat := bits h 47 32
def hdrSub (h : BitVec 128) : Nat := bits h 55 48
def hdrOffset (h : BitVec 128) : Nat := bits h 95 64
def hdrLength (h : BitVec 128) : Nat := bits h 111 96

/-- R444: a request's header and its number of data bytes agree with the format. -/
def headerGood (h : BitVec 128) (n : Nat) : Bool :=
  bits h 7 0 = 1 && 1 ≤ hdrOp h && hdrOp h ≤ 4 && bits h 15 13 = 0 && bits h 63 56 = 0 && bits h 127 112 = 0
    && n = (if hdrOp h = 1 || hdrOp h = 4 then 0 else hdrLength h)

/-- R448: two requests of a client with the same SEQ, INDEX and SUBINDEX. -/
def sameRequest (a b : BitVec 128) : Bool := bits a 31 16 = bits b 31 16 && bits a 55 32 = bits b 55 32

/-- The data that a message of a path carries (16, "Paths"). -/
def pathLimit (c : Client) : Nat := if clientGroup c = 0 then 28656 else 1024

/-- Bytes that a write of an entry's value carries; none: up to 1 MiB (R440). -/
def writeSize (r : OdRow) : Option Nat :=
  match r.ty with
  | .domain =>
    if r.idx = 0x3010 then some 4
    else if r.idx = 0x5800 then some 8
    else if r.idx = 0x5030 then some (if r.lo = 1 then 2048 else 262144)
    else if r.idx = 0x3080 then some 32
    else if r.idx = 0x7800 then some 4
    else none
  | t => OdType.size t

/-- What a message is answered: a status, data, and the state. -/
abbrev Answered := Nat × List (BitVec 8) × State

/-- R445: a READ. -/
def State.readMessage (s : State) (c : Client) (h : BitVec 128) : Answered :=
  let idx := hdrIndex h
  let sub := hdrSub h
  let want := Nat.min (hdrLength h) (pathLimit c)
  let serve (bs : List (BitVec 8)) (s : State) : Answered :=
    (stOk, bs.take want, s.modClient c (fun x => { x with latch := some (odKey idx sub, bs) }))
  let later : Answered :=
    match (s.clientAt c).latch with
    | some (k, bs) =>
      if k ≠ odKey idx sub then (stSegment, [], s)
      else if bs.length < hdrOffset h then (stLength, [], s)
      else (stOk, (bs.drop (hdrOffset h)).take want, s)
    | none => (stSegment, [], s)
  match odHighest idx with
  | none => (stNoEntry, [], s)
  | some top =>
    match odRow idx sub with
    | none =>
      if sub ≠ 0 then (stNoEntry, [], s)
      else if !s.inScope c idx sub false then (stDenied, [], s)
      else if hdrOffset h = 0 then serve [BitVec.ofNat 8 top] s else later
    | some r =>
      if !s.inScope c idx sub false || (idx = 0x3850 && sub ≤ 4 && clientGroup c = 0) then (stDenied, [], s)
      else if r.acc = .wo then (stMode, [], s)
      else if hdrOffset h = 0 then (let v := s.entryValue c r idx sub; serve v.1 v.2) else later

/-- The response data of a write that was done: the channel that a copy was queued on (R79). -/
def writeAnswer (idx sub v : Nat) : List (BitVec 8) := if idx = 0x3080 && sub = 2 then [BitVec.ofNat 8 v] else []

/-- R445: the whole value of an entry is applied. -/
def State.applyValue (s : State) (c : Client) (r : OdRow) (idx sub : Nat) (bs : List (BitVec 8)) : Answered :=
  let a := entryWrite c r idx sub bs (s.modClient c (fun x => { x with staged := none }))
  (a.1, if a.1 = stOk then writeAnswer idx sub a.2.1 else [], a.2.2)

/-- R445: a WRITE: a value of one message, or a segment of a longer one. -/
def State.writeMessage (s : State) (c : Client) (h : BitVec 128) (data : List (BitVec 8)) : Answered :=
  let idx := hdrIndex h
  let sub := hdrSub h
  let key := odKey idx sub
  let drop : State := s.modClient c (fun x => { x with staged := none })
  match odHighest idx, odRow idx sub with
  | none, _ => (stNoEntry, [], s)
  | some _, none =>
    if sub ≠ 0 then (stNoEntry, [], s) else if !s.inScope c idx sub true then (stDenied, [], s) else (stMode, [], s)
  | some _, some r =>
    if !s.inScope c idx sub true then (stDenied, [], s)
    else if r.acc = .const || r.acc = .ro then (stMode, [], s)
    else
      let single (n : Nat) : Answered :=
        if hdrOffset h = 0 && hdrFinal h && data.length = n then s.applyValue c r idx sub data else (stLength, [], s)
      match writeSize r with
      | some n =>
        if n ≤ pathLimit c then single n
        else
          let before := if hdrOffset h = 0 then some [] else
            match (s.clientAt c).staged with
            | some (k, bs) => if k = key && bs.length = hdrOffset h then some bs else none
            | none => none
          match before with
          | none => (stSegment, [], drop)
          | some bs =>
            let all := bs ++ data
            if n < all.length || (hdrFinal h && all.length ≠ n) then (stSegment, [], drop)
            else if hdrFinal h then s.applyValue c r idx sub all
            else (stOk, [], s.modClient c (fun x => { x with staged := some (key, all) }))
      | none =>
        let before := if hdrOffset h = 0 then some [] else
          match (s.clientAt c).staged with
          | some (k, bs) => if k = key && bs.length = hdrOffset h then some bs else none
          | none => none
        match before with
        | none => (stSegment, [], drop)
        | some bs =>
          let all := bs ++ data
          if 1048576 < all.length then (stSegment, [], drop)
          else if hdrFinal h then s.applyValue c r idx sub all
          else (stOk, [], s.modClient c (fun x => { x with staged := some (key, all) }))

/-- R453: a DOWNLOAD. -/
def State.downloadMessage (s : State) (c : Client) (h : BitVec 128) (data : List (BitVec 8)) : Answered :=
  if c.path ≠ .field then (stDenied, [], s)
  else if !s.imageOpen 2 then (stState, [], s)
  else if 16777216 < hdrOffset h + data.length then (stLength, [], s)
  else (stOk, [], s.imageWrite 2 (hdrOffset h) data)

/-- R449, R454: a request that is not performed now. -/
def State.notServed (s : State) (c : Client) (h : BitVec 128) : Bool :=
  s.cx.gap || (!s.running && !(c.path = .field && (hdrOp h = 3 || hdrOp h = 4 || (hdrOp h = 1 && hdrIndex h = 0x1000))))

/-- R444-R454: a request that is performed: its status, its data and the state after it. -/
def State.perform (s : State) (c : Client) (h : BitVec 128) (data : List (BitVec 8)) : Answered :=
  if !headerGood h data.length then (stProtocol, [], s)
  else if pathLimit c < data.length then (stLength, [], s)
  else if hdrOp h = 1 then s.readMessage c h
  else if hdrOp h = 2 then
    if clientGroup c ≠ 0 && s.option 199 199 = 0 then (stDenied, [], s) else s.writeMessage c h data
  else s.downloadMessage c h data

/-- R447, R448: a response, which is kept unless it is BUSY; a window's lies in RESPONSE. -/
def State.odRespond (s : State) (c : Client) (h : BitVec 128) (st : Nat) (data : List (BitVec 8)) : State :=
  let r := respHeader h st data.length
  let s1 := (s.countResponse st).emit (.odResponse c r data)
  let s2 := if st = stBusy then s1 else s1.modClient c (fun x => { x with kept := some (h, r, data) })
  match c.path with
  | .window w => s2.modWindow w.val (fun x => { x with response := leBytes 16 r.toNat ++ data })
  | _ => s2

/-- R448: the response kept for a request that repeats the last one of its client. -/
def State.keptFor (s : State) (c : Client) (h : BitVec 128) : Option (BitVec 128 × List (BitVec 8)) :=
  match (s.clientAt c).kept with
  | some (q, r, d) => if sameRequest q h then some (r, d) else none
  | none => none

/-- R448: a kept response is sent again. -/
def State.resend (s : State) (c : Client) (r : BitVec 128) (d : List (BitVec 8)) : State :=
  let s1 := ((s.countResponse (bits r 63 56)).modClient c id).emit (.odResponse c r d)
  match c.path with
  | .window w => s1.modWindow w.val (fun x => { x with response := leBytes 16 r.toNat ++ d })
  | _ => s1

/-- R453: a DOWNLOAD_GO: OFFSET is the length; the response waits until STATE leaves CHECKING. -/
def State.downloadGo (s : State) (c : Client) (h : BitVec 128) : State :=
  if s.imageOpen 2 then
    ({ s with host := { s.host with boot := { s.host.boot with length := BitVec.ofNat 32 (hdrOffset h), goFrom := some (c, h) } } }).imageGo 2
  else if s.host.boot.goFrom.any (fun q => q.1 = c && sameRequest q.2 h) then s
  else s.odRespond c h stState []

/-- R446-R449: the service takes a request. -/
def State.odServe (s : State) (c : Client) (h : BitVec 128) (data : List (BitVec 8)) : State :=
  if s.notServed c h then s.odRespond c h stBusy []
  else
    match s.keptFor c h with
    | some (r, d) => s.resend c r d
    | none =>
      if hdrOp h = 4 && headerGood h data.length && c.path = .field then s.downloadGo c h
      else
        let a := s.perform c h data
        let s1 := a.2.2.odRespond c h a.1 a.2.1
        if a.1 = stOk && hdrOp h = 2 && hdrIndex h = 0x7C20 then s1.afterResetCommand (leNat data) else s1

/-- A request message arrives: a closed window takes none, one after a change of version drops it (R369, R370), in a gap a
window's is queued (R371); and a chip whose gate is off takes none. -/
def State.arriveMessage (s : State) (c : Client) (h : BitVec 128) (data : List (BitVec 8)) : State :=
  if !s.pwr.gateOn then s
  else
    match c.path with
    | .window w =>
      if s.clientScope c = 0xFFFF || (s.windowAt w.val).changed then s
      else if s.cx.gap then s.gapPush w.val (.message c h data)
      else s.odServe c h data
    | _ => s.odServe c h data

/-- R445: OD_READ, OD_WRITE. -/
def execOdRead (c : Client) (h : BitVec 128) (s : State) : Res := ok (s.arriveMessage c h [])
def execOdWrite (c : Client) (h : BitVec 128) (data : List (BitVec 8)) (s : State) : Res := ok (s.arriveMessage c h data)

/-- R453: DOWNLOAD, DOWNLOAD_GO. -/
def execDownload (c : Client) (h : BitVec 128) (data : List (BitVec 8)) (s : State) : Res := ok (s.arriveMessage c h data)
def execDownloadGo (c : Client) (h : BitVec 128) (s : State) : Res := ok (s.arriveMessage c h [])

/-- R445: SEGMENT_LATCH_EXPIRE. -/
def execSegmentLatchExpire (c : Client) (s : State) : Res :=
  if (s.clientAt c).latch.isSome then ok (s.modClient c (fun x => { x with latch := none })) else ok s

/-! ### The option record (R455-R457) -/

/-- R457: OPTION_WRITE. -/
def execOptionWrite (c : Client) (v : BitVec 2048) (s : State) : Res :=
  ok (s.request c 0x1010 2 (leBytes 256 v.toNat) (optionWrite v))

/-- R457: OPTION_WRITE_DONE: the record is programmed, its commit word last. -/
def execOptionWriteDone (s : State) : Res :=
  match s.opt.writing with
  | none => ok s
  | some r =>
    let o := { s.opt with st := 2, writing := none }
    ok { s with opt := if o.used then { o with copy0 := r, commit0 := 0x54494D43 } else { o with copy1 := r, commit1 := 0x54494D43 } }

/-! ### The field network and I3C (R451, R452) -/

/-- R451: PLCA on the field network: the node ID, and the node count that node 0 uses; none: CSMA/CD. -/
def State.plca (s : State) : Option (Nat × Nat) :=
  if s.option 183 176 = 255 then none else some (s.option 183 176, s.option 191 184)

/-- R451: the modified EUI-64 of MAC_ADDRESS, byte 0 first. -/
def State.eui64 (s : State) : List (BitVec 8) :=
  let m := leBytes 6 s.sec.mac.toNat
  [m.getD 0 0 ^^^ 2, m.getD 1 0, m.getD 2 0, 0xFF, 0xFE, m.getD 3 0, m.getD 4 0, m.getD 5 0]

/-- R451: the link-local address fe80::/64, byte 0 first. -/
def State.linkLocal (s : State) : List (BitVec 8) := [0xFE, 0x80, 0, 0, 0, 0, 0, 0] ++ s.eui64

/-- The bytes of an IPv6 address, first byte first. -/
def ipBytes (a : BitVec 128) : List (BitVec 8) := (leBytes 16 a.toNat).reverse

/-- R451: NEIGHBOR_DISCOVERY: a solicitation of the chip's own address is answered with its MAC address. -/
def execNeighborDiscovery (target : BitVec 128) (s : State) : Res :=
  if s.pwr.gateOn && ipBytes target = s.linkLocal then ok (s.emit (.network 1 (ipBytes target ++ leBytes 6 s.sec.mac.toNat))) else ok s

/-- R451: ICMPV6_ECHO. -/
def execIcmpv6Echo (data : List (BitVec 8)) (s : State) : Res := if s.pwr.gateOn then ok (s.emit (.network 2 data)) else ok s

/-- R451: DISCOVERY_REPLY: a multicast READ of index 0x1000 is answered; no other multicast request is. -/
def execDiscoveryReply (c : Client) (h : BitVec 128) (s : State) : Res :=
  if c.path = .field && hdrOp h = 1 && hdrIndex h = 0x1000 then ok (s.arriveMessage c h []) else ok s

/-- R452: the I3C target takes a dynamic address. -/
def State.takeAddress (s : State) (a : BitVec 7) : State := { s with i3c := some a }.emit (.i3cAddress a)

/-- R452: ENTDAA: a target without a dynamic address takes one. -/
def execEntdaa (addr : BitVec 7) (s : State) : Res := if s.i3c.isNone then ok (s.takeAddress addr) else ok s

/-- R452: SETDASA: from I3C_STATIC_ADDR, 0 being none. -/
def execSetdasa (static addr : BitVec 7) (s : State) : Res :=
  if s.i3c.isNone && static ≠ 0 && static.toNat = s.option 198 192 then ok (s.takeAddress addr) else ok s

/-! ### The host control window (R367-R371) -/

/-- R372: the window that has the boot form: of the port 0 function, or of logical device 0 of port 0. -/
def State.bootWindow (s : State) : Nat := if s.mld then 4 else 0

/-- The client that a window is (R443). -/
def windowClient (w : Fin 68) : Client := { path := .window w, key := 0 }

/-- R367: WINDOW_STATUS. -/
def State.windowStatus (s : State) (w : Fin 68) : Nat :=
  let x := s.windowAt w.val
  (if s.cx.gap then 2 else if s.running then 1 else 0) + (if s.cx.active = .B then 4 else 0) + (if x.changed then 8 else 0)
    + (if x.lost then 16 else 0) + (if x.overrun then 32 else 0) + (if s.host.active then 64 else 0)
    + s.clientScope (windowClient w) % 2 ^ 16 * 2 ^ 16

/-- R372: BOOT_STATUS. -/
def State.bootStatus (s : State) : Nat :=
  s.host.boot.state.toNat + (if s.host.boot.claim = 2 then 8 else 0) + s.host.boot.reason.toNat * 2 ^ 8

/-- R367, R369: the 32-bit register or word of REQUEST or RESPONSE that a read of a window returns. -/
def State.windowRead (s : State) (w : Fin 68) (off : Nat) : Nat :=
  let x := s.windowAt w.val
  let boot := !s.running && w.val = s.bootWindow
  if off = 0 then s.interfaceVersion
  else if off = 4 then s.windowStatus w
  else if s.clientScope (windowClient w) = 0xFFFF then 0
  else if off = 0x104 then x.rspSeq.toNat
  else if off = 0x200 then (if boot then s.bootStatus else 0)
  else if off = 0x204 then (if boot then s.host.boot.length.toNat else 0)
  else if 0x1000 ≤ off && off < 0x8000 then leNat (Mem.read x.request (off - 0x1000) 4)
  else if 0x8000 ≤ off && off < 0xF000 then leNat (fitBytes 4 (x.response.drop (off - 0x8000)))
  else 0

/-- R368: the message in REQUEST: its header, and as many bytes as it says follow. -/
def windowMessage (x : Window) : BitVec 128 × List (BitVec 8) :=
  let h := BitVec.ofNat 128 (leNat (Mem.read x.request 0 16))
  (h, if hdrOp h = 1 || hdrOp h = 4 then [] else Mem.read x.request 16 (Nat.min (hdrLength h) 28656))

/-- R368: a request of a window is served; RSP_SEQ then equals its sequence number. -/
def State.windowServe (s : State) (w : Fin 68) (seq : BitVec 32) : State :=
  let m := windowMessage (s.windowAt w.val)
  (s.odServe (windowClient w) m.1 m.2).modWindow w.val (fun x => { x with rspSeq := seq, pending := none })

/-- R369, R370: a window drops a write: its scope is closed, or its version has changed. -/
def State.windowDrops (s : State) (w : Fin 68) (ack : Bool) : Bool :=
  !s.pwr.gateOn || s.clientScope (windowClient w) = 0xFFFF || ((s.windowAt w.val).changed && !ack)

/-- R368, R371: a write of REQ_DOORBELL. -/
def State.doorbell (s : State) (w : Fin 68) (seq : BitVec 32) : State :=
  if s.windowDrops w false then s
  else if (s.windowAt w.val).pending.isSome then s.modWindow w.val (fun x => { x with overrun := true })
  else if s.cx.gap then
    if s.host.gapQueue.length < 64 then
      (s.gapPush w.val (.doorbell w.val seq)).modWindow w.val (fun x => { x with pending := some seq })
    else s.gapPush w.val (.doorbell w.val seq)
  else s.windowServe w seq

/-- R370: the window is open again once the new version is acknowledged. -/
def State.ackVersion (s : State) (w : Nat) (v : BitVec 32) : State :=
  if s.running && v.toNat = s.interfaceVersion then s.modWindow w (fun x => { x with changed := false }) else s

/-- R370, R371: a write of VERSION_ACK. -/
def State.versionAck (s : State) (w : Fin 68) (v : BitVec 32) : State :=
  if s.windowDrops w true then s
  else if s.cx.gap then s.gapPush w.val (.versionAck w.val v)
  else s.ackVersion w.val v

/-- R367, R372, R373: a write of another register of a window, outside a gap. -/
def State.windowStore (s : State) (w off : Nat) (data : List (BitVec 8)) : State :=
  let v := leNat (data.take 4)
  let boot := !s.running && w = s.bootWindow
  if off = 4 then s.modWindow w (fun x => { x with lost := x.lost && !bitAt v 4, overrun := x.overrun && !bitAt v 5 })
  else if off = 0x204 then
    if boot then { s with host := { s.host with boot := { s.host.boot with length := BitVec.ofNat 32 v } } } else s
  else if off = 0x208 then if boot && v = 1 then s.imageGo 1 else s
  else if 0x1000 ≤ off && off < 0x8000 then
    s.modWindow w (fun x => { x with request := Mem.write x.request (off - 0x1000) (data.take (0x8000 - off)) })
  else s

/-- R367, R370, R371: WINDOW_REQUEST_WRITE. -/
def execWindowRequestWrite (w : Fin 68) (off : BitVec 16) (data : List (BitVec 8)) (s : State) : Res :=
  let word := BitVec.ofNat 32 (leNat (data.take 4))
  if off = 0x100 then ok (s.doorbell w word)
  else if off = 8 then ok (s.versionAck w word)
  else if s.windowDrops w false then ok s
  else if s.cx.gap then ok (s.gapPush w.val (.data w.val off.toNat data))
  else ok (s.windowStore w.val off.toNat data)

/-- R368: REQ_DOORBELL. -/
def execReqDoorbell (w : Fin 68) (seq : BitVec 32) (s : State) : Res := ok (s.doorbell w seq)

/-- R370: VERSION_ACK. -/
def execVersionAck (w : Fin 68) (v : BitVec 32) (s : State) : Res := ok (s.versionAck w v)

/-! ### The end of a gap (R371, R465, R471) -/

/-- R371: the new active complex applies one write that was queued. -/
def State.applyQueued (s : State) (g : GapWrite) : State :=
  match g with
  | .data w off bs => s.windowStore w off bs
  | .doorbell w seq => s.windowServe (Fin.ofNat 68 w) seq
  | .versionAck w v => s.ackVersion w v
  | .message c h d => s.odServe c h d
  | .read c idx sub =>
    match odRow idx sub with
    | some r => s.query c idx sub (fun s => let v := s.entryValue c r idx sub; (stOk, leNat v.1, v.2))
    | none => s
  | .entry c idx sub bs =>
    match odRow idx sub with
    | some r => s.requestThen c idx sub bs (entryWrite c r idx sub bs) (fun t => if idx = 0x7C20 then t.afterResetCommand (leNat bs) else t)
    | none => s

/-- R371: the queued writes in order; a chip reset among them discards the rest. -/
def State.applyQueue : List GapWrite → State → State
  | [], s => s
  | g :: q, s => if s.running then State.applyQueue q (s.applyQueued g) else s

/-- R354: the windows of the mode. -/
def State.windows (s : State) : List Nat := if s.mld then (List.range 64).map (· + 4) else List.range 4

/-- R370, R471: every window's version has changed, which vector 0 of its function tells. -/
def State.changeVersion (s : State) : State :=
  s.windows.foldl (fun s w => (s.modWindow w (fun x => { x with changed := true })).msix w 0) s

/-- The gap of a COMPLEX_FAILED record of a fail-over, its third field. -/
def FaultRec.withGap (r : FaultRec) (ns : Nat) : FaultRec :=
  if r.kind.toNat = kComplexFailed.code && r.held && bits r.payload 95 64 = 0 then
    { r with payload := BitVec.ofNat 320 (setBits r.payload.toNat 95 64 ns) }
  else r

/-- R465: the record of the complex that failed takes the length of the gap, which has ended. -/
def State.fillGap (s : State) (ns : Nat) : State :=
  { s with flt := { s.flt with
    queue := s.flt.queue.map (fun (r : FaultRec) => r.withGap ns),
    windows := s.flt.windows.map (fun (w : AggWindow) => { w with first := w.first.withGap ns }) } }

/-- R371, R465, R471: FAILOVER_SERVICE_OPEN. -/
def execFailoverServiceOpen (gapNs : Nat) (s : State) : Res :=
  if !s.cx.gap then ok s
  else
    let q := s.host.gapQueue
    let lost := s.host.gapLost
    let s1 := { s with cx := { s.cx with gap := false }, host := { s.host with gapQueue := [], gapLost := 0 } }
    let s2 := ((s1.fillGap gapNs).setPar 0x7C00 5 (gapNs % 2 ^ 32)).peak 0x7C00 6 (gapNs % 2 ^ 32)
    let s3 := if lost > 0 then s2.report kWindowWritesLost 0 0 [(32, lost)] else s2
    let s4 := State.applyQueue q s3
    if s4.running && s4.interfaceVersion ≠ s.cx.gapIver.toNat then ok s4.changeVersion else ok s4

end Machine
end Sys2Proof
end

