-- ==== Sys2Proof/Machine/Calendar.lean ====
section
/-! DEFINITION. The frame boundary (R85): the changes that wait for it, in their order. -/

namespace Sys2Proof
namespace Machine

/-- R31, R85: the dictionary keys of QoS classes, WFQ weights and overheads. -/
def qosKey (k : Nat) : Bool :=
  let idx := k / 256
  (0x4900 ≤ idx && idx < 0x4A00 && k % 256 = 4) || idx = 0x3410 || idx = 0x3411 || idx = 0x3412

/-- R85, step 1: pending gates take effect. -/
def State.gatesEffective (s : State) : State :=
  { s with cal := { s.cal with slices := s.cal.slices.map (fun (p : Nat × Slice) => (p.1, { p.2 with eff := p.2.gates })) } }

/-- R85, step 2: a new step of the vat clock; plans that run note it (R245), and running test slices are tested again (R522). -/
def State.stepEffective (s : State) : State :=
  let s1 := s.applyStep
  (if s1.pwr.step = s.pwr.step then s1 else s1.markThrottle).retestSlices

/-- R85, step 3: QoS classes, weights and overheads. -/
def State.qosEffective (s : State) : State := { s with cal := { s.cal with qosEff := s.od.filter (fun p => qosKey p.1) } }

/-- R85, step 4, and R66: the refresh set; each slice's count of frames. -/
def State.refreshEffective (s : State) : State :=
  { s with cal := { s.cal with slices := s.cal.slices.map (fun (p : Nat × Slice) =>
      (p.1, { p.2 with hot := p.2.hotNext, frames := p.2.frames + 1 })) } }

/-- R117, R517: the DDR decoder modes, and the pair of frame number and time base. -/
def State.frameLatch (s : State) : State :=
  { s with med := { s.med with eccMode := s.eccWanted },
           clk := { s.clk with frameTime := (s.cal.frame, BitVec.ofNat 64 s.now) } }

/-- R231: the vats that wait for a frame boundary go on. -/
def State.endFrameWaits (s : State) : State :=
  (List.range 34).foldl (fun s v => if (s.vatAt v).wait = .frame then s.endWait v else s) s

/-- R85, R107: FRAME_BOUNDARY; LAUNCH_POINT follows it. -/
def execFrameBoundary (s : State) : Res :=
  let s1 := s.gatesEffective.stepEffective.qosEffective.refreshEffective.frameLatch
  let s2 := ((List.range 44).foldl State.armPattern s1).endFrameWaits
  ok s2.migrationFrame.retryReads.writeMapCopy.sendMarkers

end Machine
end Sys2Proof
end

