-- ==== Sys2Proof/Machine/Dispatch.lean ====
section
/-! DEFINITION. The dispatch of a command to its meaning: one arm per row of the table of operations and events. -/

namespace Sys2Proof
namespace Machine

/-- The effect of a command on everything but the queue. -/
def exec (i : Instr) (s : State) : Host.Outcome State Fault Refusal :=
  match i with
  | .slotBoundary ups => Sys2Proof.Machine.execSlotBoundary ups s
  | .frameBoundary => Sys2Proof.Machine.execFrameBoundary s
  | .launchPoint => Sys2Proof.Machine.execLaunchPoint s
  | .vatReserve k => Sys2Proof.Machine.execVatReserve k s
  | .rowCountClear => Sys2Proof.Machine.execRowCountClear s
  | .urgencyLevelRaise sl id => Sys2Proof.Machine.execUrgencyLevelRaise sl id s
  | .wheelBucketRelease sl => Sys2Proof.Machine.execWheelBucketRelease sl s
  | .wheelOverflowSweep sl => Sys2Proof.Machine.execWheelOverflowSweep sl s
  | .beRequestArrival sl r => Sys2Proof.Machine.execBeRequestArrival sl r s
  | .mediaReadReturn rd dpa err => Sys2Proof.Machine.execMediaReadReturn rd dpa err s
  | .escalationGrant errs => Sys2Proof.Machine.execEscalationGrant errs s
  | .escalationDecodeDone e stallNs => Sys2Proof.Machine.execEscalationDecodeDone e stallNs s
  | .escalationWritebackDone e => Sys2Proof.Machine.execEscalationWritebackDone e s
  | .parityCacheWriteback line => Sys2Proof.Machine.execParityCacheWriteback line s
  | .mergeHoldExpire line => Sys2Proof.Machine.execMergeHoldExpire line s
  | .mergeRmwReadDone line err => Sys2Proof.Machine.execMergeRmwReadDone line err s
  | .scrubReadDone sl dpa err => Sys2Proof.Machine.execScrubReadDone sl dpa err s
  | .scrubLapLate tier => Sys2Proof.Machine.execScrubLapLate tier s
  | .scrubEnableWrite c v => Sys2Proof.Machine.execScrubEnableWrite c v s
  | .flipArm c tier v => Sys2Proof.Machine.execFlipArm c tier v s
  | .caParityAlert sl ch => Sys2Proof.Machine.execCaParityAlert sl ch s
  | .hbmTempSample st r => Sys2Proof.Machine.execHbmTempSample st r s
  | .dimmTempSample ch r => Sys2Proof.Machine.execDimmTempSample ch r s
  | .coreTempSample rs => Sys2Proof.Machine.execCoreTempSample rs s
  | .hostMemRead p req hpa mv => Sys2Proof.Machine.execHostMemRead p req hpa mv s
  | .hostMemWrite p req hpa data mask poison => Sys2Proof.Machine.execHostMemWrite p req hpa data mask poison s
  | .fmApiGfdDecoder d v => Sys2Proof.Machine.execFmApiGfdDecoder d v s
  | .partitionActivate c t => Sys2Proof.Machine.execPartitionActivate c t s
  | .partitionStop c t => Sys2Proof.Machine.execPartitionStop c t s
  | .partitionRelease c t => Sys2Proof.Machine.execPartitionRelease c t s
  | .partitionAllocate c t => Sys2Proof.Machine.execPartitionAllocate c t s
  | .partitionWashDone t => Sys2Proof.Machine.execPartitionWashDone t s
  | .copyRequest c desc => Sys2Proof.Machine.execCopyRequest c desc s
  | .copyLinePoison n => Sys2Proof.Machine.execCopyLinePoison n s
  | .copyResume c n => Sys2Proof.Machine.execCopyResume c n s
  | .copySkip c n => Sys2Proof.Machine.execCopySkip c n s
  | .copyAbort c n => Sys2Proof.Machine.execCopyAbort c n s
  | .copyComplete n => Sys2Proof.Machine.execCopyComplete n s
  | .gateWrite c sl e v => Sys2Proof.Machine.execGateWrite c sl e v s
  | .shaperWrite c n v => Sys2Proof.Machine.execShaperWrite c n v s
  | .markerFlit p m => Sys2Proof.Machine.execMarkerFlit p m s
  | .frameLockAcquired => Sys2Proof.Machine.execFrameLockAcquired s
  | .frameLockLost => Sys2Proof.Machine.execFrameLockLost s
  | .frameLockRestored => Sys2Proof.Machine.execFrameLockRestored s
  | .mmaClear v cyc => Sys2Proof.Machine.execMmaClear v cyc s
  | .mmaAcc v cyc => Sys2Proof.Machine.execMmaAcc v cyc s
  | .drain v cyc => Sys2Proof.Machine.execDrain v cyc s
  | .fadd v cyc => Sys2Proof.Machine.execFadd v cyc s
  | .fsub v cyc => Sys2Proof.Machine.execFsub v cyc s
  | .fmul v cyc => Sys2Proof.Machine.execFmul v cyc s
  | .ffma v cyc => Sys2Proof.Machine.execFfma v cyc s
  | .fmin v cyc => Sys2Proof.Machine.execFmin v cyc s
  | .fmax v cyc => Sys2Proof.Machine.execFmax v cyc s
  | .fcmplt v cyc => Sys2Proof.Machine.execFcmplt v cyc s
  | .fcmpeq v cyc => Sys2Proof.Machine.execFcmpeq v cyc s
  | .selectV v cyc => Sys2Proof.Machine.execSelectV v cyc s
  | .iadd v cyc => Sys2Proof.Machine.execIadd v cyc s
  | .isub v cyc => Sys2Proof.Machine.execIsub v cyc s
  | .imul v cyc => Sys2Proof.Machine.execImul v cyc s
  | .andV v cyc => Sys2Proof.Machine.execAndV v cyc s
  | .orV v cyc => Sys2Proof.Machine.execOrV v cyc s
  | .xorV v cyc => Sys2Proof.Machine.execXorV v cyc s
  | .shl v cyc => Sys2Proof.Machine.execShl v cyc s
  | .shr v cyc => Sys2Proof.Machine.execShr v cyc s
  | .mov v cyc => Sys2Proof.Machine.execMov v cyc s
  | .seed v cyc => Sys2Proof.Machine.execSeed v cyc s
  | .bcast v cyc => Sys2Proof.Machine.execBcast v cyc s
  | .exp2 v cyc => Sys2Proof.Machine.execExp2 v cyc s
  | .rmax v cyc => Sys2Proof.Machine.execRmax v cyc s
  | .rmin v cyc => Sys2Proof.Machine.execRmin v cyc s
  | .rsum v cyc => Sys2Proof.Machine.execRsum v cyc s
  | .streamRead v cyc => Sys2Proof.Machine.execStreamRead v cyc s
  | .streamWrite v cyc => Sys2Proof.Machine.execStreamWrite v cyc s
  | .gather v cyc => Sys2Proof.Machine.execGather v cyc s
  | .scatter v cyc => Sys2Proof.Machine.execScatter v cyc s
  | .loopV v cyc => Sys2Proof.Machine.execLoopV v cyc s
  | .endloop v cyc => Sys2Proof.Machine.execEndloop v cyc s
  | .barrier v cyc => Sys2Proof.Machine.execBarrier v cyc s
  | .ringBarrier v cyc => Sys2Proof.Machine.execRingBarrier v cyc s
  | .waitFrame v cyc => Sys2Proof.Machine.execWaitFrame v cyc s
  | .waitLp v cyc => Sys2Proof.Machine.execWaitLp v cyc s
  | .probe v cyc => Sys2Proof.Machine.execProbe v cyc s
  | .step v cyc => Sys2Proof.Machine.execStep v cyc s
  | .endV v cyc => Sys2Proof.Machine.execEndV v cyc s
  | .tileStart v e => Sys2Proof.Machine.execTileStart v e s
  | .tileComplete v e => Sys2Proof.Machine.execTileComplete v e s
  | .vatHang v cyc => Sys2Proof.Machine.execVatHang v cyc s
  | .takeoverDone => Sys2Proof.Machine.execTakeoverDone s
  | .rotationDue => Sys2Proof.Machine.execRotationDue s
  | .rotationWaitExpire => Sys2Proof.Machine.execRotationWaitExpire s
  | .vatWashDone v ns => Sys2Proof.Machine.execVatWashDone v ns s
  | .vatTestSliceDone v pass sig => Sys2Proof.Machine.execVatTestSliceDone v pass sig s
  | .rotationEnableWrite c v => Sys2Proof.Machine.execRotationEnableWrite c v s
  | .contextEnable c => Sys2Proof.Machine.execContextEnable c s
  | .contextDisable c => Sys2Proof.Machine.execContextDisable c s
  | .contextResume c => Sys2Proof.Machine.execContextResume c s
  | .contextAbort c => Sys2Proof.Machine.execContextAbort c s
  | .contextReset c => Sys2Proof.Machine.execContextReset c s
  | .invocationEnd k => Sys2Proof.Machine.execInvocationEnd k s
  | .ringBarrierRelease v cyc => Sys2Proof.Machine.execRingBarrierRelease v cyc s
  | .barrierTimeout k => Sys2Proof.Machine.execBarrierTimeout k s
  | .pinFetchDone k va => Sys2Proof.Machine.execPinFetchDone k va s
  | .atsCompletion k va a => Sys2Proof.Machine.execAtsCompletion k va a s
  | .atsTimeout k va => Sys2Proof.Machine.execAtsTimeout k va s
  | .atsInvalidationRequest p ld q => Sys2Proof.Machine.execAtsInvalidationRequest p ld q s
  | .invalidate c va len => Sys2Proof.Machine.execInvalidate c va len s
  | .rds a line => Sys2Proof.Machine.execRds a line s
  | .rdo a line => Sys2Proof.Machine.execRdo a line s
  | .rdc a line => Sys2Proof.Machine.execRdc a line s
  | .wrf a line data => Sys2Proof.Machine.execWrf a line data s
  | .evict a line data => Sys2Proof.Machine.execEvict a line data s
  | .snoopResponse a line data => Sys2Proof.Machine.execSnoopResponse a line data s
  | .biconflict r line => Sys2Proof.Machine.execBiconflict r line s
  | .holdTimeExpire line => Sys2Proof.Machine.execHoldTimeExpire line s
  | .biTimeout r line => Sys2Proof.Machine.execBiTimeout r line s
  | .requesterGone c r => Sys2Proof.Machine.execRequesterGone c r s
  | .requesterRevive c r => Sys2Proof.Machine.execRequesterRevive c r s
  | .directorySweepDone => Sys2Proof.Machine.execDirectorySweepDone s
  | .directoryUe line => Sys2Proof.Machine.execDirectoryUe line s
  | .cas a t i0 desc => Sys2Proof.Machine.execCas a t i0 desc s
  | .fetchAdd a t i0 desc => Sys2Proof.Machine.execFetchAdd a t i0 desc s
  | .swap a t i0 desc => Sys2Proof.Machine.execSwap a t i0 desc s
  | .fetchAnd a t i0 desc => Sys2Proof.Machine.execFetchAnd a t i0 desc s
  | .fetchOr a t i0 desc => Sys2Proof.Machine.execFetchOr a t i0 desc s
  | .fetchMax a t i0 desc => Sys2Proof.Machine.execFetchMax a t i0 desc s
  | .regionEnable c r => Sys2Proof.Machine.execRegionEnable c r s
  | .regionEnableFresh c r => Sys2Proof.Machine.execRegionEnableFresh c r s
  | .regionDisable c r => Sys2Proof.Machine.execRegionDisable c r s
  | .publishDescriptor who r bank desc => Sys2Proof.Machine.execPublishDescriptor who r bank desc s
  | .migrationRoundDone n => Sys2Proof.Machine.execMigrationRoundDone n s
  | .migrationFinalPassDone n => Sys2Proof.Machine.execMigrationFinalPassDone n s
  | .migrationZeroFillDone n => Sys2Proof.Machine.execMigrationZeroFillDone n s
  | .migrationBackoffExpire extent => Sys2Proof.Machine.execMigrationBackoffExpire extent s
  | .portLinkUp p rate width flit256 => Sys2Proof.Machine.execPortLinkUp p rate width flit256 s
  | .portLinkDown p => Sys2Proof.Machine.execPortLinkDown p s
  | .perstN p low => Sys2Proof.Machine.execPerstN p low s
  | .hotReset p => Sys2Proof.Machine.execHotReset p s
  | .flr f => Sys2Proof.Machine.execFlr f s
  | .cxlReset f => Sys2Proof.Machine.execCxlReset f s
  | .identifyMemoryDevice f => Sys2Proof.Machine.execIdentifyMemoryDevice f s
  | .getSupportedLogs f => Sys2Proof.Machine.execGetSupportedLogs f s
  | .getLog f => Sys2Proof.Machine.execGetLog f s
  | .getHealthInfo f => Sys2Proof.Machine.execGetHealthInfo f s
  | .getPoisonList f => Sys2Proof.Machine.execGetPoisonList f s
  | .clearPoison f dpa data => Sys2Proof.Machine.execClearPoison f dpa data s
  | .unsupportedMailboxCommand f op => Sys2Proof.Machine.execUnsupportedMailboxCommand f op s
  | .doeDiscovery f idx => Sys2Proof.Machine.execDoeDiscovery f idx s
  | .cdatRead f entry => Sys2Proof.Machine.execCdatRead f entry s
  | .ideKm f session key => Sys2Proof.Machine.execIdeKm f session key s
  | .getVersion r => Sys2Proof.Machine.execGetVersion r s
  | .getCapabilities r => Sys2Proof.Machine.execGetCapabilities r s
  | .negotiateAlgorithms r q => Sys2Proof.Machine.execNegotiateAlgorithms r q s
  | .getDigests r => Sys2Proof.Machine.execGetDigests r s
  | .getCertificate r slot => Sys2Proof.Machine.execGetCertificate r slot s
  | .challenge r nonce => Sys2Proof.Machine.execChallenge r nonce s
  | .getMeasurements r index => Sys2Proof.Machine.execGetMeasurements r index s
  | .keyExchange r session => Sys2Proof.Machine.execKeyExchange r session s
  | .finish r session => Sys2Proof.Machine.execFinish r session s
  | .heartbeat r session => Sys2Proof.Machine.execHeartbeat r session s
  | .keyUpdate r session => Sys2Proof.Machine.execKeyUpdate r session s
  | .endSession r session => Sys2Proof.Machine.execEndSession r session s
  | .getCsr r => Sys2Proof.Machine.execGetCsr r s
  | .setCertificate r slot chain => Sys2Proof.Machine.execSetCertificate r slot chain s
  | .glazeKeyInstall f session w key => Sys2Proof.Machine.execGlazeKeyInstall f session w key s
  | .glazeKeyWithdraw f session w => Sys2Proof.Machine.execGlazeKeyWithdraw f session w s
  | .ringKeyInstall r session key => Sys2Proof.Machine.execRingKeyInstall r session key s
  | .glazeWrite w => Sys2Proof.Machine.execGlazeWrite w s
  | .glazeRead w => Sys2Proof.Machine.execGlazeRead w s
  | .glazeOutRoom w => Sys2Proof.Machine.execGlazeOutRoom w s
  | .reqDoorbell w seq => Sys2Proof.Machine.execReqDoorbell w seq s
  | .versionAck w v => Sys2Proof.Machine.execVersionAck w v s
  | .bootGo v => Sys2Proof.Machine.execBootGo v s
  | .firmwareCheckDone => Sys2Proof.Machine.execFirmwareCheckDone s
  | .dataFlit p h packets => Sys2Proof.Machine.execDataFlit p h packets s
  | .idleFlit p h => Sys2Proof.Machine.execIdleFlit p h s
  | .ackCredit p h credits => Sys2Proof.Machine.execAckCredit p h credits s
  | .replayReq p h from_ => Sys2Proof.Machine.execReplayReq p h from_ s
  | .retrainReq p width coord => Sys2Proof.Machine.execRetrainReq p width coord s
  | .initFlit p i0 => Sys2Proof.Machine.execInitFlit p i0 s
  | .ackTimer p => Sys2Proof.Machine.execAckTimer p s
  | .replayReqResend p => Sys2Proof.Machine.execReplayReqResend p s
  | .retrainReqRepeat p => Sys2Proof.Machine.execRetrainReqRepeat p s
  | .creditRefresh p => Sys2Proof.Machine.execCreditRefresh p s
  | .pmdTrainingDone p lanes => Sys2Proof.Machine.execPmdTrainingDone p lanes s
  | .trainingFailed p => Sys2Proof.Machine.execTrainingFailed p s
  | .trainingRetry p => Sys2Proof.Machine.execTrainingRetry p s
  | .alignmentDone p => Sys2Proof.Machine.execAlignmentDone p s
  | .alignmentTimeout p => Sys2Proof.Machine.execAlignmentTimeout p s
  | .linkInitDone p delayPs => Sys2Proof.Machine.execLinkInitDone p delayPs s
  | .lossOfSignal p => Sys2Proof.Machine.execLossOfSignal p s
  | .retrainDone p => Sys2Proof.Machine.execRetrainDone p s
  | .retrainTimeout p => Sys2Proof.Machine.execRetrainTimeout p s
  | .retrain c p => Sys2Proof.Machine.execRetrain c p s
  | .width16 c p => Sys2Proof.Machine.execWidth16 c p s
  | .width8 c p => Sys2Proof.Machine.execWidth8 c p s
  | .width4 c p => Sys2Proof.Machine.execWidth4 c p s
  | .down c p => Sys2Proof.Machine.execDown c p s
  | .up c p => Sys2Proof.Machine.execUp c p s
  | .rd h => Sys2Proof.Machine.execRd h s
  | .rdData h data => Sys2Proof.Machine.execRdData h data s
  | .wr h data => Sys2Proof.Machine.execWr h data s
  | .wrAck h => Sys2Proof.Machine.execWrAck h s
  | .delta h data => Sys2Proof.Machine.execDelta h data s
  | .chunk h data => Sys2Proof.Machine.execChunk h data s
  | .ringBarrierArrival h b => Sys2Proof.Machine.execRingBarrierArrival h b s
  | .notice h b => Sys2Proof.Machine.execNotice h b s
  | .digest h r => Sys2Proof.Machine.execDigest h r s
  | .washDone h payload => Sys2Proof.Machine.execWashDone h payload s
  | .poolRequestTimeout tag => Sys2Proof.Machine.execPoolRequestTimeout tag s
  | .routeTableWrite c tbl v => Sys2Proof.Machine.execRouteTableWrite c tbl v s
  | .activeEpochWrite c v => Sys2Proof.Machine.execActiveEpochWrite c v s
  | .congestionSample p => Sys2Proof.Machine.execCongestionSample p s
  | .congestionMapRead c p => Sys2Proof.Machine.execCongestionMapRead c p s
  | .rebuildStart c lost lost2 => Sys2Proof.Machine.execRebuildStart c lost lost2 s
  | .rebuildAbort c => Sys2Proof.Machine.execRebuildAbort c s
  | .rebuildMapDone => Sys2Proof.Machine.execRebuildMapDone s
  | .rebuildExtentCommit slot => Sys2Proof.Machine.execRebuildExtentCommit slot s
  | .rebuildPoisoningDone n => Sys2Proof.Machine.execRebuildPoisoningDone n s
  | .lcTransition c token => Sys2Proof.Machine.execLcTransition c token s
  | .svnCommit c n => Sys2Proof.Machine.execSvnCommit c n s
  | .entropyRetry ok => Sys2Proof.Machine.execEntropyRetry ok s
  | .debugRequest => Sys2Proof.Machine.execDebugRequest s
  | .odRead c h => Sys2Proof.Machine.execOdRead c h s
  | .odWrite c h data => Sys2Proof.Machine.execOdWrite c h data s
  | .download c h data => Sys2Proof.Machine.execDownload c h data s
  | .downloadGo c h => Sys2Proof.Machine.execDownloadGo c h s
  | .segmentLatchExpire c => Sys2Proof.Machine.execSegmentLatchExpire c s
  | .optionWrite c v => Sys2Proof.Machine.execOptionWrite c v s
  | .optionWriteDone => Sys2Proof.Machine.execOptionWriteDone s
  | .neighborDiscovery target => Sys2Proof.Machine.execNeighborDiscovery target s
  | .icmpv6Echo data => Sys2Proof.Machine.execIcmpv6Echo data s
  | .discoveryReply c h => Sys2Proof.Machine.execDiscoveryReply c h s
  | .entdaa addr => Sys2Proof.Machine.execEntdaa addr s
  | .setdasa static addr => Sys2Proof.Machine.execSetdasa static addr s
  | .complexHeartbeat x => Sys2Proof.Machine.execComplexHeartbeat x s
  | .heartbeatMissed x => Sys2Proof.Machine.execHeartbeatMissed x s
  | .complexPanic x pll => Sys2Proof.Machine.execComplexPanic x pll s
  | .watchdogExpire x => Sys2Proof.Machine.execWatchdogExpire x s
  | .failoverServiceOpen gapNs => Sys2Proof.Machine.execFailoverServiceOpen gapNs s
  | .crashRecordDone x => Sys2Proof.Machine.execCrashRecordDone x s
  | .complexBootDone x => Sys2Proof.Machine.execComplexBootDone x s
  | .complexSynced x => Sys2Proof.Machine.execComplexSynced x s
  | .revertDelayExpire => Sys2Proof.Machine.execRevertDelayExpire s
  | .complexRestart c x => Sys2Proof.Machine.execComplexRestart c x s
  | .switchover c x => Sys2Proof.Machine.execSwitchover c x s
  | .fwLoad c => Sys2Proof.Machine.execFwLoad c s
  | .fwActivate c => Sys2Proof.Machine.execFwActivate c s
  | .fwCancel c => Sys2Proof.Machine.execFwCancel c s
  | .fwStage c data => Sys2Proof.Machine.execFwStage c data s
  | .switchoverDeferralExpire => Sys2Proof.Machine.execSwitchoverDeferralExpire s
  | .busSample r => Sys2Proof.Machine.execBusSample r s
  | .brownOut => Sys2Proof.Machine.execBrownOut s
  | .overvoltage => Sys2Proof.Machine.execOvervoltage s
  | .fastOvercurrent => Sys2Proof.Machine.execFastOvercurrent s
  | .timedOvercurrent => Sys2Proof.Machine.execTimedOvercurrent s
  | .thermalTrip => Sys2Proof.Machine.execThermalTrip s
  | .gateOn => Sys2Proof.Machine.execGateOn s
  | .avsMeasurement targets => Sys2Proof.Machine.execAvsMeasurement targets s
  | .regulatorSettled => Sys2Proof.Machine.execRegulatorSettled s
  | .regulatorSlow us => Sys2Proof.Machine.execRegulatorSlow us s
  | .regulatorTelemetrySample rail mv => Sys2Proof.Machine.execRegulatorTelemetrySample rail mv s
  | .regulatorWarning rail on => Sys2Proof.Machine.execRegulatorWarning rail on s
  | .tachSample i0 rpm => Sys2Proof.Machine.execTachSample i0 rpm s
  | .powerLoopRun dynMw => Sys2Proof.Machine.execPowerLoopRun dynMw s
  | .thermalLoopRun => Sys2Proof.Machine.execThermalLoopRun s
  | .thermalStepLower => Sys2Proof.Machine.execThermalStepLower s
  | .emergencyClear => Sys2Proof.Machine.execEmergencyClear s
  | .emergencyHoldExpire => Sys2Proof.Machine.execEmergencyHoldExpire s
  | .throttleNAssert => Sys2Proof.Machine.execThrottleNAssert s
  | .throttleNRelease => Sys2Proof.Machine.execThrottleNRelease s
  | .powerOnReset => Sys2Proof.Machine.execPowerOnReset s
  | .prstNAssert => Sys2Proof.Machine.execPrstNAssert s
  | .prstNRelease => Sys2Proof.Machine.execPrstNRelease s
  | .resetChip c hold => Sys2Proof.Machine.execResetChip c hold s
  | .resetTenant c t => Sys2Proof.Machine.execResetTenant c t s
  | .resetContext c k => Sys2Proof.Machine.execResetContext c k s
  | .resetVat c v => Sys2Proof.Machine.execResetVat c v s
  | .resetHostPort c p => Sys2Proof.Machine.execResetHostPort c p s
  | .resetPoolLink c p => Sys2Proof.Machine.execResetPoolLink c p s
  | .blockResetRelease b => Sys2Proof.Machine.execBlockResetRelease b s
  | .crossbarDeadlock => Sys2Proof.Machine.execCrossbarDeadlock s
  | .warmEntryDone => Sys2Proof.Machine.execWarmEntryDone s
  | .warmEntryTimeout => Sys2Proof.Machine.execWarmEntryTimeout s
  | .optionsReadDone => Sys2Proof.Machine.execOptionsReadDone s
  | .pllLocked => Sys2Proof.Machine.execPllLocked s
  | .pllLockTimeout => Sys2Proof.Machine.execPllLockTimeout s
  | .hbmTrainingDone r => Sys2Proof.Machine.execHbmTrainingDone r s
  | .ddrTrainingDone r => Sys2Proof.Machine.execDdrTrainingDone r s
  | .hbmFillDone => Sys2Proof.Machine.execHbmFillDone s
  | .verifyDone failing => Sys2Proof.Machine.execVerifyDone failing s
  | .fillDone => Sys2Proof.Machine.execFillDone s
  | .serviceStateLoaded => Sys2Proof.Machine.execServiceStateLoaded s
  | .clockMonitorWindow k ppm => Sys2Proof.Machine.execClockMonitorWindow k ppm s
  | .clockNoEdge k => Sys2Proof.Machine.execClockNoEdge k s
  | .pllLossOfLock k => Sys2Proof.Machine.execPllLossOfLock k s
  | .clockRestored k us => Sys2Proof.Machine.execClockRestored k us s
  | .timeBaseSync sid => Sys2Proof.Machine.execTimeBaseSync sid s
  | .patternDue => Sys2Proof.Machine.execPatternDue s
  | .patternSliceDone sl pass misr => Sys2Proof.Machine.execPatternSliceDone sl pass misr s
  | .testVat c v => Sys2Proof.Machine.execTestVat c v s
  | .testController c sl => Sys2Proof.Machine.execTestController c sl s
  | .testCrossbar c sl => Sys2Proof.Machine.execTestCrossbar c sl s
  | .idcode => Sys2Proof.Machine.execIdcode s
  | .samplePreload pins => Sys2Proof.Machine.execSamplePreload pins s
  | .extest => Sys2Proof.Machine.execExtest s
  | .clamp => Sys2Proof.Machine.execClamp s
  | .highz => Sys2Proof.Machine.execHighz s
  | .privateInstruction code => Sys2Proof.Machine.execPrivateInstruction code s
  | .bypass => Sys2Proof.Machine.execBypass s
  | .lightCountersRead c => Sys2Proof.Machine.execLightCountersRead c s
  | .dumpRequest c n v => Sys2Proof.Machine.execDumpRequest c n v s
  | .aggregationWindowClose i0 => Sys2Proof.Machine.execAggregationWindowClose i0 s
  | .aggregationOverflowEnd => Sys2Proof.Machine.execAggregationOverflowEnd s
  | .digestBatchSend i0 => Sys2Proof.Machine.execDigestBatchSend i0 s
  | .faultLogMove => Sys2Proof.Machine.execFaultLogMove s
  | .faultLogRead c pos => Sys2Proof.Machine.execFaultLogRead c pos s
  | .faultAck c n => Sys2Proof.Machine.execFaultAck c n s
  | .msixCoalesceExpire f => Sys2Proof.Machine.execMsixCoalesceExpire f s
  | .bootApertureWrite off data => Sys2Proof.Machine.execBootApertureWrite off data s
  | .windowRequestWrite w off data => Sys2Proof.Machine.execWindowRequestWrite w off data s
  | .configurationRequest f wr => Sys2Proof.Machine.execConfigurationRequest f wr s
  | .sidPowerUp => Sys2Proof.Machine.execSidPowerUp s
  | .badCrcFlit p fec => Sys2Proof.Machine.execBadCrcFlit p fec s

end Machine
end Sys2Proof
end

