-- ==== Sys2Proof/Laws/Memory.lean ====
section
/-! SUPPORT. Tables and byte memories: reading back what is written, and the canonical form that every memory operation keeps. -/

namespace Sys2Proof
namespace Machine

@[simp] theorem Tab.find_set_same {α : Type} (t : Tab α) (k : Nat) (v : α) : Tab.find? (Tab.set t k v) k = some v := by
  induction t with
  | nil => simp [Tab.set, Tab.find?]
  | cons p t ih =>
    obtain ⟨j, u⟩ := p
    simp only [Tab.set]
    split
    · simp [Tab.find?]
    · split
      · simp [Tab.find?]
      · rename_i h
        simp [Tab.find?, ih, Ne.symm h]

theorem Tab.find_set_other {α : Type} (t : Tab α) {k a : Nat} (v : α) (h : a ≠ k) : Tab.find? (Tab.set t k v) a = Tab.find? t a := by
  induction t with
  | nil => simp [Tab.set, Tab.find?, Ne.symm h]
  | cons p t ih =>
    obtain ⟨j, u⟩ := p
    simp only [Tab.set]
    split
    · simp [Tab.find?, Ne.symm h]
    · split
      · rename_i e
        subst e
        simp [Tab.find?, Ne.symm h]
      · simp [Tab.find?, ih]

@[simp] theorem Tab.find_erase_same {α : Type} (t : Tab α) (k : Nat) : Tab.find? (Tab.erase t k) k = none := by
  induction t with
  | nil => rfl
  | cons p t ih =>
    obtain ⟨j, u⟩ := p
    simp only [Tab.erase]
    split <;> simp_all [Tab.find?]

theorem Tab.find_erase_other {α : Type} (t : Tab α) {k a : Nat} (h : a ≠ k) : Tab.find? (Tab.erase t k) a = Tab.find? t a := by
  induction t with
  | nil => rfl
  | cons p t ih =>
    obtain ⟨j, u⟩ := p
    simp only [Tab.erase]
    split
    · rename_i e
      subst e
      simp [Tab.find?, ih, Ne.symm h]
    · simp [Tab.find?, ih]

@[simp] theorem Tab.get_set_same {α : Type} (t : Tab α) (k : Nat) (v d : α) : Tab.get (Tab.set t k v) k d = v := by
  simp [Tab.get]

theorem Tab.get_set_other {α : Type} (t : Tab α) {k a : Nat} (v d : α) (h : a ≠ k) : Tab.get (Tab.set t k v) a d = Tab.get t a d := by
  simp [Tab.get, Tab.find_set_other t v h]

@[simp] theorem Mem.get_set_same (m : List Host.Cell) (a : Nat) (b : BitVec 8) : Mem.get (Mem.set m a b) a = b := by
  unfold Mem.get Mem.set
  split
  · simp_all [Tab.get]
  · simp

theorem Mem.get_set_other (m : List Host.Cell) {a x : Nat} (b : BitVec 8) (h : x ≠ a) : Mem.get (Mem.set m a b) x = Mem.get m x := by
  unfold Mem.get Mem.set
  split
  · simp [Tab.get, Tab.find_erase_other m h]
  · exact Tab.get_set_other m b 0 h

theorem Mem.get_write_outside (m : List Host.Cell) (a x : Nat) (bs : List (BitVec 8)) (h : x < a ∨ a + bs.length ≤ x) :
    Mem.get (Mem.write m a bs) x = Mem.get m x := by
  induction bs generalizing m a with
  | nil => rfl
  | cons b bs ih =>
    simp only [List.length_cons] at h
    rw [Mem.write, ih _ _ (by omega), Mem.get_set_other m b (by omega)]

theorem Mem.get_write_inside (m : List Host.Cell) (a i : Nat) (bs : List (BitVec 8)) (h : i < bs.length) :
    Mem.get (Mem.write m a bs) (a + i) = bs[i] := by
  induction bs generalizing m a i with
  | nil => simp at h
  | cons b bs ih =>
    rw [Mem.write]
    cases i with
    | zero => rw [Mem.get_write_outside _ _ _ _ (by omega)]; simp
    | succ i =>
      have := ih (Mem.set m a b) (a + 1) i (by simpa using h)
      rw [show a + (i + 1) = a + 1 + i by omega, this]
      simp

theorem Mem.get_zero (m : List Host.Cell) (a n x : Nat) :
    Mem.get (Mem.zero m a n) x = if a ≤ x ∧ x < a + n then 0 else Mem.get m x := by
  unfold Mem.zero
  induction m with
  | nil => simp [Mem.get, Tab.get, Tab.find?]
  | cons c m ih =>
    obtain ⟨j, b⟩ := c
    simp only [Mem.get, Tab.get] at ih ⊢
    by_cases hj : a ≤ j ∧ j < a + n
    · rw [List.filter_cons_of_neg (by simp; omega)]
      by_cases hx : j = x
      · subst hx
        rw [ih, if_pos hj, if_pos hj]
      · rw [ih]
        simp [Tab.find?, hx]
    · rw [List.filter_cons_of_pos (by simp; omega)]
      by_cases hx : j = x
      · subst hx
        simp [Tab.find?, hj]
      · simp only [Tab.find?, hx, if_false]
        exact ih

theorem Mem.wf_iff (m : List Host.Cell) :
    Mem.wf m = true ↔ List.Pairwise (fun (a b : Host.Cell) => a.1 < b.1) m ∧ ∀ c ∈ m, c.2 ≠ 0 := by
  induction m with
  | nil => simp [Mem.wf]
  | cons c m ih =>
    obtain ⟨a, b⟩ := c
    cases m with
    | nil => simp [Mem.wf]
    | cons d t =>
      obtain ⟨d, e⟩ := d
      simp only [Mem.wf, Bool.and_eq_true, ih, List.pairwise_cons, List.mem_cons, forall_eq_or_imp, decide_eq_true_eq, bne_iff_ne]
      constructor
      · rintro ⟨⟨h1, h2⟩, ⟨h3, h4⟩, h5, h6⟩
        exact ⟨⟨⟨h1, fun c hc => lt_trans h1 (h3 c hc)⟩, h3, h4⟩, h2, h5, h6⟩
      · rintro ⟨⟨⟨h1, -⟩, h3, h4⟩, h2, h5, h6⟩
        exact ⟨⟨h1, h2⟩, ⟨h3, h4⟩, h5, h6⟩

theorem Tab.mem_set {α : Type} (t : Tab α) (k : Nat) (v : α) (c) (h : c ∈ Tab.set t k v) : c = (k, v) ∨ c ∈ t := by
  induction t with
  | nil => simpa [Tab.set] using h
  | cons p t ih =>
    obtain ⟨j, u⟩ := p
    simp only [Tab.set] at h
    split at h
    · simp_all
    · split at h
      · simp_all; tauto
      · simp only [List.mem_cons] at h ⊢
        rcases h with h | h
        · exact .inr (.inl h)
        · rcases ih h with h | h
          · exact .inl h
          · exact .inr (.inr h)

theorem Tab.set_sorted {α : Type} (t : Tab α) (k : Nat) (v : α) (h : List.Pairwise (fun (a b : Nat × α) => a.1 < b.1) t) :
    List.Pairwise (fun (a b : Nat × α) => a.1 < b.1) (Tab.set t k v) := by
  induction t with
  | nil => simp [Tab.set]
  | cons p t ih =>
    obtain ⟨j, u⟩ := p
    simp only [List.pairwise_cons] at h
    simp only [Tab.set]
    split
    · rename_i hk
      simp only [List.pairwise_cons, List.mem_cons, forall_eq_or_imp]
      exact ⟨⟨hk, fun c hc => lt_trans hk (h.1 c hc)⟩, h.1, h.2⟩
    · split
      · rename_i hk; subst hk
        simp only [List.pairwise_cons]; exact h
      · simp only [List.pairwise_cons]
        refine ⟨fun c hc => ?_, ih h.2⟩
        rcases Tab.mem_set t k v c hc with rfl | hc
        · simp only; omega
        · exact h.1 c hc

theorem Tab.erase_eq {α : Type} (t : Tab α) (k : Nat) : Tab.erase t k = t.filter (fun p => p.1 ≠ k) := by
  induction t with
  | nil => rfl
  | cons p t ih =>
    obtain ⟨j, u⟩ := p
    simp only [Tab.erase, List.filter_cons, ih]
    split <;> simp_all

theorem Mem.filter_canon (m : List Host.Cell) (q : Host.Cell → Bool) (h : Mem.wf m = true) : Mem.wf (m.filter q) = true := by
  rw [Mem.wf_iff] at *
  exact ⟨h.1.filter q, fun c hc => h.2 c (List.mem_of_mem_filter hc)⟩

@[simp] theorem Mem.zero_canon (m : List Host.Cell) (a n : Nat) (h : Mem.wf m = true) : Mem.wf (Mem.zero m a n) = true :=
  Mem.filter_canon m _ h

@[simp] theorem Mem.set_canon (m : List Host.Cell) (a : Nat) (b : BitVec 8) (h : Mem.wf m = true) : Mem.wf (Mem.set m a b) = true := by
  unfold Mem.set
  split
  · rw [Tab.erase_eq]; exact Mem.filter_canon m _ h
  · rename_i hb
    rw [Mem.wf_iff] at *
    refine ⟨Tab.set_sorted m a b h.1, fun c hc => ?_⟩
    rcases Tab.mem_set m a b c hc with rfl | hc
    · exact hb
    · exact h.2 c hc

@[simp] theorem Mem.write_canon (m : List Host.Cell) (a : Nat) (bs : List (BitVec 8)) (h : Mem.wf m = true) :
    Mem.wf (Mem.write m a bs) = true := by
  induction bs generalizing m a with
  | nil => exact h
  | cons b bs ih => exact ih _ _ (Mem.set_canon m a b h)

@[simp] theorem Mem.writeMask_canon (m : List Host.Cell) (a : Nat) (bs : List (BitVec 8)) (k : Nat) (h : Mem.wf m = true) :
    Mem.wf (Mem.writeMask m a bs k) = true := by
  induction bs generalizing m a k with
  | nil => exact h
  | cons b bs ih =>
    refine ih _ _ _ ?_
    split
    · exact Mem.set_canon m a b h
    · exact h

@[simp] theorem Mem.ite_canon (c : Prop) [Decidable c] (m n : List Host.Cell) :
    Mem.wf (if c then m else n) = if c then Mem.wf m else Mem.wf n := by
  split <;> rfl

end Machine
end Sys2Proof
end

