-- ==== Sys2Proof/Laws/State.lean ====
section
/-! SUPPORT. What each named update of the state leaves as it was, one lemma for each field, and what it changes. -/

namespace Sys2Proof
namespace Machine

/-! `modVat` changes `vat` alone. -/

@[simp] theorem State.modVat_pending (s : State) (v : Nat) (f : Vat → Vat) : (s.modVat v f).pending = s.pending := rfl
@[simp] theorem State.modVat_od (s : State) (v : Nat) (f : Vat → Vat) : (s.modVat v f).od = s.od := rfl
@[simp] theorem State.modVat_flt (s : State) (v : Nat) (f : Vat → Vat) : (s.modVat v f).flt = s.flt := rfl
@[simp] theorem State.modVat_cal (s : State) (v : Nat) (f : Vat → Vat) : (s.modVat v f).cal = s.cal := rfl
@[simp] theorem State.modVat_med (s : State) (v : Nat) (f : Vat → Vat) : (s.modVat v f).med = s.med := (rfl)
@[simp] theorem State.modVat_ctxs (s : State) (v : Nat) (f : Vat → Vat) : (s.modVat v f).ctxs = s.ctxs := rfl
@[simp] theorem State.modVat_tlb (s : State) (v : Nat) (f : Vat → Vat) : (s.modVat v f).tlb = s.tlb := rfl
@[simp] theorem State.modVat_coh (s : State) (v : Nat) (f : Vat → Vat) : (s.modVat v f).coh = s.coh := rfl
@[simp] theorem State.modVat_reg (s : State) (v : Nat) (f : Vat → Vat) : (s.modVat v f).reg = s.reg := rfl
@[simp] theorem State.modVat_tenants (s : State) (v : Nat) (f : Vat → Vat) : (s.modVat v f).tenants = s.tenants := rfl
@[simp] theorem State.modVat_host (s : State) (v : Nat) (f : Vat → Vat) : (s.modVat v f).host = s.host := rfl
@[simp] theorem State.modVat_pool (s : State) (v : Nat) (f : Vat → Vat) : (s.modVat v f).pool = s.pool := rfl
@[simp] theorem State.modVat_sec (s : State) (v : Nat) (f : Vat → Vat) : (s.modVat v f).sec = s.sec := rfl
@[simp] theorem State.modVat_clients (s : State) (v : Nat) (f : Vat → Vat) : (s.modVat v f).clients = s.clients := rfl
@[simp] theorem State.modVat_opt (s : State) (v : Nat) (f : Vat → Vat) : (s.modVat v f).opt = s.opt := rfl
@[simp] theorem State.modVat_cx (s : State) (v : Nat) (f : Vat → Vat) : (s.modVat v f).cx = s.cx := rfl
@[simp] theorem State.modVat_pwr (s : State) (v : Nat) (f : Vat → Vat) : (s.modVat v f).pwr = s.pwr := rfl
@[simp] theorem State.modVat_rst (s : State) (v : Nat) (f : Vat → Vat) : (s.modVat v f).rst = s.rst := rfl
@[simp] theorem State.modVat_clk (s : State) (v : Nat) (f : Vat → Vat) : (s.modVat v f).clk = s.clk := rfl
@[simp] theorem State.modVat_tst (s : State) (v : Nat) (f : Vat → Vat) : (s.modVat v f).tst = s.tst := rfl
@[simp] theorem State.modVat_i3c (s : State) (v : Nat) (f : Vat → Vat) : (s.modVat v f).i3c = s.i3c := rfl
@[simp] theorem State.modVat_out (s : State) (v : Nat) (f : Vat → Vat) : (s.modVat v f).out = s.out := rfl
@[simp] theorem State.modVat_fresh (s : State) (v : Nat) (f : Vat → Vat) : (s.modVat v f).fresh = s.fresh := rfl
@[simp] theorem State.modVat_h64 (s : State) (v : Nat) (f : Vat → Vat) : (s.modVat v f).h64 = s.h64 := rfl

/-! `modSlice` changes `cal` alone. -/

@[simp] theorem State.modSlice_pending (s : State) (k : Nat) (f : Slice → Slice) : (s.modSlice k f).pending = s.pending := rfl
@[simp] theorem State.modSlice_od (s : State) (k : Nat) (f : Slice → Slice) : (s.modSlice k f).od = s.od := rfl
@[simp] theorem State.modSlice_flt (s : State) (k : Nat) (f : Slice → Slice) : (s.modSlice k f).flt = s.flt := rfl
@[simp] theorem State.modSlice_med (s : State) (k : Nat) (f : Slice → Slice) : (s.modSlice k f).med = s.med := (rfl)
@[simp] theorem State.modSlice_vat (s : State) (k : Nat) (f : Slice → Slice) : (s.modSlice k f).vat = s.vat := rfl
@[simp] theorem State.modSlice_ctxs (s : State) (k : Nat) (f : Slice → Slice) : (s.modSlice k f).ctxs = s.ctxs := rfl
@[simp] theorem State.modSlice_tlb (s : State) (k : Nat) (f : Slice → Slice) : (s.modSlice k f).tlb = s.tlb := rfl
@[simp] theorem State.modSlice_coh (s : State) (k : Nat) (f : Slice → Slice) : (s.modSlice k f).coh = s.coh := rfl
@[simp] theorem State.modSlice_reg (s : State) (k : Nat) (f : Slice → Slice) : (s.modSlice k f).reg = s.reg := rfl
@[simp] theorem State.modSlice_tenants (s : State) (k : Nat) (f : Slice → Slice) : (s.modSlice k f).tenants = s.tenants := rfl
@[simp] theorem State.modSlice_host (s : State) (k : Nat) (f : Slice → Slice) : (s.modSlice k f).host = s.host := rfl
@[simp] theorem State.modSlice_pool (s : State) (k : Nat) (f : Slice → Slice) : (s.modSlice k f).pool = s.pool := rfl
@[simp] theorem State.modSlice_sec (s : State) (k : Nat) (f : Slice → Slice) : (s.modSlice k f).sec = s.sec := rfl
@[simp] theorem State.modSlice_clients (s : State) (k : Nat) (f : Slice → Slice) : (s.modSlice k f).clients = s.clients := rfl
@[simp] theorem State.modSlice_opt (s : State) (k : Nat) (f : Slice → Slice) : (s.modSlice k f).opt = s.opt := rfl
@[simp] theorem State.modSlice_cx (s : State) (k : Nat) (f : Slice → Slice) : (s.modSlice k f).cx = s.cx := rfl
@[simp] theorem State.modSlice_pwr (s : State) (k : Nat) (f : Slice → Slice) : (s.modSlice k f).pwr = s.pwr := rfl
@[simp] theorem State.modSlice_rst (s : State) (k : Nat) (f : Slice → Slice) : (s.modSlice k f).rst = s.rst := rfl
@[simp] theorem State.modSlice_clk (s : State) (k : Nat) (f : Slice → Slice) : (s.modSlice k f).clk = s.clk := rfl
@[simp] theorem State.modSlice_tst (s : State) (k : Nat) (f : Slice → Slice) : (s.modSlice k f).tst = s.tst := rfl
@[simp] theorem State.modSlice_i3c (s : State) (k : Nat) (f : Slice → Slice) : (s.modSlice k f).i3c = s.i3c := rfl
@[simp] theorem State.modSlice_out (s : State) (k : Nat) (f : Slice → Slice) : (s.modSlice k f).out = s.out := rfl
@[simp] theorem State.modSlice_fresh (s : State) (k : Nat) (f : Slice → Slice) : (s.modSlice k f).fresh = s.fresh := rfl
@[simp] theorem State.modSlice_h64 (s : State) (k : Nat) (f : Slice → Slice) : (s.modSlice k f).h64 = s.h64 := rfl

/-! `modCtx` changes `ctxs` alone. -/

@[simp] theorem State.modCtx_pending (s : State) (k : Nat) (f : Ctx → Ctx) : (s.modCtx k f).pending = s.pending := rfl
@[simp] theorem State.modCtx_od (s : State) (k : Nat) (f : Ctx → Ctx) : (s.modCtx k f).od = s.od := rfl
@[simp] theorem State.modCtx_flt (s : State) (k : Nat) (f : Ctx → Ctx) : (s.modCtx k f).flt = s.flt := rfl
@[simp] theorem State.modCtx_cal (s : State) (k : Nat) (f : Ctx → Ctx) : (s.modCtx k f).cal = s.cal := rfl
@[simp] theorem State.modCtx_med (s : State) (k : Nat) (f : Ctx → Ctx) : (s.modCtx k f).med = s.med := (rfl)
@[simp] theorem State.modCtx_vat (s : State) (k : Nat) (f : Ctx → Ctx) : (s.modCtx k f).vat = s.vat := rfl
@[simp] theorem State.modCtx_tlb (s : State) (k : Nat) (f : Ctx → Ctx) : (s.modCtx k f).tlb = s.tlb := rfl
@[simp] theorem State.modCtx_coh (s : State) (k : Nat) (f : Ctx → Ctx) : (s.modCtx k f).coh = s.coh := rfl
@[simp] theorem State.modCtx_reg (s : State) (k : Nat) (f : Ctx → Ctx) : (s.modCtx k f).reg = s.reg := rfl
@[simp] theorem State.modCtx_tenants (s : State) (k : Nat) (f : Ctx → Ctx) : (s.modCtx k f).tenants = s.tenants := rfl
@[simp] theorem State.modCtx_host (s : State) (k : Nat) (f : Ctx → Ctx) : (s.modCtx k f).host = s.host := rfl
@[simp] theorem State.modCtx_pool (s : State) (k : Nat) (f : Ctx → Ctx) : (s.modCtx k f).pool = s.pool := rfl
@[simp] theorem State.modCtx_sec (s : State) (k : Nat) (f : Ctx → Ctx) : (s.modCtx k f).sec = s.sec := rfl
@[simp] theorem State.modCtx_clients (s : State) (k : Nat) (f : Ctx → Ctx) : (s.modCtx k f).clients = s.clients := rfl
@[simp] theorem State.modCtx_opt (s : State) (k : Nat) (f : Ctx → Ctx) : (s.modCtx k f).opt = s.opt := rfl
@[simp] theorem State.modCtx_cx (s : State) (k : Nat) (f : Ctx → Ctx) : (s.modCtx k f).cx = s.cx := rfl
@[simp] theorem State.modCtx_pwr (s : State) (k : Nat) (f : Ctx → Ctx) : (s.modCtx k f).pwr = s.pwr := rfl
@[simp] theorem State.modCtx_rst (s : State) (k : Nat) (f : Ctx → Ctx) : (s.modCtx k f).rst = s.rst := rfl
@[simp] theorem State.modCtx_clk (s : State) (k : Nat) (f : Ctx → Ctx) : (s.modCtx k f).clk = s.clk := rfl
@[simp] theorem State.modCtx_tst (s : State) (k : Nat) (f : Ctx → Ctx) : (s.modCtx k f).tst = s.tst := rfl
@[simp] theorem State.modCtx_i3c (s : State) (k : Nat) (f : Ctx → Ctx) : (s.modCtx k f).i3c = s.i3c := rfl
@[simp] theorem State.modCtx_out (s : State) (k : Nat) (f : Ctx → Ctx) : (s.modCtx k f).out = s.out := rfl
@[simp] theorem State.modCtx_fresh (s : State) (k : Nat) (f : Ctx → Ctx) : (s.modCtx k f).fresh = s.fresh := rfl
@[simp] theorem State.modCtx_h64 (s : State) (k : Nat) (f : Ctx → Ctx) : (s.modCtx k f).h64 = s.h64 := rfl

/-! `modTenant` changes `tenants` alone. -/

@[simp] theorem State.modTenant_pending (s : State) (t : Nat) (f : Tenant → Tenant) : (s.modTenant t f).pending = s.pending := rfl
@[simp] theorem State.modTenant_od (s : State) (t : Nat) (f : Tenant → Tenant) : (s.modTenant t f).od = s.od := rfl
@[simp] theorem State.modTenant_flt (s : State) (t : Nat) (f : Tenant → Tenant) : (s.modTenant t f).flt = s.flt := rfl
@[simp] theorem State.modTenant_cal (s : State) (t : Nat) (f : Tenant → Tenant) : (s.modTenant t f).cal = s.cal := rfl
@[simp] theorem State.modTenant_med (s : State) (t : Nat) (f : Tenant → Tenant) : (s.modTenant t f).med = s.med := (rfl)
@[simp] theorem State.modTenant_vat (s : State) (t : Nat) (f : Tenant → Tenant) : (s.modTenant t f).vat = s.vat := rfl
@[simp] theorem State.modTenant_ctxs (s : State) (t : Nat) (f : Tenant → Tenant) : (s.modTenant t f).ctxs = s.ctxs := rfl
@[simp] theorem State.modTenant_tlb (s : State) (t : Nat) (f : Tenant → Tenant) : (s.modTenant t f).tlb = s.tlb := rfl
@[simp] theorem State.modTenant_coh (s : State) (t : Nat) (f : Tenant → Tenant) : (s.modTenant t f).coh = s.coh := rfl
@[simp] theorem State.modTenant_reg (s : State) (t : Nat) (f : Tenant → Tenant) : (s.modTenant t f).reg = s.reg := rfl
@[simp] theorem State.modTenant_host (s : State) (t : Nat) (f : Tenant → Tenant) : (s.modTenant t f).host = s.host := rfl
@[simp] theorem State.modTenant_pool (s : State) (t : Nat) (f : Tenant → Tenant) : (s.modTenant t f).pool = s.pool := rfl
@[simp] theorem State.modTenant_sec (s : State) (t : Nat) (f : Tenant → Tenant) : (s.modTenant t f).sec = s.sec := rfl
@[simp] theorem State.modTenant_clients (s : State) (t : Nat) (f : Tenant → Tenant) : (s.modTenant t f).clients = s.clients := rfl
@[simp] theorem State.modTenant_opt (s : State) (t : Nat) (f : Tenant → Tenant) : (s.modTenant t f).opt = s.opt := rfl
@[simp] theorem State.modTenant_cx (s : State) (t : Nat) (f : Tenant → Tenant) : (s.modTenant t f).cx = s.cx := rfl
@[simp] theorem State.modTenant_pwr (s : State) (t : Nat) (f : Tenant → Tenant) : (s.modTenant t f).pwr = s.pwr := rfl
@[simp] theorem State.modTenant_rst (s : State) (t : Nat) (f : Tenant → Tenant) : (s.modTenant t f).rst = s.rst := rfl
@[simp] theorem State.modTenant_clk (s : State) (t : Nat) (f : Tenant → Tenant) : (s.modTenant t f).clk = s.clk := rfl
@[simp] theorem State.modTenant_tst (s : State) (t : Nat) (f : Tenant → Tenant) : (s.modTenant t f).tst = s.tst := rfl
@[simp] theorem State.modTenant_i3c (s : State) (t : Nat) (f : Tenant → Tenant) : (s.modTenant t f).i3c = s.i3c := rfl
@[simp] theorem State.modTenant_out (s : State) (t : Nat) (f : Tenant → Tenant) : (s.modTenant t f).out = s.out := rfl
@[simp] theorem State.modTenant_fresh (s : State) (t : Nat) (f : Tenant → Tenant) : (s.modTenant t f).fresh = s.fresh := rfl
@[simp] theorem State.modTenant_h64 (s : State) (t : Nat) (f : Tenant → Tenant) : (s.modTenant t f).h64 = s.h64 := rfl

/-! `modPort` changes `host` alone. -/

@[simp] theorem State.modPort_pending (s : State) (p : Nat) (f : Port → Port) : (s.modPort p f).pending = s.pending := rfl
@[simp] theorem State.modPort_od (s : State) (p : Nat) (f : Port → Port) : (s.modPort p f).od = s.od := rfl
@[simp] theorem State.modPort_flt (s : State) (p : Nat) (f : Port → Port) : (s.modPort p f).flt = s.flt := rfl
@[simp] theorem State.modPort_cal (s : State) (p : Nat) (f : Port → Port) : (s.modPort p f).cal = s.cal := rfl
@[simp] theorem State.modPort_med (s : State) (p : Nat) (f : Port → Port) : (s.modPort p f).med = s.med := (rfl)
@[simp] theorem State.modPort_vat (s : State) (p : Nat) (f : Port → Port) : (s.modPort p f).vat = s.vat := rfl
@[simp] theorem State.modPort_ctxs (s : State) (p : Nat) (f : Port → Port) : (s.modPort p f).ctxs = s.ctxs := rfl
@[simp] theorem State.modPort_tlb (s : State) (p : Nat) (f : Port → Port) : (s.modPort p f).tlb = s.tlb := rfl
@[simp] theorem State.modPort_coh (s : State) (p : Nat) (f : Port → Port) : (s.modPort p f).coh = s.coh := rfl
@[simp] theorem State.modPort_reg (s : State) (p : Nat) (f : Port → Port) : (s.modPort p f).reg = s.reg := rfl
@[simp] theorem State.modPort_tenants (s : State) (p : Nat) (f : Port → Port) : (s.modPort p f).tenants = s.tenants := rfl
@[simp] theorem State.modPort_pool (s : State) (p : Nat) (f : Port → Port) : (s.modPort p f).pool = s.pool := rfl
@[simp] theorem State.modPort_sec (s : State) (p : Nat) (f : Port → Port) : (s.modPort p f).sec = s.sec := rfl
@[simp] theorem State.modPort_clients (s : State) (p : Nat) (f : Port → Port) : (s.modPort p f).clients = s.clients := rfl
@[simp] theorem State.modPort_opt (s : State) (p : Nat) (f : Port → Port) : (s.modPort p f).opt = s.opt := rfl
@[simp] theorem State.modPort_cx (s : State) (p : Nat) (f : Port → Port) : (s.modPort p f).cx = s.cx := rfl
@[simp] theorem State.modPort_pwr (s : State) (p : Nat) (f : Port → Port) : (s.modPort p f).pwr = s.pwr := rfl
@[simp] theorem State.modPort_rst (s : State) (p : Nat) (f : Port → Port) : (s.modPort p f).rst = s.rst := rfl
@[simp] theorem State.modPort_clk (s : State) (p : Nat) (f : Port → Port) : (s.modPort p f).clk = s.clk := rfl
@[simp] theorem State.modPort_tst (s : State) (p : Nat) (f : Port → Port) : (s.modPort p f).tst = s.tst := rfl
@[simp] theorem State.modPort_i3c (s : State) (p : Nat) (f : Port → Port) : (s.modPort p f).i3c = s.i3c := rfl
@[simp] theorem State.modPort_out (s : State) (p : Nat) (f : Port → Port) : (s.modPort p f).out = s.out := rfl
@[simp] theorem State.modPort_fresh (s : State) (p : Nat) (f : Port → Port) : (s.modPort p f).fresh = s.fresh := rfl
@[simp] theorem State.modPort_h64 (s : State) (p : Nat) (f : Port → Port) : (s.modPort p f).h64 = s.h64 := rfl

/-! `modFunc` changes `host` alone. -/

@[simp] theorem State.modFunc_pending (s : State) (k : Nat) (f : Func → Func) : (s.modFunc k f).pending = s.pending := rfl
@[simp] theorem State.modFunc_od (s : State) (k : Nat) (f : Func → Func) : (s.modFunc k f).od = s.od := rfl
@[simp] theorem State.modFunc_flt (s : State) (k : Nat) (f : Func → Func) : (s.modFunc k f).flt = s.flt := rfl
@[simp] theorem State.modFunc_cal (s : State) (k : Nat) (f : Func → Func) : (s.modFunc k f).cal = s.cal := rfl
@[simp] theorem State.modFunc_med (s : State) (k : Nat) (f : Func → Func) : (s.modFunc k f).med = s.med := (rfl)
@[simp] theorem State.modFunc_vat (s : State) (k : Nat) (f : Func → Func) : (s.modFunc k f).vat = s.vat := rfl
@[simp] theorem State.modFunc_ctxs (s : State) (k : Nat) (f : Func → Func) : (s.modFunc k f).ctxs = s.ctxs := rfl
@[simp] theorem State.modFunc_tlb (s : State) (k : Nat) (f : Func → Func) : (s.modFunc k f).tlb = s.tlb := rfl
@[simp] theorem State.modFunc_coh (s : State) (k : Nat) (f : Func → Func) : (s.modFunc k f).coh = s.coh := rfl
@[simp] theorem State.modFunc_reg (s : State) (k : Nat) (f : Func → Func) : (s.modFunc k f).reg = s.reg := rfl
@[simp] theorem State.modFunc_tenants (s : State) (k : Nat) (f : Func → Func) : (s.modFunc k f).tenants = s.tenants := rfl
@[simp] theorem State.modFunc_pool (s : State) (k : Nat) (f : Func → Func) : (s.modFunc k f).pool = s.pool := rfl
@[simp] theorem State.modFunc_sec (s : State) (k : Nat) (f : Func → Func) : (s.modFunc k f).sec = s.sec := rfl
@[simp] theorem State.modFunc_clients (s : State) (k : Nat) (f : Func → Func) : (s.modFunc k f).clients = s.clients := rfl
@[simp] theorem State.modFunc_opt (s : State) (k : Nat) (f : Func → Func) : (s.modFunc k f).opt = s.opt := rfl
@[simp] theorem State.modFunc_cx (s : State) (k : Nat) (f : Func → Func) : (s.modFunc k f).cx = s.cx := rfl
@[simp] theorem State.modFunc_pwr (s : State) (k : Nat) (f : Func → Func) : (s.modFunc k f).pwr = s.pwr := rfl
@[simp] theorem State.modFunc_rst (s : State) (k : Nat) (f : Func → Func) : (s.modFunc k f).rst = s.rst := rfl
@[simp] theorem State.modFunc_clk (s : State) (k : Nat) (f : Func → Func) : (s.modFunc k f).clk = s.clk := rfl
@[simp] theorem State.modFunc_tst (s : State) (k : Nat) (f : Func → Func) : (s.modFunc k f).tst = s.tst := rfl
@[simp] theorem State.modFunc_i3c (s : State) (k : Nat) (f : Func → Func) : (s.modFunc k f).i3c = s.i3c := rfl
@[simp] theorem State.modFunc_out (s : State) (k : Nat) (f : Func → Func) : (s.modFunc k f).out = s.out := rfl
@[simp] theorem State.modFunc_fresh (s : State) (k : Nat) (f : Func → Func) : (s.modFunc k f).fresh = s.fresh := rfl
@[simp] theorem State.modFunc_h64 (s : State) (k : Nat) (f : Func → Func) : (s.modFunc k f).h64 = s.h64 := rfl

/-! `modWindow` changes `host` alone. -/

@[simp] theorem State.modWindow_pending (s : State) (w : Nat) (f : Window → Window) : (s.modWindow w f).pending = s.pending := rfl
@[simp] theorem State.modWindow_od (s : State) (w : Nat) (f : Window → Window) : (s.modWindow w f).od = s.od := rfl
@[simp] theorem State.modWindow_flt (s : State) (w : Nat) (f : Window → Window) : (s.modWindow w f).flt = s.flt := rfl
@[simp] theorem State.modWindow_cal (s : State) (w : Nat) (f : Window → Window) : (s.modWindow w f).cal = s.cal := rfl
@[simp] theorem State.modWindow_med (s : State) (w : Nat) (f : Window → Window) : (s.modWindow w f).med = s.med := (rfl)
@[simp] theorem State.modWindow_vat (s : State) (w : Nat) (f : Window → Window) : (s.modWindow w f).vat = s.vat := rfl
@[simp] theorem State.modWindow_ctxs (s : State) (w : Nat) (f : Window → Window) : (s.modWindow w f).ctxs = s.ctxs := rfl
@[simp] theorem State.modWindow_tlb (s : State) (w : Nat) (f : Window → Window) : (s.modWindow w f).tlb = s.tlb := rfl
@[simp] theorem State.modWindow_coh (s : State) (w : Nat) (f : Window → Window) : (s.modWindow w f).coh = s.coh := rfl
@[simp] theorem State.modWindow_reg (s : State) (w : Nat) (f : Window → Window) : (s.modWindow w f).reg = s.reg := rfl
@[simp] theorem State.modWindow_tenants (s : State) (w : Nat) (f : Window → Window) : (s.modWindow w f).tenants = s.tenants := rfl
@[simp] theorem State.modWindow_pool (s : State) (w : Nat) (f : Window → Window) : (s.modWindow w f).pool = s.pool := rfl
@[simp] theorem State.modWindow_sec (s : State) (w : Nat) (f : Window → Window) : (s.modWindow w f).sec = s.sec := rfl
@[simp] theorem State.modWindow_clients (s : State) (w : Nat) (f : Window → Window) : (s.modWindow w f).clients = s.clients := rfl
@[simp] theorem State.modWindow_opt (s : State) (w : Nat) (f : Window → Window) : (s.modWindow w f).opt = s.opt := rfl
@[simp] theorem State.modWindow_cx (s : State) (w : Nat) (f : Window → Window) : (s.modWindow w f).cx = s.cx := rfl
@[simp] theorem State.modWindow_pwr (s : State) (w : Nat) (f : Window → Window) : (s.modWindow w f).pwr = s.pwr := rfl
@[simp] theorem State.modWindow_rst (s : State) (w : Nat) (f : Window → Window) : (s.modWindow w f).rst = s.rst := rfl
@[simp] theorem State.modWindow_clk (s : State) (w : Nat) (f : Window → Window) : (s.modWindow w f).clk = s.clk := rfl
@[simp] theorem State.modWindow_tst (s : State) (w : Nat) (f : Window → Window) : (s.modWindow w f).tst = s.tst := rfl
@[simp] theorem State.modWindow_i3c (s : State) (w : Nat) (f : Window → Window) : (s.modWindow w f).i3c = s.i3c := rfl
@[simp] theorem State.modWindow_out (s : State) (w : Nat) (f : Window → Window) : (s.modWindow w f).out = s.out := rfl
@[simp] theorem State.modWindow_fresh (s : State) (w : Nat) (f : Window → Window) : (s.modWindow w f).fresh = s.fresh := rfl
@[simp] theorem State.modWindow_h64 (s : State) (w : Nat) (f : Window → Window) : (s.modWindow w f).h64 = s.h64 := rfl

/-! `modGlaze` changes `host` alone. -/

@[simp] theorem State.modGlaze_pending (s : State) (w : Nat) (f : Glaze → Glaze) : (s.modGlaze w f).pending = s.pending := rfl
@[simp] theorem State.modGlaze_od (s : State) (w : Nat) (f : Glaze → Glaze) : (s.modGlaze w f).od = s.od := rfl
@[simp] theorem State.modGlaze_flt (s : State) (w : Nat) (f : Glaze → Glaze) : (s.modGlaze w f).flt = s.flt := rfl
@[simp] theorem State.modGlaze_cal (s : State) (w : Nat) (f : Glaze → Glaze) : (s.modGlaze w f).cal = s.cal := rfl
@[simp] theorem State.modGlaze_med (s : State) (w : Nat) (f : Glaze → Glaze) : (s.modGlaze w f).med = s.med := (rfl)
@[simp] theorem State.modGlaze_vat (s : State) (w : Nat) (f : Glaze → Glaze) : (s.modGlaze w f).vat = s.vat := rfl
@[simp] theorem State.modGlaze_ctxs (s : State) (w : Nat) (f : Glaze → Glaze) : (s.modGlaze w f).ctxs = s.ctxs := rfl
@[simp] theorem State.modGlaze_tlb (s : State) (w : Nat) (f : Glaze → Glaze) : (s.modGlaze w f).tlb = s.tlb := rfl
@[simp] theorem State.modGlaze_coh (s : State) (w : Nat) (f : Glaze → Glaze) : (s.modGlaze w f).coh = s.coh := rfl
@[simp] theorem State.modGlaze_reg (s : State) (w : Nat) (f : Glaze → Glaze) : (s.modGlaze w f).reg = s.reg := rfl
@[simp] theorem State.modGlaze_tenants (s : State) (w : Nat) (f : Glaze → Glaze) : (s.modGlaze w f).tenants = s.tenants := rfl
@[simp] theorem State.modGlaze_pool (s : State) (w : Nat) (f : Glaze → Glaze) : (s.modGlaze w f).pool = s.pool := rfl
@[simp] theorem State.modGlaze_sec (s : State) (w : Nat) (f : Glaze → Glaze) : (s.modGlaze w f).sec = s.sec := rfl
@[simp] theorem State.modGlaze_clients (s : State) (w : Nat) (f : Glaze → Glaze) : (s.modGlaze w f).clients = s.clients := rfl
@[simp] theorem State.modGlaze_opt (s : State) (w : Nat) (f : Glaze → Glaze) : (s.modGlaze w f).opt = s.opt := rfl
@[simp] theorem State.modGlaze_cx (s : State) (w : Nat) (f : Glaze → Glaze) : (s.modGlaze w f).cx = s.cx := rfl
@[simp] theorem State.modGlaze_pwr (s : State) (w : Nat) (f : Glaze → Glaze) : (s.modGlaze w f).pwr = s.pwr := rfl
@[simp] theorem State.modGlaze_rst (s : State) (w : Nat) (f : Glaze → Glaze) : (s.modGlaze w f).rst = s.rst := rfl
@[simp] theorem State.modGlaze_clk (s : State) (w : Nat) (f : Glaze → Glaze) : (s.modGlaze w f).clk = s.clk := rfl
@[simp] theorem State.modGlaze_tst (s : State) (w : Nat) (f : Glaze → Glaze) : (s.modGlaze w f).tst = s.tst := rfl
@[simp] theorem State.modGlaze_i3c (s : State) (w : Nat) (f : Glaze → Glaze) : (s.modGlaze w f).i3c = s.i3c := rfl
@[simp] theorem State.modGlaze_out (s : State) (w : Nat) (f : Glaze → Glaze) : (s.modGlaze w f).out = s.out := rfl
@[simp] theorem State.modGlaze_fresh (s : State) (w : Nat) (f : Glaze → Glaze) : (s.modGlaze w f).fresh = s.fresh := rfl
@[simp] theorem State.modGlaze_h64 (s : State) (w : Nat) (f : Glaze → Glaze) : (s.modGlaze w f).h64 = s.h64 := rfl

/-! `modLink` changes `pool` alone. -/

@[simp] theorem State.modLink_pending (s : State) (p : Nat) (f : Link → Link) : (s.modLink p f).pending = s.pending := rfl
@[simp] theorem State.modLink_od (s : State) (p : Nat) (f : Link → Link) : (s.modLink p f).od = s.od := rfl
@[simp] theorem State.modLink_flt (s : State) (p : Nat) (f : Link → Link) : (s.modLink p f).flt = s.flt := rfl
@[simp] theorem State.modLink_cal (s : State) (p : Nat) (f : Link → Link) : (s.modLink p f).cal = s.cal := rfl
@[simp] theorem State.modLink_med (s : State) (p : Nat) (f : Link → Link) : (s.modLink p f).med = s.med := (rfl)
@[simp] theorem State.modLink_vat (s : State) (p : Nat) (f : Link → Link) : (s.modLink p f).vat = s.vat := rfl
@[simp] theorem State.modLink_ctxs (s : State) (p : Nat) (f : Link → Link) : (s.modLink p f).ctxs = s.ctxs := rfl
@[simp] theorem State.modLink_tlb (s : State) (p : Nat) (f : Link → Link) : (s.modLink p f).tlb = s.tlb := rfl
@[simp] theorem State.modLink_coh (s : State) (p : Nat) (f : Link → Link) : (s.modLink p f).coh = s.coh := rfl
@[simp] theorem State.modLink_reg (s : State) (p : Nat) (f : Link → Link) : (s.modLink p f).reg = s.reg := rfl
@[simp] theorem State.modLink_tenants (s : State) (p : Nat) (f : Link → Link) : (s.modLink p f).tenants = s.tenants := rfl
@[simp] theorem State.modLink_host (s : State) (p : Nat) (f : Link → Link) : (s.modLink p f).host = s.host := rfl
@[simp] theorem State.modLink_sec (s : State) (p : Nat) (f : Link → Link) : (s.modLink p f).sec = s.sec := rfl
@[simp] theorem State.modLink_clients (s : State) (p : Nat) (f : Link → Link) : (s.modLink p f).clients = s.clients := rfl
@[simp] theorem State.modLink_opt (s : State) (p : Nat) (f : Link → Link) : (s.modLink p f).opt = s.opt := rfl
@[simp] theorem State.modLink_cx (s : State) (p : Nat) (f : Link → Link) : (s.modLink p f).cx = s.cx := rfl
@[simp] theorem State.modLink_pwr (s : State) (p : Nat) (f : Link → Link) : (s.modLink p f).pwr = s.pwr := rfl
@[simp] theorem State.modLink_rst (s : State) (p : Nat) (f : Link → Link) : (s.modLink p f).rst = s.rst := rfl
@[simp] theorem State.modLink_clk (s : State) (p : Nat) (f : Link → Link) : (s.modLink p f).clk = s.clk := rfl
@[simp] theorem State.modLink_tst (s : State) (p : Nat) (f : Link → Link) : (s.modLink p f).tst = s.tst := rfl
@[simp] theorem State.modLink_i3c (s : State) (p : Nat) (f : Link → Link) : (s.modLink p f).i3c = s.i3c := rfl
@[simp] theorem State.modLink_out (s : State) (p : Nat) (f : Link → Link) : (s.modLink p f).out = s.out := rfl
@[simp] theorem State.modLink_fresh (s : State) (p : Nat) (f : Link → Link) : (s.modLink p f).fresh = s.fresh := rfl
@[simp] theorem State.modLink_h64 (s : State) (p : Nat) (f : Link → Link) : (s.modLink p f).h64 = s.h64 := rfl

/-! `modCopy` changes `med` alone. -/

@[simp] theorem State.modCopy_pending (s : State) (n : Nat) (f : CopyCh → CopyCh) : (s.modCopy n f).pending = s.pending := rfl
@[simp] theorem State.modCopy_od (s : State) (n : Nat) (f : CopyCh → CopyCh) : (s.modCopy n f).od = s.od := rfl
@[simp] theorem State.modCopy_flt (s : State) (n : Nat) (f : CopyCh → CopyCh) : (s.modCopy n f).flt = s.flt := rfl
@[simp] theorem State.modCopy_cal (s : State) (n : Nat) (f : CopyCh → CopyCh) : (s.modCopy n f).cal = s.cal := rfl
@[simp] theorem State.modCopy_vat (s : State) (n : Nat) (f : CopyCh → CopyCh) : (s.modCopy n f).vat = s.vat := rfl
@[simp] theorem State.modCopy_ctxs (s : State) (n : Nat) (f : CopyCh → CopyCh) : (s.modCopy n f).ctxs = s.ctxs := rfl
@[simp] theorem State.modCopy_tlb (s : State) (n : Nat) (f : CopyCh → CopyCh) : (s.modCopy n f).tlb = s.tlb := rfl
@[simp] theorem State.modCopy_coh (s : State) (n : Nat) (f : CopyCh → CopyCh) : (s.modCopy n f).coh = s.coh := rfl
@[simp] theorem State.modCopy_reg (s : State) (n : Nat) (f : CopyCh → CopyCh) : (s.modCopy n f).reg = s.reg := rfl
@[simp] theorem State.modCopy_tenants (s : State) (n : Nat) (f : CopyCh → CopyCh) : (s.modCopy n f).tenants = s.tenants := rfl
@[simp] theorem State.modCopy_host (s : State) (n : Nat) (f : CopyCh → CopyCh) : (s.modCopy n f).host = s.host := rfl
@[simp] theorem State.modCopy_pool (s : State) (n : Nat) (f : CopyCh → CopyCh) : (s.modCopy n f).pool = s.pool := rfl
@[simp] theorem State.modCopy_sec (s : State) (n : Nat) (f : CopyCh → CopyCh) : (s.modCopy n f).sec = s.sec := rfl
@[simp] theorem State.modCopy_clients (s : State) (n : Nat) (f : CopyCh → CopyCh) : (s.modCopy n f).clients = s.clients := rfl
@[simp] theorem State.modCopy_opt (s : State) (n : Nat) (f : CopyCh → CopyCh) : (s.modCopy n f).opt = s.opt := rfl
@[simp] theorem State.modCopy_cx (s : State) (n : Nat) (f : CopyCh → CopyCh) : (s.modCopy n f).cx = s.cx := rfl
@[simp] theorem State.modCopy_pwr (s : State) (n : Nat) (f : CopyCh → CopyCh) : (s.modCopy n f).pwr = s.pwr := rfl
@[simp] theorem State.modCopy_rst (s : State) (n : Nat) (f : CopyCh → CopyCh) : (s.modCopy n f).rst = s.rst := rfl
@[simp] theorem State.modCopy_clk (s : State) (n : Nat) (f : CopyCh → CopyCh) : (s.modCopy n f).clk = s.clk := rfl
@[simp] theorem State.modCopy_tst (s : State) (n : Nat) (f : CopyCh → CopyCh) : (s.modCopy n f).tst = s.tst := rfl
@[simp] theorem State.modCopy_i3c (s : State) (n : Nat) (f : CopyCh → CopyCh) : (s.modCopy n f).i3c = s.i3c := rfl
@[simp] theorem State.modCopy_out (s : State) (n : Nat) (f : CopyCh → CopyCh) : (s.modCopy n f).out = s.out := rfl
@[simp] theorem State.modCopy_fresh (s : State) (n : Nat) (f : CopyCh → CopyCh) : (s.modCopy n f).fresh = s.fresh := rfl
@[simp] theorem State.modCopy_h64 (s : State) (n : Nat) (f : CopyCh → CopyCh) : (s.modCopy n f).h64 = s.h64 := rfl

/-! `emit` changes `out` alone. -/

@[simp] theorem State.emit_pending (s : State) (o : Out) : (s.emit o).pending = s.pending := rfl
@[simp] theorem State.emit_od (s : State) (o : Out) : (s.emit o).od = s.od := rfl
@[simp] theorem State.emit_flt (s : State) (o : Out) : (s.emit o).flt = s.flt := rfl
@[simp] theorem State.emit_cal (s : State) (o : Out) : (s.emit o).cal = s.cal := rfl
@[simp] theorem State.emit_med (s : State) (o : Out) : (s.emit o).med = s.med := (rfl)
@[simp] theorem State.emit_vat (s : State) (o : Out) : (s.emit o).vat = s.vat := rfl
@[simp] theorem State.emit_ctxs (s : State) (o : Out) : (s.emit o).ctxs = s.ctxs := rfl
@[simp] theorem State.emit_tlb (s : State) (o : Out) : (s.emit o).tlb = s.tlb := rfl
@[simp] theorem State.emit_coh (s : State) (o : Out) : (s.emit o).coh = s.coh := rfl
@[simp] theorem State.emit_reg (s : State) (o : Out) : (s.emit o).reg = s.reg := rfl
@[simp] theorem State.emit_tenants (s : State) (o : Out) : (s.emit o).tenants = s.tenants := rfl
@[simp] theorem State.emit_host (s : State) (o : Out) : (s.emit o).host = s.host := rfl
@[simp] theorem State.emit_pool (s : State) (o : Out) : (s.emit o).pool = s.pool := rfl
@[simp] theorem State.emit_sec (s : State) (o : Out) : (s.emit o).sec = s.sec := rfl
@[simp] theorem State.emit_clients (s : State) (o : Out) : (s.emit o).clients = s.clients := rfl
@[simp] theorem State.emit_opt (s : State) (o : Out) : (s.emit o).opt = s.opt := rfl
@[simp] theorem State.emit_cx (s : State) (o : Out) : (s.emit o).cx = s.cx := rfl
@[simp] theorem State.emit_pwr (s : State) (o : Out) : (s.emit o).pwr = s.pwr := rfl
@[simp] theorem State.emit_rst (s : State) (o : Out) : (s.emit o).rst = s.rst := rfl
@[simp] theorem State.emit_clk (s : State) (o : Out) : (s.emit o).clk = s.clk := rfl
@[simp] theorem State.emit_tst (s : State) (o : Out) : (s.emit o).tst = s.tst := rfl
@[simp] theorem State.emit_i3c (s : State) (o : Out) : (s.emit o).i3c = s.i3c := rfl
@[simp] theorem State.emit_fresh (s : State) (o : Out) : (s.emit o).fresh = s.fresh := rfl
@[simp] theorem State.emit_h64 (s : State) (o : Out) : (s.emit o).h64 = s.h64 := rfl

/-! `setPar` changes `od` alone. -/

@[simp] theorem State.setPar_pending (s : State) (i k v : Nat) : (s.setPar i k v).pending = s.pending := rfl
@[simp] theorem State.setPar_flt (s : State) (i k v : Nat) : (s.setPar i k v).flt = s.flt := rfl
@[simp] theorem State.setPar_cal (s : State) (i k v : Nat) : (s.setPar i k v).cal = s.cal := rfl
@[simp] theorem State.setPar_med (s : State) (i k v : Nat) : (s.setPar i k v).med = s.med := (rfl)
@[simp] theorem State.setPar_vat (s : State) (i k v : Nat) : (s.setPar i k v).vat = s.vat := rfl
@[simp] theorem State.setPar_ctxs (s : State) (i k v : Nat) : (s.setPar i k v).ctxs = s.ctxs := rfl
@[simp] theorem State.setPar_tlb (s : State) (i k v : Nat) : (s.setPar i k v).tlb = s.tlb := rfl
@[simp] theorem State.setPar_coh (s : State) (i k v : Nat) : (s.setPar i k v).coh = s.coh := rfl
@[simp] theorem State.setPar_reg (s : State) (i k v : Nat) : (s.setPar i k v).reg = s.reg := rfl
@[simp] theorem State.setPar_tenants (s : State) (i k v : Nat) : (s.setPar i k v).tenants = s.tenants := rfl
@[simp] theorem State.setPar_host (s : State) (i k v : Nat) : (s.setPar i k v).host = s.host := rfl
@[simp] theorem State.setPar_pool (s : State) (i k v : Nat) : (s.setPar i k v).pool = s.pool := rfl
@[simp] theorem State.setPar_sec (s : State) (i k v : Nat) : (s.setPar i k v).sec = s.sec := rfl
@[simp] theorem State.setPar_clients (s : State) (i k v : Nat) : (s.setPar i k v).clients = s.clients := rfl
@[simp] theorem State.setPar_opt (s : State) (i k v : Nat) : (s.setPar i k v).opt = s.opt := rfl
@[simp] theorem State.setPar_cx (s : State) (i k v : Nat) : (s.setPar i k v).cx = s.cx := rfl
@[simp] theorem State.setPar_pwr (s : State) (i k v : Nat) : (s.setPar i k v).pwr = s.pwr := rfl
@[simp] theorem State.setPar_rst (s : State) (i k v : Nat) : (s.setPar i k v).rst = s.rst := rfl
@[simp] theorem State.setPar_clk (s : State) (i k v : Nat) : (s.setPar i k v).clk = s.clk := rfl
@[simp] theorem State.setPar_tst (s : State) (i k v : Nat) : (s.setPar i k v).tst = s.tst := rfl
@[simp] theorem State.setPar_i3c (s : State) (i k v : Nat) : (s.setPar i k v).i3c = s.i3c := rfl
@[simp] theorem State.setPar_out (s : State) (i k v : Nat) : (s.setPar i k v).out = s.out := rfl
@[simp] theorem State.setPar_fresh (s : State) (i k v : Nat) : (s.setPar i k v).fresh = s.fresh := rfl
@[simp] theorem State.setPar_h64 (s : State) (i k v : Nat) : (s.setPar i k v).h64 = s.h64 := rfl

/-! `setElem` changes `od` alone. -/

@[simp] theorem State.setElem_pending (s : State) (i k e v : Nat) : (s.setElem i k e v).pending = s.pending := rfl
@[simp] theorem State.setElem_flt (s : State) (i k e v : Nat) : (s.setElem i k e v).flt = s.flt := rfl
@[simp] theorem State.setElem_cal (s : State) (i k e v : Nat) : (s.setElem i k e v).cal = s.cal := rfl
@[simp] theorem State.setElem_med (s : State) (i k e v : Nat) : (s.setElem i k e v).med = s.med := (rfl)
@[simp] theorem State.setElem_vat (s : State) (i k e v : Nat) : (s.setElem i k e v).vat = s.vat := rfl
@[simp] theorem State.setElem_ctxs (s : State) (i k e v : Nat) : (s.setElem i k e v).ctxs = s.ctxs := rfl
@[simp] theorem State.setElem_tlb (s : State) (i k e v : Nat) : (s.setElem i k e v).tlb = s.tlb := rfl
@[simp] theorem State.setElem_coh (s : State) (i k e v : Nat) : (s.setElem i k e v).coh = s.coh := rfl
@[simp] theorem State.setElem_reg (s : State) (i k e v : Nat) : (s.setElem i k e v).reg = s.reg := rfl
@[simp] theorem State.setElem_tenants (s : State) (i k e v : Nat) : (s.setElem i k e v).tenants = s.tenants := rfl
@[simp] theorem State.setElem_host (s : State) (i k e v : Nat) : (s.setElem i k e v).host = s.host := rfl
@[simp] theorem State.setElem_pool (s : State) (i k e v : Nat) : (s.setElem i k e v).pool = s.pool := rfl
@[simp] theorem State.setElem_sec (s : State) (i k e v : Nat) : (s.setElem i k e v).sec = s.sec := rfl
@[simp] theorem State.setElem_clients (s : State) (i k e v : Nat) : (s.setElem i k e v).clients = s.clients := rfl
@[simp] theorem State.setElem_opt (s : State) (i k e v : Nat) : (s.setElem i k e v).opt = s.opt := rfl
@[simp] theorem State.setElem_cx (s : State) (i k e v : Nat) : (s.setElem i k e v).cx = s.cx := rfl
@[simp] theorem State.setElem_pwr (s : State) (i k e v : Nat) : (s.setElem i k e v).pwr = s.pwr := rfl
@[simp] theorem State.setElem_rst (s : State) (i k e v : Nat) : (s.setElem i k e v).rst = s.rst := rfl
@[simp] theorem State.setElem_clk (s : State) (i k e v : Nat) : (s.setElem i k e v).clk = s.clk := rfl
@[simp] theorem State.setElem_tst (s : State) (i k e v : Nat) : (s.setElem i k e v).tst = s.tst := rfl
@[simp] theorem State.setElem_i3c (s : State) (i k e v : Nat) : (s.setElem i k e v).i3c = s.i3c := rfl
@[simp] theorem State.setElem_out (s : State) (i k e v : Nat) : (s.setElem i k e v).out = s.out := rfl
@[simp] theorem State.setElem_fresh (s : State) (i k e v : Nat) : (s.setElem i k e v).fresh = s.fresh := rfl
@[simp] theorem State.setElem_h64 (s : State) (i k e v : Nat) : (s.setElem i k e v).h64 = s.h64 := rfl

/-! `bump` changes `od` alone. -/

@[simp] theorem State.bump_pending (s : State) (w i k n : Nat) : (s.bump w i k n).pending = s.pending := rfl
@[simp] theorem State.bump_flt (s : State) (w i k n : Nat) : (s.bump w i k n).flt = s.flt := rfl
@[simp] theorem State.bump_cal (s : State) (w i k n : Nat) : (s.bump w i k n).cal = s.cal := rfl
@[simp] theorem State.bump_med (s : State) (w i k n : Nat) : (s.bump w i k n).med = s.med := (rfl)
@[simp] theorem State.bump_vat (s : State) (w i k n : Nat) : (s.bump w i k n).vat = s.vat := rfl
@[simp] theorem State.bump_ctxs (s : State) (w i k n : Nat) : (s.bump w i k n).ctxs = s.ctxs := rfl
@[simp] theorem State.bump_tlb (s : State) (w i k n : Nat) : (s.bump w i k n).tlb = s.tlb := rfl
@[simp] theorem State.bump_coh (s : State) (w i k n : Nat) : (s.bump w i k n).coh = s.coh := rfl
@[simp] theorem State.bump_reg (s : State) (w i k n : Nat) : (s.bump w i k n).reg = s.reg := rfl
@[simp] theorem State.bump_tenants (s : State) (w i k n : Nat) : (s.bump w i k n).tenants = s.tenants := rfl
@[simp] theorem State.bump_host (s : State) (w i k n : Nat) : (s.bump w i k n).host = s.host := rfl
@[simp] theorem State.bump_pool (s : State) (w i k n : Nat) : (s.bump w i k n).pool = s.pool := rfl
@[simp] theorem State.bump_sec (s : State) (w i k n : Nat) : (s.bump w i k n).sec = s.sec := rfl
@[simp] theorem State.bump_clients (s : State) (w i k n : Nat) : (s.bump w i k n).clients = s.clients := rfl
@[simp] theorem State.bump_opt (s : State) (w i k n : Nat) : (s.bump w i k n).opt = s.opt := rfl
@[simp] theorem State.bump_cx (s : State) (w i k n : Nat) : (s.bump w i k n).cx = s.cx := rfl
@[simp] theorem State.bump_pwr (s : State) (w i k n : Nat) : (s.bump w i k n).pwr = s.pwr := rfl
@[simp] theorem State.bump_rst (s : State) (w i k n : Nat) : (s.bump w i k n).rst = s.rst := rfl
@[simp] theorem State.bump_clk (s : State) (w i k n : Nat) : (s.bump w i k n).clk = s.clk := rfl
@[simp] theorem State.bump_tst (s : State) (w i k n : Nat) : (s.bump w i k n).tst = s.tst := rfl
@[simp] theorem State.bump_i3c (s : State) (w i k n : Nat) : (s.bump w i k n).i3c = s.i3c := rfl
@[simp] theorem State.bump_out (s : State) (w i k n : Nat) : (s.bump w i k n).out = s.out := rfl
@[simp] theorem State.bump_fresh (s : State) (w i k n : Nat) : (s.bump w i k n).fresh = s.fresh := rfl
@[simp] theorem State.bump_h64 (s : State) (w i k n : Nat) : (s.bump w i k n).h64 = s.h64 := rfl

/-! `bumpElem` changes `od` alone. -/

@[simp] theorem State.bumpElem_pending (s : State) (w i k e n : Nat) : (s.bumpElem w i k e n).pending = s.pending := rfl
@[simp] theorem State.bumpElem_flt (s : State) (w i k e n : Nat) : (s.bumpElem w i k e n).flt = s.flt := rfl
@[simp] theorem State.bumpElem_cal (s : State) (w i k e n : Nat) : (s.bumpElem w i k e n).cal = s.cal := rfl
@[simp] theorem State.bumpElem_med (s : State) (w i k e n : Nat) : (s.bumpElem w i k e n).med = s.med := (rfl)
@[simp] theorem State.bumpElem_vat (s : State) (w i k e n : Nat) : (s.bumpElem w i k e n).vat = s.vat := rfl
@[simp] theorem State.bumpElem_ctxs (s : State) (w i k e n : Nat) : (s.bumpElem w i k e n).ctxs = s.ctxs := rfl
@[simp] theorem State.bumpElem_tlb (s : State) (w i k e n : Nat) : (s.bumpElem w i k e n).tlb = s.tlb := rfl
@[simp] theorem State.bumpElem_coh (s : State) (w i k e n : Nat) : (s.bumpElem w i k e n).coh = s.coh := rfl
@[simp] theorem State.bumpElem_reg (s : State) (w i k e n : Nat) : (s.bumpElem w i k e n).reg = s.reg := rfl
@[simp] theorem State.bumpElem_tenants (s : State) (w i k e n : Nat) : (s.bumpElem w i k e n).tenants = s.tenants := rfl
@[simp] theorem State.bumpElem_host (s : State) (w i k e n : Nat) : (s.bumpElem w i k e n).host = s.host := rfl
@[simp] theorem State.bumpElem_pool (s : State) (w i k e n : Nat) : (s.bumpElem w i k e n).pool = s.pool := rfl
@[simp] theorem State.bumpElem_sec (s : State) (w i k e n : Nat) : (s.bumpElem w i k e n).sec = s.sec := rfl
@[simp] theorem State.bumpElem_clients (s : State) (w i k e n : Nat) : (s.bumpElem w i k e n).clients = s.clients := rfl
@[simp] theorem State.bumpElem_opt (s : State) (w i k e n : Nat) : (s.bumpElem w i k e n).opt = s.opt := rfl
@[simp] theorem State.bumpElem_cx (s : State) (w i k e n : Nat) : (s.bumpElem w i k e n).cx = s.cx := rfl
@[simp] theorem State.bumpElem_pwr (s : State) (w i k e n : Nat) : (s.bumpElem w i k e n).pwr = s.pwr := rfl
@[simp] theorem State.bumpElem_rst (s : State) (w i k e n : Nat) : (s.bumpElem w i k e n).rst = s.rst := rfl
@[simp] theorem State.bumpElem_clk (s : State) (w i k e n : Nat) : (s.bumpElem w i k e n).clk = s.clk := rfl
@[simp] theorem State.bumpElem_tst (s : State) (w i k e n : Nat) : (s.bumpElem w i k e n).tst = s.tst := rfl
@[simp] theorem State.bumpElem_i3c (s : State) (w i k e n : Nat) : (s.bumpElem w i k e n).i3c = s.i3c := rfl
@[simp] theorem State.bumpElem_out (s : State) (w i k e n : Nat) : (s.bumpElem w i k e n).out = s.out := rfl
@[simp] theorem State.bumpElem_fresh (s : State) (w i k e n : Nat) : (s.bumpElem w i k e n).fresh = s.fresh := rfl
@[simp] theorem State.bumpElem_h64 (s : State) (w i k e n : Nat) : (s.bumpElem w i k e n).h64 = s.h64 := rfl

/-! `light` changes `tst` alone. -/

@[simp] theorem State.light_pending (s : State) (i n : Nat) : (s.light i n).pending = s.pending := rfl
@[simp] theorem State.light_od (s : State) (i n : Nat) : (s.light i n).od = s.od := rfl
@[simp] theorem State.light_flt (s : State) (i n : Nat) : (s.light i n).flt = s.flt := rfl
@[simp] theorem State.light_cal (s : State) (i n : Nat) : (s.light i n).cal = s.cal := rfl
@[simp] theorem State.light_med (s : State) (i n : Nat) : (s.light i n).med = s.med := (rfl)
@[simp] theorem State.light_vat (s : State) (i n : Nat) : (s.light i n).vat = s.vat := rfl
@[simp] theorem State.light_ctxs (s : State) (i n : Nat) : (s.light i n).ctxs = s.ctxs := rfl
@[simp] theorem State.light_tlb (s : State) (i n : Nat) : (s.light i n).tlb = s.tlb := rfl
@[simp] theorem State.light_coh (s : State) (i n : Nat) : (s.light i n).coh = s.coh := rfl
@[simp] theorem State.light_reg (s : State) (i n : Nat) : (s.light i n).reg = s.reg := rfl
@[simp] theorem State.light_tenants (s : State) (i n : Nat) : (s.light i n).tenants = s.tenants := rfl
@[simp] theorem State.light_host (s : State) (i n : Nat) : (s.light i n).host = s.host := rfl
@[simp] theorem State.light_pool (s : State) (i n : Nat) : (s.light i n).pool = s.pool := rfl
@[simp] theorem State.light_sec (s : State) (i n : Nat) : (s.light i n).sec = s.sec := rfl
@[simp] theorem State.light_clients (s : State) (i n : Nat) : (s.light i n).clients = s.clients := rfl
@[simp] theorem State.light_opt (s : State) (i n : Nat) : (s.light i n).opt = s.opt := rfl
@[simp] theorem State.light_cx (s : State) (i n : Nat) : (s.light i n).cx = s.cx := rfl
@[simp] theorem State.light_pwr (s : State) (i n : Nat) : (s.light i n).pwr = s.pwr := rfl
@[simp] theorem State.light_rst (s : State) (i n : Nat) : (s.light i n).rst = s.rst := rfl
@[simp] theorem State.light_clk (s : State) (i n : Nat) : (s.light i n).clk = s.clk := rfl
@[simp] theorem State.light_i3c (s : State) (i n : Nat) : (s.light i n).i3c = s.i3c := rfl
@[simp] theorem State.light_out (s : State) (i n : Nat) : (s.light i n).out = s.out := rfl
@[simp] theorem State.light_fresh (s : State) (i n : Nat) : (s.light i n).fresh = s.fresh := rfl
@[simp] theorem State.light_h64 (s : State) (i n : Nat) : (s.light i n).h64 = s.h64 := rfl

/-! `modClient` changes `clients` alone. -/

@[simp] theorem State.modClient_pending (s : State) (c : Client) (f : ClientSt → ClientSt) : (s.modClient c f).pending = s.pending := rfl
@[simp] theorem State.modClient_od (s : State) (c : Client) (f : ClientSt → ClientSt) : (s.modClient c f).od = s.od := rfl
@[simp] theorem State.modClient_flt (s : State) (c : Client) (f : ClientSt → ClientSt) : (s.modClient c f).flt = s.flt := rfl
@[simp] theorem State.modClient_cal (s : State) (c : Client) (f : ClientSt → ClientSt) : (s.modClient c f).cal = s.cal := rfl
@[simp] theorem State.modClient_med (s : State) (c : Client) (f : ClientSt → ClientSt) : (s.modClient c f).med = s.med := (rfl)
@[simp] theorem State.modClient_vat (s : State) (c : Client) (f : ClientSt → ClientSt) : (s.modClient c f).vat = s.vat := rfl
@[simp] theorem State.modClient_ctxs (s : State) (c : Client) (f : ClientSt → ClientSt) : (s.modClient c f).ctxs = s.ctxs := rfl
@[simp] theorem State.modClient_tlb (s : State) (c : Client) (f : ClientSt → ClientSt) : (s.modClient c f).tlb = s.tlb := rfl
@[simp] theorem State.modClient_coh (s : State) (c : Client) (f : ClientSt → ClientSt) : (s.modClient c f).coh = s.coh := rfl
@[simp] theorem State.modClient_reg (s : State) (c : Client) (f : ClientSt → ClientSt) : (s.modClient c f).reg = s.reg := rfl
@[simp] theorem State.modClient_tenants (s : State) (c : Client) (f : ClientSt → ClientSt) : (s.modClient c f).tenants = s.tenants := rfl
@[simp] theorem State.modClient_host (s : State) (c : Client) (f : ClientSt → ClientSt) : (s.modClient c f).host = s.host := rfl
@[simp] theorem State.modClient_pool (s : State) (c : Client) (f : ClientSt → ClientSt) : (s.modClient c f).pool = s.pool := rfl
@[simp] theorem State.modClient_sec (s : State) (c : Client) (f : ClientSt → ClientSt) : (s.modClient c f).sec = s.sec := rfl
@[simp] theorem State.modClient_opt (s : State) (c : Client) (f : ClientSt → ClientSt) : (s.modClient c f).opt = s.opt := rfl
@[simp] theorem State.modClient_cx (s : State) (c : Client) (f : ClientSt → ClientSt) : (s.modClient c f).cx = s.cx := rfl
@[simp] theorem State.modClient_pwr (s : State) (c : Client) (f : ClientSt → ClientSt) : (s.modClient c f).pwr = s.pwr := rfl
@[simp] theorem State.modClient_rst (s : State) (c : Client) (f : ClientSt → ClientSt) : (s.modClient c f).rst = s.rst := rfl
@[simp] theorem State.modClient_clk (s : State) (c : Client) (f : ClientSt → ClientSt) : (s.modClient c f).clk = s.clk := rfl
@[simp] theorem State.modClient_tst (s : State) (c : Client) (f : ClientSt → ClientSt) : (s.modClient c f).tst = s.tst := rfl
@[simp] theorem State.modClient_i3c (s : State) (c : Client) (f : ClientSt → ClientSt) : (s.modClient c f).i3c = s.i3c := rfl
@[simp] theorem State.modClient_out (s : State) (c : Client) (f : ClientSt → ClientSt) : (s.modClient c f).out = s.out := rfl
@[simp] theorem State.modClient_fresh (s : State) (c : Client) (f : ClientSt → ClientSt) : (s.modClient c f).fresh = s.fresh := rfl
@[simp] theorem State.modClient_h64 (s : State) (c : Client) (f : ClientSt → ClientSt) : (s.modClient c f).h64 = s.h64 := rfl

/-! What an update does to the part that it changes. -/

@[simp] theorem State.vatAt_modVat (s : State) (k : Nat) (f : Vat → Vat) : (s.modVat k f).vatAt k = f (s.vatAt k) := by
  simp [State.vatAt, State.modVat]
theorem State.vatAt_modVat_other (s : State) {j k : Nat} (f : Vat → Vat) (h : j ≠ k) : (s.modVat k f).vatAt j = s.vatAt j := by
  simp [State.vatAt, State.modVat, Tab.get_set_other _ _ _ h]
@[simp] theorem State.sliceAt_modSlice (s : State) (k : Nat) (f : Slice → Slice) : (s.modSlice k f).sliceAt k = f (s.sliceAt k) := by
  simp [State.sliceAt, State.modSlice]
theorem State.sliceAt_modSlice_other (s : State) {j k : Nat} (f : Slice → Slice) (h : j ≠ k) : (s.modSlice k f).sliceAt j = s.sliceAt j := by
  simp [State.sliceAt, State.modSlice, Tab.get_set_other _ _ _ h]
@[simp] theorem State.ctxAt_modCtx (s : State) (k : Nat) (f : Ctx → Ctx) : (s.modCtx k f).ctxAt k = f (s.ctxAt k) := by
  simp [State.ctxAt, State.modCtx]
theorem State.ctxAt_modCtx_other (s : State) {j k : Nat} (f : Ctx → Ctx) (h : j ≠ k) : (s.modCtx k f).ctxAt j = s.ctxAt j := by
  simp [State.ctxAt, State.modCtx, Tab.get_set_other _ _ _ h]
@[simp] theorem State.tenantAt_modTenant (s : State) (k : Nat) (f : Tenant → Tenant) : (s.modTenant k f).tenantAt k = f (s.tenantAt k) := by
  simp [State.tenantAt, State.modTenant]
theorem State.tenantAt_modTenant_other (s : State) {j k : Nat} (f : Tenant → Tenant) (h : j ≠ k) : (s.modTenant k f).tenantAt j = s.tenantAt j := by
  simp [State.tenantAt, State.modTenant, Tab.get_set_other _ _ _ h]
@[simp] theorem State.portAt_modPort (s : State) (k : Nat) (f : Port → Port) : (s.modPort k f).portAt k = f (s.portAt k) := by
  simp [State.portAt, State.modPort]
theorem State.portAt_modPort_other (s : State) {j k : Nat} (f : Port → Port) (h : j ≠ k) : (s.modPort k f).portAt j = s.portAt j := by
  simp [State.portAt, State.modPort, Tab.get_set_other _ _ _ h]
@[simp] theorem State.funcAt_modFunc (s : State) (k : Nat) (f : Func → Func) : (s.modFunc k f).funcAt k = f (s.funcAt k) := by
  simp [State.funcAt, State.modFunc]
theorem State.funcAt_modFunc_other (s : State) {j k : Nat} (f : Func → Func) (h : j ≠ k) : (s.modFunc k f).funcAt j = s.funcAt j := by
  simp [State.funcAt, State.modFunc, Tab.get_set_other _ _ _ h]
@[simp] theorem State.windowAt_modWindow (s : State) (k : Nat) (f : Window → Window) : (s.modWindow k f).windowAt k = f (s.windowAt k) := by
  simp [State.windowAt, State.modWindow]
theorem State.windowAt_modWindow_other (s : State) {j k : Nat} (f : Window → Window) (h : j ≠ k) : (s.modWindow k f).windowAt j = s.windowAt j := by
  simp [State.windowAt, State.modWindow, Tab.get_set_other _ _ _ h]
@[simp] theorem State.glazeAt_modGlaze (s : State) (k : Nat) (f : Glaze → Glaze) : (s.modGlaze k f).glazeAt k = f (s.glazeAt k) := by
  simp [State.glazeAt, State.modGlaze]
theorem State.glazeAt_modGlaze_other (s : State) {j k : Nat} (f : Glaze → Glaze) (h : j ≠ k) : (s.modGlaze k f).glazeAt j = s.glazeAt j := by
  simp [State.glazeAt, State.modGlaze, Tab.get_set_other _ _ _ h]
@[simp] theorem State.linkAt_modLink (s : State) (k : Nat) (f : Link → Link) : (s.modLink k f).linkAt k = f (s.linkAt k) := by
  simp [State.linkAt, State.modLink]
theorem State.linkAt_modLink_other (s : State) {j k : Nat} (f : Link → Link) (h : j ≠ k) : (s.modLink k f).linkAt j = s.linkAt j := by
  simp [State.linkAt, State.modLink, Tab.get_set_other _ _ _ h]
@[simp] theorem State.copyAt_modCopy (s : State) (k : Nat) (f : CopyCh → CopyCh) : (s.modCopy k f).copyAt k = f (s.copyAt k) := by
  simp [State.copyAt, State.modCopy]
theorem State.copyAt_modCopy_other (s : State) {j k : Nat} (f : CopyCh → CopyCh) (h : j ≠ k) : (s.modCopy k f).copyAt j = s.copyAt j := by
  simp [State.copyAt, State.modCopy, Tab.get_set_other _ _ _ h]

@[simp] theorem State.emit_out (s : State) (o : Out) : (s.emit o).out = o :: s.out := rfl

@[simp] theorem State.par_setPar (s : State) (i k v : Nat) : (s.setPar i k v).par i k = v := by
  simp [State.par, State.setPar]

theorem State.find_setPar_other (s : State) {i k j l : Nat} (v : Nat) (h : odKey j l ≠ odKey i k) :
    Tab.find? (s.setPar i k v).od (odKey j l) = Tab.find? s.od (odKey j l) :=
  Tab.find_set_other _ _ h

@[simp] theorem State.parElem_setElem (s : State) (i k e v : Nat) : (s.setElem i k e v).parElem i k e = v := by
  simp [State.parElem, State.setElem]

@[simp] theorem State.takeFree_fresh (w : Nat) (s : State) : (s.takeFree w).2.fresh = s.fresh + 1 := rfl
@[simp] theorem State.takeFree_out (w : Nat) (s : State) : (s.takeFree w).2.out = s.out := rfl
@[simp] theorem State.takeFree_od (w : Nat) (s : State) : (s.takeFree w).2.od = s.od := rfl

end Machine
end Sys2Proof
end

