-- ==== Sys2Proof/Machine/KvService.lean ====
section
/-! DEFINITION. The context service (09): the formats that its stock plans read and write, and what they compute of them. The
plans themselves are plan images, which run under chapter 08 by the commands of the vats; nothing here is state of the chip. -/

namespace Sys2Proof
namespace Machine

/-- R254. The layout part of a KV descriptor, in the terms of R258-R282: `heads` is H, `dim` is d, `split` is S, `share` is c. -/
structure KvLayout where
  layers  : Nat
  heads   : Nat
  dim     : Nat
  gqa     : Nat
  fp4     : Bool
  halves  : Bool
  rmode   : Nat
  rope    : Nat
  split   : Nat
  share   : Nat
  owner   : Nat
  fmtPrefix : Nat
  fmtCold   : Nat
  fmtWarm   : Nat
  prefixBlocks : Nat
  coldCap : Nat
  warmCap : Nat
  prefixBase : Nat
  coldBase   : Nat
  warmBase   : Nat
  tailBase   : Nat
  stagingBase : Nat
  mergeBase  : Nat
  outputBase : Nat
  scale   : BitVec 32
  sink    : Nat
  window  : Nat
  topk    : Nat
  quota   : Nat
  deriving DecidableEq, Repr

/-- R254: the fields of the 128 B. -/
def kvLayout (b : BitVec 1024) : KvLayout where
  layers := bits b 15 8
  heads := bits b 20 16
  dim := 64 * 2 ^ bits b 22 21
  gqa := bits b 27 23
  fp4 := bit b 28
  halves := bit b 29
  rmode := bits b 31 30
  rope := bits b 40 32
  split := bits b 54 48
  share := bits b 61 56
  owner := bits b 69 64
  fmtPrefix := bits b 75 72
  fmtCold := bits b 79 76
  fmtWarm := bits b 83 80
  prefixBlocks := bits b 112 96
  coldCap := bits b 144 128
  warmCap := bits b 176 160
  prefixBase := bits b 247 192
  coldBase := bits b 311 256
  warmBase := bits b 375 320
  tailBase := bits b 439 384
  stagingBase := bits b 503 448
  mergeBase := bits b 567 512
  outputBase := bits b 631 576
  scale := BitVec.ofNat 32 (bits b 671 640)
  sink := bits b 703 672
  window := bits b 735 704
  topk := bits b 751 736
  quota := bits b 754 752

/-- R254: a zone's format: FP8 E4M3, Ochre4 or Umber3. -/
def kvFormat (f : Nat) : Bool := f = 3 || f = 14 || f = 15

/-- R254, R255: the value ranges that the generator holds a layout to. -/
def kvGood (b : BitVec 1024) : Bool :=
  let k := kvLayout b
  bits b 7 0 = 1 && 1 ≤ k.layers && 1 ≤ k.heads && k.heads ≤ 16 && bits b 22 21 ≠ 3 && 1 ≤ k.gqa && k.gqa ≤ 16
    && (k.rmode = 0 || k.rmode = 2) && k.rope % 2 = 0 && k.rope ≤ k.dim && 1 ≤ k.split && k.split ≤ 64 && k.share < k.split
    && k.owner < k.split && kvFormat k.fmtPrefix && kvFormat k.fmtCold && kvFormat k.fmtWarm && k.prefixBlocks ≤ 65535
    && k.coldCap ≤ 65536 && k.coldCap % 32 = 0 && 32 ≤ k.warmCap && k.warmCap ≤ 65536 && k.warmCap % 32 = 0
    && k.prefixBase % 2 ^ 21 = 0 && k.coldBase % 2 ^ 21 = 0 && k.warmBase % 2 ^ 21 = 0 && k.tailBase % 4096 = 0
    && k.stagingBase % 4096 = 0 && k.mergeBase % 64 = 0 && k.outputBase % 4096 = 0 && k.quota ≤ 4
    && bits b 47 41 = 0 && bit b 55 = false && bits b 63 62 = 0 && bits b 71 70 = 0 && bits b 95 84 = 0 && bits b 127 113 = 0
    && bits b 159 145 = 0 && bits b 191 177 = 0 && bits b 255 248 = 0 && bits b 319 312 = 0 && bits b 383 376 = 0
    && bits b 447 440 = 0 && bits b 511 504 = 0 && bits b 575 568 = 0 && bits b 639 632 = 0 && bits b 1023 755 = 0

/-- R255: the bits of the layout part that every chip of a split holds alike: all but SPLIT_INDEX and the VA fields. -/
def kvShared (b : BitVec 1024) : List Nat :=
  [bits b 55 0, bits b 191 62, bits b 1023 640]

/-- R256: LENGTH and COLD_LEN of layer `l`, in the 16 B at 0x480 + 16 × l of the descriptor. -/
def stateOffset (l : Nat) : Nat := 0x480 + 16 * l
def stateEntry (e : BitVec 128) : Nat × Nat := (bits e 31 0, bits e 63 32)

/-- R256: the state entry before the first invocation. -/
def KvLayout.firstState (k : KvLayout) : Nat × Nat := (256 * k.prefixBlocks, 0)

/-- The chip that owns a position, and the local block on it. -/
def KvLayout.chipOf (k : KvLayout) (p : Nat) : Nat := p / 256 % k.split
def KvLayout.localOf (k : KvLayout) (p : Nat) : Nat := p / 256 / k.split

/-- R258: prefix blocks that split index `c` owns. -/
def KvLayout.ownPrefix (k : KvLayout) (c : Nat) : Nat := if c < k.prefixBlocks then ceilDiv (k.prefixBlocks - c) k.split else 0

/-- R258. The zones. -/
inductive Zone where
  | prefixZone
  | cold
  | warm
  | tail
  deriving DecidableEq, Repr

/-- R258: blocks of the chip that are sealed with LENGTH `len`: a block is once its position 255 has been appended. -/
def KvLayout.sealed (k : KvLayout) (c j len : Nat) : Bool := (j * k.split + c + 1) * 256 ≤ len

/-- R258: the zone of local block `j` of the chip, and the index within it; none: no position of it is stored. -/
def KvLayout.place (k : KvLayout) (len coldLen j : Nat) : Option (Zone × Nat) :=
  let q := k.ownPrefix k.share
  if j < q then some (.prefixZone, j)
  else if j < q + coldLen then some (.cold, j - q)
  else if k.sealed k.share j len then some (.warm, (j - q) % k.warmCap)
  else if 0 < len && k.chipOf (len - 1) = k.share && k.localOf (len - 1) = j then some (.tail, 0)
  else none

/-- R258: the layout capacity of the prefix zone. -/
def KvLayout.prefixCap (k : KvLayout) : Nat := ceilDiv (ceilDiv k.prefixBlocks k.split) 32 * 32

/-- R259: base, capacity and format of a zone that holds blocks. -/
def KvLayout.zone (k : KvLayout) : Zone → Nat × Nat × Nat
  | .prefixZone => (k.prefixBase, k.prefixCap, k.fmtPrefix)
  | .cold => (k.coldBase, k.coldCap, k.fmtCold)
  | .warm => (k.warmBase, k.warmCap, k.fmtWarm)
  | .tail => (k.tailBase, 0, 0)

/-- R259, R260: bytes of a block of a format: 512 × d elements of 8, 4.375 or 3.375 bits. -/
def KvLayout.blockBytes (k : KvLayout) (fmt : Nat) : Nat := fmtBytes fmt (512 * k.dim)

/-- R259: bytes of a lane of a zone. -/
def KvLayout.laneBytes (k : KvLayout) (z : Zone) : Nat :=
  ceilDiv (k.layers * k.heads * ((k.zone z).2.1 / 32) * k.blockBytes (k.zone z).2.2) (2 ^ 21) * 2 ^ 21

/-- R259: the VA of block `x` of a zone, for a layer and a KV head. -/
def KvLayout.blockVa (k : KvLayout) (z : Zone) (l h x : Nat) : Nat :=
  (k.zone z).1 + x % 32 * k.laneBytes z + ((l * k.heads + h) * ((k.zone z).2.1 / 32) + x / 32) * k.blockBytes (k.zone z).2.2

/-- R259: the VA of its summary. -/
def KvLayout.summaryVa (k : KvLayout) (z : Zone) (l h x : Nat) : Nat :=
  (k.zone z).1 + 32 * k.laneBytes z + ((l * k.heads + h) * (k.zone z).2.1 + x) * (4 * k.dim)

/-- R260: within a block, where the 256 keys of a dimension and the values of a token begin. -/
def keyRow (fmt i : Nat) : Nat := i * fmtBytes fmt 256
def KvLayout.valueRow (k : KvLayout) (fmt t : Nat) : Nat := k.blockBytes fmt / 2 + t * fmtBytes fmt k.dim

/-- R261: a value in BF16 rounded toward −∞, and toward +∞; the least and the greatest of a list; the summary of one dimension's
keys: the least rounded down, the greatest rounded up. -/
def bf16Down (v : FVal) : Nat :=
  let c := (bf16.encode v 1 false 0).1
  if FVal.lt v (bf16.decode c) then (if c = 0 then 0x8001 else if c < 0x8000 then c - 1 else c + 1) else c
def bf16Up (v : FVal) : Nat :=
  let c := (bf16.encode v 1 false 0).1
  if FVal.lt (bf16.decode c) v then (if c = 0x8000 then 1 else if c < 0x8000 then c + 1 else c - 1) else c
def leastOf : List FVal → FVal
  | [] => .nan
  | [v] => v
  | v :: vs => let m := leastOf vs; if FVal.lt v m then v else m
def greatestOf : List FVal → FVal
  | [] => .nan
  | [v] => v
  | v :: vs => let m := greatestOf vs; if FVal.lt m v then v else m
def summaryOf (keys : List FVal) : Nat := bf16Down (leastOf keys) + bf16Up (greatestOf keys) * 2 ^ 16

/-- R262: the VA of the tail row of a position. -/
def KvLayout.tailVa (k : KvLayout) (l h p : Nat) : Nat := k.tailBase + ((l * k.heads + h) * 256 + p % 256) * (4 * k.dim)

/-! ### Append (R263-R267) -/

/-- R263. The control line of the staging area. -/
structure Staging where
  first  : Nat
  count  : Nat
  nodes  : Bool
  fp16   : Bool
  target : Nat
  deriving DecidableEq, Repr

/-- R263: its fields. -/
def stagingLine (b : BitVec 512) : Staging where
  first := bits b 31 0
  count := bits b 44 32
  nodes := bit b 45
  fp16 := bit b 46
  target := bits b 95 64

/-- R263: the VA of staging row `r`. -/
def KvLayout.stagingVa (k : KvLayout) (r : Nat) : Nat := k.stagingBase + 64 + r * (4 * k.heads * k.dim)

/-- R264: a position can be appended: below 2^24, and its local block within the capacity of its owner. -/
def KvLayout.fits (k : KvLayout) (p : Nat) : Bool :=
  p < 2 ^ 24 && k.localOf p < k.ownPrefix (k.chipOf p) + k.coldCap + k.warmCap

/-- Rows from a position on that fit, the first that fails ending them. -/
def KvLayout.run (k : KvLayout) : Nat → Nat → Nat
  | 0, _ => 0
  | n + 1, p => if k.fits p then k.run n (p + 1) + 1 else 0

/-- R264: rows that an append accepts with LENGTH `len`. -/
def KvLayout.accepted (k : KvLayout) (g : Staging) (len : Nat) : Nat :=
  if g.nodes || g.first ≠ len then 0 else k.run g.count g.first

/-- R264, R279: the flags of an append: APPEND_SKIPPED, CAPACITY, POSITION_LIMIT. -/
def KvLayout.appendFlags (k : KvLayout) (g : Staging) (len : Nat) : Nat :=
  if g.nodes then 0
  else if g.first ≠ len then 1
  else
    let n := k.accepted g len
    if n = g.count then 0 else if 2 ^ 24 ≤ g.first + n then 4 else 2

/-- R265: turns of pair `i` at a position, as a fraction of 2^64. -/
def ropeTurns (p f : Nat) : Nat := p * f % 2 ^ 64

/-- R265: the dimensions of pair `i`. -/
def KvLayout.ropePair (k : KvLayout) (i : Nat) : Nat × Nat := if k.halves then (i, i + k.rope / 2) else (2 * i, 2 * i + 1)

/-- R266: the local block that an append to LENGTH `len` seals on this chip, and the warm index that it takes; and the block
that must move to cold first. -/
def KvLayout.seals (k : KvLayout) (old len : Nat) : List (Nat × Nat) :=
  ((List.range (len / 256)).filter (fun g => old < (g + 1) * 256 && g % k.split = k.share)).map (fun g =>
    (g / k.split, (g / k.split - k.ownPrefix k.share) % k.warmCap))
def KvLayout.forcedMove (k : KvLayout) (coldLen j : Nat) : Option Nat :=
  if k.ownPrefix k.share + coldLen + k.warmCap ≤ j then some (j - k.warmCap) else none

/-- R267: voluntary moves of an invocation, the oldest warm blocks first, with COLD_LEN after any forced move; LENGTH before the
append says which blocks the warm zone holds. -/
def KvLayout.moves (k : KvLayout) (target len : Nat) : Nat → Nat → List Nat
  | 0, _ => []
  | n + 1, coldLen =>
    let j := k.ownPrefix k.share + coldLen
    if coldLen < target && coldLen < k.coldCap && k.sealed k.share j len then j :: k.moves target len n (coldLen + 1) else []

/-! ### What is attended (R268, R271, R272) -/

/-- R268: a query at position `q` attends `p` under decode or prefill, and under the window plan. -/
def attends (q p : Nat) : Bool := p ≤ q
def KvLayout.windowAttends (k : KvLayout) (q p : Nat) : Bool :=
  p ≤ q && (k.window = 0 || p < k.sink || q < p + k.window)

/-- R268: bit `j` of row `i` of the tree mask, 16 B a row. -/
def treeBit (mask : List (BitVec 8)) (i j : Nat) : Bool := bit (mask.getD (16 * i + j / 8) 0) (j % 8)

/-- R268: node `i` attends node `j`; a row without its own bit attends no node, and sets TREE_MASK_BAD. -/
def nodeAttends (mask : List (BitVec 8)) (i j : Nat) : Bool := treeBit mask i i && treeBit mask i j
def treeMaskBad (mask : List (BitVec 8)) (n : Nat) : Bool := (List.range n).any (fun i => !treeBit mask i i)

/-- R271: the blocks with the greatest bounds, ties to the lower index: each given as (bound, block). -/
def better (a b : FVal × Nat) : Bool := FVal.lt b.1 a.1 || (!FVal.lt a.1 b.1 && a.2 < b.2)
def topBlocks (n : Nat) (bs : List (FVal × Nat)) : List Nat :=
  (bs.filter (fun a => (bs.filter (fun b => better b a)).length < n)).map (fun p => p.2)

/-- R272: the blocks of this chip that hold a sink or window position of a query at `q`. -/
def KvLayout.windowBlocks (k : KvLayout) (q : Nat) : List Nat :=
  (List.range (k.localOf q + 1)).filter (fun j =>
    let g := j * k.split + k.share
    (List.range 256).any (fun i => k.windowAttends q (g * 256 + i)))

/-! ### Partials and the merge (R276-R279) -/

/-- R276. A partial of one query row: m, s and the vector o, FP32. -/
structure Partial where
  m : BitVec 32
  s : BitVec 32
  o : List (BitVec 32)
  deriving DecidableEq, Repr

/-- FP32 −∞. -/
def negInf : BitVec 32 := 0xFF800000

/-- R276: the partial of no positions. -/
def emptyPartial (d : Nat) : Partial := { m := negInf, s := 0, o := List.replicate d 0 }

/-- R276: a × wa + b × wb: each product is rounded once with the sum of the other, in FP32 by RNE. -/
def prodSum (a wa b wb : BitVec 32) : BitVec 32 := (fFma a wa (fMul b wb).1).1

/-- R276: two partials combine. -/
def Partial.combine (a b : Partial) : Partial :=
  let m := if FVal.lt (f32 a.m) (f32 b.m) then b.m else a.m
  if m = negInf then emptyPartial a.o.length
  else
    let w (x : BitVec 32) : BitVec 32 := if x = negInf then 0 else (fExp2 (fSub x m).1).1
    { m := m, s := prodSum a.s (w a.m) b.s (w b.m), o := List.zipWith (fun x y => prodSum x (w a.m) y (w b.m)) a.o b.o }

/-- R277: one level of the binary tree: neighbours combine, an odd one passes up unchanged. -/
def combinePairs : List Partial → List Partial
  | a :: b :: l => a.combine b :: combinePairs l
  | l => l

/-- R277: the partials of the 32 vats, or of the chips by split index, combined. -/
def combineTree : Nat → List Partial → Option Partial
  | _, [] => none
  | _, [a] => some a
  | 0, a :: _ => some a
  | n + 1, l => combineTree n (combinePairs l)

/-- R278: bytes of a chip's partial, and where it and its rows lie. -/
def KvLayout.stride (k : KvLayout) (rows : Nat) : Nat := ceilDiv (64 + rows * (8 + 4 * k.dim)) 64 * 64
def KvLayout.partialVa (k : KvLayout) (rows c : Nat) : Nat := k.mergeBase + c * k.stride rows
def KvLayout.partialRow (k : KvLayout) (r : Nat) : Nat := 64 + r * (8 + 4 * k.dim)

/-- R278: the first line of a partial. -/
def partialHeader (seq len flags share : Nat) : BitVec 512 :=
  BitVec.ofNat 512 (seq % 2 ^ 32 + len % 2 ^ 32 * 2 ^ 32 + flags % 2 ^ 8 * 2 ^ 64 + share % 2 ^ 6 * 2 ^ 72)

/-- R279: the VA of an output row, and the status line. -/
def KvLayout.outputVa (k : KvLayout) (r : Nat) : Nat := k.outputBase + 64 + r * (2 * k.dim)
def statusLine (seq len layer flags : Nat) : BitVec 512 :=
  BitVec.ofNat 512 (seq % 2 ^ 32 + len % 2 ^ 32 * 2 ^ 32 + layer % 2 ^ 8 * 2 ^ 64 + flags % 2 ^ 8 * 2 ^ 72)

/-- R279: FLAGS: the partials' flags and the owner's own together, LENGTH_DIVERGED where their LENGTH values differ. -/
def mergedFlags (own : Nat) (ps : List (Nat × Nat)) : Nat :=
  let f := ps.foldl (fun a p => a ||| p.2) own
  if ps.all (fun p => p.1 = (ps.head?.map (fun q => q.1)).getD 0) then f else f ||| 8

/-- R281: the allowance of the ATTEND step's ring barrier for a ring of up to 8 hops, in ns. -/
def attendAllowance : Nat := 608

/-- The requests of a stock plan: LAYER and QUERY_COUNT of its ARGS. -/
def stockArgs (args : BitVec 256) : Nat × Nat := (bits args 7 0, bits args 23 8)

end Machine
end Sys2Proof
end

