-- ==== Sys2Proof/Machine/KvStore.lean ====
section
/-! DEFINITION. What the stock plans of the context service (09) put into the areas of a KV descriptor and compute of them: the
rotary table, tail rows, blocks and their summaries, moves, scores, partials and output rows, and which bytes a step writes. -/

namespace Sys2Proof
namespace Machine

/-- Bytes to be written from an address on. -/
abbrev KvWrite := Nat × List (BitVec 8)

/-- R255: the layout parts of a split agree: alike but for SPLIT_INDEX and the VA fields, and each index held once. -/
def splitGood (ds : List (BitVec 1024)) : Bool :=
  match ds with
  | [] => false
  | d :: _ =>
    let n := (kvLayout d).split
    ds.length = n && ds.all (fun b => kvGood b && kvShared b = kvShared d)
      && (List.range n).all (fun c => ds.any (fun b => (kvLayout b).share = c))

/-! ### Rotation (R257, R265) -/

/-- R257: F_i, entry `i` of the rotary table, in the bytes of the descriptor. -/
def ropeEntry (desc : List (BitVec 8)) (i : Nat) : Nat := leNat ((desc.drop (0x080 + 8 * i)).take 8)

/-- R257, R265: the pair that a dimension belongs to, and whether it is the pair's second; none beyond ROPE_DIMS, where the
table's entries are ignored. -/
def KvLayout.pairOf (k : KvLayout) (n : Nat) : Option (Nat × Bool) :=
  if n < k.rope then some (if k.halves then (n % (k.rope / 2), decide (k.rope / 2 ≤ n)) else (n / 2, decide (n % 2 = 1))) else none

/-- 2π × 2^64, rounded down. -/
def twoPi : Nat := 115904311329233965478

/-- Terms of the series of the sine or the cosine at an angle of square `sq` (× 2^64), from a term and its number on. -/
def trigSeries (sq : Int) : Nat → Int → Int → Int
  | 0, _, _ => 0
  | n + 1, t, j => t + trigSeries sq n (-(t * sq / 2 ^ 64 / ((j + 1) * (j + 2)))) (j + 2)

/-- The sine or the cosine, × 2^64, of a fraction of a turn of 2^64 parts, by the series over a quarter turn. -/
def trigFixed (sine : Bool) (turns : Nat) : Int :=
  let a : Int := ((turns % 2 ^ 62 * twoPi / 2 ^ 64 : Nat) : Int)
  let sq := a * a / 2 ^ 64
  let sn := trigSeries sq 16 a 1
  let cs := trigSeries sq 16 (2 ^ 64) 0
  match turns / 2 ^ 62 % 4, sine with
  | 0, true => sn | 0, false => cs
  | 1, true => cs | 1, false => -sn
  | 2, true => -sn | 2, false => -cs
  | _, true => -cs | _, false => sn

/-- R265: a pattern lies within 2^-22 of a value given × 2^64. -/
def trigNear (c : BitVec 32) (v : Int) : Bool :=
  match (f32 c).add (.fin (decide (0 ≤ v)) v.natAbs (-64)) with
  | .fin _ d g => if -62 ≤ g then decide (d <<< (g + 62).toNat < 2 ^ 40 - 256) else decide (d < (2 ^ 40 - 256) <<< (-(g + 62)).toNat)
  | _ => false

/-- R265: cos θ or sin θ as the unit gives it: its candidate where that lies within 2^-22 of the true value, the nearest FP32
value otherwise (log entry 182). -/
def trig (sine : Bool) (turns : Nat) : BitVec 32 :=
  let v := trigFixed sine turns
  let c := Config.trig sine (BitVec.ofNat 64 turns)
  if trigNear c v then c else BitVec.ofNat 32 (fp32.encode (.fin (decide (v < 0)) v.natAbs (-64)) 0 false 0).1

/-- R265: a row of d values rotated at a position with the table of a descriptor: x' and y' of each pair, the other dimensions as
they are; each product-sum rounds as R276 says (log entry 182). -/
def KvLayout.rotate (k : KvLayout) (desc : List (BitVec 8)) (p : Nat) (xs : List (BitVec 32)) : List (BitVec 32) :=
  (List.range k.dim).map (fun n =>
    match k.pairOf n with
    | none => xs.getD n 0
    | some (i, second) =>
      let t := ropeTurns p (ropeEntry desc i)
      let x := xs.getD (k.ropePair i).1 0
      let y := xs.getD (k.ropePair i).2 0
      if second then (fFma x (trig true t) (fMul y (trig false t)).1).1
      else (fFma x (trig false t) (fMul (y ^^^ 0x80000000) (trig true t)).1).1)

/-! ### Staging rows and tail rows (R262, R263, R265) -/

/-- The FP32 values of `n` elements of a row of bytes in a format. -/
def rowLanes (fmt n : Nat) (bs : List (BitVec 8)) : List (BitVec 32) := (List.range n).map (fun i => (elemLane fmt bs i).1)

/-- R198, R200: d values in BF16 by RNE. -/
def bf16Row (xs : List (BitVec 32)) : List (BitVec 8) := (lanesToBytes 2 false xs 0 false (List.replicate xs.length 0)).1

/-- R263: the control line holds to its ranges: rows up to the image's append limit, at most 4096. -/
def Staging.good (g : Staging) (limit : Nat) : Bool := g.count ≤ limit && limit ≤ 4096

/-- R263: bytes of a staging row, and the format of its values. -/
def KvLayout.stagingRowBytes (k : KvLayout) : Nat := 4 * k.heads * k.dim
def Staging.format (g : Staging) : Nat := if g.fp16 then 1 else 2

/-- R263: the unrotated key and the value of head `h` in the bytes of a staging row. -/
def KvLayout.stagedKey (k : KvLayout) (g : Staging) (row : List (BitVec 8)) (h : Nat) : List (BitVec 32) :=
  rowLanes g.format k.dim (row.drop (2 * h * k.dim))
def KvLayout.stagedValue (k : KvLayout) (g : Staging) (row : List (BitVec 8)) (h : Nat) : List (BitVec 32) :=
  rowLanes g.format k.dim (row.drop (2 * (k.heads + h) * k.dim))

/-- R262, R265: the bytes of a tail row: the rotated key, then the value, d BF16 values each. -/
def KvLayout.tailRow (k : KvLayout) (desc : List (BitVec 8)) (p : Nat) (key value : List (BitVec 32)) : List (BitVec 8) :=
  bf16Row (k.rotate desc p key) ++ bf16Row value

/-- R262: the tail row of a position is valid: on the owner of the block of LENGTH − 1, for positions of that block below LENGTH. -/
def KvLayout.tailValid (k : KvLayout) (len p : Nat) : Bool := p < len && p / 256 = (len - 1) / 256 && k.chipOf p = k.share

/-- R265: what the APPEND step writes for a layer: the tail rows of the accepted staging rows whose positions this chip owns. -/
def KvLayout.appendWrites (k : KvLayout) (desc : List (BitVec 8)) (l len : Nat) (g : Staging) (rows : List (List (BitVec 8))) :
    List KvWrite :=
  ((List.range (k.accepted g len)).filter (fun r => k.chipOf (g.first + r) = k.share)).flatMap (fun r =>
    let row := rows.getD r []
    (List.range k.heads).map (fun h =>
      (k.tailVa l h (g.first + r), k.tailRow desc (g.first + r) (k.stagedKey g row h) (k.stagedValue g row h))))

/-! ### Blocks, summaries and moves (R260, R261, R266, R267) -/

/-- R260: the stored keys of dimension `i` of a block, and the stored values of token `t`. -/
def storedKeys (fmt i : Nat) (block : List (BitVec 8)) : List (BitVec 32) := rowLanes fmt 256 (block.drop (keyRow fmt i))
def KvLayout.storedValues (k : KvLayout) (fmt t : Nat) (block : List (BitVec 8)) : List (BitVec 32) :=
  rowLanes fmt k.dim (block.drop (k.valueRow fmt t))

/-- R260, R266: a block of a format from the keys and values of its 256 tokens: the keys by dimension in token order, then the
values by token, rounded by QUANT_RMODE; `us` are the draws of a stochastic rounding, `sat` the image's SAT bit. -/
def KvLayout.packBlock (k : KvLayout) (fmt : Nat) (sat : Bool) (us : Nat → List Nat) (keys values : List (List (BitVec 32))) :
    List (BitVec 8) :=
  (List.range k.dim).flatMap (fun i => (lanesToBytes fmt false (keys.map (fun r => r.getD i 0)) k.rmode sat (us i)).1)
    ++ (List.range 256).flatMap (fun t => (lanesToBytes fmt false (values.getD t []) k.rmode sat (us (k.dim + t))).1)

/-- R261: the summary of a block: for each dimension the least and the greatest stored key, BF16, 4 B a dimension. -/
def KvLayout.blockSummary (k : KvLayout) (fmt : Nat) (block : List (BitVec 8)) : List (BitVec 8) :=
  (List.range k.dim).flatMap (fun i => leBytes 4 (summaryOf ((storedKeys fmt i block).map f32)))

/-- R266: what COMMIT writes to seal a block from its 256 tail rows: the block and its summary, at its warm index. -/
def KvLayout.sealWrites (k : KvLayout) (l h j : Nat) (sat : Bool) (us : Nat → List Nat) (tail : List (List (BitVec 8))) :
    List KvWrite :=
  let x := (j - k.ownPrefix k.share) % k.warmCap
  let b := k.packBlock k.fmtWarm sat us (tail.map (rowLanes 2 k.dim)) (tail.map (fun r => rowLanes 2 k.dim (r.drop (2 * k.dim))))
  [(k.blockVa .warm l h x, b), (k.summaryVa .warm l h x, k.blockSummary k.fmtWarm b)]

/-- R266: a warm block converted to COLD_FORMAT; to the same format its bytes stay. -/
def KvLayout.coldBlock (k : KvLayout) (sat : Bool) (us : Nat → List Nat) (block : List (BitVec 8)) : List (BitVec 8) :=
  if k.fmtCold = k.fmtWarm then block
  else
    let keys := (List.range k.dim).map (fun i => storedKeys k.fmtWarm i block)
    k.packBlock k.fmtCold sat us ((List.range 256).map (fun t => keys.map (fun ks => ks.getD t 0)))
      ((List.range 256).map (fun t => k.storedValues k.fmtWarm t block))

/-- R266, R267: what MOVE writes to move a block to cold index `x`: the block and its summary, the summary unchanged where the
format stays. -/
def KvLayout.moveWrites (k : KvLayout) (l h x : Nat) (sat : Bool) (us : Nat → List Nat) (block summary : List (BitVec 8)) :
    List KvWrite :=
  let b := k.coldBlock sat us block
  [(k.blockVa .cold l h x, b),
   (k.summaryVa .cold l h x, if k.fmtCold = k.fmtWarm then summary else k.blockSummary k.fmtCold b)]

/-- R256, R274: what COMMIT writes last: LENGTH and COLD_LEN of the layer. -/
def stateWrite (desc l len coldLen : Nat) : KvWrite := (desc + stateOffset l, leBytes 4 len ++ leBytes 4 coldLen)

/-- R259: the logical vat that streams the blocks of a zone index: that of its lane. -/
def laneVat (x : Nat) : Nat := x % 32

/-- R258, R259: the blocks that a logical vat streams of the chip's local blocks below `n`, as zone and index. -/
def KvLayout.vatBlocks (k : KvLayout) (v len coldLen n : Nat) : List (Zone × Nat) :=
  (List.range n).filterMap (fun j =>
    match k.place len coldLen j with
    | some (.tail, _) => none
    | some (z, x) => if laneVat x = v then some (z, x) else none
    | none => none)

/-! ### The plans and their arithmetic (R268-R275) -/

/-- The stock plans. -/
inductive StockPlan where
  | decode
  | verify
  | prefill
  | topk
  | windowed
  | requant
  deriving DecidableEq, Repr

/-- R269: how query rows run against a zone: the matrix mode (none where the rules name none), KV heads of one update, the format
of queries and probabilities, and half cycles of an update. -/
structure ZonePath where
  split  : Option Bool
  heads  : Nat
  format : Nat
  halves : Nat
  deriving DecidableEq, Repr

/-- R269: the decode, top-k and window plans: SPLIT up to 32 rows of a KV head, four heads an update; JOINED for 33-128, one head. -/
def zoneMode (p : StockPlan) (rows : Nat) : Option Bool :=
  if p = .decode || p = .topk || p = .windowed then (if rows ≤ 32 then some true else if rows ≤ 128 then some false else none) else none

/-- R269: queries and probabilities are FP8 for an FP8 zone and Ochre4 for an Ochre4 or Umber3 one; verify and prefill take ARITH
for every zone. -/
def KvLayout.zoneFormat (k : KvLayout) (p : StockPlan) (fmt : Nat) : Nat :=
  if p = .verify || p = .prefill then (if k.fp4 then 14 else 3) else if fmt = 3 then 3 else 14

/-- R193, R269: the path of a zone: its rate is that of the slower of the two operands. -/
def KvLayout.zonePath (k : KvLayout) (p : StockPlan) (rows fmt : Nat) : ZonePath :=
  let f := k.zoneFormat p fmt
  { split := zoneMode p rows, heads := if zoneMode p rows = some true then 4 else 1, format := f,
    halves := Nat.max ((updateHalves f).getD 0) ((updateHalves fmt).getD 0) }

/-- R269: the tail is read in BF16 at rate 1/2. -/
def KvLayout.tailPath (p : StockPlan) (rows : Nat) : ZonePath :=
  { split := zoneMode p rows, heads := if zoneMode p rows = some true then 4 else 1, format := 2, halves := 4 }

/-- The query rows of a KV head; the head that a query head uses; a query row's place in the input slot's payload. -/
def KvLayout.rowsOf (k : KvLayout) (count : Nat) : Nat := k.gqa * count
def KvLayout.kvHead (k : KvLayout) (qh : Nat) : Nat := qh / k.gqa
def KvLayout.queryOffset (k : KvLayout) (q qh : Nat) : Nat := (q * (k.heads * k.gqa) + qh) * (2 * k.dim)

/-- R263, R270: a plan takes the staging rows: verify takes provisional ones only, the appending plans the others. -/
def takesStaging (p : StockPlan) (g : Staging) : Bool := match p with | .verify => g.nodes | .requant => false | _ => !g.nodes

/-- R270: node positions (U32) and the tree mask, after the query rows of the payload. -/
def KvLayout.nodePosition (k : KvLayout) (count : Nat) (payload : List (BitVec 8)) (i : Nat) : Nat :=
  leNat ((payload.drop (k.queryOffset count 0 + 4 * i)).take 4)
def KvLayout.treeMask (k : KvLayout) (count : Nat) (payload : List (BitVec 8)) : List (BitVec 8) :=
  (payload.drop (k.queryOffset count 0 + 512)).take 2048

/-- R271: the bound of a block for a query row: SCORE_SCALE × Σ max(q × min, q × max), in FP32 along the sum order of R150 (log
entry 182). -/
def KvLayout.rowBound (k : KvLayout) (q : List (BitVec 32)) (summary : List (BitVec 8)) : BitVec 32 :=
  let ts := (List.range k.dim).map (fun i =>
    let x := q.getD i 0
    let a := (fMul x (elemLane 2 summary (2 * i)).1).1
    let b := (fMul x (elemLane 2 summary (2 * i + 1)).1).1
    if FVal.lt (f32 a) (f32 b) then b else a)
  (fMul k.scale (treeSum ts (sumOrder (Nat.log2 k.dim))).1).1

/-- R271: the bound of a block: the greatest of the head's rows. -/
def KvLayout.blockBound (k : KvLayout) (qs : List (List (BitVec 32))) (summary : List (BitVec 8)) : FVal :=
  greatestOf (qs.map (fun q => f32 (k.rowBound q summary)))

/-- R271: a block that holds a sink position. -/
def KvLayout.sinkBlock (k : KvLayout) (j : Nat) : Bool := (j * k.split + k.share) * 256 < k.sink

/-- R271: the blocks that top-k reads: every sink block, and the TOPK_BLOCKS others with the greatest bounds. -/
def KvLayout.topkBlocks (k : KvLayout) (blocks : List (FVal × Nat)) : List Nat :=
  (blocks.filter (fun b => k.sinkBlock b.2)).map (fun b => b.2) ++ topBlocks k.topk (blocks.filter (fun b => !k.sinkBlock b.2))

/-- R272: the blocks that the window plan gathers with a compiled count: those it needs, filled up with block 0. -/
def KvLayout.gathered (k : KvLayout) (q count : Nat) : List Nat := k.windowBlocks q ++ List.replicate (count - (k.windowBlocks q).length) 0

/-- R273: a prefix zone of another layout serves this one: built for the same S, H, d, and share. -/
def KvLayout.prefixFits (k p : KvLayout) : Bool :=
  p.split = k.split && p.heads = k.heads && p.dim = k.dim && p.share = k.share && p.fmtPrefix = k.fmtPrefix

/-- R274. The steps of a stock plan that attends. -/
inductive KvStep where
  | append
  | attend
  | merge
  | move
  | commit
  deriving DecidableEq, Repr

/-- R269-R275: the steps that end with a ring barrier, and those of a chip that write the merge area or the output: with S = 1
there is no barrier and no merge area; the owner alone merges. -/
def KvLayout.ringBarrier (k : KvLayout) (t : KvStep) : Bool := t = .attend && k.split ≠ 1
def KvLayout.writesPartial (k : KvLayout) (t : KvStep) : Bool := t = .attend && k.split ≠ 1
def KvLayout.writesOutput (k : KvLayout) (t : KvStep) : Bool := t = .merge && k.owner = k.share

/-! ### Scores, partials and the output (R276-R282) -/

/-- R276: the score of a query and a key's product. -/
def KvLayout.score (k : KvLayout) (dot : BitVec 32) : BitVec 32 := (fMul k.scale dot).1

/-- R276: the partial of one position: its score, 1 and its value; a masked position adds nothing. -/
def onePosition (x : BitVec 32) (v : List (BitVec 32)) : Partial := { m := x, s := 0x3F800000, o := v }

/-- R276: the partial of a list of attended positions. -/
def attended (d : Nat) (ps : List (BitVec 32 × List (BitVec 32))) : Partial :=
  ps.foldl (fun a p => a.combine (onePosition p.1 p.2)) (emptyPartial d)

/-- R277: the chip's partial: its 32 vats' along the tree. -/
def chipPartial (d : Nat) (vats : List Partial) : Partial := (combineTree 6 vats).getD (emptyPartial d)

/-- The FP32 quotient, rounded once by RNE (an operation of the plan's: the vector unit divides by no slot of its own). -/
def fDiv (a b : BitVec 32) : BitVec 32 :=
  match f32 a, f32 b with
  | .fin n m e, .fin n2 m2 e2 =>
    if m2 = 0 then 0x7FC00000
    else
      let q := (m <<< 64) / m2
      BitVec.ofNat 32 (fp32.encode (.fin (n != n2) (2 * q + (if (m <<< 64) % m2 = 0 then 0 else 1)) (e - e2 - 65)) 0 false 0).1
  | _, _ => 0x7FC00000

/-- R276, R279: an output row in BF16: o / s; zeros where s is 0, which sets EMPTY_ROW. -/
def Partial.output (a : Partial) : List (BitVec 8) :=
  if a.s.toNat % 2 ^ 31 = 0 then List.replicate (2 * a.o.length) 0 else bf16Row (a.o.map (fun x => fDiv x a.s))
def Partial.emptyRow (a : Partial) : Bool := a.s.toNat % 2 ^ 31 = 0

/-- R278: the bytes of a partial's row: m, s and o. -/
def Partial.bytes (a : Partial) : List (BitVec 8) := (a.m :: a.s :: a.o).flatMap (fun x => leBytes 4 x.toNat)

/-- R278: what a chip writes into the merge area: the first line, then its rows. -/
def KvLayout.partialWrites (k : KvLayout) (seq len flags : Nat) (ps : List Partial) : List KvWrite :=
  let base := k.partialVa ps.length k.share
  (base, leBytes 64 (partialHeader seq len flags k.share).toNat)
    :: (List.range ps.length).map (fun r => (base + k.partialRow r, (ps.getD r (emptyPartial k.dim)).bytes))

/-- R279: FLAGS of an invocation: those of the partials and the owner's, LENGTH_DIVERGED, and EMPTY_ROW. -/
def outputFlags (own : Nat) (heads : List (Nat × Nat)) (rows : List Partial) : Nat :=
  mergedFlags own heads ||| (if rows.any Partial.emptyRow then 16 else 0)

/-- R279: what the owner writes: every output row, and after them the status line. -/
def KvLayout.outputWrites (k : KvLayout) (seq len layer flags : Nat) (rows : List Partial) : List KvWrite :=
  (List.range rows.length).map (fun r => (k.outputVa r, (rows.getD r (emptyPartial k.dim)).output))
    ++ [(k.outputBase, leBytes 64 (statusLine seq len layer flags).toNat)]

/-- R280: the LENGTH that every chip's state entries take after LENGTH_DIVERGED: the greatest that all chips hold complete. -/
def agreedLength (complete : List Nat) : Nat := complete.foldl Nat.min (complete.headD 0)

/-- R281: RING_GROUP and RING_MASK name exactly the chips of the split. -/
def maskNames (mask : Nat) (chips : List Nat) : Bool := mask = bitSet chips

/-- R282: what a stock decode image declares: REQ_HBM, REQ_DDR of the DDR slots its stream needs (a slot's bytes in tenths), and
BURST_SLOTS. -/
def decodeRequires (ddrSlots tenths : Nat) : Nat × Nat × Nat := (1838 * 2048, ddrSlots * tenths / 10, 1)

end Machine
end Sys2Proof
end

