-- ==== Sys2Proof/Laws/Frame.lean ====
section
/-! SUPPORT. The operations that leave the bytes of memory as they were, one lemma for each. -/

namespace Sys2Proof
namespace Machine

@[simp] theorem foldl_mem {α : Type} (f : State → α → State) (h : ∀ s x, (f s x).med.mem = s.med.mem) (l : List α) (s : State) :
    (l.foldl f s).med.mem = s.med.mem := by
  induction l generalizing s with
  | nil => rfl
  | cons x l ih => simp only [List.foldl_cons, ih, h]

@[simp] theorem ite_mem (c : Prop) [Decidable c] (a b : State) : (if c then a else b).med.mem = if c then a.med.mem else b.med.mem := by
  split <;> rfl

theorem foldl_pair_mem {α β : Type} (f : β × State → α → β × State) (h : ∀ a x, (f a x).2.med.mem = a.2.med.mem) (l : List α)
    (a : β × State) : (l.foldl f a).2.med.mem = a.2.med.mem := by
  induction l generalizing a with
  | nil => rfl
  | cons x l ih => simp only [List.foldl_cons, ih, h]

theorem ite_pair_mem {β : Type} (c : Prop) [Decidable c] (a b : β × State) :
    (if c then a else b).2.med.mem = if c then a.2.med.mem else b.2.med.mem := by
  split <;> rfl

@[simp] theorem State.setPar_mem x1 x2 x3 (s : State) : (State.setPar s x1 x2 x3).med.mem = s.med.mem := by
  rfl

@[simp] theorem State.setElem_mem x1 x2 x3 x4 (s : State) : (State.setElem s x1 x2 x3 x4).med.mem = s.med.mem := by
  rfl

@[simp] theorem State.bump_mem x1 x2 x3 x4 (s : State) : (State.bump s x1 x2 x3 x4).med.mem = s.med.mem := by
  rfl

@[simp] theorem State.bumpElem_mem x1 x2 x3 x4 x5 (s : State) : (State.bumpElem s x1 x2 x3 x4 x5).med.mem = s.med.mem := by
  rfl

@[simp] theorem State.peak_mem x1 x2 x3 (s : State) : (State.peak s x1 x2 x3).med.mem = s.med.mem := by
  simp [State.peak]

@[simp] theorem State.emit_mem x1 (s : State) : (State.emit s x1).med.mem = s.med.mem := by
  rfl

@[simp] theorem State.takeFree_mem x0 (s : State) : (State.takeFree x0 s).2.med.mem = s.med.mem := by
  rfl

@[simp] theorem State.takeBytes_mem x0 (s : State) : (State.takeBytes x0 s).2.med.mem = s.med.mem := by
  induction x0 generalizing s with
  | zero => rfl
  | succ n ih => simp [State.takeBytes, ih]

@[simp] theorem State.takeWords_mem x0 (s : State) : (State.takeWords x0 s).2.med.mem = s.med.mem := by
  induction x0 generalizing s with
  | zero => rfl
  | succ n ih => simp [State.takeWords, ih]

@[simp] theorem State.light_mem x1 x2 (s : State) : (State.light s x1 x2).med.mem = s.med.mem := by
  rfl

@[simp] theorem State.modVat_mem x1 x2 (s : State) : (State.modVat s x1 x2).med.mem = s.med.mem := by
  rfl

@[simp] theorem State.modSlice_mem x1 x2 (s : State) : (State.modSlice s x1 x2).med.mem = s.med.mem := by
  rfl

@[simp] theorem State.modCtx_mem x1 x2 (s : State) : (State.modCtx s x1 x2).med.mem = s.med.mem := by
  rfl

@[simp] theorem State.modTenant_mem x1 x2 (s : State) : (State.modTenant s x1 x2).med.mem = s.med.mem := by
  rfl

@[simp] theorem State.modPort_mem x1 x2 (s : State) : (State.modPort s x1 x2).med.mem = s.med.mem := by
  rfl

@[simp] theorem State.modFunc_mem x1 x2 (s : State) : (State.modFunc s x1 x2).med.mem = s.med.mem := by
  rfl

@[simp] theorem State.modWindow_mem x1 x2 (s : State) : (State.modWindow s x1 x2).med.mem = s.med.mem := by
  rfl

@[simp] theorem State.modGlaze_mem x1 x2 (s : State) : (State.modGlaze s x1 x2).med.mem = s.med.mem := by
  rfl

@[simp] theorem State.modLink_mem x1 x2 (s : State) : (State.modLink s x1 x2).med.mem = s.med.mem := by
  rfl

@[simp] theorem State.modCopy_mem x1 x2 (s : State) : (State.modCopy s x1 x2).med.mem = s.med.mem := by
  rfl

@[simp] theorem State.modCx_mem x1 x2 (s : State) : (State.modCx s x1 x2).med.mem = s.med.mem := by
  simp only [State.modCx]
  (repeat' split) <;> simp [*]

@[simp] theorem State.enqueue_mem x1 (s : State) : (State.enqueue s x1).med.mem = s.med.mem := by
  simp [State.enqueue]

@[simp] theorem State.submit_mem x1 (s : State) : (State.submit s x1).med.mem = s.med.mem := by
  simp only [State.submit]
  (repeat' split) <;> simp [*]

@[simp] theorem State.countReport_mem x1 (s : State) : (State.countReport s x1).med.mem = s.med.mem := by
  simp only [State.countReport]
  (repeat' split) <;> simp [*]

@[simp] theorem State.enqueueLost_mem (s : State) : (State.enqueueLost s).med.mem = s.med.mem := by
  simp only [State.enqueueLost]
  (repeat' split) <;> simp [*]

@[simp] theorem State.report_mem x1 x2 x3 x4 (s : State) : (State.report s x1 x2 x3 x4).med.mem = s.med.mem := by
  simp [State.report]

@[simp] theorem State.reportTenant_mem x1 x2 x3 x4 (s : State) : (State.reportTenant s x1 x2 x3 x4).med.mem = s.med.mem := by
  simp [State.reportTenant]

@[simp] theorem State.reportDeferred_mem x1 x2 x3 x4 (s : State) : (State.reportDeferred s x1 x2 x3 x4).med.mem = s.med.mem := by
  simp [State.reportDeferred]

@[simp] theorem State.reportDeferredAlways_mem x1 x2 (s : State) : (State.reportDeferredAlways s x1 x2).med.mem = s.med.mem := by
  rfl

@[simp] theorem State.flushDeferred_mem (s : State) : (State.flushDeferred s).med.mem = s.med.mem := by
  simp [State.flushDeferred]

@[simp] theorem State.msix_mem x1 x2 (s : State) : (State.msix s x1 x2).med.mem = s.med.mem := by
  simp [State.msix]

@[simp] theorem State.raiseFaultVector_mem x1 (s : State) : (State.raiseFaultVector s x1).med.mem = s.med.mem := by
  simp [State.raiseFaultVector]

@[simp] theorem State.signalError_mem x1 (s : State) : (State.signalError s x1).med.mem = s.med.mem := by
  unfold State.signalError
  refine foldl_mem _ (fun s x => ?_) _ _
  (repeat' split) <;> simp

@[simp] theorem State.isolate_mem x1 x2 x3 x4 (s : State) : (State.isolate s x1 x2 x3 x4).med.mem = s.med.mem := by
  simp [State.isolate]

@[simp] theorem State.deisolate_mem x1 (s : State) : (State.deisolate s x1).med.mem = s.med.mem := by
  rfl

@[simp] theorem State.control_mem x0 x1 x2 x3 (s : State) : (State.control s x0 x1 x2 x3).med.mem = s.med.mem := by
  rfl

@[simp] theorem State.idleAck_mem x0 x1 (s : State) : (State.idleAck s x0 x1).med.mem = s.med.mem := by
  rfl

@[simp] theorem State.pumpN_mem x0 x1 (s : State) : (State.pumpN x0 x1 s).med.mem = s.med.mem := by
  induction x0 generalizing s with
  | zero => rfl
  | succ n ih =>
    simp only [State.pumpN]
    (repeat' split) <;> simp [ih]

@[simp] theorem State.pump_mem x1 (s : State) : (State.pump s x1).med.mem = s.med.mem := by
  simp [State.pump]

@[simp] theorem State.sendOn_mem x1 x2 x3 x4 (s : State) : (State.sendOn s x1 x2 x3 x4).med.mem = s.med.mem := by
  simp [State.sendOn]

theorem State.forward_mem {s t : State} {h d f} (e : s.forward h d f = some t) : t.med.mem = s.med.mem := by
  simp only [State.forward] at e
  split at e
  · cases e
  · split at e
    · cases e
    · cases e; simp

@[simp] theorem State.inject_mem (s u : State) (h d) : ((s.inject h d).getD u).med.mem = (if (s.inject h d).isSome then s.med.mem else u.med.mem) := by
  cases e : s.inject h d with
  | none => simp
  | some t => simpa using State.forward_mem e

@[simp] theorem State.sendMgmt_mem x1 x2 x3 x4 (s : State) : (State.sendMgmt s x1 x2 x3 x4).med.mem = s.med.mem := by
  simp [State.sendMgmt]

@[simp] theorem State.enqueueBe_mem x0 x1 x2 x3 x4 x5 (s : State) : (State.enqueueBe s x0 x1 x2 x3 x4 x5).med.mem = s.med.mem := by
  rfl

@[simp] theorem State.dropScrubs_mem x0 (s : State) : (State.dropScrubs s x0).med.mem = s.med.mem := by
  simp [State.dropScrubs]

@[simp] theorem State.markEvent_mem x1 x2 (s : State) : (State.markEvent s x1 x2).med.mem = s.med.mem := by
  rfl

@[simp] theorem State.countUnit_mem x1 (s : State) : (State.countUnit s x1).med.mem = s.med.mem := by
  simp [State.countUnit]

@[simp] theorem State.countCorrected_mem x1 x2 (s : State) : (State.countCorrected s x1 x2).med.mem = s.med.mem := by
  simp [State.countCorrected]

@[simp] theorem State.countUe_mem x1 (s : State) : (State.countUe s x1).med.mem = s.med.mem := by
  rfl

@[simp] theorem State.applyFlip_mem x1 (s : State) : (State.applyFlip s x1).med.mem = s.med.mem := by
  simp [State.applyFlip]

@[simp] theorem State.flipRange_mem x0 x1 (s : State) : (State.flipRange s x0 x1).med.mem = s.med.mem := by
  unfold State.flipRange
  (try dsimp only)
  refine foldl_mem _ (fun s x => ?_) _ _
  (try dsimp only)
  (repeat' split) <;> simp

@[simp] theorem State.clearErrors_mem x0 (s : State) : (State.clearErrors s x0).med.mem = s.med.mem := by
  rfl

@[simp] theorem State.writeParity_mem x0 x1 (s : State) : (State.writeParity s x0 x1).med.mem = s.med.mem := by
  simp [State.writeParity]

@[simp] theorem State.parityLost_mem x0 x1 (s : State) : (State.parityLost s x0 x1).med.mem = s.med.mem := by
  simp [State.parityLost]

@[simp] theorem State.evictParity_mem x0 (s : State) : (State.evictParity s x0).med.mem = s.med.mem := by
  simp only [State.evictParity]
  (repeat' split) <;> simp [*]

@[simp] theorem State.fetchParity_mem x0 (s : State) : (State.fetchParity s x0).2.med.mem = s.med.mem := by
  simp only [State.fetchParity]
  (repeat' split) <;> simp [*]

@[simp] theorem State.addParity_mem x0 x1 (s : State) : (State.addParity s x0 x1).med.mem = s.med.mem := by
  simp [State.addParity]

@[simp] theorem State.updateParity_mem x0 x1 x2 (s : State) : (State.updateParity s x0 x1 x2).med.mem = s.med.mem := by
  simp [State.updateParity]

@[simp] theorem State.freshParity_mem x0 (s : State) : (State.freshParity s x0).med.mem = s.med.mem := by
  simp [State.freshParity]

@[simp] theorem State.freshBlock_mem x0 (s : State) : (State.freshBlock s x0).med.mem = s.med.mem := by
  simp [State.freshBlock]

@[simp] theorem State.markDirty_mem x1 (s : State) : (State.markDirty s x1).med.mem = s.med.mem := by
  rfl

@[simp] theorem State.tagLine_mem x0 x1 (s : State) : (State.tagLine s x0 x1).med.mem = s.med.mem := by
  rfl

theorem State.applyDelta_poison_mem (s : State) (dpa delta) : (s.applyDelta dpa delta true).med.mem = s.med.mem := by
  unfold State.applyDelta
  dsimp only
  (repeat' split) <;> simp at *

theorem State.sendDeltas_poison_mem (s : State) (dpa delta) : (s.sendDeltas dpa delta true).med.mem = s.med.mem := by
  unfold State.sendDeltas
  split
  · rfl
  · refine foldl_mem _ (fun s h => ?_) _ _
    dsimp only
    split
    · exact State.applyDelta_poison_mem _ _ _
    · rw [State.inject_mem]; simp

@[simp] theorem State.poisonLine_mem x0 (s : State) : (State.poisonLine s x0).med.mem = s.med.mem := by
  unfold State.poisonLine
  dsimp only
  split
  · rfl
  · rw [foldl_mem _ (fun s x => State.applyFlip_mem x s), State.sendDeltas_poison_mem]; simp

@[simp] theorem State.wordLost_mem x0 x1 x2 (s : State) : (State.wordLost s x0 x1 x2).med.mem = s.med.mem := by
  simp [State.wordLost]

@[simp] theorem State.pageDecoded_mem x0 x1 x2 x3 x4 (s : State) : (State.pageDecoded s x0 x1 x2 x3 x4).med.mem = s.med.mem := by
  simp [State.pageDecoded]

@[simp] theorem State.pageFailed_mem x0 x1 x2 x3 (s : State) : (State.pageFailed s x0 x1 x2 x3).med.mem = s.med.mem := by
  simp [State.pageFailed]

@[simp] theorem State.pageWritten_mem x0 (s : State) : (State.pageWritten s x0).med.mem = s.med.mem := by
  simp [State.pageWritten]

@[simp] theorem State.takeEscSlots_mem x0 x1 x2 x3 (s : State) : (State.takeEscSlots s x0 x1 x2 x3).med.mem = s.med.mem := by
  simp [State.takeEscSlots]

@[simp] theorem State.recover_mem x0 (s : State) : (State.recover s x0).2.med.mem = s.med.mem := by
  simp only [State.recover]
  (repeat' split) <;> simp [*]

@[simp] theorem State.readWord_mem x0 x1 x2 (s : State) : (State.readWord s x0 x1 x2).2.med.mem = s.med.mem := by
  simp only [State.readWord]
  (repeat' split) <;> simp [*]

@[simp] theorem State.dropMerge_mem x1 (s : State) : (State.dropMerge s x1).med.mem = s.med.mem := by
  rfl

@[simp] theorem State.dropPartial_mem x1 (s : State) : (State.dropPartial s x1).med.mem = s.med.mem := by
  simp [State.dropPartial]

@[simp] theorem State.readLine_mem x0 x1 (s : State) : (State.readLine s x0 x1).2.med.mem = s.med.mem := by
  unfold State.readLine
  split
  · rfl
  · dsimp only
    generalize hr : List.foldl _ _ _ = r
    have h1 : r.2.med.mem = s.med.mem := by
      rw [← hr]
      exact foldl_pair_mem _ (fun a w => by simp) _ _
    (repeat' split) <;> simp [h1]

@[simp] theorem State.readBytes_mem x0 x1 (s : State) : (State.readBytes s x0 x1).2.med.mem = s.med.mem := by
  exact foldl_pair_mem _ (fun a x => by simp) _ _

@[simp] theorem State.armGlaze_mem x1 (s : State) : (State.armGlaze s x1).med.mem = s.med.mem := by
  simp [State.armGlaze]

@[simp] theorem State.holdWrite_mem x0 x1 x2 x3 (s : State) : (State.holdWrite s x0 x1 x2 x3).med.mem = s.med.mem := by
  rfl

@[simp] theorem State.releaseMerge_mem x1 (s : State) : (State.releaseMerge s x1).med.mem = s.med.mem := by
  simp only [State.releaseMerge]
  (repeat' split) <;> simp [*]

@[simp] theorem State.releaseAll_mem  (s : State) : (State.releaseAll s).med.mem = s.med.mem := by
  simp [State.releaseAll]

@[simp] theorem refuse_mem x0 (s : State) : (refuse x0 s).2.2.med.mem = s.med.mem := by
  rfl

@[simp] theorem done_mem (s : State) : (done s).2.2.med.mem = s.med.mem := by
  rfl

@[simp] theorem State.modClient_mem x1 x2 (s : State) : (State.modClient s x1 x2).med.mem = s.med.mem := by
  rfl

@[simp] theorem State.countResponse_mem x1 (s : State) : (State.countResponse s x1).med.mem = s.med.mem := by
  simp [State.countResponse]

@[simp] theorem State.answer_mem x1 x2 x3 (s : State) : (State.answer s x1 x2 x3).med.mem = s.med.mem := by
  simp [State.answer]

@[simp] theorem State.gapPush_mem x1 x2 (s : State) : (State.gapPush s x1 x2).med.mem = s.med.mem := by
  simp [State.gapPush]

theorem State.request_mem (s : State) (c : Client) (idx sub val) (op : Op) (h : ∀ s, (op s).2.2.med.mem = s.med.mem) :
    (s.request c idx sub val op).med.mem = s.med.mem := by
  simp only [State.request]
  (repeat' split) <;> simp [h]

@[simp] theorem State.pushRecord_mem x1 x2 (s : State) : (State.pushRecord s x1 x2).med.mem = s.med.mem := by
  simp [State.pushRecord]

@[simp] theorem gateWrite_mem x0 x1 x2 (s : State) : (gateWrite x0 x1 x2 s).2.2.med.mem = s.med.mem := by
  simp only [gateWrite]
  (repeat' split) <;> simp [*]

@[simp] theorem State.putOnWheel_mem x0 x1 x2 x3 (s : State) : (State.putOnWheel s x0 x1 x2 x3).med.mem = s.med.mem := by
  rfl

@[simp] theorem State.settleHead_mem x0 x1 (s : State) : (State.settleHead s x0 x1).med.mem = s.med.mem := by
  simp only [State.settleHead]
  (repeat' split) <;> simp [*]

@[simp] theorem State.settleHeads_mem x0 (s : State) : (State.settleHeads s x0).med.mem = s.med.mem := by
  simp [State.settleHeads]

@[simp] theorem State.shaperApply_mem x1 x2 (s : State) : (State.shaperApply s x1 x2).med.mem = s.med.mem := by
  simp [State.shaperApply]

@[simp] theorem shaperWrite_mem x0 x1 (s : State) : (shaperWrite x0 x1 s).2.2.med.mem = s.med.mem := by
  simp only [shaperWrite]
  (repeat' split) <;> simp [*]

@[simp] theorem State.retain_mem x0 x1 x2 (s : State) : (State.retain s x0 x1 x2).med.mem = s.med.mem := by
  rfl

@[simp] theorem State.activateRow_mem x1 x2 x3 x4 x5 (s : State) : (State.activateRow s x1 x2 x3 x4 x5).med.mem = s.med.mem := by
  simp only [State.activateRow]
  (repeat' split) <;> simp [*]

@[simp] theorem State.command_mem x0 x1 x2 x3 x4 x5 x6 (s : State) : (State.command s x0 x1 x2 x3 x4 x5 x6).med.mem = s.med.mem := by
  simp only [State.command]
  (repeat' split) <;> simp [*]

@[simp] theorem State.manageBanks_mem x0 (s : State) : (State.manageBanks s x0).med.mem = s.med.mem := by
  simp [State.manageBanks]

@[simp] theorem State.refreshGate_mem x0 (s : State) : (State.refreshGate s x0).med.mem = s.med.mem := by
  simp [State.refreshGate]

@[simp] theorem State.calibrateGate_mem x0 (s : State) : (State.calibrateGate s x0).med.mem = s.med.mem := by
  simp [State.calibrateGate]

@[simp] theorem State.doWork_mem x0 (s : State) : (State.doWork s x0).med.mem = s.med.mem := by
  simp only [State.doWork]
  (repeat' split) <;> simp [*]

@[simp] theorem State.washWrite_mem x0 (s : State) : (State.washWrite s x0).med.mem = s.med.mem := by
  simp only [State.washWrite]
  (repeat' split) <;> simp [*]

@[simp] theorem State.issueBe_mem x1 x2 (s : State) : (State.issueBe s x1 x2).med.mem = s.med.mem := by
  simp [State.issueBe]

@[simp] theorem State.issueFit_mem x0 x1 x2 x3 (s : State) : (State.issueFit x0 x1 x2 x3 s).med.mem = s.med.mem := by
  induction x0 generalizing x2 s with
  | zero => rfl
  | succ n ih =>
    simp only [State.issueFit]
    split <;> simp [ih]

@[simp] theorem State.giveEsc_mem x0 x1 (s : State) : (State.giveEsc s x0 x1).med.mem = s.med.mem := by
  rfl

@[simp] theorem State.countTaken_mem x0 (s : State) : (State.countTaken s x0).med.mem = s.med.mem := by
  rfl

@[simp] theorem State.freeSlot_mem x1 x2 (s : State) : (State.freeSlot s x1 x2).med.mem = s.med.mem := by
  simp only [State.freeSlot]
  (repeat' split) <;> simp [*]

@[simp] theorem State.lentSlot_mem x0 x1 x2 (s : State) : (State.lentSlot s x0 x1 x2).med.mem = s.med.mem := by
  simp only [State.lentSlot]
  (repeat' split) <;> simp [*]

@[simp] theorem State.issuePlan_mem x1 x2 x3 (s : State) : (State.issuePlan s x1 x2 x3).med.mem = s.med.mem := by
  simp [State.issuePlan]

@[simp] theorem State.gateUsed_mem x1 x2 (s : State) : (State.gateUsed s x1 x2).med.mem = s.med.mem := by
  rfl

@[simp] theorem State.planSlot_mem x0 x1 x2 x3 (s : State) : (State.planSlot s x0 x1 x2 x3).med.mem = s.med.mem := by
  simp only [State.planSlot]
  (repeat' split) <;> simp [*]

@[simp] theorem State.slotOf_mem x1 x2 (s : State) : (State.slotOf s x1 x2).med.mem = s.med.mem := by
  simp only [State.slotOf]
  (repeat' split) <;> simp [*]

@[simp] theorem State.refill_mem x1 (s : State) : (State.refill s x1).med.mem = s.med.mem := by
  simp [State.refill]

@[simp] theorem State.runCycles_mem x1 (s : State) : (State.runCycles s x1).med.mem = s.med.mem := by
  rfl

@[simp] theorem State.upset_mem x0 (s : State) : (State.upset s x0).med.mem = s.med.mem := by
  simp only [State.upset]
  (repeat' split) <;> simp [*]

@[simp] theorem State.sendStored_mem (s : State) : (State.sendStored s).med.mem = s.med.mem := by
  simp [State.sendStored]

@[simp] theorem State.updateReady_mem (s : State) : (State.updateReady s).med.mem = s.med.mem := by
  simp [State.updateReady]

@[simp] theorem State.sendMarkers_mem  (s : State) : (State.sendMarkers s).med.mem = s.med.mem := by
  simp [State.sendMarkers]

@[simp] theorem State.frameMarker_mem x1 x2 (s : State) : (State.frameMarker s x1 x2).med.mem = s.med.mem := by
  simp [State.frameMarker]

@[simp] theorem State.onVats_mem x1 x2 (s : State) : (State.onVats s x1 x2).med.mem = s.med.mem := by
  simp [State.onVats]

@[simp] theorem State.putDir_mem x1 x2 (s : State) : (State.putDir s x1 x2).med.mem = s.med.mem := by
  rfl

@[simp] theorem State.modCache_mem x1 x2 (s : State) : (State.modCache s x1 x2).med.mem = s.med.mem := by
  simp only [State.modCache]
  (repeat' split) <;> simp [*]

@[simp] theorem State.checkCached_mem x0 x1 (s : State) : (State.checkCached s x0 x1).med.mem = s.med.mem := by
  simp only [State.checkCached]
  (repeat' split) <;> simp [*]

@[simp] theorem State.dropVats_mem x1 x2 (s : State) : (State.dropVats s x1 x2).2.med.mem = s.med.mem := by
  induction x2 generalizing s with
  | nil => rfl
  | cons k ks ih =>
    simp only [State.dropVats]
    (repeat' split) <;> simp [ih]

@[simp] theorem State.snoop_mem x1 x2 x3 (s : State) : (State.snoop s x1 x2 x3).med.mem = s.med.mem := by
  simp [State.snoop]

@[simp] theorem State.endHost_mem x1 x2 x3 (s : State) : (State.endHost s x1 x2 x3).med.mem = s.med.mem := by
  rfl

@[simp] theorem State.enqueueHome_mem x1 (s : State) : (State.enqueueHome s x1).med.mem = s.med.mem := by
  simp [State.enqueueHome]

@[simp] theorem State.learn_mem x1 x2 (s : State) : (State.learn s x1 x2).med.mem = s.med.mem := by
  rfl

@[simp] theorem State.writeResult_mem x1 x2 x3 x4 (s : State) : (State.writeResult s x1 x2 x3 x4).med.mem = s.med.mem := by
  simp [State.writeResult]

@[simp] theorem requesterRevive_mem x0 (s : State) : (requesterRevive x0 s).2.2.med.mem = s.med.mem := by
  simp only [requesterRevive]
  (repeat' split) <;> simp [*]

@[simp] theorem State.imageBytes_mem x1 x2 x3 (s : State) : (State.imageBytes s x1 x2 x3).2.med.mem = s.med.mem := by
  simp only [State.imageBytes]
  (repeat' split) <;> simp [*]

@[simp] theorem State.sectionEntry_mem x1 x2 x3 x4 (s : State) : (State.sectionEntry s x1 x2 x3 x4).2.med.mem = s.med.mem := by
  simp [State.sectionEntry]

@[simp] theorem State.countFlags_mem x1 (s : State) : (State.countFlags s x1).med.mem = s.med.mem := by
  simp [State.countFlags]

@[simp] theorem State.stepRecord_mem x1 x2 x3 (s : State) : (State.stepRecord s x1 x2 x3).med.mem = s.med.mem := by
  simp [State.stepRecord]

@[simp] theorem State.stepEnd_mem x1 x2 x3 x4 (s : State) : (State.stepEnd s x1 x2 x3 x4).med.mem = s.med.mem := by
  simp [State.stepEnd]

@[simp] theorem State.invocationRecord_mem x1 x2 (s : State) : (State.invocationRecord s x1 x2).med.mem = s.med.mem := by
  simp only [State.invocationRecord]
  (repeat' split) <;> simp [*]

@[simp] theorem State.sendNotices_mem x1 (s : State) : (State.sendNotices s x1).med.mem = s.med.mem := by
  simp only [State.sendNotices]
  (repeat' split) <;> simp [*]

@[simp] theorem State.markFaults_mem x0 x1 (s : State) : (State.markFaults s x0 x1).med.mem = s.med.mem := by
  unfold State.markFaults
  (try dsimp only)
  refine foldl_mem _ (fun s x => ?_) _ _
  (try dsimp only)
  (repeat' split) <;> simp

@[simp] theorem State.stepFault_mem x1 x2 x3 x4 x5 x6 (s : State) : (State.stepFault s x1 x2 x3 x4 x5 x6).med.mem = s.med.mem := by
  rfl

@[simp] theorem State.toHead_mem x1 (s : State) : (State.toHead s x1).med.mem = s.med.mem := by
  simp only [State.toHead]
  (repeat' split) <;> simp [*]

@[simp] theorem State.poolRequest_mem x1 x2 x3 w (s : State) : (State.poolRequest s x1 x2 x3 w).2.med.mem = s.med.mem := by
  simp only [State.poolRequest]
  split
  · rename_i e; simpa using State.forward_mem e
  · rfl

@[simp] theorem State.planRequest_mem x1 x2 x3 (s : State) : (State.planRequest s x1 x2 x3).med.mem = s.med.mem := by
  rfl

@[simp] theorem State.fillBundles_mem x0 x1 x2 (s : State) : (State.fillBundles s x0 x1 x2).med.mem = s.med.mem := by
  rfl

@[simp] theorem State.passNop_mem x0 x1 (s : State) : (State.passNop s x0 x1).med.mem = s.med.mem := by
  rfl

@[simp] theorem State.palCheck_mem x0 x1 (s : State) : (State.palCheck s x0 x1).2.med.mem = s.med.mem := by
  simp [State.palCheck]

@[simp] theorem State.raise_mem x1 x2 (s : State) : (State.raise s x1 x2).med.mem = s.med.mem := by
  rfl

@[simp] theorem State.freeBank_mem x1 x2 x3 (s : State) : (State.freeBank s x1 x2 x3).med.mem = s.med.mem := by
  simp only [State.freeBank, State.modVat_mem, State.takeWords_mem]

@[simp] theorem State.drainBank_mem x0 x1 x2 (s : State) : (State.drainBank s x0 x1 x2).med.mem = s.med.mem := by
  rfl

@[simp] theorem State.readReg_mem x1 x2 x3 (s : State) : (State.readReg s x1 x2 x3).2.med.mem = s.med.mem := by
  simp only [State.readReg]
  (repeat' split) <;> simp [*]

@[simp] theorem State.writeReg_mem x1 x2 x3 x4 x5 (s : State) : (State.writeReg s x1 x2 x3 x4 x5).med.mem = s.med.mem := by
  rfl

@[simp] theorem State.readPal_mem x0 x1 x2 x3 x4 (s : State) : (State.readPal s x0 x1 x2 x3 x4).2.med.mem = s.med.mem := by
  simp only [State.readPal]
  (repeat' split) <;> simp [*]

@[simp] theorem State.readDrain_mem x1 x2 (s : State) : (State.readDrain s x1 x2).2.med.mem = s.med.mem := by
  simp only [State.readDrain]
  (repeat' split) <;> simp [*]

@[simp] theorem State.writePal_mem x0 x1 x2 x3 x4 x5 x6 x7 (s : State) : (State.writePal s x0 x1 x2 x3 x4 x5 x6 x7).med.mem = s.med.mem := by
  simp only [State.writePal]
  (repeat' split) <;> simp [*]

@[simp] theorem State.vecSources_mem x0 x1 x2 x3 x4 (s : State) : (State.vecSources s x0 x1 x2 x3 x4).2.med.mem = s.med.mem := by
  simp only [State.vecSources]
  (repeat' split) <;> simp [*]

@[simp] theorem State.vecRun_mem x1 x2 x3 x4 x5 (s : State) : (State.vecRun s x1 x2 x3 x4 x5).med.mem = s.med.mem := by
  simp [State.vecRun]

@[simp] theorem State.readExp_mem x0 x1 x2 (s : State) : (State.readExp s x0 x1 x2).2.med.mem = s.med.mem := by
  simp only [State.readExp]
  (repeat' split) <;> simp [*]

@[simp] theorem State.readMirror_mem x0 x1 (s : State) : (State.readMirror s x0 x1).2.med.mem = s.med.mem := by
  simp only [State.readMirror]
  (repeat' split) <;> simp [*]

@[simp] theorem State.walkFrom_mem x0 x1 x2 x3 x4 x5 x6 x7 (s : State) : (State.walkFrom x0 x1 x2 x3 x4 x5 x6 x7 s).2.med.mem = s.med.mem := by
  induction x2 generalizing x3 x4 x5 x6 x7 s with
  | zero => rfl
  | succ n ih =>
    simp only [State.walkFrom]
    (repeat' split) <;> simp [ih]

@[simp] theorem State.walk_mem x1 x2 (s : State) : (State.walk s x1 x2).2.med.mem = s.med.mem := by
  simp [State.walk]

@[simp] theorem State.install_mem x1 (s : State) : (State.install s x1).2.med.mem = s.med.mem := by
  simp only [State.install]
  (repeat' split) <;> simp [*]

@[simp] theorem State.unpin_mem x1 (s : State) : (State.unpin s x1).med.mem = s.med.mem := by
  rfl

@[simp] theorem State.startFetch_mem x1 x2 (s : State) : (State.startFetch s x1 x2).med.mem = s.med.mem := by
  simp [State.startFetch]

@[simp] theorem State.pinMore_mem x0 x1 (s : State) : (State.pinMore x0 x1 s).2.med.mem = s.med.mem := by
  induction x1 generalizing s with
  | zero => simp [State.pinMore]
  | succ n ih =>
    simp only [State.pinMore]
    split
    · split
      · rw [ih, State.install_mem]
      · rw [State.install_mem]
    · exact foldl_mem _ (fun s x => by simp) _ _

@[simp] theorem State.freePtt_mem x1 x2 x3 (s : State) : (State.freePtt s x1 x2 x3).med.mem = s.med.mem := by
  simp only [State.freePtt]
  (repeat' split) <;> simp [*]

@[simp] theorem State.endFetch_mem x1 x2 (s : State) : (State.endFetch s x1 x2).2.med.mem = s.med.mem := by
  unfold State.endFetch
  dsimp only
  split <;> simp only [State.freePtt_mem, State.install_mem]

@[simp] theorem State.askHost_mem x1 (s : State) : (State.askHost s x1).med.mem = s.med.mem := by
  rfl

@[simp] theorem State.walkDone_mem x1 (s : State) : (State.walkDone s x1).2.med.mem = s.med.mem := by
  simp only [State.walkDone]
  (repeat' split) <;> simp [*]

@[simp] theorem State.atsDone_mem x1 x2 (s : State) : (State.atsDone s x1 x2).2.med.mem = s.med.mem := by
  simp only [State.atsDone]
  (repeat' split) <;> simp [*]

@[simp] theorem State.invDone_mem x1 (s : State) : (State.invDone s x1).med.mem = s.med.mem := by
  simp only [State.invDone]
  (repeat' split) <;> simp [*]

@[simp] theorem State.invalidate_mem x1 x2 x3 x4 x5 (s : State) : (State.invalidate s x1 x2 x3 x4 x5).med.mem = s.med.mem := by
  simp [State.invalidate]

@[simp] theorem State.releasePins_mem x1 x2 (s : State) : (State.releasePins s x1 x2).med.mem = s.med.mem := by
  simp [State.releasePins]

@[simp] theorem invalidateOp_mem x0 x1 x2 (s : State) : (invalidateOp x0 x1 x2 s).2.2.med.mem = s.med.mem := by
  simp only [invalidateOp]
  (repeat' split) <;> simp [*]

@[simp] theorem State.joinPtt_mem x1 x2 x3 (s : State) : (State.joinPtt s x1 x2 x3).2.med.mem = s.med.mem := by
  simp only [State.joinPtt]
  (repeat' split) <;> simp [*]

@[simp] theorem State.engineFails_mem x1 x2 x3 (s : State) : (State.engineFails s x1 x2 x3).med.mem = s.med.mem := by
  simp only [State.engineFails]
  (repeat' split) <;> simp [*]

@[simp] theorem State.freeLoop_mem x0 x1 (s : State) : (State.freeLoop s x0 x1).med.mem = s.med.mem := by
  rfl

@[simp] theorem State.ringArrive_mem x0 (s : State) : (State.ringArrive s x0).med.mem = s.med.mem := by
  simp only [State.ringArrive]
  (repeat' split) <;> simp [*]

@[simp] theorem State.endWait_mem x1 (s : State) : (State.endWait s x1).med.mem = s.med.mem := by
  rfl

@[simp] theorem State.ringPassed_mem x0 x1 (s : State) : (State.ringPassed s x0 x1).med.mem = s.med.mem := by
  simp [State.ringPassed]

@[simp] theorem State.resetVatCore_mem x1 (s : State) : (State.resetVatCore s x1).med.mem = s.med.mem := by
  simp only [State.resetVatCore]
  (repeat' split) <;> simp [*]

@[simp] theorem State.lookPage_mem x1 x2 x3 (s : State) : (State.lookPage s x1 x2 x3).2.med.mem = s.med.mem := by
  simp only [State.lookPage]
  (repeat' split) <;> simp [*]

@[simp] theorem State.look_mem x0 x1 x2 x3 (s : State) : (State.look x0 x1 x2 x3 s).2.med.mem = s.med.mem := by
  induction x1 generalizing x2 x3 s with
  | zero => rfl
  | succ m ih =>
    unfold State.look
    dsimp only
    split
    · rfl
    · have h1 := State.lookPage_mem x0 x2 (Nat.min x3 (4096 - x2 % 4096)) s
      generalize s.lookPage x0 x2 (Nat.min x3 (4096 - x2 % 4096)) = r at h1
      obtain ⟨o, s1⟩ := r
      cases o with
      | bytes b =>
        have h2 := (ih (x2 + Nat.min x3 (4096 - x2 % 4096)) (x3 - Nat.min x3 (4096 - x2 % 4096)) s1).trans h1
        dsimp only
        split
        · rename_i e; rw [e] at h2; exact h2
        · exact h2
      | wait => exact h1
      | bad => exact h1

theorem State.look_eq {k m va n : Nat} {s t : State} {l : Look} (e : State.look k m va n s = (l, t)) : t.med.mem = s.med.mem := by
  rw [← State.look_mem k m va n s, e]

@[simp] theorem State.loadImage_mem x0 x1 (s : State) : (State.loadImage s x0 x1).2.med.mem = s.med.mem := by
  unfold State.loadImage
  split
  · rfl
  · split
    · rename_i e; exact State.look_eq e
    · rename_i e; exact State.look_eq e
    · rename_i hb s1 e1
      dsimp only
      have h1 := State.look_eq e1
      split
      · exact h1
      · split
        · exact h1
        · split
          · rename_i e; exact (State.look_eq e).trans h1
          · rename_i e; exact (State.look_eq e).trans h1
          · rename_i fb s2 e2
            have h2 := (State.look_eq e2).trans h1
            split
            · rename_i e; exact (State.look_eq e).trans h2
            · rename_i e; exact (State.look_eq e).trans h2
            · rename_i sb s3 e3
              have h3 := (State.look_eq e3).trans h2
              (repeat' split) <;> exact h3

@[simp] theorem State.takeVats_mem x1 x2 (s : State) : (State.takeVats s x1 x2).med.mem = s.med.mem := by
  simp [State.takeVats]

@[simp] theorem State.consume_mem x1 (s : State) : (State.consume s x1).med.mem = s.med.mem := by
  rfl

@[simp] theorem State.settleDisable_mem x1 (s : State) : (State.settleDisable s x1).med.mem = s.med.mem := by
  simp [State.settleDisable]

@[simp] theorem State.washVat_mem x1 (s : State) : (State.washVat s x1).med.mem = s.med.mem := by
  rfl

@[simp] theorem State.leaveVats_mem x1 (s : State) : (State.leaveVats s x1).med.mem = s.med.mem := by
  simp [State.leaveVats]

@[simp] theorem State.endResidency_mem x1 (s : State) : (State.endResidency s x1).med.mem = s.med.mem := by
  simp [State.endResidency]

@[simp] theorem State.headUses_mem x0 x1 (s : State) : (State.headUses s x0 x1).2.med.mem = s.med.mem := by
  unfold State.headUses
  dsimp only
  split
  · simp
  · split
    · rename_i e; exact (State.look_eq e).trans (by simp)
    · rename_i e; exact (State.look_eq e).trans (by simp)

@[simp] theorem State.eagerWash_mem x0 x1 (s : State) : (State.eagerWash s x0 x1).med.mem = s.med.mem := by
  unfold State.eagerWash
  split
  · rfl
  · refine foldl_mem _ (fun s x => ?_) _ _
    dsimp only
    (repeat' split) <;> simp

@[simp] theorem State.copyArgs_mem x1 x2 (s : State) : (State.copyArgs s x1 x2).med.mem = s.med.mem := by
  simp [State.copyArgs]

@[simp] theorem State.pushCmd_mem x1 x2 (s : State) : (State.pushCmd s x1 x2).med.mem = s.med.mem := by
  rfl

@[simp] theorem State.endTiles_mem x0 (s : State) : (State.endTiles s x0).med.mem = s.med.mem := by
  simp [State.endTiles]

@[simp] theorem State.atHead_mem x0 x1 (s : State) : (State.atHead s x0 x1).med.mem = s.med.mem := by
  rfl

@[simp] theorem State.copyPalette_mem x0 x1 x2 (s : State) : (State.copyPalette s x0 x1 x2).med.mem = s.med.mem := by
  simp [State.copyPalette]

@[simp] theorem State.skipRotation_mem x1 x2 (s : State) : (State.skipRotation s x1 x2).med.mem = s.med.mem := by
  simp [State.skipRotation]

@[simp] theorem State.slotVat_mem x0 (s : State) : (State.slotVat s x0).med.mem = s.med.mem := by
  simp [State.slotVat]

@[simp] theorem State.startSlice_mem x1 (s : State) : (State.startSlice s x1).med.mem = s.med.mem := by
  simp only [State.startSlice]
  (repeat' split) <;> simp [*]

@[simp] theorem State.dropDue_mem x1 (s : State) : (State.dropDue s x1).med.mem = s.med.mem := by
  rfl

@[simp] theorem State.aimTest_mem x1 (s : State) : (State.aimTest s x1).med.mem = s.med.mem := by
  rfl

@[simp] theorem State.testInPlace_mem x0 x1 (s : State) : (State.testInPlace s x0 x1).med.mem = s.med.mem := by
  simp [State.testInPlace]

@[simp] theorem State.vatFails_mem x1 x2 x3 (s : State) : (State.vatFails s x1 x2 x3).med.mem = s.med.mem := by
  simp only [State.vatFails]
  (repeat' split) <;> simp [*]

@[simp] theorem State.stopSlice_mem  (s : State) : (State.stopSlice s).med.mem = s.med.mem := by
  simp only [State.stopSlice]
  (repeat' split) <;> simp [*]

@[simp] theorem rotationEnable_mem x0 (s : State) : (rotationEnable x0 s).2.2.med.mem = s.med.mem := by
  simp only [rotationEnable]
  (repeat' split) <;> simp [*]

@[simp] theorem State.releaseLp_mem (s : State) : (State.releaseLp s).med.mem = s.med.mem := by
  unfold State.releaseLp
  refine foldl_mem _ (fun s x => ?_) _ _
  (repeat' split) <;> simp

@[simp] theorem State.sendPacket_mem x0 x1 (s : State) : (State.sendPacket s x0 x1).med.mem = s.med.mem := by
  unfold State.sendPacket
  rw [State.poolRequest_mem]

@[simp] theorem State.sendWord_mem x0 x1 x2 (s : State) : (State.sendWord s x0 x1 x2).med.mem = s.med.mem := by
  unfold State.sendWord
  exact State.sendPacket_mem _ _ _

@[simp] theorem State.copyFetch_mem x1 (s : State) : (State.copyFetch s x1).med.mem = s.med.mem := by
  simp only [State.copyFetch]
  (repeat' split) <;> simp [*]

@[simp] theorem State.copyStart_mem x1 (s : State) : (State.copyStart s x1).med.mem = s.med.mem := by
  simp only [State.copyStart]
  (repeat' split) <;> simp [*]

@[simp] theorem State.busError_mem x0 (s : State) : (State.busError s x0).med.mem = s.med.mem := by
  simp [State.busError]

@[simp] theorem State.dataTo_mem x0 x1 (s : State) : (State.dataTo s x0 x1).med.mem = s.med.mem := by
  simp only [State.dataTo]
  (repeat' split) <;> simp [*]

@[simp] theorem State.countLine_mem x0 (s : State) : (State.countLine s x0).med.mem = s.med.mem := by
  unfold State.countLine
  (try dsimp only)
  refine foldl_mem _ (fun s x => ?_) _ _
  (try dsimp only)
  (repeat' split) <;> simp

@[simp] theorem State.markHeld_mem x0 (s : State) : (State.markHeld s x0).med.mem = s.med.mem := by
  unfold State.markHeld
  (try dsimp only)
  refine foldl_mem _ (fun s x => ?_) _ _
  (try dsimp only)
  (repeat' split) <;> simp

@[simp] theorem State.escalate_mem x0 x1 x2 (s : State) : (State.escalate s x0 x1 x2).2.med.mem = s.med.mem := by
  simp only [State.escalate]
  (repeat' split) <;> simp [*]

@[simp] theorem State.uncorrectable_mem x0 x1 x2 x3 x4 (s : State) : (State.uncorrectable s x0 x1 x2 x3 x4).2.med.mem = s.med.mem := by
  simp only [State.uncorrectable]
  (repeat' split) <;> simp [*]

@[simp] theorem State.uncorrectables_mem x0 x1 x2 x3 x4 (s : State) : (State.uncorrectables s x0 x1 x2 x3 x4).2.med.mem = s.med.mem := by
  unfold State.uncorrectables
  (try dsimp only)
  refine foldl_pair_mem _ (fun a x => ?_) _ _
  (try dsimp only)
  (repeat' split) <;> simp

theorem execEscalationGrant_mem (errs) (s t : State) (e : execEscalationGrant errs s = .next t) : t.med.mem = s.med.mem := by
  unfold execEscalationGrant ok at e
  split at e
  · cases e; simp
  · cases e; rfl

theorem execParityCacheWriteback_mem (line) (s t : State) (e : execParityCacheWriteback line s = .next t) : t.med.mem = s.med.mem := by
  unfold execParityCacheWriteback ok at e
  split at e
  · cases e; rfl
  · split at e
    · cases e; simp
    · split at e
      · cases e; rfl
      · cases e; simp

@[simp] theorem State.endLap_mem x0 (s : State) : (State.endLap s x0).med.mem = s.med.mem := by
  rfl

@[simp] theorem scrubEnable_mem x0 (s : State) : (scrubEnable x0 s).2.2.med.mem = s.med.mem := by
  simp only [scrubEnable]
  (repeat' split) <;> simp [*]

@[simp] theorem flipControl_mem x0 x1 x2 (s : State) : (flipControl x0 x1 x2 s).2.2.med.mem = s.med.mem := by
  simp only [flipControl]
  (repeat' split) <;> simp [*]

@[simp] theorem State.makeFatal_mem x1 x2 x3 (s : State) : (State.makeFatal s x1 x2 x3).med.mem = s.med.mem := by
  simp [State.makeFatal]

@[simp] theorem State.setBlock_mem x0 x1 x2 (s : State) : (State.setBlock s x0 x1 x2).med.mem = s.med.mem := by
  rfl

@[simp] theorem State.setEntry_mem x1 x2 (s : State) : (State.setEntry s x1 x2).med.mem = s.med.mem := by
  rfl

@[simp] theorem State.setRow_mem x1 x2 (s : State) : (State.setRow s x1 x2).med.mem = s.med.mem := by
  simp [State.setRow]

@[simp] theorem State.startMove_mem x1 x2 x3 x4 x5 (s : State) : (State.startMove s x1 x2 x3 x4 x5).med.mem = s.med.mem := by
  simp [State.startMove]

@[simp] theorem State.tryMove_mem x1 x2 x3 x4 x5 (s : State) : (State.tryMove s x1 x2 x3 x4 x5).2.med.mem = s.med.mem := by
  unfold State.tryMove
  extract_lets -lift +onlyGivenNames change go
  have hgo (e w p) (r : State) (h : go e w p = some r) : r.med.mem = s.med.mem := by
    simp only [go, Option.map_eq_some_iff] at h
    obtain ⟨u, _, rfl⟩ := h
    simp
  split
  · rfl
  · split
    · split
      · rename_i e; exact hgo _ _ _ _ e
      · rfl
    · split
      · split
        · rename_i e; exact hgo _ _ _ _ e
        · rfl
      · split
        · rfl
        · extract_lets -lift +onlyGivenNames x lo n
          split
          · rfl
          · extract_lets -lift +onlyGivenNames a down
            split
            · rfl
            · split
              · rename_i e
                obtain ⟨p, _, hp⟩ := Option.bind_eq_some_iff.mp e
                exact hgo _ _ _ _ hp
              · rfl

@[simp] theorem State.startMoves_mem (s : State) : (State.startMoves s).med.mem = s.med.mem := by
  unfold State.startMoves
  split
  · rfl
  · refine foldl_mem _ (fun s k => foldl_mem _ (fun s q => ?_) _ _) _ _
    dsimp only
    (repeat' split) <;> simp

@[simp] theorem State.dropMove_mem x1 (s : State) : (State.dropMove s x1).med.mem = s.med.mem := by
  rfl

@[simp] theorem State.putMove_mem x1 x2 (s : State) : (State.putMove s x1 x2).med.mem = s.med.mem := by
  rfl

@[simp] theorem State.copyWords_mem x0 x1 (s : State) : (State.copyWords s x0 x1).med.mem = s.med.mem := by
  simp [State.copyWords]

@[simp] theorem State.swapBlock_mem x0 (s : State) : (State.swapBlock s x0).med.mem = s.med.mem := by
  simp only [State.swapBlock]
  (repeat' split) <;> simp [*]

@[simp] theorem copyRequest_mem x0 (s : State) : (copyRequest x0 s).2.2.med.mem = s.med.mem := by
  simp only [copyRequest]
  (repeat' split) <;> simp [*]

@[simp] theorem State.withdrawGlaze_mem x1 (s : State) : (State.withdrawGlaze s x1).med.mem = s.med.mem := by
  rfl

@[simp] theorem State.rotateKey_mem x1 (s : State) : (State.rotateKey s x1).med.mem = s.med.mem := by
  simp [State.rotateKey]

@[simp] theorem State.violate_mem x1 x2 x3 x4 (s : State) : (State.violate s x1 x2 x3 x4).med.mem = s.med.mem := by
  simp [State.violate]

@[simp] theorem State.beginHost_mem x1 x2 x3 (s : State) : (State.beginHost s x1 x2 x3).med.mem = s.med.mem := by
  rfl

@[simp] theorem State.hostPoison_mem x1 x2 (s : State) : (State.hostPoison s x1 x2).med.mem = s.med.mem := by
  rfl

@[simp] theorem State.muteRequests_mem x1 (s : State) : (State.muteRequests s x1).med.mem = s.med.mem := by
  rfl

@[simp] theorem State.endSession_mem x1 x2 (s : State) : (State.endSession s x1 x2).med.mem = s.med.mem := by
  unfold State.endSession
  dsimp only
  refine foldl_mem _ (fun s x => ?_) _ _
  (repeat' split) <;> simp

@[simp] theorem State.clearFunc_mem x1 x2 (s : State) : (State.clearFunc s x1 x2).med.mem = s.med.mem := by
  simp [State.clearFunc]

@[simp] theorem State.answerConfig_mem x0 (s : State) : (State.answerConfig s x0).med.mem = s.med.mem := by
  rfl

@[simp] theorem State.glazeRoom_mem x1 (s : State) : (State.glazeRoom s x1).2.med.mem = s.med.mem := by
  simp [State.glazeRoom]

@[simp] theorem State.reportFor_mem x1 x2 x3 x4 x5 (s : State) : (State.reportFor s x1 x2 x3 x4 x5).med.mem = s.med.mem := by
  simp only [State.reportFor]
  (repeat' split) <;> simp [*]

@[simp] theorem State.requestLost_mem x1 x2 x3 (s : State) : (State.requestLost s x1 x2 x3).med.mem = s.med.mem := by
  simp [State.requestLost]

@[simp] theorem State.reply_mem x1 x2 x3 x4 (s : State) : (State.reply s x1 x2 x3 x4).med.mem = s.med.mem := by
  simp [State.reply]

@[simp] theorem State.deltaDone_mem x1 (s : State) : (State.deltaDone s x1).med.mem = s.med.mem := by
  simp only [State.deltaDone]
  (repeat' split) <;> simp [*]

@[simp] theorem State.deltaAgain_mem x1 (s : State) : (State.deltaAgain s x1).med.mem = s.med.mem := by
  simp only [State.deltaAgain]
  (repeat' split) <;> simp [*]

@[simp] theorem State.poolDenied_mem x1 (s : State) : (State.poolDenied s x1).med.mem = s.med.mem := by
  simp [State.poolDenied]

@[simp] theorem State.takeArrival_mem x1 x2 (s : State) : (State.takeArrival s x1 x2).med.mem = s.med.mem := by
  rfl

@[simp] theorem State.takeDigest_mem x1 x2 (s : State) : (State.takeDigest s x1 x2).med.mem = s.med.mem := by
  simp [State.takeDigest]

@[simp] theorem State.takeWash_mem x1 x2 (s : State) : (State.takeWash s x1 x2).med.mem = s.med.mem := by
  simp [State.takeWash]

@[simp] theorem State.noWay_mem x1 x2 x3 (s : State) : (State.noWay s x1 x2 x3).med.mem = s.med.mem := by
  simp only [State.noWay]
  (repeat' split) <;> simp [*]

@[simp] theorem State.linkTo_mem x1 x2 (s : State) : (State.linkTo s x1 x2).med.mem = s.med.mem := by
  simp [State.linkTo]

@[simp] theorem State.takeAck_mem x1 x2 (s : State) : (State.takeAck s x1 x2).med.mem = s.med.mem := by
  simp only [State.takeAck]
  (repeat' split) <;> simp [*]

@[simp] theorem State.takeCredit_mem x1 x2 x3 (s : State) : (State.takeCredit s x1 x2 x3).med.mem = s.med.mem := by
  simp [State.takeCredit]

@[simp] theorem State.takeHeader_mem x1 x2 (s : State) : (State.takeHeader s x1 x2).med.mem = s.med.mem := by
  simp [State.takeHeader]

@[simp] theorem State.sendAck_mem x1 (s : State) : (State.sendAck s x1).med.mem = s.med.mem := by
  rfl

@[simp] theorem State.sendInit_mem x0 (s : State) : (State.sendInit s x0).med.mem = s.med.mem := by
  rfl

@[simp] theorem State.breakRing_mem (s : State) : (State.breakRing s).med.mem = s.med.mem := by
  unfold State.breakRing
  refine foldl_mem _ (fun s x => ?_) _ _
  simp

@[simp] theorem State.askRetrain_mem x1 x2 (s : State) : (State.askRetrain s x1 x2).med.mem = s.med.mem := by
  simp [State.askRetrain]

@[simp] theorem linkCommand_mem x0 x1 (s : State) : (linkCommand x0 x1 s).2.2.med.mem = s.med.mem := by
  simp only [linkCommand]
  (repeat' split) <;> simp [*]

@[simp] theorem State.checkRebuild_mem (s : State) : (State.checkRebuild s).med.mem = s.med.mem := by
  simp only [State.checkRebuild]
  (repeat' split) <;> simp [*]

@[simp] theorem State.readCongestion_mem x1 (s : State) : (State.readCongestion s x1).2.med.mem = s.med.mem := by
  rfl

theorem State.query_mem (s : State) (c : Client) (idx sub) (op : Op) (h : ∀ s, (op s).2.2.med.mem = s.med.mem) :
    (s.query c idx sub op).med.mem = s.med.mem := by
  simp only [State.query]
  (repeat' split) <;> simp [h]

@[simp] theorem State.fillSlots_mem (s : State) : (State.fillSlots s).med.mem = s.med.mem := by
  unfold State.fillSlots
  refine foldl_mem _ (fun s x => ?_) _ _
  (repeat' split) <;> simp

@[simp] theorem rebuildCommand_mem x0 (s : State) : (rebuildCommand x0 s).2.2.med.mem = s.med.mem := by
  simp only [rebuildCommand]
  (repeat' split) <;> simp [*]

@[simp] theorem State.loadMap_mem  (s : State) : (State.loadMap s).med.mem = s.med.mem := by
  simp [State.loadMap]

@[simp] theorem State.advanceCursor_mem x0 (s : State) : (State.advanceCursor x0 s).med.mem = s.med.mem := by
  induction x0 generalizing s with
  | zero => rfl
  | succ n ih =>
    simp only [State.advanceCursor]
    (repeat' split) <;> simp [ih]

@[simp] theorem State.crashBytes_mem (s : State) : (State.crashBytes s).2.med.mem = s.med.mem := by
  exact foldl_pair_mem _ (fun a x => by simp) _ _

theorem ite_pair_keeps {β : Type} {c : Prop} [Decidable c] {a b : β × State} {m : List Host.Cell} (ha : a.2.med.mem = m)
    (hb : b.2.med.mem = m) : (if c then a else b).2.med.mem = m := by
  split <;> assumption

@[simp] theorem State.domainBytes_mem x0 x1 x2 (s : State) : (State.domainBytes s x0 x1 x2).2.med.mem = s.med.mem := by
  unfold State.domainBytes
  repeat' first
    | with_reducible rfl
    | with_reducible exact State.crashBytes_mem s
    | with_reducible refine ite_pair_keeps ?_ ?_
  all_goals rfl

@[simp] theorem State.entryValue_mem x0 x1 x2 x3 (s : State) : (State.entryValue s x0 x1 x2 x3).2.med.mem = s.med.mem := by
  unfold State.entryValue
  split
  · exact State.domainBytes_mem _ _ _ _
  · rfl
  · rfl

@[simp] theorem State.spdmError_mem x1 x2 (s : State) : (State.spdmError s x1 x2).med.mem = s.med.mem := by
  rfl

@[simp] theorem State.agree_mem x1 x2 (s : State) : (State.agree s x1 x2).med.mem = s.med.mem := by
  rfl

theorem State.spdm_mem (s : State) (r stage) (f : State → State) (h : ∀ s, (f s).med.mem = s.med.mem) :
    (s.spdm r stage f).med.mem = s.med.mem := by
  simp only [State.spdm]
  (repeat' split) <;> simp [h]

theorem State.inSession_mem (s : State) (r id o code) (f : State → State) (h : ∀ s, (f s).med.mem = s.med.mem) :
    (s.inSession r id o code f).med.mem = s.med.mem := by
  simp only [State.inSession]
  (repeat' split) <;> simp [h]

@[simp] theorem State.modSession_mem x1 x2 x3 (s : State) : (State.modSession s x1 x2 x3).med.mem = s.med.mem := by
  rfl

@[simp] theorem lcTransition_mem x0 (s : State) : (lcTransition x0 s).2.2.med.mem = s.med.mem := by
  simp only [lcTransition]
  (repeat' split) <;> simp [*]

@[simp] theorem svnCommit_mem x0 (s : State) : (svnCommit x0 s).2.2.med.mem = s.med.mem := by
  simp only [svnCommit]
  (repeat' split) <;> simp [*]

@[simp] theorem State.skipSlice_mem x1 x2 x3 x4 (s : State) : (State.skipSlice s x1 x2 x3 x4).med.mem = s.med.mem := by
  simp [State.skipSlice]

@[simp] theorem State.abandonVat_mem x1 (s : State) : (State.abandonVat s x1).med.mem = s.med.mem := by
  simp only [State.abandonVat]
  (repeat' split) <;> simp [*]

@[simp] theorem State.abandonPatterns_mem x1 (s : State) : (State.abandonPatterns s x1).med.mem = s.med.mem := by
  unfold State.abandonPatterns
  refine foldl_mem _ (fun s x => ?_) _ _
  (repeat' split) <;> simp

@[simp] theorem State.retestSlices_mem (s : State) : (State.retestSlices s).med.mem = s.med.mem := by
  simp only [State.retestSlices]
  (repeat' split) <;> simp [*]

@[simp] theorem State.askPattern_mem x1 x2 (s : State) : (State.askPattern s x1 x2).med.mem = s.med.mem := by
  simp only [State.askPattern]
  (repeat' split) <;> simp

@[simp] theorem State.armPattern_mem x1 (s : State) : (State.armPattern s x1).med.mem = s.med.mem := by
  simp only [State.armPattern]
  (repeat' split) <;> simp [*]

@[simp] theorem State.askVat_mem x1 (s : State) : (State.askVat s x1).med.mem = s.med.mem := by
  simp only [State.askVat]
  (repeat' split) <;> simp [*]

@[simp] theorem testCommand_mem x0 x1 (s : State) : (testCommand x0 x1 s).2.2.med.mem = s.med.mem := by
  simp only [testCommand]
  (repeat' split) <;> simp [*]

@[simp] theorem dumpWrite_mem x0 x1 x2 (s : State) : (dumpWrite x0 x1 x2 s).2.2.med.mem = s.med.mem := by
  simp only [dumpWrite]
  (repeat' split) <;> simp [*]

@[simp] theorem State.writeVdd_mem x0 (s : State) : (State.writeVdd s x0).med.mem = s.med.mem := by
  simp [State.writeVdd]

@[simp] theorem State.retarget_mem (s : State) : (State.retarget s).med.mem = s.med.mem := by
  simp [State.retarget]

@[simp] theorem State.applyStep_mem (s : State) : (State.applyStep s).med.mem = s.med.mem := by
  simp [State.applyStep]

@[simp] theorem State.markThrottle_mem (s : State) : (State.markThrottle s).med.mem = s.med.mem := by
  simp [State.markThrottle]

@[simp] theorem State.testEmergency_mem (s : State) : (State.testEmergency s).med.mem = s.med.mem := by
  simp only [State.testEmergency]
  (repeat' split) <;> simp [*]

@[simp] theorem State.sensorRead_mem x1 x2 (s : State) : (State.sensorRead s x1 x2).med.mem = s.med.mem := by
  simp [State.sensorRead]

@[simp] theorem State.heat_mem x1 x2 (s : State) : (State.heat s x1 x2).med.mem = s.med.mem := by
  simp [State.heat]

@[simp] theorem State.testTrip_mem (s : State) : (State.testTrip s).med.mem = s.med.mem := by
  simp [State.testTrip]

@[simp] theorem State.testThrottle_mem (s : State) : (State.testThrottle s).med.mem = s.med.mem := by
  simp [State.testThrottle]

@[simp] theorem State.missSample_mem x0 (s : State) : (State.missSample s x0).med.mem = s.med.mem := by
  rfl

@[simp] theorem throttleWrite_mem x0 x1 (s : State) : (throttleWrite x0 x1 s).2.2.med.mem = s.med.mem := by
  simp only [throttleWrite]
  (repeat' split) <;> simp [*]

@[simp] theorem State.coldSec_mem (s : State) : (State.coldSec s).2.med.mem = s.med.mem := by
  simp only [State.coldSec]
  (repeat' split) <;> simp [*]

@[simp] theorem State.enterPhase_mem x1 (s : State) : (State.enterPhase s x1).med.mem = s.med.mem := by
  rfl

@[simp] theorem State.leaveReset_mem (s : State) : (State.leaveReset s).med.mem = s.med.mem := by
  simp [State.leaveReset]

@[simp] theorem State.freeEscSlots_mem  (s : State) : (State.freeEscSlots s).med.mem = s.med.mem := by
  rfl

@[simp] theorem State.heldParity_mem (s : State) : (State.heldParity s).med.mem = s.med.mem := by
  unfold State.heldParity
  refine foldl_mem _ (fun s l => ?_) _ _
  cases e : execParityCacheWriteback l s with
  | next t => exact execParityCacheWriteback_mem _ _ _ e
  | fault => rfl
  | refused => rfl

@[simp] theorem State.mergeSource_mem x1 (s : State) : (State.mergeSource s x1).med.mem = s.med.mem := by
  rfl

@[simp] theorem State.turnOn_mem (s : State) : (State.turnOn s).med.mem = s.med.mem := by
  simp [State.turnOn]

@[simp] theorem State.fixRails_mem  (s : State) : (State.fixRails s).med.mem = s.med.mem := by
  rfl

@[simp] theorem State.bringUpStops_mem (s : State) : (State.bringUpStops s).med.mem = s.med.mem := by
  rfl

@[simp] theorem State.startTraining_mem (s : State) : (State.startTraining s).med.mem = s.med.mem := by
  rfl

@[simp] theorem State.slicesTrained_mem x1 (s : State) : (State.slicesTrained s x1).med.mem = s.med.mem := by
  simp [State.slicesTrained]

@[simp] theorem State.setChannel_mem x1 x2 x3 x4 x5 x6 x7 (s : State) : (State.setChannel s x1 x2 x3 x4 x5 x6 x7).med.mem = s.med.mem := by
  rfl

@[simp] theorem State.channelTrained_mem x1 x2 (s : State) : (State.channelTrained s x1 x2).med.mem = s.med.mem := by
  simp only [State.channelTrained]
  (repeat' split) <;> simp [*]

@[simp] theorem State.buildMap_mem (s : State) : (State.buildMap s).med.mem = s.med.mem := by
  rfl

@[simp] theorem State.enterReleased_mem (s : State) : (State.enterReleased s).med.mem = s.med.mem := by
  simp [State.enterReleased]

@[simp] theorem State.recordReset_mem  (s : State) : (State.recordReset s).med.mem = s.med.mem := by
  simp [State.recordReset]

@[simp] theorem State.firmwareRuns_mem (s : State) : (State.firmwareRuns s).med.mem = s.med.mem := by
  simp [State.firmwareRuns]

theorem State.requestThen_mem (s : State) (c : Client) (idx sub val) (op : Op) (f : State → State) (h : ∀ s, (op s).2.2.med.mem = s.med.mem)
    (hf : ∀ s, (f s).med.mem = s.med.mem) : (s.requestThen c idx sub val op f).med.mem = s.med.mem := by
  simp only [State.requestThen]
  (repeat' split) <;> simp [hf, State.request_mem s c idx sub val op h]

@[simp] theorem State.runImage_mem x1 (s : State) : (State.runImage s x1).med.mem = s.med.mem := by
  rfl

@[simp] theorem State.imageWrite_mem x1 x2 x3 (s : State) : (State.imageWrite s x1 x2 x3).med.mem = s.med.mem := by
  simp [State.imageWrite]

@[simp] theorem State.imageGo_mem x1 (s : State) : (State.imageGo s x1).med.mem = s.med.mem := by
  simp [State.imageGo]

@[simp] theorem State.answerGo_mem (s : State) : (State.answerGo s).med.mem = s.med.mem := by
  simp only [State.answerGo]
  (repeat' split) <;> simp [*]

@[simp] theorem State.takeControl_mem x1 (s : State) : (State.takeControl s x1).med.mem = s.med.mem := by
  simp [State.takeControl]

@[simp] theorem State.switchOver_mem x1 (s : State) : (State.switchOver s x1).med.mem = s.med.mem := by
  simp [State.switchOver]

@[simp] theorem State.planSwitch_mem x1 (s : State) : (State.planSwitch s x1).med.mem = s.med.mem := by
  simp [State.planSwitch]

@[simp] theorem complexCommand_mem x0 x1 (s : State) : (complexCommand x0 x1 s).2.2.med.mem = s.med.mem := by
  simp only [complexCommand]
  (repeat' split) <;> simp [*]

@[simp] theorem State.bootStandby_mem x1 x2 (s : State) : (State.bootStandby s x1 x2).med.mem = s.med.mem := by
  simp [State.bootStandby]

@[simp] theorem fwCommand_mem x0 (s : State) : (fwCommand x0 s).2.2.med.mem = s.med.mem := by
  simp only [fwCommand]
  (repeat' split) <;> simp [*]

theorem State.staging_mem (s : State) (f : State → State) (h : ∀ s, (f s).med.mem = s.med.mem) :
    (s.staging f).2.2.med.mem = s.med.mem := by
  simp only [State.staging]
  (repeat' split) <;> simp [h, done, refuse]

@[simp] theorem stageWrite_mem x0 (s : State) : (stageWrite x0 s).2.2.med.mem = s.med.mem := by
  unfold stageWrite
  split
  · rfl
  · exact State.staging_mem _ _ (fun _ => rfl)

@[simp] theorem stageLength_mem x0 (s : State) : (stageLength x0 s).2.2.med.mem = s.med.mem := by
  unfold stageLength
  split
  · rfl
  · exact State.staging_mem _ _ (fun _ => rfl)

@[simp] theorem State.tap_mem x1 (s : State) : (State.tap s x1).med.mem = s.med.mem := by
  rfl

@[simp] theorem State.logRecord_mem x1 (s : State) : (State.logRecord s x1).med.mem = s.med.mem := by
  simp [State.logRecord]

@[simp] theorem logPosition_mem x0 x1 (s : State) : (logPosition x0 x1 s).2.2.med.mem = s.med.mem := by
  rfl

@[simp] theorem faultAck_mem x0 (s : State) : (faultAck x0 s).2.2.med.mem = s.med.mem := by
  rfl

@[simp] theorem keep_mem x0 x1 x2 (s : State) : (keep x0 x1 x2 s).2.2.med.mem = s.med.mem := by
  rfl

@[simp] theorem keepIf_mem x0 x1 x2 x3 (s : State) : (keepIf x0 x1 x2 x3 s).2.2.med.mem = s.med.mem := by
  simp only [keepIf]
  (repeat' split) <;> simp [*]

theorem whileStopped_mem (b : Bool) (op : Op) (s : State) (ho : (op s).2.2.med.mem = s.med.mem) : (whileStopped b op s).2.2.med.mem = s.med.mem := by
  unfold whileStopped
  split
  · exact ho
  · rfl

@[simp] theorem keepRange_mem x0 x1 x2 (s : State) : (keepRange x0 x1 x2 s).2.2.med.mem = s.med.mem := by
  simp [keepRange]

@[simp] theorem partitionWrite_mem x0 x1 x2 (s : State) : (partitionWrite x0 x1 x2 s).2.2.med.mem = s.med.mem := by
  simp only [partitionWrite]
  (repeat' split) <;> simp [*]

theorem State.setBlock_mem' (s : State) (e u n) : (s.setBlock e u n).med.mem = s.med.mem := by simp

theorem State.placeBlocks_mem {s t : State} (e : s.placeBlocks = some t) : t.med.mem = s.med.mem := by
  unfold State.placeBlocks at e
  have : ∀ (l : List (Nat × BitVec 32)) (o : Option State), (∀ u, o = some u → u.med.mem = s.med.mem) → ∀ t,
      l.foldl (fun (o : Option State) p => o.bind (fun s =>
        (s.armourPlace (if bit p.2 21 then 1 else 0) p.1 (armourUnits (bits p.2 27 25)) p.2).map (fun u => s.setBlock p.1 u (armourUnits (bits p.2 27 25))))) o = some t →
      t.med.mem = s.med.mem := by
    intro l
    induction l with
    | nil => intro o ho t e; exact ho t e
    | cons p l ih =>
      intro o ho t e
      refine ih _ (fun u hu => ?_) t e
      obtain ⟨v, hv, hm⟩ := Option.bind_eq_some_iff.mp hu
      obtain ⟨b, _, rfl⟩ := Option.map_eq_some_iff.mp hm
      rw [State.setBlock_mem', ho v hv]
  exact this _ _ (fun u hu => by cases hu; rfl) _ e

@[simp] theorem armourParityWrite_mem x0 x1 (s : State) : (armourParityWrite x0 x1 s).2.2.med.mem = s.med.mem := by
  unfold armourParityWrite
  dsimp only
  split
  · rfl
  · split
    · rfl
    · split
      · rfl
      · split
        · rfl
        · rename_i e
          refine (foldl_mem _ (fun s e => by simp) _ _).trans ?_
          rw [State.placeBlocks_mem e]
          rfl

@[simp] theorem holdWindow_mem x0 (s : State) : (holdWindow x0 s).2.2.med.mem = s.med.mem := by
  simp only [holdWindow]
  (repeat' split) <;> simp [*]

@[simp] theorem gfdWrite_mem x0 (s : State) : (gfdWrite x0 s).2.2.med.mem = s.med.mem := by
  simp only [gfdWrite]
  (repeat' split) <;> simp [*]

@[simp] theorem accessWrite_mem x0 (s : State) : (accessWrite x0 s).2.2.med.mem = s.med.mem := by
  rfl

@[simp] theorem rotationWrite_mem x0 x1 (s : State) : (rotationWrite x0 x1 s).2.2.med.mem = s.med.mem := by
  simp only [rotationWrite]
  (repeat' split) <;> simp [*]

@[simp] theorem contextEntryWrite_mem x0 x1 (s : State) : (contextEntryWrite x0 x1 s).2.2.med.mem = s.med.mem :=
  whileStopped_mem _ _ _ rfl

@[simp] theorem bindingWrite_mem x0 x1 (s : State) : (bindingWrite x0 x1 s).2.2.med.mem = s.med.mem :=
  whileStopped_mem _ _ _ rfl

@[simp] theorem counterLogWrite_mem x0 x1 (s : State) : (counterLogWrite x0 x1 s).2.2.med.mem = s.med.mem := by
  simp only [counterLogWrite]
  (repeat' split) <;> simp [*]

@[simp] theorem atomicWindowWrite_mem x0 x1 x2 (s : State) : (atomicWindowWrite x0 x1 x2 s).2.2.med.mem = s.med.mem := by
  simp only [atomicWindowWrite]
  (repeat' split) <;> simp [*]

@[simp] theorem ratWrite_mem x0 x1 x2 (s : State) : (ratWrite x0 x1 x2 s).2.2.med.mem = s.med.mem := by
  simp only [ratWrite]
  (repeat' split) <;> simp [*]

@[simp] theorem regionWrite_mem x0 x1 x2 (s : State) : (regionWrite x0 x1 x2 s).2.2.med.mem = s.med.mem := by
  simp only [regionWrite]
  (repeat' split) <;> simp [*]

@[simp] theorem scopeWrite_mem x0 x1 (s : State) : (scopeWrite x0 x1 s).2.2.med.mem = s.med.mem := by
  simp [scopeWrite]

@[simp] theorem glazeWrite_mem x0 x1 x2 (s : State) : (glazeWrite x0 x1 x2 s).2.2.med.mem = s.med.mem := by
  simp only [glazeWrite]
  (repeat' split) <;> simp [*]

@[simp] theorem confidentialWrite_mem x0 (s : State) : (confidentialWrite x0 s).2.2.med.mem = s.med.mem := by
  simp [confidentialWrite]

@[simp] theorem powerWrite_mem x0 x1 (s : State) : (powerWrite x0 x1 s).2.2.med.mem = s.med.mem := by
  simp only [powerWrite]
  (repeat' split) <;> simp [*]

@[simp] theorem optionWrite_mem x0 (s : State) : (optionWrite x0 s).2.2.med.mem = s.med.mem := by
  simp only [optionWrite]
  (repeat' split) <;> simp [*]

@[simp] theorem State.readMessage_mem (c m) (s : State) : (s.readMessage c m).2.2.med.mem = s.med.mem := by
  have hs (u : State) (f) : (u.modClient c f).med.mem = u.med.mem := rfl
  have hl : (match (s.clientAt c).latch with
    | some (k, bs) =>
      if k ≠ odKey (hdrIndex m) (hdrSub m) then ((stSegment, [], s) : Answered)
      else if bs.length < hdrOffset m then (stLength, [], s)
      else (stOk, (bs.drop (hdrOffset m)).take (Nat.min (hdrLength m) (pathLimit c)), s)
    | none => (stSegment, [], s)).2.2.med.mem = s.med.mem := by
    (repeat' split) <;> rfl
  unfold State.readMessage
  extract_lets -lift +onlyGivenNames idx sub want serve later
  have hl' : later.2.2.med.mem = s.med.mem := hl
  clear_value later
  split
  · rfl
  · split
    · split
      · rfl
      · split
        · rfl
        · split
          · rfl
          · exact hl'
    · split
      · rfl
      · split
        · rfl
        · split
          · exact State.entryValue_mem _ _ _ _ s
          · exact hl'

@[simp] theorem State.downloadMessage_mem x0 x1 x2 (s : State) : (State.downloadMessage s x0 x1 x2).2.2.med.mem = s.med.mem := by
  simp only [State.downloadMessage]
  (repeat' split) <;> simp [*]

@[simp] theorem State.odRespond_mem x1 x2 x3 x4 (s : State) : (State.odRespond s x1 x2 x3 x4).med.mem = s.med.mem := by
  simp only [State.odRespond]
  (repeat' split) <;> simp [*]

@[simp] theorem State.resend_mem x1 x2 x3 (s : State) : (State.resend s x1 x2 x3).med.mem = s.med.mem := by
  simp only [State.resend]
  (repeat' split) <;> simp [*]

@[simp] theorem State.downloadGo_mem x1 x2 (s : State) : (State.downloadGo s x1 x2).med.mem = s.med.mem := by
  simp [State.downloadGo]

@[simp] theorem State.takeAddress_mem x1 (s : State) : (State.takeAddress s x1).med.mem = s.med.mem := by
  rfl

@[simp] theorem State.ackVersion_mem x1 x2 (s : State) : (State.ackVersion s x1 x2).med.mem = s.med.mem := by
  simp [State.ackVersion]

@[simp] theorem State.versionAck_mem x1 x2 (s : State) : (State.versionAck s x1 x2).med.mem = s.med.mem := by
  simp [State.versionAck]

@[simp] theorem State.windowStore_mem x1 x2 x3 (s : State) : (State.windowStore s x1 x2 x3).med.mem = s.med.mem := by
  simp [State.windowStore]

@[simp] theorem State.changeVersion_mem (s : State) : (State.changeVersion s).med.mem = s.med.mem := by
  simp [State.changeVersion]

@[simp] theorem State.fillGap_mem x0 (s : State) : (State.fillGap s x0).med.mem = s.med.mem := by
  rfl

@[simp] theorem State.gatesEffective_mem (s : State) : (State.gatesEffective s).med.mem = s.med.mem := by
  rfl

@[simp] theorem State.stepEffective_mem (s : State) : (State.stepEffective s).med.mem = s.med.mem := by
  simp [State.stepEffective]

@[simp] theorem State.qosEffective_mem (s : State) : (State.qosEffective s).med.mem = s.med.mem := by
  rfl

@[simp] theorem State.refreshEffective_mem (s : State) : (State.refreshEffective s).med.mem = s.med.mem := by
  rfl

@[simp] theorem State.frameLatch_mem (s : State) : (State.frameLatch s).med.mem = s.med.mem := by
  rfl

@[simp] theorem State.endFrameWaits_mem (s : State) : (State.endFrameWaits s).med.mem = s.med.mem := by
  unfold State.endFrameWaits
  refine foldl_mem _ (fun s x => ?_) _ _
  (repeat' split) <;> simp

@[simp] theorem State.withFetchWord_mem x0 x1 (s : State) : (State.withFetchWord s x0 x1).med.mem = s.med.mem := by
  rfl

end Machine
end Sys2Proof
end

