-- ==== Sys2Proof/Laws/Canonical.lean ====
section
/-! SUPPORT. The operations that may write memory keep its canonical form, one lemma for each. -/

namespace Sys2Proof
namespace Machine

@[simp] theorem foldl_canon {α : Type} (f : State → α → State) (h : ∀ s x, Mem.wf s.med.mem = true → Mem.wf (f s x).med.mem = true)
    (l : List α) (s : State) (hs : Mem.wf s.med.mem = true) : Mem.wf (l.foldl f s).med.mem = true := by
  induction l generalizing s with
  | nil => exact hs
  | cons x l ih => exact ih _ (h s x hs)

theorem ite_canon (c : Prop) [Decidable c] (a b : State) (ha : Mem.wf a.med.mem = true) (hb : Mem.wf b.med.mem = true) :
    Mem.wf (if c then a else b).med.mem = true := by
  split <;> assumption

theorem ite_pair_canon {β : Type} (c : Prop) [Decidable c] (a b : β × State) (ha : Mem.wf a.2.med.mem = true)
    (hb : Mem.wf b.2.med.mem = true) : Mem.wf (if c then a else b).2.med.mem = true := by
  split <;> assumption

theorem foldl_pair_canon {α β : Type} (f : β × State → α → β × State)
    (h : ∀ a x, Mem.wf a.2.med.mem = true → Mem.wf (f a x).2.med.mem = true) (l : List α) (a : β × State)
    (ha : Mem.wf a.2.med.mem = true) : Mem.wf (l.foldl f a).2.med.mem = true := by
  induction l generalizing a with
  | nil => exact ha
  | cons x l ih => exact ih _ (h a x ha)

@[simp] theorem State.storeStored_canon x0 x1 (s : State) (h : Mem.wf s.med.mem = true) : Mem.wf (State.storeStored s x0 x1).med.mem = true := by
  simp +contextual [State.storeStored, h]

@[simp] theorem State.applyDelta_canon x1 x2 x3 (s : State) (h : Mem.wf s.med.mem = true) : Mem.wf (State.applyDelta s x1 x2 x3).med.mem = true := by
  simp +contextual [State.applyDelta, h]

@[simp] theorem State.sendDeltas_canon x1 x2 x3 (s : State) (h : Mem.wf s.med.mem = true) : Mem.wf (State.sendDeltas s x1 x2 x3).med.mem = true := by
  simp +contextual [State.sendDeltas, h]

@[simp] theorem State.storeRaw_canon x0 x1 x2 (s : State) (h : Mem.wf s.med.mem = true) : Mem.wf (State.storeRaw s x0 x1 x2).med.mem = true := by
  simp +contextual [State.storeRaw, h]

@[simp] theorem State.storeLine_canon x0 x1 x2 (s : State) (h : Mem.wf s.med.mem = true) : Mem.wf (State.storeLine s x0 x1 x2).med.mem = true := by
  simp +contextual [State.storeLine, h]

@[simp] theorem State.storeHalf_canon x1 x2 (s : State) (h : Mem.wf s.med.mem = true) : Mem.wf (State.storeHalf s x1 x2).med.mem = true := by
  simp +contextual [State.storeHalf, h]

@[simp] theorem State.rmwNow_canon x0 (s : State) (h : Mem.wf s.med.mem = true) : Mem.wf (State.rmwNow s x0).med.mem = true := by
  unfold State.rmwNow
  dsimp only
  split
  · rw [State.dropPartial_mem, State.readLine_mem]; exact h
  · exact State.storeRaw_canon _ _ _ _ (by rw [State.readLine_mem]; exact h)

@[simp] theorem State.mergeRoom_canon (s : State) (h : Mem.wf s.med.mem = true) : Mem.wf (State.mergeRoom s).med.mem = true := by
  unfold State.mergeRoom
  split
  · exact h
  · split
    · exact State.rmwNow_canon _ _ (by simpa using h)
    · exact h

@[simp] theorem State.mergeWrite_canon x0 x1 x2 x3 (s : State) (h : Mem.wf s.med.mem = true) : Mem.wf (State.mergeWrite s x0 x1 x2 x3).med.mem = true := by
  unfold State.mergeWrite
  extract_lets -lift +onlyGivenNames put s0 m0 r m1 d s1 s2 s3
  have hr : Mem.wf r.med.mem = true := State.mergeRoom_canon _ (by simpa [s0] using h)
  have h1 : Mem.wf s1.med.mem = true := by
    dsimp only [s1]
    split
    · simpa [m0, s0] using h
    · exact hr
  have h2 : Mem.wf s2.med.mem = true := by
    dsimp only [s2]
    (repeat' split) <;> simp [h1]
  have h3 : Mem.wf s3.med.mem = true := by
    dsimp only [s3]
    split <;> simp [h2]
  split
  · split <;> simp [h3]
  · exact h3

@[simp] theorem State.storeMasked_canon x0 x1 x2 x3 (s : State) (h : Mem.wf s.med.mem = true) : Mem.wf (State.storeMasked s x0 x1 x2 x3).med.mem = true := by
  unfold State.storeMasked
  extract_lets -lift +onlyGivenNames d lo hi full s1 s2 rest
  have h1 : Mem.wf s1.med.mem = true := by
    dsimp only [s1]
    split <;> simp [h]
  have h2 : Mem.wf s2.med.mem = true := by
    dsimp only [s2]
    split <;> simp [h1]
  (repeat' split) <;> simp [h, h2]

@[simp] theorem State.releaseHeld_canon x0 (s : State) (h : Mem.wf s.med.mem = true) : Mem.wf (State.releaseHeld s x0).med.mem = true := by
  exact foldl_canon _ (fun s x h => State.storeMasked_canon _ _ _ _ _ h) _ _ h

@[simp] theorem State.writeBytes_canon x0 x1 x2 (s : State) (h : Mem.wf s.med.mem = true) : Mem.wf (State.writeBytes s x0 x1 x2).med.mem = true := by
  exact foldl_canon _ (fun s x h => State.storeMasked_canon _ _ _ _ _ h) _ _ h

theorem State.request_canon (s : State) (c : Client) (idx sub val) (op : Op) (h : Mem.wf s.med.mem = true)
    (ho : ∀ s, Mem.wf s.med.mem = true → Mem.wf (op s).2.2.med.mem = true) : Mem.wf (s.request c idx sub val op).med.mem = true := by
  simp only [State.request]
  (repeat' split) <;> simp [h, ho]

@[simp] theorem State.writeRecord_canon x0 x1 (s : State) (h : Mem.wf s.med.mem = true) : Mem.wf (State.writeRecord s x0 x1).med.mem = true := by
  exact State.storeLine_canon _ _ _ _ (State.storeLine_canon _ _ _ _ h)

@[simp] theorem State.drainRecords_canon (s : State) (h : Mem.wf s.med.mem = true) : Mem.wf (State.drainRecords s).med.mem = true := by
  simp +contextual [State.drainRecords, h]

@[simp] theorem State.evictHolder_canon x1 x2 x3 (s : State) (h : Mem.wf s.med.mem = true) : Mem.wf (State.evictHolder s x1 x2 x3).med.mem = true := by
  unfold State.evictHolder
  (try dsimp only)
  (repeat' split) <;> simp +contextual [*]

@[simp] theorem State.useCached_canon x0 x1 (s : State) (h : Mem.wf s.med.mem = true) : Mem.wf (State.useCached s x0 x1).2.med.mem = true := by
  unfold State.useCached
  (try dsimp only)
  (repeat' split) <;> simp +contextual [*]

@[simp] theorem State.evictVat_canon x1 x2 (s : State) (h : Mem.wf s.med.mem = true) : Mem.wf (State.evictVat s x1 x2).med.mem = true := by
  unfold State.evictVat
  (try dsimp only)
  (repeat' split) <;> simp +contextual [*]

@[simp] theorem State.fillVat_canon x1 x2 x3 (s : State) (h : Mem.wf s.med.mem = true) : Mem.wf (State.fillVat s x1 x2 x3).med.mem = true := by
  unfold State.fillVat
  (try dsimp only)
  (repeat' split) <;> simp +contextual [*]

@[simp] theorem State.flushBuffer_canon x1 (s : State) (h : Mem.wf s.med.mem = true) : Mem.wf (State.flushBuffer s x1).med.mem = true := by
  unfold State.flushBuffer
  (try dsimp only)
  (repeat' split) <;> simp +contextual [*]

@[simp] theorem State.fillBuffer_canon x1 x2 (s : State) (h : Mem.wf s.med.mem = true) : Mem.wf (State.fillBuffer s x1 x2).med.mem = true := by
  unfold State.fillBuffer
  (try dsimp only)
  (repeat' split) <;> simp +contextual [*]

@[simp] theorem State.respond_canon x1 x2 x3 x4 (s : State) (h : Mem.wf s.med.mem = true) : Mem.wf (State.respond s x1 x2 x3 x4).med.mem = true := by
  unfold State.respond
  (try dsimp only)
  (repeat' split) <;> simp +contextual [*]

@[simp] theorem State.serve_canon x1 x2 x3 (s : State) (h : Mem.wf s.med.mem = true) : Mem.wf (State.serve s x1 x2 x3).med.mem = true := by
  simp +contextual [State.serve, h]

@[simp] theorem State.vatsAct_canon x1 x2 (s : State) (h : Mem.wf s.med.mem = true) : Mem.wf (State.vatsAct s x1 x2).2.med.mem = true := by
  unfold State.vatsAct
  (try dsimp only)
  (repeat' split) <;> simp +contextual [*]

@[simp] theorem State.openEvict_canon x1 x2 (s : State) (h : Mem.wf s.med.mem = true) : Mem.wf (State.openEvict s x1 x2).med.mem = true := by
  unfold State.openEvict
  (try dsimp only)
  (repeat' split) <;> simp +contextual [*]

@[simp] theorem State.takeWay_canon x1 (s : State) (h : Mem.wf s.med.mem = true) : Mem.wf (State.takeWay s x1).2.med.mem = true := by
  unfold State.takeWay
  (try dsimp only)
  (repeat' split) <;> simp +contextual [*]

@[simp] theorem State.act_canon x0 (s : State) (h : Mem.wf s.med.mem = true) : Mem.wf (State.act s x0).2.med.mem = true := by
  unfold State.act
  (try dsimp only)
  (repeat' split) <;> simp +contextual (maxDischargeDepth := 12) [*]

@[simp] theorem State.drainHome_canon x0 (s : State) (h : Mem.wf s.med.mem = true) : Mem.wf (State.drainHome x0 s).med.mem = true := by
  induction x0 generalizing  s with
  | zero => simp [State.drainHome, h]
  | succ n ih =>
    unfold State.drainHome
    (try dsimp only)
    (repeat' split) <;> simp +contextual (maxDischargeDepth := 12) [*]

@[simp] theorem State.runJob_canon x0 (s : State) (h : Mem.wf s.med.mem = true) : Mem.wf (State.runJob s x0).med.mem = true := by
  unfold State.runJob
  (try dsimp only)
  (repeat' split) <;> simp +contextual (maxDischargeDepth := 12) [*]

@[simp] theorem State.runJobs_canon x0 (s : State) (h : Mem.wf s.med.mem = true) : Mem.wf (State.runJobs x0 s).med.mem = true := by
  induction x0 generalizing s with
  | zero => exact h
  | succ n ih =>
    unfold State.runJobs
    dsimp only
    split
    · exact h
    · split
      · exact h
      · exact ih _ (State.runJob_canon _ _ h)

@[simp] theorem State.settle_canon (s : State) (h : Mem.wf s.med.mem = true) : Mem.wf (State.settle s).med.mem = true := by
  exact State.drainHome_canon _ _ (State.runJobs_canon _ _ (State.drainHome_canon _ _ h))

@[simp] theorem State.homeRequest_canon x1 (s : State) (h : Mem.wf s.med.mem = true) : Mem.wf (State.homeRequest s x1).med.mem = true := by
  simp +contextual [State.homeRequest, h]

@[simp] theorem State.descriptor_canon x1 x2 x3 x4 (s : State) (h : Mem.wf s.med.mem = true) : Mem.wf (State.descriptor s x1 x2 x3 x4).med.mem = true := by
  unfold State.descriptor
  (try dsimp only)
  (repeat' split) <;> simp +contextual [*]

@[simp] theorem State.publish_canon x1 x2 x3 x4 (s : State) (h : Mem.wf s.med.mem = true) : Mem.wf (State.publish s x1 x2 x3 x4).2.med.mem = true := by
  unfold State.publish
  (try dsimp only)
  (repeat' split) <;> simp +contextual [*]

@[simp] theorem State.runPublish_canon x1 x2 x3 x4 x5 x6 (s : State) (h : Mem.wf s.med.mem = true) : Mem.wf (State.runPublish s x1 x2 x3 x4 x5 x6).med.mem = true := by
  simp +contextual [State.runPublish, h]

@[simp] theorem State.homeWrite_canon x1 x2 x3 (s : State) (h : Mem.wf s.med.mem = true) : Mem.wf (State.homeWrite s x1 x2 x3).med.mem = true := by
  unfold State.homeWrite
  (try dsimp only)
  (repeat' split) <;> simp +contextual [*]

@[simp] theorem State.peekLine_canon x0 x1 (s : State) (h : Mem.wf s.med.mem = true) : Mem.wf (State.peekLine s x0 x1).2.med.mem = true := by
  unfold State.peekLine
  (try dsimp only)
  (repeat' split) <;> simp +contextual [*]

@[simp] theorem State.otherWrite_canon x0 x1 x2 x3 (s : State) (h : Mem.wf s.med.mem = true) : Mem.wf (State.otherWrite s x0 x1 x2 x3).med.mem = true := by
  simp +contextual [State.otherWrite, h]

@[simp] theorem State.otherPoison_canon x0 x1 (s : State) (h : Mem.wf s.med.mem = true) : Mem.wf (State.otherPoison s x0 x1).med.mem = true := by
  simp +contextual [State.otherPoison, h]

@[simp] theorem State.closeLine_canon x1 x2 (s : State) (h : Mem.wf s.med.mem = true) : Mem.wf (State.closeLine s x1 x2).med.mem = true := by
  unfold State.closeLine
  (try dsimp only)
  (repeat' split) <;> simp +contextual [*]

@[simp] theorem State.snooped_canon x1 x2 x3 x4 (s : State) (h : Mem.wf s.med.mem = true) : Mem.wf (State.snooped s x1 x2 x3 x4).med.mem = true := by
  unfold State.snooped
  (try dsimp only)
  (repeat' split) <;> simp +contextual [*]

@[simp] theorem State.evict_canon x1 x2 x3 (s : State) (h : Mem.wf s.med.mem = true) : Mem.wf (State.evict s x1 x2 x3).med.mem = true := by
  unfold State.evict
  (try dsimp only)
  (repeat' split) <;> simp +contextual [*]

@[simp] theorem State.hostDies_canon x1 x2 x3 (s : State) (h : Mem.wf s.med.mem = true) : Mem.wf (State.hostDies s x1 x2 x3).med.mem = true := by
  unfold State.hostDies
  split
  · exact h
  · dsimp only
    refine State.settle_canon _ (foldl_canon _ (fun s p h => ?_) _ _ (foldl_canon _ (fun s p h => State.snooped_canon _ _ _ _ _ h) _ _ h))
    (repeat' split) <;> simp [h]

@[simp] theorem requesterGone_canon x0 (s : State) (h : Mem.wf s.med.mem = true) : Mem.wf (requesterGone x0 s).2.2.med.mem = true := by
  unfold requesterGone
  split <;> simp [done, refuse, h]

theorem execDirectorySweepDone_canon (s t : State) (h : Mem.wf s.med.mem = true) (e : execDirectorySweepDone s = .next t) :
    Mem.wf t.med.mem = true := by
  unfold execDirectorySweepDone ok at e
  cases e
  refine State.settle_canon _ (foldl_canon _ (fun s d h => ?_) _ _ h)
  simpa using h

@[simp] theorem State.atomic_canon x1 x2 x3 x4 x5 (s : State) (h : Mem.wf s.med.mem = true) : Mem.wf (State.atomic s x1 x2 x3 x4 x5).med.mem = true := by
  unfold State.atomic
  (try dsimp only)
  (repeat' split) <;> simp +contextual [*]

@[simp] theorem State.dropLines_canon x1 (s : State) (h : Mem.wf s.med.mem = true) : Mem.wf (State.dropLines s x1).med.mem = true := by
  have ha (s : State) (r : HomeReq) (h : Mem.wf s.med.mem = true) : Mem.wf (match r.who with
      | .host _ => s.respond { r with kind := if r.kind = ReqKind.wrF then ReqKind.wrF else ReqKind.rdC } .invalid [] true
      | _ => s).med.mem = true := by
    split
    · exact State.respond_canon _ _ _ _ _ h
    · exact h
  unfold State.dropLines
  refine foldl_canon _ (fun s x h => ?_) _ _ (foldl_canon _ (fun s x h => ?_) _ _ h)
  · exact ha _ _ h
  · dsimp only
    split
    · split
      · exact ha _ _ (by simp [h])
      · simp [h]
    · exact h

@[simp] theorem State.flushCache_canon x1 (s : State) (h : Mem.wf s.med.mem = true) : Mem.wf (State.flushCache s x1).med.mem = true := by
  unfold State.flushCache
  split
  · exact State.settle_canon _ (foldl_canon _ (fun s x h => State.evictVat_canon _ _ _ h) _ _ h)
  · exact h

@[simp] theorem State.watchLine_canon x1 (s : State) (h : Mem.wf s.med.mem = true) : Mem.wf (State.watchLine s x1).2.med.mem = true := by
  unfold State.watchLine
  (try dsimp only)
  (repeat' split) <;> simp +contextual [*]

@[simp] theorem State.compFree_canon x0 (s : State) (h : Mem.wf s.med.mem = true) : Mem.wf (State.compFree s x0).2.med.mem = true := by
  unfold State.compFree
  (try dsimp only)
  (repeat' split) <;> simp +contextual [*]

@[simp] theorem State.putRecord_canon x0 x1 (s : State) (h : Mem.wf s.med.mem = true) : Mem.wf (State.putRecord s x0 x1).med.mem = true := by
  simp +contextual [State.putRecord, h]

@[simp] theorem State.flushRecords_canon x0 x1 (s : State) (h : Mem.wf s.med.mem = true) : Mem.wf (State.flushRecords x0 x1 s).med.mem = true := by
  induction x1 generalizing x0 s with
  | zero => simp [State.flushRecords, h]
  | succ n ih =>
    unfold State.flushRecords
    (try dsimp only)
    (repeat' split) <;> simp +contextual (maxDischargeDepth := 12) [*]

@[simp] theorem State.complete_canon x1 x2 (s : State) (h : Mem.wf s.med.mem = true) : Mem.wf (State.complete s x1 x2).med.mem = true := by
  simp +contextual [State.complete, h]

@[simp] theorem State.invComplete_canon x1 x2 x3 (s : State) (h : Mem.wf s.med.mem = true) : Mem.wf (State.invComplete s x1 x2 x3).med.mem = true := by
  unfold State.invComplete
  (try dsimp only)
  (repeat' split) <;> simp +contextual [*]

@[simp] theorem State.payRecord_canon x1 (s : State) (h : Mem.wf s.med.mem = true) : Mem.wf (State.payRecord s x1).med.mem = true := by
  unfold State.payRecord
  (try dsimp only)
  (repeat' split) <;> simp +contextual [*]

@[simp] theorem State.settleTenant_canon x1 (s : State) (h : Mem.wf s.med.mem = true) : Mem.wf (State.settleTenant s x1).med.mem = true := by
  simp +contextual [State.settleTenant, h]

@[simp] theorem State.faultContext_canon x0 (s : State) (h : Mem.wf s.med.mem = true) : Mem.wf (State.faultContext s x0).med.mem = true := by
  unfold State.faultContext
  (try dsimp only)
  (repeat' split) <;> simp +contextual (maxDischargeDepth := 12) [*]

@[simp] theorem State.trap_canon x1 x2 x3 x4 (s : State) (h : Mem.wf s.med.mem = true) : Mem.wf (State.trap s x1 x2 x3 x4).med.mem = true := by
  simp +contextual [State.trap, h]

@[simp] theorem State.settleFault_canon x0 (s : State) (h : Mem.wf s.med.mem = true) : Mem.wf (State.settleFault s x0).med.mem = true := by
  simp +contextual [State.settleFault, h]

@[simp] theorem State.bundleFault_canon x1 x2 x3 x4 (s : State) (h : Mem.wf s.med.mem = true) : Mem.wf (State.bundleFault s x1 x2 x3 x4).med.mem = true := by
  simp +contextual [State.bundleFault, h]

@[simp] theorem State.encodingTrap_canon x1 x2 x3 x4 (s : State) (h : Mem.wf s.med.mem = true) : Mem.wf (State.encodingTrap s x1 x2 x3 x4).med.mem = true := by
  simp +contextual [State.encodingTrap, h]

@[simp] theorem State.paletteUe_canon x0 x1 x2 (s : State) (h : Mem.wf s.med.mem = true) : Mem.wf (State.paletteUe s x0 x1 x2).med.mem = true := by
  simp +contextual [State.paletteUe, h]

@[simp] theorem State.fetchTrap_canon x1 x2 x3 (s : State) (h : Mem.wf s.med.mem = true) : Mem.wf (State.fetchTrap s x1 x2 x3).med.mem = true := by
  simp +contextual [State.fetchTrap, h]

@[simp] theorem State.fetchBundle_canon x0 x1 x2 (s : State) (h : Mem.wf s.med.mem = true) : Mem.wf (State.fetchBundle s x0 x1 x2).med.mem = true := by
  unfold State.fetchBundle
  (try dsimp only)
  (repeat' split) <;> simp +contextual [*]

@[simp] theorem State.fetchAhead_canon x0 x1 (s : State) (h : Mem.wf s.med.mem = true) : Mem.wf (State.fetchAhead s x0 x1).med.mem = true := by
  simp +contextual [State.fetchAhead, h]

@[simp] theorem State.bundlePoison_canon x0 x1 x2 (s : State) (h : Mem.wf s.med.mem = true) : Mem.wf (State.bundlePoison s x0 x1 x2).med.mem = true := by
  unfold State.bundlePoison
  (try dsimp only)
  (repeat' split) <;> simp +contextual [*]

@[simp] theorem State.passNops_canon x0 x1 x2 x3 (s : State) (h : Mem.wf s.med.mem = true) : Mem.wf (State.passNops x0 x1 x2 x3 s).med.mem = true := by
  induction x3 generalizing x0 x1 x2 s with
  | zero => simp [State.passNops, h]
  | succ n ih =>
    unfold State.passNops
    (try dsimp only)
    (repeat' split) <;> simp +contextual (maxDischargeDepth := 12) [*]

@[simp] theorem State.beginBundle_canon x0 x1 x2 x3 (s : State) (h : Mem.wf s.med.mem = true) : Mem.wf (State.beginBundle s x0 x1 x2 x3).med.mem = true := by
  simp +contextual [State.beginBundle, h]

@[simp] theorem State.issue_canon x0 x1 (s : State) (h : Mem.wf s.med.mem = true) : Mem.wf (State.issue s x0 x1).med.mem = true := by
  unfold State.issue
  (try dsimp only)
  (repeat' split) <;> simp +contextual (maxDischargeDepth := 12) [*]

theorem State.slotReady_canon {s : State} {v cyc : Nat} {slots : List Nat} {op : Nat} {q : Nat × Nat × State}
    (h : Mem.wf s.med.mem = true) (e : s.slotReady v cyc slots op = some q) : Mem.wf q.2.2.med.mem = true := by
  have h1 := State.issue_canon v cyc s h
  unfold State.slotReady at e
  dsimp only at e
  split at e
  · cases e
  · split at e
    · cases e
    · split at e
      · cases e; exact h1
      · cases e

theorem State.slotAct_canon (s : State) (v cyc : Nat) (slots : List Nat) (op : Nat) (f : Nat → Nat → State → State) (h : Mem.wf s.med.mem = true)
    (hf : ∀ k w s, Mem.wf s.med.mem = true → Mem.wf (f k w s).med.mem = true) : Mem.wf (s.slotAct v cyc slots op f).med.mem = true := by
  unfold State.slotAct
  split
  · rename_i e; exact hf _ _ _ (State.slotReady_canon h e)
  · exact State.issue_canon _ _ _ h

@[simp] theorem State.mma_canon x0 x1 x2 x3 x4 x5 (s : State) (h : Mem.wf s.med.mem = true) : Mem.wf (State.mma s x0 x1 x2 x3 x4 x5).med.mem = true := by
  have key (s u : State) (v : Nat) (f : Vat → Vat) (e : s.med.mem = u.med.mem) : (s.modVat v f).med.mem = u.med.mem := e
  unfold State.mma
  extract_lets -lift +onlyGivenNames x bank sp en fa fb count groups halves la lb a b accesses ranges
  clear_value a b accesses ranges
  split
  · exact State.bundleFault_canon _ _ _ _ _ h
  · refine ite_canon _ _ _ (State.bundleFault_canon _ _ _ _ _ h) ?_
    extract_lets -lift +onlyGivenNames c
    have hc : c.2.med.mem = s.med.mem := State.palCheck_mem _ _ _
    clear_value c
    split
    · exact State.paletteUe_canon _ _ _ _ (by rw [hc]; exact h)
    · extract_lets -lift +onlyGivenNames int s1
      have h1 : s1.med.mem = s.med.mem := key _ _ _ _ hc
      clear_value s1
      refine ite_canon _ _ _ ?_ ?_
      · rw [State.freeBank_mem, h1]; exact h
      · show Mem.wf (State.raise _ _ _).med.mem = true
        rw [State.raise_mem, key _ _ _ _ h1]; exact h

theorem State.withOperand_canon (s : State) (k v w : Nat) (f : Nat → State → State) (h : Mem.wf s.med.mem = true)
    (hf : ∀ k s, Mem.wf s.med.mem = true → Mem.wf (f k s).med.mem = true) : Mem.wf (s.withOperand k v w f).med.mem = true := by
  unfold State.withOperand
  have hr := State.sectionEntry_mem k 4 (bitsAt w 20 9) 32 s
  dsimp only
  generalize s.sectionEntry k 4 (bitsAt w 20 9) 32 = r at hr
  have h1 : Mem.wf r.2.med.mem = true := by rw [hr]; exact h
  exact ite_canon _ _ _ (State.fetchTrap_canon _ _ _ _ h1) (ite_canon _ _ _ (State.encodingTrap_canon _ _ _ _ _ h1) (hf _ _ h1))

@[simp] theorem State.mmaSlot_canon x0 x1 x2 (s : State) (h : Mem.wf s.med.mem = true) : Mem.wf (State.mmaSlot s x0 x1 x2).med.mem = true :=
  State.slotAct_canon _ _ _ _ _ _ h (fun _ _ _ h => State.withOperand_canon _ _ _ _ _ h (fun _ _ h => State.mma_canon _ _ _ _ _ _ _ h))

@[simp] theorem State.vecAct_canon x0 x1 x2 x3 x4 (s : State) (h : Mem.wf s.med.mem = true) : Mem.wf (State.vecAct s x0 x1 x2 x3 x4).med.mem = true := by
  unfold State.vecAct
  (try dsimp only)
  (repeat' split) <;> simp +contextual [*]

@[simp] theorem State.vectorSlot_canon x0 x1 x2 (s : State) (h : Mem.wf s.med.mem = true) : Mem.wf (State.vectorSlot s x0 x1 x2).med.mem = true :=
  State.slotAct_canon _ _ _ _ _ _ h (fun _ _ _ h => State.vecAct_canon _ _ _ _ _ _ h)

@[simp] theorem State.expSlot_canon x0 x1 x2 x3 x4 (s : State) (h : Mem.wf s.med.mem = true) : Mem.wf (State.expSlot s x0 x1 x2 x3 x4).med.mem = true := by
  refine State.slotAct_canon _ _ _ _ _ _ h (fun _ w s h => ?_)
  dsimp only
  rw [State.modVat_mem, State.writeReg_mem, State.raise_mem, State.readExp_mem]
  exact h

@[simp] theorem State.tilePoison_canon x0 x1 x2 x3 (s : State) (h : Mem.wf s.med.mem = true) : Mem.wf (State.tilePoison s x0 x1 x2 x3).med.mem = true := by
  unfold State.tilePoison
  (try dsimp only)
  (repeat' split) <;> simp +contextual [*]

@[simp] theorem State.acceptTile_canon x0 x1 x2 (s : State) (h : Mem.wf s.med.mem = true) : Mem.wf (State.acceptTile s x0 x1 x2).med.mem = true := by
  unfold State.acceptTile
  (try dsimp only)
  (repeat' split) <;> simp +contextual [*]

@[simp] theorem State.streamSlot_canon x0 x1 x2 (s : State) (h : Mem.wf s.med.mem = true) : Mem.wf (State.streamSlot s x0 x1 x2).med.mem = true :=
  State.slotAct_canon _ _ _ _ _ _ h (fun _ _ _ h => State.acceptTile_canon _ _ _ _ h)

@[simp] theorem State.palLine_canon x0 x1 x2 (s : State) (h : Mem.wf s.med.mem = true) : Mem.wf (State.palLine s x0 x1 x2).2.med.mem = true := by
  unfold State.palLine
  (try dsimp only)
  (repeat' split) <;> simp +contextual [*]

@[simp] theorem State.vatRead_canon x1 x2 (s : State) (h : Mem.wf s.med.mem = true) : Mem.wf (State.vatRead s x1 x2).2.med.mem = true := by
  unfold State.vatRead
  (try dsimp only)
  (repeat' split) <;> simp +contextual [*]

@[simp] theorem State.vatWrite_canon x1 x2 x3 (s : State) (h : Mem.wf s.med.mem = true) : Mem.wf (State.vatWrite s x1 x2 x3).med.mem = true := by
  simp +contextual [State.vatWrite, h]

@[simp] theorem State.vatPoison_canon x0 (s : State) (h : Mem.wf s.med.mem = true) : Mem.wf (State.vatPoison s x0).med.mem = true := by
  simp +contextual [State.vatPoison, h]

@[simp] theorem State.moveLines_canon x0 x1 x2 x3 x4 x5 (s : State) (h : Mem.wf s.med.mem = true) : Mem.wf (State.moveLines x0 x1 x2 x3 x4 x5 s).med.mem = true := by
  induction x5 generalizing x0 x1 x2 x3 x4 s with
  | nil => simp [State.moveLines, h]
  | cons q qs ih =>
    unfold State.moveLines
    (try dsimp only)
    (repeat' split) <;> simp +contextual (maxDischargeDepth := 12) [*]

theorem State.controlSlot_canon (s : State) (v cyc op : Nat) (f : Nat → Nat → State → State) (h : Mem.wf s.med.mem = true)
    (hf : ∀ k w s, Mem.wf s.med.mem = true → Mem.wf (f k w s).med.mem = true) : Mem.wf (s.controlSlot v cyc op f).med.mem = true :=
  State.slotAct_canon _ _ _ _ _ _ h hf

@[simp] theorem State.dump_canon x1 x2 x3 x4 x5 (s : State) (h : Mem.wf s.med.mem = true) : Mem.wf (State.dump s x1 x2 x3 x4 x5).med.mem = true := by
  have hset (s : State) (k : Nat) (f : Ctx → Ctx) (h : Mem.wf s.med.mem = true) : Mem.wf (s.modCtx k f).med.mem = true := by simpa using h
  unfold State.dump
  extract_lets -lift +onlyGivenNames r1 r2 t fmt elems bytes va set used s0 x l lines mapped dst moved q status seq head s2
  have h2 : Mem.wf r2.2.med.mem = true := by simpa [r2, r1] using h
  have hq : Mem.wf q.2.med.mem = true := by
    refine foldl_pair_canon _ (fun a p h => ?_) _ _ h2
    dsimp only
    (repeat' split) <;> simp [h]
  split
  · exact hset _ _ _ h2
  · exact hset _ _ _ (by simp [s2, hq])

@[simp] theorem State.stopVat_canon x1 x2 (s : State) (h : Mem.wf s.med.mem = true) : Mem.wf (State.stopVat s x1 x2).med.mem = true := by
  simp +contextual [State.stopVat, h]

@[simp] theorem State.plainRecord_canon x1 x2 x3 x4 x5 (s : State) (h : Mem.wf s.med.mem = true) : Mem.wf (State.plainRecord s x1 x2 x3 x4 x5).med.mem = true := by
  simp +contextual [State.plainRecord, h]

@[simp] theorem State.refuseLaunch_canon x1 x2 x3 x4 (s : State) (h : Mem.wf s.med.mem = true) : Mem.wf (State.refuseLaunch s x1 x2 x3 x4).med.mem = true := by
  simp +contextual [State.refuseLaunch, h]

@[simp] theorem State.beginInvocation_canon x0 x1 x2 x3 (s : State) (h : Mem.wf s.med.mem = true) : Mem.wf (State.beginInvocation s x0 x1 x2 x3).med.mem = true := by
  simp +contextual [State.beginInvocation, h]

@[simp] theorem State.settleContext_canon x0 (s : State) (h : Mem.wf s.med.mem = true) : Mem.wf (State.settleContext s x0).med.mem = true := by
  simp +contextual [State.settleContext, h]

@[simp] theorem State.dropLaunch_canon x0 x1 x2 (s : State) (h : Mem.wf s.med.mem = true) : Mem.wf (State.dropLaunch s x0 x1 x2).med.mem = true := by
  simp +contextual [State.dropLaunch, h]

@[simp] theorem State.pinTrouble_canon x1 x2 (s : State) (h : Mem.wf s.med.mem = true) : Mem.wf (State.pinTrouble s x1 x2).med.mem = true := by
  unfold State.pinTrouble
  (try dsimp only)
  (repeat' split) <;> simp +contextual [*]

@[simp] theorem State.pinOn_canon x1 (s : State) (h : Mem.wf s.med.mem = true) : Mem.wf (State.pinOn s x1).med.mem = true := by
  simp +contextual [State.pinOn, h]

@[simp] theorem State.becomeResident_canon x0 x1 x2 (s : State) (h : Mem.wf s.med.mem = true) : Mem.wf (State.becomeResident s x0 x1 x2).med.mem = true := by
  simp +contextual [State.becomeResident, h]

@[simp] theorem State.startLaunch_canon x0 (s : State) (h : Mem.wf s.med.mem = true) : Mem.wf (State.startLaunch s x0).med.mem = true := by
  unfold State.startLaunch
  (try dsimp only)
  (repeat' split) <;> simp +contextual (maxDischargeDepth := 12) [*]

@[simp] theorem State.residentInput_canon x0 (s : State) (h : Mem.wf s.med.mem = true) : Mem.wf (State.residentInput s x0).med.mem = true := by
  unfold State.residentInput
  (try dsimp only)
  (repeat' split) <;> simp +contextual (maxDischargeDepth := 12) [*]

@[simp] theorem State.resetContext_canon x1 (s : State) (h : Mem.wf s.med.mem = true) : Mem.wf (State.resetContext s x1).med.mem = true := by
  unfold State.resetContext
  dsimp only
  refine State.settleTenant_canon _ _ ?_
  rw [State.modCtx_mem, State.unpin_mem]
  refine foldl_canon _ (fun s x h => ?_) _ _ (foldl_canon _ (fun s x h => foldl_canon _ (fun s x h => ?_) _ _ h) _ _ ?_)
  · (repeat' split) <;> simp [h]
  · simp [h]
  · simp [h]

@[simp] theorem contextCommand_canon x0 x1 (s : State) (h : Mem.wf s.med.mem = true) : Mem.wf (contextCommand x0 x1 s).2.2.med.mem = true := by
  unfold contextCommand
  (try dsimp only)
  (repeat' split) <;> simp +contextual [*]

@[simp] theorem State.beginResume_canon x1 (s : State) (h : Mem.wf s.med.mem = true) : Mem.wf (State.beginResume s x1).med.mem = true := by
  simp +contextual [State.beginResume, h]

@[simp] theorem State.applyCmd_canon x0 x1 (s : State) (h : Mem.wf s.med.mem = true) : Mem.wf (State.applyCmd s x0 x1).2.med.mem = true := by
  cases x1 <;> simp only [State.applyCmd] <;> (repeat' split) <;> simp [h]

@[simp] theorem State.applyCmds_canon x0 x1 (s : State) (h : Mem.wf s.med.mem = true) : Mem.wf (State.applyCmds x0 x1 s).med.mem = true := by
  induction x1 generalizing s with
  | zero => exact h
  | succ n ih =>
    unfold State.applyCmds
    dsimp only
    split
    · exact h
    · split
      · exact State.applyCmd_canon _ _ _ h
      · exact ih _ (by simp [h])

@[simp] theorem State.restartStep_canon x1 (s : State) (h : Mem.wf s.med.mem = true) : Mem.wf (State.restartStep s x1).med.mem = true := by
  simp +contextual [State.restartStep, h]

@[simp] theorem State.autoResume_canon x1 (s : State) (h : Mem.wf s.med.mem = true) : Mem.wf (State.autoResume s x1).med.mem = true := by
  simp +contextual [State.autoResume, h]

@[simp] theorem State.takeEnd_canon x1 x2 x3 (s : State) (h : Mem.wf s.med.mem = true) : Mem.wf (State.takeEnd s x1 x2 x3).med.mem = true := by
  simp +contextual [State.takeEnd, h]

@[simp] theorem State.takeLaunch_canon x0 x1 x2 x3 (s : State) (h : Mem.wf s.med.mem = true) : Mem.wf (State.takeLaunch s x0 x1 x2 x3).med.mem = true := by
  simp +contextual [State.takeLaunch, h]

@[simp] theorem State.pickUp_canon x0 (s : State) (h : Mem.wf s.med.mem = true) : Mem.wf (State.pickUp s x0).med.mem = true := by
  unfold State.pickUp
  dsimp only
  refine ite_canon _ _ _ h ?_
  have hw := State.watchLine_canon (bits (s.ctxAt x0).entry 61 16 + 64 * (s.ctxAt x0).launchIndex.toNat) s h
  generalize s.watchLine (bits (s.ctxAt x0).entry 61 16 + 64 * (s.ctxAt x0).launchIndex.toNat) = w at hw
  split
  · exact hw
  · rename_i line _
    refine ite_canon _ _ _ hw ?_
    have hf := State.compFree_canon x0 w.2 hw
    generalize w.2.compFree x0 = f at hf
    generalize (if (s.ctxAt x0).phase = Phase.idle then f.1 else f.1 - 2) = room
    have hr (s : State) (a b c : Nat) (h : Mem.wf s.med.mem = true) :
        Mem.wf (if room = 0 then s else s.refuseLaunch x0 a b c).med.mem = true :=
      ite_canon _ _ _ h (State.refuseLaunch_canon _ _ _ _ _ h)
    have h2 : Mem.wf (f.2.atHead x0 f.1).med.mem = true := hf
    generalize f.2.atHead x0 f.1 = s2 at h2
    split
    · exact hr _ _ _ _ h2
    · refine ite_canon _ _ _ (State.takeEnd_canon _ _ _ _ h2) (ite_canon _ _ _ h2 ?_)
      have hl := State.loadImage_mem x0 (recImage (leNat line)) s2
      generalize s2.loadImage x0 (recImage (leNat line)) = r at hl
      obtain ⟨o, s3⟩ := r
      have h3 : Mem.wf s3.med.mem = true := by rw [show s3.med.mem = s2.med.mem from hl]; exact h2
      cases o with
      | wait => exact h3
      | refused r => exact hr _ _ _ _ h3
      | good hd prints streams =>
        dsimp only
        generalize s3.planLogical x0 hd = ls
        have h4 : Mem.wf (s3.modCtx x0 (fun x => { x with headVats := ls })).med.mem = true := h3
        generalize s3.modCtx x0 (fun x => { x with headVats := ls }) = s4 at h4
        split
        · exact hr _ _ _ _ h4
        · refine ite_canon _ _ _ (ite_canon _ _ _ (hr _ _ _ _ h4) h4) (ite_canon _ _ _ h4 (State.takeLaunch_canon _ _ _ _ _ h4))

theorem State.afterFetch_canon (k : Nat) (r : PinResult × State) (h : Mem.wf r.2.med.mem = true) :
    Mem.wf (State.afterFetch k r).med.mem = true := by
  unfold State.afterFetch
  (repeat' split) <;> simp [h]

@[simp] theorem State.startTakeover_canon x1 x2 x3 (s : State) (h : Mem.wf s.med.mem = true) : Mem.wf (State.startTakeover s x1 x2 x3).med.mem = true := by
  unfold State.startTakeover
  (try dsimp only)
  (repeat' split) <;> simp +contextual [*]

@[simp] theorem State.rotateOne_canon x1 (s : State) (h : Mem.wf s.med.mem = true) : Mem.wf (State.rotateOne s x1).med.mem = true := by
  unfold State.rotateOne
  (try dsimp only)
  (repeat' split) <;> simp +contextual [*]

@[simp] theorem State.rotate_canon (s : State) (h : Mem.wf s.med.mem = true) : Mem.wf (State.rotate s).med.mem = true := by
  simp +contextual [State.rotate, h]

@[simp] theorem State.completionWord_canon x1 x2 x3 (s : State) (h : Mem.wf s.med.mem = true) : Mem.wf (State.completionWord s x1 x2 x3).med.mem = true := by
  unfold State.completionWord
  dsimp only
  generalize copyWord x1 x2 x3 = bs
  generalize ppaDpa (cpyDone x1) = d
  generalize copyPacket (cpyDone x1) (cpyTenant x1) false = p
  refine ite_canon _ _ _ (State.otherWrite_canon _ _ _ _ _ h) ?_
  rw [State.poolRequest_mem]; exact h

@[simp] theorem State.haltCopy_canon x1 (s : State) (h : Mem.wf s.med.mem = true) : Mem.wf (State.haltCopy s x1).med.mem = true := by
  unfold State.haltCopy
  dsimp only
  split <;> simp [h]

@[simp] theorem State.copyLine_canon x1 x2 x3 x4 (s : State) (h : Mem.wf s.med.mem = true) : Mem.wf (State.copyLine s x1 x2 x3 x4).med.mem = true := by
  unfold State.copyLine
  (try dsimp only)
  (repeat' split) <;> simp +contextual [*]

@[simp] theorem State.copyEnd_canon x1 x2 (s : State) (h : Mem.wf s.med.mem = true) : Mem.wf (State.copyEnd s x1 x2).med.mem = true := by
  unfold State.copyEnd
  dsimp only
  (repeat' split) <;> simp [h]

@[simp] theorem State.copyRun_canon x0 x1 (s : State) (h : Mem.wf s.med.mem = true) : Mem.wf (State.copyRun x0 x1 s).2.med.mem = true := by
  induction x1 generalizing x0 s with
  | zero => simp [State.copyRun, h]
  | succ n ih =>
    unfold State.copyRun
    (try dsimp only)
    (repeat' split) <;> simp +contextual (maxDischargeDepth := 12) [*]

@[simp] theorem State.copyPoison_canon x0 x1 (s : State) (h : Mem.wf s.med.mem = true) : Mem.wf (State.copyPoison s x0 x1).med.mem = true := by
  unfold State.copyPoison
  dsimp only
  (repeat' split) <;> simp [h]

@[simp] theorem State.copyLost_canon x0 x1 (s : State) (h : Mem.wf s.med.mem = true) : Mem.wf (State.copyLost s x0 x1).med.mem = true := by
  unfold State.copyLost
  dsimp only
  (repeat' split) <;> simp [h]

@[simp] theorem State.copyReply_canon x0 x1 x2 x3 (s : State) (h : Mem.wf s.med.mem = true) : Mem.wf (State.copyReply s x0 x1 x2 x3).med.mem = true := by
  unfold State.copyReply
  dsimp only
  (repeat' split) <;> simp [h]

@[simp] theorem State.poisonTo_canon x0 x1 (s : State) (h : Mem.wf s.med.mem = true) : Mem.wf (State.poisonTo s x0 x1).med.mem = true := by
  unfold State.poisonTo
  dsimp only
  (repeat' split) <;> simp [h]

@[simp] theorem State.serveReader_canon x0 (s : State) (h : Mem.wf s.med.mem = true) : Mem.wf (State.serveReader s x0).med.mem = true := by
  unfold State.serveReader
  split <;> simp [h]

theorem stateOr_canon (r : Res) (s : State) (h : Mem.wf s.med.mem = true) (e : ∀ t, r = .next t → Mem.wf t.med.mem = true) :
    Mem.wf (r.stateOr s).med.mem = true := by
  cases r with
  | next t => exact e t rfl
  | fault => exact h
  | refused => exact h

@[simp] theorem State.mergeDone_canon x1 (s : State) (h : Mem.wf s.med.mem = true) : Mem.wf (State.mergeDone s x1).med.mem = true := by
  simp +contextual [State.mergeDone, h]

@[simp] theorem State.resumeMerges_canon x1 (s : State) (h : Mem.wf s.med.mem = true) : Mem.wf (State.resumeMerges s x1).med.mem = true := by
  unfold State.resumeMerges
  refine foldl_canon _ (fun s x h => ?_) _ _ h
  (try dsimp only)
  (repeat' split) <;> simp +contextual [*]

@[simp] theorem State.unlockPage_canon x0 x1 (s : State) (h : Mem.wf s.med.mem = true) : Mem.wf (State.unlockPage s x0 x1).med.mem = true := by
  simp +contextual [State.unlockPage, h]

theorem execEscalationDecodeDone_canon (en n) (s t : State) (h : Mem.wf s.med.mem = true) (e : execEscalationDecodeDone en n s = .next t) :
    Mem.wf t.med.mem = true := by
  unfold execEscalationDecodeDone ok at e
  dsimp only at e
  split at e
  · cases e; exact h
  · split at e
    · cases e; exact h
    · split at e
      · cases e
        refine foldl_canon _ (fun s x h => State.serveReader_canon _ _ h) _ _ ?_
        simpa using h
      · cases e
        refine State.unlockPage_canon _ _ _ (foldl_canon _ (fun s x h => State.serveReader_canon _ _ h) _ _ ?_)
        simpa using h

theorem execEscalationWritebackDone_canon (en) (s t : State) (h : Mem.wf s.med.mem = true) (e : execEscalationWritebackDone en s = .next t) :
    Mem.wf t.med.mem = true := by
  unfold execEscalationWritebackDone ok at e
  split at e
  · cases e; exact h
  · split at e
    · cases e; exact h
    · cases e
      exact State.unlockPage_canon _ _ _ (by simpa using h)

@[simp] theorem regionCommand_canon x0 x1 (s : State) (h : Mem.wf s.med.mem = true) : Mem.wf (regionCommand x0 x1 s).2.2.med.mem = true := by
  unfold regionCommand
  (try dsimp only)
  (repeat' split) <;> simp +contextual [*]

@[simp] theorem State.peekLines_canon x0 x1 (s : State) (h : Mem.wf s.med.mem = true) : Mem.wf (State.peekLines x0 x1 s).2.med.mem = true := by
  induction x0 generalizing x1 s with
  | zero => simp [State.peekLines, h]
  | succ n ih =>
    unfold State.peekLines
    (try dsimp only)
    (repeat' split) <;> simp +contextual (maxDischargeDepth := 12) [*]

@[simp] theorem State.readRat_canon x1 (s : State) (h : Mem.wf s.med.mem = true) : Mem.wf (State.readRat s x1).med.mem = true := by
  unfold State.readRat
  (try dsimp only)
  (repeat' split) <;> simp +contextual [*]

@[simp] theorem State.migrationFrame_canon (s : State) (h : Mem.wf s.med.mem = true) : Mem.wf (State.migrationFrame s).med.mem = true := by
  unfold State.migrationFrame
  rw [State.startMoves_mem]
  exact foldl_canon State.readRat (fun s x h => State.readRat_canon _ _ h) (List.range 256) s h

@[simp] theorem State.zeroExtent_canon x1 (s : State) (h : Mem.wf s.med.mem = true) : Mem.wf (State.zeroExtent s x1).med.mem = true := by
  simp +contextual [State.zeroExtent, h]

@[simp] theorem State.mediaDeltas_canon x1 x2 x3 (s : State) (h : Mem.wf s.med.mem = true) : Mem.wf (State.mediaDeltas s x1 x2 x3).med.mem = true := by
  simp +contextual [State.mediaDeltas, h]

@[simp] theorem State.abandonMove_canon x1 (s : State) (h : Mem.wf s.med.mem = true) : Mem.wf (State.abandonMove s x1).med.mem = true := by
  simp +contextual [State.abandonMove, h]

@[simp] theorem copyCommand_canon x0 x1 (s : State) (h : Mem.wf s.med.mem = true) : Mem.wf (copyCommand x0 x1 s).2.2.med.mem = true := by
  unfold copyCommand
  dsimp only
  (repeat' split) <;> simp [done, refuse, h]

@[simp] theorem State.endCopies_canon x1 (s : State) (h : Mem.wf s.med.mem = true) : Mem.wf (State.endCopies s x1).med.mem = true := by
  unfold State.endCopies
  generalize List.range 16 = l
  refine foldl_canon _ (fun s n h => ?_) l s h
  dsimp only
  have h1 : ∀ l : List (BitVec 256), Mem.wf (l.foldl (fun s' d =>
      s'.completionWord d 2 (if (s.copyAt n).queue.head? = some d then (s'.copyAt n).skipped else 0)) s).med.mem = true :=
    fun l => foldl_canon _ (fun s d h => State.completionWord_canon _ _ _ _ h) l s h
  refine ite_canon _ _ _ h (ite_canon _ _ _ ?_ (h1 _))
  rw [State.copyStart_mem]
  exact h1 _

@[simp] theorem State.resetTenantWork_canon x1 (s : State) (h : Mem.wf s.med.mem = true) : Mem.wf (State.resetTenantWork s x1).med.mem = true := by
  unfold State.resetTenantWork
  dsimp only
  have h2 : ∀ l : List Nat, Mem.wf ((l.foldl (fun s k => s.resetContext k) s).endCopies x1).med.mem = true :=
    fun l => State.endCopies_canon _ _ (foldl_canon _ (fun s k h => State.resetContext_canon _ _ h) l s h)
  exact foldl_canon _ (fun s m h => State.abandonMove_canon _ _ h) _ _ (h2 _)

@[simp] theorem State.release_canon x1 (s : State) (h : Mem.wf s.med.mem = true) : Mem.wf (State.release s x1).med.mem = true := by
  unfold State.release
  generalize List.range 64 = l
  dsimp only
  rw [State.rotateKey_mem]
  refine foldl_canon (fun s w => if s.par (0x5100 + w) 1 = x1 then (s.withdrawGlaze w).setPar (0x5100 + w) 5 0 else s)
    (fun s w h => ?_) l _ (State.resetTenantWork_canon x1 s h)
  split
  · rw [State.setPar_mem, State.withdrawGlaze_mem]; exact h
  · exact h

@[simp] theorem partitionCommand_canon x0 x1 (s : State) (h : Mem.wf s.med.mem = true) : Mem.wf (partitionCommand x0 x1 s).2.2.med.mem = true := by
  unfold partitionCommand
  dsimp only
  (repeat' split) <;> simp [done, refuse, h]

@[simp] theorem State.washLines_canon x1 (s : State) (h : Mem.wf s.med.mem = true) : Mem.wf (State.washLines s x1).med.mem = true := by
  simp +contextual [State.washLines, h]

@[simp] theorem State.linkDeath_canon x1 (s : State) (h : Mem.wf s.med.mem = true) : Mem.wf (State.linkDeath s x1).med.mem = true := by
  unfold State.linkDeath
  generalize List.range 16 = l
  dsimp only
  refine ite_canon _ _ _ (foldl_canon _ (fun s n h => State.hostDies_canon _ _ _ _ h) l s h) (ite_canon _ _ _ h ?_)
  exact foldl_canon _ (fun s r h => State.hostDies_canon _ _ _ _ h) _ s h

@[simp] theorem State.failAts_canon x1 (s : State) (h : Mem.wf s.med.mem = true) : Mem.wf (State.failAts s x1).med.mem = true := by
  unfold State.failAts
  refine foldl_canon _ (fun s x h => State.afterFetch_canon _ _ ?_) _ _ h
  rw [State.atsDone_mem]; exact h

@[simp] theorem State.linkDown_canon x1 (s : State) (h : Mem.wf s.med.mem = true) : Mem.wf (State.linkDown s x1).med.mem = true := by
  unfold State.linkDown
  refine ite_canon _ _ _ h (State.linkDeath_canon _ _ (State.failAts_canon _ _ ?_))
  have : Mem.wf (s.muteRequests x1).med.mem = true := by simpa using h
  exact this

@[simp] theorem State.resetPort_canon x1 x2 (s : State) (h : Mem.wf s.med.mem = true) : Mem.wf (State.resetPort s x1 x2).med.mem = true := by
  unfold State.resetPort
  have hl := State.linkDown_canon x1 s h
  generalize s.linkDown x1 = u at hl
  dsimp only
  have h2 : ∀ l : List Nat, Mem.wf (l.foldl (fun s f => s.clearFunc f true) (u.bump 32 (0x5010 + x1) 3)).med.mem = true :=
    fun l => foldl_canon _ (fun s f h => by rw [State.clearFunc_mem]; exact h) l _ hl
  exact ite_canon _ _ _ (h2 _) (h2 _)

@[simp] theorem State.glazeOut_canon x1 x2 x3 x4 x5 x6 (s : State) (h : Mem.wf s.med.mem = true) : Mem.wf (State.glazeOut s x1 x2 x3 x4 x5 x6).med.mem = true := by
  unfold State.glazeOut
  (try dsimp only)
  (repeat' split) <;> simp +contextual [*]

@[simp] theorem State.glazeRead_canon x0 x1 (s : State) (h : Mem.wf s.med.mem = true) : Mem.wf (State.glazeRead s x0 x1).2.med.mem = true := by
  unfold State.glazeRead
  (try dsimp only)
  refine foldl_pair_canon _ (fun a x h => ?_) _ _ h
  (try dsimp only)
  (repeat' split) <;> simp +contextual (maxDischargeDepth := 12) [*]

@[simp] theorem State.glazeStore_canon x1 x2 (s : State) (h : Mem.wf s.med.mem = true) : Mem.wf (State.glazeStore s x1 x2).med.mem = true := by
  simp +contextual [State.glazeStore, h]

@[simp] theorem State.glazeTake_canon x1 x2 x3 x4 (s : State) (h : Mem.wf s.med.mem = true) : Mem.wf (State.glazeTake s x1 x2 x3 x4).med.mem = true := by
  unfold State.glazeTake
  have hg (s u : State) (f) (h : u.med.mem = s.med.mem) : (u.modGlaze x1 f).med.mem = s.med.mem := h
  dsimp only
  generalize (if bytesBits x3 163 160 = 1 then (bytesBits x3 159 128).min (2 ^ s.par (0x5100 + x1) 3 - 64) else 0) = body
  have h1 := State.readBytes_mem (s.glazeHeader x1 + 64) body s
  generalize s.readBytes (s.glazeHeader x1 + 64) body = p at h1
  have h2 := hg s p.2 (fun g => { g with inNext := g.inNext + 1, inCount := g.inCount + 1 }) h1
  generalize p.2.modGlaze x1 (fun g => { g with inNext := g.inNext + 1, inCount := g.inCount + 1 }) = s2 at h2
  have h3 : Mem.wf s2.med.mem = true := by rw [h2]; exact h
  split
  · exact State.glazeOut_canon _ _ _ _ _ _ _ (by simpa using h3)
  · refine ite_canon _ _ _ (State.glazeOut_canon _ _ _ _ _ _ _ h3) (ite_canon _ _ _ (State.glazeOut_canon _ _ _ _ _ _ _ h3)
      (ite_canon _ _ _ (State.glazeOut_canon _ _ _ _ _ _ _ (State.glazeStore_canon _ _ _ h3)) ?_))
    have h4 := State.glazeRead_canon ((s2.tenantAt (s.par (0x5100 + x1) 1)).base.toNat + bytesBits x3 109 64) (bytesBits x3 159 128) s2 h3
    generalize s2.glazeRead ((s2.tenantAt (s.par (0x5100 + x1) 1)).base.toNat + bytesBits x3 109 64) (bytesBits x3 159 128) = r at h4
    split
    · rw [hg r.2 r.2 _ rfl]; exact h4
    · exact ite_canon _ _ _ (State.glazeOut_canon _ _ _ _ _ _ _ h4) (State.glazeOut_canon _ _ _ _ _ _ _ h4)

@[simp] theorem State.glazeRun_canon x1 x2 (s : State) (h : Mem.wf s.med.mem = true) : Mem.wf (State.glazeRun s x1 x2).med.mem = true := by
  unfold State.glazeRun
  dsimp only
  split
  · exact h
  · refine ite_canon _ _ _ h ?_
    have h1 : Mem.wf ((s.glazeRoom x1).2.readBytes ((s.glazeRoom x1).2.glazeHeader x1) 64).2.med.mem = true := by simpa using h
    generalize (s.glazeRoom x1).2.readBytes ((s.glazeRoom x1).2.glazeHeader x1) 64 = q at h1
    have h2 : Mem.wf (q.2.modGlaze x1 (fun g => { g with armed := false })).med.mem = true := h1
    exact ite_canon _ _ _ h (ite_canon _ _ _ (State.glazeOut_canon _ _ _ _ _ _ _ h2) (State.glazeTake_canon _ _ _ _ _ h2))

@[simp] theorem State.finishRequest_canon x0 x1 x2 (s : State) (h : Mem.wf s.med.mem = true) : Mem.wf (State.finishRequest s x0 x1 x2).med.mem = true := by
  unfold State.finishRequest
  dsimp only
  (repeat' split) <;> simp [h]

@[simp] theorem State.takeResponse_canon x0 x1 (s : State) (h : Mem.wf s.med.mem = true) : Mem.wf (State.takeResponse s x0 x1).med.mem = true := by
  unfold State.takeResponse
  dsimp only
  split
  · refine ite_canon _ _ _ (State.finishRequest_canon _ _ _ _ h) (State.finishRequest_canon _ _ _ _ ?_)
    split <;> simp [h]
  · (repeat' split) <;> simp [h]

@[simp] theorem State.poolRead_canon x0 x1 (s : State) (h : Mem.wf s.med.mem = true) : Mem.wf (State.poolRead s x0 x1).2.med.mem = true := by
  induction x1 generalizing x0 s with
  | zero => simp [State.poolRead, h]
  | succ n ih =>
    unfold State.poolRead
    (try dsimp only)
    (repeat' split) <;> simp +contextual (maxDischargeDepth := 12) [*]

@[simp] theorem State.serveRd_canon x1 (s : State) (h : Mem.wf s.med.mem = true) : Mem.wf (State.serveRd s x1).med.mem = true := by
  unfold State.serveRd
  dsimp only
  split
  · exact h
  · split
    · rw [State.reply_mem, State.poolDenied_mem]; exact h
    · have hr := State.poolRead_canon ((PktHdr.unpack x1).dpa / 64) (PktHdr.unpack x1).lines s h
      split
      · exact hr
      · split <;> (rw [State.reply_mem]; exact hr)

@[simp] theorem State.retryReads_canon (s : State) (h : Mem.wf s.med.mem = true) : Mem.wf (State.retryReads s).med.mem = true := by
  simp +contextual [State.retryReads, h]

@[simp] theorem State.serveWr_canon x1 x2 (s : State) (h : Mem.wf s.med.mem = true) : Mem.wf (State.serveWr s x1 x2).med.mem = true := by
  simp +contextual [State.serveWr, h]

@[simp] theorem State.serveDelta_canon x1 x2 (s : State) (h : Mem.wf s.med.mem = true) : Mem.wf (State.serveDelta s x1 x2).med.mem = true := by
  unfold State.serveDelta
  (try dsimp only)
  (repeat' split) <;> simp +contextual [*]

@[simp] theorem State.storeRebuilt_canon x0 x1 (s : State) (h : Mem.wf s.med.mem = true) : Mem.wf (State.storeRebuilt s x0 x1).med.mem = true := by
  simp +contextual [State.storeRebuilt, h]

@[simp] theorem State.serveChunk_canon x1 x2 (s : State) (h : Mem.wf s.med.mem = true) : Mem.wf (State.serveChunk s x1 x2).med.mem = true := by
  simp +contextual [State.serveChunk, h]

@[simp] theorem State.takeNotice_canon x1 x2 (s : State) (h : Mem.wf s.med.mem = true) : Mem.wf (State.takeNotice s x1 x2).med.mem = true := by
  unfold State.takeNotice
  refine foldl_canon _ (fun s x h => ?_) _ _ h
  (try dsimp only)
  (repeat' split) <;> simp +contextual [*]

@[simp] theorem State.deliver_canon x0 x1 (s : State) (h : Mem.wf s.med.mem = true) : Mem.wf (State.deliver s x0 x1).med.mem = true := by
  unfold State.deliver
  dsimp only
  split <;> simp [h]

@[simp] theorem State.receive_canon x0 x1 x2 (s : State) (h : Mem.wf s.med.mem = true) : Mem.wf (State.receive s x0 x1 x2).med.mem = true := by
  unfold State.receive
  dsimp only
  refine ite_canon _ _ _ (State.deliver_canon _ _ _ ?_) ?_
  · cases x0 <;> exact h
  · split
    · rename_i e
      rw [State.forward_mem e]
      cases x0 <;> exact h
    · refine ite_canon _ _ _ ?_ ?_ <;> rw [State.noWay_mem] <;> cases x0 <;> exact h

@[simp] theorem State.packet_canon x0 x1 x2 (s : State) (h : Mem.wf s.med.mem = true) : Mem.wf (State.packet s x0 x1 x2).med.mem = true := by
  unfold State.packet
  exact ite_canon _ _ _ (State.receive_canon _ _ _ _ h) h

@[simp] theorem State.discardFlits_canon x1 (s : State) (h : Mem.wf s.med.mem = true) : Mem.wf (State.discardFlits s x1).med.mem = true := by
  unfold State.discardFlits
  refine foldl_canon _ (fun s q h => ?_) _ _ h
  dsimp only
  (repeat' split) <;> simp [h]

@[simp] theorem State.linkFatal_canon x1 x2 x3 (s : State) (h : Mem.wf s.med.mem = true) : Mem.wf (State.linkFatal s x1 x2 x3).med.mem = true := by
  unfold State.linkFatal
  dsimp only
  have h2 (a b c d e) : Mem.wf ((((s.bump 32 (0x5410 + x1) 9).report a b c d).linkTo x1 e)).med.mem = true := by simpa using h
  refine ite_canon _ _ _ (State.discardFlits_canon _ _ ?_) ?_ <;> exact h2 _ _ _ _ _

@[simp] theorem State.checkPartners_canon (s : State) (h : Mem.wf s.med.mem = true) : Mem.wf (State.checkPartners s).med.mem = true := by
  unfold State.checkPartners
  refine foldl_canon _ (fun s x h => ?_) _ _ h
  (try dsimp only)
  (repeat' split) <;> simp +contextual [*]

@[simp] theorem routeWrite_canon x0 x1 (s : State) (h : Mem.wf s.med.mem = true) : Mem.wf (routeWrite x0 x1 s).2.2.med.mem = true := by
  unfold routeWrite
  (try dsimp only)
  (repeat' split) <;> simp +contextual [*]

@[simp] theorem epochWrite_canon x0 (s : State) (h : Mem.wf s.med.mem = true) : Mem.wf (epochWrite x0 s).2.2.med.mem = true := by
  unfold epochWrite
  (try dsimp only)
  (repeat' split) <;> simp +contextual [*]

theorem State.query_canon (s : State) (c : Client) (idx sub) (op : Op) (h : Mem.wf s.med.mem = true)
    (ho : ∀ s, Mem.wf s.med.mem = true → Mem.wf (op s).2.2.med.mem = true) : Mem.wf (s.query c idx sub op).med.mem = true := by
  simp only [State.query]
  (repeat' split) <;> simp [h, ho]

@[simp] theorem State.writeMapCopy_canon  (s : State) (h : Mem.wf s.med.mem = true) : Mem.wf (State.writeMapCopy s).med.mem = true := by
  simp +contextual [State.writeMapCopy, h]

@[simp] theorem State.warmState_canon x1 (s : State) (h : Mem.wf s.med.mem = true) : Mem.wf (State.warmState s x1).med.mem = true := by
  unfold State.warmState MediaState.lost
  dsimp only
  split
  · exact h
  · rfl

@[simp] theorem State.coldState_canon (s : State) (h : Mem.wf s.med.mem = true) : Mem.wf (State.coldState s).med.mem = true := by
  rfl

@[simp] theorem State.assertReset_canon x1 x2 x3 (s : State) (h : Mem.wf s.med.mem = true) : Mem.wf (State.assertReset s x1 x2 x3).med.mem = true := by
  unfold State.assertReset
  (try dsimp only)
  (repeat' split) <;> simp +contextual [*]

@[simp] theorem State.stopWork_canon (s : State) (h : Mem.wf s.med.mem = true) : Mem.wf (State.stopWork s).med.mem = true := by
  simp +contextual [State.stopWork, h]

@[simp] theorem State.finishEscalations_canon (s : State) (h : Mem.wf s.med.mem = true) : Mem.wf (State.finishEscalations s).med.mem = true := by
  unfold State.finishEscalations
  generalize List.range 9 = l9
  generalize List.range 8 = l8
  generalize List.finRange 8 = lf
  refine foldl_canon _ (fun s x h => ?_) l9 s h
  dsimp only
  refine foldl_canon _ (fun s e h => ?_) lf _ ?_
  · have h0 : Mem.wf s.freeEscSlots.med.mem = true := by simpa using h
    have h1 := stateOr_canon _ _ h0 (execEscalationDecodeDone_canon e 0 _ · h0)
    have h2 : Mem.wf ((execEscalationDecodeDone e 0 s.freeEscSlots).stateOr s.freeEscSlots).freeEscSlots.med.mem = true := by simpa using h1
    exact stateOr_canon _ _ h2 (execEscalationWritebackDone_canon e _ · h2)
  · refine foldl_canon (fun s _ => (execEscalationGrant [] s).stateOr s) (fun s _ h => stateOr_canon _ _ h (fun t e => ?_)) l8 s h
    rw [execEscalationGrant_mem _ _ _ e]; exact h

@[simp] theorem State.flushVats_canon (s : State) (h : Mem.wf s.med.mem = true) : Mem.wf (State.flushVats s).med.mem = true := by
  unfold State.flushVats
  refine foldl_canon _ (fun s x h => ?_) _ _ h
  exact State.flushCache_canon _ _ h

@[simp] theorem State.heldLinks_canon (s : State) (h : Mem.wf s.med.mem = true) : Mem.wf (State.heldLinks s).med.mem = true := by
  unfold State.heldLinks
  exact foldl_canon _ (fun s p h => State.linkDown_canon _ _ h) _ _ h

@[simp] theorem State.heldMerges_canon (s : State) (h : Mem.wf s.med.mem = true) : Mem.wf (State.heldMerges s).med.mem = true := by
  unfold State.heldMerges
  have ht := stateOr_canon _ _ h (execDirectorySweepDone_canon s · h)
  generalize (execDirectorySweepDone s).stateOr s = t at ht
  refine foldl_canon _ (fun s e h => ?_) _ _ ht
  split
  · exact State.rmwNow_canon _ _ (by simpa using h)
  · exact h

@[simp] theorem State.heldMoves_canon (s : State) (h : Mem.wf s.med.mem = true) : Mem.wf (State.heldMoves s).med.mem = true := by
  unfold State.heldMoves
  refine foldl_canon _ (fun s x h => ?_) _ _ h
  exact State.abandonMove_canon _ _ h

@[simp] theorem State.enterHeld_canon (s : State) (h : Mem.wf s.med.mem = true) : Mem.wf (State.enterHeld s).med.mem = true := by
  have hp (t : State) (p) (h : Mem.wf t.med.mem = true) : Mem.wf ({ t with pool := p } : State).med.mem = true := h
  unfold State.enterHeld
  refine hp _ _ ?_
  rw [State.heldParity_mem]
  exact State.heldMoves_canon _ (State.heldMerges_canon _ (State.finishEscalations_canon _ (State.heldLinks_canon _
    (State.flushVats_canon _ (State.stopWork_canon _ h)))))

@[simp] theorem State.chipReset_canon x1 x2 (s : State) (h : Mem.wf s.med.mem = true) : Mem.wf (State.chipReset s x1 x2).med.mem = true := by
  unfold State.chipReset
  generalize 2 ^ x2 = src
  refine ite_canon _ _ _ (ite_canon _ _ _ (State.assertReset_canon _ _ _ _ h) h) (ite_canon _ _ _ h ?_)
  cases x1
  · exact State.assertReset_canon _ _ _ _ h
  · exact ite_canon _ _ _ (State.enterHeld_canon _ h) (State.assertReset_canon _ _ _ _ (State.stopWork_canon _ h))
  · exact State.assertReset_canon _ _ _ _ (State.stopWork_canon _ h)

@[simp] theorem State.gateOff_canon x1 x2 x3 (s : State) (h : Mem.wf s.med.mem = true) : Mem.wf (State.gateOff s x1 x2 x3).med.mem = true := by
  simp +contextual [State.gateOff, h]

@[simp] theorem State.resetVat_canon x1 (s : State) (h : Mem.wf s.med.mem = true) : Mem.wf (State.resetVat s x1).med.mem = true := by
  unfold State.resetVat
  (try dsimp only)
  (repeat' split) <;> simp +contextual [*]

@[simp] theorem State.resetLink_canon x1 (s : State) (h : Mem.wf s.med.mem = true) : Mem.wf (State.resetLink s x1).med.mem = true := by
  unfold State.resetLink
  exact State.discardFlits_canon _ _ (by simpa using h)

@[simp] theorem State.resetHostPort_canon x1 (s : State) (h : Mem.wf s.med.mem = true) : Mem.wf (State.resetHostPort s x1).med.mem = true := by
  unfold State.resetHostPort
  rw [State.isolate_mem]
  exact State.resetPort_canon _ _ _ h

@[simp] theorem resetScoped_canon x0 (s : State) (h : Mem.wf s.med.mem = true) : Mem.wf (resetScoped x0 s).2.2.med.mem = true := by
  unfold resetScoped
  dsimp only
  (repeat' split) <;> simp [done, refuse, h]

@[simp] theorem resetCommand_canon x0 (s : State) (h : Mem.wf s.med.mem = true) : Mem.wf (resetCommand x0 s).2.2.med.mem = true := by
  unfold resetCommand
  (repeat' split) <;> simp [done, refuse, h]

@[simp] theorem State.afterResetCommand_canon x1 (s : State) (h : Mem.wf s.med.mem = true) : Mem.wf (State.afterResetCommand s x1).med.mem = true := by
  unfold State.afterResetCommand
  exact ite_canon _ _ _ (State.chipReset_canon _ _ _ h) h

theorem State.requestThen_canon (s : State) (c : Client) (idx sub val) (op : Op) (f : State → State) (h : Mem.wf s.med.mem = true)
    (ho : ∀ s, Mem.wf s.med.mem = true → Mem.wf (op s).2.2.med.mem = true)
    (hf : ∀ s, Mem.wf s.med.mem = true → Mem.wf (f s).med.mem = true) : Mem.wf (s.requestThen c idx sub val op f).med.mem = true := by
  have h1 := State.request_canon s c idx sub val op h ho
  simp only [State.requestThen]
  (repeat' split) <;> simp [hf, h1]

@[simp] theorem State.resetWrite_canon x1 x2 (s : State) (h : Mem.wf s.med.mem = true) : Mem.wf (State.resetWrite s x1 x2).med.mem = true :=
  State.requestThen_canon _ _ _ _ _ _ _ h (resetCommand_canon _) (State.afterResetCommand_canon _)

@[simp] theorem State.declareFailed_canon x1 x2 (s : State) (h : Mem.wf s.med.mem = true) : Mem.wf (State.declareFailed s x1 x2).med.mem = true := by
  have hm (s : State) (x) (f) (b a c d) : ((s.modCx x f).isolate b a c d).med.mem = s.med.mem := by simp
  have hc (s : State) (n) : ({ s with clk := n } : State).med.mem = s.med.mem := rfl
  have hx (s : State) (n) : ({ s with cx := n } : State).med.mem = s.med.mem := rfl
  unfold State.declareFailed
  refine ite_canon _ _ _ h (ite_canon _ _ _ (ite_canon _ _ _ ?_ ?_) (ite_canon _ _ _ ?_ (State.chipReset_canon _ _ _ (by simpa using h))))
  · simpa using h
  · simpa using h
  · simpa using h

@[simp] theorem State.vatClockLost_canon (s : State) (h : Mem.wf s.med.mem = true) : Mem.wf (State.vatClockLost s).med.mem = true := by
  simp +contextual [State.vatClockLost, h]

@[simp] theorem State.clockAction_canon x1 (s : State) (h : Mem.wf s.med.mem = true) : Mem.wf (State.clockAction s x1).med.mem = true := by
  have hl : ∀ (l : List Nat) (s : State), Mem.wf s.med.mem = true → Mem.wf (l.foldl (fun s p => s.linkTo p .down) s).med.mem = true :=
    fun l s h => foldl_canon _ (fun s p h => by simpa using h) l s h
  unfold State.clockAction
  generalize List.range 4 = l
  split
  · exact State.chipReset_canon _ _ _ h
  · exact State.chipReset_canon _ _ _ h
  · exact State.chipReset_canon _ _ _ h
  · exact State.chipReset_canon _ _ _ h
  · exact hl _ _ h
  · exact hl _ _ h
  · exact State.vatClockLost_canon _ h
  · exact State.linkDown_canon _ _ h
  · exact State.declareFailed_canon _ _ _ h
  · exact h
  · exact h

@[simp] theorem State.failClock_canon x1 x2 (s : State) (h : Mem.wf s.med.mem = true) : Mem.wf (State.failClock s x1 x2).med.mem = true := by
  unfold State.failClock
  dsimp only
  refine ite_canon _ _ _ h (State.clockAction_canon _ _ ?_)
  (repeat' split) <;> simpa using h

@[simp] theorem State.pinTest_canon x1 (s : State) (h : Mem.wf s.med.mem = true) : Mem.wf (State.pinTest s x1).med.mem = true := by
  simp +contextual [State.pinTest, h]

@[simp] theorem whileStopped_canon (b : Bool) (op : Op) (s : State) (h : Mem.wf s.med.mem = true)
    (ho : Mem.wf (op s).2.2.med.mem = true) : Mem.wf (whileStopped b op s).2.2.med.mem = true := by
  unfold whileStopped
  split
  · exact ho
  · exact h

/-- An operation that an entry may name keeps the canonical form. -/
def OpKeeps (o : Option Op) : Prop := ∀ op, o = some op → ∀ s : State, Mem.wf s.med.mem = true → Mem.wf (op s).2.2.med.mem = true

theorem OpKeeps.none : OpKeeps none := fun _ e => by cases e

theorem OpKeeps.some {op : Op} (h : ∀ s : State, Mem.wf s.med.mem = true → Mem.wf (op s).2.2.med.mem = true) : OpKeeps (some op) :=
  fun _ e => by cases e; exact h

theorem OpKeeps.ite (c : Prop) [Decidable c] {a b : Option Op} (ha : OpKeeps a) (hb : OpKeeps b) : OpKeeps (if c then a else b) := by
  split <;> assumption

theorem writeMemory_canon (c i b v d) : OpKeeps (writeMemory c i b v d) := by
  unfold writeMemory
  repeat' first
    | refine OpKeeps.ite _ ?_ ?_
    | exact OpKeeps.none
    | (refine OpKeeps.some fun s h => ?_)
    | split
  all_goals first | (simp [h]; done) | (dsimp only; (repeat' split) <;> (simp [h, done, refuse]; done))

theorem writeVats_canon (c i b v) : OpKeeps (writeVats c i b v) := by
  unfold writeVats
  repeat' first
    | refine OpKeeps.ite _ ?_ ?_
    | exact OpKeeps.none
    | (refine OpKeeps.some fun s h => ?_)
    | split
  all_goals first | (simp [h]; done) | (dsimp only; (repeat' split) <;> (simp [h, done, refuse]; done))

theorem writeSharing_canon (c i b v) : OpKeeps (writeSharing c i b v) := by
  unfold writeSharing
  repeat' first
    | refine OpKeeps.ite _ ?_ ?_
    | exact OpKeeps.none
    | (refine OpKeeps.some fun s h => ?_)
    | split
  all_goals first | (simp [h]; done) | (dsimp only; (repeat' split) <;> (simp [h, done, refuse]; done))

theorem writeControl_canon (c i b v d) : OpKeeps (writeControl c i b v d) := by
  unfold writeControl
  repeat' first
    | refine OpKeeps.ite _ ?_ ?_
    | exact OpKeeps.none
    | (refine OpKeeps.some fun s h => ?_)
    | split
  all_goals first | (simp [h]; done) | (dsimp only; (repeat' split) <;> (simp [h, done, refuse]; done))

@[simp] theorem entryWrite_canon (c r i b d) (s : State) (h : Mem.wf s.med.mem = true) : Mem.wf (entryWrite c r i b d s).2.2.med.mem = true := by
  unfold entryWrite
  split
  · exact h
  · cases e1 : writeMemory c i b (leNat d) d with
    | some op => exact writeMemory_canon _ _ _ _ _ _ e1 s h
    | none =>
      cases e2 : writeVats c i b (leNat d) with
      | some op => exact writeVats_canon _ _ _ _ _ e2 s h
      | none =>
        cases e3 : writeSharing c i b (leNat d) with
        | some op => exact writeSharing_canon _ _ _ _ _ e3 s h
        | none =>
          cases e4 : writeControl c i b (leNat d) d with
          | some op => exact writeControl_canon _ _ _ _ _ _ e4 s h
          | none =>
            show Mem.wf (keepRange i b (leNat d) s).2.2.med.mem = true
            rw [keepRange_mem]; exact h

@[simp] theorem State.applyValue_canon (c r i b d) (s : State) (h : Mem.wf s.med.mem = true) : Mem.wf (s.applyValue c r i b d).2.2.med.mem = true := by
  unfold State.applyValue
  exact entryWrite_canon _ _ _ _ _ _ (by simpa using h)

@[simp] theorem State.writeMessage_canon (c m d) (s : State) (h : Mem.wf s.med.mem = true) : Mem.wf (s.writeMessage c m d).2.2.med.mem = true := by
  unfold State.writeMessage
  dsimp only
  (repeat' split) <;> simp [h]

@[simp] theorem State.perform_canon (c m d) (s : State) (h : Mem.wf s.med.mem = true) : Mem.wf (s.perform c m d).2.2.med.mem = true := by
  unfold State.perform
  (repeat' split) <;> simp [h]

@[simp] theorem State.odServe_canon x1 x2 x3 (s : State) (h : Mem.wf s.med.mem = true) : Mem.wf (State.odServe s x1 x2 x3).med.mem = true := by
  unfold State.odServe
  dsimp only
  (repeat' split) <;> simp [h]

@[simp] theorem State.arriveMessage_canon x1 x2 x3 (s : State) (h : Mem.wf s.med.mem = true) : Mem.wf (State.arriveMessage s x1 x2 x3).med.mem = true := by
  unfold State.arriveMessage
  (repeat' split) <;> simp [h]

@[simp] theorem State.windowServe_canon x1 x2 (s : State) (h : Mem.wf s.med.mem = true) : Mem.wf (State.windowServe s x1 x2).med.mem = true := by
  unfold State.windowServe
  have := State.odServe_canon (windowClient x1) (windowMessage (s.windowAt x1.val)).1 (windowMessage (s.windowAt x1.val)).2 s h
  exact this

@[simp] theorem State.doorbell_canon x1 x2 (s : State) (h : Mem.wf s.med.mem = true) : Mem.wf (State.doorbell s x1 x2).med.mem = true := by
  unfold State.doorbell
  (repeat' split) <;> simp [h]

@[simp] theorem State.applyQueued_canon x1 (s : State) (h : Mem.wf s.med.mem = true) : Mem.wf (State.applyQueued s x1).med.mem = true := by
  unfold State.applyQueued
  split
  · simpa using h
  · exact State.windowServe_canon _ _ _ h
  · simpa using h
  · exact State.odServe_canon _ _ _ _ h
  · split
    · refine State.query_canon _ _ _ _ _ h (fun s h => ?_)
      dsimp only
      rw [State.entryValue_mem]; exact h
    · exact h
  · split
    · exact State.requestThen_canon _ _ _ _ _ _ _ h (fun s h => entryWrite_canon _ _ _ _ _ _ h)
        (fun s h => by split <;> simp [h])
    · exact h

@[simp] theorem State.applyQueue_canon x0 (s : State) (h : Mem.wf s.med.mem = true) : Mem.wf (State.applyQueue x0 s).med.mem = true := by
  induction x0 generalizing s with
  | nil => exact h
  | cons g q ih =>
    unfold State.applyQueue
    split
    · exact ih _ (State.applyQueued_canon _ _ h)
    · exact h

end Machine
end Sys2Proof
end

