-- ==== Sys2Proof/Safety.lean ====
section
/-! DEFINITION. What counts as a safe run, in the terms that the statements use: memory in its canonical form, memory left as
it was, and a client whose request reaches its entry. -/

namespace Sys2Proof
namespace Machine

/-- Memory is in its canonical form: addresses rise strictly and no zero byte is listed. -/
def State.MemoryCanonical (s : State) : Prop := Mem.wf s.med.mem = true

/-- Every byte of memory reads after a command as before it. -/
def SameBytes (s t : State) : Prop := ∀ a, Mem.get t.med.mem a = Mem.get s.med.mem a

/-- Every byte of memory outside the `n` bytes from `a` reads after a command as before it. -/
def SameBytesBut (s t : State) (a n : Nat) : Prop := ∀ x, x < a ∨ a + n ≤ x → Mem.get t.med.mem x = Mem.get s.med.mem x

/-- R369-R371: the window of a client, where it has one, is open and shows no change of version. -/
def State.windowTakes (s : State) (c : Client) : Bool :=
  match c.path with
  | .window w => s.clientScope c ≠ 0xFFFF && !(s.windowAt w.val).changed
  | _ => true

/-- R369, R449, R450: a client's write reaches entry `idx`:`sub`: the supply is on, no fail-over gap is open, firmware runs,
MGMT_WRITE allows management paths to write, and the client's scope reaches the entry. -/
def State.serves (s : State) (c : Client) (idx sub : Nat) : Bool :=
  s.pwr.gateOn && s.windowTakes c && !s.cx.gap && s.running && (clientGroup c = 0 || s.option 199 199 ≠ 0)
    && s.inScope c idx sub true

/-- R369, R449: a client's read reaches entry `idx`:`sub`; on a management path every entry is in scope. -/
def State.reads (s : State) (c : Client) (idx sub : Nat) : Bool :=
  s.pwr.gateOn && s.windowTakes c && !s.cx.gap && s.running && (clientGroup c ≠ 0 || s.inScope c idx sub false)

/-- R158, R161: commands of a slot of physical vat `v` at cycle `cyc` find a slot of kind `slots` with operation `op` still to act:
the plan of context `k` runs there, its bundle issues at that cycle, `w` is the slot's word, and `t` the machine as it then stands,
its memory as before. -/
def State.issues (s : State) (v cyc : Nat) (slots : List Nat) (op k w : Nat) (t : State) : Prop :=
  s.slotReady v cyc slots op = some (k, w, t) ∧ t.med = s.med

/-- Lane `i` of vector register `r` of a vat (R149). -/
def State.lane (s : State) (v r i : Nat) : BitVec 32 := Tab.get (s.vatAt v).vregs (r * 256 + i) 0

/-- Cell (row, column) of accumulator bank `b` of a vat (R148). -/
def State.cell (s : State) (v b row col : Nat) : BitVec 32 := Tab.get (s.vatAt v).acc (b * 16384 + row * 128 + col) 0

/-- R225: the value of a vector register is usable at a cycle. -/
def State.regReady (s : State) (v r cyc : Nat) : Prop := Tab.get (s.vatAt v).ready r 0 ≤ cyc

/-- Only vat `v` and the light counters differ, and memory reads as before. -/
def State.onlyVat (s t : State) (v : Nat) : Prop :=
  SameBytes s t ∧ t = { s with vat := { s.vat with vats := t.vat.vats }, tst := t.tst } ∧ ∀ u, u ≠ v → t.vatAt u = s.vatAt u

/-- R77, R116, R119: a line whose slice is not fatal, that is not poison, and whose code words hold no error. -/
def State.sound (s : State) (line : Nat) : Prop :=
  s.fatalAt (line * 64) = false ∧ s.isPoison line = false ∧ ∀ w, w ∈ s.lineWords line → s.decodeWord w [] = .data []

/-- A sound line of which the merge buffer holds no byte (R135). -/
def State.intact (s : State) (line : Nat) : Prop := s.sound line ∧ s.mergeEntry line = none

/-- R428: each half of a line is in the all-zero state or was written under the key that is in force for it. -/
def State.ownKey (s : State) (line : Nat) : Prop :=
  ∀ h, h = 2 * line ∨ h = 2 * line + 1 → s.writtenKey h = none ∨ s.writtenKey h = some (s.keyOf (h * 32))

/-- A line that a write stores at once: on no fatal slice, no mordant record, its page locked by no escalation engine. -/
def State.open_ (s : State) (line : Nat) : Prop :=
  s.fatalAt (line * 64) = false ∧ s.recordOf line = none ∧ s.pageLocked (pageOf (line * 64)) = false

/-- R405, R407: no ring parity of a line is held on this chip: every holder is another, or the ring is broken (R20). -/
def State.parityElsewhere (s : State) (line : Nat) : Prop :=
  s.pool.broken = true ∨ ∀ h, h ∈ s.parityHolders (line * 64) → h.1 ≠ s.coord

end Machine

/-- The commands that move no data. -/
def Instr.sparesMemory (i : Instr) : Bool :=
  match i with
  | .vatReserve .. | .rowCountClear .. | .urgencyLevelRaise .. | .wheelBucketRelease .. | .wheelOverflowSweep ..
  | .beRequestArrival .. | .escalationGrant .. | .parityCacheWriteback .. | .mergeHoldExpire .. | .scrubLapLate ..
  | .scrubEnableWrite .. | .flipArm .. | .caParityAlert .. | .hbmTempSample .. | .dimmTempSample ..
  | .coreTempSample .. | .fmApiGfdDecoder .. | .copyRequest .. | .gateWrite .. | .shaperWrite .. | .markerFlit ..
  | .frameLockAcquired .. | .frameLockLost .. | .frameLockRestored .. | .takeoverDone .. | .rotationDue ..
  | .rotationWaitExpire .. | .vatTestSliceDone .. | .rotationEnableWrite .. | .ringBarrierRelease ..
  | .atsInvalidationRequest .. | .invalidate .. | .requesterRevive .. | .migrationBackoffExpire ..
  | .portLinkUp .. | .flr .. | .cxlReset .. | .identifyMemoryDevice .. | .getSupportedLogs .. | .getLog ..
  | .getHealthInfo .. | .getPoisonList .. | .unsupportedMailboxCommand .. | .doeDiscovery .. | .cdatRead ..
  | .ideKm .. | .getVersion .. | .getCapabilities .. | .negotiateAlgorithms .. | .getDigests .. | .getCertificate ..
  | .challenge .. | .getMeasurements .. | .keyExchange .. | .finish .. | .heartbeat .. | .keyUpdate ..
  | .endSession .. | .getCsr .. | .setCertificate .. | .glazeKeyWithdraw .. | .ringKeyInstall .. | .versionAck ..
  | .bootGo .. | .firmwareCheckDone .. | .idleFlit .. | .ackCredit .. | .retrainReq .. | .initFlit .. | .ackTimer ..
  | .replayReqResend .. | .retrainReqRepeat .. | .creditRefresh .. | .pmdTrainingDone .. | .trainingFailed ..
  | .trainingRetry .. | .alignmentDone .. | .alignmentTimeout .. | .linkInitDone .. | .lossOfSignal ..
  | .retrainDone .. | .retrainTimeout .. | .retrain .. | .width16 .. | .width8 .. | .width4 .. | .down .. | .up ..
  | .congestionSample .. | .congestionMapRead .. | .rebuildStart .. | .rebuildAbort .. | .rebuildMapDone ..
  | .lcTransition .. | .svnCommit .. | .entropyRetry .. | .segmentLatchExpire .. | .optionWrite ..
  | .optionWriteDone .. | .neighborDiscovery .. | .icmpv6Echo .. | .entdaa .. | .setdasa .. | .complexHeartbeat ..
  | .crashRecordDone .. | .complexBootDone .. | .complexSynced .. | .revertDelayExpire .. | .complexRestart ..
  | .switchover .. | .fwLoad .. | .fwActivate .. | .fwCancel .. | .fwStage .. | .switchoverDeferralExpire ..
  | .busSample .. | .gateOn .. | .avsMeasurement .. | .regulatorSettled .. | .regulatorSlow ..
  | .regulatorTelemetrySample .. | .regulatorWarning .. | .tachSample .. | .powerLoopRun .. | .thermalLoopRun ..
  | .thermalStepLower .. | .emergencyClear .. | .emergencyHoldExpire .. | .throttleNAssert .. | .throttleNRelease ..
  | .prstNRelease .. | .blockResetRelease .. | .optionsReadDone .. | .pllLocked .. | .pllLockTimeout ..
  | .hbmTrainingDone .. | .ddrTrainingDone .. | .hbmFillDone .. | .serviceStateLoaded .. | .clockRestored ..
  | .timeBaseSync .. | .patternDue .. | .patternSliceDone .. | .testVat .. | .testController .. | .testCrossbar ..
  | .idcode .. | .samplePreload .. | .privateInstruction .. | .bypass .. | .lightCountersRead .. | .dumpRequest ..
  | .aggregationWindowClose .. | .aggregationOverflowEnd .. | .digestBatchSend .. | .faultLogMove ..
  | .faultLogRead .. | .faultAck .. | .msixCoalesceExpire .. | .bootApertureWrite .. | .configurationRequest ..
  | .badCrcFlit .. | .scrubReadDone .. | .rebuildPoisoningDone .. => true
  | _ => false

end Sys2Proof
end

