-- ==== Sys2Proof/Laws/Reads.lean ====
section
/-! SUPPORT. What a read of a line answers where nothing stands against it, and where the line is poison. -/

namespace Sys2Proof
namespace Machine

theorem State.countLine_clean (s : State) (ws : List (Nat × WordResult))
    (h : ∀ p, p ∈ ws → ∃ cs, p.2 = WordResult.data cs ∧ (s.eccMode p.1).beyond cs = []) : s.countLine ws = s := by
  unfold State.countLine
  induction ws with
  | nil => rfl
  | cons p ws ih =>
    obtain ⟨cs, h1, h2⟩ := h p (by simp)
    simp only [List.foldl_cons, h1, State.countCorrected, h2, List.isEmpty_nil, if_true]
    exact ih (fun q hq => h q (by simp [hq]))

theorem EccMode.beyond_nil (m : EccMode) : m.beyond [] = [] := by
  unfold EccMode.beyond; split <;> simp

/-- A line that is intact reads as what its key makes of it, and only the light counter of its slice moves. -/
theorem State.readLine_intact {s : State} {line : Nat} (h : s.intact line) (port : Nat) :
    s.readLine line port = ((s.loadLine line, false), s.light (lightRead (s.sliceOf (line * 64))) 64) := by
  obtain ⟨⟨h1, h2, h3⟩, h4⟩ := h
  have hf : (s.lineWords line).foldl (fun (a : Bool × State) w =>
      let q := a.2.readWord w port (s.decodeWord w [])
      (a.1 && q.1, q.2)) (true, s) = (true, s) := by
    generalize s.lineWords line = l at h3
    induction l with
    | nil => rfl
    | cons w l ih =>
      rw [List.foldl_cons]
      have : s.readWord w port (s.decodeWord w []) = (true, s) := by
        rw [h3 w (by simp)]
        simp [State.readWord, State.countCorrected, EccMode.beyond_nil]
      simp only [this, Bool.and_self]
      exact ih (fun v hv => h3 v (by simp [hv]))
  unfold State.readLine
  rw [hf]
  have h5 : (s.light (lightRead (s.sliceOf (line * 64))) 64).mergeEntry line = none := h4
  simp [h1, h2, h5]

/-- A line of a fatal slice, or a poisoned line, reads as poison, and the read changes nothing. -/
theorem State.readLine_poison {s : State} {line : Nat} (h : s.fatalAt (line * 64) = true ∨ s.isPoison line = true) (port : Nat) :
    s.readLine line port = ((List.replicate 64 0, true), s) := by
  unfold State.readLine
  rw [if_pos (by simpa using h)]

theorem State.loadHalf_own {s : State} {half : Nat} (h : s.writtenKey half = none ∨ s.writtenKey half = some (s.keyOf (half * 32))) :
    s.loadHalf half = s.halfBytes half := by
  unfold State.loadHalf
  rcases h with h | h <;> simp [h]

theorem Mem.read_add (m : List Host.Cell) (a n k : Nat) : Mem.read m a (n + k) = Mem.read m a n ++ Mem.read m (a + n) k := by
  induction n generalizing a with
  | zero => simp [Mem.read]
  | succ n ih =>
    rw [show n + 1 + k = (n + k) + 1 by omega]
    simp only [Mem.read, ih, List.cons_append, show a + 1 + n = a + (n + 1) by omega]

/-- A line under its own key reads as the bytes that memory lists for it. -/
theorem State.loadLine_own {s : State} {line : Nat} (h : s.ownKey line) : s.loadLine line = s.lineBytes line := by
  unfold State.loadLine
  rw [State.loadHalf_own (h _ (.inl rfl)), State.loadHalf_own (h _ (.inr rfl))]
  unfold State.halfBytes State.lineBytes
  rw [show (64 : Nat) = 32 + 32 from rfl, Mem.read_add, show 2 * line * 32 = line * (32 + 32) by omega,
    show (2 * line + 1) * 32 = line * (32 + 32) + 32 by omega]

end Machine
end Sys2Proof
end

