-- ==== Sys2Proof/Laws/Requests.lean ====
section
/-! SUPPORT. What the shared request operations answer where nothing stands against the request. -/

namespace Sys2Proof
namespace Machine

theorem State.request_served {s : State} {c : Client} {idx sub : Nat} (h : s.serves c idx sub = true) (val) (op : Op) :
    s.request c idx sub val op = (op (s.modClient c id)).2.2.answer c (op (s.modClient c id)).1 (op (s.modClient c id)).2.1 := by
  simp only [State.serves, Bool.and_eq_true, Bool.or_eq_true, decide_eq_true_eq, Bool.not_eq_true'] at h
  obtain ⟨⟨⟨⟨⟨hg, hw⟩, hc⟩, hr⟩, hm⟩, hs⟩ := h
  have hb : s.writeBar c idx sub = none := by
    simpa [State.writeBar, hc, hr, hs] using fun h => hm.resolve_left h
  unfold State.request
  rw [hb]
  simp only [hg, Bool.not_true]
  unfold State.windowTakes at hw
  cases hp : c.path with
  | window w =>
    simp only [hp, Bool.and_eq_true, decide_eq_true_eq, Bool.not_eq_true'] at hw
    simp [hw.1, hw.2, hc]
  | _ => simp

theorem State.query_served {s : State} {c : Client} {idx sub : Nat} (h : s.reads c idx sub = true) (op : Op) :
    s.query c idx sub op = (op (s.modClient c id)).2.2.answer c (op (s.modClient c id)).1 (op (s.modClient c id)).2.1 := by
  simp only [State.reads, Bool.and_eq_true, Bool.or_eq_true, decide_eq_true_eq, Bool.not_eq_true'] at h
  obtain ⟨⟨⟨⟨hg, hw⟩, hc⟩, hr⟩, hm⟩ := h
  unfold State.query
  simp only [hg, Bool.not_true]
  unfold State.windowTakes at hw
  cases hp : c.path with
  | window w =>
    have h0 : clientGroup c = 0 := by simp [clientGroup, hp]
    have hs : s.inScope c idx sub false = true := by rcases hm with hm | hm <;> simp_all
    simp only [hp, Bool.and_eq_true, decide_eq_true_eq, Bool.not_eq_true'] at hw
    simp [hw.1, hw.2, hc, hr, hs]
  | _ => simp [hc, hr]

end Machine
end Sys2Proof
end

