-- ==== Sys2Proof/Certificates/Slice0/Obligations.lean ====
section
/-! DEFINITION. The statements for the provers. Each says in its docstring which rules of the manual it rests on. -/

open Sys2Proof Sys2Proof.Machine

/-- For every command and state, a step with the command at the front of the queue is exec of the command with the rest of
the queue. On an empty queue the block idles, which is the model’s choice (log entry 1). -/
def Obligations.StepTakesTheFront : Prop :=
  (∀ (c : Instr) (rest : List Instr) (s : State), step { s with pending := c :: rest } = exec c { s with pending := rest }) ∧
  (∀ s : State, s.pending = [] → step s = .next s)

/-- At reset no command waits; the bring-up machine is in RESET by a cold reset with cause and source power-on
(R491-R493); the option record in use holds the defaults of R455; BOOT_STATUS is 0 and no firmware runs (R372);
complex A is active (R501); the step is 100 % with VDD_CORE at 800 mV (R484); the spares are vats 32 and 33 (R164);
POOL_READY, Memory_Valid and Memory_Active are 0 (R356, R404); the time base is 0 (R515); every dictionary entry reads
its default (R442); memory is in its canonical form, and every byte reads 0, which is the model’s choice (log entry
5). -/
def Obligations.ResetState : Prop :=
  State.reset.pending = [] ∧ State.reset.MemoryCanonical ∧ (∀ a, Mem.get State.reset.med.mem a = 0) ∧
  State.reset.rst.phase = .reset ∧ State.reset.rst.kind = .cold ∧ State.reset.rst.cause = 1 ∧ State.reset.rst.sources = 2 ∧
  State.reset.option 183 176 = 255 ∧ State.reset.option 191 184 = 8 ∧ State.reset.option 175 0 = 0 ∧
  State.reset.host.boot.state = 0 ∧ State.reset.running = false ∧ State.reset.cx.active = .A ∧
  State.reset.pwr.step = 0 ∧ State.reset.pwr.vddMv = 800 ∧ State.reset.vat.spare = some 32 ∧ State.reset.vat.repair = some 33 ∧
  State.reset.pool.ready = false ∧ State.reset.med.valid = false ∧ State.reset.host.active = false ∧ State.reset.now = 0 ∧
  (∀ idx sub, State.reset.par idx sub = State.reset.odDefault idx sub)

/-- From every state, reached or not, whose memory lists rising addresses and no zero byte, whatever command is at the
front of the queue, the next state’s memory is in that form too; so equal memories stay equal data. -/
def Obligations.EveryStepKeepsMemoryCanonical : Prop :=
  ∀ s t : State, s.MemoryCanonical → step s = .next t → t.MemoryCanonical

/-- A command of the list `sparesMemory` (calendar, sensors, power, links and their flits, the SPDM, mailbox and
dictionary requests that name no buffer, the complexes, the clocks, the fault log, the test port) leaves every byte of
memory as it was, whatever its operands and whatever the state. -/
def Obligations.CommandsThatSpareMemory : Prop :=
  ∀ (s t : State) (c : Instr), c.sparesMemory = true → exec c s = .next t → SameBytes s t

/-- A warm reset that holds memory keeps the tier map as its assertion finds it, through the verify that releases it. Any
other warm reset, and every cold reset, leaves no entry that differs from the default layout, and the bring-up builds
that layout when training or the verify of a lost memory is done (R43). -/
def Obligations.TierMapOverResets : Prop :=
  (∀ (s : State) (cause sources : Nat),
    (s.assertReset .warmHeld cause sources).med.tier = s.med.tier ∧
    (∀ e, (s.assertReset .warmLost cause sources).tierEntry e = (s.assertReset .warmLost cause sources).defaultEntry e) ∧
    (∀ e, (s.assertReset .cold cause sources).tierEntry e = (s.assertReset .cold cause sources).defaultEntry e)) ∧
  (∀ s : State, s.rst.phase = .verify →
    (s.rst.kind = .warmHeld → ∃ t, exec (.verifyDone none) s = .next t ∧ t.med.tier = s.med.tier) ∧
    (s.rst.kind ≠ .warmHeld → ∃ t, exec (.verifyDone none) s = .next t ∧ ∀ e, t.tierEntry e = t.defaultEntry e)) ∧
  (∀ (s : State) (r : List DdrTraining), s.rst.phase = .trainDdr →
    ∃ t, exec (.ddrTrainingDone r) s = .next t ∧ ∀ e, t.tierEntry e = t.defaultEntry e)

/-- PMD_TRAINING_DONE with the number of lanes whose aligned group trained fully, of a port in TRAINING that no block
reset holds: 16, 8 or 4 lanes take the link on to ALIGNING at that width, with a LINK_WIDTH_REDUCED record below 16
and none at 16; below 4 lanes the link stays in TRAINING and nothing changes (R403). A chip whose ring checks have failed
keeps its links DOWN (R20). -/
def Obligations.LinkWidthAfterTraining : Prop :=
  ∀ (s : State) (p : Fin 4) (lanes : Nat), (s.linkAt p.val).st = .training → s.rst.isolated.contains (.link p) = false →
    let up (w : Nat) : State := (s.linkTo p.val .aligning).modLink p.val (fun l => { l with width := w, fails := 0 })
    (16 ≤ lanes → exec (.pmdTrainingDone p lanes) s = .next (up 16)) ∧
    (8 ≤ lanes → lanes < 16 → exec (.pmdTrainingDone p lanes) s =
      .next ((up 8).report kLinkWidthReduced p.val 0 [(32, p.val), (32, 8)])) ∧
    (4 ≤ lanes → lanes < 8 → exec (.pmdTrainingDone p lanes) s =
      .next ((up 4).report kLinkWidthReduced p.val 0 [(32, p.val), (32, 4)])) ∧
    (lanes < 4 → exec (.pmdTrainingDone p lanes) s = .next s) ∧
    (∀ w, ((up w).linkAt p.val).st = (if s.pool.broken then .down else .aligning) ∧ ((up w).linkAt p.val).width = w)

/-- Every SLOT_BOUNDARY completes: the slot counter advances by one modulo 2048, the frame number advances after slot
2047, a correction is used up in slot 2047 (R84, R108); the time base advances by 4 ns, or by 4 ns and the correction
in slot 2047, where nothing holds it. -/
def Obligations.SlotBoundaryMovesTheCalendar : Prop :=
  ∀ (s : State) (ups : List Upset), ∃ t, exec (.slotBoundary ups) s = .next t ∧
    t.cal.slot = s.cal.slot + 1 ∧ t.cal.ticks = s.cal.ticks + 1 ∧
    t.cal.frame = (if s.cal.slot.toNat = 2047 then s.cal.frame + 1 else s.cal.frame) ∧
    t.cal.corr = (if s.cal.slot.toNat = 2047 then 0 else s.cal.corr) ∧
    (s.clk.holdTo = none →
      t.clk.now = s.clk.now + (if s.cal.slot.toNat = 2047 then (4 + s.cal.corr).toNat else 4))

/-- FRAME_BOUNDARY makes the pending gate tables effective, then the vat-clock step, then QoS classes and weights, then
the refresh set, latches the frame time and the decoder modes, arms the due test slices, releases WAIT_FRAME, runs the
migration engine, and then, in an order that the model chooses (log entry 166), tries held pool reads again, keeps the ring’s
copy of its map, and sends a frame marker on every live pool link (R85, R89, R64, R517, R117, R525, R231, R343, R107). The
first, third and fourth changes and the latch say what each changes and that it changes nothing else. -/
def Obligations.FrameBoundaryOrder : Prop :=
  (∀ s : State, exec .frameBoundary s = .next
    (((List.range 44).foldl State.armPattern
      (s.gatesEffective.stepEffective.qosEffective.refreshEffective.frameLatch)).endFrameWaits.migrationFrame.retryReads.writeMapCopy.sendMarkers)) ∧
  (∀ s : State, s.gatesEffective = { s with cal := { s.cal with slices := s.gatesEffective.cal.slices } } ∧
    s.gatesEffective.cal.slices = s.cal.slices.map (fun p => (p.1, { p.2 with eff := p.2.gates }))) ∧
  (∀ s : State, s.qosEffective = { s with cal := { s.cal with qosEff := s.od.filter (fun p => qosKey p.1) } }) ∧
  (∀ s : State, s.refreshEffective = { s with cal := { s.cal with slices := s.refreshEffective.cal.slices } } ∧
    s.refreshEffective.cal.slices =
      s.cal.slices.map (fun p => (p.1, { p.2 with hot := p.2.hotNext, frames := p.2.frames + 1 }))) ∧
  (∀ s : State, s.frameLatch = { s with med := { s.med with eccMode := s.eccWanted },
                                        clk := { s.clk with frameTime := (s.cal.frame, BitVec.ofNat 64 s.now) } })

/-- ROW_COUNT_CLEAR empties the aggressor tables and ends the row throttles of all 44 slices (R72); every other field of
every slice, and every part of the state but the slices, is unchanged. BE_REQUEST_ARRIVAL of a request whose DPA the slice
holds, by a port that may have one more outstanding, puts it at the end of the slice’s queue at level 0, eligible, with the
class of R100 and the finish tag of R101, which becomes the last of its class; a read that meets a pending write of its bank
and row puts the bank in in-order mode (R68), and nothing else changes. Any other arrival changes nothing (R139; that an
arrival at a slice that does not hold the DPA is no event is the model’s choice, log entry 189). URGENCY_LEVEL_RAISE of a
request whose age has reached a higher level gives it that level, counts one that reaches level 3 by slice and port, and
changes nothing else (R69, R71); where the age has reached none higher it changes nothing. WHEEL_OVERFLOW_SWEEP moves the
overflow entries that release within 1024 slots into their buckets, WHEEL_BUCKET_RELEASE makes the entries eligible whose
slot has begun, and neither changes anything else (R104). -/
def Obligations.SliceQueuesAndRowCounts : Prop :=
  (∀ s : State, ∃ t, exec .rowCountClear s = .next t ∧
    (∀ k, k < 44 → t.sliceAt k = { s.sliceAt k with aggr := [], throttled := [] }) ∧
    (∀ k, 44 ≤ k → t.sliceAt k = s.sliceAt k) ∧
    t = { s with cal := { s.cal with slices := t.cal.slices } }) ∧
  (∀ (s : State) (k : Fin 44) (r : BeSpec),
    let cls := s.beClass r
    let bank := (s.bankRow r.dpa.toNat).1
    let row := (s.bankRow r.dpa.toNat).2
    let tag := s.finishTag k.val cls r.bytes
    let conflict := r.write = false ∧ (s.sliceAt k.val).beq.any (fun p => p.write && p.bank = bank && p.row = row) = true
    let mayEnter := s.sliceOf r.dpa.toNat = k.val ∧ (r.port = 6 → (s.sliceAt k.val).beq.any (fun q => q.port = 6) = false)
    (mayEnter → exec (.beRequestArrival k r) s = .next (s.modSlice k.val (fun x => { x with
      beq := x.beq ++ [{ id := x.nextId, cls := cls, port := r.port.val, write := r.write, bytes := r.bytes, dpa := r.dpa.toNat,
                         bank := bank, row := row, tag := tag, level := 0, passes := 0, arrived := s.now, hold := .free, work := .none }],
      nextId := x.nextId + 1, finish := Tab.set x.finish cls tag,
      inOrder := if conflict then addNew x.inOrder bank else x.inOrder }))) ∧
    (¬ mayEnter → exec (.beRequestArrival k r) s = .next s)) ∧
  (∀ (s : State) (k : Fin 44) (id : Nat) (r : BeReq), (s.sliceAt k.val).beq.find? (fun q => q.id = id) = some r →
    let level := urgencyOf (s.now - r.arrived) (s.par 0x3050 (r.port + 1))
    let u := s.modSlice k.val (fun x => { x with beq := x.beq.map (fun (q : BeReq) => if q.id = id then { q with level := level } else q) })
    (r.level < level → level < 3 → exec (.urgencyLevelRaise k id) s = .next u) ∧
    (r.level < level → level = 3 → exec (.urgencyLevelRaise k id) s = .next (u.bumpElem 32 0x3050 11 (k.val * 10 + r.port))) ∧
    (level ≤ r.level → exec (.urgencyLevelRaise k id) s = .next s)) ∧
  (∀ age target : Nat, urgencyOf age target =
    if 90 * target ≤ 100 * age then 3 else if 75 * target ≤ 100 * age then 2 else if 50 * target ≤ 100 * age then 1 else 0) ∧
  (∀ (s : State) (k : Fin 44), exec (.wheelOverflowSweep k) s = .next (s.modSlice k.val (fun x => { x with
    beq := x.beq.map (fun r => match r.hold with
      | .overflow n l => if n < s.cal.ticks + 1024 then { r with hold := .bucket n l } else r
      | _ => r) }))) ∧
  (∀ (s : State) (k : Fin 44), exec (.wheelBucketRelease k) s = .next (s.modSlice k.val (fun x => { x with
    beq := x.beq.map (fun r => match r.hold with
      | .bucket n _ => if n ≤ s.cal.ticks then { r with hold := .free } else r
      | _ => r) }))) ∧
  (∀ (s : State) (k : Nat) (f : Slice → Slice), (s.modSlice k f).sliceAt k = f (s.sliceAt k) ∧
    (∀ j, j ≠ k → (s.modSlice k f).sliceAt j = s.sliceAt j) ∧
    s.modSlice k f = { s with cal := { s.cal with slices := (s.modSlice k f).cal.slices } })

/-- MEDIA_READ_RETURN of a line that decodes with nothing to correct, is intact, lies under its own key and whose page no
engine decodes delivers its 64 B to the reader that asked (R115, R119), and to the vat’s bundle buffer where that reader is
an instruction fetch (R162); a light counter of the read counts, and nothing else changes. A line on a fatal slice, or of
which a word decodes as poison, reaches its reader as poison, after its corrected words are counted (R77, R118, R121): a
host gets poison and nothing else changes. SCRUB_READ_DONE of the word that the scrubber has next on a slice that is not
fatal counts the word; a corrected one is counted and its write is queued in class 10, one that is poison is counted and
not written, and the tier’s progress follows, or its lap ends with its last word (R139-R141). -/
def Obligations.MediaReadsReachTheirReader : Prop :=
  (∀ (s : State) (rd : Reader) (dpa : BitVec 46) (err : SymErrors),
    let w := s.wordBase dpa.toNat
    let line := w / 64
    let t := (s.light (lightRead (s.sliceOf (line * 64))) 64).emit (.readerData rd w (s.lineBytes line) false)
    s.fatalAt w = false → (∀ p, p ∈ s.decodeLine w err → ∃ cs, p.2 = .data cs ∧ (s.eccMode p.1).beyond cs = []) →
    s.intact line → s.ownKey line → s.med.escEng.any (fun p => p.2.req.page = pageOf w && !p.2.wback) = false →
    exec (.mediaReadReturn rd dpa err) s =
      .next (match rd with | .fetch v => t.fillBundles v.val (s.coord * 2 ^ 46 + line * 64) (s.lineBytes line) | _ => t)) ∧
  (∀ (s : State) (i n : Nat), s.light i n = { s with tst := (s.light i n).tst }) ∧
  (∀ (s : State) (rd : Reader) (dpa : BitVec 46) (err : SymErrors),
    let w := s.wordBase dpa.toNat
    (s.fatalAt w = true → exec (.mediaReadReturn rd dpa err) s = .next (s.poisonTo rd w)) ∧
    (s.fatalAt w = false → (∃ p, p ∈ s.decodeLine w err ∧ p.2 = .poison) →
      exec (.mediaReadReturn rd dpa err) s = .next ((s.countLine (s.decodeLine w err)).poisonTo rd w))) ∧
  (∀ (s : State) (p : Fin 4) (q : Fin 4096) (w : Nat),
    s.poisonTo (.host p q) w = { s with out := .readerData (.host p q) w [] true :: s.out }) ∧
  (∀ (s : State) (k : Fin 44) (dpa : BitVec 46) (err : SymErrors),
    let w := s.wordBase dpa.toNat
    let x := Tab.get s.med.scrub k.val default
    let tier := if k.val < 32 then 0 else 1
    let s0 : State := { s with med := { s.med with scrub := Tab.set s.med.scrub k.val { done := x.done + 1 } } }
    let ends (s1 : State) : State :=
      if ∀ j, j ∈ tierSlices tier → s1.sliceWords j ≤ s1.scrubbed j then s1.endLap tier else s1.setPar 0x3840 (4 + tier) (s1.lapProgress tier)
    s.par 0x3840 1 ≠ 0 → (s.sliceAt k.val).fatal = false → x.done < s.sliceWords k.val → s.locate w = (k.val, x.done * s.wordBytes w) →
    (∀ cs, s.decodeWord w err = .data cs → (s.eccMode w).beyond cs = [] → exec (.scrubReadDone k dpa err) s = .next (ends s0)) ∧
    (∀ cs, s.decodeWord w err = .data cs → (s.eccMode w).beyond cs ≠ [] → exec (.scrubReadDone k dpa err) s =
      .next (ends (((s0.countCorrected w cs).bump 64 0x3840 7).enqueueBe 10 6 true (s0.wordBytes w) w (.scrubWrite w)))) ∧
    (s.decodeWord w err = .poison → exec (.scrubReadDone k dpa err) s = .next (ends (s0.bump 64 0x3840 8))))

/-- ESCALATION_GRANT gives the oldest queued page to the lowest free engine, counts it, and puts its reads in line for their
slots; with nothing queued or no engine free it changes nothing (R130, R131, R133). ESCALATION_DECODE_DONE of an engine that
reads and whose reads have had their slots: a page that has its parity and decodes within it is corrected, its write is put
in line and its readers are served; any other page fails and is unlocked (R123, R129, R130). ESCALATION_WRITEBACK_DONE of an
engine that writes back, its writes having had their slots, unlocks the page; with no held write and an empty merge buffer
that frees the engine and changes nothing else (R130, R134). Correction, failure, unlocking a page that holds no write and
the parity cache’s write-back change no byte of memory. PARITY_CACHE_WRITEBACK writes a dirty line back and leaves it
clean, loses one that SEC-DED cannot correct, and else changes nothing (R128, R129). SCRUB_LAP_LATE marks a lap past
SCRUB_LAP_ALARM as reported and writes one SCRUB_LAP_LATE record (R141; the width of its time is the model’s choice, log
entry 160). SCRUB_ENABLE_WRITE of 0 or 1 by a client it is served to sets SCRUB_ENABLE, any other value is refused with
RANGE (R144); FLIP_ARM by a management client sets the control word, one that arms a DPA that is not aligned, installed and
of its tier is refused with RANGE, and a window is refused with ACCESS_DENIED (R142, R143). -/
def Obligations.EscalationScrubAndFlips : Prop :=
  (∀ (s : State) (errs : List (Nat × BitVec 16)) (r : EscReq) (rest : List EscReq) (e : Nat),
    s.med.escQueue = r :: rest → (List.range 8).find? (fun e => (Tab.find? s.med.escEng e).isNone) = some e →
    let s1 : State := ({ s with med := { s.med with
      escQueue := rest, escEng := Tab.set s.med.escEng e { req := r, errs := errs, wback := false, taken := 0 } } } : State).bump 64 0x3800 5
    exec (.escalationGrant errs) s = .next (s1.takeEscSlots e (s.trigger r) r.scrub (s1.pageSlots r.page true))) ∧
  (∀ (s : State) (errs : List (Nat × BitVec 16)),
    s.med.escQueue = [] ∨ (List.range 8).find? (fun e => (Tab.find? s.med.escEng e).isNone) = none →
    exec (.escalationGrant errs) s = .next s) ∧
  (∀ (s : State) (e : Nat) (plan : Option (Nat × Nat)) (scrub : Bool) (slots : List (Nat × Nat)),
    s.takeEscSlots e plan scrub slots = { s with cal := { s.cal with slices := (s.takeEscSlots e plan scrub slots).cal.slices } }) ∧
  (∀ (s : State) (e : Fin 8) (stallNs : Nat) (g : EscEngine),
    Tab.find? s.med.escEng e.val = some g → g.wback = false → s.escWaits e.val = false →
    let pg := g.req.page
    (∀ n, s.med.noParity.contains pg = false → s.pagePass pg g.errs = some n →
      let s1 := s.pageDecoded pg g.req.word n stallNs g.errs
      let s2 : State := { s1 with med := { s1.med with escEng := Tab.set s1.med.escEng e.val { g with wback := true } } }
      exec (.escalationDecodeDone e stallNs) s = .next (g.req.readers.foldl State.serveReader
        (s2.takeEscSlots e.val (s.trigger g.req) g.req.scrub (s2.pageSlots pg false)))) ∧
    (s.med.noParity.contains pg = true ∨ s.pagePass pg g.errs = none → exec (.escalationDecodeDone e stallNs) s =
      .next ((g.req.readers.foldl State.serveReader (s.pageFailed pg stallNs g.req.word g.errs)).unlockPage e.val pg))) ∧
  (∀ (s : State) (e : Fin 8) (g : EscEngine), Tab.find? s.med.escEng e.val = some g → g.wback = true → s.escWaits e.val = false →
    exec (.escalationWritebackDone e) s = .next ((s.pageWritten g.req.page).unlockPage e.val g.req.page)) ∧
  (∀ (s : State) (e pg : Nat), s.med.heldW = [] → s.med.merge = [] →
    s.unlockPage e pg = { s with med := { s.med with escEng := Tab.erase s.med.escEng e } }) ∧
  (∀ (s : State) (pg word n stall line : Nat) (errs : List (Nat × BitVec 16)) (d : BitVec 512),
    SameBytes s (s.pageDecoded pg word n stall errs) ∧ SameBytes s (s.pageFailed pg stall word errs) ∧ SameBytes s (s.pageWritten pg) ∧
    SameBytes s (s.parityLost line n) ∧ SameBytes s (s.writeParity line d)) ∧
  (∀ (s : State) (line : Nat),
    (∀ l, s.med.pcache.find? (fun (l : PcLine) => l.line = line) = some l →
      (2 ≤ l.err → exec (.parityCacheWriteback line) s = .next (s.parityLost line (s.wayOf line))) ∧
      (l.err < 2 → l.dirty = true → exec (.parityCacheWriteback line) s = .next (({ s with med := { s.med with
        pcache := s.med.pcache.map (fun (l : PcLine) => if l.line = line then { l with dirty := false, err := 0 } else l) } } : State).writeParity
          line l.data)) ∧
      (l.err < 2 → l.dirty = false → exec (.parityCacheWriteback line) s = .next s)) ∧
    (s.med.pcache.find? (fun (l : PcLine) => l.line = line) = none → exec (.parityCacheWriteback line) s = .next s)) ∧
  (∀ (s : State) (tier : Tier),
    let t := if tier = Tier.hbm then 0 else 1
    let ns := s.now - Tab.get s.med.lapStart t 0
    (s.med.lapLate.contains t = false → s.par 0x3840 6 * 1000000000 < ns → exec (.scrubLapLate tier) s = .next
      (({ s with med := { s.med with lapLate := t :: s.med.lapLate } } : State).report kScrubLapLate 0 0 [(32, t), (64, ns)])) ∧
    (s.med.lapLate.contains t = true ∨ ns ≤ s.par 0x3840 6 * 1000000000 → exec (.scrubLapLate tier) s = .next s)) ∧
  (∀ (s : State) (c : Client) (v : BitVec 8), s.serves c 0x3840 1 = true →
    (v.toNat ≤ 1 → exec (.scrubEnableWrite c v) s = .next (((s.modClient c id).setPar 0x3840 1 v.toNat).answer c stOk 0)) ∧
    (1 < v.toNat → exec (.scrubEnableWrite c v) s = .next ((s.modClient c id).answer c stRange 0))) ∧
  (∀ (s : State) (c : Client) (tier : Tier) (v : BitVec 64),
    let sub := flipSub (tier = Tier.hbm) + 1
    let dpa := v.toNat % 2 ^ 46
    let fits := dpa % (if tier = Tier.hbm then 32 else 64) = 0 ∧ s.installed dpa = true ∧ (s.onHbm dpa = true ↔ tier = Tier.hbm)
    s.serves c 0x3850 sub = true →
    (clientGroup c ≠ 0 → bitAt v.toNat 46 = false ∨ fits → exec (.flipArm c tier v) s = .next
      (((s.modClient c id).setPar 0x3850 sub (v.toNat % 2 ^ 47
        + (if bitAt (s.par 0x3850 sub) 47 && !bitAt v.toNat 47 then 2 ^ 47 else 0))).answer c stOk 0)) ∧
    (clientGroup c ≠ 0 → bitAt v.toNat 46 = true → ¬ fits → exec (.flipArm c tier v) s = .next ((s.modClient c id).answer c stRange 0)) ∧
    (clientGroup c = 0 → exec (.flipArm c tier v) s = .next ((s.modClient c id).answer c stDenied 0)))

/-- MERGE_HOLD_EXPIRE of a held entry puts its read out, counts it and changes nothing else; for a line without an entry, or
whose read is out, it changes nothing (R135). MERGE_RMW_READ_DONE of an entry whose read is out: for a line that is sound,
under its own key, open to a write and with no ring parity on this chip, it writes the line with the entry’s bytes over what
it held and drops the entry, and every byte outside the line reads as before (R136, R137); on a fatal slice, or where a word
of the line is poison, the entry is discarded with a POISON_PARTIAL_WRITE record and every byte of memory reads as before
(R77, R137). For a line without an entry, or whose read is not out, it changes nothing. -/
def Obligations.MergeBufferReleases : Prop :=
  (∀ (s : State) (line : BitVec 40),
    (∀ e, s.mergeEntry line.toNat = some e → e.rmw = false → exec (.mergeHoldExpire line) s = .next (({ s with med := { s.med with
      merge := s.med.merge.map (fun e => if e.line = line.toNat then { e with rmw := true } else e) } } : State).bump 64 0x3830 3)) ∧
    (∀ e, s.mergeEntry line.toNat = some e → e.rmw = true → exec (.mergeHoldExpire line) s = .next s) ∧
    (s.mergeEntry line.toNat = none → exec (.mergeHoldExpire line) s = .next s)) ∧
  (∀ (s : State) (line : BitVec 40) (e : MergeEntry), s.mergeEntry line.toNat = some e → e.rmw = true →
    (s.sound line.toNat → s.ownKey line.toNat → s.open_ line.toNat → s.parityElsewhere line.toNat →
      ∃ t, exec (.mergeRmwReadDone line []) s = .next t ∧
        (∀ i, i < 64 → Mem.get t.med.mem (line.toNat * 64 + i) = (e.over (s.lineBytes line.toNat)).getD i 0) ∧
        SameBytesBut s t (line.toNat * 64) 64 ∧ t.mergeEntry line.toNat = none) ∧
    (∀ err, s.fatalAt (line.toNat * 64) = true → exec (.mergeRmwReadDone line err) s = .next (s.dropPartial e)) ∧
    (∀ err, s.fatalAt (line.toNat * 64) = false → (∃ p, p ∈ s.decodeLine (line.toNat * 64) err ∧ p.2 = .poison) →
      exec (.mergeRmwReadDone line err) s = .next ((s.countLine (s.decodeLine (line.toNat * 64) err)).dropPartial e)) ∧
    (∀ err, SameBytes s (s.dropPartial e) ∧ SameBytes s ((s.countLine (s.decodeLine (line.toNat * 64) err)).dropPartial e)) ∧
    s.dropPartial e = ({ s with med := { s.med with merge := s.med.merge.filter (fun x => x.line ≠ e.line) } } : State).reportTenant
      kPoisonPartialWrite (s.owner (e.line * 64)) 0 [(64, e.line * 64), (32, e.req)]) ∧
  (∀ (s : State) (line : BitVec 40) (err : SymErrors),
    (s.mergeEntry line.toNat = none → exec (.mergeRmwReadDone line err) s = .next s) ∧
    (∀ e, s.mergeEntry line.toNat = some e → e.rmw = false → exec (.mergeRmwReadDone line err) s = .next s))

/-- CA_PARITY_ALERT of a channel of a trained slice that is not fatal opens an incident or adds to one less than 4096 ns old,
and counts the alert (R76, R77). Until the fourth alert of the incident the channel stops for the time that the model gives it
to clear its device and replay (log entry 161), the replay is counted and its commands go out again, the slice stays in use,
and nothing else changes; at the fourth, the third replay that alerts, the slice is fatal, which its entries and a SLICE_FATAL
record report. On any other slice or channel it changes nothing. -/
def Obligations.CommandParityAlerts : Prop :=
  (∀ (s : State) (k : Fin 44) (ch : Fin 8),
    let x := s.sliceAt k.val
    x.fatal = false → x.trained = true → (sliceChannels k.val).contains ch.val = true →
    let n := match Tab.find? x.incident ch.val with
      | some (n, at_) => if s.now < at_ + 4096 then n + 1 else 1
      | none => 1
    let incidents := if n = 1 then Tab.get x.incidents ch.val 0 + 1 else Tab.get x.incidents ch.val 0
    let u := (s.modSlice k.val (fun x => { x with
      incident := Tab.set x.incident ch.val (n, s.now), incidents := Tab.set x.incidents ch.val incidents })).bump 32 0x3070 1
    (n < 4 → exec (.caParityAlert k ch) s = .next (((u.modSlice k.val (fun x => { x with
      stopUntil := Tab.set x.stopUntil ch.val (s.cal.ticks + replaySlots) })).bump 32 0x3070 2).emit
        (.caReplay k ch.val (unaccepted s.cal.ticks (Tab.get x.retry ch.val []))))) ∧
    (4 ≤ n → exec (.caParityAlert k ch) s = .next (u.makeFatal k.val ch.val incidents))) ∧
  (∀ (s : State) (k ch n : Nat), ((s.makeFatal k ch n).sliceAt k).fatal = true ∧ SameBytes s (s.makeFatal k ch n) ∧
    ∃ u : State, s.makeFatal k ch n = u.report kSliceFatal 0 k [(32, ch), (32, n)] ∧
      u = { s with cal := { s.cal with slices := u.cal.slices }, od := u.od } ∧ (∀ j, j ≠ k → u.sliceAt j = s.sliceAt j) ∧
      u.par (if k < 32 then 0x3100 + k / 4 else 0x3110 + (k - 32)) 1 = (if k < 32 then 2 else 3)) ∧
  (∀ (s : State) (k : Fin 44) (ch : Fin 8),
    (s.sliceAt k.val).fatal = true ∨ (s.sliceAt k.val).trained = false ∨ (sliceChannels k.val).contains ch.val = false →
    exec (.caParityAlert k ch) s = .next s)

/-- RDS, RDO and RDC with an empty directory and home queue. Of any agent that is no dead host, for a line of no atomic or publish
window that no vat caches, the request takes way 0 of the line’s set (RDC: none) and is served at once (R311, R315). A host is so answered with
the line as its key delivers it where the line is intact, or with poison where it is poison or its slice fatal, and with
MetaValue shared and a directory entry in S that lists the host for RDS; any and an entry in M that it owns for RDO; invalid and
no entry for RDC (R308, R310, R311). Memory keeps every byte. A line that no vat caches and that is owned in M by another live host, and not held, is
snooped: by BISnpData for RDS and RDC, BISnpInv for RDO; the request waits in the entry, which is open until that host answers
(R311, R314). A request to an open line waits in the home queue, and nothing else changes (R314, R316). A dead host’s changes
nothing (R326). -/
def Obligations.CoherentReadsOfAQuietLine : Prop :=
  (∀ (s : State) (a : Agent) (line : BitVec 40), s.coh.dir = [] → s.coh.queue = [] → s.coh.jobs = [] →
    (∀ h, a = .host h → s.isDead h.val = false) → (∀ k, k < 32 → s.cached k line.toNat = none) → s.throughLine line.toNat = false →
    let req (k : ReqKind) : HomeReq := { kind := k, who := a, line := line.toNat, data := [] }
    let quiet (k : ReqKind) : State :=
      let q := s.enqueueHome (req k)
      { q with coh := { q.coh with queue := [] } }
    let aged (k : ReqKind) : State := { quiet k with coh := { s.coh with age := s.coh.age + 1 } }
    exec (.rds a line) s = .next ((aged .rdS).serve (req .rdS) (freshDir 0 s.coh.age) none) ∧
    exec (.rdo a line) s = .next ((aged .rdO).serve (req .rdO) (freshDir 0 s.coh.age) none) ∧
    exec (.rdc a line) s = .next ((quiet .rdC).serve (req .rdC) (freshDir 0 0) none)) ∧
  (∀ (s u : State) (h : Fin 4096) (l : Nat) (e : DirEntry) (poison : Bool),
    u = { s with coh := { s.coh with age := u.coh.age, queue := u.coh.queue }, od := u.od } → s.coh.dir = [] →
    u.throughLine l = false → e.st = .I → e.owner = none → e.hosts = [] → e.coarse = none → e.isOpen = false →
    (poison = false → u.intact l) → (poison = true → u.fatalAt (l * 64) = true ∨ u.isPoison l = true) →
    let data := if poison then List.replicate 64 0 else u.loadLine l
    let answered (k : ReqKind) (mv : MetaValue) (d : Tab DirEntry) : Prop :=
      let t := u.serve { kind := k, who := .host h, line := l, data := [] } e none
      t.out = .hostData (s.hostPort h.val l) h.val data poison mv :: s.out ∧ SameBytes s t ∧ t.coh.queue = u.coh.queue ∧ t.coh.dir = d
    (∃ f, f.st = .S ∧ f.hosts = [h.val] ∧ f.owner = none ∧ f.isOpen = false ∧ answered .rdS .shared [(l, f)]) ∧
    (∃ f, f.st = .M ∧ f.hosts = [] ∧ f.owner = some (.host h) ∧ f.isOpen = false ∧ answered .rdO .any [(l, f)]) ∧
    answered .rdC .invalid []) ∧
  (∀ (s : State) (a : Agent) (o : Fin 4096) (line : BitVec 40) (e : DirEntry), s.coh.dir = [(line.toNat, e)] →
    s.coh.queue = [] → s.coh.jobs = [] → (∀ h, a = .host h → s.isDead h.val = false) → (∀ k, k < 32 → s.cached k line.toNat = none) →
    s.throughLine line.toNat = false → e.st = .M → e.owner = some (.host o) → e.isOpen = false → e.hold = false → a ≠ .host o → s.isDead o.val = false →
    let req (k : ReqKind) : HomeReq := { kind := k, who := a, line := line.toNat, data := [] }
    let opened (k : ReqKind) (inv : Bool) (t : State) : Prop :=
      t.coh.queue = [] ∧ SameBytes s t ∧ t.out = .bisnp o.val line.toNat inv :: s.out ∧
        t.dirAt line.toNat = some { e with isOpen := true, req := some (req k), data := none, poison := false, waitFor := [.host o] }
    (e.vats = 0 → ∃ t, exec (.rdo a line) s = .next t ∧ opened .rdO true t) ∧
    (∃ t, exec (.rds a line) s = .next t ∧ opened .rdS false t) ∧
    (∃ t, exec (.rdc a line) s = .next t ∧ opened .rdC false t)) ∧
  (∀ (s : State) (a : Agent) (line : BitVec 40) (e : DirEntry), s.dirAt line.toNat = some e → e.isOpen = true →
    s.coh.queue = [] → s.coh.jobs = [] → (∀ h, a = .host h → s.isDead h.val = false) →
    let req (k : ReqKind) : HomeReq := { kind := k, who := a, line := line.toNat, data := [] }
    exec (.rds a line) s = .next (s.enqueueHome (req .rdS)) ∧ exec (.rdo a line) s = .next (s.enqueueHome (req .rdO)) ∧
    exec (.rdc a line) s = .next (s.enqueueHome (req .rdC))) ∧
  (∀ (s : State) (h : Fin 4096) (line : BitVec 40), s.isDead h.val = true →
    exec (.rds (.host h) line) s = .next s ∧ exec (.rdo (.host h) line) s = .next s ∧ exec (.rdc (.host h) line) s = .next s)

/-- WRF of an agent that is no dead host, to a line that is neither a window line (R322) nor a publish line (R337), with an empty
directory and home queue. The write is served at once: the directory and the queue stay empty, and a host is answered with a
completion (R310, R311). Where the line is open to a write and no ring parity of it lies on this chip, it then holds the 64
bytes, and every byte outside it reads as before; on a fatal slice, at a mordant record, or in a page that an escalation engine
has locked, every byte of memory reads as before (R77, R134, R336). A line that is owned in M by another live host, and not
held, is snooped by BISnpInv, and the write waits in the entry, which is open until that host answers (R311, R314). To an open
line, it waits in the home queue and nothing else changes (R314, R316). A dead host’s changes nothing (R326). -/
def Obligations.CoherentWriteStoresTheLine : Prop :=
  (∀ (s : State) (a : Agent) (line : BitVec 40) (data : List (BitVec 8)), s.coh.dir = [] → s.coh.queue = [] → s.coh.jobs = [] →
    (∀ h, a = .host h → s.isDead h.val = false) → s.windowLine line.toNat = none → s.publishAt line.toNat = none →
    ∃ t, exec (.wrf a line data) s = .next t ∧ t.coh.queue = [] ∧ t.coh.dir = [] ∧
      (∀ h, a = .host h → t.out.head? = some (.hostCmp (s.hostPort h.val line.toNat) h.val)) ∧
      (s.open_ line.toNat → s.parityElsewhere line.toNat →
        (∀ i, i < 64 → Mem.get t.med.mem (line.toNat * 64 + i) = (fitBytes 64 data).getD i 0) ∧
        SameBytesBut s t (line.toNat * 64) 64) ∧
      (s.fatalAt (line.toNat * 64) = true ∨ (s.recordOf line.toNat).isSome = true ∨ s.pageLocked (pageOf (line.toNat * 64)) = true →
        SameBytes s t)) ∧
  (∀ (s : State) (a : Agent) (o : Fin 4096) (line : BitVec 40) (data : List (BitVec 8)) (e : DirEntry),
    s.coh.dir = [(line.toNat, e)] → s.coh.queue = [] → s.coh.jobs = [] → (∀ h, a = .host h → s.isDead h.val = false) →
    s.windowLine line.toNat = none → s.publishAt line.toNat = none →
    e.st = .M → e.owner = some (.host o) → e.vats = 0 → e.isOpen = false → e.hold = false → a ≠ .host o → s.isDead o.val = false →
    ∃ t, exec (.wrf a line data) s = .next t ∧ t.coh.queue = [] ∧ SameBytes s t ∧ t.out = .bisnp o.val line.toNat true :: s.out ∧
      t.dirAt line.toNat = some { e with
        isOpen := true, req := some { kind := .wrF, who := a, line := line.toNat, data := fitBytes 64 data }, data := none, poison := false,
        waitFor := [.host o] }) ∧
  (∀ (s : State) (a : Agent) (line : BitVec 40) (data : List (BitVec 8)) (e : DirEntry), s.dirAt line.toNat = some e →
    e.isOpen = true → s.coh.queue = [] → s.coh.jobs = [] → (∀ h, a = .host h → s.isDead h.val = false) →
    s.windowLine line.toNat = none → s.publishAt line.toNat = none →
    exec (.wrf a line data) s = .next (s.enqueueHome { kind := .wrF, who := a, line := line.toNat, data := fitBytes 64 data })) ∧
  (∀ (s : State) (h : Fin 4096) (line : BitVec 40) (data : List (BitVec 8)), s.isDead h.val = true →
    s.windowLine line.toNat = none → s.publishAt line.toNat = none → exec (.wrf (.host h) line data) s = .next s)

/-- EVICT by a host, the home queue empty, of a line with a closed entry takes the host out of it; without data memory
keeps every byte (R312). With data for a line of an ACTIVE partition that is not stopping, open to a write and with no ring
parity on this chip, memory then holds the data, every byte outside the line reads as before, and the Evict is completed to its
sender (R312, R33). One that crosses the snoop outstanding to its sender while others are awaited too is counted and its data
kept as the snoop’s result; with data it is completed at once (R319). SNOOP_RESPONSE of one of several awaited agents takes
it off the list and keeps its data (R318); the last one closes the line; one that is not awaited changes nothing. HOLD_TIME_EXPIRE ends the hold of an
entry that is not being evicted, and else changes nothing (R317). BICONFLICT is counted and answered by BIConflictAck, and
the host’s requests for the line that came behind the snoop may go on (R320). DIRECTORY_SWEEP_DONE with an empty home queue
ends the sweep with one HOST_DEATH record for each requester in it, in order (R326). REQUESTER_GONE and BI_TIMEOUT of a snoop
outstanding to the host declare a requester dead through the same operation; BI_TIMEOUT of no such snoop changes nothing; REQUESTER_GONE and REQUESTER_REVIVE from 4096 on answer RANGE (R325). A death with an empty home queue puts the
requester on the list and starts its sweep; of a directory with one entry, that it owned in M, it leaves the line poison, owned by
nobody, and memory as it was (R326); a second death changes nothing. REQUESTER_REVIVE makes it live again, and is refused while
a sweep is active (R327). DIRECTORY_UE of a line that no cache and no buffer holds and no request has open: of no partition, the entry is dropped and a
DIRECTORY_UE record written, and nothing else changes; of a partition that live requesters may read, the chip enters recovery, the
line opens, and each of them is sent BISnpInv; memory keeps every byte (R328). -/
def Obligations.DirectoryAndItsRequesters : Prop :=
  ((∀ (s : State) (h : Fin 4096) (line : BitVec 40) (e : DirEntry), s.dirAt line.toNat = some e → e.isOpen = false →
    s.coh.queue = [] → s.coh.jobs = [] →
    exec (.evict (.host h) line none) s = .next (s.putDir line.toNat (e.without (.host h))) ∧
    (∀ (t : Nat) (data : List (BitVec 8)), s.owner (line.toNat * 64) = some t → (s.tenantAt t).state = 2 → (s.tenantAt t).stopping = false →
      s.open_ line.toNat → s.parityElsewhere line.toNat →
      ∃ u, exec (.evict (.host h) line (some data)) s = .next u ∧ u.dirAt line.toNat = (s.putDir line.toNat (e.without (.host h))).dirAt line.toNat ∧
        (∀ i, i < 64 → Mem.get u.med.mem (line.toNat * 64 + i) = (fitBytes 64 data).getD i 0) ∧
        SameBytesBut s u (line.toNat * 64) 64 ∧ .hostCmp (s.hostPort h.val line.toNat) h.val ∈ u.out)) ∧
  (∀ (s : State) (h : Fin 4096) (line : BitVec 40) (e : DirEntry) (data : Option (List (BitVec 8))), s.dirAt line.toNat = some e →
    e.isOpen = true → e.waitFor.contains (.host h) = true → e.waitFor ≠ [.host h] →
    let p := s.hostPort h.val line.toNat
    let done := if data.isSome then (s.endHost p.val h.val line.toNat).emit (.hostCmp p h.val) else s
    exec (.evict (.host h) line data) s = .next ((done.bump 64 0x5800 11).putDir line.toNat { e with data := data.map (fitBytes 64) })) ∧
  (∀ (s : State) (a : Agent) (line : BitVec 40) (data : Option (List (BitVec 8))) (e : DirEntry),
    s.dirAt line.toNat = some e → e.isOpen = true → e.waitFor.contains a = true →
    let kept := { e with
      waitFor := e.waitFor.erase a, data := match data.map (fitBytes 64) with | some d => some d | none => e.data }
    exec (.snoopResponse a line data) s =
      .next (if e.waitFor.erase a = [] then (s.closeLine line.toNat kept).settle else s.putDir line.toNat kept)) ∧
  (∀ (s : State) (a : Agent) (line : BitVec 40) (data : Option (List (BitVec 8))),
    (∀ e, s.dirAt line.toNat = some e → e.isOpen = false ∨ e.waitFor.contains a = false) →
    exec (.snoopResponse a line data) s = .next s) ∧
  (∀ (s : State) (line : BitVec 40),
    (∀ e, s.dirAt line.toNat = some e → e.evict = false →
      exec (.holdTimeExpire line) s = .next ((s.putDir line.toNat { e with hold := false }).settle)) ∧
    (∀ e, s.dirAt line.toNat = some e → e.evict = true → exec (.holdTimeExpire line) s = .next s) ∧
    (s.dirAt line.toNat = none → exec (.holdTimeExpire line) s = .next s)) ∧
  (∀ (s : State) (r : Fin 4096) (line : BitVec 40),
    let t := (s.bump 64 0x5800 12).emit (.biConflictAck r.val line.toNat)
    exec (.biconflict r line) s = .next ({ t with coh := { s.coh with
      queue := s.coh.queue.map (fun q => if q.who = .host r ∧ q.line = line.toNat then { q with behind := false } else q) } } : State).settle) ∧
  (∀ (s : State), s.coh.queue = [] → s.coh.jobs = [] →
    exec .directorySweepDone s = .next (s.coh.sweep.foldl (fun t d => t.report kHostDeath d.2.2.2 d.1 [(32, d.1), (32, d.2.1), (32, d.2.2.1)])
      { s with coh := { s.coh with sweep := [] } })) ∧
  (∀ (s : State), s.coh.queue = [] → s.coh.jobs = [] → s.settle = s)) ∧
  ((∀ (s : State) (c : Client) (r : BitVec 16), s.serves c 0x5810 1 = true →
    let t := s.modClient c id
    (r.toNat < 4096 → exec (.requesterGone c r) s = .next ((t.hostDies 3 4 r.toNat).answer c stOk 0)) ∧
    (4096 ≤ r.toNat → exec (.requesterGone c r) s = .next (t.answer c stRange 0))) ∧
  (∀ (s : State) (c : Client) (r : BitVec 16), s.serves c 0x5810 2 = true →
    let t := s.modClient c id
    (r.toNat < 4096 → s.coh.sweep = [] → exec (.requesterRevive c r) s =
      .next (({ t with coh := { s.coh with dead := s.coh.dead.erase r.toNat } } : State).answer c stOk 0)) ∧
    (r.toNat < 4096 → s.coh.sweep ≠ [] → exec (.requesterRevive c r) s = .next (t.answer c stState 0)) ∧
    (4096 ≤ r.toNat → exec (.requesterRevive c r) s = .next (t.answer c stRange 0))) ∧
  (∀ (s : State) (r : Fin 4096) (line : BitVec 40),
    (∀ e, s.dirAt line.toNat = some e → e.isOpen = true → e.waitFor.contains (.host r) = true →
      exec (.biTimeout r line) s = .next (s.hostDies 4 (if s.mld then r.val / 16 else 4) r.val)) ∧
    ((∀ e, s.dirAt line.toNat = some e → e.isOpen = false ∨ e.waitFor.contains (.host r) = false) →
      exec (.biTimeout r line) s = .next s)) ∧
  (∀ (s : State) (event unit r : Nat), r < 4096 → s.isDead r = false → s.coh.queue = [] → s.coh.jobs = [] →
    (s.coh.dir = [] → s.hostDies event unit r =
      { s with coh := { s.coh with dead := addNew s.coh.dead r, sweep := s.coh.sweep ++ [(r, event, 0, unit)] } }) ∧
    (∀ l e, s.coh.dir = [(l, e)] → e.st = .M → e.owner = some (.host (Fin.ofNat 4096 r)) → e.isOpen = false → e.req = none →
      s.fatalAt (l * 64) = false →
      let t := s.hostDies event unit r
      t.isDead r = true ∧ t.coh.sweep = s.coh.sweep ++ [(r, event, 1, unit)] ∧ t.isPoison l = true ∧ SameBytes s t ∧
        ∀ f, t.dirAt l = some f → f.owner = none ∧ f.st ≠ .M)) ∧
  (∀ (s : State) (r : Nat), s.isDead r = true → ∀ event unit, s.hostDies event unit r = s) ∧
  (∀ (s : State) (line : BitVec 40) (e : DirEntry), s.dirAt line.toNat = some e → e.req = none → s.coh.queue = [] → s.coh.jobs = [] →
    s.coh.abuf = [] → (∀ k, k < 32 → s.cached k line.toNat = none) →
    (s.owner (line.toNat * 64) = none → ∃ u, exec (.directoryUe line) s = .next u ∧ (∀ v, u.vatAt v = s.vatAt v) ∧
      u = ({ s with coh := { s.coh with recovery := false, dir := Tab.erase s.coh.dir line.toNat }, vat := { s.vat with vats := u.vat.vats } } : State).report
        kDirectoryUe 0 0 [(32, dirSet line.toNat), (32, e.way), (32, 0)]) ∧
    (∀ t, s.owner (line.toNat * 64) = some t →
      let hs := (List.range 4096).filter (fun r => !s.isDead r && s.hostRight r t false)
      hs ≠ [] → ∃ u f, exec (.directoryUe line) s = .next u ∧ SameBytes s u ∧ u.coh.recovery = true ∧ u.dirAt line.toNat = some f ∧
        f.isOpen = true ∧ f.evict = true ∧ f.poison = true ∧ f.data = none ∧ f.waitFor = hs.map (fun h => .host (Fin.ofNat 4096 h)) ∧
        ∀ h, h ∈ hs → .bisnp h line.toNat true ∈ u.out)))

/-- CAS, FETCH_ADD, SWAP, FETCH_AND, FETCH_OR and FETCH_MAX of a live host or another agent in an atomic window, the directory, the
home queue and the atomic buffer empty, the window line open to a write and without ring parity on this chip. A descriptor that its checks
refuse writes its STATUS, 0 and the echoed SEQ to the window line and nothing else to memory (R322, R323). Where they pass, on an
intact target under its own key: outside HDM-DB, with room in the merge buffer, the operation is counted as far, the target then
reads as the operation’s value, and memory outside the window line is as before; on HDM-DB at a host’s request, the operation
runs in the atomic buffer and is counted as near while the contention counter is below 2, and memory outside the window line is as
before; from 2 on it is counted as far and the line, of an ACTIVE partition, is written back with it. In each case the window line holds the descriptor with
STATUS, the old value and SEQ (R322-R324). The six operations compute as R322 says. A descriptor of another operation, or an index
outside the window, changes nothing. -/
def Obligations.AtomicsInAWindow : Prop :=
  (∀ (s : State) (a : Agent) (t : Fin 256) (i : Fin 64) (d : BitVec 512) (line : Nat) (c : Instr),
    (descOp d, c) ∈ [(1, Instr.cas a t i d), (2, .fetchAdd a t i d), (3, .swap a t i d), (4, .fetchAnd a t i d), (5, .fetchOr a t i d),
      (6, .fetchMax a t i d)] → s.windowAtIndex t.val i.val = some line →
    s.coh.dir = [] → s.coh.queue = [] → s.coh.jobs = [] → s.coh.abuf = [] → (∀ h, a = .host h → s.isDead h.val = false) →
    s.open_ line → s.parityElsewhere line →
    let n := descSize d
    let dpa := (s.tenantAt t.val).base.toNat + bits d 63 16
    let old := (s.lineBytes (dpa / 64)).drop (dpa % 64) |>.take n
    let r := atomicResult d (leNat old)
    let window (u : State) (st v : Nat) : Prop := (∀ j, j < 64 → Mem.get u.med.mem (line * 64 + j) = (withResult d st v).getD j 0) ∧
      u.coh.queue = [] ∧ u.coh.jobs = []
    (∀ st, s.descCheck t.val d = some st → ∃ u, exec c s = .next u ∧ window u st 0 ∧ SameBytesBut s u (line * 64) 64) ∧
    (s.descCheck t.val d = none → dpa / 64 ≠ line → s.intact (dpa / 64) → s.ownKey (dpa / 64) → s.open_ (dpa / 64) →
      (s.isHdmDb dpa = false → s.med.merge.length < 512 → ∃ u, exec c s = .next u ∧ window u r.2 (leNat old) ∧
        SameBytesBut s u (line * 64) 64 ∧ (u.readBytes dpa n).1 = (leBytes n r.1, false) ∧
        u.par 0x5800 10 = (s.par 0x5800 10 + 1) % 2 ^ 64) ∧
      (∀ h, a = .host h → s.isHdmDb dpa = true → s.throughLine (dpa / 64) = false →
        let new := (s.lineBytes (dpa / 64)).take (dpa % 64) ++ leBytes n r.1 ++ (s.lineBytes (dpa / 64)).drop (dpa % 64 + n)
        (s.predictor (dpa / 64) < 2 → ∃ u, exec c s = .next u ∧ window u r.2 (leNat old) ∧ SameBytesBut s u (line * 64) 64 ∧
          u.coh.abuf = [(dpa / 64, new)] ∧ u.par 0x5800 9 = (s.par 0x5800 9 + 1) % 2 ^ 64) ∧
        (2 ≤ s.predictor (dpa / 64) → s.parityElsewhere (dpa / 64) → s.takesData .buffer (dpa / 64) = true →
          ∃ u, exec c s = .next u ∧ window u r.2 (leNat old) ∧ u.coh.abuf = [] ∧
            (∀ j, j < 64 → Mem.get u.med.mem (dpa / 64 * 64 + j) = new.getD j 0) ∧
            (∀ x, (x < line * 64 ∨ line * 64 + 64 ≤ x) → (x < dpa / 64 * 64 ∨ dpa / 64 * 64 + 64 ≤ x) →
              Mem.get u.med.mem x = Mem.get s.med.mem x) ∧
            u.par 0x5800 10 = (s.par 0x5800 10 + 1) % 2 ^ 64)))) ∧
  (∀ (s : State) (a : Agent) (t : Fin 256) (i : Fin 64) (d : BitVec 512) (op : Nat) (c : Instr),
    (op, c) ∈ [(1, Instr.cas a t i d), (2, .fetchAdd a t i d), (3, .swap a t i d), (4, .fetchAnd a t i d), (5, .fetchOr a t i d),
      (6, .fetchMax a t i d)] → descOp d ≠ op ∨ s.windowAtIndex t.val i.val = none → exec c s = .next s) ∧
  (∀ (d : BitVec 512) (old : Nat),
    let w := 8 * descSize d
    let x := bits d 223 96 % 2 ^ w
    (descOp d = 1 → atomicResult d old = if old = x then (bits d 351 224 % 2 ^ w, 0) else (old, 1)) ∧
    (descOp d = 2 → atomicResult d old = ((old + x) % 2 ^ w, 0)) ∧ (descOp d = 3 → atomicResult d old = (x, 0)) ∧
    (descOp d = 4 → atomicResult d old = (old &&& x, 0)) ∧ (descOp d = 5 → atomicResult d old = (old ||| x, 0)) ∧
    (descOp d = 6 → atomicResult d old = (Nat.max old x, 0)))

/-- A vector slot that is ready at a cycle (its bundle issues there, R161), is no reserved encoding, and takes its ready sources
from registers and writes a register: FADD, FSUB, FMUL, FFMA, FCMPLT, FCMPEQ, SELECT, IADD, ISUB, IMUL, AND, OR, XOR, SHL, SHR and MOV write
their result of the lanes of SRC1, SRC2 and SRC3 to all 256 lanes of DST, usable four cycles on, and raise the sticky flags of
their lanes; against the machine as the bundle’s issue left it, no other register, vat or byte of memory changes (R219, R149,
R202, R225). Where no slot of the operation is ready, the command does no more than that issue stage. -/
def Obligations.VectorLaneOperations : Prop :=
  (∀ (s : State) (v : Fin 34) (cyc k w op : Nat) (u : State), s.issues v.val cyc [1] op k w u →
    vecReserved w = false → bitsAt w 31 30 = 0 → bitsAt w 33 32 = 0 →
    u.regReady v.val (bitsAt w 17 12) cyc → u.regReady v.val (bitsAt w 23 18) cyc → u.regReady v.val (bitsAt w 29 24) cyc →
    let A := u.lane v.val (bitsAt w 17 12)
    let B := u.lane v.val (bitsAt w 23 18)
    let C := u.lane v.val (bitsAt w 29 24)
    let res (f : BitVec 32 → BitVec 32 → BitVec 32 → BitVec 32 × FFlags) (t : State) : Prop := SameBytes s t ∧ u.onlyVat t v.val ∧
      (∀ i, i < 256 → t.lane v.val (bitsAt w 11 6) i = (f (A i) (B i) (C i)).1) ∧
      (∀ r i, r ≠ bitsAt w 11 6 → i < 256 → t.lane v.val r i = u.lane v.val r i) ∧
      Tab.get (t.vatAt v.val).ready (bitsAt w 11 6) 0 = cyc + 4 ∧
      ((t.vatAt v.val).overflow = true ↔ (u.vatAt v.val).overflow = true ∨ ∃ i, i < 256 ∧ (f (A i) (B i) (C i)).2.overflow = true) ∧
      ((t.vatAt v.val).invalid = true ↔ (u.vatAt v.val).invalid = true ∨ ∃ i, i < 256 ∧ (f (A i) (B i) (C i)).2.invalid = true) ∧
      ((t.vatAt v.val).nanDrop = true ↔ (u.vatAt v.val).nanDrop = true ∨ ∃ i, i < 256 ∧ (f (A i) (B i) (C i)).2.nanDrop = true)
    (op = 1 → ∃ t, exec (.fadd v cyc) s = .next t ∧ res (fun a b _ => fAdd a b) t) ∧
    (op = 2 → ∃ t, exec (.fsub v cyc) s = .next t ∧ res (fun a b _ => fSub a b) t) ∧
    (op = 3 → ∃ t, exec (.fmul v cyc) s = .next t ∧ res (fun a b _ => fMul a b) t) ∧
    (op = 4 → ∃ t, exec (.ffma v cyc) s = .next t ∧ res (fun a b c => fFma a b c) t) ∧
    (op = 7 → ∃ t, exec (.fcmplt v cyc) s = .next t ∧ res (fun a b _ => (if FVal.lt (f32 a) (f32 b) then BitVec.allOnes 32 else 0, FFlags.none)) t) ∧
    (op = 8 → ∃ t, exec (.fcmpeq v cyc) s = .next t ∧ res (fun a b _ => (if FVal.eqv (f32 a) (f32 b) then BitVec.allOnes 32 else 0, FFlags.none)) t) ∧
    (op = 9 → ∃ t, exec (.selectV v cyc) s = .next t ∧ res (fun a b c => (if c ≠ 0 then a else b, FFlags.none)) t) ∧
    (op = 10 → ∃ t, exec (.iadd v cyc) s = .next t ∧ res (fun a b _ => (a + b, FFlags.none)) t) ∧
    (op = 11 → ∃ t, exec (.isub v cyc) s = .next t ∧ res (fun a b _ => (a - b, FFlags.none)) t) ∧
    (op = 12 → ∃ t, exec (.imul v cyc) s = .next t ∧ res (fun a b _ => (a * b, FFlags.none)) t) ∧
    (op = 13 → ∃ t, exec (.andV v cyc) s = .next t ∧ res (fun a b _ => (a &&& b, FFlags.none)) t) ∧
    (op = 14 → ∃ t, exec (.orV v cyc) s = .next t ∧ res (fun a b _ => (a ||| b, FFlags.none)) t) ∧
    (op = 15 → ∃ t, exec (.xorV v cyc) s = .next t ∧ res (fun a b _ => (a ^^^ b, FFlags.none)) t) ∧
    (op = 16 → ∃ t, exec (.shl v cyc) s = .next t ∧ res (fun a b _ => (a <<< (b.toNat % 32), FFlags.none)) t) ∧
    (op = 17 → ∃ t, exec (.shr v cyc) s = .next t ∧ res (fun a b _ => (a.sshiftRight (b.toNat % 32), FFlags.none)) t) ∧
    (op = 18 → ∃ t, exec (.mov v cyc) s = .next t ∧ res (fun a _ _ => (a, FFlags.none)) t)) ∧
  (∀ (s : State) (v : Fin 34) (cyc op : Nat) (c : Instr),
    (op, c) ∈ [(1, Instr.fadd v cyc), (2, .fsub v cyc), (3, .fmul v cyc), (4, .ffma v cyc), (5, .fmin v cyc), (6, .fmax v cyc),
      (7, .fcmplt v cyc), (8, .fcmpeq v cyc), (9, .selectV v cyc), (10, .iadd v cyc), (11, .isub v cyc), (12, .imul v cyc), (13, .andV v cyc),
      (14, .orV v cyc), (15, .xorV v cyc), (16, .shl v cyc), (17, .shr v cyc), (18, .mov v cyc), (19, .seed v cyc), (20, .bcast v cyc)] →
    s.slotReady v.val cyc [1] op = none → exec c s = .next (s.issue v.val cyc))

/-- Under the same conditions FMIN and FMAX write to each lane of DST the smaller or larger of the lanes of SRC1 and SRC2:
of two numbers that differ, that one; of equal ones, their common value; of zeros of both signs, one of the two; with a NaN, a value that the
model leaves open, canonical where it is a NaN (R185, R219, log entry 20). BCAST writes the lane of SRC1 that lane 0 of SRC2 names
modulo 256 to every lane (R219). For these three DST is usable four cycles on, and no other register, vat or byte of memory
changes. SEED loads the lane generators from SRC1, 0 as 1, and changes no register, no other vat and no byte of memory (R199,
R219). -/
def Obligations.VectorSelectionOperations : Prop :=
  (∀ (s : State) (v : Fin 34) (cyc k w op : Nat) (u : State), s.issues v.val cyc [1] op k w u →
    vecReserved w = false → bitsAt w 31 30 = 0 → bitsAt w 33 32 = 0 →
    u.regReady v.val (bitsAt w 17 12) cyc → u.regReady v.val (bitsAt w 23 18) cyc → u.regReady v.val (bitsAt w 29 24) cyc →
    let A := u.lane v.val (bitsAt w 17 12)
    let B := u.lane v.val (bitsAt w 23 18)
    let res (f : Nat → BitVec 32) (t : State) : Prop := SameBytes s t ∧ u.onlyVat t v.val ∧
      (∀ i, i < 256 → t.lane v.val (bitsAt w 11 6) i = f i) ∧
      (∀ r i, r ≠ bitsAt w 11 6 → i < 256 → t.lane v.val r i = u.lane v.val r i) ∧
      Tab.get (t.vatAt v.val).ready (bitsAt w 11 6) 0 = cyc + 4
    (op = 5 → ∃ t, exec (.fmin v cyc) s = .next t ∧ res (fun i => fMinMax false (A i) (B i)) t) ∧
    (op = 6 → ∃ t, exec (.fmax v cyc) s = .next t ∧ res (fun i => fMinMax true (A i) (B i)) t) ∧
    (op = 20 → ∃ t, exec (.bcast v cyc) s = .next t ∧ res (fun _ => A ((B 0).toNat % 256)) t) ∧
    (op = 19 → ∃ t, exec (.seed v cyc) s = .next t ∧ SameBytes s t ∧ u.onlyVat t v.val ∧
      (∀ r i, i < 256 → t.lane v.val r i = u.lane v.val r i) ∧
      ∀ i, i < 256 → Tab.get (t.vatAt v.val).gens i 0 = if A i = 0 then 1 else A i)) ∧
  (∀ (max : Bool) (a b : BitVec 32),
    let m := fMinMax max a b
    ((f32 a).isNan = false → (f32 b).isNan = false →
      (FVal.lt (f32 a) (f32 b) = true → m = if max then b else a) ∧
      (FVal.lt (f32 b) (f32 a) = true → m = if max then a else b) ∧
      (FVal.lt (f32 a) (f32 b) = false → FVal.lt (f32 b) (f32 a) = false → (m = a ∨ m = b) ∧ (a = b → m = a))) ∧
    ((f32 a).isNan = true ∨ (f32 b).isNan = true → (f32 m).isNan = true → m = 0x7FC00000))

/-- For every operation of the vector slot that is ready: without a palette operand it runs at once. With one, its address comes from
the palette-address descriptor and the loop indices; a poisoned descriptor, a reserved field of it, an address or port use that
R151, R152 and R165 do not allow, and a palette word of the source that SEC-DED cannot correct trap (R121, R153, R224), and else the operation runs with that address. A palette
source is read through its format, a palette destination is written in its format, with stochastic rounding by one draw of each
lane generator (R199, R200, R219); a drain source delivers the 256 cells of its cycle (R148, R225). On a vat that waits for nothing and whose last bundle
has acted whole, a bundle that is due, waits for nothing and falls on the cycle issues; it traps instead where a slot is a
reserved encoding, and where it waits for a token or for room the vat stalls on it (R161, R222, R224). On a vat that runs no plan, or waits, or
whose last bundle still acts, the issue stage does nothing (R161). -/
def Obligations.VectorPaletteForms : Prop :=
  (∀ (s : State) (v : Fin 34) (cyc k w op : Nat) (u : State) (c : Instr), s.issues v.val cyc [1] op k w u →
    (op, c) ∈ [(1, Instr.fadd v cyc), (2, .fsub v cyc), (3, .fmul v cyc), (4, .ffma v cyc), (5, .fmin v cyc), (6, .fmax v cyc),
      (7, .fcmplt v cyc), (8, .fcmpeq v cyc), (9, .selectV v cyc), (10, .iadd v cyc), (11, .isub v cyc), (12, .imul v cyc), (13, .andV v cyc),
      (14, .orV v cyc), (15, .xorV v cyc), (16, .shl v cyc), (17, .shr v cyc), (18, .mov v cyc), (19, .seed v cyc), (20, .bcast v cyc)] →
    let b := (u.vatAt v.val).bundle
    let r := u.sectionEntry k 5 (bitsAt w 45 34) 16
    let addr := palAddr (bitsAt r.1.1 21 0) ((r.2.vatAt v.val).loopTerm r.1.1 24 32)
    let n := fmtBytes (bitsAt w 49 46) 256
    let src := bitsAt w 31 30 = 1
    let dst := bitsAt w 33 32 = 1 ∧ op ≠ 19
    let use := touchPort (r.2.vatAt v.val).ports ((if src then [(cyc, [(addr, n)])] else []) ++ (if dst then [(cyc + 4, [(addr, n)])] else []))
    let read := r.2.palCheck v.val (if src then [(addr, n)] else [])
    (¬ src → ¬ dst → exec c s = .next (u.vecRun v.val cyc op w 0)) ∧
    (src ∨ dst → r.1.2 = true → exec c s = .next (r.2.fetchTrap k v.val b)) ∧
    (src ∨ dst → r.1.2 = false → bitsAt r.1.1 31 22 ≠ 0 → exec c s = .next (r.2.encodingTrap k v.val b 1)) ∧
    (∀ cause, src ∨ dst → r.1.2 = false → bitsAt r.1.1 31 22 = 0 → use = .inr cause → exec c s = .next (r.2.bundleFault k v.val b cause)) ∧
    (∀ ports, src ∨ dst → r.1.2 = false → bitsAt r.1.1 31 22 = 0 → use = .inl ports →
      (∀ a, read.1 = some a → exec c s = .next (read.2.paletteUe k v.val a)) ∧
      (read.1 = none → exec c s = .next ((read.2.modVat v.val (fun x => { x with ports := ports })).vecRun v.val cyc op w addr)))) ∧
  (∀ (s : State) (v op fmt addr cyc i : Nat), i < 256 → (s.vatAt v).palEarly addr (fmtBytes fmt 256) cyc = false →
    isBlock fmt = false ∨ op = 18 →
    (s.readPal v op fmt addr cyc).1.xs[i]? = some (elemLane fmt (Mem.read (s.vatAt v).palette addr (fmtBytes fmt 256)) i).1) ∧
  (∀ (s : State) (v op fmt addr cyc mode : Nat) (sat : Bool) (l : Lanes) (a : Nat), isBlock fmt = false ∨ (op = 18 ∧ l.int = false) →
    let gs := if mode = 2 then (s.vatAt v).genList.map genStep else (s.vatAt v).genList
    let bs := (lanesToBytes fmt l.int l.xs mode sat (gs.map (fun g => bits g 15 0))).1
    let t := s.writePal v op fmt addr cyc mode sat l
    (Mem.get (t.vatAt v).palette a = if addr ≤ a ∧ a < addr + bs.length then bs.getD (a - addr) 0 else Mem.get (s.vatAt v).palette a) ∧
    (mode = 2 → ∀ i, i < 256 → Tab.get (t.vatAt v).gens i 0 = gs.getD i 0) ∧ SameBytes s t) ∧
  (∀ (s : State) (v cyc : Nat) (q : Drain) (cs : List (BitVec 32)), (s.vatAt v).drain = some q → q.cells = some cs →
    q.cycle + 4 ≤ cyc → cyc < q.cycle + 68 → (s.readDrain v cyc).1.xs = (cs.drop (256 * (cyc - q.cycle - 4))).take 256) ∧
  (∀ (s : State) (v cyc k : Nat) (w : BitVec 256), s.runningOn v = some k → (s.vatAt v).wait = .none → (s.vatAt v).todo = [] →
    Tab.find? (s.vatAt v).buffer (s.vatAt v).next = some w → s.due (s.vatAt v) w cyc = true →
    (∀ i, (s.vatAt v).waits w = false → (s.vatAt v).onTime w cyc = true → bundleBad w = some i →
      s.issue v cyc = (s.beginBundle k v cyc w).encodingTrap k v (s.vatAt v).next i) ∧
    ((s.vatAt v).waits w = false → (s.vatAt v).onTime w cyc = true → bundleBad w = none → bundleActs w ≠ [] →
      s.issue v cyc = s.beginBundle k v cyc w) ∧
    ((s.vatAt v).waits w = true → bundleBad w ≠ none ∨ bundleActs w ≠ [] →
      s.issue v cyc = s.modVat v (fun x => { x with stall := some (((s.vatAt v).dueCycle w).getD cyc) }))) ∧
  (∀ (s : State) (v cyc : Nat), s.runningOn v = none ∨ (s.vatAt v).wait ≠ .none ∨ (s.vatAt v).todo ≠ [] → s.issue v cyc = s)

/-- A slot of the exponential and reduce unit that is ready and reads a ready FP32 register, of at most 256 segments: EXP2 writes
the exponential of each lane to DST and counts 256 exponentials; RMAX and RMIN write to lane g the largest or smallest of
segment g of the 2^SEG segments (with a NaN, or zeros of both signs, as log entry 20 says), RSUM its sum in the unit’s fixed order, which holds every lane once (log entry 19), and
the lanes past the segments are +0 (R150, R220). DST is usable 8 cycles on after EXP2, 10 after a reduction (R225). EXP2 and RSUM raise the sticky flags of their
results (R202). No other register, vat or byte of memory changes. The exponential of a finite input from -126 on lies within a relative 2^-22
of the value that the unit’s series approximates, or is the nearest FP32 value to it (log entry 9); below -126, and of -infinity, it is 0, of +infinity +infinity, of a NaN the canonical one
(R150, R185). Where no slot of the operation is ready, the command does no more than the issue stage. -/
def Obligations.ExponentialAndReduce : Prop :=
  (∀ (s : State) (v : Fin 34) (cyc k w op : Nat) (u : State), s.issues v.val cyc [2] op k w u →
    bitsAt w 6 3 ≤ 8 → u.regReady v.val (bitsAt w 12 7) cyc → (u.vatAt v.val).regInt.contains (bitsAt w 12 7) = false →
    let A := u.lane v.val (bitsAt w 12 7)
    let n := 2 ^ bitsAt w 6 3
    let len := 256 / n
    let dst := bitsAt w 18 13
    let seg (g : Nat) := (List.range len).map (fun i => A (g * len + i))
    let sum (g : Nat) := treeSum (seg g) (sumOrder (8 - bitsAt w 6 3))
    let res (lat : Nat) (f : Nat → BitVec 32) (t : State) : Prop := SameBytes s t ∧ u.onlyVat t v.val ∧
      (∀ i, i < 256 → t.lane v.val dst i = f i) ∧ (∀ r i, r ≠ dst → i < 256 → t.lane v.val r i = u.lane v.val r i) ∧
      Tab.get (t.vatAt v.val).ready dst 0 = cyc + lat
    (op = 1 → ∃ t, exec (.exp2 v cyc) s = .next t ∧ res 8 (fun i => (fExp2 (A i)).1) t ∧
      (t.vatAt v.val).stepCount.exps = (u.vatAt v.val).stepCount.exps + 256 ∧
      ((t.vatAt v.val).overflow = true ↔ (u.vatAt v.val).overflow = true ∨ ∃ i, i < 256 ∧ (fExp2 (A i)).2.overflow = true)) ∧
    (op = 2 → ∃ t, exec (.rmax v cyc) s = .next t ∧ res 10 (fun g => if g < n then segMinMax true (seg g) else 0) t) ∧
    (op = 3 → ∃ t, exec (.rmin v cyc) s = .next t ∧ res 10 (fun g => if g < n then segMinMax false (seg g) else 0) t) ∧
    (op = 4 → ∃ t, exec (.rsum v cyc) s = .next t ∧ res 10 (fun g => if g < n then (sum g).1 else 0) t ∧
      ((t.vatAt v.val).overflow = true ↔ (u.vatAt v.val).overflow = true ∨ ∃ g, g < n ∧ (sum g).2.overflow = true))) ∧
  (∀ (s : State) (v : Fin 34) (cyc op : Nat) (c : Instr), (op, c) ∈ [(1, Instr.exp2 v cyc), (2, .rmax v cyc), (3, .rmin v cyc), (4, .rsum v cyc)] →
    s.slotReady v.val cyc [2] op = none → exec c s = .next (s.issue v.val cyc)) ∧
  (∀ k, (treeLeaves (sumOrder k)).length = 2 ^ k ∧ ∀ i, i < 2 ^ k → i ∈ treeLeaves (sumOrder k)) ∧
  (∀ (a : BitVec 32),
    (f32 a = .nan → (fExp2 a).1 = 0x7FC00000) ∧ (f32 a = .inf false → (fExp2 a).1 = 0x7F800000) ∧ (f32 a = .inf true → (fExp2 a).1 = 0) ∧
    (∀ neg m e, f32 a = .fin neg m e →
      (FVal.lt (f32 a) (.fin true 126 0) = true → (fExp2 a).1 = 0) ∧
      (FVal.lt (f32 a) (.fin true 126 0) = false →
        let q := exp2Approx neg m e
        exp2Near (fExp2 a).1 q.1 q.2 = true ∨ (fExp2 a).1 = (roundF32 (.fin false q.1 q.2) [f32 a]).1)))

/-- A matrix slot MMA_CLEAR or MMA_ACC that is ready, whose operand descriptor is read and valid, whose accesses keep R151 and R152 and
meet no uncorrectable palette word, on a bank that no drain holds. With the unit free, formats that accumulate and operands
that are readable, MMA_CLEAR writes to each cell of the enabled groups the accumulation of its updates from 0, MMA_ACC from what
the cell held (R146-R148, R193-R196, R218); otherwise the enabled groups hold values that the manual leaves undefined (R192, R226).
Either way no other cell of the vat, no other vat and no byte of memory changes. An access that R152 or R165 does not allow, a
bank that a drain holds, an uncorrectable palette word, a poisoned descriptor and a reserved field of it trap (R121, R148, R153,
R165, R224). DRAIN that is ready holds the bank’s values, in
the type of its last writer, where the bank is readable and no drain is in progress, else values that the manual leaves
undefined, and changes nothing else (R148, R197, R225, R226). Where no slot of the operation is ready, the command does no more
than the issue stage. -/
def Obligations.MatrixUnitUpdates : Prop :=
  (∀ (s : State) (v : Fin 34) (cyc k w op d : Nat) (u s1 : State) (c : Instr), (op, c) ∈ [(1, Instr.mmaClear v cyc), (2, .mmaAcc v cyc)] →
    s.issues v.val cyc [0] op k w u → u.sectionEntry k 4 (bitsAt w 20 9) 32 = ((d, false), s1) → bitsAt d 63 61 = 0 →
    let x := s1.vatAt v.val
    let split := bitAt w 4
    let bank := bitsAt w 3 3
    let on (col : Nat) : Bool := bitAt (bitsAt w 8 5) (col / 32)
    let fa := bitsAt d 47 44
    let fb := bitsAt d 51 48
    let count := bitsAt d 60 52
    let groups := onesOf 4 (bitsAt w 8 5)
    let halves := match updateHalves fa, updateHalves fb with
      | some p, some q => Nat.max p q
      | _, _ => 32
    let aAt (j : Nat) := palAddr (bitsAt d 21 0) ((j : Int) * signedOf 16 (bitsAt d 79 64) + x.loopTerm d 20 96)
    let bAt (j : Nat) := palAddr (bitsAt d 43 22) ((j : Int) * signedOf 16 (bitsAt d 95 80) + x.loopTerm d 20 176)
    let a : OperandAt := ⟨fa, aAt, if split then groups.map (fun g => 512 * g) else if groups.isEmpty then [] else [0]⟩
    let b : OperandAt := ⟨fb, bAt, if groups.isEmpty then [] else [0]⟩
    let accesses := a.accesses cyc count halves ++ b.accesses cyc count halves
    let read := s1.palCheck v.val (accesses.flatMap (fun p => p.2))
    let held := x.drain.any (fun q => q.bank = bank && cyc < q.cycle + 64)
    let ups : List MmaUp := (List.range count).map (fun j =>
      { a := (List.range 4).map (fun g => if split then (if bitAt (bitsAt w 8 5) g then x.operand fa (aAt j + 512 * g) else []) else x.operand fa (aAt j)),
        b := x.operand fb (bAt j) })
    let new (row col : Nat) (old : BitVec 32) := (accCell (isIntFmt fa && isIntFmt fb) (halves = 1) (col / 32) row col ups old).1
    (∀ cause, touchPort x.ports accesses = .inr cause → exec c s = .next (s1.bundleFault k v.val x.bundle cause)) ∧
    (∀ ports, touchPort x.ports accesses = .inl ports →
      (held = true → exec c s = .next (s1.bundleFault k v.val x.bundle 2)) ∧
      (∀ addr, held = false → read.1 = some addr → exec c s = .next (read.2.paletteUe k v.val addr)) ∧
      (held = false → read.1 = none → ∃ t, exec c s = .next t ∧ SameBytes s1 t ∧ (∀ j, j ≠ v.val → t.vatAt j = s1.vatAt j) ∧
        (∀ row col, row < 128 → col < 128 → t.cell v.val (1 - bank) row col = s1.cell v.val (1 - bank) row col) ∧
        (∀ row col, row < 128 → col < 128 → on col = false → t.cell v.val bank row col = s1.cell v.val bank row col) ∧
        (x.matBusy ≤ cyc → fa ≠ 13 → fb ≠ 13 → accesses.any (fun p => p.2.any (fun r => x.palEarly r.1 r.2 p.1)) = false →
          ∀ row col, row < 128 → col < 128 → on col = true →
            t.cell v.val bank row col = new row col (if op = 1 then 0 else s1.cell v.val bank row col))))) ∧
  (∀ (s : State) (v : Fin 34) (cyc k w op d : Nat) (u s1 : State) (c : Instr), (op, c) ∈ [(1, Instr.mmaClear v cyc), (2, .mmaAcc v cyc)] →
    s.issues v.val cyc [0] op k w u →
    (u.sectionEntry k 4 (bitsAt w 20 9) 32 = ((d, true), s1) → exec c s = .next (s1.fetchTrap k v.val (u.vatAt v.val).bundle)) ∧
    (u.sectionEntry k 4 (bitsAt w 20 9) 32 = ((d, false), s1) → bitsAt d 63 61 ≠ 0 →
      exec c s = .next (s1.encodingTrap k v.val (u.vatAt v.val).bundle 0))) ∧
  (∀ (s : State) (v : Fin 34) (cyc k w : Nat) (u : State), s.issues v.val cyc [0] 3 k w u →
    ∃ t, exec (.drain v cyc) s = .next t ∧ SameBytes s t ∧ u.onlyVat t v.val ∧
      t.vatAt v.val = { u.vatAt v.val with drain := some {
        bank := bitsAt w 3 3, cycle := cyc, int := (u.vatAt v.val).accInt.contains (bitsAt w 3 3),
        cells := if Tab.get (u.vatAt v.val).accReady (bitsAt w 3 3) 0 ≤ cyc ∧ (u.vatAt v.val).drain.any (fun q => cyc < q.cycle + 64) = false then
          some (Tab.block (u.vatAt v.val).acc (bitsAt w 3 3 * 16384) 16384 0) else none } }) ∧
  (∀ (s : State) (v : Fin 34) (cyc op : Nat) (c : Instr), (op, c) ∈ [(1, Instr.mmaClear v cyc), (2, .mmaAcc v cyc), (3, .drain v cyc)] →
    s.slotReady v.val cyc [0] op = none → exec c s = .next (s.issue v.val cyc)) ∧
  (∀ (old : BitVec 32) (ps : List (FVal × FVal)),
    let z := old.toInt + (ps.map (fun p => p.1.toInt * p.2.toInt)).sum
    (intAccum old ps).1 = if z > 2 ^ 31 - 1 then BitVec.ofNat 32 (2 ^ 31 - 1) else if z < -(2 ^ 31) then BitVec.ofNat 32 (2 ^ 31) else BitVec.ofInt 32 z)

/-- Control slots that are ready. LOOP, its loop entry read and valid, starts its level at index 0 with the entry’s trip count
where the nesting is in order, and with an index that the manual leaves undefined where it is not (R227, log entry 26); a poisoned
or reserved entry traps (R121, R224). ENDLOOP of the innermost level raises the index and goes back to the bundle after the LOOP, from
where the fetch goes on, or ends the level; where the nesting is not in order the index is undefined (R227). BARRIER lets every vat
of the plan go on, 4 cycles after it, when all have reached it, and else waits; RING_BARRIER with no fault notice and all partners
present waits; a notice for the invocation traps with PARTNER_FAULT and a partner outside the tables with PARTNER_LOST (R228-R230). A vat that so waits
makes the chip arrive at the ring barrier where no vat of the plan is on its way to it (log entry 174): its arrival is kept and sent to each partner, once (R229). A
pending fault may then stop the plan (R250). RING_BARRIER_RELEASE of a vat that waits, when the chip and every partner have
arrived and the allowance has passed, lets the vat go on with its wait cycles counted, a late one as an event (R229, R245), and
otherwise changes nothing. BARRIER_TIMEOUT of a vat that waits at a ring barrier traps with the partners missing, and without such a
vat changes nothing (R230). Where no slot of the operation is ready, the first four commands do no more than the issue stage. -/
def Obligations.LoopsAndBarriers : Prop :=
  ((∀ (s : State) (v : Fin 34) (cyc k w e : Nat) (u s1 : State), s.issues v.val cyc [5] 1 k w u →
    let l := bitsAt w 5 4
    let b := (u.vatAt v.val).bundle
    (u.sectionEntry k 6 (bitsAt w 21 6) 4 = ((e, true), s1) → exec (.loopV v cyc) s = .next (s1.fetchTrap k v.val b)) ∧
    (u.sectionEntry k 6 (bitsAt w 21 6) 4 = ((e, false), s1) → bitsAt e 31 25 ≠ 0 → exec (.loopV v cyc) s = .next (s1.encodingTrap k v.val b 5)) ∧
    (u.sectionEntry k 6 (bitsAt w 21 6) 4 = ((e, false), s1) → bitsAt e 31 25 = 0 →
      let ordered := (l = 0 ∨ (Tab.find? (s1.vatAt v.val).loops (l - 1)).isSome = true) ∧
        ∀ m, l ≤ m → m < 4 → Tab.find? (s1.vatAt v.val).loops m = none
      (ordered → exec (.loopV v cyc) s = .next (s1.modVat v.val (fun x => { x with
        loops := Tab.set x.loops l { index := 0, trip := bitsAt e 24 0, first := b + 1 } }))) ∧
      (¬ ordered → exec (.loopV v cyc) s = .next (s1.freeLoop v.val l)))) ∧
  (∀ (s : State) (v : Fin 34) (cyc k w : Nat) (u : State), s.issues v.val cyc [5] 2 k w u →
    let l := bitsAt w 5 4
    let inner := ∀ m, l < m → m < 4 → Tab.find? (u.vatAt v.val).loops m = none
    (∀ y : LoopLevel, Tab.find? (u.vatAt v.val).loops l = some y → inner →
      exec (.endloop v cyc) s = .next (if y.index + 1 < y.trip then
          (u.modVat v.val (fun x => { x with loops := Tab.set x.loops l { y with index := y.index + 1 }, next := y.first })).fetchAhead k v.val
        else u.modVat v.val (fun x => { x with loops := Tab.erase x.loops l }))) ∧
    (Tab.find? (u.vatAt v.val).loops l = none ∨ ¬ inner → exec (.endloop v cyc) s = .next (u.freeLoop v.val l))) ∧
  (∀ (s : State) (v l : Nat), SameBytes s (s.freeLoop v l) ∧ (∀ j, j ≠ v → (s.freeLoop v l).vatAt j = s.vatAt j) ∧
    ∀ m, m ≠ l → Tab.find? ((s.freeLoop v l).vatAt v).loops m = Tab.find? (s.vatAt v).loops m) ∧
  (∀ (s : State) (v : Fin 34) (cyc k w : Nat) (u : State), s.issues v.val cyc [5] 3 k w u →
    let id := bitsAt w 13 6
    let t := u.modVat v.val (fun x => { x with wait := .barrier id })
    ((∀ j, j ∈ u.planVats k → j = v.val ∨ (u.vatAt j).wait = .barrier id) → exec (.barrier v cyc) s =
      .next (t.onVats (u.planVats k) (fun x => { x with wait := .none, hold := cyc + 4 }))) ∧
    ((∃ j, j ∈ u.planVats k ∧ j ≠ v.val ∧ (u.vatAt j).wait ≠ .barrier id) →
      exec (.barrier v cyc) s = .next ((t.ringArrive k).settleFault k) ∧
      ((u.ctxAt k).faults = [] → exec (.barrier v cyc) s = .next (t.ringArrive k)))) ∧
  (∀ (s : State) (v : Fin 34) (cyc k w : Nat) (u : State), s.issues v.val cyc [5] 4 k w u →
    let id := bitsAt w 13 6
    let t := u.modVat v.val (fun x => { x with wait := .ring id (bitsAt w 21 14 * 16) })
    ((u.ctxAt k).notices.find? (fun n => n.1 = u.ringSeq k) = none → (u.partners k).find? (fun c => !u.routePresent u.epoch c) = none →
      exec (.ringBarrier v cyc) s = .next ((t.ringArrive k).settleFault k) ∧
      ((u.ctxAt k).faults = [] → exec (.ringBarrier v cyc) s = .next (t.ringArrive k))) ∧
    (∀ n, (u.ctxAt k).notices.find? (fun n => n.1 = u.ringSeq k) = some n → exec (.ringBarrier v cyc) s =
      .next (u.trap k v.val 0x0805 (payload [(32, k), (32, id), (32, n.2.toNat)]))) ∧
    (∀ c, (u.ctxAt k).notices.find? (fun n => n.1 = u.ringSeq k) = none → (u.partners k).find? (fun c => !u.routePresent u.epoch c) = some c →
      exec (.ringBarrier v cyc) s = .next (u.trap k v.val 0x0806 (payload [(32, k), (32, id), (32, c)])))) ∧
  (∀ (s : State) (v : Fin 34) (cyc op : Nat) (c : Instr),
    (op, c) ∈ [(1, Instr.loopV v cyc), (2, .endloop v cyc), (3, .barrier v cyc), (4, .ringBarrier v cyc)] →
    s.slotReady v.val cyc [5] op = none → exec c s = .next (s.issue v.val cyc))) ∧
  ((∀ (s : State) (k v id allow : Nat), (s.planVats k).head? = some v → (s.vatAt v).wait = .ring id allow → s.rang k id = false →
    (∀ j, j ∈ s.planVats k → s.onTheWay k id j = false) →
    s.ringArrive k = (s.partners k).foldl (fun t c => t.sendMgmt 7 c (s.ctxTenant k) (ringUnit (s.ringGroup k) (s.ringSeq k).toNat id))
      (s.modCtx k (fun x => { x with arrivals := x.arrivals ++ [(BitVec.ofNat 6 s.coord, s.ringSeq k, BitVec.ofNat 8 id)] }))) ∧
  (∀ (s : State) (v : Fin 34) (cyc k id allow : Nat), (s.vatAt v.val).wait = .ring id allow → s.runningOn v.val = some k →
    let due := (s.vatAt v.val).lastCyc + ceilDiv (allow * s.vatHz) 1000000000
    let here := s.rang k id = true ∧ ∀ c, c ∈ s.partners k → (BitVec.ofNat 6 c, s.ringSeq k, BitVec.ofNat 8 id) ∈ (s.ctxAt k).arrivals
    let t := (s.modVat v.val (fun x => { x with
      wait := .none, base := some cyc, stepCount := { x.stepCount with wait := x.stepCount.wait + (cyc - x.lastCyc) } })).ringPassed k id
    (here → due ≤ cyc → exec (.ringBarrierRelease v cyc) s = .next (if cyc = due then t else t.markEvent k 4)) ∧
    (¬ here ∨ cyc < due → exec (.ringBarrierRelease v cyc) s = .next s)) ∧
  (∀ (s : State) (v : Fin 34) (cyc : Nat), (∀ id allow, (s.vatAt v.val).wait ≠ .ring id allow) ∨ s.runningOn v.val = none →
    exec (.ringBarrierRelease v cyc) s = .next s) ∧
  (∀ (s : State) (k : Fin 1024),
    let waits (v : Nat) : Bool := match (s.vatAt v).wait with | .ring _ _ => true | _ => false
    (∀ v id allow, (s.planVats k.val).find? waits = some v → (s.vatAt v).wait = .ring id allow → s.runningOn v = some k.val →
      exec (.barrierTimeout k) s = .next (s.trap k.val v 0x0804 (payload [(32, k.val), (32, id),
        (64, bitSet ((s.partners k.val).filter (fun c => !(s.ctxAt k.val).arrivals.contains (BitVec.ofNat 6 c, s.ringSeq k.val, BitVec.ofNat 8 id))))]))) ∧
    ((s.planVats k.val).find? waits = none → exec (.barrierTimeout k) s = .next s)))

/-- Control slots that are ready. WAIT_FRAME and WAIT_LP make the vat wait from now on (R231). STEP, its step entry read and valid
and no fault pending, ends the step on the vat, clears its sticky flags, begins step ARG and takes the snapshot of the next
bundle, the loop levels and the generators; every other vat and every byte of memory stay (R233). END with no fault pending ends
the step, the vat is done, and every other vat and every byte of memory stay (R242). With a fault pending both end the step and stop the vat (R250); a
poisoned or reserved step entry traps (R121, R224). Where no slot of the operation is ready, the command does no more than the issue
stage. -/
def Obligations.WaitsStepsAndEnd : Prop :=
  (∀ (s : State) (v : Fin 34) (cyc k w : Nat) (u : State),
    (s.issues v.val cyc [5] 5 k w u → exec (.waitFrame v cyc) s = .next (u.modVat v.val (fun x => { x with wait := .frame, waitFrom := u.now }))) ∧
    (s.issues v.val cyc [5] 6 k w u → exec (.waitLp v cyc) s = .next (u.modVat v.val (fun x => { x with wait := .launchPoint, waitFrom := u.now })))) ∧
  (∀ (s : State) (v : Fin 34) (cyc k w e : Nat) (u s1 : State), s.issues v.val cyc [5] 8 k w u →
    (u.sectionEntry k 2 (bitsAt w 21 6) 16 = ((e, true), s1) → exec (.step v cyc) s = .next (s1.fetchTrap k v.val (s1.vatAt v.val).bundle)) ∧
    (u.sectionEntry k 2 (bitsAt w 21 6) 16 = ((e, false), s1) → bitsAt e 63 32 ≠ 0 →
      exec (.step v cyc) s = .next (s1.encodingTrap k v.val (s1.vatAt v.val).bundle 5)) ∧
    (u.sectionEntry k 2 (bitsAt w 21 6) 16 = ((e, false), s1) → bitsAt e 63 32 = 0 →
      ((s1.ctxAt k).faults ≠ [] → exec (.step v cyc) s = .next ((s1.stepEnd k v.val cyc true).stopVat k v.val)) ∧
      ((s1.ctxAt k).faults = [] → ∃ t, exec (.step v cyc) s = .next t ∧ SameBytes s1 t ∧
        (t.vatAt v.val).step = bitsAt w 21 6 ∧ (t.vatAt v.val).stepNo = (s1.vatAt v.val).stepNo + 1 ∧ (t.vatAt v.val).stepCyc = cyc ∧
        (t.vatAt v.val).snap = { bundle := (s1.vatAt v.val).next, loops := (s1.vatAt v.val).loops, gens := (s1.vatAt v.val).gens } ∧
        (t.vatAt v.val).flagBits = 0 ∧ (t.vatAt v.val).stepCount = default ∧
        (∀ j, j ≠ v.val → t.vatAt j = s1.vatAt j) ∧
        (t.ctxAt k).inv.map (fun i => i.step) = (s1.ctxAt k).inv.map (fun _ => BitVec.ofNat 16 (bitsAt w 21 6))))) ∧
  (∀ (s : State) (v : Fin 34) (cyc k w : Nat) (u : State), s.issues v.val cyc [5] 9 k w u →
    ((u.ctxAt k).faults = [] → ∃ t, exec (.endV v cyc) s = .next t ∧ SameBytes u t ∧
      (t.vatAt v.val).wait = .done ∧ (t.vatAt v.val).stepNo = (u.vatAt v.val).stepNo + 1 ∧ (t.vatAt v.val).flagBits = 0 ∧
      ∀ j, j ≠ v.val → t.vatAt j = u.vatAt j) ∧
    ((u.ctxAt k).faults ≠ [] → exec (.endV v cyc) s = .next (((u.stepEnd k v.val cyc true).light (lightRun v.val)
      (cyc - (u.vatAt v.val).firstCyc.getD cyc)).stopVat k v.val))) ∧
  (∀ (s : State) (v : Fin 34) (cyc op : Nat) (c : Instr), (op, c) ∈ [(5, Instr.waitFrame v cyc), (6, .waitLp v cyc), (8, .step v cyc), (9, .endV v cyc)] →
    s.slotReady v.val cyc [5] op = none → exec c s = .next (s.issue v.val cyc))

/-- PROBE that is ready and names a valid symbol entry: every active dump request of its context that names the symbol takes its
tensor, in the order of the requests, and with none of them only the entry has been read (R232, R535, R536); a reserved symbol entry
traps (R224). A dump that finds no room in its buffer is counted as dropped and moves nothing; one whose tensor lies on a page that
is not usable writes its header line alone, with STATUS 1, counts a dump of the step, and moves USED and TAKEN by it (R536). Where
no PROBE is ready, the command does no more than the issue stage. -/
def Obligations.ProbesAndDumps : Prop :=
  (∀ (s : State) (v : Fin 34) (cyc k w e : Nat) (lost : Bool) (u s1 : State), s.issues v.val cyc [5] 7 k w u →
    u.sectionEntry k 1 (bitsAt w 21 6) 64 = ((e, lost), s1) →
    (symbolReserved e = true → exec (.probe v cyc) s = .next (s1.encodingTrap k v.val (s1.vatAt v.val).bundle 5)) ∧
    (symbolReserved e = false →
      let names (t : State) (n : Nat) : Bool :=
        dumpLeft (Tab.get (t.ctxAt k).dumps n 0) ≠ 0 && bits (Tab.get (t.ctxAt k).dumps n 0) 15 0 = bitsAt w 21 6
      exec (.probe v cyc) s = .next ((List.range 8).foldl (fun t n =>
        if names t n then t.dump k v.val n (Tab.get (t.ctxAt k).dumps n 0) (bitsAt w 21 6) else t) s1) ∧
      ((∀ n, n < 8 → names s1 n = false) → exec (.probe v cyc) s = .next s1) ∧
      ((∀ n, n < 7 → names s1 n = false) → names s1 7 = true →
        exec (.probe v cyc) s = .next (s1.dump k v.val 7 (Tab.get (s1.ctxAt k).dumps 7 0) (bitsAt w 21 6))))) ∧
  (∀ (s : State) (v : Fin 34) (cyc : Nat), s.slotReady v.val cyc [5] 7 = none → exec (.probe v cyc) s = .next (s.issue v.val cyc)) ∧
  (∀ (s s1 s2 : State) (k v n probe e t : Nat) (d : BitVec 256) (p1 p2 : Bool), s.sectionEntry k 1 probe 64 = ((e, p1), s1) →
    s1.sectionEntry k 1 (bitsAt e 351 320) 64 = ((t, p2), s2) →
    let fmt := bitsAt t 315 312
    let elems := bitsAt t 351 320 * bitsAt t 383 352 * bitsAt t 415 384 * bitsAt t 447 416
    let bytes := ceilDiv (ceilDiv (elems * (match fmt with
      | 8 => 264 | 9 => 200 | 10 => 136 | 14 => 140 | 15 => 108 | _ => 32 * codeBits fmt)) 32) 512 * 64
    let va := bitsAt t 311 256
    let set (q : State) (f : Nat → Nat) : State :=
      q.modCtx k (fun x => { x with dumps := Tab.set x.dumps n (BitVec.ofNat 256 (f (Tab.get x.dumps n 0).toNat)) })
    (bits d 127 96 < dumpUsed d + 64 + bytes → s.dump k v n d probe = set s2 (fun q => setBits q 223 192 (bits d 223 192 + 1))) ∧
    (dumpUsed d + 64 + bytes ≤ bits d 127 96 → bytes ≠ 0 → (s2.checkPage k va false).isSome = true →
      let x := s2.vatAt v
      let head := (s2.ringSeq k).toNat + k * 2 ^ 32 + probe % 2 ^ 16 * 2 ^ 48 + x.step % 2 ^ 16 * 2 ^ 64 + 1 * 2 ^ 80
        + ((List.range 4).map (fun i => x.loopIdx i % 2 ^ 24 * 2 ^ (96 + 24 * i))).sum + s2.now % 2 ^ 64 * 2 ^ 192
        + 0 * 2 ^ 256 + fmt * 2 ^ 288
      s.dump k v n d probe = set ((s2.storeLine ((bits d 77 32 + dumpUsed d) / 64) (leBytes 64 head)).modVat v
          (fun x => { x with stepCount := { x.stepCount with dumps := x.stepCount.dumps + 1 } }))
        (fun q => setBits (setBits q 159 128 (dumpUsed d + 64)) 191 160 (bits d 191 160 + 1))))

/-- A stream slot STREAM_READ, STREAM_WRITE, GATHER or SCATTER that is ready (its token to await is set and its engine has room, R158,
R161, R222), with a descriptor that is read and valid, palette addresses in range and row indices that SEC-DED can correct, puts its
command at the end of its engine’s queue with the loop indices and row indices of now, and clears its token; behind a stopped
engine the token is set with its flag instead and nothing is queued (R155, R157, R159, R221, R222). A poisoned descriptor, a reserved
one, an address out of range and an uncorrectable row index trap (R121, R153, R165, R224). Where no slot of the operation is
ready, the command does no more than the issue stage. Queueing keeps every byte of memory and every other vat. -/
def Obligations.StreamSlotsQueueTiles : Prop :=
  (∀ (s : State) (v : Fin 34) (cyc k w op d : Nat) (u s1 : State) (i : Instr),
    (op, i) ∈ [(1, Instr.streamRead v cyc), (2, .streamWrite v cyc), (3, .gather v cyc), (4, .scatter v cyc)] →
    s.issues v.val cyc [3, 4] op k w u → bitsAt w 2 0 = op →
    let b := (u.vatAt v.val).bundle
    let e := bitsAt w 5 3
    let tok := bitsAt w 11 6
    (u.sectionEntry k 3 (bitsAt w 27 12) 64 = ((d, true), s1) → exec i s = .next (s1.fetchTrap k v.val b)) ∧
    (u.sectionEntry k 3 (bitsAt w 27 12) 64 = ((d, false), s1) → tileReserved d = true → exec i s = .next (s1.encodingTrap k v.val b 3)) ∧
    (u.sectionEntry k 3 (bitsAt w 27 12) 64 = ((d, false), s1) → tileReserved d = false →
      let at_ := bitsAt d 205 184
      let rows := tileRowCount d
      let q := s1.palCheck v.val (if 3 ≤ op then [(at_, 4 * rows)] else [])
      let c : TileCmd := {
        op := op, token := tok, tile := bitsAt w 27 12, loops := (List.range 4).map (s1.vatAt v.val).loopIdx, desc := BitVec.ofNat 512 d,
        idx := if 3 ≤ op then (List.range rows).map (fun j => leNat (Mem.read (s1.vatAt v.val).palette (at_ + 4 * j) 4)) else [],
        running := false, pins := [] }
      let inside := (3 ≤ op → at_ + 4 * rows ≤ palSize) ∧ ∀ r, r ∈ tileRows c → r.2 + 64 * tileLinesPerRow d ≤ palSize
      (¬ inside → exec i s = .next (q.2.bundleFault k v.val b 3)) ∧
      (∀ a, inside → q.1 = some a → exec i s = .next (q.2.paletteUe k v.val a)) ∧
      (inside → q.1 = none → ∃ t, exec i s = .next t ∧ SameBytes s1 t ∧ (∀ j, j ≠ v.val → t.vatAt j = s1.vatAt j) ∧
        ((s1.vatAt v.val).engStop.contains e = false → (t.vatAt v.val).queue e = (s1.vatAt v.val).queue e ++ [c] ∧
          (t.vatAt v.val).tokSet = (s1.vatAt v.val).tokSet.erase tok) ∧
        ((s1.vatAt v.val).engStop.contains e = true → (t.vatAt v.val).queue e = (s1.vatAt v.val).queue e ∧
          tok ∈ (t.vatAt v.val).tokSet ∧ tok ∈ (t.vatAt v.val).tokBad) ∧
        (∀ j, j ≠ e → (t.vatAt v.val).queue j = (s1.vatAt v.val).queue j)))) ∧
  (∀ (s : State) (v : Fin 34) (cyc op : Nat) (i : Instr),
    (op, i) ∈ [(1, Instr.streamRead v cyc), (2, .streamWrite v cyc), (3, .gather v cyc), (4, .scatter v cyc)] →
    s.slotReady v.val cyc [3, 4] op = none → exec i s = .next (s.issue v.val cyc))

/-- TILE_START of a waiting tile. Where its pages pass the whole-tile check it runs on their pins, each of which counts a running tile;
with all its lines local, and each HDM-DB one ready or of a window, each line joins the plan queue of its slice, a write to an armoured
page behind the read of the old line (R127, R156, R290, R291); memory keeps every byte. A tile of one line on another chip sends its
request there, and meets poison where no way is open (R392). One that fails records the step fault PLAN_TRANSLATION, joined to a pending translation
where its page is fetched, and stops its engine (R290-R292). A tile that runs already, and an empty queue, change nothing. TILE_COMPLETE of a running tile with no
request outstanding and no line that a host must give up moves its lines in order, sets its token, counts the tile, takes it off
the queue and releases its pins; with a request outstanding, or of a tile that does not run, it changes nothing (R157, R298). A local HDM-H line of
a read tile lands in the palette, of a write tile in memory as a line write that the plan’s own slots have read for (R127, R156). -/
def Obligations.TilesRunAndComplete : Prop :=
  (∀ (s : State) (v : Fin 34) (e : Fin 6) (k : Nat) (c : TileCmd) (rest : List TileCmd), (s.vatAt v.val).owner = some k →
    (s.vatAt v.val).queue e.val = c :: rest →
    (c.running = true → exec (.tileStart v e) s = .next s) ∧
    (c.running = false → s.checkTile k c = none →
      let l := (s.logical v.val).getD 0
      let pins := (tilePages c).filterMap (fun va => (s.pinFor k va).map (fun p => (p.baseVa, p.shift, p.ppa)))
      let uniq := pins.foldl (fun (a : List (Nat × Nat × Nat)) p => if a.contains p then a else a ++ [p]) ([] : List (Nat × Nat × Nat))
      let c1 := { c with running := true, pins := uniq }
      let l2 := s.tlb.l2.map (fun p =>
        if p.ctx = k && uniq.any (fun (u : Nat × Nat × Nat) => u.1 = p.baseVa) && p.locked then { p with running := p.running + 1 } else p)
      let s1 := { s with tlb := { s.tlb with l2 := l2 } }.modVat v.val (fun x => { x with
        engines := Tab.set x.engines e.val (c1 :: rest),
        utlb := useUtlb x.utlb (uniq.map (fun (u : Nat × Nat × Nat) => (u.1 >>> u.2.1, u.2.1))) })
      ((∀ q, q ∈ tileLines c1 → s.isLocal (c1.ppa q.1) = true ∧ (s.isHdmDb (ppaDpa (c1.ppa q.1)) = true →
          s.lineReady l (ppaDpa (c1.ppa q.1) / 64) c1.writes = true ∨ s.throughLine (ppaDpa (c1.ppa q.1) / 64) = true)) →
        ∃ t, exec (.tileStart v e) s = .next t ∧ SameBytes s t ∧ t = (tileLines c1).foldl (fun u q =>
          let dpa := ppaDpa (c1.ppa q.1)
          (if c1.writes && u.armourBytes dpa ≠ 0 then u.planRequest k dpa false else u).planRequest k dpa c1.writes) s1) ∧
      (∀ q, tileLines c1 = [q] → s.isLocal (c1.ppa q.1) = false →
        let d := if c1.writes then s1.palLine k v.val q.2 else (some [], s1)
        let h : PktHdr := { (default : PktHdr) with
          vc := 0, type := if c1.writes then 3 else 1, dest := ppaCoord (c1.ppa q.1), units := if c1.writes && d.1.isSome then 4 else 0,
          status := if d.1.isSome then 0 else 1, lines := if c1.writes then 0 else 1, tenant := s.ctxTenant k, reqKind := 0, dpa := ppaDpa (c1.ppa q.1) }
        let r := d.2.poolRequest h (d.1.getD []) (some (.stream v e))
        exec (.tileStart v e) s = .next (if r.1 then r.2 else r.2.tilePoison k v.val e.val (c1.ppa q.1)))) ∧
    (∀ va cause, c.running = false → s.checkTile k c = some (va, cause) →
      let pin := s.pinFor k va
      let base := (pin.map L2Entry.baseVa).getD (va / 4096 * 4096)
      let st := (s.vatAt v.val).step
      let j := if pin.any (fun p => p.invalid || p.absent.isSome) then s.joinPtt k ((s.logical v.val).getD 0) base else (0, s)
      exec (.tileStart v e) s = .next (((j.2.stepFault k st 0x0803 (translationPayload k st c.tile va cause) base j.1).engineFails k v.val
        e.val).settleFault k))) ∧
  (∀ (s : State) (v : Fin 34) (e : Fin 6), (s.vatAt v.val).owner = none ∨ (s.vatAt v.val).queue e.val = [] →
    exec (.tileStart v e) s = .next s ∧ exec (.tileComplete v e) s = .next s) ∧
  (∀ (s : State) (v : Fin 34) (e : Fin 6) (k : Nat) (c : TileCmd) (rest : List TileCmd), (s.vatAt v.val).owner = some k →
    (s.vatAt v.val).queue e.val = c :: rest →
    let l := (s.logical v.val).getD 0
    let mine := s.pool.reqs.any (fun r => r.owner = some (.stream v e))
    (c.running = false ∨ mine = true → exec (.tileComplete v e) s = .next s) ∧
    (c.running = true → mine = false →
      (∀ q, q ∈ tileLines c → s.isLocal (c.ppa q.1) = true → s.isHdmDb (ppaDpa (c.ppa q.1)) = true →
        s.lineReady l (ppaDpa (c.ppa q.1) / 64) c.writes = true ∨ s.throughLine (ppaDpa (c.ppa q.1) / 64) = true) →
      let s1 := State.moveLines k v.val e.val l c (tileLines c) s
      (s1.vatAt v.val).queue e.val = c :: rest →
      exec (.tileComplete v e) s = .next (((s1.releasePins k (c.pins.map (fun (p : Nat × Nat × Nat) => p.1))).modVat v.val (fun x =>
        { (x.setToken c.token false) with
          engines := Tab.set x.engines e.val rest, stepCount := { x.stepCount with tiles := x.stepCount.tiles + 1 } })).payRecord k))) ∧
  (∀ (s : State) (k v e l : Nat) (c : TileCmd) (q : Nat × Nat) (qs : List (Nat × Nat)),
    s.isLocal (c.ppa q.1) = true → s.isHdmDb (ppaDpa (c.ppa q.1)) = false →
    let line := ppaDpa (c.ppa q.1) / 64
    let p := s.palCheck v [(q.2, 64)]
    let r := s.readLine line
    (c.writes = true → p.1 = none → State.moveLines k v e l c (q :: qs) s = State.moveLines k v e l c qs
      ((p.2.storeLine line (Mem.read (s.vatAt v).palette q.2 64) false).modVat v (fun x =>
        { x with stepCount := { x.stepCount with read := x.stepCount.read + 0, write := x.stepCount.write + 64, remote := x.stepCount.remote + 0 } }))) ∧
    (c.writes = false → r.1.2 = false → State.moveLines k v e l c (q :: qs) s = State.moveLines k v e l c qs
      ((r.2.modVat v (fun x => x.palWrite q.2 r.1.1)).modVat v (fun x =>
        { x with stepCount := { x.stepCount with read := x.stepCount.read + 64, write := x.stepCount.write + 0, remote := x.stepCount.remote + 0 } }))) ∧
    (c.writes = false → r.1.2 = true → State.moveLines k v e l c (q :: qs) s = r.2.tilePoison k v e (c.ppa q.1)))

/-- A trap of a plan of this chip alone whose write tiles are not done, with no fault pending, sets the context to FAULTED, ends its
run, keeps the vats of the plan held and idle, owes the completion record with status 2 and the fault’s reason, and keeps every byte of memory
(R249-R251, R176, R241). VAT_HANG of a vat that a plan runs on and that has stalled on its next bundle, or on what it waits for, for longer than VAT_HANG_LIMIT
resets the vat, traps its context with VAT_HANG, which names the bundle and the cycles of the stall, and moves the vat to the head of the
rotation order (R163, R496). A stall that is over or no longer than the limit, and a vat that no plan runs on or that does not stall, are left as they are. -/
def Obligations.TrapsFaultTheContext : Prop :=
  (∀ (s : State) (k v code : Nat) (pl : BitVec 320), (s.ctxAt k).faults = [] → s.writesDone k = false → (s.header k).getLsbD 57 = false →
    code < 65536 →
    let t := s.trap k v code pl
    SameBytes s t ∧ (t.ctxAt k).state = 2 ∧ (t.ctxAt k).phase = .idle ∧ (t.ctxAt k).owed = some (2, code % 256) ∧
    ∀ j, j ∈ s.planVats k → (t.vatAt j).faultHeld = true ∧ (t.vatAt j).activity = 0 ∧ (t.vatAt j).wait = .none) ∧
  (∀ (s : State) (v : Fin 34) (cyc k c : Nat), s.runningOn v.val = some k → (s.vatAt v.val).stall = some c →
    let long := s.par 0x4000 4 * s.vatHz < (cyc - c) * 1000000
    ((s.vatAt v.val).blocked = true → long → exec (.vatHang v cyc) s = .next (((s.resetVatCore v.val).trap k v.val 0x0605
      (payload [(32, v.val), (32, k), (32, (s.vatAt v.val).next), (32, cyc - c)])).toHead v.val)) ∧
    ((s.vatAt v.val).blocked = false ∨ ¬ long → exec (.vatHang v cyc) s = .next s)) ∧
  (∀ (s : State) (v : Fin 34) (cyc : Nat), s.runningOn v.val = none ∨ (s.vatAt v.val).stall = none → exec (.vatHang v cyc) s = .next s) ∧
  (∀ (s : State) (v : Nat),
    let x := (s.resetVatCore v).vatAt v
    SameBytes s (s.resetVatCore v) ∧ x.clean = false ∧ x.palette = [] ∧ x.vregs = [] ∧ x.acc = [] ∧ x.engines = [] ∧ x.cache = [] ∧
      x.owner = (s.vatAt v).owner ∧ x.snap = (s.vatAt v).snap ∧ x.isolated.isSome = true)

/-- A CONTEXT_COMMAND that is served. From the state that its context’s waiting commands leave it in: ENABLE of a DISABLED one whose
entry is good, DISABLE of an ENABLED one, RESUME and ABORT of a FAULTED one are put behind the commands that wait, and answered OK; ENABLE
of one whose entry is not good answers RANGE, and a command from any other state STATE, and they change nothing but the client’s
place; RESET acts at once (R208, R210). At the launch point ENABLE makes a DISABLED context ENABLED with its ring at the start; DISABLE
of an idle one that holds no plan makes it DISABLED; RESUME of a FAULTED one that is not resuming yet begins to resume; ABORT waits while the FAULTED
record is owed, and else leaves a FAULTED context idle with no invocation; from another state a command has no effect (R208, R241, R251). -/
def Obligations.ContextCommandsWait : Prop :=
  (∀ (s : State) (c : Client), s.serves c 0x4410 3 = true →
    let s0 := s.modClient c id
    let k := s0.selected c
    let st := (s0.ctxAt k).expected
    (st = 0 → s0.entryGood k = true →
      exec (.contextEnable c) s = .next ((s0.modCtx k (fun x => { x with cmds := x.cmds ++ [.enable] })).answer c stOk 0)) ∧
    (st = 0 → s0.entryGood k = false → exec (.contextEnable c) s = .next (s0.answer c stRange 0)) ∧
    (st ≠ 0 → exec (.contextEnable c) s = .next (s0.answer c stState 0)) ∧
    (st = 1 → exec (.contextDisable c) s = .next ((s0.modCtx k (fun x => { x with cmds := x.cmds ++ [.disable] })).answer c stOk 0)) ∧
    (st ≠ 1 → exec (.contextDisable c) s = .next (s0.answer c stState 0)) ∧
    (st = 2 → exec (.contextResume c) s = .next ((s0.modCtx k (fun x => { x with cmds := x.cmds ++ [.resume] })).answer c stOk 0)) ∧
    (st = 2 → exec (.contextAbort c) s = .next ((s0.modCtx k (fun x => { x with cmds := x.cmds ++ [.abort] })).answer c stOk 0)) ∧
    (st ≠ 2 → exec (.contextResume c) s = .next (s0.answer c stState 0) ∧ exec (.contextAbort c) s = .next (s0.answer c stState 0)) ∧
    exec (.contextReset c) s = .next ((s0.resetContext k).answer c stOk 0)) ∧
  (∀ (s : State) (k : Nat),
    ((s.ctxAt k).state = 0 → s.applyCmd k .enable = (false, s.modCtx k (fun x => { x with
      state := 1, launchNext := 1, launchIndex := 1, compIndex := 0, recordNo := 0, fullWait := 0, headAge := 0, consumed := 0 }))) ∧
    ((s.ctxAt k).state ≠ 0 → s.applyCmd k .enable = (false, s)) ∧
    ((s.ctxAt k).state ≠ 1 → s.applyCmd k .disable = (false, s)) ∧
    ((s.ctxAt k).state = 1 → (s.ctxAt k).resident = false → (s.ctxAt k).phase = .idle → (s.ctxAt k).inv = none →
      ((s.applyCmd k .disable).2.ctxAt k).state = 0) ∧
    ((s.ctxAt k).state = 2 → (s.ctxAt k).phase ≠ .resuming → s.applyCmd k .resume = (false, s.beginResume k)) ∧
    ((s.ctxAt k).state ≠ 2 → s.applyCmd k .resume = (false, s) ∧ s.applyCmd k .abort = (false, s)) ∧
    ((s.ctxAt k).state = 2 → (s.ctxAt k).owed.isSome = true → s.applyCmd k .abort = (true, s))) ∧
  (∀ (s : State) (k : Nat), let t := s.resetContext k
    (t.ctxAt k).state = 0 ∧ (t.ctxAt k).phase = .idle ∧ (t.ctxAt k).inv = none ∧ (t.ctxAt k).resident = false ∧ (t.ctxAt k).cmds = [] ∧
      (t.ctxAt k).faults = [] ∧ SameBytes s t)

/-- LAUNCH_POINT at a slot that is a multiple of 512 writes the completion records that wait and applies the waiting commands of every context
and the automatic RESUMEs, releases the WAIT_LP vats, starts what was picked up, examines the ring heads in the order after the context
that last launched, takes resident inputs, and runs the rotation (R208, R235, R237, R166, R168, R174, R231, R302); at
any other slot it changes nothing. INVOCATION_END of a running invocation whose vats have all ended and whose write
tiles are done, of an ENABLED context with no fault, writes its completion record with status 0 and its counter record, forgets the arrivals
and notices of its sequence number, counts its dump requests down, and leaves its vats idle; a plan that is not resident, or is resident in a disabling context, leaves
them altogether (R240, R242, R533); before that it changes nothing. -/
def Obligations.LaunchPointOrder : Prop :=
  (∀ s : State, s.cal.slot.toNat % 512 = 0 →
    let ks := s.ctxs.map (fun (p : Nat × Ctx) => p.1)
    let s1 := ks.foldl (fun s k =>
      (State.applyCmds k (s.ctxAt k).cmds.length (State.flushRecords k (s.ctxAt k).unwritten.length s)).autoResume k) s
    let s2 := ks.foldl (fun s k => (s.restartStep k).startLaunch k) s1.releaseLp
    exec .launchPoint s = .next (s2.pickOrder.foldl (fun s k => (s.pickUp k).residentInput k) s2).rotate) ∧
  (∀ s : State, s.cal.slot.toNat % 512 ≠ 0 → exec .launchPoint s = .next s) ∧
  (∀ (s : State) (v : Nat), v < 34 → (s.vatAt v).wait = .launchPoint → (s.releaseLp.vatAt v).wait = .none) ∧
  (∀ s : State, s.pickOrder = (s.ctxs.map (fun (p : Nat × Ctx) => p.1)).filter (fun k => s.vat.lastCtx < k)
    ++ (s.ctxs.map (fun (p : Nat × Ctx) => p.1)).filter (fun k => k ≤ s.vat.lastCtx)) ∧
  (∀ (s : State) (k : Fin 1024),
    let x := s.ctxAt k.val
    (x.phase = .running → s.stopped k.val = true → s.writesDone k.val = true → x.faults = [] → x.state = 1 →
      let s2 := ((s.invComplete k.val 0 0).invocationRecord k.val false).modCtx k.val (fun x => { x with
        phase := .idle, notices := x.notices.filter (fun n => n.1 ≠ s.ringSeq k.val),
        arrivals := x.arrivals.filter (fun a => a.2.1 ≠ s.ringSeq k.val),
        dumps := x.dumps.map (fun d => (d.1, if dumpLeft d.2 = 0 ∨ dumpLeft d.2 = 0xFFFF then d.2
          else BitVec.ofNat 256 (setBits d.2.toNat 31 16 (dumpLeft d.2 - 1)))) })
      let s3 := s2.onVats (s2.planVats k.val) (fun x => { x with activity := 0, wait := .none, stall := none })
      let s4 := if x.resident then (if x.disabling then s3.endResidency k.val else s3)
        else (((s3.leaveVats k.val).unpin k.val).modCtx k.val (fun x => { x with inv := none })).eagerWash k.val
          (s3.planLogical k.val (s3.header k.val))
      exec (.invocationEnd k) s = .next ((s4.settleDisable k.val).settleTenant (s4.ctxTenant k.val))) ∧
    (x.phase ≠ .running ∨ s.stopped k.val = false ∨ s.writesDone k.val = false ∨ x.faults ≠ [] ∨ x.state ≠ 1 →
      exec (.invocationEnd k) s = .next s)) ∧
  (∀ (s : State) (k : Fin 1024) (i : Inv), (s.ctxAt k.val).inv = some i → s.invComplete k.val 0 0 = s.complete k.val {
    seq := i.seq.toNat, tag := i.tag.toNat, status := 0, reason := 0, step := i.step.toNat, altered := i.altered,
    events := i.events.toNat, flags := i.flags.toNat, start := i.start.toNat, fin := s.now, cycles := s.cyclesRun k.val,
    frame := i.frame.toNat, lp := i.lp.toNat })

/-- With room in the L2 TLB, of a fetch that a walker works on and that is not stale, of a context that neither starts nor resumes:
PIN_FETCH_DONE of a walk that ends at a leaf pins the leaf’s page with its rights; one that ends at no mapping pins it ABSENT with cause 2, at a malformed or poisoned entry
with cause 9, and at ASK_HOST without ATS with cause 8; with ATS it asks the host with the rights that both give (R284, R287, R293). ATS_COMPLETION that grants a page of the tenant’s own
memory pins the DPA behind it with the rights that both sides give; one for other memory pins it ABSENT with cause 4; one that refuses pins it ABSENT with cause 8, and
so does ATS_TIMEOUT (R294). The fetch is then off the list. A stale fetch is issued again (R298). Memory keeps every byte. Without such a fetch the three
commands change nothing. -/
def Obligations.PinsAreFetched : Prop :=
  (∀ (s : State) (k : Fin 1024) (va : BitVec 56) (f : Fetch), f.stale = false → f.ctx = k.val → f.va = va.toNat / 4096 * 4096 →
    s.tlb.l2.length < 8 → (s.ctxAt k.val).phase = .idle →
    let has (t : State) (p : L2Entry) : Prop :=
      SameBytes s t ∧ t.tlb.fetches = s.tlb.fetches.erase f ∧ ∃ e, e ∈ t.tlb.l2 ∧ e = { p with used := e.used }
    (s.walking k.val va.toNat false = some f →
      (∀ sh ppa rd wr, ((s.bump 64 0x4100 3).walk k.val f.va).1.1 = .leaf sh ppa rd wr →
        ∃ t, exec (.pinFetchDone k va) s = .next t ∧ has t (mkPin k.val f.va sh ppa rd wr none)) ∧
      (∀ sh, ((s.bump 64 0x4100 3).walk k.val f.va).1.1 = .unmapped sh →
        ∃ t, exec (.pinFetchDone k va) s = .next t ∧ has t (mkPin k.val f.va sh 0 false false (some 2))) ∧
      (∀ sh, ((s.bump 64 0x4100 3).walk k.val f.va).1.1 = .bad sh →
        ∃ t, exec (.pinFetchDone k va) s = .next t ∧ has t (mkPin k.val f.va sh 0 false false (some 9))) ∧
      (∀ rd wr, ((s.bump 64 0x4100 3).walk k.val f.va).1.1 = .ask rd wr →
        (s.atsOn k.val = false → ∃ t, exec (.pinFetchDone k va) s = .next t ∧ has t (mkPin k.val f.va 12 0 false false (some 8))) ∧
        (s.atsOn k.val = true → ∃ t o, exec (.pinFetchDone k va) s = .next t ∧ SameBytes s t ∧ t.out.head? = some o ∧
          { f with ats := true, read := f.read && rd, write := f.write && wr } ∈ t.tlb.fetches ∧
          o = .atsRequest (Fin.ofNat 4 (bits (s.ctxAt k.val).binding 2 1))
            (if bit (s.ctxAt k.val).binding 7 then some (bits (s.ctxAt k.val).binding 27 8) else none) f.va (!(f.write && wr))
            (bit (s.ctxAt k.val).binding 28)))) ∧
    (s.walking k.val va.toNat true = some f →
      (∀ a : AtsResult, a.ok = true → a.untrans = false →
        let sh := if a.sizeLog2 ≥ 30 then 30 else if a.sizeLog2 ≥ 21 then 21 else 12
        let hpa := a.hpa.toNat >>> sh <<< sh
        let fn := s.ctxFunction k.val
        let dpa := if s.mld then (s.decodeHdm fn hpa).bind (s.ldDpa fn) else s.decodeGfd hpa
        (∀ d, dpa = some d → s.owner d = some (s.ctxTenant k.val) → ∃ t, exec (.atsCompletion k va a) s = .next t ∧
          has t (mkPin k.val f.va sh (s.coord * 2 ^ 46 + d) (f.read && a.read) (f.write && a.write) none)) ∧
        ((∀ d, dpa = some d → s.owner d ≠ some (s.ctxTenant k.val)) → ∃ t, exec (.atsCompletion k va a) s = .next t ∧
          has t (mkPin k.val f.va 12 0 false false (some 4)))) ∧
      (∀ a : AtsResult, a.ok = false ∨ a.untrans = true →
        ∃ t, exec (.atsCompletion k va a) s = .next t ∧ has t (mkPin k.val f.va 12 0 false false (some 8))) ∧
      (∃ t, exec (.atsTimeout k va) s = .next t ∧ has t (mkPin k.val f.va 12 0 false false (some 8))))) ∧
  (∀ (s : State) (k : Fin 1024) (va : BitVec 56) (f : Fetch), f.stale = true → f.ctx = k.val → (s.ctxAt k.val).phase = .idle →
    (s.walking k.val va.toNat false = some f → exec (.pinFetchDone k va) s = .next (let t := s.bump 64 0x4100 3
      { t with tlb := { s.tlb with fetches := s.tlb.fetches.map (fun h => if h = f then { f with stale := false } else h) } })) ∧
    (s.walking k.val va.toNat true = some f →
      let t := { s with tlb := { s.tlb with fetches := s.tlb.fetches.erase f } }.startFetch k.val f.va
      (∀ a, exec (.atsCompletion k va a) s = .next t) ∧ exec (.atsTimeout k va) s = .next t)) ∧
  (∀ (s : State) (k : Fin 1024) (va : BitVec 56),
    (s.walking k.val va.toNat false = none → exec (.pinFetchDone k va) s = .next s) ∧
    (s.walking k.val va.toNat true = none → exec (.atsTimeout k va) s = .next s ∧ ∀ a, exec (.atsCompletion k va a) s = .next s))

/-- After INVALIDATE of the selected context (served, a length of whole 4 KiB pages) and after ATS_INVALIDATION_REQUEST for the
contexts bound to its port, logical device and PASID, no unlocked entry of such a context overlaps the range, every locked one that
is present is INVALIDATED, fetches in the range are stale, and no mirror entry of such a context stays in the walk cache (R284, R295, R296, R298,
R299). INVALIDATE is answered OK; with another length it is answered RANGE and hits nothing. The Invalidation Completion goes out at once where no tile runs on
a hit pin (R296). Memory keeps every byte. -/
def Obligations.InvalidationsHitTheirRange : Prop :=
  (∀ (s : State) (c : Client) (va len : BitVec 64), s.serves c 0x4110 2 = true →
    let k := (s.modClient c id).selected c
    (len.toNat % 4096 = 0 → ∃ t, exec (.invalidate c va len) s = .next (t.answer c stOk 0) ∧ SameBytes s t ∧
      (∀ e, e ∈ t.tlb.l2 → e.ctx = k → e.page <<< e.shift < va.toNat + len.toNat → va.toNat < (e.page + 1) <<< e.shift →
        e.locked = true ∧ (e.absent = none → e.invalid = true)) ∧
      (∀ f, f ∈ t.tlb.fetches → f.ctx = k → f.va < va.toNat + len.toNat → va.toNat < f.va + 4096 → f.stale = true) ∧
      (∀ p, p ∈ t.tlb.walks → p.1.1 ≠ k)) ∧
    (len.toNat % 4096 ≠ 0 → exec (.invalidate c va len) s = .next ((s.modClient c id).answer c stRange 0))) ∧
  (∀ (s : State) (p : Fin 4) (ld : Fin 16) (q : AtsInvalidation), ∃ t, exec (.atsInvalidationRequest p ld q) s = .next t ∧ SameBytes s t ∧
    ((∀ e, e ∈ s.tlb.l2 → e.running = 0) → .invCompletion p q.tag ∈ t.out) ∧
    ∀ k, bit (s.ctxAt k).binding 0 = true → bits (s.ctxAt k).binding 2 1 = p.val →
      (s.mld = true → bits (s.ctxAt k).binding 6 3 = ld.val) →
      (match q.pasid with
        | some x => q.glob = true ∨ (bit (s.ctxAt k).binding 7 = true ∧ bits (s.ctxAt k).binding 27 8 = x.toNat)
        | none => bit (s.ctxAt k).binding 7 = false) →
      (∀ e, e ∈ t.tlb.l2 → e.ctx = k → e.page <<< e.shift < q.va.toNat + q.len → q.va.toNat < (e.page + 1) <<< e.shift →
        e.locked = true ∧ (e.absent = none → e.invalid = true)) ∧
      (∀ f, f ∈ t.tlb.fetches → f.ctx = k → f.va < q.va.toNat + q.len → q.va.toNat < f.va + 4096 → f.stale = true) ∧
      (∀ w, w ∈ t.tlb.walks → w.1.1 ≠ k))

/-- ROTATION_DUE with rotation enabled takes the first position at the head of the order, else the next one, whose pointer moves on modulo
33, and adds it with the time where it is not due yet; with no rotating spare left or to come, a position whose vat a resident plan holds is skipped with reason 3; with rotation
off it changes nothing (R163, R168, R172). ROTATION_WAIT_EXPIRE marks the oldest position that is not yet late once it has waited ROTATION_WAIT, and else changes
nothing (R169). TAKEOVER_DONE gives the logical vat to the spare, counts a rotation, and sends the old vat to be washed and tested; every other vat and
every byte of memory stay; with no takeover it changes nothing (R167, R180, log entry 181). VAT_RESERVE of a launch that has waited VAT_AGE_LIMIT gives it the next reservation, and
else changes nothing (R175). ROTATION_ENABLE_WRITE, served, of 1 sets the switch; of 0 it clears it and what is due, and abandons a test slice that runs (log entry 180); above
1 it is refused as out of range (R182). -/
def Obligations.RotationAndReservation : Prop :=
  (∀ s : State,
    let p := match s.vat.head with | h :: _ => h | [] => s.par 0x4000 10
    let s1 := match s.vat.head with
      | _ :: rest => { s with vat := { s.vat with head := rest } }
      | [] => s.setPar 0x4000 10 ((s.par 0x4000 10 + 1) % 33)
    let held := p < 32 ∧ ∃ v, s.physical p = some v ∧ (s.vatAt v).resident = true
    (s.par 0x4000 7 = 0 → exec .rotationDue s = .next s) ∧
    (s.par 0x4000 7 ≠ 0 → s.noSpare = true ∧ held → exec .rotationDue s = .next (s1.skipRotation p 3)) ∧
    (s.par 0x4000 7 ≠ 0 → ¬ (s.noSpare = true ∧ held) →
      (s.vat.due.any (fun d => d.1 = p) = false →
        exec .rotationDue s = .next { s1 with vat := { s1.vat with due := s.vat.due ++ [(p, s.now, false)] } }) ∧
      (s.vat.due.any (fun d => d.1 = p) = true → exec .rotationDue s = .next s1))) ∧
  (∀ s : State,
    (∀ d, s.vat.due.find? (fun d => !d.2.2) = some d →
      (d.2.1 + s.par 0x4000 9 * 1000000 ≤ s.now → exec .rotationWaitExpire s = .next { s with vat := { s.vat with
        due := s.vat.due.map (fun e => if e = d then (d.1, d.2.1, true) else e) } }) ∧
      (s.now < d.2.1 + s.par 0x4000 9 * 1000000 → exec .rotationWaitExpire s = .next s)) ∧
    (s.vat.due.find? (fun d => !d.2.2) = none → exec .rotationWaitExpire s = .next s)) ∧
  (∀ (s : State) (t : Takeover), s.vat.takeover = some t → t.old ≠ t.spare →
    ∃ u, exec .takeoverDone s = .next u ∧ SameBytes s u ∧ u.physical t.logical = (if t.spare = 0xFF then none else some t.spare) ∧
      u.vat.takeover = none ∧ u.vat.toTest = s.vat.toTest ++ [t.old] ∧ u.vatAt t.spare = { s.vatAt t.spare with activity := 0 } ∧
      u.vatAt t.old = { s.vatAt t.old with owner := none, activity := 2, resident := false, faultHeld := false } ∧
      u.par 0x4000 11 = (s.par 0x4000 11 + 1) % 2 ^ 64 ∧ ∀ v, v ≠ t.old → v ≠ t.spare → u.vatAt v = s.vatAt v) ∧
  (∀ s : State, s.vat.takeover = none → exec .takeoverDone s = .next s) ∧
  (∀ (s : State) (k : Fin 1024),
    ((s.ctxAt k.val).reserved = none → (s.ctxAt k.val).headVats ≠ [] → s.par 0x4000 5 ≤ (s.ctxAt k.val).headAge →
      ∃ n, exec (.vatReserve k) s = .next (s.modCtx k.val (fun x => { x with reserved := some n })) ∧
        ∀ p, p ∈ s.ctxs → p.2.reserved.getD 0 < n) ∧
    ((s.ctxAt k.val).reserved ≠ none ∨ (s.ctxAt k.val).headVats = [] ∨ (s.ctxAt k.val).headAge < s.par 0x4000 5 →
      exec (.vatReserve k) s = .next s)) ∧
  (∀ (s : State) (c : Client) (v : BitVec 8), s.serves c 0x4000 7 = true →
    let t := s.modClient c id
    exec (.rotationEnableWrite c 1) s = .next ((t.setPar 0x4000 7 1).answer c stOk 0) ∧
    (s.tst.testing = none → exec (.rotationEnableWrite c 0) s = .next
      ((({ t with vat := { s.vat with due := [] } } : State).setPar 0x4000 7 0).answer c stOk 0)) ∧
    exec (.rotationEnableWrite c 0) s = .next
      (((({ t with vat := { s.vat with due := [] } } : State).setPar 0x4000 7 0).stopSlice).answer c stOk 0) ∧
    (1 < v.toNat → exec (.rotationEnableWrite c v) s = .next (t.answer c stRange 0))) ∧
  (∀ (s : State) (v : Nat), s.tst.testing = some v → (s.stopSlice).tst.testing = none ∧ (s.stopSlice).vatAt v = { freshVat with lastTest := 3 } ∧
    SameBytes s s.stopSlice)

/-- VAT_WASH_DONE of a vat that is being washed and in no takeover: one that holds no logical vat is then fresh and clean with no owner, one whose
logical vat a launch waits for is that launch’s, its cache flushed before; the wash is counted with its longest time (R174, R177, R178). One to be tested begins its test slice where rotation is
enabled and the conditions of R522 hold (R180). Of any other vat it changes nothing. VAT_TEST_SLICE_DONE of the vat under test keeps its signature under the seed index and advances
the seed modulo 16 (R171, R524): one that passes is fresh and, where it holds no role and is not the repair spare, becomes the rotating spare; one that fails is unusable and on the failure list with a VAT_FAILED
record: the repair spare’s role is lost, a rotating spare’s role falls to the repair spare, and a logical vat’s is absent with a VAT_COUNT_CHANGED record (R164, R171, R172). Of any other vat it
changes nothing. Memory keeps every byte of a vat without a role. -/
def Obligations.VatsAreWashedAndTested : Prop :=
  (∀ (s : State) (v : Fin 34) (ns : Nat), (s.vatAt v.val).activity = 2 →
    s.vat.takeover.any (fun t => t.old = v.val || t.spare = v.val) = false →
    let kept (who : Option Nat) : Vat := { freshVat with
      unusable := (s.vatAt v.val).unusable, owner := who, isolated := (s.vatAt v.val).isolated, lastTest := (s.vatAt v.val).lastTest,
      stepCount := (s.vatAt v.val).stepCount, invCount := (s.vatAt v.val).invCount }
    let counted (t : State) : Prop := t.par 0x4000 13 = (s.par 0x4000 13 + 1) % 2 ^ 64 ∧ ns ≤ t.par 0x4000 14 ∧ s.par 0x4000 14 ≤ t.par 0x4000 14
    (s.logical v.val = none → s.vat.toTest.contains v.val = false →
      ∃ t, exec (.vatWashDone v ns) s = .next t ∧ SameBytes s t ∧ t.vatAt v.val = kept none ∧ (∀ u, u ≠ v.val → t.vatAt u = s.vatAt u) ∧ counted t) ∧
    (∀ l, s.logical v.val = some l → (s.vatAt v.val).cache = [] → s.vat.toTest.contains v.val = false → s.coh.queue = [] → s.coh.jobs = [] →
      ∃ t, exec (.vatWashDone v ns) s = .next t ∧ SameBytes s t ∧ t.vatAt v.val = kept (s.startingOn l) ∧
        (∀ u, u ≠ v.val → t.vatAt u = s.vatAt u) ∧ counted t) ∧
    (s.logical v.val = none → s.vat.toTest.contains v.val = true → s.par 0x4000 7 ≠ 0 → s.testBar = none →
      ∃ t, exec (.vatWashDone v ns) s = .next t ∧ SameBytes s t ∧ t.vatAt v.val = { kept none with activity := 3 } ∧
        t.tst.testing = some v.val ∧ t.vat.toTest = s.vat.toTest.erase v.val ∧ (∀ u, u ≠ v.val → t.vatAt u = s.vatAt u) ∧ counted t)) ∧
  (∀ (s : State) (v : Fin 34) (ns : Nat), (s.vatAt v.val).activity ≠ 2 ∨ s.vat.takeover.any (fun t => t.old = v.val || t.spare = v.val) = true →
    exec (.vatWashDone v ns) s = .next s) ∧
  (∀ (s : State) (v : Fin 34) (sig : BitVec 2048), s.tst.testing = some v.val → (s.vatAt v.val).activity = 3 →
    let kept (t : State) : Prop := SameBytes s t ∧ t.tst.testing = none ∧ Tab.find? t.tst.sigs v.val = some (s.par 0x7000 4, sig) ∧
      t.par 0x7000 4 = (s.par 0x7000 4 + 1) % 16 ∧ ∀ u, u ≠ v.val → t.vatAt u = s.vatAt u
    (∃ t, exec (.vatTestSliceDone v true sig) s = .next t ∧ kept t ∧ t.vatAt v.val = { freshVat with lastTest := 1 } ∧
      t.vat.spare = if s.logical v.val = none ∧ s.vat.repair ≠ some v.val then some v.val else s.vat.spare) ∧
    (∃ t, exec (.vatTestSliceDone v false sig) s = .next t ∧ kept t ∧ v.val ∈ t.vat.failures ∧
      t.vatAt v.val = { freshVat with unusable := true, clean := false, lastTest := 2 } ∧
      (s.vat.repair = some v.val → t.vat.repair = none) ∧
      (s.vat.repair ≠ some v.val → s.logical v.val = none → t.vat.spare = s.vat.repair ∧ t.vat.repair = none) ∧
      (∀ l, s.vat.repair ≠ some v.val → s.logical v.val = some l → Tab.find? t.vat.lmap l = some 0xFF ∧ t.vat.repair = s.vat.repair))) ∧
  (∀ (s : State) (v : Fin 34) (pass : Bool) (sig : BitVec 2048), s.tst.testing ≠ some v.val ∨ (s.vatAt v.val).activity ≠ 3 →
    exec (.vatTestSliceDone v pass sig) s = .next s)

/-- A served COMMAND of a partition: ALLOCATE takes a FREE one whose range fits to STOPPED, and answers RANGE of one that does not; ACTIVATE
takes a STOPPED one to ACTIVE with a ring key where there is a ring, else DENIED, and with no rebuild under way, else STATE; STOP lets an
ACTIVE one stop, once; RELEASE takes a STOPPED one to WASHING with WASH_PROGRESS 0; from any other state each answers STATE and leaves the machine as the
request found it (R28, R32, R33, R434). PARTITION_WASH_DONE of a WASHING partition of a chip without a ring, its key drawn, leaves every byte of the
partition zero and every other byte as it was, no poison in it outside fatal slices, the partition FREE, WASH_PROGRESS 1000 and
WASH_TIME the time since RELEASE (R434, R436); of a partition that is not WASHING, or whose key is still to be drawn, it changes nothing (log entry 189). -/
def Obligations.PartitionLifeCycle : Prop :=
  (∀ (s : State) (c : Client) (t : Fin 256), s.serves c (0x4900 + t.val) 8 = true →
    let s0 := s.modClient c id
    let x := s0.tenantAt t.val
    let fits := s0.partitionFits t.val x.base.toNat x.size.toNat x.dbSize.toNat
    let quiet := s0.pool.rebuild.st = 0 ∨ s0.pool.rebuild.st = 5
    (x.state = 0 → x.size ≠ 0 → fits = true →
      exec (.partitionAllocate c t) s = .next ((s0.modTenant t.val (fun x => { x with state := 1, stopping := false })).answer c stOk 0)) ∧
    (x.state = 0 → x.size = 0 ∨ fits = false → exec (.partitionAllocate c t) s = .next (s0.answer c stRange 0)) ∧
    (x.state ≠ 0 → exec (.partitionAllocate c t) s = .next (s0.answer c stState 0)) ∧
    (x.state = 1 → s0.ringClass = 0 ∨ s0.sec.ringKey ≠ none → quiet →
      exec (.partitionActivate c t) s = .next ((s0.modTenant t.val (fun x => { x with state := 2, stopping := false })).answer c stOk 0)) ∧
    (x.state = 1 → s0.ringClass ≠ 0 → s0.sec.ringKey = none → exec (.partitionActivate c t) s = .next (s0.answer c stDenied 0)) ∧
    (x.state = 1 → s0.ringClass = 0 ∨ s0.sec.ringKey ≠ none → ¬ quiet → exec (.partitionActivate c t) s = .next (s0.answer c stState 0)) ∧
    (x.state ≠ 1 → exec (.partitionActivate c t) s = .next (s0.answer c stState 0)) ∧
    (x.state = 2 → x.stopping = false →
      exec (.partitionStop c t) s = .next (((s0.modTenant t.val (fun x => { x with stopping := true })).settleTenant t.val).answer c stOk 0)) ∧
    (x.state ≠ 2 ∨ x.stopping = true → exec (.partitionStop c t) s = .next (s0.answer c stState 0)) ∧
    (x.state = 1 → ∃ u : State, exec (.partitionRelease c t) s = .next (u.answer c stOk 0) ∧ (u.tenantAt t.val).state = 3 ∧ u.par (0x4900 + t.val) 9 = 0) ∧
    (x.state ≠ 1 → exec (.partitionRelease c t) s = .next (s0.answer c stState 0))) ∧
  (∀ (s : State) (t : Fin 256), (s.tenantAt t.val).state = 3 → (s.tenantAt t.val).keyWait = false → s.ringClass = 0 →
    ∃ u, exec (.partitionWashDone t) s = .next u ∧ (u.tenantAt t.val).state = 0 ∧
      (∀ a, (s.tenantAt t.val).base.toNat ≤ a → a < (s.tenantAt t.val).base.toNat + (s.tenantAt t.val).size.toNat → Mem.get u.med.mem a = 0) ∧
      SameBytesBut s u (s.tenantAt t.val).base.toNat (s.tenantAt t.val).size.toNat ∧
      (∀ l, l ∈ u.med.poison → (s.tenantAt t.val).base.toNat / 64 ≤ l →
        l < ((s.tenantAt t.val).base.toNat + (s.tenantAt t.val).size.toNat) / 64 → s.fatalAt (l * 64) = true) ∧
      u.par (0x4900 + t.val) 9 = 1000 ∧ u.par (0x4900 + t.val) 10 = (s.now - (s.tenantAt t.val).washAt) % 2 ^ 64) ∧
  (∀ (s : State) (t : Fin 256), (s.tenantAt t.val).state ≠ 3 ∨ (s.tenantAt t.val).keyWait = true → exec (.partitionWashDone t) s = .next s)

/-- COPY_REQUEST, served, of a good descriptor joins the shortest queue and answers the channel, or BUSY where every channel’s queue is full; of another it answers RANGE (R79).
COPY_RESUME, COPY_SKIP and COPY_ABORT, served, of a halted channel read its line again and go on, or halt again where it is poison; write poison and
go on past it; or end the copy with status 2. Of any other channel they answer STATE (R81). COPY_LINE_POISON halts a
running channel whose lines run into poison, and changes nothing where the channel runs no copy or its rights fail; COPY_COMPLETE moves the lines left and ends the copy with status 0, or 4
after skips, or with 3 where a range is denied before a byte moved; it halts the channel that meets poison, waits for other chips’ answers and for hosts that hold a
line, and changes nothing where the channel runs no copy (R80-R82, log entries 158, 189). The lines move in ascending order: a line that the channel reads is written at its
place in the destination; at poison the run stops before it is written. A line outside the directory reads as poison on a fatal slice or where poisoned, and as its contents where intact. The
written line, outside HDM-DB and the copy’s own source range, open to a write and with no ring parity here, holds the bytes, and every byte outside it reads as before. -/
def Obligations.CopyChannels : Prop :=
  (∀ (s : State) (c : Client) (d : BitVec 256), s.serves c 0x3080 2 = true →
    let s0 := s.modClient c id
    (s0.copyGood d = true → s0.copyChannel = none → exec (.copyRequest c d) s = .next (s0.answer c stBusy 0)) ∧
    (s0.copyGood d = false → exec (.copyRequest c d) s = .next (s0.answer c stRange 0)) ∧
    (∀ n, s0.copyGood d = true → s0.copyChannel = some n →
      let s1 := s0.modCopy n (fun x => { x with queue := x.queue ++ [d] })
      exec (.copyRequest c d) s = .next ((if (s0.copyAt n).queue = [] then s1.copyStart n else s1).answer c stOk n))) ∧
  (∀ (s : State) (c : Client) (n : Fin 16), s.serves c (0x3180 + n.val) 2 = true →
    let s0 := s.modClient c id
    let x := s0.copyAt n.val
    (x.state ≠ 2 ∨ x.queue = [] → exec (.copyResume c n) s = .next (s0.answer c stState 0) ∧ exec (.copySkip c n) s = .next (s0.answer c stState 0) ∧
      exec (.copyAbort c n) s = .next (s0.answer c stState 0)) ∧
    (∀ d rest, x.state = 2 → x.queue = d :: rest →
      let src := cpySrc d + x.done
      let r := s0.peekLine (ppaDpa src / 64) copyPort
      let poison := s0.isLocal src = true ∧ r.1.any (fun q => q.2) = true
      (poison → exec (.copyResume c n) s = .next ((r.2.haltCopy n.val).answer c stOk 0)) ∧
      (¬ poison → exec (.copyResume c n) s = .next (((s0.modCopy n.val (fun c => { c with state := 1 })).copyFetch n.val).answer c stOk 0)) ∧
      exec (.copySkip c n) s = .next ((((s0.copyLine n.val d x.done none).modCopy n.val (fun c =>
        { c with state := 1, done := c.done + 64, skipped := (c.skipped + 1) % 2 ^ 32 })).copyFetch n.val).answer c stOk 0) ∧
      exec (.copyAbort c n) s = .next ((s0.copyEnd n.val 2).answer c stOk 0))) ∧
  (∀ (s s1 : State) (n : Fin 16) (d : BitVec 256) (rest : List (BitVec 256)), (s.copyAt n.val).queue = d :: rest → (s.copyAt n.val).state = 1 →
    let run := State.copyRun n.val (s.copyAt n.val).left s
    (s.copyRights d = true → run = (true, s1) → exec (.copyLinePoison n) s = .next (s1.haltCopy n.val)) ∧
    (s.copyRights d = true → run.1 = false → exec (.copyLinePoison n) s = .next s) ∧
    (s.copyRights d = false → exec (.copyLinePoison n) s = .next s) ∧
    (s.copyRights d = false → (s.copyAt n.val).done = 0 → exec (.copyComplete n) s = .next (s.copyEnd n.val 3)) ∧
    (s.copyRights d = true ∨ (s.copyAt n.val).done ≠ 0 →
      ((s.copyAt n.val).probes ≠ [] → exec (.copyComplete n) s = .next s) ∧
      ((s.copyAt n.val).probes = [] → run = (true, s1) → exec (.copyComplete n) s = .next (s1.haltCopy n.val)) ∧
      ((s.copyAt n.val).probes = [] → run = (false, s1) →
        ((s1.copyAt n.val).left ≠ 0 ∨ s1.pool.reqs.any (fun q => q.owner = some (.copy n)) = true → exec (.copyComplete n) s = .next s1) ∧
        ((s1.copyAt n.val).left = 0 → s1.pool.reqs.any (fun q => q.owner = some (.copy n)) = false →
          exec (.copyComplete n) s = .next (s1.copyEnd n.val (if (s.copyAt n.val).skipped = 0 then 0 else 4)))))) ∧
  (∀ (s : State) (n : Fin 16), (s.copyAt n.val).queue = [] ∨ (s.copyAt n.val).state ≠ 1 →
    exec (.copyLinePoison n) s = .next s ∧ exec (.copyComplete n) s = .next s) ∧
  (∀ (s u : State) (n m : Nat) (d : BitVec 256) (rest : List (BitVec 256)) (bs : List (BitVec 8)), (s.copyAt n).queue = d :: rest →
    let src := cpySrc d + (s.copyAt n).done
    let r := s.peekLine (ppaDpa src / 64) copyPort
    ((s.copyAt n).done ≥ cpyLen d ∨ s.isLocal src = false ∨ (s.copyAt n).probes ≠ [] → State.copyRun n (m + 1) s = (false, s)) ∧
    ((s.copyAt n).done < cpyLen d → s.isLocal src = true → (s.copyAt n).probes = [] →
      (r = (none, u) → State.copyRun n (m + 1) s = (false, u)) ∧
      (r = (some (bs, true), u) → State.copyRun n (m + 1) s = (true, u)) ∧
      (r = (some (bs, false), u) → State.copyRun n (m + 1) s = State.copyRun n m
        ((u.copyLine n d (s.copyAt n).done (some bs)).modCopy n (fun c => { c with done := c.done + 64 }))))) ∧
  (∀ (s : State) (line : Nat), s.dirAt line = none →
    (s.fatalAt (line * 64) = true ∨ s.isPoison line = true → s.peekLine line copyPort = (some (List.replicate 64 0, true), s)) ∧
    (s.intact line → s.peekLine line copyPort = (some (s.loadLine line, false), s.light (lightRead (s.sliceOf (line * 64))) 64))) ∧
  (∀ (s : State) (n off : Nat) (d : BitVec 256) (bs : List (BitVec 8)),
    let line := ppaDpa (cpyDst d + off) / 64
    s.isLocal (cpyDst d + off) = true → copyOverlaps d off = false → s.isHdmDb (line * 64) = false → s.open_ line → s.parityElsewhere line →
    (∀ i, i < 64 → Mem.get (s.copyLine n d off (some bs)).med.mem (line * 64 + i) = (fitBytes 64 bs).getD i 0) ∧
    SameBytesBut s (s.copyLine n d off (some bs)) (line * 64) 64)

/-- On a port with CXL.mem enabled, from a live requester, with memory active: a MemRd of an HDM-H line that passes the checks is answered with the line as
it reads, its own contents where it is intact and under its own key; a MemWr of an HDM-H line that passes stores by its byte mask, or poisons the line, and completes, a mordant record’s line apart, where it is dropped and counted (R336); one of a whole line, open to a write and with no ring
parity here, leaves its 64 bytes there and every byte outside it as it was (R357, R358, R135). Requests of HDM-DB lines wait at the port and go to the home agent: reads as the kind that the
MetaValue asks for (R307, R311, R376). A read of a stopping partition, or before memory is active, gets poisoned zeros, and a write there is dropped and completes, with no
record; a request without rights is answered so too, and its violation is recorded (R33, R36, R356). On a port without CXL.mem, or from a dead requester, nothing changes (R326, R352). -/
def Obligations.HostAccesses : Prop :=
  (∀ (s : State) (p : Fin 4) (req : Fin 4096) (hpa : BitVec 64), (s.portAt p.val).mem = true →
    let r := s.requester p req
    let rx := s.light (lightRx p.val) 64
    s.isDead r.val = false →
    (∀ mv, s.host.active = false → exec (.hostMemRead p req hpa mv) s = .next (s.hostPoison p r.val)) ∧
    (∀ data mask poison, s.host.active = false → exec (.hostMemWrite p req hpa data mask poison) s = .next (rx.emit (.hostCmp p r.val))) ∧
    (∀ mv, s.host.active = true → s.hostBar p req hpa.toNat false = .quiet → exec (.hostMemRead p req hpa mv) s = .next (s.hostPoison p r.val)) ∧
    (∀ mv t dpa, s.host.active = true → s.hostBar p req hpa.toNat false = .violation t dpa →
      exec (.hostMemRead p req hpa mv) s = .next ((s.violate p r.val t dpa).hostPoison p r.val)) ∧
    (∀ mv dpa, s.host.active = true → s.hostBar p req hpa.toNat false = .go dpa → s.isHdmDb dpa = false →
      let q := s.readLine (dpa / 64)
      let t := (q.2.emit (.hostData p r.val q.1.1 q.1.2 .invalid)).light (lightTx p.val) 64
      exec (.hostMemRead p req hpa mv) s = .next t ∧ SameBytes s t ∧
        (s.intact (dpa / 64) → s.ownKey (dpa / 64) → q.1 = (s.lineBytes (dpa / 64), false))) ∧
    (∀ mv dpa, s.host.active = true → s.hostBar p req hpa.toNat false = .go dpa → s.isHdmDb dpa = true →
      exec (.hostMemRead p req hpa mv) s = .next ((s.beginHost p.val r.val (dpa / 64)).homeRequest
        { kind := s.readKind (s.portFunc p req) mv, who := .host r, line := dpa / 64, data := [] })) ∧
    (∀ data mask poison, s.host.active = true → s.hostBar p req hpa.toNat true = .quiet →
      exec (.hostMemWrite p req hpa data mask poison) s = .next (rx.emit (.hostCmp p r.val))) ∧
    (∀ data mask poison t dpa, s.host.active = true → s.hostBar p req hpa.toNat true = .violation t dpa →
      exec (.hostMemWrite p req hpa data mask poison) s = .next ((rx.violate p r.val t dpa).emit (.hostCmp p r.val))) ∧
    (∀ data mask dpa, s.host.active = true → s.hostBar p req hpa.toNat true = .go dpa → s.isHdmDb dpa = false →
      exec (.hostMemWrite p req hpa data mask false) s = .next ((rx.storeMasked (dpa / 64) (fitBytes 64 data) mask p.val).emit (.hostCmp p r.val))) ∧
    (∀ data mask dpa, s.host.active = true → s.hostBar p req hpa.toNat true = .go dpa → s.isHdmDb dpa = false → s.recordOf (dpa / 64) = none →
      exec (.hostMemWrite p req hpa data mask true) s = .next ((rx.poisonLine (dpa / 64)).emit (.hostCmp p r.val))) ∧
    (∀ data mask dpa g, s.host.active = true → s.hostBar p req hpa.toNat true = .go dpa → s.isHdmDb dpa = false → s.recordOf (dpa / 64) = some g →
      exec (.hostMemWrite p req hpa data mask true) s = .next ((rx.bump 64 0x5B00 1).emit (.hostCmp p r.val))) ∧
    (∀ data dpa, s.host.active = true → s.hostBar p req hpa.toNat true = .go dpa → s.isHdmDb dpa = false →
      s.open_ (dpa / 64) → s.parityElsewhere (dpa / 64) →
      ∃ t, exec (.hostMemWrite p req hpa data (BitVec.allOnes 64) false) s = .next t ∧
        (∀ i, i < 64 → Mem.get t.med.mem (dpa / 64 * 64 + i) = (fitBytes 64 data).getD i 0) ∧
        SameBytesBut s t (dpa / 64 * 64) 64 ∧ t.out.head? = some (.hostCmp p r.val)) ∧
    (∀ data mask poison dpa, s.host.active = true → s.hostBar p req hpa.toNat true = .go dpa → s.isHdmDb dpa = true →
      let u := rx.beginHost p.val r.val (dpa / 64)
      exec (.hostMemWrite p req hpa data mask poison) s = .next (
        if mask = BitVec.allOnes 64 ∧ poison = false then u.homeWrite (.host r) (dpa / 64) (fitBytes 64 data)
        else u.homeRequest { kind := .wrF, who := .host r, line := dpa / 64, data := fitBytes 64 data, mask := mask, poison := poison }))) ∧
  (∀ (s : State) (p : Fin 4) (req : Fin 4096) (hpa : BitVec 64), (s.portAt p.val).mem = false ∨ s.isDead (s.requester p req).val = true →
    (∀ mv, exec (.hostMemRead p req hpa mv) s = .next s) ∧ (∀ data mask poison, exec (.hostMemWrite p req hpa data mask poison) s = .next s))

/-- FM_API_GFD_DECODER programs a good decoder or answers Invalid Input (R35). PORT_LINK_UP of a port that is out of reset, not isolated and with its clock sets the
link up with its rate and width, with CXL.mem in 256B flit mode at 32 GT/s and x8 or more, and reports a lesser link than 64 GT/s and x16 (R352); of another port it changes nothing.
PORT_LINK_DOWN of a link that is up drops its requests and clears its rate and width; with no translation request under way, it does nothing more in G-FAM mode while another
link is up; with the home agent at rest, the last link’s loss leaves every requester dead, and in MLD mode that of a port its sixteen logical devices (R325, R376); of a link that is down it changes nothing. HOT_RESET and PERST_N
take the link down, count the reset and return the port’s functions to their reset values; PERST_N holds the port isolated until released, and is counted once (R375, R496). FLR and CXL_RESET clear
their function but for its HDM decoders and IDE keys, its sessions and its window’s clients, and no other function (R375). CONFIGURATION_REQUEST writes its
one setting and answers while the link is up; while it is down it is not answered (R354, R356). -/
def Obligations.PortsAndFunctions : Prop :=
  (∀ (s : State) (d : Fin 64) (v : BitVec 256),
    let t := Tab.set s.host.gfd d.val (decTrim v)
    (s.gfdGood t = true → exec (.fmApiGfdDecoder d v) s = .next { s with host := { s.host with gfd := t }, out := .fmApi true :: s.out }) ∧
    (s.gfdGood t = false → exec (.fmApiGfdDecoder d v) s = .next { s with out := .fmApi false :: s.out })) ∧
  (∀ (s : State) (p : Fin 4) (rate width : Nat) (flit : Bool),
    let held := (s.portAt p.val).perst = true ∨ s.rst.isolated.contains (.port p) = true ∨ bit s.clk.status (7 + p.val) = true
    let u := ((s.modPort p.val (fun x => { x with up := true, mem := flit && rate ≥ 32 && width ≥ 8 })).setPar (0x5010 + p.val) 1 rate).setPar (0x5010 + p.val) 2 width
    (held → exec (.portLinkUp p rate width flit) s = .next s) ∧
    (¬ held → flit = true → 64 ≤ rate → 16 ≤ width → exec (.portLinkUp p rate width flit) s = .next u) ∧
    (¬ held → flit = false ∨ rate < 64 ∨ width < 16 →
      exec (.portLinkUp p rate width flit) s = .next (u.report kPortLinkDegraded p.val 0 [(32, p.val), (32, rate), (32, width), (32, if flit then 1 else 0)]))) ∧
  (∀ (s : State) (p : Fin 4), (s.portAt p.val).up = true → s.tlb.fetches = [] →
    let u := (((s.muteRequests p.val).modPort p.val (fun x => { x with up := false, mem := false })).setPar (0x5010 + p.val) 1 0).setPar (0x5010 + p.val) 2 0
    let still := s.coh.dir = [] ∧ s.coh.queue = [] ∧ s.coh.jobs = []
    (∀ q : Fin 4, s.mld = false → q ≠ p → (s.portAt q.val).up = true → exec (.portLinkDown p) s = .next u) ∧
    (s.mld = false → (∀ q : Fin 4, q ≠ p → (s.portAt q.val).up = false) → still →
      ∃ t, exec (.portLinkDown p) s = .next t ∧ SameBytes s t ∧ t.portAt p.val = u.portAt p.val ∧ ∀ r, r < 4096 → t.isDead r = true) ∧
    (s.mld = true → still → ∃ t, exec (.portLinkDown p) s = .next t ∧ SameBytes s t ∧ t.portAt p.val = u.portAt p.val ∧
      ∀ n, n < 16 → t.isDead (p.val * 16 + n) = true)) ∧
  (∀ (s : State) (p : Fin 4), (s.portAt p.val).up = false → exec (.portLinkDown p) s = .next s) ∧
  (∀ (s : State) (p : Fin 4),
    let d := s.linkDown p.val
    let gone (t : State) : Prop := SameBytes d t ∧ t.par (0x5010 + p.val) 3 = (d.par (0x5010 + p.val) 3 + 1) % 2 ^ 32 ∧
      ∀ f, f ∈ d.portFuncs p.val → t.funcAt f = default
    ((s.portAt p.val).up = false → d = s) ∧
    (∃ t, exec (.hotReset p) s = .next t ∧ gone t) ∧
    ((s.portAt p.val).perst = false →
      ∃ t, exec (.perstN p true) s = .next t ∧ gone t ∧ (t.portAt p.val).perst = true ∧ Block.port p ∈ t.rst.isolated) ∧
    ((s.portAt p.val).perst = true → exec (.perstN p true) s = .next s)) ∧
  (∀ (s : State) (p : Fin 4), exec (.perstN p false) s = .next ({ s.modPort p.val (fun x => { x with perst := false }) with
    rst := { s.rst with isolated := s.rst.isolated.filter (fun x => x ≠ Block.port p) } })) ∧
  (∀ (s : State) (f : Fin 68),
    let gone (t : State) : Prop := SameBytes s t ∧
      t.funcAt f.val = { (default : Func) with hdm := (s.funcAt f.val).hdm, ide := (s.funcAt f.val).ide, ideKey := (s.funcAt f.val).ideKey } ∧
      (∀ x, x ∈ t.host.sessions → x.path ≠ .doe f) ∧
      (∀ c, c ∈ t.clients → c.client.path ≠ .window f) ∧ ∀ g, g ≠ f.val → t.funcAt g = s.funcAt g
    (∃ t, exec (.flr f) s = .next t ∧ gone t) ∧ ∃ t, exec (.cxlReset f) s = .next t ∧ gone t) ∧
  (∀ (s : State) (f : Fin 68), (s.portAt (funcPort f.val)).up = true →
    let said (t : State) : State := { t with out := .cfg f s.memoryValid s.host.active 16 :: s.out }
    let set (g : Func → Func) : State := said (s.modFunc f.val g)
    exec (.configurationRequest f none) s = .next (said s) ∧
    (∀ on, exec (.configurationRequest f (some (.backInvalidate on))) s = .next (set (fun x => { x with bi := on }))) ∧
    (∀ on, exec (.configurationRequest f (some (.ats on))) s = .next (set (fun x => { x with ats := on }))) ∧
    (∀ on, exec (.configurationRequest f (some (.msix on))) s = .next (set (fun x => { x with msix := on }))) ∧
    (∀ on, exec (.configurationRequest f (some (.ide on))) s = .next (set (fun x => { x with ide := on }))) ∧
    (∀ d v, exec (.configurationRequest f (some (.hdmDecoder d v))) s = .next (set (fun x => { x with hdm := Tab.set x.hdm d.val v })))) ∧
  (∀ (s : State) (f : Fin 68) (w : Option CfgWrite), (s.portAt (funcPort f.val)).up = false → exec (.configurationRequest f w) s = .next s)

/-- Identify Memory Device, Get Supported Logs, Get Log, Get Health Info and Get Poison List answer without changing
anything (R359; the CXL 3.1 codes are log entry 31), as do DOE discovery (R360) and CDAT reads (R361). CLEAR_POISON of
a line of an ACTIVE partition, not stopping, that the function reaches writes the given 64 bytes as a full line: through the home agent in HDM-DB, else at once, where the line, open to a write and with no
ring parity here, then holds them and is not poison, and every byte outside it reads as before; of any other address it answers
Invalid Physical Address and changes nothing (R359); a command outside the list answers Unsupported. -/
def Obligations.MailboxDoeAndCdat : Prop :=
  (∀ (s : State) (f : Fin 68),
    exec (.identifyMemoryDevice f) s =
      .next { s with out := .mailbox f.val 0 [s.capacityOf f.val / 2 ^ 28, s.capacityOf f.val / 2 ^ 28, 0, 256, 0] :: s.out } ∧
    exec (.getSupportedLogs f) s = .next { s with out := .mailbox f.val 0 [1, 24] :: s.out } ∧
    exec (.getLog f) s = .next { s with out := .mailbox f.val 0 [0x0400, 0x0401, 0x4000, 0x4200, 0x4300, 0x4302] :: s.out } ∧
    exec (.getHealthInfo f) s = .next { s with out := .mailbox f.val 0 [if s.par 0x3070 3 = 0 then 0 else 1] :: s.out } ∧
    (∀ op, exec (.unsupportedMailboxCommand f op) s = .next { s with out := .mailbox f.val 3 [op.toNat] :: s.out }) ∧
    (∃ more ls, exec (.getPoisonList f) s = .next { s with out := .mailbox f.val 0 (more :: ls) :: s.out } ∧ ls.length ≤ 256 ∧
      (s.mld = false → ∀ a, a ∈ ls → ∃ l, a = l * 64 ∧ s.isPoison l = true ∧ s.reaches f.val (l * 64) = true)) ∧
    (∀ idx, exec (.doeDiscovery f idx) s = .next { s with out := .doe f.val (match idx with
      | 0 => [1, 0, 1] | 1 => [1, 1, 2] | 2 => [1, 2, 3] | 3 => [0x1E98, 2, 0] | _ => [0xFFFF, 0, 0]) :: s.out }) ∧
    (∀ entry b len sh, (s.cdatRanges f.val)[entry / 3]? = some (b, len, sh) →
      exec (.cdatRead f entry) s = .next { s with out := .cdat f.val (3 * (s.cdatRanges f.val).length ::
        (match entry % 3 with
          | 0 => [0, entry / 3, b, len, if sh then 1 else 0]
          | 1 => [1, entry / 3, 350, 200, 128, 128]
          | _ => [4, entry / 3, 1])) :: s.out }) ∧
    (∀ entry, (s.cdatRanges f.val)[entry / 3]? = none →
      exec (.cdatRead f entry) s = .next { s with out := .cdat f.val [3 * (s.cdatRanges f.val).length] :: s.out })) ∧
  (∀ (s : State) (f : Fin 68) (dpa : BitVec 46) (data : List (BitVec 8)),
    let no := exec (.clearPoison f dpa data) s = .next { s with out := .mailbox f.val 0x0F [] :: s.out }
    let place := if s.mld then s.ldDpa f.val dpa.toNat else some dpa.toNat
    (place = none → no) ∧
    (∀ a, place = some a →
      (s.reaches f.val a = false ∨ s.owner a = none → no) ∧
      (∀ t, s.owner a = some t → (s.tenantAt t).state ≠ 2 ∨ (s.tenantAt t).stopping = true → no) ∧
      (∀ t, s.reaches f.val a = true → s.owner a = some t → (s.tenantAt t).state = 2 → (s.tenantAt t).stopping = false →
        let done (u : State) : Prop := exec (.clearPoison f dpa data) s = .next { u with out := .mailbox f.val 0 [] :: u.out }
        (s.isHdmDb (a / 64 * 64) = true → done (s.homeWrite (.other (Fin.ofNat 16 (funcPort f.val))) (a / 64) (fitBytes 64 data))) ∧
        (s.isHdmDb (a / 64 * 64) = false → ∃ u, done u ∧
          (s.open_ (a / 64) → s.parityElsewhere (a / 64) → u.isPoison (a / 64) = false ∧
            (∀ i, i < 64 → Mem.get u.med.mem (a / 64 * 64 + i) = (fitBytes 64 data).getD i 0) ∧ SameBytesBut s u (a / 64 * 64) 64)))))

/-- With a session open on the function: IDE_KM sets the IDE key of a port’s function, or in MLD mode of its logical device 0 (R360); where the window’s tenant is the function’s scope, GLAZE_KEY_INSTALL
sets the window’s key with sequence numbers 1 and, where the window is enabled, OUT_CONSUMED 0, and GLAZE_KEY_WITHDRAW removes it (R363). Else each changes nothing. GLAZE_WRITE, GLAZE_READ and
GLAZE_OUT_ROOM answer the packet at the watched header of an enabled, keyed window with room, below 2^32 packets each way: a wrong sequence number
is answered with status 2, a tag that does not verify with status 1 and a GLAZE_AUTH_FAILED record, an operation that is neither with status 5, a range or length that is not allowed with status 3; a good WRITE
stores its plaintext, and a good READ is answered with the data, with status 4 where a line is poison, or stays armed while a host holds a line (R364, R365). An answer raises OUT_NEXT by 1. GLAZE_WRITE leaves READ packets and
GLAZE_READ leaves others, and with no key, no packet, no room, or the window disabled, the three change nothing. -/
def Obligations.KeysAndGlazeWindows : Prop :=
  (∀ (s : State) (f : Fin 68) (session : Nat) (key : BitVec 256),
    let takes := s.sessionOpen (.doe f) session = true ∧ ((s.mld = false ∧ f.val < 4) ∨ (s.mld = true ∧ 4 ≤ f.val ∧ (f.val - 4) % 16 = 0))
    (takes → exec (.ideKm f session key) s = .next (s.modFunc f.val (fun x => { x with ideKey := some key }))) ∧
    (¬ takes → exec (.ideKm f session key) s = .next s)) ∧
  (∀ (s : State) (f : Fin 68) (session : Nat) (w : Fin 64) (key : BitVec 256),
    let takes := s.sessionOpen (.doe f) session = true ∧ s.par 0x5040 (f.val + 1) = s.par (0x5100 + w.val) 1
    let set := s.modGlaze w.val (fun _ => { key := some (key, .doe f, session), inNext := 1, outNext := 1, inCount := 0, outCount := 0, armed := false })
    (takes → s.par (0x5100 + w.val) 5 ≠ 1 → exec (.glazeKeyInstall f session w key) s = .next set) ∧
    (takes → s.par (0x5100 + w.val) 5 = 1 →
      exec (.glazeKeyInstall f session w key) s = .next (set.writeBytes (s.glazeRange w.val).1 (List.replicate 8 0) 12)) ∧
    (takes → exec (.glazeKeyWithdraw f session w) s = .next (s.modGlaze w.val (fun g => { g with key := none, armed := false }))) ∧
    (¬ takes → exec (.glazeKeyInstall f session w key) s = .next s ∧ exec (.glazeKeyWithdraw f session w) s = .next s)) ∧
  (∀ (s : State) (w : Fin 64), (s.glazeAt w.val).key = none ∨ (s.glazeAt w.val).armed = false ∨ s.par (0x5100 + w.val) 5 = 0 ∨ (s.glazeRoom w.val).1 = false ∨
      2 ^ 32 ≤ (s.glazeAt w.val).inCount ∨ 2 ^ 32 ≤ (s.glazeAt w.val).outCount →
    exec (.glazeWrite w) s = .next s ∧ exec (.glazeRead w) s = .next s ∧ exec (.glazeOutRoom w) s = .next s) ∧
  (∀ (s : State) (w : Fin 64) (key : BitVec 256) (q : SpdmPath) (id : Nat), (s.glazeAt w.val).key = some (key, q, id) →
    (s.glazeAt w.val).armed = true → s.par (0x5100 + w.val) 5 ≠ 0 → (s.glazeRoom w.val).1 = true →
    (s.glazeAt w.val).inCount < 2 ^ 32 → (s.glazeAt w.val).outCount < 2 ^ 32 →
    let room := (s.glazeRoom w.val).2
    let h := room.readBytes (room.glazeHeader w.val) 64
    let op := bytesBits h.1.1 163 160
    let seq := bytesBits h.1.1 63 0
    let off := bytesBits h.1.1 109 64
    let len := bytesBits h.1.1 159 128
    let slot := 2 ^ s.par (0x5100 + w.val) 3 - 64
    let s1 := h.2.modGlaze w.val (fun g => { g with armed := false })
    let body := if op = 1 then Nat.min len slot else 0
    let p := s1.readBytes (s1.glazeHeader w.val + 64) body
    let s2 := p.2.modGlaze w.val (fun g => { g with inNext := g.inNext + 1, inCount := g.inCount + 1 })
    let x := s2.tenantAt (s.par (0x5100 + w.val) 1)
    let tag := gcmOpen key (glazeIv w.val false seq) (h.1.1.take 32) (p.1.1 ++ (h.1.1.drop 32).take 16)
    let inRange := x.state = 2 ∧ x.stopping = false ∧ len % 64 = 0 ∧ len ≠ 0 ∧ len ≤ slot ∧ off % 64 = 0 ∧ off + len ≤ x.size.toNat
    let res (u : State) : Prop :=
      if seq ≠ (s.glazeAt w.val).inNext.toNat then u = s1.glazeOut w.val 4 2 0 seq []
      else match tag with
        | none => u = ((s2.bump 32 (0x5100 + w.val) 9).report kGlazeAuthFailed (s.par (0x5100 + w.val) 1) 0 [(32, w.val), (64, seq)]).glazeOut w.val 4 1 0 seq []
        | some plain =>
          (op ≠ 1 → op ≠ 2 → u = s2.glazeOut w.val 4 5 0 seq []) ∧
          (op = 1 ∨ op = 2 → ¬ inRange → u = s2.glazeOut w.val 4 3 0 seq []) ∧
          (op = 1 → inRange → u = (s2.glazeStore (x.base.toNat + off) (fitBytes len plain)).glazeOut w.val 4 0 0 seq []) ∧
          (op = 2 → inRange →
            let r := s2.glazeRead (x.base.toNat + off) len
            match r.1 with
            | none => u = r.2.modGlaze w.val (fun g => { g with armed := true, inNext := (s.glazeAt w.val).inNext, inCount := (s.glazeAt w.val).inCount })
            | some (_, true) => u = r.2.glazeOut w.val 4 4 0 seq []
            | some (bs, false) => u = r.2.glazeOut w.val 3 0 off seq bs)
    (op ≠ 2 → (∃ u, exec (.glazeWrite w) s = .next u ∧ res u) ∧ exec (.glazeRead w) s = .next s) ∧
    (op = 2 → (∃ u, exec (.glazeRead w) s = .next u ∧ res u) ∧ exec (.glazeWrite w) s = .next s) ∧
    (∃ u, exec (.glazeOutRoom w) s = .next u ∧ res u)) ∧
  (∀ (s : State) (w op status off inSeq : Nat) (body : List (BitVec 8)), (s.glazeAt w).key.isSome = true →
    ((s.glazeOut w op status off inSeq body).glazeAt w).outNext = (s.glazeAt w).outNext + 1)

/-- With the supply on, the window (where the client has one) open, no fail-over gap and firmware running: OD_READ of a readable entry at OFFSET 0
answers OK with its bytes and latches them, OD_READ of subindex 0 answers the highest subindex, OD_READ at another OFFSET answers from the latch of its entry, or SEGMENT where there is none; of an entry
that is not there NO_ENTRY, beyond the client’s scope DENIED, that is write-only MODE. OD_WRITE of a whole
value answers the status of the entry’s write, of a read-only entry MODE, of a value of another length LENGTH, and beyond the scope, or on a management path that MGMT_WRITE bars, DENIED (R441-R447, R450); a repeated request gets its kept response (R448). In a gap
a management request is answered BUSY, and a window’s is queued (R371, R449). DISCOVERY_REPLY answers the field network’s multicast READ of 0x1000 and nothing else (R451). SEGMENT_LATCH_EXPIRE
drops the latch, and without one changes nothing (R445). -/
def Obligations.DictionaryRequests : Prop :=
  (∀ (s : State) (c : Client) (h : BitVec 128), s.pwr.gateOn = true → s.windowTakes c = true → s.cx.gap = false → s.running = true →
    headerGood h 0 = true → hdrOp h = 1 → s.keptFor c h = none →
    let idx := hdrIndex h
    let sub := hdrSub h
    let want := Nat.min (hdrLength h) (pathLimit c)
    let tells (st : Nat) (bs : List (BitVec 8)) (u : State) : Prop := exec (.odRead c h) s = .next (u.odRespond c h st bs)
    let shown : Prop := s.inScope c idx sub false = true ∧ ¬ (idx = 0x3850 ∧ sub ≤ 4 ∧ clientGroup c = 0)
    let latched (bs : List (BitVec 8)) (u : State) : Prop := tells stOk (bs.take want) (u.modClient c (fun x => { x with latch := some (odKey idx sub, bs) }))
    let later : Prop := match (s.clientAt c).latch with
      | none => tells stSegment [] s
      | some (k, bs) => if k ≠ odKey idx sub then tells stSegment [] s else if bs.length < hdrOffset h then tells stLength [] s
        else tells stOk ((bs.drop (hdrOffset h)).take want) s
    (odHighest idx = none → tells stNoEntry [] s) ∧
    (∀ top, odHighest idx = some top → odRow idx sub = none →
      (sub ≠ 0 → tells stNoEntry [] s) ∧
      (sub = 0 → s.inScope c idx sub false = false → tells stDenied [] s) ∧
      (sub = 0 → s.inScope c idx sub false = true →
        (hdrOffset h = 0 → latched [BitVec.ofNat 8 top] s ∧ (c.path = .field → idx = 0x1000 →
          exec (.discoveryReply c h) s = .next ((s.modClient c (fun x => { x with latch := some (odKey idx sub, [BitVec.ofNat 8 top]) })).odRespond c h stOk
            ([BitVec.ofNat 8 top].take want)))) ∧ (hdrOffset h ≠ 0 → later))) ∧
    (∀ top r, odHighest idx = some top → odRow idx sub = some r →
      (¬ shown → tells stDenied [] s) ∧
      (shown → r.acc = .wo → tells stMode [] s) ∧
      (shown → r.acc ≠ .wo → hdrOffset h = 0 → latched (s.entryValue c r idx sub).1 (s.entryValue c r idx sub).2) ∧
      (shown → r.acc ≠ .wo → hdrOffset h ≠ 0 → later))) ∧
  (∀ (s : State) (c : Client) (h : BitVec 128) (data : List (BitVec 8)) (top : Nat) (r : OdRow), s.pwr.gateOn = true → s.windowTakes c = true →
    s.cx.gap = false → s.running = true → headerGood h data.length = true → hdrOp h = 2 → s.keptFor c h = none → data.length ≤ pathLimit c →
    odHighest (hdrIndex h) = some top → odRow (hdrIndex h) (hdrSub h) = some r →
    let tells (st : Nat) (bs : List (BitVec 8)) (u : State) : Prop := exec (.odWrite c h data) s = .next (u.odRespond c h st bs)
    let may : Prop := (clientGroup c = 0 ∨ s.option 199 199 ≠ 0) ∧ s.inScope c (hdrIndex h) (hdrSub h) true = true
    (hdrIndex h ≠ 0x7C20 →
      (¬ may → tells stDenied [] s) ∧
      (may → r.acc = .const ∨ r.acc = .ro → tells stMode [] s) ∧
      (∀ n, may → r.acc ≠ .const → r.acc ≠ .ro → writeSize r = some n → n ≤ pathLimit c →
        (hdrOffset h = 0 → hdrFinal h = true → data.length = n →
          let a := s.applyValue c r (hdrIndex h) (hdrSub h) data
          tells a.1 a.2.1 a.2.2) ∧
        (hdrOffset h ≠ 0 ∨ hdrFinal h = false ∨ data.length ≠ n → tells stLength [] s)))) ∧
  (∀ (s : State) (c : Client) (h : BitVec 128) (r : BitVec 128) (d data : List (BitVec 8)), s.pwr.gateOn = true → s.windowTakes c = true → s.cx.gap = false →
    s.running = true → s.keptFor c h = some (r, d) →
    exec (.odRead c h) s = .next (s.resend c r d) ∧ exec (.odWrite c h data) s = .next (s.resend c r d)) ∧
  (∀ (s : State) (c : Client) (h : BitVec 128) (data : List (BitVec 8)), s.pwr.gateOn = true → s.windowTakes c = true → s.cx.gap = true →
    (clientGroup c ≠ 0 → exec (.odRead c h) s = .next (s.odRespond c h stBusy []) ∧ exec (.odWrite c h data) s = .next (s.odRespond c h stBusy [])) ∧
    (∀ w, c.path = .window w → exec (.odRead c h) s = .next (s.gapPush w.val (.message c h [])) ∧
      exec (.odWrite c h data) s = .next (s.gapPush w.val (.message c h data)))) ∧
  (∀ (s : State) (c : Client) (h : BitVec 128), c.path ≠ .field ∨ hdrOp h ≠ 1 ∨ hdrIndex h ≠ 0x1000 → exec (.discoveryReply c h) s = .next s) ∧
  (∀ (s : State) (c : Client),
    ((s.clientAt c).latch ≠ none → exec (.segmentLatchExpire c) s = .next (s.modClient c (fun x => { x with latch := none }))) ∧
    ((s.clientAt c).latch = none → exec (.segmentLatchExpire c) s = .next s))

/-- OPTION_WRITE of a good record, served while none is being stored, erases the copy not in use and starts to store the
record with the next GENERATION and its CRC; while one is being stored it answers BUSY, and a record that is not well formed RANGE; OPTION_WRITE_DONE programs the record that is being stored with its commit word (R455-R457). With the
supply on, a solicitation of the chip’s own link-local address is answered with its MAC address and an echo request
with its data; of another address, or with the supply off, nothing is answered (R451). A target without a dynamic address takes the one that ENTDAA gives, and the one that SETDASA
gives to its static address, 0 being none; a target that has one keeps it (R452). -/
def Obligations.OptionsNetworkAndAddresses : Prop :=
  (∀ (s : State) (c : Client) (v : BitVec 2048), s.serves c 0x1010 2 = true →
    let s0 := s.modClient c id
    let rec_ := BitVec.ofNat 2048 (setBits v.toNat 95 64 ((s.option 95 64 + 1) % 2 ^ 32))
    let full := BitVec.ofNat 2048 (setBits rec_.toNat 2047 2016 (optionCrc rec_).toNat)
    (s.opt.st = 1 → exec (.optionWrite c v) s = .next (s0.answer c stBusy 0)) ∧
    (s.opt.st ≠ 1 → optionForm v = false → exec (.optionWrite c v) s = .next (s0.answer c stRange 0)) ∧
    (s.opt.st ≠ 1 → optionForm v = true → s.opt.used = false → exec (.optionWrite c v) s = .next
      (({ s0 with opt := { s.opt with st := 1, writing := some full, copy1 := BitVec.allOnes 2048, commit1 := BitVec.allOnes 32 } } : State).answer c stOk 0)) ∧
    (s.opt.st ≠ 1 → optionForm v = true → s.opt.used = true → exec (.optionWrite c v) s = .next
      (({ s0 with opt := { s.opt with st := 1, writing := some full, copy0 := BitVec.allOnes 2048, commit0 := BitVec.allOnes 32 } } : State).answer c stOk 0))) ∧
  (∀ (s : State) (r : BitVec 2048), s.opt.writing = some r →
    (s.opt.used = false → exec .optionWriteDone s =
      .next { s with opt := { s.opt with st := 2, writing := none, copy1 := r, commit1 := 0x54494D43 } }) ∧
    (s.opt.used = true → exec .optionWriteDone s =
      .next { s with opt := { s.opt with st := 2, writing := none, copy0 := r, commit0 := 0x54494D43 } })) ∧
  (∀ (s : State), s.opt.writing = none → exec .optionWriteDone s = .next s) ∧
  (∀ (s : State) (target : BitVec 128), s.pwr.gateOn = false ∨ ipBytes target ≠ [0xFE, 0x80, 0, 0, 0, 0, 0, 0] ++ s.eui64 →
    exec (.neighborDiscovery target) s = .next s) ∧
  (∀ (s : State) (data : List (BitVec 8)), s.pwr.gateOn = false → exec (.icmpv6Echo data) s = .next s) ∧
  (∀ (s : State) (target : BitVec 128), s.pwr.gateOn = true →
    (ipBytes target = [0xFE, 0x80, 0, 0, 0, 0, 0, 0] ++ s.eui64 →
      exec (.neighborDiscovery target) s = .next { s with out := .network 1 (ipBytes target ++ leBytes 6 s.sec.mac.toNat) :: s.out }) ∧
    ∀ data, exec (.icmpv6Echo data) s = .next { s with out := .network 2 data :: s.out }) ∧
  (∀ (s : State) (a static : BitVec 7), s.i3c = none →
    exec (.entdaa a) s = .next { s with i3c := some a, out := .i3cAddress a :: s.out } ∧
    (static ≠ 0 → static.toNat = s.option 198 192 → exec (.setdasa static a) s = .next { s with i3c := some a, out := .i3cAddress a :: s.out }) ∧
    (static = 0 ∨ static.toNat ≠ s.option 198 192 → exec (.setdasa static a) s = .next s)) ∧
  (∀ (s : State) (a b static : BitVec 7), s.i3c = some b → exec (.entdaa a) s = .next s ∧ exec (.setdasa static a) s = .next s)

/-- With the supply on, a window whose scope is open and whose version stands, outside a gap: WINDOW_REQUEST_WRITE stores
into REQUEST and clears LOST and OVERRUN by writing ones, before firmware runs it sets the boot window’s LENGTH and gives its GO, and its writes of REQ_DOORBELL and VERSION_ACK do as those commands; REQ_DOORBELL serves the message there and sets RSP_SEQ, or overruns while one is pending (R367, R368, R372);
VERSION_ACK of the version in force opens a changed window (R370). In a gap the writes are queued (R371); a window that is closed, or whose version has changed, drops them (R369, R370). While the image area is open, BOOT_APERTURE_WRITE
and DOWNLOAD write it and claim it, BOOT_GO and DOWNLOAD_GO start the check; while it is not, the first and third change nothing and the others answer STATE (R373, R374, R453). FIRMWARE_CHECK_DONE of a check under way
runs a good image and rejects another with its REASON, a record and a count, and answers a waiting DOWNLOAD_GO (R372, R373, R425). FAILOVER_SERVICE_OPEN ends the gap: the record of the failed complex takes its length, lost writes are reported, the queued writes are applied in order, and a change of version is told (R371,
R465, R471); outside a gap it changes nothing. -/
def Obligations.WindowsAndBoot : Prop :=
  (∀ (s : State) (w : Fin 68), s.pwr.gateOn = true → s.clientScope (windowClient w) ≠ 0xFFFF → s.cx.gap = false →
    ((s.windowAt w.val).changed = false →
      (∀ (off : BitVec 16) (data : List (BitVec 8)),
        let boot := s.running = false ∧ w.val = s.bootWindow
        (0x1000 ≤ off.toNat → off.toNat < 0x8000 → exec (.windowRequestWrite w off data) s = .next (s.modWindow w.val (fun x =>
          { x with request := Mem.write x.request (off.toNat - 0x1000) (data.take (0x8000 - off.toNat)) }))) ∧
        (off = 4 → exec (.windowRequestWrite w off data) s = .next (s.modWindow w.val (fun x =>
          { x with lost := x.lost && !bitAt (leNat (data.take 4)) 4, overrun := x.overrun && !bitAt (leNat (data.take 4)) 5 }))) ∧
        (off = 0x204 → boot → exec (.windowRequestWrite w off data) s = .next { s with host := { s.host with boot := { s.host.boot with
          length := BitVec.ofNat 32 (leNat (data.take 4)) } } }) ∧
        (off = 0x208 → boot → leNat (data.take 4) = 1 → exec (.windowRequestWrite w off data) s = .next (s.imageGo 1)) ∧
        (off = 0x208 → leNat (data.take 4) ≠ 1 → exec (.windowRequestWrite w off data) s = .next s) ∧
        (off = 0x204 ∨ off = 0x208 → ¬ boot → exec (.windowRequestWrite w off data) s = .next s) ∧
        (off = 0x100 → exec (.windowRequestWrite w off data) s = exec (.reqDoorbell w (BitVec.ofNat 32 (leNat (data.take 4)))) s) ∧
        (off = 8 → exec (.windowRequestWrite w off data) s = exec (.versionAck w (BitVec.ofNat 32 (leNat (data.take 4)))) s)) ∧
      (∀ seq, (s.windowAt w.val).pending = none →
        let m := windowMessage (s.windowAt w.val)
        exec (.reqDoorbell w seq) s = .next ((s.odServe (windowClient w) m.1 m.2).modWindow w.val (fun x => { x with rspSeq := seq, pending := none }))) ∧
      (∀ seq, (s.windowAt w.val).pending ≠ none →
        exec (.reqDoorbell w seq) s = .next (s.modWindow w.val (fun x => { x with overrun := true })))) ∧
    (∀ v, s.running = true → v.toNat = s.interfaceVersion →
      exec (.versionAck w v) s = .next (s.modWindow w.val (fun x => { x with changed := false }))) ∧
    (∀ v, s.running = false ∨ v.toNat ≠ s.interfaceVersion → exec (.versionAck w v) s = .next s)) ∧
  (∀ (s : State) (w : Fin 68), s.pwr.gateOn = true → s.clientScope (windowClient w) ≠ 0xFFFF → s.cx.gap = true →
    (∀ (off : BitVec 16) data, (s.windowAt w.val).changed = false → off ≠ 0x100 → off ≠ 8 → exec (.windowRequestWrite w off data) s = .next (s.gapPush w.val (.data w.val off.toNat data))) ∧
    (∀ v, exec (.versionAck w v) s = .next (s.gapPush w.val (.versionAck w.val v))) ∧
    (∀ seq, (s.windowAt w.val).changed = false → (s.windowAt w.val).pending = none → s.host.gapQueue.length < 64 →
      exec (.reqDoorbell w seq) s = .next ((s.gapPush w.val (.doorbell w.val seq)).modWindow w.val (fun x => { x with pending := some seq })))) ∧
  (∀ (s : State) (w : Fin 68), s.pwr.gateOn = false ∨ s.clientScope (windowClient w) = 0xFFFF →
    (∀ off data, exec (.windowRequestWrite w off data) s = .next s) ∧ (∀ seq, exec (.reqDoorbell w seq) s = .next s) ∧
    ∀ v, exec (.versionAck w v) s = .next s) ∧
  (∀ (s : State) (w : Fin 68), (s.windowAt w.val).changed = true →
    (∀ off data, off ≠ 8 → exec (.windowRequestWrite w off data) s = .next s) ∧ ∀ seq, exec (.reqDoorbell w seq) s = .next s) ∧
  (∀ (s : State) (off : BitVec 24) (data : List (BitVec 8)),
    (s.imageOpen 1 = true →
      exec (.bootApertureWrite off data) s = .next { s with host := { s.host with boot := { s.host.boot with
        claim := 1, image := Mem.write s.host.boot.image off.toNat (data.take (16777216 - off.toNat)) } } } ∧
      exec (.bootGo 1) s = .next { s with host := { s.host with boot := { s.host.boot with state := 2, reason := 0 } } }) ∧
    (s.imageOpen 1 = false → exec (.bootApertureWrite off data) s = .next s ∧ exec (.bootGo 1) s = .next s) ∧
    ∀ v, v ≠ 1 → exec (.bootGo v) s = .next s) ∧
  (∀ (s : State) (c : Client) (h : BitVec 128), s.pwr.gateOn = true → s.cx.gap = false → c.path = .field → s.keptFor c h = none →
    (∀ data, headerGood h data.length = true → hdrOp h = 3 → data.length ≤ 1024 →
      (s.imageOpen 2 = true → hdrOffset h + data.length ≤ 16777216 →
        exec (.download c h data) s = .next (({ s with host := { s.host with boot := { s.host.boot with
          claim := 2, image := Mem.write s.host.boot.image (hdrOffset h) (data.take (16777216 - hdrOffset h)) } } } : State).odRespond c h stOk [])) ∧
      (s.imageOpen 2 = true → 16777216 < hdrOffset h + data.length → exec (.download c h data) s = .next (s.odRespond c h stLength [])) ∧
      (s.imageOpen 2 = false → exec (.download c h data) s = .next (s.odRespond c h stState []))) ∧
    (headerGood h 0 = true → hdrOp h = 4 →
      (s.imageOpen 2 = true → exec (.downloadGo c h) s = .next { s with host := { s.host with boot := { s.host.boot with
        length := BitVec.ofNat 32 (hdrOffset h), goFrom := some (c, h), state := 2, reason := 0 } } }) ∧
      (s.imageOpen 2 = false → s.host.boot.goFrom = none → exec (.downloadGo c h) s = .next (s.odRespond c h stState [])))) ∧
  (∀ (s : State),
    let b := s.host.boot
    (b.state ≠ 2 → exec .firmwareCheckDone s = .next s) ∧
    (b.state = 2 → s.imageCheck b.image b.length.toNat = none →
      exec .firmwareCheckDone s = .next ((((({ s with host := { s.host with boot := { b with state := 4, reason := 0, claim := 0 } } } : State).runImage
        b.image).modCx .A (fun x => x.runs b.image)).firmwareRuns).answerGo)) ∧
    (∀ r, b.state = 2 → s.imageCheck b.image b.length.toNat = some r →
      exec .firmwareCheckDone s = .next (((({ s with host := { s.host with boot := { b with state := 3, reason := BitVec.ofNat 8 r, claim := 0 } } } : State).bump
        32 0x5200 2).report kFirmwareRejected 0 0 [(32, if b.goFrom.isSome then 2 else 1), (8, r)]).answerGo))) ∧
  (∀ (s : State) (gapNs : Nat), s.cx.gap = true →
    let s1 : State := { s with cx := { s.cx with gap := false }, host := { s.host with gapQueue := [], gapLost := 0 } }
    let s2 := ((s1.fillGap gapNs).setPar 0x7C00 5 (gapNs % 2 ^ 32)).peak 0x7C00 6 (gapNs % 2 ^ 32)
    let s3 := if s.host.gapLost = 0 then s2 else s2.report kWindowWritesLost 0 0 [(32, s.host.gapLost)]
    let s4 := State.applyQueue s.host.gapQueue s3
    exec (.failoverServiceOpen gapNs) s = .next (if s4.running = true ∧ s4.interfaceVersion ≠ s.cx.gapIver.toNat then s4.changeVersion else s4)) ∧
  (∀ (s : State) (gapNs : Nat), s.cx.gap = false → exec (.failoverServiceOpen gapNs) s = .next s)

/-- COMPLEX_HEARTBEAT clears the count, HEARTBEAT_MISSED raises it and declares the complex failed at the fifth;
COMPLEX_PANIC and WATCHDOG_EXPIRE declare it at once (R461). While the chip runs and the SID oscillator does, the failure of the active complex with a standby gives
control to the standby, with the image that was staged there where it is ready, and opens a gap; without a standby both failures are recorded and the chip is reset; the failure of the standby leaves control, and ends a LOAD or activation of its image (R463, R464, R469, R514); of a complex that has
failed already, or at another time, nothing changes. CRASH_RECORD_DONE of a failed complex whose isolation is over keeps a crash
record, and the complex boots again, or is HELD with a record after too many failures; COMPLEX_BOOT_DONE of a booting one with a good image
resynchronises, and with another fails it, which also ends a LOAD; COMPLEX_SYNCED makes it STANDBY, a LOAD READY, and ends an activation; COMPLEX_RESTART boots a HELD one, of another complex answers STATE, and of a number that is none RANGE (R463, R469). In other states the first three change nothing. -/
def Obligations.ComplexesFailAndReturn : Prop :=
  (∀ (s : State) (x : Cx), exec (.complexHeartbeat x) s = .next (s.modCx x (fun c => { c with missed := 0 }))) ∧
  (∀ (s : State) (x : Cx),
    let s1 := s.modCx x (fun c => { c with missed := c.missed + 1 })
    exec (.heartbeatMissed x) s = .next (if (s.cxAt x).missed + 1 < 5 then s1 else s1.declareFailed x 1)) ∧
  (∀ (s : State) (x : Cx), exec (.watchdogExpire x) s = .next (s.declareFailed x 2) ∧ exec (.complexPanic x false) s = .next (s.declareFailed x 3) ∧
    exec (.complexPanic x true) s = .next (s.declareFailed x 4)) ∧
  (∀ (s : State) (x : Cx) (cause : Nat),
    let runs := (s.rst.phase = .released ∨ s.rst.phase = .active) ∧ bit s.clk.status 3 = false ∧ (s.cxAt x).st ≠ .failed
    let t := s.declareFailed x cause
    let ready := s.stagedReady (otherCx x)
    let fw := s.cx.fwState.toNat % 256
    (runs → s.cx.active = x → (s.cxAt (otherCx x)).st = .standby →
      SameBytes s t ∧ t.cx.active = otherCx x ∧ t.cx.gap = true ∧ (t.cxAt x).st = .failed ∧ (t.cxAt x).owed = true ∧ (t.cxAt (otherCx x)).st = .active ∧
      t.cx.fwState = (if ready then 5 else s.cx.fwState) ∧ t.host.boot.image = (if ready then s.cx.staging else s.host.boot.image)) ∧
    (runs → s.cx.active = x → (s.cxAt (otherCx x)).st ≠ .standby →
      t = (s.reportDeferredAlways kBothComplexesFailed [(32, s.cx.a.st.code), (32, s.cx.b.st.code)]).chipReset s.prstKind 5) ∧
    (runs → s.cx.active ≠ x →
      SameBytes s t ∧ t.cx.active = s.cx.active ∧ t.cx.gap = s.cx.gap ∧ (t.cxAt x).st = .failed ∧ t.cxAt (otherCx x) = s.cxAt (otherCx x) ∧
      t.cx.fwState = if (s.cxAt x).staged = true ∧ 1 ≤ fw ∧ fw ≤ 4 then 6 else s.cx.fwState) ∧
    (¬ runs → t = s)) ∧
  (∀ (s : State) (x : Cx),
    let n := (s.recentFails x).length
    let s1 : State := { s with flt := { s.flt with crash := (cxCode x, s.now) :: s.flt.crash } }
    let left := (s.cxAt x).st = .failed ∧ s.rst.isolated.contains (.cx x) = false
    (left → n < s.par 0x7C00 8 →
      exec (.crashRecordDone x) s = .next (s1.modCx x (fun c => { c with st := .booting, fails := s.recentFails x }))) ∧
    (left → s.par 0x7C00 8 ≤ n →
      exec (.crashRecordDone x) s = .next ((s1.modCx x (fun c => { c with st := .held, fails := s.recentFails x })).report kComplexHeld 0 0
        [(32, cxCode x), (32, n)])) ∧
    (¬ left → exec (.crashRecordDone x) s = .next s)) ∧
  (∀ (s : State) (x : Cx),
    let loading := (s.cxAt x).staged = true ∧ s.cx.fwState.toNat % 256 = 1
    let img := if loading then s.cx.staging else s.host.boot.image
    let len := if loading then s.par 0x7C10 3 else s.host.boot.length.toNat
    let s1 := s.modCx x (fun c => { c.runs img with st := .resync })
    let s2 := s.modCx x (fun c => { c with st := .failed, staged := false })
    ((s.cxAt x).st = .booting → s.running = true →
      (s.imageCheck img len = none →
        exec (.complexBootDone x) s = .next (if loading then { s1 with cx := { s1.cx with fwState := 2 } } else s1)) ∧
      (∀ r, s.imageCheck img len = some r →
        exec (.complexBootDone x) s = .next (
          if loading then ({ s2 with cx := { s2.cx with fwState := BitVec.ofNat 16 (6 + r * 256) } } : State).report kUpdateFailed 0 0 [(8, r)]
          else s2.report kComplexHeld 0 0 [(32, cxCode x), (32, (s.recentFails x).length)]))) ∧
    ((s.cxAt x).st ≠ .booting ∨ s.running = false → exec (.complexBootDone x) s = .next s)) ∧
  (∀ (s : State) (x : Cx),
    let s1 := s.modCx x (fun c => { c with st := .standby })
    let fw := s.cx.fwState.toNat % 256
    ((s.cxAt x).st = .resync →
      (fw = 2 → (s.cxAt x).staged = true → exec (.complexSynced x) s = .next { s1 with cx := { s1.cx with fwState := 3 } }) ∧
      (fw = 5 → exec (.complexSynced x) s = .next { s1 with
        cx := { s1.cx with fwState := 0, a := { s1.cx.a with staged := false }, b := { s1.cx.b with staged := false } } }) ∧
      (fw ≠ 5 → fw ≠ 2 ∨ (s.cxAt x).staged = false → exec (.complexSynced x) s = .next s1)) ∧
    ((s.cxAt x).st ≠ .resync → exec (.complexSynced x) s = .next s)) ∧
  (∀ (s : State) (c : Client) (x : BitVec 8), s.serves c 0x7C00 10 = true →
    let s0 := s.modClient c id
    let k : Cx := if x.toNat = 0 then .A else .B
    (x.toNat ≤ 1 → (s0.cxAt k).st = .held →
      exec (.complexRestart c x) s = .next ((s0.modCx k (fun c => { c with st := .booting, staged := false })).answer c stOk 0)) ∧
    (x.toNat ≤ 1 → (s0.cxAt k).st ≠ .held → exec (.complexRestart c x) s = .next (s0.answer c stState 0)) ∧
    (1 < x.toNat → exec (.complexRestart c x) s = .next (s0.answer c stRange 0)))

/-- SWITCHOVER to the standby, REVERT_DELAY_EXPIRE of an owed complex in classes S and M, and a deferred switch-over whose
barrier has gone change the active complex and open a gap; an emergency defers them (R463, R465, R468, R470). FW_LOAD
boots the standby from the staged image, FW_ACTIVATE of a READY one switches over, or defers, FW_CANCEL boots the running image
again; FW_STAGE writes the staging window, and takes READY back to IDLE (R469, R472). Outside their states the requests answer STATE, of a complex that is none RANGE, of more than 1 MiB LENGTH, and the two
events change nothing; a deferred switch-over that has become impossible is dropped. -/
def Obligations.SwitchoversAndUpdates : Prop :=
  (∀ (s : State) (c : Client) (x : BitVec 8), s.serves c 0x7C00 10 = true →
    let s0 := s.modClient c id
    let k : Cx := if x.toNat = 0 then .A else .B
    (x.toNat ≤ 1 → (s0.cxAt k).st = .standby → s.pwr.emerg = false → s.pwr.emergHold = false →
      exec (.switchover c x) s = .next ((s0.switchOver k).answer c stOk 0)) ∧
    (x.toNat ≤ 1 → (s0.cxAt k).st = .standby → s.pwr.emerg = true ∨ s.pwr.emergHold = true → exec (.switchover c x) s =
      .next (({ s0 with cx := { s.cx with deferred := some k, fwState := if s0.stagedReady k then 4 else s.cx.fwState } } : State).answer c stOk 0)) ∧
    (x.toNat ≤ 1 → (s0.cxAt k).st ≠ .standby → exec (.switchover c x) s = .next (s0.answer c stState 0)) ∧
    (1 < x.toNat → exec (.switchover c x) s = .next (s0.answer c stRange 0))) ∧
  (∀ (s : State) (x : Cx), SameBytes s (s.switchOver x) ∧ (s.switchOver x).cx.active = x ∧ (s.switchOver x).cx.gap = true ∧
    ((s.switchOver x).cxAt x).st = .active ∧ ((s.switchOver x).cxAt (otherCx x)).st = (if s.stagedReady x then .booting else .standby)) ∧
  (∀ s : State,
    let x := otherCx s.cx.active
    let owed := s.ringClass ≤ 1 ∧ (s.cxAt x).st = .standby ∧ (s.cxAt x).owed = true ∧ s.cx.gap = false
    (owed → s.pwr.emerg = false → s.pwr.emergHold = false → exec .revertDelayExpire s = .next (s.switchOver x)) ∧
    (owed → s.pwr.emerg = true ∨ s.pwr.emergHold = true → exec .revertDelayExpire s =
      .next { s with cx := { s.cx with deferred := some x, fwState := if s.stagedReady x then 4 else s.cx.fwState } }) ∧
    (¬ owed → exec .revertDelayExpire s = .next s)) ∧
  (∀ (s : State),
    (s.cx.deferred = none ∨ s.pwr.emerg = true ∨ s.cx.gap = true → exec .switchoverDeferralExpire s = .next s) ∧
    (∀ x, s.cx.deferred = some x → s.pwr.emerg = false → s.cx.gap = false →
      ((s.cxAt x).st = .standby → s.cx.active ≠ x → exec .switchoverDeferralExpire s = .next (s.switchOver x)) ∧
      ((s.cxAt x).st ≠ .standby ∨ s.cx.active = x → exec .switchoverDeferralExpire s = .next { s with cx := { s.cx with deferred := none } }))) ∧
  (∀ (s : State) (c : Client), s.serves c 0x7C10 4 = true →
    let s0 := s.modClient c id
    let other := otherCx s.cx.active
    let ready := (s0.cxAt other).st = .standby
    let fw := s.cx.fwState.toNat % 256
    let boots (staged : Bool) (n : BitVec 16) : State :=
      ({ s0 with cx := { s.cx with fwState := n, deferred := none } } : State).modCx other (fun c => { c with st := .booting, staged := staged })
    (ready → fw = 0 ∨ fw = 3 ∨ fw = 6 → exec (.fwLoad c) s = .next ((boots true 1).answer c stOk 0)) ∧
    (¬ (ready ∧ (fw = 0 ∨ fw = 3 ∨ fw = 6)) → exec (.fwLoad c) s = .next (s0.answer c stState 0)) ∧
    (ready → fw = 3 → s.pwr.emerg = false → s.pwr.emergHold = false →
      exec (.fwActivate c) s = .next ((s0.switchOver other).answer c stOk 0)) ∧
    (ready → fw = 3 → s.pwr.emerg = true ∨ s.pwr.emergHold = true → exec (.fwActivate c) s =
      .next (({ s0 with cx := { s.cx with deferred := some other, fwState := if s0.stagedReady other then 4 else s.cx.fwState } } : State).answer c stOk 0)) ∧
    (¬ (ready ∧ fw = 3) → exec (.fwActivate c) s = .next (s0.answer c stState 0)) ∧
    (fw = 3 ∨ fw = 4 → exec (.fwCancel c) s = .next ((boots false 0).answer c stOk 0)) ∧
    (fw ≠ 3 → fw ≠ 4 → exec (.fwCancel c) s = .next (s0.answer c stState 0))) ∧
  (∀ (s : State) (c : Client) (data : List (BitVec 8)), s.serves c 0x7C10 2 = true →
    let s0 := s.modClient c id
    let fw := s.cx.fwState.toNat % 256
    let staged (n : BitVec 16) : State :=
      { s0 with cx := { s.cx with staging := Mem.write s.cx.staging (s.par 0x7C10 1 * 1048576) data, fwState := n } }
    (1048576 < data.length → exec (.fwStage c data) s = .next (s0.answer c stLength 0)) ∧
    (data.length ≤ 1048576 → fw = 0 ∨ fw = 6 → exec (.fwStage c data) s = .next ((staged s.cx.fwState).answer c stOk 0)) ∧
    (data.length ≤ 1048576 → fw = 3 → exec (.fwStage c data) s = .next ((staged 0).answer c stOk 0)) ∧
    (data.length ≤ 1048576 → fw ≠ 0 → fw ≠ 3 → fw ≠ 6 → exec (.fwStage c data) s = .next (s0.answer c stState 0)))

/-- With firmware running: GET_VERSION, GET_CAPABILITIES and NEGOTIATE_ALGORITHMS agree a path stage by stage, the last refusing an offer without P-521, SHA-512, ECDHE or AES-256-GCM, and a
request before its stage is refused. On an agreed path of a chip with an identity GET_DIGESTS, GET_CERTIFICATE,
CHALLENGE, GET_MEASUREMENTS and GET_CSR answer without changing anything, signed with the alias key, the request with the DeviceID key; without an identity, or for a slot or a block that is not there, they are refused, GET_MEASUREMENTS of a block apart, which is then unsigned; SET_CERTIFICATE fills slot 0 in
MANUFACTURE, slot 1 in PROVISIONED, and is refused elsewhere (R417, R421-R423). KEY_EXCHANGE adds a session to at most four of a path, FINISH opens it, HEARTBEAT,
KEY_UPDATE and END_SESSION act on an open one, the last withdrawing the glaze keys that it installed (R360, R363, R423); else they are refused. Without firmware nothing changes. The codes are DSP0274’s, and what a signature covers is the model’s choice (log entry 31). -/
def Obligations.SpdmResponder : Prop :=
  (∀ (s : State) (r : SpdmPath), s.running = true →
    let said (u : State) (n code : Nat) (ws : List Nat) : State := { u with
      host := { s.host with agreed := (r, n) :: s.host.agreed.filter (fun a => a.1 ≠ r) }, out := .spdm r code ws :: s.out }
    let no (i : Instr) (n : Nat) : Prop := exec i s = .next { s with out := .spdm r 0x7F [n] :: s.out }
    exec (.getVersion r) s = .next (said s 1 0x04 [0x1300]) ∧
    (1 ≤ s.agreedTo r → exec (.getCapabilities r) s = .next (said s 2 0x61 [])) ∧
    (s.agreedTo r < 1 → no (.getCapabilities r) 4) ∧
    (2 ≤ s.agreedTo r → exec (.negotiateAlgorithms r ⟨true, true, true, true⟩) s = .next (said s 3 0x63 [1, 1, 1, 1])) ∧
    (∀ q, 2 ≤ s.agreedTo r → q ≠ ⟨true, true, true, true⟩ → no (.negotiateAlgorithms r q) 1) ∧
    (∀ q, s.agreedTo r < 2 → no (.negotiateAlgorithms r q) 4) ∧
    (s.agreedTo r < 3 → no (.getDigests r) 4 ∧ (∀ slot, no (.getCertificate r slot) 4) ∧ (∀ nonce, no (.challenge r nonce) 4) ∧
      (∀ i, no (.getMeasurements r i) 4) ∧ no (.getCsr r) 4 ∧ (∀ slot chain, no (.setCertificate r slot chain) 4) ∧
      ∀ session, no (.keyExchange r session) 4 ∧ no (.finish r session) 4 ∧ no (.heartbeat r session) 4 ∧ no (.keyUpdate r session) 4 ∧
        no (.endSession r session) 4)) ∧
  (∀ (s : State) (r : SpdmPath), s.running = true → 3 ≤ s.agreedTo r →
    let tells (i : Instr) (code : Nat) (ws : List Nat) : Prop := exec i s = .next { s with out := .spdm r code ws :: s.out }
    let signed (xs : List Nat) : List Nat :=
      if s.hasIdentity then xs ++ [(ecSign s.aliasSeed (sha512 (xs.flatMap (fun x => leBytes 64 x)))).toNat] else xs
    let held := ([0, 1] : List Nat).filter (fun i => (s.chain i).isSome)
    let mine := s.host.sessions.filter (fun x => x.path = r)
    (s.hasIdentity = true →
      tells (.getDigests r) 0x01 (bitSet held :: held.map (fun i => (sha512 ((s.chain i).getD [])).toNat)) ∧
      (∀ (slot : Fin 2) c, s.chain slot.val = some c → tells (.getCertificate r slot) 0x02 (c.map (fun b => b.toNat))) ∧
      (∀ nonce, tells (.challenge r nonce) 0x03 [nonce.toNat, (publicKey s.aliasSeed).toNat,
        (ecSign s.aliasSeed (sha512 (leBytes 32 nonce.toNat))).toNat]) ∧
      tells (.getCsr r) 0x6D [(publicKey s.deviceSeed).toNat, (ecSign s.deviceSeed (sha512 (leBytes 132 (publicKey s.deviceSeed).toNat))).toNat] ∧
      (∀ session, mine.any (fun x => x.id = session) = false →
        (mine.length < 4 → exec (.keyExchange r session) s = .next { s with out := .spdm r 0x64 (signed [session]) :: s.out,
                                                                            host := { s.host with sessions := s.host.sessions ++ [⟨r, session, false, 0⟩] } }) ∧
        (4 ≤ mine.length → tells (.keyExchange r session) 0x7F [0x0A]))) ∧
    (s.hasIdentity = false → tells (.getDigests r) 0x7F [1] ∧ (∀ slot, tells (.getCertificate r slot) 0x7F [1]) ∧
      (∀ nonce, tells (.challenge r nonce) 0x7F [1]) ∧ tells (.getCsr r) 0x7F [1] ∧ ∀ session, tells (.keyExchange r session) 0x7F [1]) ∧
    (∀ slot : Fin 2, s.chain slot.val = none → tells (.getCertificate r slot) 0x7F [1]) ∧
    (∀ session, mine.any (fun x => x.id = session) = true → tells (.keyExchange r session) 0x7F [1]) ∧
    tells (.getMeasurements r 0) 0x60 (signed [5]) ∧
    (∀ i, 1 ≤ i → i ≤ 5 → tells (.getMeasurements r i) 0x60 (signed (s.measurement r i))) ∧
    tells (.getMeasurements r 0xFF) 0x60 (signed (s.measurement r 1 ++ s.measurement r 2 ++ s.measurement r 3 ++ s.measurement r 4 ++ s.measurement r 5)) ∧
    (∀ i, 5 < i → i ≠ 0xFF → tells (.getMeasurements r i) 0x7F [1]) ∧
    (∀ (slot : Fin 2) chain,
      (s.sec.lcState.toNat = slot.val + 1 → exec (.setCertificate r slot chain) s =
        .next { s with sec := { s.sec with certs := Tab.set s.sec.certs slot.val chain }, out := .spdm r 0x6E [slot.val] :: s.out }) ∧
      (s.sec.lcState.toNat ≠ slot.val + 1 → tells (.setCertificate r slot chain) 0x7F [1])) ∧
    (∀ session,
      let stands (o : Bool) : Bool := s.host.sessions.any (fun x => x.path = r && x.id = session && x.open_ = o)
      (stands false = true → exec (.finish r session) s = .next ((s.modSession r session (fun x => { x with open_ := true })).emit (.spdm r 0x65 []))) ∧
      (stands false = false → tells (.finish r session) 0x7F [2]) ∧
      (stands true = true →
        tells (.heartbeat r session) 0x68 [] ∧
        exec (.keyUpdate r session) s = .next ((s.modSession r session (fun x => { x with keys := x.keys + 1 })).emit (.spdm r 0x69 [])) ∧
        ∃ t, exec (.endSession r session) s = .next t ∧ SameBytes s t ∧
          (∀ x, x ∈ t.host.sessions ↔ x ∈ s.host.sessions ∧ ¬ (x.path = r ∧ x.id = session)) ∧
          ∀ w, w < 64 → ∀ key, (t.glazeAt w).key ≠ some (key, r, session)) ∧
      (stands true = false → tells (.heartbeat r session) 0x7F [2] ∧ tells (.keyUpdate r session) 0x7F [2] ∧ tells (.endSession r session) 0x7F [2]))) ∧
  (∀ (s : State) (r : SpdmPath), s.running = false →
    let still (i : Instr) : Prop := exec i s = .next s
    still (.getVersion r) ∧ still (.getCapabilities r) ∧ (∀ q, still (.negotiateAlgorithms r q)) ∧ still (.getDigests r) ∧ (∀ slot, still (.getCertificate r slot)) ∧
    (∀ nonce, still (.challenge r nonce)) ∧ (∀ i, still (.getMeasurements r i)) ∧ still (.getCsr r) ∧ (∀ slot chain, still (.setCertificate r slot chain)) ∧
    ∀ session, still (.keyExchange r session) ∧ still (.finish r session) ∧ still (.heartbeat r session) ∧ still (.keyUpdate r session) ∧ still (.endSession r session))

/-- LC_TRANSITION, served, with the chip’s DEVICE_UID, no transition waiting and an edge of the table whose token verifies
where it must, burns the target state, which a cold reset puts in force; any other is refused
with ACCESS_DENIED and changes no fuse (R418, R419). The edges are those of the table: all six states, SCRAP from every other. SVN_COMMIT raises MIN_SVN up to RUNNING_SVN, and refuses else (R426).
RING_KEY_INSTALL in an open session of an admin path sets the ring key and takes no other; in another session or path it is refused (R431, R438). ENTROPY_RETRY that
passes draws the key that each wash waits for, one that fails is counted and reported (R429). -/
def Obligations.LifeCycleAndKeys : Prop :=
  (∀ (s : State) (c : Client) (token : BitVec 1184), s.serves c 0x6000 2 = true →
    let mine := bits token 63 0 = s.sec.uid.toNat ∧ s.sec.lcNext = none
    let refused : Prop := ∃ t, exec (.lcTransition c token) s = .next (t.answer c stDenied 0) ∧ SameBytes s t ∧ t.sec = s.sec
    (∀ signed, mine → s.lcAllowed (bits token 71 64) = some signed → signed = false ∨ s.tokenSigned token = true →
      exec (.lcTransition c token) s = .next (({ (s.modClient c id) with sec := { s.sec with
        lcNext := some (BitVec.ofNat 8 (bits token 71 64)) } } : State).answer c stOk 0)) ∧
    (mine → s.lcAllowed (bits token 71 64) = some true → s.tokenSigned token = false → refused) ∧
    (¬ mine ∨ s.lcAllowed (bits token 71 64) = none → refused)) ∧
  (∀ (s : State) (k : Nat),
    let edge (signed : Option Bool) : Prop := s.lcAllowed k = signed
    (s.sec.lcState = 0 → edge (if k = 1 then some true else if k = 5 then some false else none)) ∧
    (s.sec.lcState = 1 → edge (if k = 2 ∧ (Tab.find? s.sec.certs 0).isSome then some true else if k = 5 then some false else none)) ∧
    (s.sec.lcState = 2 → edge (if k = 3 ∨ k = 5 then some false else if k = 4 then some true else none)) ∧
    (s.sec.lcState = 3 → edge (if k = 4 then some true else if k = 5 then some false else none)) ∧
    (s.sec.lcState = 4 → edge (if k = 5 then some false else none)) ∧
    (s.sec.lcState = 5 → edge none)) ∧
  (∀ (s : State) (c : Client) (n : BitVec 8), s.serves c 0x6000 4 = true →
    (n.toNat ≤ s.sec.runSvn.toNat → s.sec.minSvn.toNat < n.toNat → exec (.svnCommit c n) s =
      .next (({ (s.modClient c id) with sec := { s.sec with minSvn := n } } : State).answer c stOk 0)) ∧
    (s.sec.runSvn.toNat < n.toNat ∨ n.toNat ≤ s.sec.minSvn.toNat → exec (.svnCommit c n) s = .next ((s.modClient c id).answer c stRange 0))) ∧
  (∀ (s : State) (r : SpdmPath) (session : Nat) (key : BitVec 512),
    let admin := r = .mctp ∨ ∃ f : Fin 68, r = .doe f ∧ s.par 0x5040 (f.val + 1) = 0x8000
    (s.running = true → s.sessionOpen r session = true → admin → s.sec.ringKey = none ∨ s.sec.ringKey = some key →
      exec (.ringKeyInstall r session key) s = .next { s with sec := { s.sec with ringKey := some key }, out := .spdm r 0x7E [] :: s.out }) ∧
    (∀ k, s.running = true → s.sessionOpen r session = true → s.sec.ringKey = some k → k ≠ key →
      exec (.ringKeyInstall r session key) s = .next (s.spdmError r 1)) ∧
    (s.running = true → s.sessionOpen r session = true → ¬ admin → exec (.ringKeyInstall r session key) s = .next (s.spdmError r 1)) ∧
    (s.running = true → s.sessionOpen r session = false → exec (.ringKeyInstall r session key) s = .next (s.spdmError r 2)) ∧
    (s.running = false → exec (.ringKeyInstall r session key) s = .next s)) ∧
  (∀ s : State, s.tenants.any (fun p => p.2.keyWait) = false → exec (.entropyRetry true) s = .next { s with sec := { s.sec with entropy := 0 } }) ∧
  (∀ (s : State) (t : Nat) (x : Tenant), s.tenants = [(t, x)] → x.keyWait = true → exec (.entropyRetry true) s =
    .next { s with sec := { s.sec with entropy := 0 }, tenants := [(t, { x with keyGen := x.keyGen + 1, keyWait := false })] }) ∧
  (∀ s : State, ∃ t, exec (.entropyRetry false) s = .next t ∧ SameBytes s t ∧ t.sec.entropy = s.sec.entropy + 1 ∧
    t.par 0x6000 7 = (s.par 0x6000 7 + 1) % 2 ^ 32)

/-- PATTERN_DUE, while patterns are due and firmware runs, moves the position on and asks a trained slice that is not fatal for its pattern where its test gates are long enough, outside a gap; else it records the slice as skipped;
PATTERN_SLICE_DONE of an armed slice counts it, a first failure runs it again with the next seed, a second in a row makes the memory slice fatal (R525, R528, R529); else they change nothing. TEST_VAT, TEST_CONTROLLER
and TEST_CROSSBAR, served, act in MANUFACTURE and RMA, of a unit that is not there or not usable answer RANGE, and are denied in other states (R529, R537). DUMP_REQUEST of a good buffer
waits for the next start, and of another answers RANGE (R535); LIGHT_COUNTERS_READ answers the set (R532). The TAP instructions load the instruction
register: IDCODE shifts out the identity, SAMPLE_PRELOAD takes the pins, EXTEST, CLAMP and HIGHZ act while PRST_N is low, a reset that holds memory then losing it, and
as BYPASS else, private codes only in BLANK, MANUFACTURE and RMA (R530, R531). -/
def Obligations.TestsAndTheTestPort : Prop :=
  (∀ s : State,
    let k := s.par 0x7000 3 / 2
    let kind : Pattern := if s.par 0x7000 3 % 2 = 0 then .controller else .crossbar
    let s1 := s.setPar 0x7000 3 ((s.par 0x7000 3 + 1) % 88)
    let due := s.par 0x7000 1 ≠ 0 ∧ s.running = true
    let able := (s.sliceAt k).trained = true ∧ (s.sliceAt k).fatal = false
    let skipped (reason : Nat) : State := (s1.bump 32 0x7000 7).report kTestSliceSkipped 0 0 [(32, kind.code), (32, k), (32, reason), (32, 0)]
    (due → able → s.cx.gap = false → 16 ≤ s.testSlots k → exec .patternDue s = .next (s1.modSlice k (fun x => { x with armNext := some kind }))) ∧
    (due → able → s.cx.gap = false → s.testSlots k < 16 → exec .patternDue s = .next (skipped 3)) ∧
    (due → able → s.cx.gap = true → exec .patternDue s = .next (skipped 4)) ∧
    (due → ¬ able → exec .patternDue s = .next s1) ∧
    (¬ due → exec .patternDue s = .next s)) ∧
  (∀ (s : State) (k : Fin 44) (p : Pattern) (misr : BitVec 128), (s.sliceAt k.val).armed = some p →
    let f := (s.sliceAt k.val).testFails + 1
    let s1 := (s.modSlice k.val (fun x => { x with armed := none })).bump 64 0x7000 5
    let s2 := ((s1.bump 32 0x7000 6).setPar 0x7000 4 ((s.par 0x7000 4 + 1) % 16)).report { kSliceTestFailed with error := f ≥ 2 } k.val 0
      [(32, p.code), (32, k.val), (32, s.par 0x7000 4), (128, misr.toNat)]
    exec (.patternSliceDone k true misr) s = .next (s1.modSlice k.val (fun x => { x with testFails := 0 })) ∧
    (f < 2 → exec (.patternSliceDone k false misr) s = .next (s2.modSlice k.val (fun x => { x with testFails := f, armNext := some p }))) ∧
    (2 ≤ f → exec (.patternSliceDone k false misr) s =
      .next ((s2.modSlice k.val (fun x => { x with testFails := 0 })).makeFatal k.val 0 (s2.sliceAt k.val).incidents.length))) ∧
  (∀ (s : State) (k : Fin 44) (pass : Bool) (misr : BitVec 128), (s.sliceAt k.val).armed = none → exec (.patternSliceDone k pass misr) s = .next s) ∧
  (∀ (s : State) (c : Client) (u : BitVec 8), s.serves c 0x7000 8 = true →
    let s0 := s.modClient c id
    let factory := s.sec.lcState = 1 ∨ s.sec.lcState = 4
    let vatHere := u.toNat < 34 ∧ (s.vatAt u.toNat).unusable = false
    let sliceHere := u.toNat < 44 ∧ (s.sliceAt u.toNat).trained = true
    let tells (i : Instr) (st : Nat) (t : State) : Prop := exec i s = .next (t.answer c st 0)
    (factory → vatHere → tells (.testVat c u) stOk (s0.askVat u.toNat)) ∧
    (factory → ¬ vatHere → tells (.testVat c u) stRange s0) ∧
    (factory → sliceHere → tells (.testController c u) stOk (s0.askPattern u.toNat .controller) ∧
      tells (.testCrossbar c u) stOk (s0.askPattern u.toNat .crossbar)) ∧
    (factory → ¬ sliceHere → tells (.testController c u) stRange s0 ∧ tells (.testCrossbar c u) stRange s0) ∧
    (¬ factory → tells (.testVat c u) stDenied s0 ∧ tells (.testController c u) stDenied s0 ∧ tells (.testCrossbar c u) stDenied s0)) ∧
  (∀ (s : State) (c : Client) (n : Fin 8) (v : BitVec 256), s.serves c 0x7420 (n.val + 1) = true →
    let s0 := s.modClient c id
    let k := s0.selected c
    let old := (Tab.find? (s0.ctxAt k).dumpsNext n.val).getD (Tab.get (s0.ctxAt k).dumps n.val 0)
    let new := BitVec.ofNat 256 (bits v 77 0 + bits v 127 96 * 2 ^ 96 + bits old 223 160 * 2 ^ 160)
    (s0.dumpGood k v = true → exec (.dumpRequest c n v) s =
      .next ((s0.modCtx k (fun x => { x with dumpsNext := Tab.set x.dumpsNext n.val new })).answer c stOk 0)) ∧
    (s0.dumpGood k v = false → exec (.dumpRequest c n v) s = .next (s0.answer c stRange 0))) ∧
  (∀ (s : State) (c : Client), s.reads c 0x7400 1 = true →
    exec (.lightCountersRead c) s = .next ((s.modClient c id).answer c stOk (leNat ((s.modClient c id).lightValues.flatMap (leBytes 8))))) ∧
  (∀ s : State,
    let ir (n : BitVec 8) : State := { s with tst := { s.tst with tapIr := n } }
    let lost := s.assertReset .warmLost s.rst.cause.toNat s.rst.sources.toNat
    let held := s.rst.kind = .warmHeld ∧ (s.rst.phase = .reset ∨ s.rst.entry = true)
    exec .idcode s = .next { (ir 0x01) with out := .tdo 0x1184096B :: s.out } ∧
    exec .bypass s = .next (ir 0xFF) ∧
    (∀ pins, exec (.samplePreload pins) s = .next { s with tst := { s.tst with tapIr := 2, boundary := pins } }) ∧
    (s.rst.prstLow = false → exec .extest s = .next (ir 0xFF) ∧ exec .clamp s = .next (ir 0xFF) ∧ exec .highz s = .next (ir 0xFF)) ∧
    (s.rst.prstLow = true → ¬ held → exec .extest s = .next (ir 3) ∧ exec .clamp s = .next (ir 4) ∧ exec .highz s = .next (ir 5)) ∧
    (s.rst.prstLow = true → held → exec .extest s = .next (lost.tap 3) ∧ exec .clamp s = .next (lost.tap 4) ∧ exec .highz s = .next (lost.tap 5)) ∧
    (∀ code : BitVec 4, (s.sec.lcState = 0 ∨ s.sec.lcState = 1 ∨ s.sec.lcState = 4 →
        exec (.privateInstruction code) s = .next (ir (BitVec.ofNat 8 (0x10 + code.toNat)))) ∧
      (s.sec.lcState ≠ 0 → s.sec.lcState ≠ 1 → s.sec.lcState ≠ 4 → exec (.privateInstruction code) s = .next (ir 0xFF))))

/-- AGGREGATION_WINDOW_CLOSE closes its window, writing a digest where it counted a report, AGGREGATION_OVERFLOW_END
writes one record for the period (R542); DIGEST_BATCH_SEND sends a batch that counted to its origin, or counts it here where the origin is not present (R543).
FAULT_LOG_MOVE, with firmware running outside a gap, empties the hardware queue into the log, in order, which keeps the last 65,536, and a loss is then recorded (R544). FAULT_LOG_READ
with a position sets it, without one reads from it (R546). FAULT_ACK acknowledges up to its LOG_SEQ (R547);
MSIX_COALESCE_EXPIRE raises the vector once for what came since, and ends where nothing did (R547). Where there is no such window, period, batch or vector, nothing changes. -/
def Obligations.FaultRecordsAreLogged : Prop :=
  (∀ (s : State) (i : Nat),
    (∀ w, s.flt.windows[i]? = some w →
      let s1 : State := { s with flt := { s.flt with windows := s.flt.windows.eraseIdx i } }
      exec (.aggregationWindowClose i) s = .next (if w.count = 0 then s1
        else s1.enqueue { w.first with digest := true, count := BitVec.ofNat 16 (Nat.min w.count 0xFFFF), time := w.last })) ∧
    (s.flt.windows[i]? = none → exec (.aggregationWindowClose i) s = .next s)) ∧
  (∀ (s : State),
    (∀ n, s.flt.overflow = some n → exec .aggregationOverflowEnd s =
      .next (({ s with flt := { s.flt with overflow := none } } : State).enqueue (s.mkRec kAggregationOverflow 0 0 [(32, n)]))) ∧
    (s.flt.overflow = none → exec .aggregationOverflowEnd s = .next s)) ∧
  (∀ (s : State) (i : Nat),
    (∀ b, s.flt.batches[i]? = some b →
      let s1 : State := { s with flt := { s.flt with batches := s.flt.batches.eraseIdx i } }
      let r : FaultRec := { b.first with count := BitVec.ofNat 16 (Nat.min b.count 0xFFFF), time := b.last }
      (b.count = 0 → exec (.digestBatchSend i) s = .next s1) ∧
      (b.count ≠ 0 → s.routePresent s.epoch b.first.origin.toNat = true →
        exec (.digestBatchSend i) s = .next (s1.sendMgmt 9 b.first.origin.toNat 0 (leBytes 64 r.pack.toNat))) ∧
      (b.count ≠ 0 → s.routePresent s.epoch b.first.origin.toNat = false → exec (.digestBatchSend i) s = .next (s1.countReport r))) ∧
    (s.flt.batches[i]? = none → exec (.digestBatchSend i) s = .next s)) ∧
  (∀ s : State,
    (s.running = true → s.cx.gap = false → s.flt.log.length ≤ 65536 →
      ∃ t, exec .faultLogMove s = .next t ∧ SameBytes s t ∧
        (s.flt.lost = none → t.flt.queue = []) ∧
        (∀ n a b, s.flt.lost = some (n, a, b) → t.flt.lost = none ∧
          t.flt.queue = [{ s.mkRec kFaultLogLost 0 0 [(32, n), (32, a.toNat), (32, b.toNat)] with lostBefore := true, logSeq := s.flt.logSeq + 1 }]) ∧
        t.flt.log = (s.flt.log ++ s.flt.queue).drop ((s.flt.log ++ s.flt.queue).length - 65536)) ∧
    (s.running = false ∨ s.cx.gap = true → exec .faultLogMove s = .next s)) ∧
  (∀ (s : State) (c : Client) (n : BitVec 32),
    (s.serves c 0x7800 2 = true → exec (.faultLogRead c (some n)) s =
      .next (((s.modClient c id).modClient c (fun x => { x with logPos := n })).answer c stOk 0)) ∧
    (s.reads c 0x7800 2 = true → exec (.faultLogRead c none) s =
      .next (((s.modClient c id).domainBytes c 0x7800 2).2.answer c stOk (leNat ((s.modClient c id).domainBytes c 0x7800 2).1))) ∧
    (s.serves c 0x7800 3 = true →
      ∃ t, exec (.faultAck c n) s = .next (t.answer c stOk 0) ∧ SameBytes s t ∧
        t.flt.acked = (if s.flt.acked.toNat < n.toNat then n else s.flt.acked) ∧
        ∀ k, k ∈ t.flt.chipErr ↔ k ∈ s.flt.chipErr ∧ n.toNat < k.toNat)) ∧
  (∀ (s : State) (f : Fin 68),
    (∀ more, s.flt.coalesce.find? (fun e => e.1 = f.val) = some (f.val, more) →
      (more = true → exec (.msixCoalesceExpire f) s = .next (({ s with flt := { s.flt with
        coalesce := s.flt.coalesce.map (fun (e : Nat × Bool) => if e.1 = f.val then (e.1, false) else e) } } : State).msix f.val 1)) ∧
      (more = false → exec (.msixCoalesceExpire f) s = .next { s with flt := { s.flt with
        coalesce := s.flt.coalesce.filter (fun (e : Nat × Bool) => e.1 ≠ f.val) } })) ∧
    (s.flt.coalesce.find? (fun e => e.1 = f.val) = none → exec (.msixCoalesceExpire f) s = .next s))

/-- A CLOCK_MONITOR_WINDOW within the limit clears the clock’s mark; the first beyond it marks the clock and the second in
a row fails it, and the SID oscillator has none; CLOCK_NO_EDGE fails a clock at once, PLL_LOSS_OF_LOCK a PLL (R514). A failure sets the clock’s
bit, counts and writes CLOCK_FAILED, with a field that the spec leaves open, once firmware runs again where the chip is reset; the PCIe reference and the core PLLs then reset the chip, memory lost, the pool clocks take the links down, a port’s PLL its link, a complex’s PLL fails the complex, the vat PLL resets the work on the vats, the crystal and the SID oscillator do nothing else (R514, R519); of a
clock that has failed already it changes nothing. CLOCK_RESTORED of a failed clock clears its bit, once no other core PLL is bad, with a
record, and pool links that are down train again once both pool clocks are back; of another clock it changes nothing. TIME_BASE_SYNC sets a slow core copy to the SID’s count and makes a fast one hold (R516). -/
def Obligations.ClocksAndTheTimeBase : Prop :=
  (∀ (s : State) (k : Clock) (ppm : Int),
    let lim : Int := if k = .crystal then 30000 else 2000
    (k ≠ .sidOsc → -lim ≤ ppm → ppm ≤ lim → exec (.clockMonitorWindow k ppm) s = .next { s with clk := { s.clk with
      suspect := s.clk.suspect.filter (fun m => m ≠ clockNo k) } }) ∧
    (k ≠ .sidOsc → ppm < -lim ∨ lim < ppm → s.clk.suspect.contains (clockNo k) = false → exec (.clockMonitorWindow k ppm) s =
      .next { s with clk := { s.clk with suspect := clockNo k :: s.clk.suspect } }) ∧
    (k ≠ .sidOsc → ppm < -lim ∨ lim < ppm → s.clk.suspect.contains (clockNo k) = true → exec (.clockMonitorWindow k ppm) s = .next (s.failClock k 1)) ∧
    (k = .sidOsc → exec (.clockMonitorWindow k ppm) s = .next s)) ∧
  (∀ (s : State) (k : Clock), exec (.clockNoEdge k) s = .next (s.failClock k 2) ∧
    (isPll k = true → exec (.pllLossOfLock k) s = .next (s.failClock k 3)) ∧ (isPll k = false → exec (.pllLossOfLock k) s = .next s)) ∧
  (∀ (s : State) (k : Clock) (cause : Nat),
    let s1 := ({ s with clk := { s.clk with
      status := s.clk.status ||| BitVec.ofNat 32 (2 ^ clockBit k), coreBad := if isCore k then clockNo k :: s.clk.coreBad else s.clk.coreBad } } : State).bump 32 0x7C40 5
    let f := s1.takeFree 32
    let fields : List (Nat × Nat) := [(32, clockBit k), (32, cause), (32, f.1.toNat)]
    let now := f.2.report kClockFailed 0 0 fields
    let later := f.2.reportDeferredAlways kClockFailed fields
    (s.clockFailed k = true → s.failClock k cause = s) ∧
    (s.clockFailed k = false →
      (k = .refPcie ∨ isCore k = true → s.failClock k cause = later.chipReset .warmLost 8) ∧
      (k = .refPool ∨ k = .poolPll → s.failClock k cause = (List.range 4).foldl (fun u p => u.linkTo p .down) now) ∧
      (∀ p, k = .portPll p → s.failClock k cause = now.linkDown p.val) ∧
      (∀ x, k = .cxPll x → s.failClock k cause = now.declareFailed x 4) ∧
      (k = .vatPll → s.failClock k cause = now.vatClockLost) ∧
      (k = .crystal ∨ k = .sidOsc → s.failClock k cause = now))) ∧
  (∀ (s : State) (k : Clock) (us : Nat),
    let core := s.clk.coreBad.filter (fun n => n ≠ clockNo k)
    let s1 : State := { s with clk := { s.clk with
      coreBad := core, suspect := s.clk.suspect.filter (fun n => n ≠ clockNo k),
      status := if isCore k = true ∧ core ≠ [] then s.clk.status else BitVec.ofNat 32 (setBits s.clk.status.toNat (clockBit k) (clockBit k) 0) } }
    let s2 := s1.report kClockRestored 0 0 [(32, clockBit k), (32, us)]
    (s.clockFailed k = false → exec (.clockRestored k us) s = .next s) ∧
    (s.clockFailed k = true → clockBit k ≠ 1 → clockBit k ≠ 6 → exec (.clockRestored k us) s = .next s2) ∧
    (s.clockFailed k = true → clockBit k = 1 ∨ clockBit k = 6 →
      (bit s1.clk.status 1 = true ∨ bit s1.clk.status 6 = true → exec (.clockRestored k us) s = .next s2) ∧
      (bit s1.clk.status 1 = false → bit s1.clk.status 6 = false → exec (.clockRestored k us) s = .next ((List.range 4).foldl (fun u p =>
        if u.linkEnabled p && (u.linkAt p).st = .down && !(u.linkAt p).held && !u.pool.broken then u.linkTo p .training else u) s2)))) ∧
  (∀ (s : State) (sid : BitVec 64),
    (s.now ≤ sid.toNat → exec (.timeBaseSync sid) s = .next { s with clk := { s.clk with now := sid.toNat, holdTo := none } }) ∧
    (sid.toNat < s.now → exec (.timeBaseSync sid) s = .next { s with clk := { s.clk with holdTo := some (s.now - sid.toNat) } }))

/-- HBM_TEMP_SAMPLE, DIMM_TEMP_SAMPLE and CORE_TEMP_SAMPLE of sensors that answer keep their readings and test the emergency conditions, and those of the stacks and the core the trip as well; above 85 °C a slice changes to its hot set, at 83 °C or below it changes back (R64,
R481, R489). A sensor that does not answer three times in a row is absent, with one SENSOR_ABSENT record, and then counts as at its emergency threshold; an absent DIMM
sensor makes its slice hot (R481). BUS_SAMPLE keeps the sample and counts samples in a row beyond POWER_EMERGENCY or below 38 V
(R486); REGULATOR_TELEMETRY_SAMPLE keeps VDD_CORE, by which running test slices go on or end; TACH_SAMPLE keeps a speed; in a fail-ended gap both sensors count as absent (R467). REGULATOR_WARNING begins and ends a
warning. The first condition that holds begins an emergency: clamp, THROTTLE_N, fans at full (R487). EMERGENCY_CLEAR
with no condition ends it with one record, and changes nothing else; EMERGENCY_HOLD_EXPIRE ends the hold (R487). -/
def Obligations.SensorsAndEmergencies : Prop :=
  (∀ (s : State) (st : Fin 8),
    let heated (u : State) (r : Int) : State := (List.range 4).foldl (fun u i => u.heat (4 * st.val + i) r) u
    (∀ r : Int,
        let s1 := s.sensorRead (64 + st.val) true;
      exec (.hbmTempSample st (some r)) s =
        .next (heated { s1 with pwr := { s1.pwr with hbm := Tab.set s1.pwr.hbm st.val r } } r).testTrip.testEmergency) ∧
    (let s1 := s.sensorRead (64 + st.val) false;
      exec (.hbmTempSample st none) s = .next (heated s1 (s1.hbmReading st.val)).testTrip.testEmergency)) ∧
  (∀ (s : State) (ch : Fin 12),
    (∀ r : Int,
        let s1 := s.sensorRead (72 + ch.val) true;
      exec (.dimmTempSample ch (some r)) s =
        .next (({ s1 with pwr := { s1.pwr with dimm := Tab.set s1.pwr.dimm ch.val r } } : State).heat (32 + ch.val) r).testEmergency) ∧
    (let s1 := s.sensorRead (72 + ch.val) false;
      (s1.sensorAbsent (72 + ch.val) = true →
        exec (.dimmTempSample ch none) s = .next (s1.modSlice (32 + ch.val) (fun x => { x with hotNext := true })).testEmergency) ∧
      (s1.sensorAbsent (72 + ch.val) = false →
        exec (.dimmTempSample ch none) s = .next (s1.heat (32 + ch.val) (Tab.get s.pwr.dimm ch.val 0)).testEmergency))) ∧
  (∀ (s : State) (k : Nat) (r : Int),
    (850 < r → s.heat k r = s.modSlice k (fun x => { x with hotNext := true })) ∧
    (r ≤ 830 → s.heat k r = s.modSlice k (fun x => { x with hotNext := false })) ∧ (830 < r → r ≤ 850 → s.heat k r = s)) ∧
  (∀ (s : State) (n : Nat),
    (Tab.get s.pwr.missed n 0 = 2 → s.sensorRead n false = ({ s with pwr := { s.pwr with
      missed := Tab.set s.pwr.missed n 3, absent := addNew s.pwr.absent n } } : State).report kSensorAbsent 0 0 [(32, n)]) ∧
    (Tab.get s.pwr.missed n 0 ≠ 2 → s.sensorRead n false = { s with pwr := { s.pwr with missed := Tab.set s.pwr.missed n (Tab.get s.pwr.missed n 0 + 1) } }) ∧
    s.sensorRead n true = { s with pwr := { s.pwr with missed := Tab.erase s.pwr.missed n, absent := s.pwr.absent.filter (fun k => k ≠ n) } }) ∧
  (∀ (s : State) (i : Nat), s.coreReading i = (if s.sensorAbsent i then (s.par 0x2100 4 : Int) else Tab.get s.pwr.core i 0) ∧
    s.hbmReading i = (if s.sensorAbsent (64 + i) then (s.par 0x2100 5 : Int) else Tab.get s.pwr.hbm i 0) ∧
    s.dimmReading i = if s.sensorAbsent (72 + i) then (s.par 0x2100 6 : Int) else Tab.get s.pwr.dimm i 0) ∧
  (∀ (s : State) (rs : List (Option Int)), ∃ u : State, exec (.coreTempSample rs) s = .next u.testThrottle.testTrip.testEmergency ∧ SameBytes s u ∧
    (∀ i r, i < 64 → rs[i]? = some (some r) → Tab.get u.pwr.core i 0 = r ∧ u.sensorAbsent i = false) ∧
    (∀ i, i < 64 → rs[i]? = some none → Tab.get u.pwr.core i 0 = Tab.get s.pwr.core i 0 ∧ Tab.get u.pwr.missed i 0 = Tab.get s.pwr.missed i 0 + 1)) ∧
  (∀ s : State, s.testTrip = if s.pwr.core.any (fun p => p.2 ≥ 1250) || s.pwr.hbm.any (fun p => p.2 ≥ 1050) then
    { s with pwr := { s.pwr with thermtrip := true } } else s) ∧
  (∀ (s : State),
    (∀ (v : Nat) (i : Int),
        let s1 := s.sensorRead 89 true;
      exec (.busSample (some (v, i))) s = .next ({ s1 with pwr := { s1.pwr with
        samples := ((v, i) :: s1.pwr.samples).take 64,
        powerHi := if (v : Int) * i / 1000 > (s.par 0x2010 2 : Int) then s.pwr.powerHi + 1 else 0,
        busLow := if v < 38000 then s.pwr.busLow + 1 else 0 } } : State).testEmergency) ∧
    exec (.busSample none) s = .next (s.sensorRead 89 false).testEmergency) ∧
  (∀ (s : State) (rail : Fin 5),
    let missed : State := { s with pwr := { s.pwr with absent := addNew s.pwr.absent (84 + rail.val) } }
    (s.cx.gap = false → (∀ mv,
        let s1 := s.sensorRead (84 + rail.val) true;
        exec (.regulatorTelemetrySample rail (some mv)) s =
          .next (if rail.val = 0 then ({ s1 with pwr := { s1.pwr with vddRead := mv } } : State).retestSlices else s1)) ∧
      exec (.regulatorTelemetrySample rail none) s = .next (s.sensorRead (84 + rail.val) false)) ∧
    (s.cx.gap = true → ∀ r, exec (.regulatorTelemetrySample rail r) s = .next missed)) ∧
  (∀ (s : State) (rail : Fin 5),
    exec (.regulatorWarning rail true) s = .next ({ s with pwr := { s.pwr with warnings := addNew s.pwr.warnings rail.val } } : State).testEmergency ∧
    exec (.regulatorWarning rail false) s =
      .next ({ s with pwr := { s.pwr with warnings := s.pwr.warnings.filter (fun r => r ≠ rail.val) } } : State).testEmergency) ∧
  (∀ (s : State) (i : Fin 4),
    (s.cx.gap = false → (∀ rpm, exec (.tachSample i (some rpm)) s = .next ((s.sensorRead (90 + i.val) true).setPar 0x2200 3
        (setBits (s.par 0x2200 3) (16 * i.val + 15) (16 * i.val) (Nat.min rpm 0xFFFF)))) ∧
      exec (.tachSample i none) s = .next (s.sensorRead (90 + i.val) false)) ∧
    (s.cx.gap = true → ∀ r, exec (.tachSample i r) s = .next { s with pwr := { s.pwr with absent := addNew s.pwr.absent (90 + i.val) } })) ∧
  (∀ (s : State),
    (s.emergencies false = [] ∨ s.pwr.emerg = true → s.testEmergency = s) ∧
    (∀ c cs, s.emergencies false = c :: cs → s.pwr.emerg = false →
      let t := s.testEmergency
      t.pwr.emerg = true ∧ t.pwr.emergAt = s.now ∧ t.pwr.clamp = true ∧ t.pwr.thrDrive = true ∧ ∀ f, f < 4 → Tab.get t.pwr.pwm f 255 = 255)) ∧
  (∀ s : State,
    let ended := s.pwr.emerg = true ∧ s.emergencies false = [] ∧ s.emergencies true = []
    (ended → exec .emergencyClear s = .next ((({ s with pwr := { s.pwr with emerg := false, emergHold := true, clamp := false, thrDrive := false } } : State).report
      kEmergencyCleared 0 0 [(32, (s.now - s.pwr.emergAt) / 1000), (32, s.pwr.emergLow.toNat)]).retarget)) ∧
    (¬ ended → exec .emergencyClear s = .next s)) ∧
  (∀ s : State, exec .emergencyHoldExpire s = .next { s with pwr := { s.pwr with emergHold := false } })

/-- The effective step is the largest that a source requests (R484). A lower clock waits for the frame boundary; a higher
one first asks the regulator for its voltage, outside a gap and after no slow one, and REGULATOR_SETTLED lets it take effect, REGULATOR_SLOW gives it up
with a record, unless its voltage has settled; a raise to another step than is now asked for is given up (R480). A voltage is written with the setpoint of VDD_SRAM where that differs (R478, log entry 187). AVS_MEASUREMENT keeps each target clamped to its range, and writes the one in force where it changed and no raise waits (R479). POWER_LOOP_RUN goes down to the
highest step whose predicted power is within POWER_CAP, the lowest where none is, or up one step at 97 % of it (R482). THERMAL_LOOP_RUN sets the
fan duties of the hottest reading, at full while the clamp holds, and withdraws its request once all core sensors have been cool for 10 ms;
THERMAL_STEP_LOWER asks for one further step while one is not (R483); the loops run only with firmware and outside a gap (R467). THROTTLE_N_ASSERT and THROTTLE_N_RELEASE follow
the pin while the chip does not drive it (R488). -/
def Obligations.ThrottleSteps : Prop :=
  (∀ s : State,
    let e := s.effectiveStep
    let now := s.pwr.step.toNat
    let s1 := if s.pwr.raise.any (fun r => r.toNat ≠ e) then
      ({ s with pwr := { s.pwr with raise := none, settled := false, pend := s.pwr.step } } : State).writeVdd now else s
    (now ≤ e → s.retarget = { s1 with pwr := { s1.pwr with pend := BitVec.ofNat 3 e } }) ∧
    (e < now → s1.pwr.raise.isSome = true ∨ s.pwr.slow = true ∨ s.cx.gap = true → s.retarget = s1) ∧
    (e < now → s1.pwr.raise = none → s.pwr.slow = false → s.cx.gap = false →
      s.retarget = ({ s1 with pwr := { s1.pwr with raise := some (BitVec.ofNat 3 e), settled := false, pend := s.pwr.step } } : State).writeVdd e)) ∧
  (∀ (s : State) (step : Nat),
    let s1 : State := { s with pwr := { s.pwr with vddMv := BitVec.ofNat 16 (s.avsTarget step) }, out := .regulator 0 (s.avsTarget step) :: s.out }
    let n := if step = 0 then 850 else 800
    s.writeVdd step = if s.pwr.sramMv.toNat = n then s1
      else { s1 with pwr := { s1.pwr with sramMv := BitVec.ofNat 16 n }, out := .regulator 1 n :: s1.out }) ∧
  (∀ s : State,
    (s.pwr.reqPower.toNat ≤ s.effectiveStep ∧ (∀ r, s.pwr.reqTherm = some r → r.toNat ≤ s.effectiveStep) ∧
      (s.pwr.clamp = true → 5 ≤ s.effectiveStep) ∧ (s.pwr.pin = true → s.par 0x2010 5 ≤ s.effectiveStep) ∧ s.par 0x2010 4 ≤ s.effectiveStep) ∧
    (s.effectiveStep = s.pwr.reqPower.toNat ∨ (∃ r, s.pwr.reqTherm = some r ∧ s.effectiveStep = r.toNat) ∨ (s.pwr.clamp = true ∧ s.effectiveStep = 5) ∨
      (s.pwr.pin = true ∧ s.effectiveStep = s.par 0x2010 5) ∨ s.effectiveStep = s.par 0x2010 4)) ∧
  (∀ (s : State) (targets : List Nat),
    (s.running = true → s.cx.gap = false →
      ∃ t u : State, exec (.avsMeasurement targets) s = .next t ∧ SameBytes s t ∧ u = { s with pwr := { s.pwr with avs := u.pwr.avs } } ∧
        (∀ i, i < 6 → u.avsTarget i = match targets[i]? with
          | some v => Nat.max (avsRange i).1 (Nat.min v (avsRange i).2)
          | none => s.avsTarget i) ∧
        t = (if u.avsTarget s.pwr.step.toNat ≠ s.avsTarget s.pwr.step.toNat ∧ s.pwr.raise = none then u.writeVdd s.pwr.step.toNat else u)) ∧
    (s.running = false ∨ s.cx.gap = true → exec (.avsMeasurement targets) s = .next s)) ∧
  (∀ (s : State) (us : Nat),
    (∀ r, s.pwr.raise = some r →
      exec .regulatorSettled s = .next { s with pwr := { s.pwr with settled := true, pend := r } } ∧
      (s.pwr.settled = false → exec (.regulatorSlow us) s =
        .next ((({ s with pwr := { s.pwr with raise := none, slow := true, pend := s.pwr.step } } : State).report kRegulatorSlow 0 0
          [(32, 0), (32, s.avsTarget r.toNat), (32, us)]).writeVdd s.pwr.step.toNat)) ∧
      (s.pwr.settled = true → exec (.regulatorSlow us) s = .next s)) ∧
    (s.pwr.raise = none → exec .regulatorSettled s = .next s ∧ exec (.regulatorSlow us) s = .next s)) ∧
  (∀ (s : State) (dyn : Nat),
    let asked (n : Nat) : Prop := exec (.powerLoopRun dyn) s = .next ({ s with pwr := { s.pwr with reqPower := BitVec.ofNat 3 n, slow := false } } : State).retarget
    let now := s.pwr.step.toNat
    (s.running = true → s.cx.gap = false →
      (∀ best, best < 6 → s.fitsCap dyn best 100 = true → (∀ k, k < best → s.fitsCap dyn k 100 = false) →
        (now ≤ best → asked best) ∧ (best < now → asked (if s.fitsCap dyn (now - 1) 97 then now - 1 else now))) ∧
      ((∀ k, k < 6 → s.fitsCap dyn k 100 = false) → now ≤ 5 → asked 5)) ∧
    (s.running = false ∨ s.cx.gap = true → exec (.powerLoopRun dyn) s = .next s)) ∧
  (∀ s : State,
    (s.running = true → s.cx.gap = false →
      ∃ h : Int, (∀ i, i < 64 → s.coreReading i ≤ h) ∧ (∀ i, i < 8 → s.hbmReading i ≤ h) ∧ (∀ i, i < 12 → s.dimmReading i ≤ h) ∧
        ((∃ i, i < 64 ∧ s.coreReading i = h) ∨ (∃ i, i < 8 ∧ s.hbmReading i = h) ∨ (∃ i, i < 12 ∧ s.dimmReading i = h)) ∧
        let d := s.fanDuty h
        let s1 : State := if s.pwr.clamp then s else { s with pwr := { s.pwr with pwm := [(0, d), (1, d), (2, d), (3, d)] } }
        exec .thermalLoopRun s = .next (if s.pwr.reqTherm.isSome = true ∧ s.pwr.coolFrom.any (fun a => a + 10000000 ≤ s.now) = true then
          ({ s1 with pwr := { s1.pwr with reqTherm := none } } : State).retarget else s1)) ∧
    (s.running = false ∨ s.cx.gap = true → exec .thermalLoopRun s = .next s)) ∧
  (∀ (s : State),
    let hot := ∃ i, i < 64 ∧ s.coreReading i ≥ (s.par 0x2100 3 : Int)
    (∀ r : BitVec 3, s.running = true → s.cx.gap = false → s.pwr.reqTherm = some r → r.toNat < 5 → hot →
      exec .thermalStepLower s = .next ({ s with pwr := { s.pwr with reqTherm := some (r + 1) } } : State).retarget) ∧
    (∀ r : BitVec 3, s.pwr.reqTherm = some r → 5 ≤ r.toNat ∨ ¬ hot → exec .thermalStepLower s = .next s) ∧
    (s.running = false ∨ s.cx.gap = true ∨ s.pwr.reqTherm = none → exec .thermalStepLower s = .next s)) ∧
  (∀ s : State,
    (s.pwr.thrDrive = false → exec .throttleNAssert s = .next ({ s with pwr := { s.pwr with pin := true } } : State).retarget) ∧
    (s.pwr.thrDrive = true → exec .throttleNAssert s = .next s) ∧
    exec .throttleNRelease s = .next ({ s with pwr := { s.pwr with pin := false } } : State).retarget)

/-- GATE_WRITE, served, of an entry from 3 on whose descriptor passes the checks of R88 sets the pending entry; entries 0
to 2 are refused with MODE, a failing descriptor with RANGE (R87, R88). SHAPER_WRITE of a valid descriptor sets the shaper and its tokens on every slice, and frees the requests that it holds; of another it answers RANGE (R102, R106; what a shaper without slices may hold while disabled is log entry 153). MARKER_FLIT: an echo of a probe gives the link delay, and of none changes nothing; a probe is echoed
(R385); a frame marker from the reference port gives its offset: before POOL_READY the frame number is taken, and an offset beyond ±8 ns steps the
slot; after it slot 2047 is corrected by 1 ns towards the reference (R107-R109, R111); one from another port tells only its master. FRAME_LOCK_ACQUIRED, _LOST and
_RESTORED after their 16 frames set FRAME_LOCK, the first with POOL_READY where the links are up, the second with a record; before that, or where the lock stands, they change nothing (R109, R111, R404). -/
def Obligations.GatesShapersAndAlignment : Prop :=
  (∀ (s : State) (c : Client) (sl : Fin 44) (e : Fin 16) (v : BitVec 64),
    s.serves c (if sl.val < 32 then 0x3440 + sl.val else 0x3460 + (sl.val - 32)) (e.val + 1) = true →
    let s0 := s.modClient c id
    (3 ≤ e.val → s0.gateAccepted sl.val e.val v = true → exec (.gateWrite c sl e v) s =
      .next ((s0.modSlice sl.val (fun x => { x with gates := Tab.set x.gates e.val v })).answer c stOk 0)) ∧
    (3 ≤ e.val → s0.gateAccepted sl.val e.val v = false → exec (.gateWrite c sl e v) s = .next (s0.answer c stRange 0)) ∧
    (e.val < 3 → exec (.gateWrite c sl e v) s = .next (s0.answer c stMode 0))) ∧
  (∀ (s : State) (c : Client) (n : Fin 16) (v : BitVec 64), s.serves c 0x3430 (n.val + 1) = true →
    let h := shaperOf v.toNat
    (shaperForm v.toNat = true →
      ∃ t, exec (.shaperWrite c n v) s = .next t ∧ SameBytes s t ∧ t.shaper n.val = { h with zero := false } ∧
        ∀ k, k < 44 → Tab.get (t.sliceAt k).tokens n.val 0 = (if h.zero then 0 else h.burst * 64 * 256) ∧
          ((t.sliceAt k).beq = (s.sliceAt k).beq.map (fun r => if r.hold.shapers.contains n.val then { r with hold := .free } else r))) ∧
    (shaperForm v.toNat = false → exec (.shaperWrite c n v) s = .next ((s.modClient c id).answer c stRange 0))) ∧
  (∀ (s : State) (p : Fin 4) (m : Marker), m.echo = true →
    let mine := s.cal.probes.find? (fun q => q.1 = p.val && q.2.1 = m.probe.toNat)
    (∀ q, mine = some q → exec (.markerFlit p m) s = .next (({ s with cal := { s.cal with probes := s.cal.probes.erase q } } : State).setPar
      (0x5410 + p.val) 3 (((m.arrival - q.2.2 - m.skewPs.toNat) / 2).toNat % 2 ^ 32))) ∧
    (mine = none → exec (.markerFlit p m) s = .next s)) ∧
  (∀ (s : State) (p : Fin 4) (m : Marker), m.echo = false →
    let off : Int := m.arrival - m.skewPs.toNat - s.par (0x5410 + p.val) 3
    (m.probe ≠ 0 → exec (.markerFlit p m) s = .next { s with out := .echo p m.probe :: s.out }) ∧
    (m.probe = 0 → s.refPort ≠ some p.val → exec (.markerFlit p m) s = .next (s.modLink p.val (fun l => { l with master := m.master }))) ∧
    (m.probe = 0 → s.refPort = some p.val →
      ∃ t, exec (.markerFlit p m) s = .next t ∧ SameBytes s t ∧ t.par 0x3400 2 = twos 32 off ∧
        (s.pool.ready = false → -8000 ≤ off → off ≤ 8000 →
          t.cal = { s.cal with goodRun := s.cal.goodRun + 1, badRun := 0, frame := m.frame }) ∧
        (s.pool.ready = false → off < -8000 ∨ 8000 < off →
          t.cal = { s.cal with
            goodRun := 0, badRun := 0, frame := m.frame, slot := BitVec.ofNat 11 ((m.skewPs.toNat + s.par (0x5410 + p.val) 3) / 4000) }) ∧
        (s.pool.ready = true → t.cal.frame = s.cal.frame ∧ t.cal.slot = s.cal.slot ∧
          t.cal.corr = (if 0 < off then 1 else if off < 0 then -1 else 0) ∧
          (-40000 ≤ off → off ≤ 40000 → t.cal.goodRun = s.cal.goodRun + 1 ∧ t.cal.badRun = 0) ∧
          (off < -40000 ∨ 40000 < off → t.cal.goodRun = 0 ∧ t.cal.badRun = s.cal.badRun + 1)))) ∧
  (∀ s : State,
    let s1 := s.setPar 0x3400 3 2
    (16 ≤ s.cal.goodRun → s.pool.locked = false →
      exec .frameLockAcquired s = .next ({ s1 with pool := { s1.pool with locked := true } } : State).updateReady) ∧
    (s.cal.goodRun < 16 ∨ s.pool.locked = true → exec .frameLockAcquired s = .next s)) ∧
  (∀ (s : State),
    (∀ p, 16 ≤ s.cal.badRun → s.frameLock ≠ 3 → s.refPort = some p →
      exec .frameLockLost s = .next ((s.setPar 0x3400 3 3).report kFrameLockLost p 0 [(32, s.par 0x3400 2), (32, p)])) ∧
    (s.cal.badRun < 16 ∨ s.frameLock = 3 ∨ s.refPort = none → exec .frameLockLost s = .next s)) ∧
  (∀ s : State,
    (16 ≤ s.cal.goodRun → s.frameLock = 3 → exec .frameLockRestored s = .next (s.setPar 0x3400 3 2)) ∧
    (s.cal.goodRun < 16 ∨ s.frameLock ≠ 3 → exec .frameLockRestored s = .next s))

/-- REGION_ENABLE and REGION_ENABLE_FRESH of a disabled region that passes the checks enable it, the fresh one with a zero
mordant record; a failing region is refused with RANGE, an enabled one with STATE; REGION_DISABLE disables an enabled one, and of another answers STATE (R333).
PUBLISH_DESCRIPTOR to an HDM-DB publish line runs at the home agent, to another line it changes nothing: of an enabled region, from the bank’s publisher,
with the next version and a free bank it writes the record and answers STATUS 0; a wrong version answers 1, another publisher 2, a bank in
use 3, a disabled region 4, a descriptor with reserved bits or version 0 5, and where the record is poison the version answered is a free value and a good descriptor is answered 6, with a record (R337-R339). MIGRATION_ROUND_DONE starts the next round, the final pass with at most 64
dirty pages, another fourth round while a plan may write the extent, or abandons the move with a record; MIGRATION_FINAL_PASS_DONE maps the extent to its destination, a change of ARMOUR alone at once, another with its zero-fill to follow, unless a plan holds it back;
MIGRATION_ZERO_FILL_DONE leaves the vacated media zero, and the unowned extent mapped to it; MIGRATION_BACKOFF_EXPIRE lets an abandoned extent be tried
again (R347, R348). Out of their turn the three events of a move change nothing. -/
def Obligations.RegionsPublishAndMigrate : Prop :=
  (∀ (s : State) (c : Client) (r : Fin 256), s.serves c (0x5A00 + r.val) 12 = true →
    let s0 := s.modClient c id
    let on (u : State) : State := { u with reg := { u.reg with enabled := r.val :: u.reg.enabled } }
    let tells (i : Instr) (st : Nat) (u : State) : Prop := exec i s = .next (u.answer c st 0)
    (s.reg.enabled.contains r.val = false →
      (s0.regionGood r.val = true → tells (.regionEnable c r) stOk (on s0) ∧
        tells (.regionEnableFresh c r) stOk (on (s0.storeRaw (s0.recordDpa r.val / 64) (List.replicate 64 0)))) ∧
      (s0.regionGood r.val = false → tells (.regionEnable c r) stRange s0 ∧ tells (.regionEnableFresh c r) stRange s0) ∧
      tells (.regionDisable c r) stState s0) ∧
    (s.reg.enabled.contains r.val = true →
      tells (.regionEnable c r) stState s0 ∧ tells (.regionEnableFresh c r) stState s0 ∧
      tells (.regionDisable c r) stOk { s0 with reg := { s0.reg with enabled := s0.reg.enabled.erase r.val } })) ∧
  (∀ (s : State) (who : BitVec 16) (r : Fin 256) (bank : Fin 4) (d : BitVec 512),
    let line := (s.regionPublish r.val).1 / 64 + bank.val
    (s.isHdmDb (line * 64) = true →
      exec (.publishDescriptor who r bank d) s = .next (s.runPublish (s.publisherAgent who.toNat) who.toNat r.val bank.val line d)) ∧
    (s.isHdmDb (line * 64) = false → exec (.publishDescriptor who r bank d) s = .next s)) ∧
  (∀ (s s1 : State) (who r bank : Nat) (d : BitVec 512) (old : List (BitVec 8)) (bad : Bool), s.readBytes (s.recordDpa r) 64 = ((old, bad), s1) →
    let v := bitsAt (leNat old) 63 0
    let tellsRec (st : Nat) : Prop :=
      s.publish who r bank d = if bad then ((st, (s1.takeFree 64).1.toNat), (s1.takeFree 64).2) else ((st, v), s1)
    let mine := who = s.par (0x5A00 + r) (7 + bank) ∧ who ≠ 0xFFFF
    let form := bits d 63 0 ≠ 0 ∧ bits d 127 104 = 0 ∧ bits d 255 224 = 0
    (s.reg.enabled.contains r = false → tellsRec 4) ∧
    (s.reg.enabled.contains r = true →
      (¬ mine → tellsRec 2) ∧
      (mine → ¬ form → tellsRec 5) ∧
      (mine → form → bad = true →
        let f := (s1.report kPublishRecordPoison (s.par (0x5A00 + r) 1) 0 [(32, r), (64, s.recordDpa r), (32, who)]).takeFree 64
        s.publish who r bank d = ((6, f.1.toNat), f.2)) ∧
      (mine → form → bad = false →
        (bits d 63 0 ≠ v + 1 → tellsRec 1) ∧
        (bits d 63 0 = v + 1 → bankFree (leNat old) bank = false → tellsRec 3) ∧
        (bits d 63 0 = v + 1 → bankFree (leNat old) bank = true → s.publish who r bank d = ((0, v + 1),
          s1.storeRaw (s.recordDpa r / 64) (packRecord (v + 1) bank (bitsAt (leNat old) 65 64) (bitAt (leNat old) 66) who s.now (bits d 511 256))))))) ∧
  (∀ (s : State) (n : Fin 16) (m : Move), s.moveOn n.val = some m → m.zero = false →
    (m.round < 4 → exec (.migrationRoundDone n) s = .next (s.putMove m { m with round := m.round + 1, dirty := [] })) ∧
    (m.round = 4 → s.moveHeld m = true → exec (.migrationRoundDone n) s = .next (s.putMove m { m with dirty := [] })) ∧
    (m.round = 4 → s.moveHeld m = false →
      (m.dirty.length ≤ 64 → exec (.migrationRoundDone n) s = .next (s.putMove m { m with round := 5 })) ∧
      (64 < m.dirty.length →
        let s1 := s.abandonMove m
        exec (.migrationRoundDone n) s = .next (({ s1 with reg := { s1.reg with backoff := addNew s1.reg.backoff m.extent } } : State).reportTenant
          kMigrationAbandoned (s.owner (m.extent * 2 ^ 21)) 0 [(32, m.extent), (32, m.dirty.length)]))) ∧
    (4 < m.round → exec (.migrationRoundDone n) s = .next s) ∧
    (m.round = 5 → s.moveHeld m = false → ∃ t, exec (.migrationFinalPassDone n) s = .next t ∧ Tab.find? t.med.tier m.extent = some m.dest ∧
      (s.ringClass = 0 → SameBytes s t) ∧
      (m.partner = m.extent → ∀ x, x ∈ t.reg.moves → x.ch ≠ n.val) ∧
      (m.partner ≠ m.extent → ∃ x, t.moveOn n.val = some x ∧ x.zero = true ∧ x.extent = m.extent ∧ x.partner = m.partner)) ∧
    (m.round ≠ 5 ∨ s.moveHeld m = true → exec (.migrationFinalPassDone n) s = .next s) ∧
    exec (.migrationZeroFillDone n) s = .next s) ∧
  (∀ (s : State) (n : Fin 16) (m : Move), s.moveOn n.val = some m → m.zero = true →
    (∃ t v, exec (.migrationZeroFillDone n) s = .next t ∧ t.reg.moves = s.reg.moves.filter (fun x => x.ch ≠ n.val) ∧
      (∀ a, m.partner * 2 ^ 21 ≤ a → a < m.partner * 2 ^ 21 + 2 ^ 21 → Mem.get t.med.mem a = 0) ∧
      SameBytesBut s t (m.partner * 2 ^ 21) (2 ^ 21) ∧ Tab.find? t.med.tier m.partner = some v ∧ bits v 24 23 = 1 ∧
      bits v 22 0 = bits m.source 22 0) ∧
    exec (.migrationRoundDone n) s = .next s ∧ exec (.migrationFinalPassDone n) s = .next s) ∧
  (∀ (s : State) (n : Fin 16), s.moveOn n.val = none →
    exec (.migrationRoundDone n) s = .next s ∧ exec (.migrationFinalPassDone n) s = .next s ∧ exec (.migrationZeroFillDone n) s = .next s) ∧
  (∀ (s : State) (e : Fin 1835008), exec (.migrationBackoffExpire e) s =
    .next { s with reg := { s.reg with backoff := s.reg.backoff.erase e.val } })

/-- On an ACTIVE link every header frees the buffered flits that it acknowledges and takes a credit count within range
(R388, R391). DATA_FLIT with the expected number is accepted and its packets take effect, with an acknowledgement
after 32; a gap asks once for a replay; a copy is discarded (R387). IDLE_FLIT brings its header alone, ACK_CREDIT all
five counts. REPLAY_REQ of buffered flits replays from the number named; a number out of place, or the ninth request
in a row, is fatal (R389, R390). ACK_TIMER acknowledges what is owed, REPLAY_REQ_RESEND and CREDIT_REFRESH send their
flit again (R388, R389, R391); with nothing owed or asked for, or on a link that is not ACTIVE, nothing changes. BAD_CRC_FLIT is discarded and counted (R383). An acknowledgement goes out in an IDLE flit, the others
in CONTROL flits with their KIND and numbers (R382, R384). -/
def Obligations.PoolFlits : Prop :=
  (∀ (s : State) (p : Fin 4) (kind arg width : Nat),
    s.control p kind arg width = { s with out := .flit p (flitHeader 2 0 0 false 7 0 0) (s.controlPayload p kind arg width) :: s.out } ∧
    s.idleAck p arg = { s with out := .flit p (flitHeader 0 0 arg true 7 0 0) 0 :: s.out }) ∧
  (∀ (s : State) (p : Fin 4) (h : FlitHeader),
    ((s.linkAt p.val).buffer = [] → s.takeAck p.val h = s) ∧
    (∀ f fs, (s.linkAt p.val).buffer = f :: fs →
      let d := (h.ackSeq - f.seq).toNat
      (h.ackValid = true → d < fs.length + 1 →
        s.takeAck p.val h = (s.modLink p.val (fun l => { l with buffer := (f :: fs).drop (d + 1) })).pump p.val) ∧
      (h.ackValid = false ∨ fs.length + 1 ≤ d → s.takeAck p.val h = s))) ∧
  (∀ (s : State) (p : Fin 4) (vc : Nat) (n : BitVec 16),
    (vc ≤ 4 → (Tab.get (s.linkAt p.val).sent vc 0 - n).toNat ≤ vcSize vc →
      s.takeCredit p.val vc n = (s.modLink p.val (fun l => { l with ret := Tab.set l.ret vc n })).pump p.val) ∧
    (4 < vc ∨ vcSize vc < (Tab.get (s.linkAt p.val).sent vc 0 - n).toNat → s.takeCredit p.val vc n = s)) ∧
  (∀ (s : State) (p : Fin 4) (h : FlitHeader), (s.linkAt p.val).st = .active →
    let s1 := (s.takeAck p.val h).takeCredit p.val h.creditVc.toNat h.credit
    let l := s1.linkAt p.val
    let d := (h.seq - l.expect).toNat
    exec (.idleFlit p h) s = .next s1 ∧
    (∀ credits, exec (.ackCredit p h credits) s = .next ((List.range 5).foldl (fun u vc =>
      u.takeCredit p.val vc (BitVec.ofNat 16 (bits credits (16 * vc + 15) (16 * vc)))) s1)) ∧
    (∀ packets, d = 0 →
      let s2 := (s1.modLink p.val (fun l => { l with expect := l.expect + 1, unacked := l.unacked + 1, replayReq := none })).light (lightFlitRx p.val) 1
      let s3 := packets.foldl (fun u q => u.receive (some p.val) q.1 q.2) s2
      exec (.dataFlit p h packets) s = .next (if 32 ≤ (s3.linkAt p.val).unacked then
        (s3.modLink p.val (fun l => { l with unacked := 0 })).idleAck p.val ((s3.linkAt p.val).expect - 1).toNat else s3)) ∧
    (∀ packets, 0 < d → d ≤ 2047 →
      (l.replayReq = none → exec (.dataFlit p h packets) s =
        .next ((s1.modLink p.val (fun l => { l with replayReq := some l.expect })).control p.val 2 l.expect.toNat 0)) ∧
      (l.replayReq ≠ none → exec (.dataFlit p h packets) s = .next s1)) ∧
    (∀ packets, 2047 < d → exec (.dataFlit p h packets) s = .next s1) ∧
    (∀ n : BitVec 12,
      let o := (l.buffer.head?.map (fun f => f.seq)).getD l.txSeq
      let k := match l.replays with | some (q, k) => if q = n then k + 1 else 1 | none => 1
      ((n - o).toNat ≤ l.buffer.length → k < 9 → exec (.replayReq p h n) s =
        .next (((s1.modLink p.val (fun l => { l with replays := some (n, k) })).bump 64 (0x5410 + p.val) 5).emit
          (.replay p ((l.buffer.drop (n - o).toNat).map (fun f => f.seq))))) ∧
      (l.buffer.length < (n - o).toNat → exec (.replayReq p h n) s = .next (s1.linkFatal p.val 1 n.toNat)) ∧
      ((n - o).toNat ≤ l.buffer.length → 9 ≤ k → exec (.replayReq p h n) s = .next (s1.linkFatal p.val 2 n.toNat)))) ∧
  (∀ (s : State) (p : Fin 4), (s.linkAt p.val).st = .active →
    ((s.linkAt p.val).unacked ≠ 0 → exec (.ackTimer p) s =
      .next ((s.modLink p.val (fun l => { l with unacked := 0 })).idleAck p.val ((s.linkAt p.val).expect - 1).toNat)) ∧
    ((s.linkAt p.val).unacked = 0 → exec (.ackTimer p) s = .next s) ∧
    (∀ e, (s.linkAt p.val).replayReq = some e → exec (.replayReqResend p) s = .next (s.control p.val 2 e.toNat 0)) ∧
    ((s.linkAt p.val).replayReq = none → exec (.replayReqResend p) s = .next s) ∧
    exec (.creditRefresh p) s = .next (s.control p.val 1 0 0)) ∧
  (∀ (s : State) (p : Fin 4), (s.linkAt p.val).st ≠ .active →
    exec (.ackTimer p) s = .next s ∧ exec (.replayReqResend p) s = .next s ∧ exec (.creditRefresh p) s = .next s ∧
    ∀ h, exec (.idleFlit p h) s = .next s ∧ (∀ credits, exec (.ackCredit p h credits) s = .next s) ∧
      (∀ packets, exec (.dataFlit p h packets) s = .next s) ∧ ∀ n, exec (.replayReq p h n) s = .next s) ∧
  (∀ (s : State) (p : Fin 4), exec (.badCrcFlit p false) s = .next (s.bump 64 (0x5410 + p.val) 6) ∧
    exec (.badCrcFlit p true) s = .next ((s.bump 64 (0x5410 + p.val) 6).bump 64 (0x5410 + p.val) 8))

/-- ALIGNMENT_DONE takes an ALIGNING link to INIT and sends its INIT flit, ALIGNMENT_TIMEOUT back to TRAINING; INIT_FLIT
from the neighbour that R378 names, with this ring’s sizes and class and a fitting class, starts the link with fresh
credits, one that does not match takes every link down with RING_MISWIRED, a class that does not fit with
RING_CLASS_MISMATCH, and every byte of memory stays as it was (R19, R20, R379); LINK_INIT_DONE of a checked link makes it ACTIVE, replays from the peer’s number and sends the DELTAs that wait again (R400, R401). TRAINING_FAILED counts,
and the third takes the link DOWN; TRAINING_RETRY trains an enabled link again; LOSS_OF_SIGNAL and RETRAIN_TIMEOUT
take it back to TRAINING; RETRAIN_REQ and its repeat agree a width, the narrower of two that cross, RETRAIN_DONE goes to INIT at it (R400-R402). In other states these events change nothing. The
LINK_COMMANDs RETRAIN, WIDTH_16, WIDTH_8, WIDTH_4, DOWN and UP are served in their states, a width wider than the link’s by training, and answer STATE in others (R400, R401). While the ring is broken every link stays DOWN (R20). -/
def Obligations.PoolLinkStates : Prop :=
  (∀ (s : State) (p : Nat) (st : LinkSt), ((s.linkTo p st).linkAt p).st = if s.pool.broken then .down else st) ∧
  (∀ (s : State) (p : Fin 4),
    let st := (s.linkAt p.val).st
    (st = .aligning →
      exec (.alignmentDone p) s = .next ((s.linkTo p.val .init).sendInit p.val) ∧
      exec (.alignmentTimeout p) s = .next (s.linkTo p.val .training)) ∧
    (st ≠ .aligning → exec (.alignmentDone p) s = .next s ∧ exec (.alignmentTimeout p) s = .next s) ∧
    (st ≠ .training → st ≠ .down → exec (.lossOfSignal p) s = .next (s.linkTo p.val .training)) ∧
    (st = .training ∨ st = .down → exec (.lossOfSignal p) s = .next s) ∧
    (st = .training →
      ((s.linkAt p.val).fails < 2 → exec (.trainingFailed p) s = .next (s.modLink p.val (fun l => { l with fails := l.fails + 1 }))) ∧
      (2 ≤ (s.linkAt p.val).fails → exec (.trainingFailed p) s =
        .next ((s.linkTo p.val .down).modLink p.val (fun l => { l with fails := 0 })))) ∧
    (st ≠ .training → exec (.trainingFailed p) s = .next s) ∧
    (let may := st = .down ∧ (s.linkAt p.val).held = false ∧ s.linkEnabled p.val = true ∧ s.pool.broken = false ∧ s.poolClockBad = false
     (may → exec (.trainingRetry p) s = .next (s.linkTo p.val .training)) ∧ (¬ may → exec (.trainingRetry p) s = .next s)) ∧
    (st = .retrain →
      exec (.retrainTimeout p) s = .next (s.linkTo p.val .training) ∧
      (∀ w, (s.linkAt p.val).agreed = some w →
        let s1 := (s.linkTo p.val .init).modLink p.val (fun l => { l with width := codeLanes w.toNat })
        exec (.retrainDone p) s = .next ((s1.bump 32 (0x5410 + p.val) 10).sendInit p.val)) ∧
      ((s.linkAt p.val).agreed = none → exec (.retrainDone p) s = .next s) ∧
      (∀ w, (s.linkAt p.val).retrainReq = some w → exec (.retrainReqRepeat p) s = .next (s.control p.val 3 0 w.toNat)) ∧
      ((s.linkAt p.val).retrainReq = none → exec (.retrainReqRepeat p) s = .next s)) ∧
    (st ≠ .retrain → exec (.retrainTimeout p) s = .next s ∧ exec (.retrainDone p) s = .next s ∧ exec (.retrainReqRepeat p) s = .next s)) ∧
  (∀ (s : State) (p : Fin 4) (width : BitVec 2) (coord : BitVec 6),
    let st := (s.linkAt p.val).st
    (width ≠ 3 →
      (st = .active → exec (.retrainReq p width coord) s =
        .next (((s.linkTo p.val .retrain).modLink p.val (fun l => { l with agreed := some width, coord := coord })).control p.val 3 0 width.toNat)) ∧
      (∀ w, st = .retrain → (s.linkAt p.val).retrainReq = some w → exec (.retrainReq p width coord) s =
        .next (s.modLink p.val (fun l => { l with
          retrainReq := none, agreed := some (if w.toNat < width.toNat then width else w), coord := coord }))) ∧
      (st = .retrain → (s.linkAt p.val).retrainReq = none → exec (.retrainReq p width coord) s =
        .next (s.control p.val 3 0 ((s.linkAt p.val).agreed.getD width).toNat))) ∧
    (width = 3 ∨ (st ≠ .active ∧ st ≠ .retrain) → exec (.retrainReq p width coord) s = .next s)) ∧
  (∀ (s : State) (p : Fin 4) (i : InitFlit), (s.linkAt p.val).st = .init →
    let n := s.neighbour p.val
    let good := i.position.toNat = n.1 ∧ i.port.toNat = n.2 ∧ i.sizeX.toNat = s.option 136 134 ∧ i.sizeY.toNat = s.option 139 137 ∧ i.cls.toNat = s.ringClass
    let u := s.breakRing.modLink p.val (fun l => { l with held := true })
    (good → s.classFits = true → exec (.initFlit p i) s = .next (s.modLink p.val (fun l => { l with
      inited := true, peerE := i.expect, coord := i.coord, sent := [], ret := [], freed := [], occ := [] }))) ∧
    (good → s.classFits = false → exec (.initFlit p i) s = .next (u.report kRingClassMismatch 0 0
      [(32, s.ringClass), (32, s.ringChips), (32, s.hbmExtents), (32, s.ddrExtents)])) ∧
    (¬ good → exec (.initFlit p i) s = .next (u.report kRingMiswired p.val 0
      [(32, p.val), (32, i.position.toNat), (32, i.port.toNat), (32, i.sizeX.toNat), (32, i.sizeY.toNat), (32, i.cls.toNat)])) ∧
    SameBytes s u ∧ u.pool.broken = true ∧ u.pool.ready = false ∧ (∀ q, q < 4 → (u.linkAt q).st = .down) ∧ (u.linkAt p.val).held = true) ∧
  (∀ (s : State) (p : Fin 4) (i : InitFlit), (s.linkAt p.val).st ≠ .init → exec (.initFlit p i) s = .next s) ∧
  (∀ (s : State) (p : Fin 4) (delay : Nat),
    let l := s.linkAt p.val
    let checked := l.st = .init ∧ l.inited = true ∧ s.pool.broken = false
    let d := (l.peerE - (l.buffer.head?.map (fun f => f.seq)).getD l.txSeq).toNat
    let left := if d ≤ l.buffer.length then l.buffer.drop d else l.buffer
    let s1 := ((s.modLink p.val (fun l => { l with
      st := .active, inited := false, buffer := left, replays := none, replayReq := none, unacked := 0,
      txSeq := if l.discard then l.peerE else l.txSeq, discard := false })).setPar (0x5410 + p.val) 3 delay).updateReady
    let s2 := (if left = [] then s1 else s1.emit (.replay p (left.map (fun f => f.seq)))).pump p.val
    (checked → exec (.linkInitDone p delay) s = .next (s2.pool.deltas.foldl (fun u q => u.deltaAgain (PktHdr.unpack q.1).tag) s2)) ∧
    (¬ checked → exec (.linkInitDone p delay) s = .next s)) ∧
  (∀ (s : State) (c : Client) (p : Fin 4), s.serves c (0x5410 + p.val) 4 = true →
    let u := s.modClient c id
    let w := (s.linkAt p.val).width
    let tells (i : Instr) (st : Nat) (t : State) : Prop := exec i s = .next (t.answer c st 0)
    let may := (s.linkAt p.val).st = .down ∧ s.pool.broken = false ∧ s.linkEnabled p.val = true ∧ s.poolClockBad = false
    ((s.linkAt p.val).st = .active →
      tells (.retrain c p) stOk (u.askRetrain p.val (lanesCode w)) ∧
      tells (.width16 c p) stOk (if w < 16 then u.linkTo p.val .training else u.askRetrain p.val 0) ∧
      tells (.width8 c p) stOk (if w < 8 then u.linkTo p.val .training else u.askRetrain p.val 1) ∧
      tells (.width4 c p) stOk (if w < 4 then u.linkTo p.val .training else u.askRetrain p.val 2)) ∧
    ((s.linkAt p.val).st ≠ .active → tells (.retrain c p) stState u ∧ tells (.width16 c p) stState u ∧ tells (.width8 c p) stState u ∧
      tells (.width4 c p) stState u) ∧
    tells (.down c p) stOk ((u.linkTo p.val .down).modLink p.val (fun l => { l with held := true })) ∧
    (may → tells (.up c p) stOk ((u.linkTo p.val .training).modLink p.val (fun l => { l with held := false, fails := 0 }))) ∧
    (¬ may → tells (.up c p) stState u))

/-- A packet for this chip: RD of allowed lines is answered with the lines, or with STATUS 1 where one is poison, or waits where a host
holds one; a denied one with STATUS 2 and a record. WR of allowed lines stores them (in an HDM-H line at once), or poison with STATUS 1, and is acknowledged; a
denied one is recorded and stores nothing (R32, R393). RD_DATA and WR_ACK finish the request of their TAG, a failure with POOL_REQUEST_LOST but where the status is 2 (R394);
a response of no known TAG changes nothing, but a WR_ACK of a DELTA ends it, or sends it again (R407). DELTA changes the parity line; during a rebuild’s copy
one of an extent in flight is held, of one not started dropped (R407, R412). CHUNK stores the lines at a rebuild target, poison with STATUS 1; another member passes on the sum with its own scaled line (R408, R411; log entry 32).
RING_BARRIER_ARRIVAL is kept in every context of its group with that partner, NOTICE likewise (R229, R230); DIGEST enters
aggregation (R542); WASH_DONE drops retained translations of the partition washed (R435). POOL_REQUEST_TIMEOUT loses the request with STATUS 15 (log entry 39), or sends a DELTA again (R394). A packet
for another chip is forwarded; where it finds no way a request is answered with STATUS 3. A packet of another type than its command’s changes nothing. -/
def Obligations.PoolPackets : Prop :=
  (∀ (s : State) (b : BitVec 128), let h := PktHdr.unpack b
    h.type = 1 → h.dest = s.coord →
    let allow := ∀ i, i < h.lines → s.allowed h.tenant (h.dpa + 64 * i) false = true
    (h.lines = 0 → exec (.rd b) s = .next s) ∧
    (h.lines ≠ 0 → allow → ∀ s1,
      (∀ bs poison, s.poolRead (h.dpa / 64) h.lines = (some (bs, poison), s1) →
        exec (.rd b) s = .next (if poison then s1.reply h 2 1 [] else s1.reply h 2 0 bs)) ∧
      (s.poolRead (h.dpa / 64) h.lines = (none, s1) →
        exec (.rd b) s = .next { s1 with pool := { s1.pool with waiting := s1.pool.waiting ++ [b] } })) ∧
    (h.lines ≠ 0 → ¬ allow → exec (.rd b) s = .next ((s.poolDenied h).reply h 2 2 []))) ∧
  (∀ (s : State) (line : Nat), s.isHdmDb (line * 64) = false →
    (s.intact line → s.poolRead line 1 = (some (s.loadLine line, false), s.light (lightRead (s.sliceOf (line * 64))) 64)) ∧
    (s.fatalAt (line * 64) = true ∨ s.isPoison line = true → s.poolRead line 1 = (some (List.replicate 64 0, true), s))) ∧
  (∀ (s : State) (b : BitVec 128) (data : List (BitVec 8)), let h := PktHdr.unpack b
    h.type = 3 → h.dest = s.coord →
    let n := if h.status = 1 then 1 else h.units / 4
    let allow := ∀ i, i < n → s.allowed h.tenant (h.dpa + 64 * i) true = true
    (allow → h.status = 1 → exec (.wr b data) s = .next ((s.otherPoison (h.dpa / 64) poolPort).reply h 4 0 [])) ∧
    (allow → h.status ≠ 1 → exec (.wr b data) s = .next (((List.range n).foldl (fun u i =>
      u.otherWrite (h.dpa / 64 + i) (fitBytes 64 ((data.drop (64 * i)).take 64)) (BitVec.allOnes 64) poolPort) s).reply h 4 0 [])) ∧
    (¬ allow → exec (.wr b data) s = .next ((s.poolDenied h).reply h 4 2 []))) ∧
  (∀ (s : State) (line : Nat) (d : List (BitVec 8)), s.isHdmDb (line * 64) = false →
    s.otherWrite line d (BitVec.allOnes 64) poolPort = s.storeMasked line d (BitVec.allOnes 64) poolPort ∧
    (s.recordOf line = none → s.otherPoison line poolPort = s.poisonLine line)) ∧
  (∀ (s : State) (b : BitVec 128) (data : List (BitVec 8)), let h := PktHdr.unpack b
    h.dest = s.coord →
    (∀ r, s.pool.reqs.find? (fun q => q.tag.toNat = h.tag) = some r →
      (h.type = 2 →
        (h.status = 0 → exec (.rdData b data) s = .next (s.finishRequest r (some data) 0)) ∧
        (h.status = 2 → exec (.rdData b data) s = .next (s.finishRequest r none 2)) ∧
        (h.status ≠ 0 → h.status ≠ 2 → exec (.rdData b data) s = .next ((s.requestLost h.src r h.status).finishRequest r none h.status))) ∧
      (h.type = 4 →
        (h.status = 0 → exec (.wrAck b) s = .next (s.finishRequest r (some []) 0)) ∧
        (h.status = 2 → exec (.wrAck b) s = .next (s.finishRequest r none 2)) ∧
        (h.status ≠ 0 → h.status ≠ 2 → exec (.wrAck b) s = .next ((s.requestLost h.src r h.status).finishRequest r none h.status)))) ∧
    (s.pool.reqs.find? (fun q => q.tag.toNat = h.tag) = none →
      (h.type = 2 → exec (.rdData b data) s = .next s) ∧
      (h.type = 4 → h.reqKind ≠ 4 → exec (.wrAck b) s = .next s) ∧
      (h.type = 4 → h.reqKind = 4 →
        (h.status = 0 → exec (.wrAck b) s = .next (s.deltaDone h.tag)) ∧ (h.status ≠ 0 → exec (.wrAck b) s = .next (s.deltaAgain h.tag))))) ∧
  (∀ (s : State) (r : PoolReq) (st : Nat),
    let u : State := { s with pool := { s.pool with reqs := s.pool.reqs.filter (fun q => q.tag ≠ r.tag) } }
    let h := PktHdr.unpack r.hdr
    (r.owner = none → s.finishRequest r none st = u) ∧
    (r.owner = none → ∀ bs, (r.word = none ∨ h.type ≠ 1 → s.finishRequest r (some bs) st = u) ∧
      (∀ w, r.word = some w → h.type = 1 → s.finishRequest r (some bs) st = u.sendWord h w bs)) ∧
    (∀ n d, r.owner = some (.copy n) → s.finishRequest r d st = u.copyReply n.val h d (decide (st = 2))) ∧
    (∀ v bs, r.owner = some (.fetch v) → s.finishRequest r (some bs) st = u.fillBundles v.val (h.dest * 2 ^ 46 + h.dpa) (fitBytes 64 bs))) ∧
  (∀ (s : State) (tag : Nat) (d : BitVec 128 × List (BitVec 8) × Nat),
    s.pool.deltas.find? (fun d => (PktHdr.unpack d.1).tag = tag) = some d →
    s.deltaDone tag = ({ s with pool := { s.pool with deltas := s.pool.deltas.erase d } } : State).peak 0x5400 10 (s.now - d.2.2) ∧
    s.deltaAgain tag = (s.inject { PktHdr.unpack d.1 with vc := 0 } d.2.1).getD s) ∧
  (∀ (s : State) (b : BitVec 128) (data : List (BitVec 8)), let h := PktHdr.unpack b
    h.type = 5 → h.dest = s.coord →
    let put := (s.applyDelta h.dpa (fitBytes 64 data) (decide (h.status = 1))).reply h 4 0 []
    (s.pool.rebuild.st ≠ 2 ∨ s.rebuildPlace h.dpa = 2 → exec (.delta b data) s = .next put) ∧
    (s.pool.rebuild.st = 2 → s.rebuildPlace h.dpa = 0 → exec (.delta b data) s = .next (s.reply h 4 0 [])) ∧
    (s.pool.rebuild.st = 2 → s.rebuildPlace h.dpa = 1 → exec (.delta b data) s =
      .next (({ s with pool := { s.pool with rebuild := { s.pool.rebuild with heldD := s.pool.rebuild.heldD ++ [(b, data)] } } } : State).reply h 4 0 []))) ∧
  (∀ (s : State) (dpa : Nat) (delta : List (BitVec 8)), s.fatalAt dpa = false → s.isPoison (dpa / 64) = false →
    s.applyDelta dpa delta false =
      (s.enqueueBe 8 4 true 64 dpa .none).storeStored (dpa / 64) (xorBytes (s.storedBytes (dpa / 64)) delta) ∧
    (s.applyDelta dpa delta true).isPoison (dpa / 64) = true) ∧
  (∀ (s : State) (b : BitVec 128) (data : List (BitVec 8)), let h := PktHdr.unpack b
    h.type = 6 → h.dest = s.coord →
    exec (.chunk b data) s = .next (((List.range (h.units / 4)).foldl (fun u i =>
      let line := h.dpa / 64 + i
      let d := fitBytes 64 ((data.drop (64 * i)).take 64)
      if u.pool.rebuild.st = 1 ∨ u.pool.rebuild.st = 2 then (if h.status = 1 then u.poisonLine line else u.storeRebuilt line d)
      else u.emit (.readerData (.pool (BitVec.ofNat 6 h.src) (BitVec.ofNat 16 h.tag)) (line * 64)
        (xorBytes d ((u.storedBytes line).map (fun x => BitVec.ofNat 8 (gfMul (u.chunkCoef (line * 64) h.coef) x.toNat))))
        (u.isPoison line || decide (h.status = 1)))) s).reply h 4 0 [])) ∧
  (∀ (s : State) (line : Nat) (d : List (BitVec 8)), d.length = 64 → s.fatalAt (line * 64) = false →
    let t := s.storeRebuilt line d
    SameBytesBut s t (line * 64) 64 ∧ ∀ i, i < 64 → Mem.get t.med.mem (line * 64 + i) = d.getD i 0) ∧
  (∀ (s : State) (b : BitVec 128) (a : RingArrival), let h := PktHdr.unpack b
    h.dest = s.coord →
    (h.type = 7 → exec (.ringBarrierArrival b a) s = .next { s with ctxs := s.ctxs.map (fun (p : Nat × Ctx) =>
      if bits p.2.entry 287 272 = a.group.toNat && bits p.2.entry 7 0 = h.tenant && (s.partners p.1).contains h.src then
        (p.1, { p.2 with arrivals := p.2.arrivals ++ [(BitVec.ofNat 6 h.src, a.seq, a.barrier)] }) else p) }) ∧
    (h.type = 8 → exec (.notice b a) s = .next (s.takeNotice h a) ∧
      (∀ k x, s.ctxs = [(k, x)] → bits x.entry 287 272 = a.group.toNat → bits x.entry 7 0 = h.tenant → (s.partners k).contains h.src = true →
        s.ringSeq k ≠ a.seq →
        s.takeNotice h a = s.modCtx k (fun x => { x with notices := x.notices ++ [(a.seq, BitVec.ofNat 6 h.src)] })))) ∧
  (∀ (s : State) (b : BitVec 128) (r : BitVec 512), let h := PktHdr.unpack b
    h.type = 9 → h.dest = s.coord →
    let g := { FaultRec.unpack r with reporter := BitVec.ofNat 12 h.src, reporterKind := 1 }
    (g.count = 0 → exec (.digest b r) s = .next (s.submit g)) ∧ (g.count ≠ 0 → exec (.digest b r) s = .next (s.countReport g))) ∧
  (∀ (s : State) (b p : BitVec 128), let h := PktHdr.unpack b
    h.type = 10 → h.dest = s.coord →
    (bits p 7 0 = 1 → exec (.washDone b p) s = .next (({ s with tlb := { s.tlb with l2 := s.tlb.l2.filter (fun e =>
      e.locked || !(ppaCoord e.ppa = h.src && s.ctxTenant e.ctx = bits p 15 8)) } } : State).bump 64 0x6010 2)) ∧
    (bits p 7 0 ≠ 1 → exec (.washDone b p) s = .next s)) ∧
  (∀ (s : State) (tag : BitVec 16),
    (∀ r, s.pool.reqs.find? (fun r => r.tag = tag) = some r →
      exec (.poolRequestTimeout tag) s = .next ((s.requestLost (PktHdr.unpack r.hdr).dest r 15).finishRequest r none 15)) ∧
    (s.pool.reqs.find? (fun r => r.tag = tag) = none → exec (.poolRequestTimeout tag) s = .next (s.deltaAgain tag.toNat))) ∧
  (∀ (s : State) (b p : BitVec 128) (data : List (BitVec 8)) (a : RingArrival) (r : BitVec 512), let h := PktHdr.unpack b
    let is (i : Instr) (type : Nat) (d : List (BitVec 8)) : Prop :=
      (h.type ≠ type → exec i s = .next s) ∧
      (h.type = type → h.dest ≠ s.coord →
        (∀ t, s.forward h d none = some t → exec i s = .next t) ∧
        (s.forward h d none = none → type = 1 → exec i s = .next (s.reply h 2 3 [])) ∧
        (s.forward h d none = none → type = 3 ∨ type = 5 ∨ type = 6 → exec i s = .next (s.reply h 4 3 [])))
    is (.rd b) 1 [] ∧ is (.rdData b data) 2 data ∧ is (.wr b data) 3 data ∧ is (.wrAck b) 4 [] ∧ is (.delta b data) 5 data ∧
    is (.chunk b data) 6 data ∧ is (.ringBarrierArrival b a) 7 (ringUnit a.group.toNat a.seq.toNat a.barrier.toNat) ∧
    is (.notice b a) 8 (ringUnit a.group.toNat a.seq.toNat a.barrier.toNat) ∧ is (.digest b r) 9 (leBytes 64 r.toNat) ∧
    is (.washDone b p) 10 (leBytes 16 p.toNat))

/-- A write of a routing table that no packet of its epoch uses sets it with its reserved bits zero, a write of
ACTIVE_EPOCH of 0 or 1 sets it, and partners that have left and a rebuild that they end are looked for; others are refused with RANGE (R397,
R398). CONGESTION_SAMPLE counts each VC’s occupancy in its bin of one eighth, a read of CONGESTION_MAP answers the
forty counters and clears them (R399). REBUILD START with a ring key begins at MAP; with no ring key it is DENIED, a running rebuild, a ring of class S, and (log entry 168) a class M ring of fewer than 8 chips answer
STATE, a coordinate above 63 RANGE. ABORT returns to IDLE, or answers STATE (R410). REBUILD_MAP_DONE loads the tier map and the partitions from the map copy, ACTIVE ones as
STOPPED (log entry 167), and begins the copy. REBUILD_EXTENT_COMMIT commits a slot’s extent, applies the DELTAs held for it, and the last one makes the engine READY. REBUILD_POISONING_DONE poisons what is
not committed and writes REBUILD_FAILED. In other states these events change nothing. A rebuild that is READY and whose coordinate has become this chip’s is DONE (R410, R411, R413, R431). -/
def Obligations.RoutesCongestionAndRebuild : Prop :=
  (∀ (s : State) (c : Client) (tbl : Fin 2) (v : BitVec 512), s.serves c 0x5400 (6 + tbl.val) = true →
    (s.inFlight tbl.val = 0 → ∃ n, (∀ k, k < 64 → bitsAt n (8 * k + 7) (8 * k) = bits v (8 * k + 5) (8 * k) + (if bit v (8 * k + 7) then 128 else 0)) ∧
      exec (.routeTableWrite c tbl v) s = .next ((((s.modClient c id).setPar 0x5400 (6 + tbl.val) n).checkPartners.checkRebuild).answer c stOk 0)) ∧
    (s.inFlight tbl.val ≠ 0 → exec (.routeTableWrite c tbl v) s = .next ((s.modClient c id).answer c stRange 0))) ∧
  (∀ (s : State) (c : Client) (v : BitVec 8), s.serves c 0x5400 5 = true →
    (v.toNat ≤ 1 → exec (.activeEpochWrite c v) s =
      .next ((((s.modClient c id).setPar 0x5400 5 v.toNat).checkPartners.checkRebuild.updateReady).answer c stOk 0)) ∧
    (1 < v.toNat → exec (.activeEpochWrite c v) s = .next ((s.modClient c id).answer c stRange 0))) ∧
  (∀ s : State,
    (s.pool.rebuild.st = 4 → s.coord = s.pool.rebuild.lost.toNat →
      s.checkRebuild = { s with pool := { s.pool with rebuild := { s.pool.rebuild with st := 5 } } }) ∧
    (s.pool.rebuild.st = 4 → s.coord ≠ s.pool.rebuild.lost.toNat → s.checkRebuild = s) ∧
    (s.pool.rebuild.st ≠ 2 → s.pool.rebuild.st ≠ 4 → s.checkRebuild = s) ∧
    ((∀ v, v < 34 → ∀ id q, (s.vatAt v).wait ≠ .ring id q) → s.checkPartners = s)) ∧
  (∀ (s : State) (p : Fin 4),
    let bin (vc : Nat) : Nat := vc * 8 + Nat.min 7 (Tab.get (s.linkAt p.val).occ vc 0 * 8 / vcSize vc)
    ∃ g, exec (.congestionSample p) s = .next (s.modLink p.val (fun l => { l with congestion := g })) ∧
      (∀ vc, vc < 5 → Tab.get g (bin vc) 0 = (Tab.get (s.linkAt p.val).congestion (bin vc) 0 + 1) % 2 ^ 32) ∧
      ∀ j, (∀ vc, vc < 5 → j ≠ bin vc) → Tab.get g j 0 = Tab.get (s.linkAt p.val).congestion j 0) ∧
  (∀ (s : State) (c : Client) (p : Fin 4), s.reads c (0x5410 + p.val) 11 = true →
    exec (.congestionMapRead c p) s = .next (((s.modClient c id).modLink p.val (fun l => { l with congestion := [] })).answer c stOk
      (leNat ((List.range 40).flatMap (fun i => leBytes 4 (Tab.get (s.linkAt p.val).congestion i 0)))))) ∧
  (∀ (s : State) (c : Client) (lost lost2 : BitVec 8), s.serves c 0x5400 13 = true →
    let u := s.modClient c id
    let tells (st : Nat) (t : State) : Prop := exec (.rebuildStart c lost lost2) s = .next (t.answer c st 0)
    let may := s.pool.rebuild.st = 0 ∧ s.ringClass ≠ 0 ∧ ¬ (s.ringClass = 1 ∧ s.ringChips < 8)
    let keyed := s.ringClass = 0 ∨ s.sec.ringKey.isSome = true
    (¬ keyed → tells stDenied u) ∧ (keyed → ¬ may → tells stState u) ∧
    (keyed → may → 63 < lost.toNat ∨ 63 < lost2.toNat → tells stRange u) ∧
    (keyed → may → lost.toNat ≤ 63 → lost2.toNat ≤ 63 →
      let n : Rebuild := { (default : Rebuild) with
        st := 1, id := s.pool.rebuild.id + 1, lost := BitVec.ofNat 6 lost.toNat, lost2 := BitVec.ofNat 6 lost2.toNat }
      tells stOk ((({ u with pool := { s.pool with rebuild := n } } : State).setPar 0x5400 14 0).setPar 0x5400 15 s.rebuildTotal))) ∧
  (∀ (s : State) (c : Client), s.serves c 0x5400 13 = true →
    (s.pool.rebuild.st ≠ 0 → exec (.rebuildAbort c) s = .next (((({ (s.modClient c id) with pool := { s.pool with
      rebuild := { (default : Rebuild) with id := s.pool.rebuild.id, lost2 := 0x3F } } } : State).setPar 0x5400 14 0).setPar 0x5400 15 0).answer c stOk 0)) ∧
    (s.pool.rebuild.st = 0 → exec (.rebuildAbort c) s = .next ((s.modClient c id).answer c stState 0))) ∧
  (∀ s : State,
    let u := s.loadMap
    (s.pool.rebuild.st = 1 → exec .rebuildMapDone s =
      .next ({ u with pool := { u.pool with rebuild := { u.pool.rebuild with st := 2 } } } : State).fillSlots.checkRebuild) ∧
    (s.pool.rebuild.st ≠ 1 → exec .rebuildMapDone s = .next s) ∧ u.med.mem = s.med.mem ∧ u.pool = s.pool ∧
    (∀ e, e < s.dpaExtents → Tab.find? u.med.tier e = some (BitVec.ofNat 32 (s.mapBytes (4 * e) 4))) ∧
    (∀ n, n < 256 →
      let row := 0x700000 + 128 * n
      let st := s.mapBytes (row + 28) 1
      (u.tenantAt n).base = BitVec.ofNat 64 (s.mapBytes row 8) ∧ (u.tenantAt n).size = BitVec.ofNat 64 (s.mapBytes (row + 8) 8) ∧
      (u.tenantAt n).state = BitVec.ofNat 8 (if st = 2 then 1 else st))) ∧
  (∀ (s : State) (slot : Fin 8),
    (Tab.find? s.pool.rebuild.slots slot.val = none → exec (.rebuildExtentCommit slot) s = .next s) ∧
    (∀ v, Tab.find? s.pool.rebuild.slots slot.val = some v → s.pool.rebuild.st ≠ 2 ∨ bit v 22 = true → exec (.rebuildExtentCommit slot) s = .next s) ∧
    (∀ v, Tab.find? s.pool.rebuild.slots slot.val = some v → s.pool.rebuild.st = 2 → bit v 22 = false →
      let mine (d : BitVec 128 × List (BitVec 8)) : Bool := bits (s.entryAt (PktHdr.unpack d.1).dpa) 21 0 = bits v 21 0
      let s1 : State := { s with pool := { s.pool with rebuild := { s.pool.rebuild with
        slots := Tab.set s.pool.rebuild.slots slot.val (BitVec.ofNat 23 (bits v 21 0 + 2 ^ 22)),
        heldD := s.pool.rebuild.heldD.filter (fun d => !mine d) } } }
      let s2 := (s.pool.rebuild.heldD.filter mine).foldl (fun u d =>
        u.applyDelta (PktHdr.unpack d.1).dpa (fitBytes 64 d.2) (decide ((PktHdr.unpack d.1).status = 1))) s1
      let u := (State.advanceCursor 8 (s2.bump 32 0x5400 14)).fillSlots
      exec (.rebuildExtentCommit slot) s =
        .next (if u.rebuildTotal ≤ u.par 0x5400 14 then { u with pool := { u.pool with rebuild := { u.pool.rebuild with st := 4 } } } else u))) ∧
  (∀ (s : State) (n : Nat), s.pool.rebuild.st ≠ 3 → exec (.rebuildPoisoningDone n) s = .next s) ∧
  (∀ (s : State) (n : Nat), s.pool.rebuild.st = 3 →
    ∃ u : State, exec (.rebuildPoisoningDone n) s = .next (({ u with pool := { u.pool with rebuild := { u.pool.rebuild with st := 4 } } } : State).report
        kRebuildFailed 0 0 [(32, s.pool.rebuild.lost.toNat), (32, s.pool.rebuild.lost2.toNat), (32, n)]) ∧
      u.pool.rebuild = s.pool.rebuild ∧ (∀ l, s.isPoison l = true → u.isPoison l = true) ∧
      (∀ e p i, e < s.dpaExtents → p ∈ s.pool.rebuild.slots → bit p.2 22 = false → bits (s.tierEntry e) 21 0 = bits p.2 21 0 →
        i < 32768 → s.fatalAt ((e * 32768 + i) * 64) = false → u.isPoison (e * 32768 + i) = true) ∧
      (∀ e j t r i, e < s.dpaExtents → s.pool.rebuild.next ≤ j → j < s.rebuildTotal → s.rebuildExtent j = some (t, r) →
        bits (s.tierEntry e) 21 0 = s.rankMedia t r + t * 2 ^ 21 →
        i < 32768 → s.fatalAt ((e * 32768 + i) * 64) = false → u.isPoison (e * 32768 + i) = true))

/-- BROWN_OUT, OVERVOLTAGE, FAST_OVERCURRENT, TIMED_OVERCURRENT and THERMAL_TRIP with the gate on turn it off, latch it
where they must, and leave the chip in a cold reset with their cause; with the gate off they change nothing, but that THERMAL_TRIP is seen (R475, R476, R489, R492). GATE_ON of a gate that is off and
not latched starts the chip; PRST_N_ASSERT ends a latch (R477), else is a source of reset; PRST_N_RELEASE lets the bring-up go on (R494, R499). POWER_ON_RESET, PRST_N_ASSERT, CROSSBAR_DEADLOCK, DEBUG_REQUEST in MANUFACTURE or RMA, and RESET_CHIP, which is
answered first, are sources of a chip reset of their kind (R420, R492, R505): it joins a reset that runs, or makes it its own stronger kind; a stopped bring-up takes only sources 1 to 4; work stops first; memory is held only
from RELEASED, ACTIVE or the verify of memory held (R492, R493, R503). SID_POWER_UP starts the time base at 0 with the gate off (R515). RESET_TENANT, RESET_CONTEXT, RESET_VAT, RESET_HOST_PORT and RESET_POOL_LINK
reset their scope (R505, R506); BLOCK_RESET_RELEASE lifts the isolation (R496). A held reset keeps every byte of
memory, any other lists none (R491; what a byte reads before the fill is log entry 5). -/
def Obligations.SupplyPinsAndResets : Prop :=
  (∀ s : State, s.pwr.gateOn = true →
    let off (i : Instr) (event cause : Nat) (latch : Bool) : Prop := ∃ t, exec i s = .next t ∧ t.pwr.gateOn = false ∧ t.pwr.latched = latch ∧
      t.pwr.gateRec = true ∧ t.rst.phase = .reset ∧ t.rst.kind = .cold ∧ t.rst.cause = BitVec.ofNat 8 cause ∧ t.med.mem = [] ∧
      t.par 0x2000 7 = event ∧ t.out = .gate false :: s.out
    off .brownOut 1 2 false ∧ off .overvoltage 2 2 false ∧ off .fastOvercurrent 3 3 true ∧ off .timedOvercurrent 4 3 true ∧
    off .thermalTrip 5 3 true) ∧
  (∀ s : State, s.pwr.gateOn = false →
    exec .brownOut s = .next s ∧ exec .overvoltage s = .next s ∧ exec .fastOvercurrent s = .next s ∧ exec .timedOvercurrent s = .next s ∧
    exec .thermalTrip s = .next { s with pwr := { s.pwr with thermtrip := true } } ∧ exec .powerOnReset s = .next s) ∧
  (∀ s : State,
    (s.pwr.gateOn = false → s.pwr.latched = false →
      exec .gateOn s = .next (({ s with pwr := { s.pwr with gateOn := true, latched := false }, out := .gate true :: s.out } : State).leaveReset)) ∧
    (s.pwr.gateOn = true ∨ s.pwr.latched = true → exec .gateOn s = .next s)) ∧
  (∀ s : State,
    let s1 : State := { s with rst := { s.rst with prstLow := true }, pwr := { s.pwr with thermtrip := false } }
    (s.pwr.latched = true → exec .prstNAssert s = .next (s1.turnOn.mergeSource 4) ∧ (s1.turnOn.mergeSource 4).pwr.gateOn = true) ∧
    (s.pwr.latched = false → s.pwr.gateOn = false → exec .prstNAssert s = .next s1) ∧
    (s.pwr.latched = false → s.pwr.gateOn = true → exec .prstNAssert s = .next (s1.chipReset s.prstKind 4)) ∧
    (s.pwr.gateOn = true → exec .powerOnReset s = .next (s.chipReset .cold 1)) ∧
    exec .crossbarDeadlock s = .next (s.chipReset s.prstKind 9) ∧
    (s.sec.lcState = 1 ∨ s.sec.lcState = 4 → exec .debugRequest s = .next (s.chipReset .warmLost 7)) ∧
    (s.sec.lcState ≠ 1 → s.sec.lcState ≠ 4 → exec .debugRequest s = .next s) ∧
    s.prstKind = (if s.option 143 143 = 1 then .warmHeld else .warmLost)) ∧
  (∀ (s : State) (c : Client), s.serves c 0x7C20 6 = true →
    let u := s.modClient c id
    (s.rst.entry = false →
      exec (.resetChip c true) s = .next ((u.answer c stOk 0).chipReset .warmHeld 6) ∧
      exec (.resetChip c false) s = .next ((u.answer c stOk 0).chipReset .warmLost 6)) ∧
    (s.rst.entry = true → ∀ hold, exec (.resetChip c hold) s = .next (u.answer c stBusy 0))) ∧
  (∀ (s : State) (kind : ResetKind) (src : Nat),
    let runs := s.rst.phase = .reset ∨ s.rst.entry = true
    let holds := s.rst.phase = .released ∨ s.rst.phase = .active ∨ (s.rst.phase = .verify ∧ s.rst.kind = .warmHeld)
    (runs → s.rst.kind.strength < kind.strength →
      s.chipReset kind src = s.assertReset kind src (s.rst.sources ||| BitVec.ofNat 16 (2 ^ src)).toNat) ∧
    (runs → kind.strength ≤ s.rst.kind.strength →
      s.chipReset kind src = { s with rst := { s.rst with sources := s.rst.sources ||| BitVec.ofNat 16 (2 ^ src) } }) ∧
    (¬ runs → s.rst.phase = .stopped → ¬ (1 ≤ src ∧ src ≤ 4) → s.chipReset kind src = s) ∧
    (¬ runs → s.rst.phase ≠ .stopped ∨ (1 ≤ src ∧ src ≤ 4) →
      (kind = .cold → s.chipReset kind src = s.assertReset .cold src (2 ^ src)) ∧
      (kind = .warmLost → s.chipReset kind src = s.stopWork.assertReset .warmLost src (2 ^ src)) ∧
      (kind = .warmHeld → ¬ holds → s.chipReset kind src = s.stopWork.assertReset .warmLost src (2 ^ src)) ∧
      (kind = .warmHeld → holds → s.chipReset kind src = ({ s with rst := { s.rst with
        entry := true, kind := .warmHeld, cause := BitVec.ofNat 8 src, sources := BitVec.ofNat 16 (2 ^ src) } } : State).enterHeld))) ∧
  (∀ s : State,
    (s.rst.phase = .reset → s.pwr.gateOn = true →
      ∃ t, exec .prstNRelease s = .next t ∧ SameBytes s t ∧ t.rst.prstLow = false ∧
        t.rst.phase = (if s.rst.kind = .cold then .options else .pll)) ∧
    (s.rst.phase ≠ .reset ∨ s.pwr.gateOn = false → exec .prstNRelease s = .next { s with rst := { s.rst with prstLow := false } })) ∧
  (∀ s : State, ∃ t, exec .sidPowerUp s = .next t ∧ t.clk = default ∧ t.pwr.gateOn = false ∧ t.rst.phase = .reset ∧ t.rst.kind = .cold ∧ t.od = []) ∧
  (∀ (s : State) (kind : ResetKind) (cause sources : Nat), let t := s.assertReset kind cause sources
    t.rst.cause = BitVec.ofNat 8 cause ∧ t.rst.sources = BitVec.ofNat 16 sources ∧ t.rst.kind = kind ∧
    (kind = .warmHeld → SameBytes s t) ∧ (kind ≠ .warmHeld → t.med.mem = []) ∧
    (kind ≠ .cold → t.opt.inUse = s.opt.inUse) ∧ (∀ k, (t.ctxAt k).state = 0)) ∧
  (∀ (s : State) (c : Client), s.serves c 0x7C20 6 = true →
    let u := s.modClient c id
    (∀ t : Fin 256, exec (.resetTenant c t) s = .next ((u.resetTenantWork t.val).answer c stOk 0)) ∧
    (∀ k : Fin 1024, exec (.resetContext c k) s = .next ((u.resetContext k.val).answer c stOk 0)) ∧
    (∀ v : Fin 34, exec (.resetVat c v) s = .next ((u.resetVat v.val).answer c stOk 0)) ∧
    (∀ p : Fin 4, exec (.resetHostPort c p) s = .next ((u.resetHostPort p).answer c stOk 0)) ∧
    (∀ p : Fin 4, exec (.resetPoolLink c p) s = .next ((u.resetLink p).answer c stOk 0))) ∧
  (∀ (s : State) (v : Fin 34), exec (.blockResetRelease (.vat v)) s = .next (s.modVat v.val (fun x => { x with isolated := none }))) ∧
  (∀ (s : State) (b : Block), (∀ v, b ≠ .vat v) → exec (.blockResetRelease b) s =
    .next { s with rst := { s.rst with isolated := s.rst.isolated.filter (fun x => x ≠ b) } })

/-- WARM_ENTRY_DONE asserts the held reset, WARM_ENTRY_TIMEOUT one that loses memory and reports the fallback (R497,
R498). OPTIONS_READ_DONE takes the valid copy, the newer of two, the defaults with a record where none is valid, and sets the fixed rails
(R456, log entry 187). PLL_LOCKED starts training in a cold bring-up and verify in a warm one, PLL_LOCK_TIMEOUT stops (R499).
HBM_TRAINING_DONE goes on, tries the next lower rate, or stops (R60); DDR_TRAINING_DONE brings up each channel whose listed module trains at
some rate, shows its status, rate and erased device (0xFF: none), builds the tier map and fills (R61, R43; log entries 169, 170); VERIFY_DONE releases a held memory, fills a lost one, or, where a slice that is not fatal fails, trains again (R62, log entry 172). HBM_FILL_DONE and FILL_DONE
leave zeros (R138, R500), and SERVICE_STATE_LOADED makes the machine ACTIVE (R356). In other states these events change nothing. -/
def Obligations.BringUpMachine : Prop :=
  (∀ s : State,
    (s.rst.entry = true →
      exec .warmEntryDone s = .next (s.assertReset .warmHeld s.rst.cause.toNat s.rst.sources.toNat) ∧
      exec .warmEntryTimeout s = .next ((s.assertReset .warmLost (s.rst.cause.toNat % 128 + 128) s.rst.sources.toNat).bump 32 0x7C20 8)) ∧
    (s.rst.entry = false → exec .warmEntryDone s = .next s ∧ exec .warmEntryTimeout s = .next s)) ∧
  (∀ s : State, s.rst.phase = .options →
    let v0 := optionValid s.opt.copy0 s.opt.commit0
    let v1 := optionValid s.opt.copy1 s.opt.commit1
    let take (r : BitVec 2048) (one : Bool) : Prop := exec .optionsReadDone s =
      .next (({ s with opt := { s.opt with inUse := r, used := one } } : State).fixRails.enterPhase .pll)
    (v0 = true → v1 = false → take s.opt.copy0 false) ∧ (v0 = false → v1 = true → take s.opt.copy1 true) ∧
    (v0 = true → v1 = true → newerOne s.opt.copy0 s.opt.copy1 = true → take s.opt.copy1 true) ∧
    (v0 = true → v1 = true → newerOne s.opt.copy0 s.opt.copy1 = false → take s.opt.copy0 false) ∧
    (v0 = false → v1 = false → ∃ t, exec .optionsReadDone s = .next t ∧ SameBytes s t ∧ t.rst.phase = .pll ∧ t.opt.inUse = defaultOptions ∧
      (s.running = false → ∃ r, t.flt.deferred = s.flt.deferred ++ [r]))) ∧
  (∀ s : State, s.fixRails.out = .regulator 4 750 :: .regulator 3 (Config.hbmRail 3) :: .regulator 2 (Config.hbmRail 2) :: s.out) ∧
  (∀ s : State, s.rst.phase = .pll →
    (∃ t, exec .pllLocked s = .next t ∧ SameBytes s t ∧
      (s.rst.kind = .cold ∨ s.rst.trained = false → t.rst.phase = .trainHbm ∧ t.par 0x3000 1 = hbmRate (s.option 145 144)) ∧
      (s.rst.kind ≠ .cold → s.rst.trained = true → t.rst.phase = .verify) ∧
      (s.pool.broken = false → s.poolClockBad = false → ∀ p, p < 4 → s.linkEnabled p = true → (s.linkAt p).st = .down →
        (t.linkAt p).st = .training)) ∧
    (∃ t, exec .pllLockTimeout s = .next t ∧ SameBytes s t ∧ t.rst.phase = .stopped ∧ t.faultN = true)) ∧
  (∀ (s : State) (r : HbmTraining), s.rst.phase = .trainHbm →
    (r.ok = true → ∃ t, exec (.hbmTrainingDone r) s = .next t ∧ SameBytes s t ∧ t.rst.phase = .trainDdr ∧
      (∀ k, k < 32 → (t.sliceAt k).trained = true ∧ (t.sliceAt k).fatal = false) ∧
      ∀ k, k < 8 → t.par (0x3100 + k) 1 = 1 ∧ t.par (0x3100 + k) 2 = r.repaired.getD k 0 % 2 ^ 16) ∧
    (r.ok = false →
      (s.par 0x3000 1 = 8000 → exec (.hbmTrainingDone r) s = .next (s.setPar 0x3000 1 7200)) ∧
      (s.par 0x3000 1 = 7200 → exec (.hbmTrainingDone r) s = .next (s.setPar 0x3000 1 6400)) ∧
      (s.par 0x3000 1 ≠ 8000 → s.par 0x3000 1 ≠ 7200 → exec (.hbmTrainingDone r) s = .next s.bringUpStops))) ∧
  (∀ (s : State) (r : List DdrTraining), s.rst.phase = .trainDdr →
    let up (c : Nat) : Option (Nat × Nat) := match r.getD c .empty with
      | .single d fails => if dimmListed d then trainRates d fails (dimmRates d (s.option 175 160)) else none
      | _ => none
    ∃ t, exec (.ddrTrainingDone r) s = .next t ∧ SameBytes s t ∧ t.rst.phase = .fill ∧ t.med.valid = true ∧ t.med.tier = [] ∧
      t.rst.trained = true ∧
      ∀ c, c < 12 → (t.sliceAt (32 + c)).trained = (up c).isSome ∧ (t.sliceAt (32 + c)).fatal = false ∧
        t.par (0x3110 + c) 1 = (if (up c).isSome then 1 else if r.getD c .empty = .empty then 0 else 2) ∧
        t.par (0x3110 + c) 3 = ((up c).getD (0, 0xFF)).1 ∧ t.par (0x3110 + c) 5 = ((up c).getD (0, 0xFF)).2) ∧
  (∀ s : State, s.rst.phase = .trainDdr ∨ s.rst.phase = .fill →
    exec .hbmFillDone s = .next { s with rst := { s.rst with hbmDone := true } }) ∧
  (∀ (s : State) (failing : Option Nat), s.rst.phase = .verify →
    (s.verifyFails failing = none →
      (s.rst.kind = .warmHeld → ∃ t, exec (.verifyDone failing) s = .next t ∧ SameBytes s t ∧ t.rst.phase = .released ∧ t.med.valid = true ∧
        t.med.tier = s.med.tier ∧ t.host.boot.state = 1 ∧ t.cx.active = .A) ∧
      (s.rst.kind ≠ .warmHeld → ∃ t, exec (.verifyDone failing) s = .next t ∧ t.rst.phase = .fill ∧ t.med.valid = true ∧ t.med.tier = [])) ∧
    (∀ n, s.verifyFails failing = some n →
      ∃ t, exec (.verifyDone failing) s = .next t ∧ t.rst.phase = .trainHbm ∧ t.med.mem = [] ∧ t.rst.trained = false)) ∧
  (∀ (s : State) (n : Nat), s.verifyFails none = none ∧
    s.verifyFails (some n) = (if n < 20 ∧ ∃ k, k ∈ verifySlices n ∧ (s.sliceAt k).fatal = false then some n else none)) ∧
  (∀ s : State, s.rst.phase = .fill →
    ∃ t, exec .fillDone s = .next t ∧ t.rst.phase = .released ∧ (∀ a, Mem.get t.med.mem a = 0) ∧ t.med.poison = [] ∧ t.med.parity = [] ∧
      t.host.boot.state = 1 ∧ t.cx.active = .A ∧ t.cx.a.st = .active) ∧
  (∀ s : State, s.rst.phase = .released → s.running = true →
    ∃ t, exec .serviceStateLoaded s = .next t ∧ SameBytes s t ∧ t.rst.phase = .active ∧ t.host.active = true) ∧
  (∀ s : State,
    (s.rst.phase ≠ .options → exec .optionsReadDone s = .next s) ∧
    (s.rst.phase ≠ .pll → exec .pllLocked s = .next s ∧ exec .pllLockTimeout s = .next s) ∧
    (s.rst.phase ≠ .trainHbm → ∀ r, exec (.hbmTrainingDone r) s = .next s) ∧
    (s.rst.phase ≠ .trainDdr → ∀ r, exec (.ddrTrainingDone r) s = .next s) ∧
    (s.rst.phase ≠ .trainDdr → s.rst.phase ≠ .fill → exec .hbmFillDone s = .next s) ∧
    (s.rst.phase ≠ .verify → ∀ n, exec (.verifyDone n) s = .next s) ∧
    (s.rst.phase ≠ .fill → exec .fillDone s = .next s) ∧
    (s.rst.phase ≠ .released ∨ s.running = false → exec .serviceStateLoaded s = .next s))
end

