-- ==== Sys2Proof/WellFormed.lean ====
section
/-! DEFINITION. Which commands are well formed: the lengths and numbers that the plain operand types do not bound. The
machine gives an effect to every command; these are the ones that the interfaces of the manual can carry. -/

namespace Sys2Proof

/-- R443: a message path holds one window of the 68. A line of 64 B (R305). -/
def lineSized (bs : List (BitVec 8)) : Bool := bs.length = 64

/-- R382, R392: a packet's data are whole units of 16 B, 256 B at most. -/
def packetSized (bs : List (BitVec 8)) : Bool := bs.length % 16 = 0 && bs.length ≤ 256

/-- R11, R374: data of one bus write: some bytes, at most 64. -/
def busSized (bs : List (BitVec 8)) : Bool := 1 ≤ bs.length && bs.length ≤ 64

/-- R69, R84: a best-effort request moves some bytes. -/
def BeSpec.wf (r : BeSpec) : Bool := 1 ≤ r.bytes

/-- R56, R61: the DQ lanes that training names: 40 of each of two subchannels. -/
def DdrTraining.wf : DdrTraining → Bool
  | .single _ fails => fails.all (fun f => f.lanes.all (fun l => l.1 < 2 && l.2 < 40))
  | _ => true

/-- Whether a command is well formed. -/
def Instr.wf : Instr → Bool
  | .beRequestArrival _ r => r.wf
  | .hostMemWrite _ _ _ data _ _ => lineSized data
  | .wrf _ _ data => lineSized data
  | .evict _ _ data => data.all lineSized
  | .snoopResponse _ _ data => data.all lineSized
  | .clearPoison _ _ data => lineSized data
  | .dataFlit _ _ ps => ps.all (fun p => packetSized p.2)
  | .rdData _ data => packetSized data
  | .wr _ data => packetSized data
  | .delta _ data => packetSized data
  | .chunk _ data => packetSized data
  | .odWrite _ _ data => data.length ≤ 28656
  | .download _ _ data => data.length ≤ 1024
  | .fwStage _ data => data.length ≤ 1048576
  | .coreTempSample rs => rs.length = 64
  | .avsMeasurement ts => ts.length = 6
  | .hbmTrainingDone r => r.repaired.length = 8
  | .ddrTrainingDone rs => rs.length = 12 && rs.all DdrTraining.wf
  | .bootApertureWrite _ data => busSized data
  | .windowRequestWrite _ _ data => busSized data
  | _ => true

end Sys2Proof
end

