-- ==== Sys2Proof/Tests/Slice0.lean ====
section
/-! SUPPORT. Tests: an ill-formed term for each check, worked examples of the manual, and for each statement with
hypotheses a theorem `witness_<statement>` with a state and operands that meet them. -/

namespace Sys2Proof
namespace Tests

open Sys2Proof.Machine

set_option Elab.async false

/-! ### States and helpers for the tests -/

/-- A client on the field network. -/
def tester : Client := { path := .field, key := 0 }

/-- The chip in service: powered, firmware running, MGMT_WRITE set. -/
def live : State :=
  { State.reset with
    host := { State.reset.host with boot := { (default : Boot) with state := 4 } }
    opt := { State.reset.opt with inUse := BitVec.ofNat 2048 (defaultOptions.toNat + 2 ^ 199) }
    rst := { State.reset.rst with phase := .active, prstLow := false } }

/-- Context 0 runs a plan on vat 0, which is in the state `x`. -/
def planOn (x : Vat) : State :=
  { live with
    vat := { live.vat with vats := [(0, { x with owner := some 0, activity := 1 })] }
    ctxs := [(0, { (default : Ctx) with state := 1, phase := .running, inv := some { (default : Inv) with header := BitVec.ofNat 1024 (2 ^ 48) } })]
    tlb := { live.tlb with l2 := [{ (default : L2Entry) with shift := 21, read := true, locked := true }] } }

/-- The plan after a bundle issued at cycle 0. -/
def issued (x : Vat) (w : Nat) : State :=
  planOn { x with word := BitVec.ofNat 256 w, todo := bundleActs (BitVec.ofNat 256 w), base := some 0, firstCyc := some 0 }

/-- At cycle 0 commands of an operation find a slot on vat 0, and its context, word and state pass a check. -/
def acts (s : State) (slots : List Nat) (op : Nat) (f : Nat → Nat → State → Bool) : Bool :=
  match s.slotReady 0 0 slots op with
  | some q => decide (q.2.2.med = s.med) && f q.1 q.2.1 q.2.2
  | none => false

theorem acts_issues {s : State} {slots : List Nat} {op : Nat} {f : Nat → Nat → State → Bool} (h : acts s slots op f = true) :
    ∃ k w u, s.issues 0 0 slots op k w u ∧ f k w u = true := by
  unfold acts at h
  cases hq : s.slotReady 0 0 slots op with
  | none => simp [hq] at h
  | some q =>
    simp [hq] at h
    exact ⟨q.1, q.2.1, q.2.2, ⟨hq, h.1⟩, h.2⟩

/-- A line against which nothing stands, as a check. -/
def plain (s : State) (line : Nat) : Bool :=
  s.fatalAt (line * 64) = false && s.isPoison line = false && (s.lineWords line).all (fun w => decide (s.decodeWord w [] = .data []))
    && decide (s.mergeEntry line = none) && decide (s.recordOf line = none) && s.pageLocked (pageOf (line * 64)) = false
    && [2 * line, 2 * line + 1].all (fun h => decide (s.writtenKey h = none ∨ s.writtenKey h = some (s.keyOf (h * 32))))
    && (s.pool.broken || (s.parityHolders (line * 64)).all (fun h => h.1 ≠ s.coord))

theorem plain_line {s : State} {line : Nat} (h : plain s line = true) :
    s.intact line ∧ s.ownKey line ∧ s.open_ line ∧ s.parityElsewhere line := by
  simp only [plain, Bool.and_eq_true, List.all_eq_true, decide_eq_true_eq, Bool.or_eq_true] at h
  obtain ⟨⟨⟨⟨⟨⟨⟨h1, h2⟩, h3⟩, h4⟩, h5⟩, h6⟩, h7⟩, h8⟩ := h
  refine ⟨⟨⟨h1, h2, h3⟩, h4⟩, fun x hx => h7 x (by simpa using hx), ⟨h1, h5, h6⟩, h8⟩

/-! ### Ill-formed commands are refused -/

theorem test_wf_be_request : (Instr.beRequestArrival 0 { port := 0, write := false, bytes := 0, dpa := 0, tenant := none, device := false, wash := false }).wf = false := by
  decide +kernel
theorem test_wf_host_lines :
    (Instr.hostMemWrite 0 0 0 (List.replicate 63 0) 0 false).wf = false ∧ (Instr.wrf .buffer 0 (List.replicate 65 0)).wf = false ∧
    (Instr.evict .buffer 0 (some [])).wf = false ∧ (Instr.snoopResponse .buffer 0 (some [1])).wf = false ∧
    (Instr.clearPoison 0 0 [1]).wf = false := by
  decide +kernel
theorem test_wf_packets :
    (Instr.dataFlit 0 ⟨0, 0, false, 0, 0⟩ [(0, List.replicate 15 0)]).wf = false ∧ (Instr.rdData 0 (List.replicate 17 0)).wf = false ∧
    (Instr.wr 0 (List.replicate 272 0)).wf = false ∧ (Instr.delta 0 [1]).wf = false ∧ (Instr.chunk 0 [1]).wf = false := by
  decide +kernel
theorem test_wf_messages :
    (Instr.odWrite tester 0 (List.replicate 28657 0)).wf = false ∧ (Instr.download tester 0 (List.replicate 1025 0)).wf = false ∧
    (Instr.fwStage tester (List.replicate 1048577 0)).wf = false := by
  simp only [Instr.wf, List.length_replicate]; decide
theorem test_wf_sensors :
    (Instr.coreTempSample []).wf = false ∧ (Instr.avsMeasurement [1, 2, 3, 4, 5]).wf = false := by
  decide +kernel
/-- A 64 GiB RDIMM of two package ranks, x4. -/
def rdimm : Dimm := { mrdimm := false, ecc := true, ranks := 2, dies := 1, x8 := false, gib := 64 }
theorem test_wf_training :
    (Instr.hbmTrainingDone ⟨true, []⟩).wf = false ∧ (Instr.ddrTrainingDone []).wf = false ∧
    (Instr.ddrTrainingDone (.single rdimm [⟨6400, [(2, 0)], false⟩] :: List.replicate 11 .empty)).wf = false := by
  decide +kernel
theorem test_wf_bus :
    (Instr.bootApertureWrite 0 []).wf = false ∧ (Instr.windowRequestWrite 0 0 (List.replicate 65 0)).wf = false := by
  decide +kernel
theorem test_wf_good : (Instr.wrf .buffer 0 (List.replicate 64 0)).wf = true ∧ (Instr.slotBoundary []).wf = true := by decide

/-! ### Worked examples of the manual -/

/-- 02, "Worked example": the extent entry 0x04C0_9611 takes DPA 0xA0_0123_4C80 to slice 9 at offset 0x9611_1C80. -/
theorem test_tier_map_example :
    let s : State := { live with med := { live.med with tier := [(327689, 0x04C09611)] } }
    s.locate 0xA001234C80 = (9, 0x96111C80) ∧ ppaCoord 0x4C0A001234C80 = 19 ∧ ppaDpa 0x4C0A001234C80 = 0xA001234C80 := by
  decide +kernel

/-- 03, after R52: slice-local offset 0x9611_1C80 is pseudo-channel 14, bank group 0, bank 1, row 9604, so channel 15,
pseudo-channel 0 of stack 2, byte 128 of the column. -/
theorem test_hbm_bank_example : hbmPseudo 0x96111C80 = 14 ∧ hbmBank 0x96111C80 = (0, 1, 9604) ∧
    (let s : State := { live with med := { live.med with tier := [(327689, 0x04C09611)] } }
     s.mediaAddr 0xA001234C80 = .hbm 2 15 0 0 1 9604 0 128) := by decide +kernel

/-- 04, after R101: a request of class 2 (weight 4, overhead 256) with 2048 B has tag 576, the next one 1152 (kept in 1/256). -/
theorem test_wfq_tags_example :
    let s : State := { live with cal := { live.cal with qosEff := [(0x3410 * 256 + 3, 4)] } }
    (s.finishTag 0 2 2048).toNat = 576 * 256 ∧
    (s.modSlice 0 (fun x => { x with finish := [(2, BitVec.ofNat 40 (576 * 256))] })).finishTag 0 2 2048 = BitVec.ofNat 40 (1152 * 256) := by
  decide +kernel

/-- 07, "Worked quantisation": the five elements and the scale code 0x7EC of an Ochre4 group. -/
theorem test_quantisation_example :
    let xs := ([0x40A33333, 0xBECCCCCD, 0x3FA80000, 0x3F280000, 0x400C28F6] ++ List.replicate 27 0 : List (BitVec 32)).map f32
    let q := (quantGroup 14 xs 0 true (List.replicate 32 0)).1
    q.1.take 5 = [7, 9, 3, 2, 5] ∧ q.2 = 0x7EC := by
  decide +kernel

/-- 13, after R364: window 3 with SLOT_LOG2 16 has SEQ 37 at header 0x45_1000, with the IV bytes of the example. -/
theorem test_glaze_slot_example :
    let s : State := { live with
      od := [(0x5103 * 256 + 1, 9), (0x5103 * 256 + 2, 0x400000), (0x5103 * 256 + 3, 16), (0x5103 * 256 + 4, 16)]
      tenants := [(9, default)]
      host := { live.host with glaze := [(3, { key := none, inNext := 37, outNext := 1, inCount := 0, outCount := 0, armed := false })] } }
    s.glazeHeader 3 = 0x451000 ∧ leBytes 12 (glazeIv 3 false 37).toNat = [3, 0, 0, 0, 0x25, 0, 0, 0, 0, 0, 0, 0] := by
  decide +kernel

/-- 14, after R388: with 3596-499 outstanding an ACK_SEQ of 200 frees 701 flits, and one of 3000 frees none. -/
theorem test_ack_example :
    let fs : List HeldFlit := (List.range 1000).map (fun i => { seq := BitVec.ofNat 12 (3596 + i), packets := [] })
    let s : State := { live with pool := { live.pool with links := [(0, { (default : Link) with st := .down, buffer := fs })] } }
    let h (n : Nat) : FlitHeader := { seq := 0, ackSeq := BitVec.ofNat 12 n, ackValid := true, creditVc := 0, credit := 0 }
    ((s.takeAck 0 (h 200)).linkAt 0).buffer.length = 299 ∧ ((s.takeAck 0 (h 3000)).linkAt 0).buffer.length = 1000 := by
  decide +kernel

/-- 16, after R450: the gate write of the example is answered with the bytes 01 32 31 00 45 34 04 00 and zeros. -/
theorem test_message_example :
    let s : State := { live with cal := { live.cal with slices := [(5, { (default : Slice) with trained := true })] } }
    let h : BitVec 128 := BitVec.ofNat 128 (leNat [0x01, 0x12, 0x31, 0x00, 0x45, 0x34, 0x04, 0x00, 0, 0, 0, 0, 0x08, 0, 0, 0])
    let data : List (BitVec 8) := [0x00, 0xE0, 0x03, 0x1C, 0x01, 0, 0, 0]
    (match exec (.odWrite tester h data) s with
      | .next t => decide (Tab.get (t.sliceAt 5).gates 3 0 = 0x000000011C03E000 ∧
          t.out = [.odResponse tester (BitVec.ofNat 128 (leNat [0x01, 0x32, 0x31, 0x00, 0x45, 0x34, 0x04, 0x00])) []])
      | _ => false) = true := by
  decide +kernel

/-- 09, after R259: the block, summary and tail addresses of position 4,194,303 of model M-A. -/
theorem test_kv_addresses_example :
    let k : KvLayout := { kvLayout 0 with layers := 64, heads := 8, dim := 128, split := 8, share := 7, fmtWarm := 14, warmCap := 2048 }
    k.chipOf 4194303 = 7 ∧ k.localOf 4194303 = 2047 ∧ k.laneBytes .warm = 0x46000000 ∧ k.blockVa .warm 10 5 2047 = 0x885C17400 ∧
    k.summaryVa .warm 10 5 2047 = 0x8C55FFE00 ∧ k.tailVa 10 5 4194303 = 0xABFE00 := by
  decide +kernel

/-- FIPS 180-4: SHA-512 of "abc"; SP 800-38D: the tag of no text under an all-zero AES-256 key and IV (both published examples). -/
theorem test_published_vectors :
    beNat (sha512Bytes [0x61, 0x62, 0x63]) = 0xddaf35a193617abacc417349ae20413112e6fa4e89a97ea20a9eeee64b55d39a2192992a274fc1a836ba3c23a3feebbd454d4423643ce80e2a9ac94fa54ca49f ∧
    beNat (gcmSeal 0 0 [] []) = 0x530f8afbc74536b9a963b4f1c4cb738b := by
  decide +kernel

/-! ### Witnesses: a state and operands that meet the hypotheses of each statement -/

theorem witness_StepTakesTheFront : State.reset.pending = [] := rfl

theorem witness_EveryStepKeepsMemoryCanonical :
    ({ live with pending := [.slotBoundary []], med := { live.med with mem := [(5, 1)] } } : State).MemoryCanonical ∧
    ∃ t, step { live with pending := [.slotBoundary []], med := { live.med with mem := [(5, 1)] } } = .next t :=
  ⟨by unfold State.MemoryCanonical; decide +kernel, _, rfl⟩

theorem witness_CommandsThatSpareMemory :
    (Instr.complexHeartbeat .A).sparesMemory = true ∧ ∃ t, exec (.complexHeartbeat .A) live = .next t := ⟨by decide, _, rfl⟩

theorem witness_TierMapOverResets :
    let s (p : BringUp) (k : ResetKind) : State := { live with rst := { live.rst with phase := p, kind := k } }
    ((s .verify .warmHeld).rst.phase = .verify ∧ (s .verify .warmHeld).rst.kind = .warmHeld) ∧
    ((s .verify .warmLost).rst.phase = .verify ∧ (s .verify .warmLost).rst.kind ≠ .warmHeld) ∧ (s .trainDdr .cold).rst.phase = .trainDdr := by
  decide +kernel

/-- The chip in service with port 0 of the ring in a state. -/
def linkIn (st : LinkSt) : State := { live with pool := { live.pool with links := [(0, { (default : Link) with st := st })] } }

theorem witness_LinkWidthAfterTraining :
    ((linkIn .training).linkAt 0).st = .training ∧ (linkIn .training).rst.isolated.contains (.link 0) = false ∧
    (16 ≤ 16 ∧ 8 ≤ 15 ∧ 15 < 16 ∧ 4 ≤ 7 ∧ 7 < 8 ∧ 3 < 4) := by
  decide +kernel

theorem witness_SlotBoundaryMovesTheCalendar : live.clk.holdTo = none ∧
    ({ live with cal := { live.cal with slot := 2047, corr := -1 } } : State).clk.holdTo = none := by decide +kernel

/-- A best-effort request of 64 B. -/
def ask (port : Fin 10) (dpa : BitVec 46) : BeSpec := { port := port, write := false, bytes := 64, dpa := dpa, tenant := none, device := false, wash := false }
/-- A request that waits in a bank queue. -/
def waiting (port level : Nat) (write : Bool) (hold : Hold) : BeReq :=
  { id := 7, cls := 0, port := port, write := write, bytes := 64, dpa := 0, bank := 0, row := 0, tag := 0, level := level, passes := 0,
    arrived := 0, hold := hold, work := .none }
/-- Slice 0 with that request, at a time. -/
def queued (now port level : Nat) (write : Bool) : State :=
  let s := live.modSlice 0 (fun x => { x with beq := [waiting port level write (.overflow 1023 [2])] })
  { s with clk := { s.clk with now := now } }

theorem witness_SliceQueuesAndRowCounts :
    (live.sliceOf 0 = 0 ∧ live.sliceOf 0 ≠ 1 ∧ ((queued 0 6 0 false).sliceAt 0).beq.any (fun q => q.port = 6) = true ∧
      (live.sliceAt 0).beq.any (fun q => q.port = 6) = false) ∧
    ((live.bankRow 0).1 = 0 ∧ (live.bankRow 0).2 = 0 ∧ ((queued 0 0 0 true).sliceAt 0).beq.any (fun p => p.write && p.bank = 0 && p.row = 0) = true) ∧
    (let s (now : Nat) : State := queued now 1 1 false
     ((s 0).sliceAt 0).beq.find? (fun q => q.id = 7) = some (waiting 1 1 false (.overflow 1023 [2])) ∧ (s 0).par 0x3050 2 = 500 ∧
      urgencyOf 249 500 = 0 ∧ urgencyOf 250 500 = 1 ∧ urgencyOf 375 500 = 2 ∧ urgencyOf 449 500 = 2 ∧ urgencyOf 450 500 = 3) := by
  decide +kernel

/-- Line 0 was written under the device key. -/
def written : State := { live with med := { live.med with mem := [(3, 9)], keyTag := [(0, 256), (1, 256)] } }
/-- That line under poison. -/
def poisoned : State := { written with med := { written.med with poison := [0] } }
/-- That line with symbol errors that its media have stored. -/
def upset (e : SymErrors) : State := { written with med := { written.med with serr := [(0, e)] } }

theorem written_plain : plain written 0 = true := by decide +kernel

theorem witness_MediaReadsReachTheirReader :
    (written.fatalAt (written.wordBase 0) = false ∧ (written.decodeLine 0 []).all (fun p => decide (p.2 = .data []) && (written.eccMode p.1).beyond [] = []) = true ∧
      written.intact 0 ∧ written.ownKey 0 ∧ written.med.escEng.any (fun p => p.2.req.page = pageOf 0 && !p.2.wback) = false) ∧
    (let f := written.modSlice 0 (fun x => { x with fatal := true }); f.fatalAt (f.wordBase 0) = true) ∧
    (poisoned.fatalAt (poisoned.wordBase 0) = false ∧ (poisoned.decodeLine 0 []).any (fun p => p.2 = .poison) = true) ∧
    (written.par 0x3840 1 ≠ 0 ∧ (written.sliceAt 0).fatal = false ∧ (Tab.get written.med.scrub 0 default).done < written.sliceWords 0 ∧
      written.locate (written.wordBase 0) = (0, 0 * written.wordBytes 0)) ∧
    ((written.decodeWord 0 [] = .data [] ∧ (written.eccMode 0).beyond [] = []) ∧
      (written.decodeWord 0 [(0, 1)] = .data [(0, 1)] ∧ (written.eccMode 0).beyond [(0, 1)] ≠ []) ∧ poisoned.decodeWord 0 [] = .poison) :=
  ⟨⟨by decide +kernel, by decide +kernel, (plain_line written_plain).1, (plain_line written_plain).2.1, by decide +kernel⟩, by decide +kernel⟩

theorem witness_EscalationScrubAndFlips :
    let r : EscReq := { page := 0, word := 0, scrub := true, readers := [] }
    let q : State := { live with med := { live.med with escQueue := [r] } }
    let g (wback : Bool) : EscEngine := { req := r, errs := [], wback := wback, taken := 0 }
    let e (wback : Bool) : State := { live with med := { live.med with escEng := [(0, g wback)] } }
    let full : State := { q with med := { q.med with escEng := (List.range 8).map (fun n => (n, g false)) } }
    let l (dirty : Bool) (err : Nat) : PcLine := { line := 9, dirty := dirty, since := 0, data := 0, err := err }
    let p (dirty : Bool) (err : Nat) : State := { live with med := { live.med with pcache := [l dirty err] } }
    let late (n : Nat) : State := { live with clk := { live.clk with now := n } }
    (q.med.escQueue = [r] ∧ (List.range 8).find? (fun e => (Tab.find? q.med.escEng e).isNone) = some 0) ∧
    (live.med.escQueue = [] ∧ (List.range 8).find? (fun e => (Tab.find? full.med.escEng e).isNone) = none) ∧
    (Tab.find? (e false).med.escEng 0 = some (g false) ∧ (e false).escWaits 0 = false ∧ (e false).med.noParity.contains 0 = false ∧
      (e false).pagePass 0 [] = some 1 ∧ ({ e false with med := { (e false).med with noParity := [0] } } : State).med.noParity.contains 0 = true) ∧
    (Tab.find? (e true).med.escEng 0 = some (g true) ∧ (e true).escWaits 0 = false ∧ (e true).med.heldW = [] ∧ (e true).med.merge = []) ∧
    ((∀ d ∈ [true, false], ∀ n ∈ [1, 2], (p d n).med.pcache.find? (fun (l : PcLine) => l.line = 9) = some (l d n)) ∧
      (p true 1).med.pcache.find? (fun (l : PcLine) => l.line = 8) = none) ∧
    (live.med.lapLate.contains 1 = false ∧ live.par 0x3840 6 * 1000000000 < (late (live.par 0x3840 6 * 1000000000 + 1)).now - Tab.get live.med.lapStart 1 0 ∧
      (late (live.par 0x3840 6 * 1000000000)).now - 0 ≤ live.par 0x3840 6 * 1000000000) ∧
    (live.serves tester 0x3840 1 = true ∧ (1 : BitVec 8).toNat ≤ 1 ∧ 1 < (2 : BitVec 8).toNat) ∧
    (live.serves tester 0x3850 (flipSub true + 1) = true ∧ clientGroup tester ≠ 0 ∧ live.installed 32 = true ∧ live.onHbm 32 = true ∧ 32 % 32 = 0 ∧ 31 % 32 ≠ 0 ∧
      clientGroup { path := .window 4, key := 0 } = 0) := by
  decide +kernel

theorem witness_MergeBufferReleases :
    let e (rmw : Bool) : MergeEntry := { line := 0, mask := 1, data := [(0, 5)], req := 0, rmw := rmw }
    let s (x : State) (rmw : Bool) : State := { x with med := { x.med with merge := [e rmw] } }
    let t := s written true
    ((s written false).mergeEntry 0 = some (e false) ∧ t.mergeEntry 0 = some (e true) ∧ t.mergeEntry 1 = none) ∧
    (t.fatalAt 0 = false ∧ t.isPoison 0 = false ∧ (∀ w ∈ t.lineWords 0, t.decodeWord w [] = .data []) ∧
      (∀ h ∈ [0, 1], t.writtenKey h = some (t.keyOf (h * 32))) ∧ t.recordOf 0 = none ∧ t.pageLocked (pageOf 0) = false ∧ t.parityHolders 0 = []) ∧
    ((t.modSlice 0 (fun x => { x with fatal := true })).fatalAt 0 = true ∧ ((s poisoned true).decodeLine 0 []).any (fun p => p.2 = .poison) = true) := by
  decide +kernel

theorem witness_CommandParityAlerts :
    let s (n now : Nat) : State :=
      let x := live.modSlice 0 (fun x => { x with trained := true, incident := [(0, (n, 0))] })
      { x with clk := { x.clk with now := now } }
    (((s 3 4095).sliceAt 0).fatal = false ∧ ((s 3 4095).sliceAt 0).trained = true ∧ (sliceChannels 0).contains 0 = true ∧
      Tab.find? ((s 3 4095).sliceAt 0).incident 0 = some (3, 0) ∧ (s 3 4095).now < 0 + 4096 ∧ ¬ (s 3 4096).now < 0 + 4096 ∧ 3 + 1 = 4) ∧
    ((live.sliceAt 0).trained = false ∧ (sliceChannels 32).contains 7 = false) := by
  decide +kernel
/-- A directory entry of a line, closed and not held. -/
def entry (st : DirState) (owner : Option Agent) : DirEntry :=
  { st := st, isOpen := false, owner := owner, vats := 0, hosts := [], coarse := none, watch := false, way := 0, alloc := 0, hold := false,
    waitFor := [], req := none, data := none, poison := false, evict := false }
/-- The chip in service with one entry, of line 4. -/
def dirWith (e : DirEntry) : State := { live with coh := { live.coh with dir := [(4, e)] } }
/-- Host 1 owns line 4 in M. -/
def owned : State := dirWith (entry .M (some (.host 1)))
/-- Line 4 is open: hosts 1 and 2 are snooped. -/
def opened : State := dirWith { entry .M (some (.host 1)) with isOpen := true, waitFor := [.host 1, .host 2] }
/-- Requester 3 is dead. -/
def oneDead : State := { live with coh := { live.coh with dead := [3] } }

theorem witness_CoherentReadsOfAQuietLine :
    (live.coh.dir = [] ∧ live.coh.queue = [] ∧ live.coh.jobs = [] ∧ live.isDead 4095 = false ∧ (∀ k ∈ List.range 32, live.cached k (2 ^ 40 - 1) = none) ∧
      live.throughLine (2 ^ 40 - 1) = false) ∧
    (live.throughLine 0 = false ∧ written.intact 0 ∧ poisoned.isPoison 0 = true ∧ (entry .I none).st = .I) ∧
    (owned.dirAt 4 = some (entry .M (some (.host 1))) ∧ owned.isDead 1 = false ∧ owned.throughLine 4 = false ∧ (Agent.host 2 ≠ .host 1) ∧
      ∀ k ∈ List.range 32, owned.cached k 4 = none) ∧
    (opened.dirAt 4).any (fun e => e.isOpen) = true ∧ oneDead.isDead 3 = true :=
  ⟨by decide +kernel, ⟨by decide +kernel, (plain_line written_plain).1, by decide +kernel⟩, by decide +kernel⟩

/-- Tenant 0 ACTIVE with 8 MiB, 2 MiB of it HDM-DB; region 0 of it has two banks of 2 MiB from 2 MiB, its record at 6 MiB and
its publish lines at 0. -/
def regional : State :=
  { live with
    tenants := [(0, { (default : Tenant) with size := 0x800000, dbSize := 0x200000, state := 2 })]
    od := [(0x5A00 * 256 + 2, 0x200000), (0x5A00 * 256 + 3, 0x200000), (0x5A00 * 256 + 4, 2), (0x5A00 * 256 + 5, 0x600000),
           (0x5A00 * 256 + 6, 0), (0x5A00 * 256 + 7, 0x2A1)] }
/-- `regional` with region 0 enabled. -/
def published : State := { regional with reg := { regional.reg with enabled := [0] } }

theorem witness_CoherentWriteStoresTheLine :
    (live.windowLine 0 = none ∧ live.publishAt 0 = none ∧ live.isDead 0 = false ∧ plain written 0 = true ∧ written.coh.dir = []) ∧
    ((live.modSlice 0 (fun x => { x with fatal := true })).fatalAt 0 = true ∧
      ((published.recordOf (0x600000 / 64)).isSome = true ∧ published.windowLine (0x600000 / 64) = none ∧ published.publishAt (0x600000 / 64) = none) ∧
      ({ live with med := { live.med with escEng := [(0, { req := { page := 0, word := 0, scrub := true, readers := [] }, errs := [], wback := false, taken := 0 })] } } : State).pageLocked
        (pageOf 0) = true) ∧
    (owned.windowLine 4 = none ∧ owned.publishAt 4 = none ∧ opened.windowLine 4 = none ∧ opened.publishAt 4 = none ∧ oneDead.windowLine 4 = none ∧
      oneDead.publishAt 4 = none) := by
  decide +kernel

/-- `published` with requester 5 allowed to read tenant 0, and line 8 in the directory. -/
def listed : State :=
  { published with host := { published.host with access := [(5, 1)] }, coh := { published.coh with dir := [(8, entry .S none)] } }

theorem witness_DirectoryAndItsRequesters :
    (owned.dirAt 4 = some (entry .M (some (.host 1))) ∧ owned.coh.queue = [] ∧ owned.coh.jobs = [] ∧
      (listed.dirAt 8 = some (entry .S none) ∧ listed.owner (8 * 64) = some 0 ∧ (listed.tenantAt 0).state = 2 ∧ (listed.tenantAt 0).stopping = false ∧ plain listed 8 = true)) ∧
    ((opened.dirAt 4).any (fun e => e.isOpen && e.waitFor.contains (.host 1) && e.waitFor ≠ [.host 1] && (e.waitFor.erase (.host 1) ≠ [])) = true ∧
      (dirWith { entry .M (some (.host 1)) with isOpen := true, waitFor := [.host 1] }).dirAt 4 =
        some { entry .M (some (.host 1)) with isOpen := true, waitFor := [.host 1] } ∧ ([.host 1] : List Agent).erase (.host 1) = [] ∧
      (opened.dirAt 4).any (fun e => e.waitFor.contains (.host 3)) = false) ∧
    ((owned.dirAt 4).any (fun e => !e.evict) = true ∧ owned.dirAt 5 = none ∧
      ((dirWith { entry .S none with evict := true }).dirAt 4).any (fun e => e.evict) = true) ∧
    (live.coh.queue = [] ∧ live.coh.jobs = [] ∧ ({ live with coh := { live.coh with sweep := [(1, 3, 0, 4)] } } : State).coh.sweep ≠ []) ∧
    (live.serves tester 0x5810 1 = true ∧ live.serves tester 0x5810 2 = true ∧ live.coh.sweep = [] ∧ (4095 : BitVec 16).toNat < 4096 ∧ 4096 ≤ (4096 : BitVec 16).toNat) ∧
    (live.isDead 4095 = false ∧ live.coh.dir = [] ∧ owned.isDead 1 = false ∧ (entry .M (some (.host 1))).owner = some (.host (Fin.ofNat 4096 1)) ∧
      owned.fatalAt (4 * 64) = false ∧ oneDead.isDead 3 = true) ∧
    (owned.coh.abuf = [] ∧ owned.owner (4 * 64) = none ∧ (∀ k ∈ List.range 32, owned.cached k 4 = none) ∧
      (∀ k ∈ List.range 32, listed.cached k 8 = none) ∧ !listed.isDead 5 && listed.hostRight 5 0 false) := by
  decide +kernel

/-- Tenant 0 is ACTIVE at 0 with 2 MiB, and has an atomic window of two lines at offset 4096. -/
def tenancy (db : BitVec 64) : State :=
  { live with tenants := [(0, { (default : Tenant) with size := 0x200000, dbSize := db, state := 2 })], od := [(0x5900 * 256 + 1, 4096), (0x5900 * 256 + 2, 2)] }

theorem witness_AtomicsInAWindow :
    let d (op off : Nat) : BitVec 512 := BitVec.ofNat 512 (op + off * 2 ^ 16)
    let hot : State := { tenancy 64 with coh := { live.coh with pred := [(0, 2)] } }
    ((tenancy 0).windowAtIndex 0 1 = some 65 ∧ (tenancy 0).windowAtIndex 0 2 = none ∧ plain (tenancy 0) 65 = true ∧ (tenancy 0).isDead 0 = false) ∧
    (descOp (d 2 0) = 2 ∧ (tenancy 0).descCheck 0 (d 2 2) = some 3 ∧ (tenancy 0).descCheck 0 (d 2 0) = none ∧ descOp (d 7 0) ≠ 6) ∧
    ((tenancy 0).isHdmDb 0 = false ∧ plain (tenancy 0) 0 = true ∧ (tenancy 0).med.merge.length < 512) ∧
    ((tenancy 64).isHdmDb 0 = true ∧ (tenancy 64).throughLine 0 = false ∧ plain (tenancy 64) 0 = true ∧ (tenancy 64).predictor 0 < 2) ∧
    (2 ≤ hot.predictor 0 ∧ hot.takesData .buffer 0 = true ∧ plain hot 0 = true ∧ hot.isHdmDb 0 = true) := by
  decide +kernel
/-- The slots of a bundle as a number: vector, exponential, control, matrix and first stream slot. -/
def vecSlot (w : Nat) : Nat := w * 2 ^ 44
def expSlot (w : Nat) : Nat := w * 2 ^ 108
def ctlSlot (w : Nat) : Nat := w * 2 ^ 228
def matSlot (w : Nat) : Nat := w * 2 ^ 12
def strSlot (w : Nat) : Nat := w * 2 ^ 148

theorem witness_VectorLaneOperations :
    (∀ n ∈ [1, 2, 3, 4, 7, 8, 9, 10, 11, 12, 13, 14, 15, 16, 17, 18], acts (issued freshVat (vecSlot n)) [1] n (fun _ w u =>
      !vecReserved w && bitsAt w 31 30 = 0 && bitsAt w 33 32 = 0 && [bitsAt w 17 12, bitsAt w 23 18, bitsAt w 29 24].all (fun r => Tab.get (u.vatAt 0).ready r 0 ≤ 0)) = true) ∧
    (live.slotReady 0 0 [1] 1).isNone = true := by
  decide +kernel

theorem witness_VectorSelectionOperations :
    (∀ n ∈ [5, 6, 19, 20], acts (issued freshVat (vecSlot n)) [1] n (fun _ w u =>
      !vecReserved w && bitsAt w 31 30 = 0 && bitsAt w 33 32 = 0 && Tab.get (u.vatAt 0).ready 0 0 ≤ 0) = true) ∧
    (FVal.lt (f32 0) (f32 0x3F800000) = true ∧ FVal.lt (f32 0) (f32 0x80000000) = false ∧ FVal.lt (f32 0x80000000) (f32 0) = false ∧
      (f32 0x7FC00001).isNan = true) := by
  decide +kernel

/-- The plan after a bundle issued, with bytes at the image. -/
def withImage (s : State) (n : Nat) : State := { s with med := { s.med with mem := Mem.write [] 0 (leBytes 64 n) } }
/-- The same with the image's first line poisoned. -/
def badImage (s : State) : State := { s with med := { s.med with poison := [0] } }
/-- An entry of a section, whether it came as poison, and the state after its read, pass a check. -/
def reads (s : State) (slots : List Nat) (op sect n bytes : Nat) (f : Nat → Bool → State → Bool) : Bool :=
  acts s slots op (fun k _ u => let r := u.sectionEntry k sect n bytes; f r.1.1 r.1.2 r.2)

theorem witness_VectorPaletteForms :
    let src := vecSlot (1 + 2 ^ 30)
    let early : Vat := { freshVat with palErr := [(0, 2)] }
    let q : Drain := { bank := 0, cycle := 0, int := false, cells := some [1] }
    let plain (w : Nat) : State := planOn { freshVat with base := some 0, buffer := [(0, BitVec.ofNat 256 w)] }
    let w := 1 + vecSlot 1
    acts (issued freshVat (vecSlot 1)) [1] 1 (fun _ w _ => bitsAt w 31 30 = 0 && bitsAt w 33 32 = 0) = true ∧
    (acts (issued freshVat src) [1] 1 (fun _ w _ => bitsAt w 31 30 = 1) = true ∧
      reads (badImage (issued freshVat src)) [1] 1 5 0 16 (fun _ p _ => p) = true ∧
      reads (withImage (issued freshVat src) (2 ^ 22)) [1] 1 5 0 16 (fun d p _ => !p && bitsAt d 31 22 ≠ 0) = true ∧
      reads (withImage (issued freshVat src) 0x3FFFFF) [1] 1 5 0 16 (fun d p t => !p && bitsAt d 31 22 = 0 && !(touchPort (t.vatAt 0).ports [(0, [(palAddr (bitsAt d 21 0) 0, 256)])]).isLeft) = true ∧
      reads (issued early src) [1] 1 5 0 16 (fun d p t => !p && bitsAt d 31 22 = 0 && (touchPort (t.vatAt 0).ports [(0, [(0, 256)])]).isLeft && (t.palCheck 0 [(0, 256)]).1 = some 0) = true ∧
      reads (issued freshVat src) [1] 1 5 0 16 (fun d p t => !p && bitsAt d 31 22 = 0 && (touchPort (t.vatAt 0).ports [(0, [(0, 256)])]).isLeft && (t.palCheck 0 [(0, 256)]).1 = none) = true) ∧
    (freshVat.palEarly 0 (fmtBytes 0 256) 0 = false ∧ isBlock 0 = false ∧ isBlock 14 = true) ∧
    (((planOn { freshVat with drain := some q }).vatAt 0).drain = some q ∧ q.cells = some [1] ∧ 0 + 4 ≤ 4 ∧ 67 < 0 + 68) ∧
    ((plain w).runningOn 0 = some 0 ∧ ((plain w).vatAt 0).wait = .none ∧ ((plain w).vatAt 0).todo = [] ∧ (plain w).due ((plain w).vatAt 0) (BitVec.ofNat 256 w) 1 = true ∧
      ((plain w).vatAt 0).waits (BitVec.ofNat 256 w) = false ∧ ((plain w).vatAt 0).onTime (BitVec.ofNat 256 w) 1 = true ∧ bundleBad (BitVec.ofNat 256 w) = none ∧
      bundleActs (BitVec.ofNat 256 w) ≠ [] ∧ bundleBad (BitVec.ofNat 256 (1 + vecSlot 21)) = some 1 ∧
      ((plain w).vatAt 0).waits (BitVec.ofNat 256 (w + strSlot (2 ^ 28))) = true) ∧
    (State.reset.runningOn 0 = none ∧ ((planOn { freshVat with wait := .done }).vatAt 0).wait ≠ .none ∧ ((issued freshVat src).vatAt 0).todo ≠ []) := by
  decide +kernel

theorem witness_ExponentialAndReduce :
    (∀ n ∈ [1, 2, 3, 4], acts (issued freshVat (expSlot (n + 8 * 8))) [2] n (fun _ w u =>
      bitsAt w 6 3 ≤ 8 && Tab.get (u.vatAt 0).ready (bitsAt w 12 7) 0 ≤ 0 && !(u.vatAt 0).regInt.contains (bitsAt w 12 7)) = true) ∧
    (f32 0x7FC00000 = .nan ∧ f32 0x7F800000 = .inf false ∧ f32 0xFF800000 = .inf true ∧ FVal.lt (f32 0xC2FC0001) (.fin true 126 0) = true ∧
      FVal.lt (f32 0xC2FC0000) (.fin true 126 0) = false) := by
  decide +kernel

theorem witness_MatrixUnitUpdates :
    let m (x : Vat) (n : Nat) : State := issued x (matSlot (n + 2 ^ 5))
    let held : Vat := { freshVat with drain := some { bank := 0, cycle := 0, int := false, cells := none } }
    (∀ n ∈ [1, 2, 3], acts (m freshVat n) [0] n (fun _ w _ => bitsAt w 3 3 = 0 && bitsAt w 20 9 = 0) = true) ∧
    (reads (m freshVat 1) [0] 1 4 0 32 (fun d p t => !p && bitsAt d 63 61 = 0 && bitsAt d 47 44 ≠ 13 && bitsAt d 51 48 ≠ 13 && (t.vatAt 0).matBusy ≤ 0
        && (t.vatAt 0).drain = none) = true ∧
      reads (m held 1) [0] 1 4 0 32 (fun _ p t => !p && (t.vatAt 0).drain.any (fun q => q.bank = 0 && 0 < q.cycle + 64)) = true ∧
      reads (badImage (m freshVat 1)) [0] 1 4 0 32 (fun _ p _ => p) = true ∧
      reads (withImage (m freshVat 1) (2 ^ 61)) [0] 1 4 0 32 (fun d p _ => !p && bitsAt d 63 61 ≠ 0) = true) ∧
    ((touchPort [] []).isLeft = true ∧ (touchPort [] [(0, [(0, 64)]), (0, [(0, 64)])]).isLeft = false) ∧
    ((planOn { freshVat with palErr := [(0, 2)] }).palCheck 0 [(0, 64)]).1 = some 0 ∧
    (Tab.get freshVat.accReady 0 0 ≤ 0 ∧ freshVat.drain = none) := by
  decide +kernel
/-- `issued` with context 0 changed. -/
def inCtx (s : State) (f : Ctx → Ctx) : State := { s with ctxs := s.ctxs.map (fun p => (p.1, f p.2)) }
/-- A state of the running plan with one loop level. -/
def looping : Vat := { freshVat with loops := [(0, { index := 0, trip := 2, first := 5 })] }
/-- A plan of two vats, the second in the state `y`. -/
def pair (s : State) (y : Vat) : State :=
  inCtx { s with vat := { s.vat with vats := s.vat.vats ++ [(1, { y with owner := some 0, activity := 1 })] } }
    (fun x => { x with inv := some { (default : Inv) with header := BitVec.ofNat 1024 (2 * 2 ^ 48) } })

theorem witness_LoopsAndBarriers :
    let c (x : Vat) (n : Nat) : State := issued x (ctlSlot n)
    let told : State := inCtx (c freshVat 4) (fun x => { x with notices := [(0, 5)] })
    let far (s : State) : State := inCtx s (fun x => { x with entry := BitVec.ofNat 512 (2 ^ 290) })
    let at4 : State := planOn { freshVat with wait := .ring 3 0 }
    let rang : State := inCtx at4 (fun x => { x with arrivals := [(0, 0, 3)] })
    (reads (badImage (c freshVat 1)) [5] 1 6 0 4 (fun _ p _ => p) = true ∧ reads (withImage (c freshVat 1) (2 ^ 25)) [5] 1 6 0 4 (fun e p _ => !p && bitsAt e 31 25 ≠ 0) = true ∧
      reads (c freshVat 1) [5] 1 6 0 4 (fun e p t => !p && bitsAt e 31 25 = 0 && (t.vatAt 0).loops = []) = true ∧
      reads (c looping 1) [5] 1 6 0 4 (fun e p t => !p && bitsAt e 31 25 = 0 && (Tab.find? (t.vatAt 0).loops 0).isSome) = true) ∧
    (acts (c looping 2) [5] 2 (fun _ w u => bitsAt w 5 4 = 0 && decide ((u.vatAt 0).loops = looping.loops)) = true ∧
      acts (c freshVat 2) [5] 2 (fun _ _ u => (u.vatAt 0).loops = []) = true) ∧
    (acts (c freshVat 3) [5] 3 (fun k w u => bitsAt w 13 6 = 0 && u.planVats k = [0]) = true ∧
      acts (pair (c freshVat 3) freshVat) [5] 3 (fun k _ u => u.planVats k = [0, 1] && (u.vatAt 1).wait ≠ .barrier 0 && (u.ctxAt k).faults = []) = true) ∧
    (acts (c freshVat 4) [5] 4 (fun k _ u => (u.ctxAt k).notices = [] && u.partners k = [] && (u.ctxAt k).faults = []) = true ∧
      acts told [5] 4 (fun k _ u => (u.ctxAt k).notices.find? (fun n => n.1 = u.ringSeq k) = some (0, 5)) = true ∧
      acts (far (c freshVat 4)) [5] 4 (fun k _ u => (u.partners k).find? (fun c => !u.routePresent u.epoch c) = some 2) = true) ∧
    ((at4.planVats 0).head? = some 0 ∧ at4.rang 0 3 = false ∧ at4.onTheWay 0 3 0 = false) ∧
    ((rang.vatAt 0).wait = .ring 3 0 ∧ rang.runningOn 0 = some 0 ∧ rang.rang 0 3 = true ∧ rang.partners 0 = [] ∧
      (rang.vatAt 0).lastCyc + ceilDiv (0 * rang.vatHz) 1000000000 = 0 ∧ at4.rang 0 3 = false) ∧
    ((at4.planVats 0).find? (fun v => match (at4.vatAt v).wait with | .ring _ _ => true | _ => false) = some 0 ∧
      ((planOn freshVat).planVats 0).find? (fun v => match ((planOn freshVat).vatAt v).wait with | .ring _ _ => true | _ => false) = none) := by
  decide +kernel

/-- A fault that the plan of context 0 holds. -/
def faulty (s : State) : State := inCtx s (fun x => { x with faults := [default] })

theorem witness_WaitsStepsAndEnd :
    let c (n : Nat) : State := issued freshVat (ctlSlot n)
    (acts (c 5) [5] 5 (fun _ _ _ => true) = true ∧ acts (c 6) [5] 6 (fun _ _ _ => true) = true) ∧
    (reads (badImage (c 8)) [5] 8 2 0 16 (fun _ p _ => p) = true ∧ reads (withImage (c 8) (2 ^ 32)) [5] 8 2 0 16 (fun e p _ => !p && bitsAt e 63 32 ≠ 0) = true ∧
      reads (c 8) [5] 8 2 0 16 (fun e p t => !p && bitsAt e 63 32 = 0 && (t.ctxAt 0).faults = []) = true ∧
      reads (faulty (c 8)) [5] 8 2 0 16 (fun e p t => !p && bitsAt e 63 32 = 0 && (t.ctxAt 0).faults ≠ []) = true) ∧
    (acts (c 9) [5] 9 (fun k _ u => (u.ctxAt k).faults = []) = true ∧ acts (faulty (c 9)) [5] 9 (fun k _ u => (u.ctxAt k).faults ≠ []) = true) := by
  decide +kernel

theorem witness_ProbesAndDumps :
    let d : BitVec 256 := BitVec.ofNat 256 (2 ^ 16)
    let probe : State := issued freshVat (ctlSlot 7)
    let asked (d : BitVec 256) (s : State) : State := inCtx s (fun x => { x with dumps := [(7, d)] })
    let full : BitVec 256 := BitVec.ofNat 256 (2 ^ 16 + 4096 * 2 ^ 96)
    -- Symbol entry 0 names tensor entry 1: one element at VA 2^30, which no pin holds.
    let tensor : State := { planOn freshVat with med := { live.med with
      mem := Mem.write (Mem.write [] 0 (leBytes 64 (2 ^ 320))) 64 (leBytes 64 (2 ^ 286 + 2 ^ 320 + 2 ^ 352 + 2 ^ 384 + 2 ^ 416)) } }
    (reads (withImage probe (2 ^ 448)) [5] 7 1 0 64 (fun e _ _ => symbolReserved e) = true ∧
      reads probe [5] 7 1 0 64 (fun e _ t => !symbolReserved e && (t.ctxAt 0).dumps = []) = true ∧
      reads (asked d probe) [5] 7 1 0 64 (fun e _ t => !symbolReserved e && (t.ctxAt 0).dumps = [(7, d)] && dumpLeft d ≠ 0 && bits d 15 0 = 0) = true) ∧
    (let r := (planOn freshVat).sectionEntry 0 1 0 64; (r.2.sectionEntry 0 1 (bitsAt r.1.1 351 320) 64).1 = (0, false) ∧ bits d 127 96 < dumpUsed d + 64 + 0) ∧
    (let r := tensor.sectionEntry 0 1 0 64
     let q := r.2.sectionEntry 0 1 (bitsAt r.1.1 351 320) 64
     bitsAt r.1.1 351 320 = 1 ∧ bitsAt q.1.1 311 256 = 2 ^ 30 ∧ (q.2.checkPage 0 (2 ^ 30) false).isSome = true ∧ bitsAt q.1.1 315 312 = 0 ∧ codeBits 0 ≠ 0 ∧
      [bitsAt q.1.1 351 320, bitsAt q.1.1 383 352, bitsAt q.1.1 415 384, bitsAt q.1.1 447 416] = [1, 1, 1, 1] ∧ dumpUsed full + 64 + 64 ≤ bits full 127 96) := by
  decide +kernel
theorem witness_StreamSlotsQueueTiles :
    let st (x : Vat) (n e : Nat) : State := issued x (strSlot (n + 8 * e))
    let good (d : Nat) (p : Bool) (t : State) : Bool := !p && !tileReserved d && bitsAt d 205 184 + 4 * tileRowCount d ≤ palSize && (t.palCheck 0 [(bitsAt d 205 184, 4 * tileRowCount d)]).1 = none
    (∀ q ∈ [(1, 0), (2, 4), (3, 3), (4, 5)], acts (st freshVat q.1 q.2) [3, 4] q.1 (fun _ w _ => bitsAt w 2 0 = q.1 && bitsAt w 5 3 = q.2 && bitsAt w 27 12 = 0) = true ∧
      reads (st freshVat q.1 q.2) [3, 4] q.1 3 0 64 good = true) ∧
    (reads (badImage (st freshVat 1 0)) [3, 4] 1 3 0 64 (fun _ p _ => p) = true ∧ reads (withImage (st freshVat 1 0) (2 ^ 56)) [3, 4] 1 3 0 64 (fun d p _ => !p && tileReserved d) = true ∧
      -- One row of one line, whose palette address lies past the palette.
      reads (withImage (st freshVat 1 0) (0x3FFFFF * 2 ^ 64 + 2 ^ 88 + 2 ^ 101)) [3, 4] 1 3 0 64 (fun d p _ => !p && !tileReserved d) = true ∧
      reads (withImage (st { freshVat with palErr := [(0, 2)] } 3 0) (2 ^ 88 + 2 ^ 101)) [3, 4] 3 3 0 64 (fun d p t => !p && !tileReserved d && tileRowCount d = 1
        && (t.palCheck 0 [(bitsAt d 205 184, 4)]).1 = some 0) = true) ∧
    (freshVat.engStop.contains 0 = false ∧ ({ freshVat with engStop := [0] } : Vat).engStop.contains 0 = true) := by
  decide +kernel

/-- A tile of one line at VA 0. -/
def tile (op : Nat) (running : Bool) : TileCmd :=
  { op := op, token := 2, tile := 0, loops := [0, 0, 0, 0], desc := BitVec.ofNat 512 (2 ^ 88 + 2 ^ 101), idx := [], running := running, pins := [(0, 21, 0)] }
/-- The running plan with that tile at the head of engine 0, and a footprint over it that may be read or written; VA 0 lies at a PPA. -/
def tiled (c : TileCmd) (read : Bool) (ppa : Nat) : State :=
  let s := inCtx (planOn { freshVat with engines := [(0, [c])] }) (fun x => { x with prints := [{ (default : Footprint) with size := 4096, read := read, write := true }] })
  { s with
    tlb := { s.tlb with l2 := [{ (default : L2Entry) with shift := 21, ppa := ppa, read := true, write := true, locked := true }] }
    tenants := [(0, { (default : Tenant) with size := 0x200000, state := 2 })] }

theorem witness_TilesRunAndComplete :
    let s := tiled (tile 1 false) true 0
    let w := tiled (tile 2 false) true 0
    let away : State := { tiled (tile 1 false) true (2 ^ 46) with od := [(0x5400 * 256 + 6, 128 + 129 * 256)] }
    let r := tiled (tile 1 true) true 0
    let asked : State := { r with pool := { r.pool with reqs := [{ tag := 0, hdr := 0, data := [], owner := some (.stream 0 0), word := none }] } }
    ((s.vatAt 0).owner = some 0 ∧ (s.vatAt 0).queue 0 = [tile 1 false] ∧ s.checkTile 0 (tile 1 false) = none ∧ w.checkTile 0 (tile 2 false) = none ∧
      tileLines (tile 1 false) = [(0, 0)] ∧ s.isLocal 0 = true ∧ s.isHdmDb 0 = false ∧ ((s.pinFor 0 0).map (fun p => (p.baseVa, p.shift, p.ppa))) = some (0, 21, 0)) ∧
    (away.checkTile 0 (tile 1 false) = none ∧ ((away.pinFor 0 0).map (fun p => p.ppa)) = some (2 ^ 46) ∧ away.isLocal (2 ^ 46) = false) ∧
    ((tiled (tile 1 false) false 0).checkTile 0 (tile 1 false) = some (0, 1) ∧ (live.vatAt 0).owner = none ∧ ((planOn freshVat).vatAt 0).queue 0 = []) ∧
    ((r.vatAt 0).queue 0 = [tile 1 true] ∧ r.pool.reqs = [] ∧ asked.pool.reqs.any (fun q => q.owner = some (.stream 0 0)) = true ∧
      ((State.moveLines 0 0 0 0 (tile 1 true) (tileLines (tile 1 true)) r).vatAt 0).queue 0 = [tile 1 true]) ∧
    ((tile 1 true).writes = false ∧ (tile 2 true).writes = true ∧ r.isLocal ((tile 1 true).ppa 0) = true ∧ r.isHdmDb (ppaDpa ((tile 1 true).ppa 0)) = false ∧
      (r.palCheck 0 [(0, 64)]).1 = none ∧ (r.readLine 0).1.2 = false ∧ ((badImage r).readLine 0).1.2 = true) := by
  decide +kernel

theorem witness_TrapsFaultTheContext :
    let w := planOn { freshVat with engines := [(4, [tile 2 true])] }
    let s (b : Tab (BitVec 256)) := planOn { freshVat with stall := some 3, buffer := b }
    ((w.ctxAt 0).faults = [] ∧ w.writesDone 0 = false ∧ (w.header 0).getLsbD 57 = false ∧ 0x0604 < 65536) ∧
    ((s []).runningOn 0 = some 0 ∧ ((s []).vatAt 0).stall = some 3 ∧ ((s []).vatAt 0).blocked = true ∧ ((s [(0, 1)]).vatAt 0).blocked = false ∧
      (let limit := (s []).par 0x4000 4 * (s []).vatHz / 1000000
       (s []).par 0x4000 4 * (s []).vatHz < (limit + 4 - 3) * 1000000 ∧ ¬ (s []).par 0x4000 4 * (s []).vatHz < (limit + 3 - 3) * 1000000)) ∧
    (live.runningOn 0 = none ∧ ((planOn freshVat).vatAt 0).stall = none) := by
  decide +kernel

/-- Context 0 in a state. -/
def context (st : BitVec 2) : State := { live with ctxs := [(0, { (default : Ctx) with state := st })] }

theorem witness_ContextCommandsWait :
    let e : BitVec 512 := BitVec.ofNat 512 (6 * 2 ^ 110 + 2 * 2 ^ 256)
    live.serves tester 0x4410 3 = true ∧ (live.modClient tester id).selected tester = 0 ∧
    (((context 0).modClient tester id).ctxAt 0).expected = 0 ∧ (((context 1).modClient tester id).ctxAt 0).expected = 1 ∧
    (((context 2).modClient tester id).ctxAt 0).expected = 2 ∧
    ({ live with ctxs := [(0, { (default : Ctx) with entry := e })] } : State).entryGood 0 = true ∧ (context 0).entryGood 0 = false ∧
    (((context 1).ctxAt 0).resident = false ∧ ((context 1).ctxAt 0).phase = .idle ∧ ((context 1).ctxAt 0).inv = none ∧ ((context 2).ctxAt 0).phase ≠ .resuming ∧
      (inCtx (context 2) (fun x => { x with owed := some (2, 1) })).ctxAt 0 = { (default : Ctx) with state := 2, owed := some (2, 1) }) := by
  decide +kernel

theorem witness_LaunchPointOrder :
    let s (resident disabling : Bool) : State := inCtx (planOn { freshVat with wait := .done }) (fun x => { x with resident := resident, disabling := disabling })
    (live.cal.slot.toNat % 512 = 0 ∧ ({ live with cal := { live.cal with slot := 513 } } : State).cal.slot.toNat % 512 ≠ 0) ∧
    (({ live with vat := { live.vat with vats := [(33, { freshVat with wait := .launchPoint })] } } : State).vatAt 33).wait = .launchPoint ∧
    (∀ r ∈ [false, true], ∀ d ∈ [false, true], ((s r d).ctxAt 0).phase = .running ∧ (s r d).stopped 0 = true ∧ (s r d).writesDone 0 = true ∧ ((s r d).ctxAt 0).faults = [] ∧
      ((s r d).ctxAt 0).state = 1 ∧ ((s r d).ctxAt 0).inv.isSome = true) ∧
    (live.ctxAt 0).phase ≠ .running := by
  decide +kernel
/-- Tenant 0 ACTIVE with a mirror at 4096: its root leads to a table at 8192 whose first entry is a 1 GiB leaf, the second malformed
and the third ASK_HOST. -/
def mirrored : State :=
  let s := tenancy 0
  { s with
    ctxs := [(0, { (default : Ctx) with entry := BitVec.ofNat 512 (4096 * 2 ^ 192) })]
    med := { s.med with mem := [(4096, 0x0D), (4097, 0x20), (8192, 0x0F), (8200, 0x11), (8208, 0x1C)] }
    host := { s.host with gfd := [(0, BitVec.ofNat 256 (2 ^ 28 * 2 ^ 64 + 2 ^ 192 + 2 ^ 200))], funcs := [(0, { (default : Func) with ats := true })] } }
/-- A fetch of the page at a VA. -/
def fetchOf (va : Nat) (ats stale : Bool) : Fetch := { ctx := 0, va := va, ats := ats, stale := stale, read := true, write := true }
/-- `mirrored` with that fetch out. -/
def fetching (va : Nat) (ats stale : Bool) : State := { mirrored with tlb := { mirrored.tlb with fetches := [fetchOf va ats stale] } }

theorem witness_PinsAreFetched :
    let w (va : Nat) : Walk := (((fetching va false false).bump 64 0x4100 3).walk 0 va).1.1
    let f := fetching 0 true false
    let bound : State := inCtx (fetching (2 ^ 31) false false) (fun x => { x with binding := 1 })
    (mirrored.tlb.l2.length < 8 ∧ (mirrored.ctxAt 0).phase = .idle) ∧
    (∀ va ∈ [0, 2 ^ 30, 2 ^ 31, 2 ^ 40], (fetching va false false).walking 0 (va + 4095) false = some (fetchOf va false false)) ∧
    ((match w 0 with | .leaf 30 0 true true => true | _ => false) = true ∧ (match w (2 ^ 30) with | .bad 30 => true | _ => false) = true ∧
      (match w (2 ^ 31) with | .ask true true => true | _ => false) = true ∧ (match w (2 ^ 40) with | .unmapped 30 => true | _ => false) = true) ∧
    ((fetching (2 ^ 31) false false).atsOn 0 = false ∧ bound.atsOn 0 = true ∧ bound.walking 0 (2 ^ 31) false = some (fetchOf (2 ^ 31) false false)) ∧
    (f.walking 0 0 true = some (fetchOf 0 true false) ∧ f.mld = false ∧ f.decodeGfd 4096 = some 4096 ∧ f.owner 4096 = some (f.ctxTenant 0) ∧
      f.decodeGfd (2 ^ 30) = none) ∧
    ((fetching 0 false true).walking 0 0 false = some (fetchOf 0 false true) ∧ (fetching 0 true true).walking 0 0 true = some (fetchOf 0 true true)) ∧
    (live.walking 0 0 false = none ∧ live.walking 0 0 true = none) := by
  decide +kernel

theorem witness_InvalidationsHitTheirRange :
    let b (n : Nat) : State := inCtx mirrored (fun x => { x with binding := BitVec.ofNat 64 n })
    (live.serves tester 0x4110 2 = true ∧ 4096 % 4096 = 0 ∧ 4095 % 4096 ≠ 0) ∧
    (bit ((b 1).ctxAt 0).binding 0 = true ∧ bits ((b 1).ctxAt 0).binding 2 1 = 0 ∧ (b 1).mld = false ∧ bit ((b 1).ctxAt 0).binding 7 = false) ∧
    (bit ((b (1 + 2 ^ 7 + 9 * 2 ^ 8)).ctxAt 0).binding 7 = true ∧ bits ((b (1 + 2 ^ 7 + 9 * 2 ^ 8)).ctxAt 0).binding 27 8 = 9) ∧
    live.tlb.l2 = [] := by
  decide +kernel

theorem witness_RotationAndReservation :
    let on := live.par 0x4000 7 ≠ 0
    -- Vat 0 holds a resident plan, and no spare is left.
    let none_ : State := { live with vat := { live.vat with spare := none, repair := none, vats := [(0, { freshVat with owner := some 0, resident := true })] } }
    let due (now : Nat) : State := { live with vat := { live.vat with due := [(0, 0, false)] }, clk := { live.clk with now := now } }
    let t : Takeover := { logical := 3, old := 3, spare := 32 }
    let ctx (x : Ctx) : State := { live with ctxs := [(0, x)] }
    (on ∧ live.vat.head = [] ∧ (live.setPar 0x4000 7 0).par 0x4000 7 = 0 ∧ live.noSpare = false ∧ live.vat.due.any (fun d => d.1 = live.par 0x4000 10) = false ∧
      (due 0).vat.due.any (fun d => d.1 = (due 0).par 0x4000 10) = true) ∧
    (none_.noSpare = true ∧ none_.par 0x4000 10 = 0 ∧ none_.physical 0 = some 0 ∧ (none_.vatAt 0).resident = true ∧ none_.par 0x4000 7 ≠ 0) ∧
    ((due 0).vat.due.find? (fun d => !d.2.2) = some (0, 0, false) ∧ 0 + live.par 0x4000 9 * 1000000 ≤ (due (live.par 0x4000 9 * 1000000)).now ∧
      (due (live.par 0x4000 9 * 1000000 - 1)).now < 0 + live.par 0x4000 9 * 1000000 ∧ live.vat.due.find? (fun d => !d.2.2) = none) ∧
    (({ live with vat := { live.vat with takeover := some t } } : State).vat.takeover = some t ∧ t.old ≠ t.spare ∧ live.vat.takeover = none) ∧
    (let s := ctx { (default : Ctx) with headVats := [1], headAge := live.par 0x4000 5 }
     (s.ctxAt 0).reserved = none ∧ (s.ctxAt 0).headVats ≠ [] ∧ s.par 0x4000 5 ≤ (s.ctxAt 0).headAge ∧ (live.ctxAt 0).headAge < live.par 0x4000 5) ∧
    (live.serves tester 0x4000 7 = true ∧ live.tst.testing = none ∧ ({ live with tst := { live.tst with testing := some 32 } } : State).tst.testing = some 32) := by
  decide +kernel

/-- A vat in an activity, to be tested or under test. -/
def spareVat (v act : Nat) (test : Bool) : State :=
  { live with
    vat := { live.vat with vats := [(v, { freshVat with activity := BitVec.ofNat 2 act })], spare := none, toTest := if test then [v] else [] }
    tst := { live.tst with testing := some v } }

theorem witness_VatsAreWashedAndTested :
    ((((spareVat 32 2 false).vatAt 32).activity = 2 ∧ (spareVat 32 2 false).vat.takeover = none ∧ (spareVat 32 2 false).logical 32 = none ∧
      (spareVat 32 2 false).vat.toTest.contains 32 = false) ∧
      (((spareVat 3 2 false).vatAt 3).activity = 2 ∧ (spareVat 3 2 false).logical 3 = some 3 ∧ ((spareVat 3 2 false).vatAt 3).cache = []) ∧
      ((spareVat 32 2 true).vat.toTest.contains 32 = true ∧ (spareVat 32 2 true).par 0x4000 7 ≠ 0 ∧
        ({ spareVat 32 2 true with tst := live.tst } : State).testBar = none)) ∧
    ((live.vatAt 0).activity ≠ 2) ∧
    ((∀ v ∈ [3, 32, 33], (spareVat v 3 false).tst.testing = some v ∧ ((spareVat v 3 false).vatAt v).activity = 3) ∧
      ((spareVat 32 3 false).logical 32 = none ∧ (spareVat 32 3 false).vat.repair ≠ some 32) ∧ (spareVat 33 3 false).vat.repair = some 33 ∧
      ((spareVat 3 3 false).logical 3 = some 3 ∧ (spareVat 3 3 false).vat.repair ≠ some 3)) ∧
    live.tst.testing ≠ some 3 := by
  decide +kernel

/-- Tenant 0 in a state, 2 MiB at 0. -/
def partition (st : BitVec 8) : State := { live with tenants := [(0, { (default : Tenant) with size := 0x200000, state := st })] }
/-- The same on a ring of class M. -/
def onRing (st : BitVec 8) : State := { partition st with opt := { live.opt with inUse := BitVec.ofNat 2048 (live.opt.inUse.toNat + 2 ^ 140) } }

theorem witness_PartitionLifeCycle :
    let reb (s : State) (n : BitVec 8) : State := { s with pool := { s.pool with rebuild := { s.pool.rebuild with st := n } } }
    let s0 (st : BitVec 8) : State := (partition st).modClient tester id
    live.serves tester 0x4900 8 = true ∧
    (((s0 0).tenantAt 0).state = 0 ∧ ((s0 0).tenantAt 0).size ≠ 0 ∧ (s0 0).partitionFits 0 0 0x200000 0 = true ∧ (live.tenantAt 0).size = 0 ∧
      (s0 0).partitionFits 0 1 0x200000 0 = false) ∧
    (((s0 1).tenantAt 0).state = 1 ∧ (s0 1).ringClass = 0 ∧ (s0 1).pool.rebuild.st = 0 ∧ (reb (s0 1) 5).pool.rebuild.st = 5 ∧ (reb (s0 1) 1).pool.rebuild.st = 1 ∧
      (onRing 1).ringClass ≠ 0 ∧ (onRing 1).sec.ringKey = none) ∧
    (((s0 2).tenantAt 0).state = 2 ∧ ((s0 2).tenantAt 0).stopping = false ∧
      (((s0 2).modTenant 0 (fun x => { x with stopping := true })).tenantAt 0).stopping = true) ∧
    (((partition 3).tenantAt 0).state = 3 ∧ ((partition 3).tenantAt 0).keyWait = false ∧ (partition 3).ringClass = 0) := by
  decide +kernel

/-- A copy of 64 B from 0 to 4096 in tenant 0. -/
def copyDesc : BitVec 256 := BitVec.ofNat 256 (4096 * 2 ^ 64 + 64 * 2 ^ 128)
/-- Channel 0 holds that copy in a state. -/
def copying (st : BitVec 8) : State :=
  { partition 2 with med := { live.med with copy := [(0, { (default : CopyCh) with state := st, queue := [copyDesc] })] } }
/-- The same with its first line poisoned. -/
def copyBad (st : BitVec 8) : State := { copying st with med := { (copying st).med with poison := [0] } }

theorem witness_CopyChannels :
    (live.serves tester 0x3080 2 = true ∧ (partition 2).copyGood copyDesc = true ∧ ((partition 2).modClient tester id).copyChannel = some 0 ∧
      ((partition 2).setPar 0x3080 1 0xFFFF).copyChannel = none ∧ (partition 2).copyGood 0 = false) ∧
    (live.serves tester 0x3180 2 = true ∧ ((copying 1).copyAt 0).state ≠ 2 ∧ ((copying 2).copyAt 0).state = 2 ∧ ((copying 2).copyAt 0).queue = [copyDesc] ∧
      (copying 2).isLocal (cpySrc copyDesc) = true ∧ ((copyBad 2).peekLine 0 copyPort).1.any (fun q => q.2) = true ∧
      ((copying 2).peekLine 0 copyPort).1.any (fun q => q.2) = false) ∧
    (((copying 1).copyAt 0).state = 1 ∧ (copying 1).copyRights copyDesc = true ∧ ((copying 1).copyAt 0).probes = [] ∧ ((copying 1).copyAt 0).left = 1 ∧
      (State.copyRun 0 1 (copyBad 1)).1 = true ∧ (State.copyRun 0 1 (copying 1)).1 = false ∧
      ((State.copyRun 0 1 (copying 1)).2.copyAt 0).left = 0 ∧ (State.copyRun 0 1 (copying 1)).2.pool.reqs = []) ∧
    ((copying 1).copyRights (BitVec.ofNat 256 (4096 * 2 ^ 64 + 64 * 2 ^ 128 + 2 ^ 160)) = false ∧ ((copying 1).copyAt 0).done = 0) ∧
    (((copying 1).copyAt 0).done < cpyLen copyDesc ∧ (copying 1).dirAt 0 = none ∧ plain (copying 1) 0 = true ∧ (copyBad 1).isPoison 0 = true) ∧
    ((copying 1).isLocal (cpyDst copyDesc + 0) = true ∧ copyOverlaps copyDesc 0 = false ∧ (copying 1).isHdmDb 4096 = false ∧ plain (copying 1) 64 = true) := by
  decide +kernel
/-- The manifest of the image: DIGEST and SIGNATURE were computed outside the model, with the private key 1 of the base point that the
model takes as the production key (log entry 144), and 1 as the secret of the signature. -/
def manifest : Nat :=
  0x4D465753 + 2 ^ 32 + 4096 * 2 ^ 64 + 0x886a2b5bfed00d0dfe467de39c0c85dee9263624a2438fcc9de1fd852d43d84260d968522c84c499f310936e645d3d2b1ce6ef01dfa3a5360840bc41dea37e44 * 2 ^ 512
    + basePoint.1 * 2 ^ 1024 + 0xc7194bde848f1aaac007d82893cbf167b04f21c6a40ec818299c30ccda07642e3084e65485f0db0d507608f3d8c96ea87590bf1a7fe306acc805651f0e4a168b80 * 2 ^ 1552
/-- An image of 4 KiB, zero past its manifest. -/
def image : List Host.Cell := Mem.write [] 0 (leBytes 512 manifest)
/-- The boot form in a state. -/
def boots (st : BitVec 3) : State :=
  { live with host := { live.host with boot := { (default : Boot) with state := st, length := 4096, image := image } } }
theorem leBytes_length (n v : Nat) : (leBytes n v).length = n := by
  induction n generalizing v with
  | zero => rfl
  | succ n ih => simp [leBytes, ih]
theorem leNat_leBytes (n v : Nat) : leNat (leBytes n v) = v % 256 ^ n := by
  induction n generalizing v with
  | zero => simp [leBytes, leNat, Nat.mod_one]
  | succ n ih =>
    simp only [leBytes, leNat, ih, Nat.pow_succ]
    have := Nat.mod_mul_right_mod v 256 (256 ^ n)
    have h2 := Nat.mod_mul (x := v) (a := 256) (b := 256 ^ n)
    rw [Nat.mul_comm (256 ^ n) 256, h2]
    simp [BitVec.toNat_ofNat]
theorem read_eq (m : List Host.Cell) (a n : Nat) : Mem.read m a n = (List.range n).map (fun i => Mem.get m (a + i)) := by
  induction n generalizing a with
  | zero => rfl
  | succ n ih =>
    rw [Mem.read, ih, List.range_succ_eq_map, List.map_cons, List.map_map]
    simp [Function.comp_def, Nat.add_assoc, Nat.add_comm 1]
theorem read_write (bs : List (BitVec 8)) (n : Nat) (h : n ≤ bs.length) : Mem.read (Mem.write [] 0 bs) 0 n = bs.take n := by
  rw [read_eq]
  apply List.ext_getElem
  · simpa using h
  · intro i h1 h2
    simp at h1
    simp only [List.getElem_map, List.getElem_range, List.getElem_take]
    exact Mem.get_write_inside [] 0 i bs (by omega)
theorem read_past (bs : List (BitVec 8)) (a n : Nat) (h : bs.length ≤ a) : Mem.read (Mem.write [] 0 bs) a n = List.replicate n 0 := by
  rw [read_eq]
  apply List.ext_getElem
  · simp
  · intro i h1 h2
    simp only [List.getElem_map, List.getElem_range, List.getElem_replicate]
    rw [Mem.get_write_outside _ _ _ _ (.inr (by omega))]
    rfl
theorem image_manifest : manifestOf image = manifest := by
  unfold manifestOf
  unfold image
  rw [read_write _ _ (Nat.le_of_eq (leBytes_length _ _).symm), List.take_of_length_le (Nat.le_of_eq (leBytes_length _ _)), leNat_leBytes]
  decide +kernel

theorem shaBlocks_append (m n : Nat) (h : List Nat) (a b : List (BitVec 8)) (hl : a.length = 128 * m) :
    shaBlocks (m + n) h (a ++ b) = shaBlocks n (shaBlocks m h a) b := by
  induction m generalizing h a with
  | zero => simp at hl; subst hl; simp [shaBlocks]
  | succ m ih =>
    rw [show m + 1 + n = (m + n) + 1 by omega]
    simp only [shaBlocks]
    rw [List.take_append_of_le_length (by omega), List.drop_append_of_le_length (by omega), ih]
    rw [List.length_drop]; omega

theorem sha_zeros_7 : shaBlocks 7 shaInit (List.replicate 896 0) = [0xa685108d57f8e590, 0x4cbc971a9890938f, 0x11d8399ee9b42da0, 0x22e884eafe46a804, 0xf93a2f93d947ad17, 0xc37e330c2d0b87d8, 0xc30e56585952c99d, 0x3550a3ef8e0727a] := by
  decide +kernel
theorem sha_zeros_14 : shaBlocks 7 [0xa685108d57f8e590, 0x4cbc971a9890938f, 0x11d8399ee9b42da0, 0x22e884eafe46a804, 0xf93a2f93d947ad17, 0xc37e330c2d0b87d8, 0xc30e56585952c99d, 0x3550a3ef8e0727a] (List.replicate 896 0) = [0xc23a7b80829c4779, 0x1391cd93ab91905e, 0x3ce315ace6809329, 0xd3a0a7a87a7228a4, 0x2c41c66f81071d30, 0x1a05ad570b9c81a9, 0x792e74c59b843840, 0x2985f4fa35fdf62f] := by
  decide +kernel
theorem sha_zeros_21 : shaBlocks 7 [0xc23a7b80829c4779, 0x1391cd93ab91905e, 0x3ce315ace6809329, 0xd3a0a7a87a7228a4, 0x2c41c66f81071d30, 0x1a05ad570b9c81a9, 0x792e74c59b843840, 0x2985f4fa35fdf62f] (List.replicate 896 0) = [0xa2d5e11726776e89, 0xf83c62f5fec0d5bc, 0x6e997e2123bc3903, 0xc6f33871859f4b1b, 0x445eae4d0a0405fa, 0xbe5fc2ceb5718c40, 0xf2618488f21a8b36, 0x36455c97c5494433] := by
  decide +kernel
theorem sha_zeros_28 : shaBlocks 7 [0xa2d5e11726776e89, 0xf83c62f5fec0d5bc, 0x6e997e2123bc3903, 0xc6f33871859f4b1b, 0x445eae4d0a0405fa, 0xbe5fc2ceb5718c40, 0xf2618488f21a8b36, 0x36455c97c5494433] (List.replicate 896 0) = [0x1a1a9e1a88e5db72, 0xb5f016baeafcaa3e, 0xfe3413532dcf7216, 0x5dda6d7e0371c16f, 0x6edb3fdbc474a560, 0x1077eb0ad5526841, 0x7d3012450dbf0429, 0x4f3f24da82a74cb5] := by
  decide +kernel
theorem image_digest : (sha512 (Mem.read image 512 3584)).toNat = 0x886a2b5bfed00d0dfe467de39c0c85dee9263624a2438fcc9de1fd852d43d84260d968522c84c499f310936e645d3d2b1ce6ef01dfa3a5360840bc41dea37e44 := by
  unfold image
  rw [read_past _ _ _ (Nat.le_of_eq (leBytes_length _ _))]
  have hp : shaPad (List.replicate 3584 0) = List.replicate 896 0 ++ (List.replicate 896 0 ++ (List.replicate 896 0 ++ (List.replicate 896 0
      ++ (0x80 :: List.replicate 111 0 ++ beBytes 16 28672)))) := by
    have h1 : List.replicate 3584 (0 : BitVec 8) = List.replicate 896 0 ++ (List.replicate 896 0 ++ (List.replicate 896 0 ++ List.replicate 896 0)) := by
      simp only [List.replicate_append_replicate]
    unfold shaPad
    simp only [List.length_replicate]
    rw [h1]
    simp only [List.append_assoc, List.cons_append]
  unfold sha512 sha512Bytes
  simp only [hp]
  have hl : (List.replicate 896 (0 : BitVec 8)).length = 128 * 7 := List.length_replicate
  rw [show (List.length _) / 128 = 7 + (7 + (7 + (7 + 1))) from by
      simp only [List.length_append, List.length_replicate, List.length_cons, beBytes, List.length_reverse, leBytes_length],
    shaBlocks_append _ _ _ _ _ hl, sha_zeros_7, shaBlocks_append _ _ _ _ _ hl, sha_zeros_14,
    shaBlocks_append _ _ _ _ _ hl, sha_zeros_21, shaBlocks_append _ _ _ _ _ hl, sha_zeros_28]
  decide +kernel
theorem image_good (s : State) (h : s.sec = live.sec) : s.imageCheck image 4096 = none := by
  have hs : s.imageSigned image 4096 = true := by
    unfold State.imageSigned State.signerKey
    rw [h, image_manifest, image_digest, show Mem.read image 0 128 = _ from read_write _ _ (by rw [leBytes_length]; omega)]
    decide +kernel
  unfold State.imageCheck
  rw [h, image_manifest, hs]
  decide +kernel
theorem noKey (d : BitVec 512) (r s : Nat) : ecdsaVerify (0, 0) d r s = false := by
  have h : ecOnCurve (0, 0) = false := by decide +kernel
  simp [ecdsaVerify, h]
/-- A production key other than the one that signed. -/
def otherKey (s : State) : State := { s with sec := { s.sec with prodKey := (0, 0) } }
theorem image_unsigned (s : State) (h : s.sec = live.sec) : (otherKey s).imageCheck image 4096 = some 2 := by
  have hk : (otherKey s).signerKey (bitsAt manifest 111 104) = (0, 0) := by
    unfold State.signerKey
    rw [if_pos (by decide +kernel)]
    rfl
  have hs : (otherKey s).imageSigned image 4096 = false := by
    unfold State.imageSigned
    rw [image_manifest]
    simp only [hk, noKey, Bool.false_and]
  unfold State.imageCheck
  rw [image_manifest, hs]
  simp only [otherKey, h]
  decide +kernel

/-- Port 0 with CXL.mem on; requester 0 may read and write tenant 0; GFD decoder 0 maps HPA 0. -/
def hosted (active : Bool) (db : BitVec 64) : State :=
  { tenancy db with
    od := []
    host := { live.host with
      active := active, ports := [(0, { (default : Port) with up := true, mem := true })], access := [(0, 3)]
      gfd := [(0, BitVec.ofNat 256 (2 ^ 28 * 2 ^ 64 + 2 ^ 192 + 2 ^ 200))] } }

theorem witness_HostAccesses :
    let bar (s : State) (hpa : Nat) (w : Bool) : Option Nat := match s.hostBar 0 0 hpa w with | .violation _ _ => some 0 | .quiet => none | .go d => some (d + 1)
    let stopping := (hosted true 0).modTenant 0 (fun x => { x with stopping := true })
    let mordant : State := { hosted true 0 with od := [(0x5A00 * 256 + 5, 0x100000)], reg := { live.reg with enabled := [0] } }
    (((hosted false 0).portAt 0).mem = true ∧ (hosted false 0).isDead ((hosted false 0).requester 0 0).val = false ∧ (hosted false 0).host.active = false ∧
      (hosted true 0).host.active = true) ∧
    (bar (hosted true 0) 0 false = some 1 ∧ bar (hosted true 0) 0 true = some 1 ∧ (hosted true 0).isHdmDb 0 = false ∧ plain (hosted true 0) 0 = true) ∧
    (bar (hosted true 64) 0 false = some 1 ∧ bar (hosted true 64) 0 true = some 1 ∧ (hosted true 64).isHdmDb 0 = true) ∧
    (bar (hosted true 0) (2 ^ 28) false = some 0 ∧ bar (hosted true 0) (2 ^ 28) true = some 0) ∧ (bar stopping 0 false = none ∧ bar stopping 0 true = none) ∧
    ((hosted true 0).recordOf 0 = none ∧ bar mordant 0x100000 true = some 0x100001 ∧ (mordant.recordOf (0x100000 / 64)).isSome = true ∧ mordant.isHdmDb 0x100000 = false) ∧
    ((live.portAt 0).mem = false ∧
      ({ hosted true 0 with coh := { live.coh with dead := [0] } } : State).isDead (({ hosted true 0 with coh := { live.coh with dead := [0] } } : State).requester 0 0).val = true) := by
  decide +kernel

/-- HOST_MODE MLD. -/
def mldMode (s : State) : State := { s with opt := { s.opt with inUse := BitVec.ofNat 2048 (s.opt.inUse.toNat + 2 ^ 142) } }

theorem witness_PortsAndFunctions :
    let up (n : Nat) : State := { live with host := { live.host with ports := (List.range n).map (fun p => (p, { (default : Port) with up := true })) } }
    (live.gfdGood (Tab.set live.host.gfd 0 (decTrim 0)) = true ∧ live.gfdGood (Tab.set live.host.gfd 0 (decTrim (BitVec.ofNat 256 (2 ^ 192)))) = false) ∧
    ((live.portAt 0).perst = false ∧ live.rst.isolated.contains (.port 0) = false ∧ bit live.clk.status 7 = false ∧
      ({ live with rst := { live.rst with isolated := [.port 0] } } : State).rst.isolated.contains (.port 0) = true) ∧
    (((up 2).portAt 0).up = true ∧ ((up 2).portAt 1).up = true ∧ (up 2).tlb.fetches = [] ∧ (up 2).mld = false) ∧
    (((up 1).portAt 0).up = true ∧ (∀ q : Fin 4, q ≠ 0 → ((up 1).portAt q.val).up = false) ∧ (up 1).coh.dir = [] ∧ (up 1).coh.queue = [] ∧ (up 1).coh.jobs = []) ∧
    ((mldMode (up 1)).mld = true ∧ ((mldMode (up 1)).portAt 0).up = true) ∧
    ((live.portAt 3).up = false ∧ (live.portAt 3).perst = false ∧ ((live.modPort 3 (fun x => { x with perst := true })).portAt 3).perst = true) ∧
    (((up 4).portAt (funcPort 3)).up = true ∧ (live.portAt (funcPort 3)).up = false) := by
  decide +kernel

theorem witness_MailboxDoeAndCdat :
    let m := mldMode (hosted true 0)
    ((hosted true 0).mld = false ∧ ((hosted true 0).cdatRanges 0)[2 / 3]? = some (0, 2 ^ 28, false) ∧ ((hosted true 0).cdatRanges 0)[3 / 3]? = none) ∧
    (live.reaches 0 0 = false ∧ m.mld = true ∧ m.ldDpa 0 (2 ^ 45) = none) ∧
    ((hosted true 0).reaches 0 0 = true ∧ (hosted true 0).owner 0 = some 0 ∧ ((hosted true 0).tenantAt 0).state = 2 ∧
      ((hosted true 0).tenantAt 0).stopping = false ∧ (hosted true 0).isHdmDb 0 = false ∧ (hosted true 64).isHdmDb 0 = true ∧
      (hosted true 64).reaches 0 0 = true ∧ plain (hosted true 0) 0 = true) ∧
    ((partition 1).owner 0 = some 0 ∧ ((partition 1).tenantAt 0).state ≠ 2) := by
  decide +kernel

/-- Function 0 with an open session 1, and window 0 enabled, keyed and armed over tenant 0 at offset 4096, slots of 128 B; the packet in
its slot has the fields, the tag and 64 bytes of sealed text given. -/
def glazed (op seq len tag text : Nat) (db : BitVec 64) : State :=
  let s := hosted true db
  { s with
    od := [(0x5100 * 256 + 2, 4096), (0x5100 * 256 + 3, 7), (0x5100 * 256 + 4, 4), (0x5100 * 256 + 5, 1)]
    med := { s.med with mem := Mem.write (Mem.write [] 8320 (leBytes 32 (seq + len * 2 ^ 128 + op * 2 ^ 160) ++ leBytes 16 tag)) 8384 (leBytes 64 text) }
    host := { s.host with
      sessions := [{ path := .doe 0, id := 1, open_ := true, keys := 0 }]
      glaze := [(0, { key := some (5, .doe 0, 1), inNext := 1, outNext := 1, inCount := 0, outCount := 0, armed := true })] } }
/-- OP and SEQ of the packet at the watched header, and its text where the tag verifies. -/
def packetAt (s : State) : Nat × Nat × Option (List (BitVec 8)) :=
  let h := ((s.glazeRoom 0).2.readBytes ((s.glazeRoom 0).2.glazeHeader 0) 64).1.1
  let body := if bytesBits h 163 160 = 1 then Nat.min (bytesBits h 159 128) 64 else 0
  (bytesBits h 163 160, bytesBits h 63 0,
    gcmOpen 5 (glazeIv 0 false (bytesBits h 63 0)) (h.take 32) ((s.readBytes (s.glazeHeader 0 + 64) body).1.1 ++ (h.drop 32).take 16))

/-- Packets of each kind that the statement tells apart: a wrong number, a tag that does not verify, neither operation, READ and WRITE. -/
theorem witness_KeysAndGlazeWindows_packets :
    packetAt (glazed 2 9 64 0x3dd0f650f96a152f0c808f102236aa0f 0 0) = (2, 9, some []) ∧
    packetAt (glazed 2 1 64 0 0 0) = (2, 1, none) ∧
    packetAt (glazed 3 1 64 0x6bad886cec4ac3776534e435fd6a3d15 0 0) = (3, 1, some []) ∧
    packetAt (glazed 2 1 64 0x351bcda7fd683103cf797dd281ce06b0 0 0) = (2, 1, some []) ∧
    packetAt (glazed 1 1 64 0x3d8638bcaa84555736e30f22a6901c3a 0xf98c408989165d733ceb9739be6f55de059b324b49fbca838a61e4ce67f298762b7e2d6ec7a2d45c3038c0cdef9b670b8455d7d6bfd40424c158a5e51bec28f1 0) =
      (1, 1, some (List.replicate 64 7)) := by
  decide +kernel

theorem witness_KeysAndGlazeWindows :
    let g := glazed 2 1 64 0 0 0
    let m := mldMode { g with host := { g.host with sessions := [{ path := .doe 4, id := 1, open_ := true, keys := 0 }] } }
    let s := (g.setPar 0x5040 1 0).setPar 0x5100 1 0
    let full := g.modGlaze 0 (fun x => { x with inCount := 2 ^ 32 })
    let bad : State := { g with med := { g.med with poison := [0] } }
    let held : State := { glazed 2 1 64 0 0 64 with coh := { live.coh with dir := [(0, entry .M (some (.host 1)))] } }
    (g.sessionOpen (.doe 0) 1 = true ∧ g.mld = false ∧ g.sessionOpen (.doe 0) 2 = false ∧ m.mld = true ∧ m.sessionOpen (.doe 4) 1 = true) ∧
    (s.par 0x5040 1 = s.par 0x5100 1 ∧ s.par 0x5100 5 = 1 ∧ (s.setPar 0x5100 5 0).par 0x5100 5 ≠ 1 ∧ s.sessionOpen (.doe 0) 1 = true) ∧
    ((live.glazeAt 0).key = none ∧ ((g.modGlaze 0 (fun x => { x with armed := false })).glazeAt 0).armed = false ∧ (g.setPar 0x5100 5 0).par 0x5100 5 = 0 ∧
      ((g.modGlaze 0 (fun x => { x with outNext := 4 })).glazeRoom 0).1 = false ∧ 2 ^ 32 ≤ (full.glazeAt 0).inCount) ∧
    ((g.glazeAt 0).key = some (5, .doe 0, 1) ∧ (g.glazeAt 0).armed = true ∧ g.par 0x5100 5 = 1 ∧ (g.glazeRoom 0).1 = true ∧ (g.glazeAt 0).inCount < 2 ^ 32 ∧
      (g.glazeAt 0).outCount < 2 ^ 32 ∧ (g.glazeAt 0).inNext = 1) ∧
    ((g.tenantAt (g.par 0x5100 1)).state = 2 ∧ (g.tenantAt (g.par 0x5100 1)).stopping = false ∧ 64 ≤ 2 ^ g.par 0x5100 3 - 64 ∧ 0 + 64 ≤ (g.tenantAt 0).size.toNat ∧
      ¬ 0x200000 + 64 ≤ (g.tenantAt 0).size.toNat) ∧
    ((g.glazeRead 0 64).1 = some (List.replicate 64 0, false) ∧ (bad.glazeRead 0 64).1.any (fun q => q.2) = true ∧ (held.glazeRead 0 64).1 = none) := by
  decide +kernel

/-- A message header: OP, final, INDEX, SUBINDEX, OFFSET, LENGTH. -/
def header (op idx sub off len : Nat) : BitVec 128 :=
  BitVec.ofNat 128 (1 + op * 2 ^ 8 + 2 ^ 12 + idx * 2 ^ 32 + sub * 2 ^ 48 + off * 2 ^ 64 + len * 2 ^ 96)

theorem witness_DictionaryRequests :
    let win : Client := { path := .window 4, key := 0 }
    let kept (h : BitVec 128) : State := live.modClient tester (fun x => { x with kept := some (h, h, []) })
    let latched : State := live.modClient tester (fun x => { x with latch := some (odKey 0x1000 1, [1, 2]) })
    let gap : State := { live with cx := { live.cx with gap := true } }
    let row (h : BitVec 128) (f : OdRow → Bool) : Bool := (odHighest (hdrIndex h)).isSome && (odRow (hdrIndex h) (hdrSub h)).any f
    let rd (sub off : Nat) := header 1 0x1000 sub off 4
    (live.pwr.gateOn = true ∧ live.windowTakes tester = true ∧ live.cx.gap = false ∧ live.running = true ∧ clientGroup tester ≠ 0 ∧ clientGroup win = 0) ∧
    (headerGood (rd 1 0) 0 = true ∧ hdrOp (rd 1 0) = 1 ∧ live.keptFor tester (rd 1 0) = none ∧ hdrOffset (rd 1 0) = 0 ∧ hdrOffset (rd 1 4) ≠ 0 ∧
      live.inScope tester 0x1000 1 false = true ∧ row (rd 1 0) (fun r => r.acc ≠ .wo) = true) ∧
    (headerGood (header 1 0x0FFF 0 0 1) 0 = true ∧ odHighest 0x0FFF = none ∧ headerGood (header 1 0x1000 200 0 1) 0 = true ∧ odRow 0x1000 200 = none ∧
      odRow 0x1000 0 = none ∧ (odHighest 0x1000).isSome = true ∧ live.inScope win 0x1000 0 false = false) ∧
    (let h := header 2 0x3840 1 0 1
     headerGood h 1 = true ∧ hdrOp h = 2 ∧ hdrOffset h = 0 ∧ hdrFinal h = true ∧ hdrIndex h ≠ 0x7C20 ∧
      row h (fun r => r.acc ≠ .const && r.acc ≠ .ro && writeSize r = some 1) = true ∧ live.inScope tester 0x3840 1 true = true ∧ live.option 199 199 ≠ 0 ∧
      headerGood (header 2 0x3840 1 0 2) 2 = true ∧ row (header 2 0x1000 1 0 4) (fun r => r.acc = .const || r.acc = .ro) = true ∧ live.inScope win 0x3840 1 true = false) ∧
    ((kept (rd 1 0)).keptFor tester (rd 1 0) = some (rd 1 0, [])) ∧ gap.cx.gap = true ∧
    ((latched.clientAt tester).latch = some (odKey 0x1000 1, [1, 2]) ∧ (live.clientAt tester).latch = none ∧ ¬ [1, 2].length < 2 ∧ [1, 2].length < 3) ∧
    (tester.path = .field ∧ win.path ≠ .field) := by
  decide +kernel

/-- A good option record: class S, one chip. -/
def goodOptions : BitVec 2048 := BitVec.ofNat 2048 (0x5254504F + 2 ^ 32 + 255 * 2 ^ 176 + 8 * 2 ^ 184)

theorem witness_OptionsNetworkAndAddresses :
    (live.serves tester 0x1010 2 = true ∧ ({ live with opt := { live.opt with st := 1 } } : State).opt.st = 1 ∧ live.opt.st ≠ 1 ∧
      optionForm 0 = false ∧ optionForm goodOptions = true ∧ live.opt.used = false ∧ ({ live with opt := { live.opt with used := true } } : State).opt.used = true) ∧
    (({ live with opt := { live.opt with writing := some goodOptions } } : State).opt.writing = some goodOptions ∧ live.opt.writing = none) ∧
    (ipBytes (BitVec.ofNat 128 0xFE80000000000000020000FFFE000000) = [0xFE, 0x80, 0, 0, 0, 0, 0, 0] ++ live.eui64 ∧
      ipBytes 0 ≠ [0xFE, 0x80, 0, 0, 0, 0, 0, 0] ++ live.eui64 ∧ live.pwr.gateOn = true) ∧
    (live.i3c = none ∧ (0x7F : BitVec 7) ≠ 0 ∧ ({ live with i3c := some 9 } : State).i3c = some 9) ∧
    (({ live with opt := { live.opt with inUse := BitVec.ofNat 2048 (127 * 2 ^ 192) } } : State).option 198 192 = 127 ∧ live.option 198 192 = 0) := by
  decide +kernel

theorem witness_WindowsAndBoot_windows :
    let s := live.setPar 0x5040 1 0x8000
    let gap : State := { s with cx := { s.cx with gap := true } }
    let off : State := { live with pwr := { live.pwr with gateOn := false } }
    let pended := s.modWindow 0 (fun x => { x with pending := some 1 })
    let changed := s.modWindow 0 (fun x => { x with changed := true })
    let up : State := { s with host := (boots 1).host }
    (s.pwr.gateOn = true ∧ s.clientScope (windowClient 0) ≠ 0xFFFF ∧ s.cx.gap = false ∧ (s.windowAt 0).changed = false ∧ (s.windowAt 0).pending = none ∧
      (pended.windowAt 0).pending ≠ none ∧ pended.cx.gap = false ∧ s.running = true ∧ s.interfaceVersion = 0 ∧ (1 : BitVec 32).toNat ≠ s.interfaceVersion) ∧
    (up.running = false ∧ up.bootWindow = 0 ∧ up.clientScope (windowClient 0) ≠ 0xFFFF ∧ (up.windowAt 0).changed = false ∧
      leNat [1, 0, 0, 0] = 1) ∧
    (gap.pwr.gateOn = true ∧ gap.clientScope (windowClient 0) ≠ 0xFFFF ∧ gap.cx.gap = true ∧ (gap.windowAt 0).changed = false ∧
      (gap.windowAt 0).pending = none ∧ gap.host.gapQueue.length < 64) ∧
    (off.pwr.gateOn = false ∧ (changed.windowAt 0).changed = true) := by
  decide +kernel

theorem witness_WindowsAndBoot_images :
    ((boots 1).imageOpen 1 = true ∧ (boots 2).imageOpen 1 = false ∧ (0 : BitVec 32) ≠ 1) ∧
    ((boots 1).pwr.gateOn = true ∧ (boots 1).cx.gap = false ∧ tester.path = .field ∧ (boots 1).keptFor tester (header 3 0 0 0 4) = none ∧
      headerGood (header 3 0 0 0 4) 4 = true ∧ hdrOp (header 3 0 0 0 4) = 3 ∧ (boots 1).imageOpen 2 = true ∧ hdrOffset (header 3 0 0 0 4) + 4 ≤ 16777216 ∧
      headerGood (header 3 0 0 16777214 4) 4 = true ∧ 16777216 < hdrOffset (header 3 0 0 16777214 4) + 4 ∧ (boots 2).imageOpen 2 = false) ∧
    (headerGood (header 4 0 0 4096 0) 0 = true ∧ hdrOp (header 4 0 0 4096 0) = 4 ∧ (boots 2).host.boot.goFrom = none) ∧
    ({ live with cx := { live.cx with gap := true } } : State).cx.gap = true ∧ live.cx.gap = false := by
  decide +kernel

theorem image_running (s : State) (h : s.sec = live.sec) (hi : s.host.boot.image = image) (hn : s.host.boot.length.toNat = 4096) :
    s.imageCheck s.host.boot.image s.host.boot.length.toNat = none ∧
      (otherKey s).imageCheck (otherKey s).host.boot.image (otherKey s).host.boot.length.toNat = some 2 := by
  rw [show (otherKey s).host = s.host from rfl, hi, hn]
  exact ⟨image_good s h, image_unsigned s h⟩

theorem witness_WindowsAndBoot_check :
    (boots 1).host.boot.state ≠ 2 ∧
    ((boots 2).host.boot.state = 2 ∧ (boots 2).imageCheck (boots 2).host.boot.image (boots 2).host.boot.length.toNat = none) ∧
    (otherKey (boots 2)).host.boot.state = 2 ∧ (otherKey (boots 2)).imageCheck (otherKey (boots 2)).host.boot.image (otherKey (boots 2)).host.boot.length.toNat = some 2 :=
  have h := image_running (boots 2) rfl (by simp only [boots]) (by decide +kernel)
  ⟨by decide +kernel, ⟨by decide +kernel, h.1⟩, by decide +kernel, h.2⟩

/-- The two complexes in their states, A active, with firmware’s image. -/
def complexes (a b : CxSt) : State :=
  { boots 4 with cx := { live.cx with a := { (default : Machine.Complex) with st := a }, b := { (default : Machine.Complex) with st := b } } }

theorem witness_ComplexesFailAndReturn :
    ((complexes .active .standby).rst.phase = .active ∧ ((complexes .active .standby).cxAt .A).st ≠ .failed ∧ bit (complexes .active .standby).clk.status 3 = false ∧
      (complexes .active .standby).cx.active = .A ∧ ((complexes .active .standby).cxAt .B).st = .standby ∧
      ((complexes .active .failed).cxAt .B).st ≠ .standby ∧ ((complexes .active .failed).cxAt .B).st = .failed) ∧
    (((complexes .active .failed).cxAt .B).st = .failed ∧ live.rst.isolated.contains (.cx .B) = false ∧
      ((complexes .active .failed).recentFails .B).length = 0 ∧ (complexes .active .failed).par 0x7C00 8 = 3 ∧
      ((complexes .active .failed).setPar 0x7C00 8 0).par 0x7C00 8 = 0 ∧ ((complexes .active .standby).cxAt .B).st ≠ .failed) ∧
    (((complexes .active .booting).cxAt .B).st = .booting ∧ (complexes .active .booting).running = true ∧ ((complexes .active .resync).cxAt .B).st ≠ .booting) ∧
    (((complexes .active .resync).cxAt .B).st = .resync ∧ (complexes .active .resync).cx.fwState = 0 ∧ ((complexes .active .booting).cxAt .B).st ≠ .resync) ∧
    ((complexes .active .held).serves tester 0x7C00 10 = true ∧ ((complexes .active .held).cxAt .B).st = .held ∧ ((complexes .active .held).cxAt .A).st ≠ .held ∧
      1 < (2 : BitVec 8).toNat) := by
  decide +kernel

theorem witness_ComplexesFailAndReturn_boot :
    (((complexes .active .booting).cxAt .B).st = .booting ∧ (complexes .active .booting).running = true ∧
      (complexes .active .booting).imageCheck (complexes .active .booting).host.boot.image (complexes .active .booting).host.boot.length.toNat = none) ∧
    ((otherKey (complexes .active .booting)).cxAt .B).st = .booting ∧ (otherKey (complexes .active .booting)).running = true ∧
    (otherKey (complexes .active .booting)).imageCheck (otherKey (complexes .active .booting)).host.boot.image
      (otherKey (complexes .active .booting)).host.boot.length.toNat = some 2 :=
  have h := image_running (complexes .active .booting) rfl (by simp only [complexes, boots]) (by decide +kernel)
  ⟨⟨by decide +kernel, by decide +kernel, h.1⟩, by decide +kernel, by decide +kernel, h.2⟩

theorem witness_SwitchoversAndUpdates :
    let s := complexes .active .standby
    let hot : State := { s with pwr := { s.pwr with emerg := true } }
    let fw (n : BitVec 16) : State := { s with cx := { s.cx with fwState := n } }
    let d (x : Cx) : State := { s with cx := { s.cx with deferred := some x } }
    (s.serves tester 0x7C00 10 = true ∧ (s.cxAt .B).st = .standby ∧ (s.cxAt .A).st ≠ .standby ∧ s.pwr.emerg = false ∧ s.pwr.emergHold = false ∧
      hot.pwr.emerg = true ∧ hot.serves tester 0x7C00 10 = true) ∧
    (let o := s.modCx .B (fun c => { c with owed := true })
     o.ringClass ≤ 1 ∧ (o.cxAt (otherCx o.cx.active)).st = .standby ∧ (o.cxAt (otherCx o.cx.active)).owed = true ∧ o.cx.gap = false ∧ o.pwr.emerg = false) ∧
    ((d .B).cx.deferred = some .B ∧ s.cx.deferred = none ∧ (d .B).pwr.emerg = false ∧ (d .B).cx.gap = false ∧ ((d .B).cxAt .B).st = .standby ∧ (d .B).cx.active ≠ .B ∧
      (d .A).cx.active = .A) ∧
    (s.serves tester 0x7C10 4 = true ∧ s.cx.fwState.toNat % 256 = 0 ∧ (fw 3).cx.fwState.toNat % 256 = 3 ∧ (fw 3).serves tester 0x7C10 4 = true ∧
      ((fw 3).cxAt (otherCx (fw 3).cx.active)).st = .standby ∧ ((complexes .active .failed).cxAt (otherCx .A)).st ≠ .standby) ∧
    (s.serves tester 0x7C10 2 = true ∧ (fw 1).cx.fwState.toNat % 256 = 1 ∧ 1048576 < (List.replicate 1048577 (0 : BitVec 8)).length) := by
  refine ⟨?_, ?_, ?_, ?_, ?_, ?_, by rw [List.length_replicate]; decide⟩ <;> decide +kernel

/-- MCTP agreed to a stage, with a session, in a life-cycle state. -/
def talking (n : Nat) (open_ : Bool) (lc : BitVec 8) : State :=
  { live with
    host := { live.host with agreed := [(.mctp, n)], sessions := [{ path := .mctp, id := 1, open_ := open_, keys := 0 }] }
    sec := { live.sec with lcState := lc, identity := true, certs := [(0, [1, 2])] } }

theorem witness_SpdmResponder :
    let mine (s : State) := s.host.sessions.filter (fun x => x.path = .mctp)
    let four : State := { talking 3 true 3 with host := { (talking 3 true 3).host with sessions := List.replicate 4 { path := .mctp, id := 1, open_ := true, keys := 0 } } }
    (live.running = true ∧ live.agreedTo .mctp < 1 ∧ 1 ≤ (talking 1 true 3).agreedTo .mctp ∧ 2 ≤ (talking 2 true 3).agreedTo .mctp ∧
      (talking 2 true 3).agreedTo .mctp < 3 ∧ (boots 1).running = false) ∧
    (3 ≤ (talking 3 true 3).agreedTo .mctp ∧ (talking 3 true 3).hasIdentity = true ∧ (talking 3 true 5).hasIdentity = false ∧
      ((talking 3 true 1).chain 0).isSome = true ∧ (talking 3 true 1).chain 1 = none ∧ (talking 3 true 1).sec.lcState.toNat = 0 + 1 ∧
      (talking 3 true 2).sec.lcState.toNat = 1 + 1) ∧
    ((mine (talking 3 true 3)).any (fun x => x.id = 2) = false ∧ (mine (talking 3 true 3)).any (fun x => x.id = 1) = true ∧
      (mine (talking 3 true 3)).length < 4 ∧ 4 ≤ (mine four).length ∧ (mine four).any (fun x => x.id = 2) = false) ∧
    ((talking 3 false 3).host.sessions.any (fun x => x.path = .mctp && x.id = 1 && x.open_ = false) = true ∧
      (talking 3 true 3).host.sessions.any (fun x => x.path = .mctp && x.id = 1 && x.open_ = true) = true ∧
      (talking 3 true 3).host.sessions.any (fun x => x.path = .mctp && x.id = 1 && x.open_ = false) = false) := by
  decide +kernel

/-- A token for the chip with DEVICE_UID 0 and the target RMA, signed outside the model with the private key 1 and the secret 1. -/
def rmaToken : BitVec 1184 :=
  BitVec.ofNat 1184 (4 * 2 ^ 64 + basePoint.1 * 2 ^ 128 + 0xc6f91eb32b9f233ec63666cafbe7fb83fb6fbfc2abd4c225473e28bdf4a5b471e344ed46274e56a29a7b22d5c1319a3a8540618c4d1909777e57a5b718c48ce2e8 * 2 ^ 656)

theorem witness_LifeCycleAndKeys :
    let scrap : BitVec 1184 := BitVec.ofNat 1184 (5 * 2 ^ 64)
    let other : State := { live with sec := { live.sec with lcKey := (0, 0) } }
    (live.serves tester 0x6000 2 = true ∧ bits rmaToken 63 0 = live.sec.uid.toNat ∧ live.sec.lcNext = none ∧ live.lcAllowed (bits rmaToken 71 64) = some true ∧
      live.lcAllowed (bits scrap 71 64) = some false ∧ bits scrap 63 0 = live.sec.uid.toNat ∧ live.lcAllowed (bits (0 : BitVec 1184) 71 64) = none) ∧
    live.tokenSigned rmaToken = true ∧ other.serves tester 0x6000 2 = true ∧ other.lcAllowed (bits rmaToken 71 64) = some true ∧
    (∀ n ∈ [0, 1, 2, 3, 4, 5], (talking 3 true (BitVec.ofNat 8 n)).sec.lcState = BitVec.ofNat 8 n) ∧
    (let s : State := { live with sec := { live.sec with runSvn := 5 } }
     s.serves tester 0x6000 4 = true ∧ (5 : BitVec 8).toNat ≤ s.sec.runSvn.toNat ∧ s.sec.minSvn.toNat < (5 : BitVec 8).toNat ∧ s.sec.runSvn.toNat < (6 : BitVec 8).toNat ∧
       (0 : BitVec 8).toNat ≤ s.sec.minSvn.toNat) ∧
    ((talking 3 true 3).running = true ∧ (talking 3 true 3).sessionOpen .mctp 1 = true ∧ (talking 3 true 3).sec.ringKey = none ∧
      ({ talking 3 true 3 with sec := { (talking 3 true 3).sec with ringKey := some 1 } } : State).sec.ringKey = some 1 ∧ (talking 3 true 3).sessionOpen .mctp 2 = false) ∧
    live.tenants.any (fun p => p.2.keyWait) = false ∧ ({ (default : Tenant) with keyWait := true } : Tenant).keyWait = true := by
  refine ⟨?_, ?_, ?_, ?_, ?_, ?_, ?_, ?_, ?_⟩
  · decide +kernel
  · decide +kernel
  · decide +kernel
  · decide +kernel
  · decide +kernel
  · decide +kernel
  · decide +kernel
  · decide +kernel
  · decide +kernel

theorem witness_LifeCycleAndKeys_unsigned :
    let other : State := { live with sec := { live.sec with lcKey := (0, 0) } }
    other.tokenSigned rmaToken = false ∧ other.sec.lcNext = none ∧ bits rmaToken 63 0 = other.sec.uid.toNat :=
  ⟨noKey _ _ _, rfl, by decide +kernel⟩

theorem witness_LifeCycleAndKeys_ports :
    let port (b : Bool) : State := { live with host := { live.host with sessions := [{ path := .doe 0, id := 1, open_ := true, keys := 0 }] }
                                               od := [(0x5040 * 256 + 1, if b then 0x8000 else 0)] }
    (port false).sessionOpen (.doe 0) 1 = true ∧ (port false).par 0x5040 1 ≠ 0x8000 ∧ (port true).par 0x5040 (0 + 1) = 0x8000 := by
  decide +kernel

theorem witness_TestsAndTheTestPort :
    let g : BitVec 64 := BitVec.ofNat 64 (16 * 2 ^ 11 + 11 * 2 ^ 23 + 4 * 2 ^ 32)
    let s := (live.setPar 0x7000 1 1).modSlice 0 (fun x => { x with trained := true, eff := [(3, g)], armed := some .controller })
    let few := s.modSlice 0 (fun x => { x with eff := [] })
    let gap : State := { s with cx := { s.cx with gap := true } }
    let held : State := { State.reset with rst := { State.reset.rst with kind := .warmHeld } }
    (s.par 0x7000 1 ≠ 0 ∧ s.running = true ∧ s.cx.gap = false ∧ s.par 0x7000 3 / 2 = 0 ∧ (s.sliceAt 0).trained = true ∧ (s.sliceAt 0).fatal = false ∧
      16 ≤ s.testSlots 0 ∧ few.testSlots 0 < 16 ∧ (few.sliceAt 0).trained = true ∧ gap.cx.gap = true ∧ (live.sliceAt 0).trained = false ∧ (live.setPar 0x7000 1 0).par 0x7000 1 = 0) ∧
    ((s.sliceAt 0).armed = some .controller ∧ (s.sliceAt 0).testFails + 1 < 2 ∧ 2 ≤ ((s.modSlice 0 (fun x => { x with testFails := 1 })).sliceAt 0).testFails + 1 ∧
      (live.sliceAt 0).armed = none) ∧
    (let f := (talking 3 true 4).modSlice 0 (fun x => { x with trained := true })
     f.serves tester 0x7000 8 = true ∧ f.sec.lcState = 4 ∧ (f.vatAt 33).unusable = false ∧ ¬ (34 : BitVec 8).toNat < 34 ∧ (f.sliceAt 0).trained = true ∧
       (f.sliceAt 1).trained = false ∧ live.serves tester 0x7000 8 = true ∧ live.sec.lcState ≠ 1 ∧ live.sec.lcState ≠ 4) ∧
    (live.serves tester 0x7420 8 = true ∧ live.dumpGood 0 0 = true ∧ live.dumpGood 0 (BitVec.ofNat 256 (2 ^ 16 + 2 ^ 32)) = false ∧
      (live.modClient tester id).selected tester = 0) ∧
    live.reads tester 0x7400 1 = true ∧ (live.rst.prstLow = false ∧ State.reset.rst.prstLow = true ∧ State.reset.rst.kind ≠ .warmHeld ∧
      held.rst.prstLow = true ∧ held.rst.kind = .warmHeld ∧ held.rst.phase = .reset ∧ (talking 3 true 1).sec.lcState = 1 ∧ live.sec.lcState ≠ 0) := by
  decide +kernel

theorem witness_FaultRecordsAreLogged :
    let w : AggWindow := { first := default, count := 0, last := 0, written := true }
    let b (o n : Nat) : DigestBatch := { first := { (default : FaultRec) with origin := BitVec.ofNat 6 o }, count := n, last := 0 }
    let f : State := { live with flt := { live.flt with windows := [w], overflow := some 3, batches := [b 0 0, b 0 1, b 1 1], coalesce := [(0, true), (1, false)],
                                                        lost := some (2, 5, 9) } }
    (f.flt.windows[0]? = some w ∧ f.flt.windows[1]? = none ∧ f.flt.overflow = some 3 ∧ live.flt.overflow = none) ∧
    (f.flt.batches[0]? = some (b 0 0) ∧ f.flt.batches[1]? = some (b 0 1) ∧ f.flt.batches[2]? = some (b 1 1) ∧ f.flt.batches[3]? = none ∧
      f.routePresent f.epoch 0 = true ∧ f.routePresent f.epoch 1 = false) ∧
    (live.running = true ∧ live.cx.gap = false ∧ live.flt.lost = none ∧ live.flt.log.length ≤ 65536 ∧ f.flt.lost = some (2, 5, 9)) ∧
    (live.serves tester 0x7800 2 = true ∧ live.reads tester 0x7800 2 = true ∧ live.serves tester 0x7800 3 = true) ∧
    (f.flt.coalesce.find? (fun e => e.1 = 0) = some (0, true) ∧ f.flt.coalesce.find? (fun e => e.1 = 1) = some (1, false) ∧
      f.flt.coalesce.find? (fun e => e.1 = 2) = none) := by
  decide +kernel

theorem witness_ClocksAndTheTimeBase :
    let s (n : BitVec 32) : State := { live with clk := { live.clk with status := n } }
    (Clock.crystal ≠ .sidOsc ∧ (30001 : Int) > 30000 ∧ (-30000 : Int) ≤ 30000 ∧ live.clk.suspect.contains (clockNo .crystal) = false ∧
      ({ live with clk := { live.clk with suspect := [clockNo .refPool] } } : State).clk.suspect.contains (clockNo .refPool) = true) ∧
    (isPll .vatPll = true ∧ isPll .crystal = false ∧ live.clockFailed .refPool = false ∧ (s 2).clockFailed .refPool = true ∧ isCore .hbmPll = true ∧
      (s 4).clockFailed .crystal = true) ∧
    (clockBit .refPool = 1 ∧ clockBit .poolPll = 6 ∧ clockBit .crystal ≠ 1 ∧ clockBit .crystal ≠ 6 ∧ bit (s 64).clk.status 6 = true ∧ bit (s 2).clk.status 6 = false) ∧
    (live.now ≤ (0 : BitVec 64).toNat ∧ (0 : BitVec 64).toNat < ({ live with clk := { live.clk with now := 1 } } : State).now) := by
  decide +kernel

theorem witness_SensorsAndEmergencies :
    let s : State := { live with pwr := { live.pwr with missed := [(72, 2)] } }
    let e (b : Bool) : State := { live with pwr := { live.pwr with warnings := [2], emerg := b } }
    let q : State := { live with pwr := { live.pwr with emerg := true } }
    ((s.sensorRead 72 false).sensorAbsent 72 = true ∧ (live.sensorRead 72 false).sensorAbsent 72 = false ∧ Tab.get s.pwr.missed 72 0 = 2 ∧
      Tab.get live.pwr.missed 72 0 ≠ 2) ∧
    ((850 : Int) < 851 ∧ (830 : Int) ≤ 830 ∧ (830 : Int) < 831 ∧ (850 : Int) ≤ 850) ∧
    (0 < 64 ∧ [some (7 : Int), none][0]? = some (some 7) ∧ [some (7 : Int), none][1]? = some none) ∧
    (live.cx.gap = false ∧ ({ live with cx := { live.cx with gap := true } } : State).cx.gap = true) ∧
    ((e false).emergencies false = [(false, 3, 2)] ∧ (e false).pwr.emerg = false ∧ (e true).pwr.emerg = true ∧ live.emergencies false = []) ∧
    (q.pwr.emerg = true ∧ q.emergencies false = [] ∧ q.emergencies true = []) := by
  decide +kernel

theorem witness_ThrottleSteps :
    let s (step : BitVec 3) : State := { live with pwr := { live.pwr with step := step } }
    let h (n : BitVec 3) : State := { live with pwr := { live.pwr with reqTherm := some n, core := [(0, 2000)] } }
    ((s 0).pwr.step.toNat ≤ (s 0).effectiveStep ∧ (s 3).effectiveStep < (s 3).pwr.step.toNat ∧ (s 3).pwr.slow = false ∧ (s 3).cx.gap = false ∧
      ¬ (s 3).pwr.raise.any (fun r => r.toNat ≠ (s 3).effectiveStep) ∧ (s 3).pwr.raise = none) ∧
    (let r : State := { live with pwr := { live.pwr with raise := some 1 } }
     r.pwr.raise = some 1 ∧ r.pwr.settled = false ∧ ({ r with pwr := { r.pwr with settled := true } } : State).pwr.settled = true ∧ live.pwr.raise = none) ∧
    ((s 0).running = true ∧ (s 0).cx.gap = false ∧ (boots 1).running = false ∧ 0 < 6 ∧ (s 0).fitsCap 0 0 100 = true ∧ (s 3).fitsCap 0 0 100 = true ∧
      (s 0).pwr.step.toNat ≤ 0 ∧ 0 < (s 3).pwr.step.toNat) ∧
    (live.pwr.clamp = false ∧ (h 4).pwr.reqTherm = some 4 ∧ (4 : BitVec 3).toNat < 5 ∧ 5 ≤ (5 : BitVec 3).toNat ∧ (h 4).coreReading 0 ≥ ((h 4).par 0x2100 3 : Int) ∧
      (h 4).running = true ∧ (h 4).cx.gap = false ∧ live.pwr.reqTherm = none) ∧
    (live.pwr.thrDrive = false ∧ ({ live with pwr := { live.pwr with thrDrive := true } } : State).pwr.thrDrive = true) := by
  decide +kernel

theorem witness_ThrottleSteps_cap :
    let s := (live.setPar 0x2010 1 1)
    let n := s.pwr.step.toNat
    (∀ k ∈ List.range 6, s.fitsCap 100000000 k 100 = false) ∧ n ≤ 5 ∧ s.running = true ∧ s.cx.gap = false := by
  decide +kernel

theorem witness_GatesShapersAndAlignment :
    let good : BitVec 64 := BitVec.ofNat 64 (16 * 2 ^ 11 + 11 * 2 ^ 23 + 4 * 2 ^ 32)
    let m : Marker := { frame := 5, probe := 9, echo := true, skewPs := 0, master := 0, lock := 0, arrival := 0 }
    let p : State := { live with cal := { live.cal with probes := [(0, 9, -100)] } }
    -- A ring of 3 x 1 at position 1 whose frame master is at position 0, with the link on port 1 up.
    let r (ready : Bool) : State := { live with
      opt := { live.opt with inUse := BitVec.ofNat 2048 (2 ^ 128 + 2 * 2 ^ 134 + 2 ^ 140 + 15 * 2 ^ 148) }
      od := [(0x5400 * 256 + 6, 128)]
      pool := { live.pool with ready := ready, links := [(1, { (default : Link) with st := .active })] } }
    let ok : State := { live with cal := { live.cal with goodRun := 16 } }
    let bad : State := { r true with cal := { live.cal with badRun := 16 } }
    ((live.serves tester 0x3440 4 = true ∧ live.serves tester 0x3440 1 = true ∧ live.serves tester 0x346B 16 = true ∧
      (live.modClient tester id).gateAccepted 0 3 good = true ∧ (live.modClient tester id).gateAccepted 43 15 (BitVec.ofNat 64 (2 ^ 31)) = false) ∧
    live.serves tester 0x3430 16 = true ∧ shaperForm 0 = true ∧ shaperForm (2 * 4) = false) ∧
    (m.echo = true ∧ p.cal.probes.find? (fun q => q.1 = 0 && q.2.1 = m.probe.toNat) = some (0, 9, -100) ∧ live.cal.probes = []) ∧
    (m.probe ≠ 0 ∧ live.refPort = none ∧ (r false).refPort = some 1 ∧ (r false).pool.ready = false ∧ (r true).refPort = some 1 ∧ (r true).pool.ready = true ∧
      (r true).par (0x5410 + 1) 3 = 0) ∧
    (16 ≤ ok.cal.goodRun ∧ ok.pool.locked = false ∧ live.cal.goodRun < 16) ∧
    (16 ≤ bad.cal.badRun ∧ bad.frameLock ≠ 3 ∧ bad.refPort = some 1 ∧ live.cal.badRun < 16) ∧
    let lost := (r true).setPar 0x3400 3 3
    (lost.frameLock = 3 ∧ 16 ≤ ({ lost with cal := ok.cal } : State).cal.goodRun ∧ ({ lost with cal := ok.cal } : State).frameLock = 3) := by
  decide +kernel

/-- A move of extent 2 to the media of partner 3. -/
def move (round : Nat) (dirty : List Nat) (zero : Bool) : Move :=
  { (default : Move) with extent := 2, partner := 3, round := round, dirty := dirty, zero := zero }
/-- That move on channel 0. -/
def moving (m : Move) : State := { live with reg := { live.reg with moves := [m] } }
/-- A move of extent 2 of `regional`’s tenant, which a resident plan with a pin for writing holds back. -/
def heldMove (m : Move) : State :=
  { moving m with
    ctxs := [(0, { (default : Ctx) with state := 1, phase := .running, prints := [{ (default : Footprint) with size := 64, write := true }] })]
    tlb := { live.tlb with l2 := [{ (default : L2Entry) with shift := 21, ppa := 0x400000, read := true, write := true, locked := true }] } }

theorem witness_RegionsPublishAndMigrate_regions :
    (regional.serves tester 0x5A00 12 = true ∧ regional.reg.enabled.contains 0 = false ∧ (regional.modClient tester id).regionGood 0 = true ∧
      (({ regional with tenants := [] } : State).modClient tester id).regionGood 0 = false ∧ ({ regional with tenants := [] } : State).serves tester 0x5A00 12 = true ∧
      published.reg.enabled.contains 0 = true ∧ published.serves tester 0x5A00 12 = true) ∧
    regional.isHdmDb ((regional.regionPublish 0).1 / 64 * 64) = true ∧ live.isHdmDb ((live.regionPublish 0).1 / 64 * 64) = false := by
  decide +kernel

theorem witness_RegionsPublishAndMigrate_publish :
    let old := (published.readBytes (published.recordDpa 0) 64).1
    let bad : State := { published with med := { published.med with poison := [0x600000 / 64] } }
    old.2 = false ∧ bitsAt (leNat old.1) 63 0 = 0 ∧ bankFree (leNat old.1) 0 = true ∧ published.par 0x5A00 7 = 0x2A1 ∧ 0x2A1 ≠ 0xFFFF ∧
      published.reg.enabled.contains 0 = true ∧ regional.reg.enabled.contains 0 = false ∧ (bad.readBytes (bad.recordDpa 0) 64).1.2 = true ∧
      bankFree (2 ^ 66) 0 = false ∧ bits (1 : BitVec 512) 63 0 = 0 + 1 ∧ bits (1 : BitVec 512) 127 104 = 0 ∧ bits (1 : BitVec 512) 255 224 = 0 ∧
      bits (2 : BitVec 512) 63 0 ≠ 0 + 1 ∧ bits (0 : BitVec 512) 63 0 = 0 := by
  decide +kernel

theorem witness_RegionsPublishAndMigrate_moves :
    ((moving (move 3 [] false)).moveOn 0 = some (move 3 [] false) ∧ (move 3 [] false).zero = false ∧ (move 3 [] false).round < 4) ∧
    ((move 4 [] false).round = 4 ∧ (moving (move 4 [] false)).moveHeld (move 4 [] false) = false ∧ (heldMove (move 4 [] false)).moveHeld (move 4 [] false) = true ∧
      (move 4 (List.range 64) false).dirty.length ≤ 64 ∧ 64 < (move 4 (List.range 65) false).dirty.length) ∧
    (4 < (move 5 [] false).round ∧ (move 5 [] false).round = 5 ∧ (moving (move 5 [] false)).moveHeld (move 5 [] false) = false ∧
      (heldMove (move 5 [] false)).moveHeld (move 5 [] false) = true ∧ (moving (move 5 [] false)).ringClass = 0) ∧
    ((moving (move 0 [] true)).moveOn 0 = some (move 0 [] true) ∧ (move 0 [] true).zero = true ∧ live.moveOn 0 = none) := by
  decide +kernel

theorem witness_PoolFlits :
    let f : HeldFlit := { seq := 4095, packets := [] }
    let s (rq : Option (BitVec 12)) (re : Option (BitVec 12 × Nat)) : State := { live with pool := { live.pool with links := [(0, { (default : Link) with
      st := .active, buffer := [f, { f with seq := 0 }], txSeq := 1, unacked := 31, replayReq := rq, replays := re, sent := [(4, 512)] })] } }
    let h (seq ack : Nat) : FlitHeader := { seq := BitVec.ofNat 12 seq, ackSeq := BitVec.ofNat 12 ack, ackValid := true, creditVc := 4, credit := 0 }
    let l (seq : Nat) : Link := (((s none none).takeAck 0 (h seq 5)).takeCredit 0 4 0).linkAt 0
    (((s none none).linkAt 0).buffer = f :: [{ f with seq := 0 }] ∧ ((h 0 0).ackSeq - f.seq).toNat < 2 ∧ 2 ≤ ((h 0 1).ackSeq - f.seq).toNat ∧
      (live.linkAt 0).buffer = []) ∧
    ((Tab.get ((s none none).linkAt 0).sent 4 0 - 0).toNat ≤ vcSize 4 ∧ vcSize 4 < (Tab.get ((s none none).linkAt 0).sent 4 0 - 513).toNat) ∧
    (((s none none).linkAt 0).st = .active ∧ ((h 0 5).seq - (l 0).expect).toNat = 0 ∧ ((h 2047 5).seq - (l 2047).expect).toNat = 2047 ∧
      2047 < ((h 2048 5).seq - (l 2048).expect).toNat ∧ (l 0).replayReq = none ∧ ((s (some 0) none).linkAt 0).replayReq ≠ none) ∧
    ((l 0).buffer.length = 2 ∧ (((s none (some (0, 8))).takeAck 0 (h 0 5)).takeCredit 0 4 0 |>.linkAt 0).replays = some (0, 8) ∧
      ((1 : BitVec 12) - 4095).toNat ≤ 2 ∧ 2 < ((2 : BitVec 12) - 4095).toNat) ∧
    (((s none none).linkAt 0).unacked ≠ 0 ∧ (live.linkAt 0).unacked = 0 ∧ ((s (some 0) none).linkAt 0).replayReq = some 0 ∧ (live.linkAt 0).st ≠ .active) := by
  decide +kernel

theorem witness_PoolLinkStates :
    let l (f : Link → Link) : State := { live with
      opt := { live.opt with inUse := BitVec.ofNat 2048 (live.opt.inUse.toNat + 15 * 2 ^ 148) }
      pool := { live.pool with links := [(0, f default)] } }
    let re : State := l (fun x => { x with st := .retrain, agreed := some 2, retrainReq := some 1 })
    (((linkIn .aligning).linkAt 0).st = .aligning ∧ ((linkIn .init).linkAt 0).st ≠ .training ∧ ((linkIn .init).linkAt 0).st ≠ .down ∧
      ((linkIn .init).linkAt 0).st ≠ .aligning ∧ ((linkIn .init).linkAt 0).st ≠ .retrain ∧ ((linkIn .init).linkAt 0).st ≠ .active) ∧
    (((linkIn .training).linkAt 0).st = .training ∧ ((linkIn .training).linkAt 0).fails < 2 ∧
      2 ≤ ((l (fun x => { x with st := .training, fails := 2 })).linkAt 0).fails) ∧
    (((l id).linkAt 0).st = .down ∧ ((l id).linkAt 0).held = false ∧ (l id).linkEnabled 0 = true ∧ (l id).pool.broken = false ∧ (l id).poolClockBad = false) ∧
    ((re.linkAt 0).agreed = some 2 ∧ (re.linkAt 0).retrainReq = some 1 ∧ (re.linkAt 0).st = .retrain ∧
      ((linkIn .retrain).linkAt 0).retrainReq = none ∧ ((linkIn .retrain).linkAt 0).agreed = none ∧ (2 : BitVec 2) ≠ 3 ∧ ((linkIn .active).linkAt 0).st = .active) ∧
    (live.neighbour 0 = (0, 1) ∧ live.option 136 134 = 0 ∧ live.option 139 137 = 0 ∧ live.ringClass = 0 ∧ live.classFits = true ∧
      ({ live with opt := { live.opt with inUse := BitVec.ofNat 2048 (2 ^ 140) } } : State).classFits = false) ∧
    (((l (fun x => { x with st := .init, inited := true })).linkAt 0).inited = true ∧ live.serves tester 0x5410 4 = true ∧ (l id).serves tester 0x5410 4 = true) := by
  decide +kernel

/-- A packet header of a type for this chip, with DPA 0, one line, four units, tag 3 and a status. -/
def packet (type status : Nat) : BitVec 128 := BitVec.ofNat 128 (type * 8 + 4 * 2 ^ 20 + 2 ^ 24 + 3 * 2 ^ 40 + status * 2 ^ 56)

theorem witness_PoolPackets_headers :
    (∀ t ∈ List.range 11, (PktHdr.unpack (packet t 2)).type = t ∧ (PktHdr.unpack (packet t 2)).dest = live.coord ∧ (PktHdr.unpack (packet t 2)).status = 2 ∧
      (PktHdr.unpack (packet t 2)).units = 4 ∧ (PktHdr.unpack (packet t 2)).lines = 1 ∧ (PktHdr.unpack (packet t 2)).tag = 3 ∧ (PktHdr.unpack (packet t 2)).reqKind ≠ 4) ∧
    (PktHdr.unpack (packet 1 0 ^^^ BitVec.ofNat 128 (2 ^ 24))).lines = 0 ∧ (PktHdr.unpack (packet 4 0 + BitVec.ofNat 128 (4 * 2 ^ 60))).reqKind = 4 ∧
    (PktHdr.unpack (packet 1 0 + BitVec.ofNat 128 (5 * 2 ^ 8))).dest ≠ live.coord := by
  decide +kernel

theorem witness_PoolPackets :
    let r : PoolReq := { tag := 3, hdr := packet 1 0, data := [], owner := none, word := none }
    let q : State := { partition 2 with pool := { live.pool with reqs := [r] } }
    let far (b : BitVec 128) := (PktHdr.unpack (b + BitVec.ofNat 128 (5 * 2 ^ 8)))
    let hold : State := { partition 2 with tenants := [(0, { ((partition 2).tenantAt 0) with dbSize := 0x200000 })], coh := { live.coh with dir := [(0, entry .M (some (.host 1)))] } }
    ((partition 2).allowed 0 0 false = true ∧ (partition 1).allowed 0 0 false = false ∧ ((partition 2).poolRead 0 1).1 = some (List.replicate 64 0, false) ∧
      (hold.poolRead 0 1).1 = none ∧ hold.allowed 0 0 false = true) ∧
    ((partition 2).allowed 0 0 true = true ∧ (partition 2).isHdmDb 0 = false ∧ plain (partition 2) 0 = true ∧ (partition 2).recordOf 0 = none ∧
      ({ live with med := { live.med with poison := [0] } } : State).isPoison 0 = true) ∧
    (q.pool.reqs.find? (fun q => q.tag.toNat = 3) = some r ∧ r.owner = none ∧ live.pool.reqs.find? (fun q => q.tag.toNat = 3) = none) ∧
    ((far (packet 1 0)).dest ≠ live.coord ∧ live.forward (far (packet 1 0)) [] none = none) := by
  decide +kernel

theorem witness_PoolPackets_forward :
    -- A ring of 3 x 1 at position 1, coordinates 0 and 1 at their positions, the link on port 1 up.
    let r : State := { live with
      opt := { live.opt with inUse := BitVec.ofNat 2048 (2 ^ 128 + 2 * 2 ^ 134 + 2 ^ 140 + 15 * 2 ^ 148) }
      od := [(0x5400 * 256 + 6, 0x80 + 0x81 * 256)]
      pool := { live.pool with links := [(1, { (default : Link) with st := .active })] } }
    (PktHdr.unpack (packet 1 0)).dest ≠ r.coord ∧ (r.forward (PktHdr.unpack (packet 1 0)) [] none).isSome = true := by
  decide +kernel

theorem witness_PoolPackets_rest :
    let d : BitVec 128 × List (BitVec 8) × Nat := (packet 5 0, [], 0)
    let w : State := { live with pool := { live.pool with deltas := [d] } }
    let b (slots : List (Nat × BitVec 23)) : State := { live with
      med := { live.med with tier := [(0, 0)] }, pool := { live.pool with rebuild := { live.pool.rebuild with st := 2, slots := slots } } }
    let c : State := { live with ctxs := [(0, { (default : Ctx) with entry := BitVec.ofNat 512 (2 ^ 288) , inv := some { (default : Inv) with seq := 7 } })]
                                 opt := { live.opt with inUse := BitVec.ofNat 2048 (2 ^ 128) } }
    (w.pool.deltas.find? (fun d => (PktHdr.unpack d.1).tag = 3) = some d) ∧
    (live.pool.rebuild.st ≠ 2 ∧ (b []).pool.rebuild.st = 2 ∧ (b []).rebuildPlace 0 = 0 ∧ (b [(7, 0)]).rebuildPlace 0 = 1 ∧
      (b [(7, BitVec.ofNat 23 (2 ^ 22))]).rebuildPlace 0 = 2 ∧ live.fatalAt 0 = false ∧ live.isPoison 0 = false) ∧
    ((List.replicate 64 (0 : BitVec 8)).length = 64) ∧
    (c.ctxs.map (fun p => p.1) = [0] ∧ bits (c.ctxAt 0).entry 287 272 = 0 ∧ bits (c.ctxAt 0).entry 7 0 = 0 ∧ (c.partners 0).contains 0 = true ∧ c.ringSeq 0 ≠ 6) ∧
    ((FaultRec.unpack (0 : BitVec 512)).count = 0 ∧ (FaultRec.unpack (BitVec.allOnes 512)).count ≠ 0 ∧ bits (1 : BitVec 128) 7 0 = 1) := by
  decide +kernel

theorem witness_RoutesCongestionAndRebuild :
    let b (st : BitVec 8) : State := { live with pool := { live.pool with rebuild := { live.pool.rebuild with st := st, slots := [(7, 5)] } } }
    let ring : State := { live with opt := { live.opt with inUse := BitVec.ofNat 2048 (2 ^ 199 + 2 ^ 134 + 7 * 2 ^ 137 + 2 * 2 ^ 140) } }
    let k : State := { ring with sec := { live.sec with ringKey := some 1 } }
    (live.serves tester 0x5400 6 = true ∧ live.serves tester 0x5400 7 = true ∧ live.inFlight 0 = 0 ∧
      ({ live with pool := { live.pool with reqs := [{ tag := 0, hdr := 0, data := [], owner := none, word := none }] } } : State).inFlight 0 ≠ 0) ∧
    (live.serves tester 0x5400 5 = true ∧ (1 : BitVec 8).toNat ≤ 1 ∧ 1 < (2 : BitVec 8).toNat) ∧
    ((b 4).pool.rebuild.st = 4 ∧ (b 4).coord = (b 4).pool.rebuild.lost.toNat ∧
      ({ b 4 with pool := { (b 4).pool with rebuild := { (b 4).pool.rebuild with lost := 1 } } } : State).coord ≠ 1 ∧ ∀ v < 34, (live.vatAt v).wait = .none) ∧
    live.reads tester 0x5410 11 = true ∧
    (k.serves tester 0x5400 13 = true ∧ k.ringClass ≠ 0 ∧ ¬ (k.ringClass = 1 ∧ k.ringChips < 8) ∧ k.sec.ringKey.isSome = true ∧ k.pool.rebuild.st = 0 ∧
      (63 : BitVec 8).toNat ≤ 63 ∧ 63 < (64 : BitVec 8).toNat) ∧
    (ring.sec.ringKey.isSome = false ∧ ring.ringClass ≠ 0 ∧ ring.serves tester 0x5400 13 = true ∧ live.ringClass = 0) ∧
    ((b 1).pool.rebuild.st = 1 ∧ Tab.find? (b 2).pool.rebuild.slots 7 = some 5 ∧ bit (5 : BitVec 23) 22 = false ∧ (b 2).pool.rebuild.st = 2 ∧
      (b 3).pool.rebuild.st = 3 ∧ Tab.find? live.pool.rebuild.slots 7 = none) := by
  decide +kernel

theorem witness_RoutesCongestionAndRebuild_poison :
    let b : State := { live with
      med := { live.med with tier := [(0, BitVec.ofNat 32 1)] }
      opt := { live.opt with inUse := BitVec.ofNat 2048 (2 ^ 199 + 2 ^ 134 + 7 * 2 ^ 137 + 2 * 2 ^ 140) }
      pool := { live.pool with rebuild := { live.pool.rebuild with st := 3, slots := [(0, 1)], next := 4 } } }
    0 < b.dpaExtents ∧ bits (b.tierEntry 0) 21 0 = 1 ∧ b.pool.rebuild.next ≤ 5 ∧ 5 < b.rebuildTotal ∧ b.rebuildExtent 5 = some (0, 1) ∧
    b.rankMedia 0 1 + 0 * 2 ^ 21 = 1 ∧ b.fatalAt 0 = false := by
  decide +kernel

theorem witness_SupplyPinsAndResets :
    let off (latch : Bool) : State := { live with pwr := { live.pwr with gateOn := false, latched := latch } }
    let held : State := { live with opt := { live.opt with inUse := BitVec.ofNat 2048 (2 ^ 143) } }
    let ph (p : BringUp) (k : ResetKind) : State := { live with rst := { live.rst with phase := p, kind := k } }
    (live.pwr.gateOn = true ∧ (off false).pwr.gateOn = false ∧ (off false).pwr.latched = false ∧ (off true).pwr.latched = true) ∧
    (live.pwr.latched = false ∧ live.rst.phase = .active ∧ live.rst.entry = false ∧ live.option 143 143 ≠ 1 ∧ held.option 143 143 = 1) ∧
    ((talking 3 true 1).sec.lcState = 1 ∧ live.sec.lcState ≠ 1 ∧ live.sec.lcState ≠ 4 ∧ live.serves tester 0x7C20 6 = true ∧
      ({ live with rst := { live.rst with entry := true } } : State).serves tester 0x7C20 6 = true) ∧
    (State.reset.rst.phase = .reset ∧ State.reset.rst.kind = .cold ∧ ResetKind.strength .warmHeld < ResetKind.strength .cold ∧ (ph .reset .warmHeld).rst.kind = .warmHeld ∧
      (ph .stopped .cold).rst.phase = .stopped ∧ (ph .stopped .cold).rst.entry = false ∧ ¬ (1 ≤ 6 ∧ 6 ≤ 4) ∧ (ph .verify .warmLost).rst.phase = .verify) ∧
    (State.reset.rst.phase = .reset ∧ State.reset.pwr.gateOn = true) ∧ ∀ v : Fin 34, Block.port 0 ≠ .vat v := by
  decide +kernel

theorem witness_BringUpMachine :
    let s (p : BringUp) : State := { live with rst := { live.rst with phase := p } }
    ({ live with rst := { live.rst with entry := true } } : State).rst.entry = true ∧ live.rst.entry = false ∧
    ((s .pll).rst.phase = .pll ∧ (s .pll).rst.kind = .cold ∧ (s .pll).pool.broken = false ∧ (s .pll).poolClockBad = false ∧
      (let t : State := { s .pll with rst := { (s .pll).rst with kind := .warmLost, trained := true } }
       t.rst.phase = .pll ∧ t.rst.kind ≠ .cold ∧ t.rst.trained = true)) ∧
    ((s .trainHbm).rst.phase = .trainHbm ∧ ((s .trainHbm).setPar 0x3000 1 8000).par 0x3000 1 = 8000 ∧ (live.setPar 0x3000 1 7200).par 0x3000 1 = 7200 ∧
      (live.setPar 0x3000 1 6400).par 0x3000 1 = 6400) ∧
    ((s .trainDdr).rst.phase = .trainDdr ∧ (s .verify).rst.phase = .verify ∧ (s .verify).verifyFails none = none ∧ (s .verify).rst.kind ≠ .warmHeld ∧
      ({ s .verify with rst := { (s .verify).rst with kind := .warmHeld } } : State).rst.kind = .warmHeld ∧ (s .verify).verifyFails (some 0) = some 0 ∧
      (s .fill).rst.phase = .fill ∧ (s .released).rst.phase = .released ∧ (s .released).running = true) := by
  decide +kernel

set_option maxRecDepth 100000 in
theorem witness_BringUpMachine_options :
    let good (n : Nat) : BitVec 2048 :=
      let r : BitVec 2048 := BitVec.ofNat 2048 (goodOptions.toNat + n * 2 ^ 64)
      BitVec.ofNat 2048 (setBits r.toNat 2047 2016 (optionCrc r).toNat)
    let s (a b : BitVec 2048) (n : BitVec 32) : State :=
      { live with rst := { live.rst with phase := .options }, opt := { live.opt with copy0 := a, commit0 := n, copy1 := b, commit1 := n } }
    (s (good 1) 0 0x54494D43).rst.phase = .options ∧ optionValid (good 1) 0x54494D43 = true ∧ optionValid (good 2) 0x54494D43 = true ∧
    optionValid 0 0x54494D43 = false ∧ optionValid (good 1) 0 = false ∧ newerOne (good 1) (good 2) = true ∧ newerOne (good 2) (good 1) = false := by
  decide +kernel

end Tests
end Sys2Proof
end

namespace Sys2Proof
namespace Machine

/-- The block idles on an empty queue, by the model's choice (log entry 1). -/
theorem step_of_pending_nil {s : State} (h : s.pending = []) : step s = .next s := by
  unfold step
  rw [h]

/-- The command at the front of the queue leaves it as it takes effect. -/
theorem step_of_pending_cons {s : State} {c : Instr} {rest : List Instr} (h : s.pending = c :: rest) :
    step s = exec c { s with pending := rest } := by
  unfold step
  rw [h]

/-- Settles O1, by the two shapes of the queue: a command at its front, or none. -/
theorem stepTakesTheFront : Obligations.StepTakesTheFront := by
  unfold Obligations.StepTakesTheFront
  constructor
  · intro c rest s
    exact step_of_pending_cons (s := { s with pending := c :: rest }) rfl
  · intro s hEmpty
    exact step_of_pending_nil hEmpty

end Machine
end Sys2Proof

namespace Sys2Proof
namespace Machine

/-! Every command keeps memory canonical: first the shapes that commands share, then the commands whose lists of lines or
packets need an argument of their own, then the split over the commands. -/

/-- The next state of an outcome, where there is one, holds memory in its canonical form. -/
def NextCanonical (r : Res) : Prop := ∀ t, r = .next t → t.MemoryCanonical

theorem NextCanonical.ok {s : State} (hs : Mem.wf s.med.mem = true) : NextCanonical (ok s) := fun t e => by
  cases e
  exact hs

@[simp] theorem nextCanonical_ok {s : State} : NextCanonical (ok s) ↔ Mem.wf s.med.mem = true :=
  ⟨fun h => h s rfl, .ok⟩

theorem canon_of_sameMem {s t : State} (e : t.med.mem = s.med.mem) (hs : Mem.wf s.med.mem = true) : Mem.wf t.med.mem = true := by
  rw [e]; exact hs

theorem State.request_canon_of_sameMem {s : State} (c : Client) (idx sub : Nat) (val : List (BitVec 8)) {op : Op}
    (hs : Mem.wf s.med.mem = true) (ho : ∀ s, (op s).2.2.med.mem = s.med.mem) : Mem.wf (s.request c idx sub val op).med.mem = true :=
  State.request_canon _ _ _ _ _ _ hs fun s hs => canon_of_sameMem (ho s) hs

theorem State.spdm_canon {s : State} (r : SpdmPath) (stage : Nat) {f : State → State} (hs : Mem.wf s.med.mem = true)
    (hf : ∀ s, (f s).med.mem = s.med.mem) : Mem.wf (s.spdm r stage f).med.mem = true :=
  canon_of_sameMem (State.spdm_mem _ _ _ _ hf) hs

theorem State.sessionCommand_canon {s : State} (r : SpdmPath) (id : Nat) (isOpen : Bool) (code : Nat) {f : State → State}
    (hs : Mem.wf s.med.mem = true) (hf : ∀ s, (f s).med.mem = s.med.mem) :
    Mem.wf (s.spdm r 3 (fun s => s.inSession r id isOpen code f)).med.mem = true :=
  State.spdm_canon r 3 hs fun s => State.inSession_mem s _ _ _ _ _ hf

theorem State.poisonExtents_mem (s : State) (lines : Nat → List Nat) (es : List Nat) :
    (es.foldl (fun s e => (lines e).foldl (fun s l => s.poisonLine l) s) s).med.mem = s.med.mem :=
  foldl_mem (fun s e => (lines e).foldl (fun s l => s.poisonLine l) s)
    (fun s e => foldl_mem (fun s l => s.poisonLine l) (fun s l => State.poisonLine_mem l s) (lines e) s) es s

theorem execFrameBoundary_canon {s : State} (hs : Mem.wf s.med.mem = true) : NextCanonical (execFrameBoundary s) := by
  have hw : Mem.wf (((List.range 44).foldl State.armPattern
      s.gatesEffective.stepEffective.qosEffective.refreshEffective.frameLatch).endFrameWaits).med.mem = true := by
    rw [State.endFrameWaits_mem, foldl_mem _ (fun s k => State.armPattern_mem k s)]
    simpa using hs
  exact .ok (canon_of_sameMem (State.sendMarkers_mem _)
    (State.writeMapCopy_canon _ (State.retryReads_canon _ (State.migrationFrame_canon _ hw))))

theorem execLaunchPoint_canon {s : State} (hs : Mem.wf s.med.mem = true) : NextCanonical (execLaunchPoint s) := by
  unfold execLaunchPoint
  split
  · exact .ok hs
  · refine .ok (State.rotate_canon _ (foldl_canon _ (fun s k hs => ?_) _ _ (foldl_canon _ (fun s k hs => ?_) _ _ ?_)))
    · exact State.residentInput_canon _ _ (State.pickUp_canon _ _ hs)
    · exact State.startLaunch_canon _ _ (State.restartStep_canon _ _ hs)
    · rw [State.releaseLp_mem]
      exact foldl_canon _ (fun s k hs =>
        State.autoResume_canon _ _ (State.applyCmds_canon _ _ _ (State.flushRecords_canon _ _ _ hs))) _ _ hs

theorem execProbe_canon (v : Fin 34) (cyc : Nat) {s : State} (hs : Mem.wf s.med.mem = true) : NextCanonical (execProbe v cyc s) := by
  refine .ok (State.controlSlot_canon _ _ _ _ _ hs fun _ _ s hs => ?_)
  dsimp only
  split
  · simp [hs]
  · refine foldl_canon _ (fun s n hs => ?_) _ _ (by simp [hs])
    split <;> simp [hs]

theorem execTileStart_canon (v : Fin 34) (e : Fin 6) {s : State} (hs : Mem.wf s.med.mem = true) : NextCanonical (execTileStart v e s) := by
  unfold execTileStart
  dsimp only
  split
  · split
    · exact .ok hs
    · split
      · -- the tile's check fails
        refine .ok (State.settleFault_canon _ _ ?_)
        split <;> simp [hs]
      · -- its lines are asked for, of this chip or of another
        refine .ok (foldl_canon _ (fun s q hs => ?_) _ _ hs)
        split
        · (repeat' split) <;> simp [hs]
        · split
          · exact hs
          · (repeat' split) <;> simp [hs]
  · exact .ok hs

theorem execTileComplete_canon (v : Fin 34) (e : Fin 6) {s : State} (hs : Mem.wf s.med.mem = true) :
    NextCanonical (execTileComplete v e s) := by
  unfold execTileComplete
  dsimp only
  split
  · rename_i k c _ _ _
    split
    · exact .ok hs
    · split
      · -- lines that the vat does not hold yet are asked for again
        refine .ok (foldl_canon _ (fun s q hs => ?_) _ _ hs)
        split <;> simp [hs]
      · have hm := State.moveLines_canon k v.val e.val ((s.logical v.val).getD 0) c (tileLines c) s hs
        generalize State.moveLines _ _ _ _ _ _ _ = u at hm
        (repeat' split) <;> simp [hm]
  · exact .ok hs

theorem execPinFetchDone_canon (k : Fin 1024) (va : BitVec 56) {s : State} (hs : Mem.wf s.med.mem = true) :
    NextCanonical (execPinFetchDone k va s) := by
  unfold execPinFetchDone
  split
  · exact .ok (State.afterFetch_canon _ _ (by simpa using hs))
  · exact .ok hs

theorem execAtsCompletion_canon (k : Fin 1024) (va : BitVec 56) (a : AtsResult) {s : State} (hs : Mem.wf s.med.mem = true) :
    NextCanonical (execAtsCompletion k va a s) := by
  unfold execAtsCompletion
  split
  · exact .ok (State.afterFetch_canon _ _ (by simpa using hs))
  · exact .ok hs

theorem execDirectoryUe_canon (line : BitVec 40) {s : State} (hs : Mem.wf s.med.mem = true) : NextCanonical (execDirectoryUe line s) := by
  unfold execDirectoryUe
  extract_lets -lift +onlyGivenNames l way again _ s0 buf _ q q1 s1 hosts _ e _ s2
  have h1 : Mem.wf s1.med.mem = true := by
    have hq : q1.2.med.mem = s.med.mem := State.dropVats_mem _ _ _
    dsimp only [s1]
    split
    · exact State.storeLine_canon _ _ _ _ (canon_of_sameMem hq hs)
    · exact canon_of_sameMem hq hs
  clear_value s1 hosts e
  have h2 : Mem.wf s2.med.mem = true := canon_of_sameMem (State.snoop_mem _ _ _ _) h1
  clear_value s2
  split <;> simp [h2]

theorem execDataFlit_canon (p : Fin 4) (fh : FlitHeader) (packets : List (BitVec 128 × List (BitVec 8))) {s : State}
    (hs : Mem.wf s.med.mem = true) : NextCanonical (execDataFlit p fh packets s) := by
  unfold execDataFlit
  extract_lets -lift s1 d s2 s3 l
  have h3 : Mem.wf s3.med.mem = true :=
    foldl_canon _ (fun s q hs => State.receive_canon _ _ _ _ hs) _ _ (by simpa [s2, s1] using hs)
  (repeat' split) <;> simp [h3, s1, hs]

theorem execRebuildMapDone_canon {s : State} (hs : Mem.wf s.med.mem = true) : NextCanonical (execRebuildMapDone s) := by
  have hl := State.loadMap_mem s
  unfold execRebuildMapDone
  generalize s.loadMap = u at hl
  dsimp only
  split <;> simp [hl, hs]

theorem execRebuildExtentCommit_canon (slot : Fin 8) {s : State} (hs : Mem.wf s.med.mem = true) :
    NextCanonical (execRebuildExtentCommit slot s) := by
  unfold execRebuildExtentCommit
  dsimp only
  split
  · exact .ok hs
  · split
    · exact .ok hs
    · -- the DELTAs held for the extent change its parity lines
      generalize hu : List.foldl _ _ _ = u
      have h2 : Mem.wf u.med.mem = true := by
        rw [← hu]
        exact foldl_canon _ (fun s d hs => State.applyDelta_canon _ _ _ _ hs) _ _ hs
      split <;> simp [h2]

theorem execRebuildPoisoningDone_canon (n : Nat) {s : State} (hs : Mem.wf s.med.mem = true) :
    NextCanonical (execRebuildPoisoningDone n s) := by
  unfold execRebuildPoisoningDone
  dsimp only
  generalize List.filter _ (List.range s.dpaExtents) = es
  split
  · exact .ok hs
  · have hp := State.poisonExtents_mem s extentLines es
    generalize List.foldl _ _ _ = u at hp
    simp [hp, hs]

theorem execCoreTempSample_canon (rs : List (Option Int)) {s : State} (hs : Mem.wf s.med.mem = true) :
    NextCanonical (execCoreTempSample rs s) := by
  unfold execCoreTempSample
  extract_lets -lift s1
  have h1 : s1.med.mem = s.med.mem := foldl_mem _ (fun s p => by dsimp only; split <;> exact State.sensorRead_mem _ _ _) _ _
  simpa [h1] using hs

theorem execVerifyDone_canon (failing : Option Nat) {s : State} (hs : Mem.wf s.med.mem = true) :
    NextCanonical (execVerifyDone failing s) := by
  have hl : Mem.wf s.med.lost.mem = true := rfl
  unfold execVerifyDone
  dsimp only
  (repeat' split) <;> simp [hs, hl]

theorem execFillDone_canon {s : State} (hs : Mem.wf s.med.mem = true) : NextCanonical (execFillDone s) := by
  unfold execFillDone
  split
  · exact .ok hs
  · exact .ok (canon_of_sameMem (State.enterReleased_mem _) rfl)

theorem execFaultLogRead_canon (c : Client) (pos : Option (BitVec 32)) {s : State} (hs : Mem.wf s.med.mem = true) :
    NextCanonical (execFaultLogRead c pos s) := by
  unfold execFaultLogRead
  split
  · exact .ok (State.request_canon_of_sameMem _ _ _ _ hs (logPosition_mem _ _))
  · exact .ok (State.query_canon _ _ _ _ _ hs fun s hs => canon_of_sameMem (State.domainBytes_mem _ _ _ _) hs)

theorem execScrubReadDone_canon (sl : Fin 44) (dpa : BitVec 46) (err : SymErrors) {s : State} (hs : Mem.wf s.med.mem = true) :
    NextCanonical (execScrubReadDone sl dpa err s) := by
  unfold execScrubReadDone
  dsimp only
  (repeat' split) <;> simp [hs]

/-- Whatever the command, it keeps memory canonical. Most commands are one operation, or one request whose operation, has its law;
the others of a chapter are split into their branches, each of which is made of operations that have theirs. -/
theorem exec_nextCanonical (c : Instr) {s : State} (hs : Mem.wf s.med.mem = true) : NextCanonical (exec c s) := by
  cases c with
  | slotBoundary | rowCountClear | urgencyLevelRaise | wheelBucketRelease | wheelOverflowSweep | beRequestArrival =>
    simp only [exec, execSlotBoundary, execRowCountClear, execUrgencyLevelRaise, execWheelBucketRelease, execWheelOverflowSweep, execBeRequestArrival]
    (repeat' split) <;> simp [hs]
  | frameBoundary => exact execFrameBoundary_canon hs
  | launchPoint => exact execLaunchPoint_canon hs
  | vatReserve | takeoverDone | rotationDue | rotationWaitExpire | vatWashDone | vatTestSliceDone | invocationEnd =>
    simp only [exec, execVatReserve, execTakeoverDone, execRotationDue, execRotationWaitExpire, execVatWashDone, execVatTestSliceDone,
      execInvocationEnd]
    (repeat' split) <;> simp [hs]
  | mediaReadReturn | escalationGrant | parityCacheWriteback | mergeRmwReadDone | scrubLapLate | caParityAlert =>
    simp only [exec, execMediaReadReturn, execEscalationGrant, execParityCacheWriteback, execMergeRmwReadDone, execScrubLapLate, execCaParityAlert]
    (repeat' split) <;> simp [hs]
  | escalationDecodeDone => exact fun t e => execEscalationDecodeDone_canon _ _ _ t hs e
  | escalationWritebackDone => exact fun t e => execEscalationWritebackDone_canon _ _ t hs e
  | mergeHoldExpire => exact .ok (canon_of_sameMem (State.releaseMerge_mem _ _) hs)
  | scrubReadDone => exact execScrubReadDone_canon _ _ _ hs
  | scrubEnableWrite => exact .ok (State.request_canon_of_sameMem _ _ _ _ hs (scrubEnable_mem _))
  | flipArm => exact .ok (State.request_canon_of_sameMem _ _ _ _ hs (flipControl_mem _ _ _))
  | hbmTempSample | dimmTempSample | busSample | avsMeasurement | regulatorSettled | regulatorSlow | regulatorTelemetrySample
  | regulatorWarning | tachSample | powerLoopRun | thermalLoopRun | thermalStepLower | emergencyClear | emergencyHoldExpire
  | throttleNAssert | throttleNRelease =>
    simp only [exec, execHbmTempSample, execDimmTempSample, execBusSample, execAvsMeasurement, execRegulatorSettled, execRegulatorSlow,
      execRegulatorTelemetrySample, execRegulatorWarning, execTachSample, execPowerLoopRun, execThermalLoopRun, execThermalStepLower,
      execEmergencyClear, execEmergencyHoldExpire, execThrottleNAssert, execThrottleNRelease]
    (repeat' split) <;> simp [hs]
  | coreTempSample => exact execCoreTempSample_canon _ hs
  | hostMemRead | hostMemWrite | fmApiGfdDecoder | portLinkUp | perstN | identifyMemoryDevice | getPoisonList | clearPoison | doeDiscovery
  | cdatRead | ideKm | glazeKeyInstall | glazeKeyWithdraw | configurationRequest =>
    simp only [exec, execHostMemRead, execHostMemWrite, execFmApiGfdDecoder, execPortLinkUp, execPerstN, execIdentifyMemoryDevice, execGetPoisonList,
      execClearPoison, execDoeDiscovery, execCdatRead, execIdeKm, execGlazeKeyInstall, execGlazeKeyWithdraw, execConfigurationRequest]
    (repeat' split) <;> simp [hs]
  | partitionActivate | partitionStop | partitionRelease | partitionAllocate =>
    exact .ok (State.request_canon _ _ _ _ _ _ hs (partitionCommand_canon _ _))
  | partitionWashDone | copyLinePoison | copyComplete =>
    simp only [exec, execPartitionWashDone, execCopyLinePoison, execCopyComplete]
    (repeat' split) <;> simp [hs]
  | copyRequest => exact .ok (State.request_canon_of_sameMem _ _ _ _ hs (copyRequest_mem _))
  | copyResume | copySkip | copyAbort => exact .ok (State.request_canon _ _ _ _ _ _ hs (copyCommand_canon _ _))
  | gateWrite => exact .ok (State.request_canon_of_sameMem _ _ _ _ hs (gateWrite_mem _ _ _))
  | shaperWrite => exact .ok (State.request_canon_of_sameMem _ _ _ _ hs (shaperWrite_mem _ _))
  | markerFlit | frameLockAcquired | frameLockLost | frameLockRestored =>
    simp only [exec, execMarkerFlit, execFrameLockAcquired, execFrameLockLost, execFrameLockRestored]
    (repeat' split) <;> simp [hs]
  | mmaClear | mmaAcc => exact .ok (State.mmaSlot_canon _ _ _ _ hs)
  | drain => exact .ok (State.slotAct_canon _ _ _ _ _ _ hs fun _ _ s hs => canon_of_sameMem (State.drainBank_mem _ _ _ _) hs)
  | fadd | fsub | fmul | ffma | fmin | fmax | fcmplt | fcmpeq | selectV | iadd | isub | imul | andV | orV | xorV | shl | shr | mov | seed
  | bcast => exact .ok (State.vectorSlot_canon _ _ _ _ hs)
  | exp2 | rmax | rmin | rsum => exact .ok (State.expSlot_canon _ _ _ _ _ _ hs)
  | streamRead | streamWrite | gather | scatter => exact .ok (State.streamSlot_canon _ _ _ _ hs)
  | loopV | endloop | barrier | ringBarrier | step | endV =>
    refine .ok (State.controlSlot_canon _ _ _ _ _ hs fun _ _ s hs => ?_)
    dsimp only
    (repeat' split) <;> simp [hs]
  | waitFrame | waitLp => exact .ok (State.controlSlot_canon _ _ _ _ _ hs fun _ _ s hs => canon_of_sameMem rfl hs)
  | probe => exact execProbe_canon _ _ hs
  | tileStart => exact execTileStart_canon _ _ hs
  | tileComplete => exact execTileComplete_canon _ _ hs
  | vatHang | ringBarrierRelease | barrierTimeout =>
    simp only [exec, execVatHang, execRingBarrierRelease, execBarrierTimeout]
    (repeat' split) <;> simp [hs]
  | rotationEnableWrite => exact .ok (State.request_canon_of_sameMem _ _ _ _ hs (rotationEnable_mem _))
  | contextEnable | contextDisable | contextResume | contextAbort | contextReset =>
    exact .ok (State.request_canon _ _ _ _ _ _ hs (contextCommand_canon _ _))
  | pinFetchDone => exact execPinFetchDone_canon _ _ hs
  | atsCompletion => exact execAtsCompletion_canon _ _ _ hs
  | atsTimeout => exact execAtsCompletion_canon _ _ _ hs
  | atsInvalidationRequest =>
    simp only [exec, execAtsInvalidationRequest]
    (repeat' split) <;> simp [hs]
  | invalidate => exact .ok (State.request_canon_of_sameMem _ _ _ _ hs (invalidateOp_mem _ _ _))
  | rds | rdo | rdc => exact .ok (State.homeRequest_canon _ _ hs)
  | wrf => exact .ok (State.homeWrite_canon _ _ _ _ hs)
  | evict => exact .ok (State.evict_canon _ _ _ _ hs)
  | snoopResponse => exact .ok (State.snooped_canon _ _ _ _ _ hs)
  | biconflict | holdTimeExpire | biTimeout =>
    simp only [exec, execBiconflict, execHoldTimeExpire, execBiTimeout]
    (repeat' split) <;> simp [hs]
  | requesterGone => exact .ok (State.request_canon _ _ _ _ _ _ hs (requesterGone_canon _))
  | requesterRevive => exact .ok (State.request_canon_of_sameMem _ _ _ _ hs (requesterRevive_mem _))
  | directorySweepDone => exact fun t e => execDirectorySweepDone_canon _ t hs e
  | directoryUe => exact execDirectoryUe_canon _ hs
  | cas | fetchAdd | swap | fetchAnd | fetchOr | fetchMax => exact .ok (State.atomic_canon _ _ _ _ _ _ hs)
  | regionEnable | regionEnableFresh | regionDisable => exact .ok (State.request_canon _ _ _ _ _ _ hs (regionCommand_canon _ _))
  | publishDescriptor | migrationRoundDone | migrationFinalPassDone | migrationZeroFillDone | migrationBackoffExpire =>
    simp only [exec, execPublishDescriptor, execMigrationRoundDone, execMigrationFinalPassDone, execMigrationZeroFillDone, execMigrationBackoffExpire]
    (repeat' split) <;> simp [hs]
  | portLinkDown => exact .ok (State.linkDown_canon _ _ hs)
  | hotReset => exact .ok (State.resetPort_canon _ _ _ hs)
  | flr | cxlReset => exact .ok (canon_of_sameMem (State.clearFunc_mem _ _ _) hs)
  | getSupportedLogs | getLog | getHealthInfo | unsupportedMailboxCommand => exact .ok (canon_of_sameMem (State.emit_mem _ _) hs)
  | getVersion | getCapabilities | negotiateAlgorithms | getDigests | getCertificate | challenge | getMeasurements | keyExchange | getCsr
  | setCertificate =>
    refine .ok (State.spdm_canon _ _ hs fun s => ?_)
    (repeat' split) <;> simp
  | finish | heartbeat | keyUpdate | endSession => exact .ok (State.sessionCommand_canon _ _ _ _ hs fun s => by simp)
  | ringKeyInstall | entropyRetry =>
    simp only [exec, execRingKeyInstall, execEntropyRetry]
    (repeat' split) <;> simp [hs]
  | glazeWrite | glazeRead | glazeOutRoom => exact .ok (State.glazeRun_canon _ _ _ hs)
  | reqDoorbell => exact .ok (State.doorbell_canon _ _ _ hs)
  | versionAck => exact .ok (canon_of_sameMem (State.versionAck_mem _ _ _) hs)
  | bootGo | firmwareCheckDone | heartbeatMissed | crashRecordDone | complexBootDone | complexSynced | revertDelayExpire
  | switchoverDeferralExpire =>
    simp only [exec, execBootGo, execFirmwareCheckDone, execHeartbeatMissed, execCrashRecordDone, execComplexBootDone, execComplexSynced,
      execRevertDelayExpire, execSwitchoverDeferralExpire]
    (repeat' split) <;> simp [hs]
  | dataFlit => exact execDataFlit_canon _ _ _ hs
  | idleFlit | ackCredit | replayReq | retrainReq | initFlit | ackTimer | replayReqResend | retrainReqRepeat | creditRefresh
  | pmdTrainingDone | trainingFailed | trainingRetry | alignmentDone | alignmentTimeout | linkInitDone | lossOfSignal | retrainDone
  | retrainTimeout | poolRequestTimeout | congestionSample | badCrcFlit =>
    simp only [exec, execIdleFlit, execAckCredit, execReplayReq, execRetrainReq, execInitFlit, execAckTimer, execReplayReqResend,
      execRetrainReqRepeat, execCreditRefresh, execPmdTrainingDone, execTrainingFailed, execTrainingRetry, execAlignmentDone,
      execAlignmentTimeout, execLinkInitDone, execLossOfSignal, execRetrainDone, execRetrainTimeout, execPoolRequestTimeout,
      execCongestionSample, execBadCrcFlit]
    (repeat' split) <;> simp [hs]
  | retrain | width16 | width8 | width4 | down | up => exact .ok (State.request_canon_of_sameMem _ _ _ _ hs (linkCommand_mem _ _))
  | rd | rdData | wr | wrAck | delta | chunk | ringBarrierArrival | notice | digest | washDone => exact .ok (State.packet_canon _ _ _ _ hs)
  | routeTableWrite => exact .ok (State.request_canon _ _ _ _ _ _ hs (routeWrite_canon _ _))
  | activeEpochWrite => exact .ok (State.request_canon _ _ _ _ _ _ hs (epochWrite_canon _))
  | congestionMapRead | lightCountersRead => exact .ok (State.query_canon _ _ _ _ _ hs fun s hs => by simp [hs])
  | rebuildStart | rebuildAbort => exact .ok (State.request_canon_of_sameMem _ _ _ _ hs (rebuildCommand_mem _))
  | rebuildMapDone =>
    unfold exec
    exact execRebuildMapDone_canon hs
  | rebuildExtentCommit => exact execRebuildExtentCommit_canon _ hs
  | rebuildPoisoningDone => exact execRebuildPoisoningDone_canon _ hs
  | lcTransition => exact .ok (State.request_canon_of_sameMem _ _ _ _ hs (lcTransition_mem _))
  | svnCommit => exact .ok (State.request_canon_of_sameMem _ _ _ _ hs (svnCommit_mem _))
  | debugRequest | thermalTrip | gateOn | powerOnReset | prstNAssert | prstNRelease | blockResetRelease | warmEntryDone | warmEntryTimeout
  | optionsReadDone | pllLocked | pllLockTimeout | hbmTrainingDone | ddrTrainingDone | hbmFillDone | serviceStateLoaded | sidPowerUp =>
    simp only [exec, execDebugRequest, execThermalTrip, execGateOn, execPowerOnReset, execPrstNAssert, execPrstNRelease, execBlockResetRelease,
      execWarmEntryDone, execWarmEntryTimeout, execOptionsReadDone, execPllLocked, execPllLockTimeout, execHbmTrainingDone,
      execDdrTrainingDone, execHbmFillDone, execServiceStateLoaded, execSidPowerUp]
    (repeat' split) <;> simp [hs]
  | odRead | odWrite | download | downloadGo => exact .ok (State.arriveMessage_canon _ _ _ _ hs)
  | segmentLatchExpire | optionWriteDone | neighborDiscovery | icmpv6Echo | discoveryReply | entdaa | setdasa | failoverServiceOpen
  | windowRequestWrite =>
    simp only [exec, execSegmentLatchExpire, execOptionWriteDone, execNeighborDiscovery, execIcmpv6Echo, execDiscoveryReply, execEntdaa, execSetdasa,
      execFailoverServiceOpen, execWindowRequestWrite]
    (repeat' split) <;> simp [hs]
  | optionWrite => exact .ok (State.request_canon_of_sameMem _ _ _ _ hs (optionWrite_mem _))
  | complexHeartbeat => exact .ok (canon_of_sameMem (State.modCx_mem _ _ _) hs)
  | complexPanic | watchdogExpire => exact .ok (State.declareFailed_canon _ _ _ hs)
  | complexRestart | switchover => exact .ok (State.request_canon_of_sameMem _ _ _ _ hs (complexCommand_mem _ _))
  | fwLoad | fwActivate | fwCancel => exact .ok (State.request_canon_of_sameMem _ _ _ _ hs (fwCommand_mem _))
  | fwStage => exact .ok (State.request_canon_of_sameMem _ _ _ _ hs (stageWrite_mem _))
  | brownOut | overvoltage | fastOvercurrent | timedOvercurrent => exact .ok (State.gateOff_canon _ _ _ _ hs)
  | resetChip | resetTenant | resetContext | resetVat | resetHostPort | resetPoolLink => exact .ok (State.resetWrite_canon _ _ _ hs)
  | crossbarDeadlock => exact .ok (State.chipReset_canon _ _ _ hs)
  | verifyDone => exact execVerifyDone_canon _ hs
  | fillDone => exact execFillDone_canon hs
  | clockMonitorWindow | pllLossOfLock | clockRestored | timeBaseSync | idcode | samplePreload | privateInstruction =>
    simp only [exec, execClockMonitorWindow, execPllLossOfLock, execClockRestored, execTimeBaseSync, execIdcode, execSamplePreload,
      execPrivateInstruction]
    (repeat' split) <;> simp [hs]
  | clockNoEdge => exact .ok (State.failClock_canon _ _ _ hs)
  | patternDue | patternSliceDone =>
    simp only [exec, execPatternDue, execPatternSliceDone]
    (repeat' split) <;> simp [hs]
  | testVat | testController | testCrossbar => exact .ok (State.request_canon_of_sameMem _ _ _ _ hs (testCommand_mem _ _))
  | extest | clamp | highz => exact .ok (State.pinTest_canon _ _ hs)
  | bypass => exact .ok (canon_of_sameMem (State.tap_mem _ _) hs)
  | dumpRequest => exact .ok (State.request_canon_of_sameMem _ _ _ _ hs (dumpWrite_mem _ _ _))
  | aggregationWindowClose | aggregationOverflowEnd | digestBatchSend | faultLogMove | msixCoalesceExpire =>
    simp only [exec, execAggregationWindowClose, execAggregationOverflowEnd, execDigestBatchSend, execFaultLogMove, execMsixCoalesceExpire]
    (repeat' split) <;> simp [hs]
  | faultLogRead => exact execFaultLogRead_canon _ _ hs
  | faultAck => exact .ok (State.request_canon_of_sameMem _ _ _ _ hs (faultAck_mem _))
  | bootApertureWrite => exact .ok (canon_of_sameMem (State.imageWrite_mem _ _ _ _) hs)

/-- Settles O3: on an empty queue nothing changes, and a command at the front keeps memory canonical. -/
theorem everyStepKeepsMemoryCanonical : Obligations.EveryStepKeepsMemoryCanonical := by
  unfold Obligations.EveryStepKeepsMemoryCanonical
  intro s t hs e
  cases hp : s.pending with
  | nil =>
    rw [step_of_pending_nil hp] at e
    cases e
    exact hs
  | cons c rest =>
    rw [step_of_pending_cons hp] at e
    exact exec_nextCanonical c (s := { s with pending := rest }) hs t e

end Machine
end Sys2Proof

namespace Sys2Proof
namespace Machine

/-! The tier map over resets (R43): what each phase of a reset does to the media's part of the state. An empty tier map reads
as the default layout everywhere, so a reset rebuilds the layout by forgetting the map. -/

theorem State.tierEntry_of_noTier {s : State} (h : s.med.tier = []) (e : Nat) : s.tierEntry e = s.defaultEntry e := by
  unfold State.tierEntry
  rw [h]
  rfl

/-- A fold of an operation keeps what the operation keeps. -/
theorem foldl_keeps {α β : Type} (g : State → β) {f : State → α → State} (h : ∀ s x, g (f s x) = g s) (l : List α) (s : State) :
    g (l.foldl f s) = g s := by
  induction l generalizing s with
  | nil => rfl
  | cons x l ih => rw [List.foldl_cons, ih, h]

@[simp] theorem State.enterPhase_med (s : State) (p : BringUp) : (s.enterPhase p).med = s.med := rfl

@[simp] theorem State.leaveReset_med (s : State) : s.leaveReset.med = s.med := by
  unfold State.leaveReset
  split <;> rfl

@[simp] theorem State.enterReleased_med (s : State) : s.enterReleased.med = s.med := by
  unfold State.enterReleased
  refine (foldl_keeps State.med ?_ _ _).trans rfl
  exact fun _ _ => rfl

/-- The media's part of the state as a chip reset leaves it. -/
theorem State.assertReset_med (s : State) (kind : ResetKind) (cause sources : Nat) :
    (s.assertReset kind cause sources).med = match kind with
      | .cold => s.coldState.med
      | .warmHeld => (s.warmState true).med
      | .warmLost => (s.warmState false).med := by
  unfold State.assertReset
  dsimp only
  rw [State.leaveReset_med]
  cases kind with
  | cold => rfl
  | warmHeld | warmLost =>
    show State.med (if _ then _ else _) = _
    split <;> rfl

theorem State.assertReset_warmHeld_tier (s : State) (cause sources : Nat) :
    (s.assertReset .warmHeld cause sources).med.tier = s.med.tier := by
  rw [State.assertReset_med]
  rfl

theorem State.assertReset_warmLost_tier (s : State) (cause sources : Nat) : (s.assertReset .warmLost cause sources).med.tier = [] := by
  rw [State.assertReset_med]
  rfl

theorem State.assertReset_cold_tier (s : State) (cause sources : Nat) : (s.assertReset .cold cause sources).med.tier = [] := by
  rw [State.assertReset_med]
  rfl

/-- VERIFY_DONE with no failing slice: memory that was held goes on with its map, any other gets the default layout. -/
theorem execVerifyDone_none {s : State} (hp : s.rst.phase = .verify) :
    ∃ t, execVerifyDone none s = .next t ∧ t.med.tier = if s.rst.kind = .warmHeld then s.med.tier else [] := by
  have hr : ∀ s k, (State.modSlice s k (fun x => { x with frames := 0 })).rst = s.rst := fun s k => rfl
  have hm : ∀ s k, (State.modSlice s k (fun x => { x with frames := 0 })).med = s.med := fun s k => rfl
  have hk := foldl_keeps State.rst hr (List.range 44) s
  have ht := foldl_keeps State.med hm (List.range 44) s
  unfold execVerifyDone
  rw [if_neg (not_not_intro hp)]
  simp only [State.verifyFails, Option.filter_none]
  generalize List.foldl _ _ _ = u at hk ht
  rw [hk]
  split
  · exact ⟨_, rfl, by simp [ht]⟩
  · exact ⟨_, rfl, rfl⟩

/-- DDR_TRAINING_DONE builds the default layout. -/
theorem execDdrTrainingDone_tier {s : State} (hp : s.rst.phase = .trainDdr) (r : List DdrTraining) :
    ∃ t, execDdrTrainingDone r s = .next t ∧ t.med.tier = [] := by
  unfold execDdrTrainingDone
  rw [if_neg (not_not_intro hp)]
  exact ⟨_, rfl, rfl⟩

/-- Settles O5, by what the tier map is after each reset and each phase: kept, or empty. -/
theorem tierMapOverResets : Obligations.TierMapOverResets := by
  unfold Obligations.TierMapOverResets
  refine ⟨fun s cause sources => ⟨?_, ?_, ?_⟩, fun s hp => ⟨fun hk => ?_, fun hk => ?_⟩, fun s r hp => ?_⟩
  · exact s.assertReset_warmHeld_tier cause sources
  · exact State.tierEntry_of_noTier (s.assertReset_warmLost_tier cause sources)
  · exact State.tierEntry_of_noTier (s.assertReset_cold_tier cause sources)
  · obtain ⟨t, ht, hm⟩ := execVerifyDone_none hp
    exact ⟨t, ht, by rw [hm, if_pos hk]⟩
  · obtain ⟨t, ht, hm⟩ := execVerifyDone_none hp
    exact ⟨t, ht, State.tierEntry_of_noTier (by rw [hm, if_neg hk])⟩
  · obtain ⟨t, ht, hm⟩ := execDdrTrainingDone_tier hp r
    exact ⟨t, ht, State.tierEntry_of_noTier hm⟩

end Machine
end Sys2Proof

namespace Sys2Proof
namespace Machine

/-! A partition's life cycle (R28, R32, R33, R434-R436): the values of dictionary entries, what sending a packet changes, what a
wash leaves in memory, and the commands. -/

theorem odKey_ne {idx sub sub' : Nat} (h : sub ≠ sub') : odKey idx sub ≠ odKey idx sub' := by
  unfold odKey
  omega

/-- An entry that has been written reads as its value, whatever else has changed since. -/
theorem State.par_of_find {s : State} {idx sub v : Nat} (h : Tab.find? s.od (odKey idx sub) = some v) : s.par idx sub = v := by
  unfold State.par
  rw [h]
  rfl

@[simp] theorem State.tenantAt_setPar (s : State) (idx sub v t : Nat) : (s.setPar idx sub v).tenantAt t = s.tenantAt t := rfl

/-- Only the ring, the light counters and what the block has sent differ. -/
def RingOnly (s t : State) : Prop := t = { s with pool := t.pool, tst := t.tst, out := t.out }

theorem RingOnly.refl (s : State) : RingOnly s s := rfl

theorem RingOnly.trans {s t u : State} (h : RingOnly s t) (k : RingOnly t u) : RingOnly s u := by
  unfold RingOnly at *
  rw [k, h]

theorem RingOnly.med {s t : State} (h : RingOnly s t) : t.med = s.med := by rw [h]
theorem RingOnly.od {s t : State} (h : RingOnly s t) : t.od = s.od := by rw [h]
theorem RingOnly.tenantAt {s t : State} (h : RingOnly s t) (k : Nat) : t.tenantAt k = s.tenantAt k := by
  rw [h]
  rfl

theorem State.pumpN_ringOnly (n p : Nat) (s : State) : RingOnly s (State.pumpN n p s) := by
  induction n generalizing s with
  | zero => exact .refl s
  | succ n ih =>
    unfold State.pumpN
    dsimp only
    split
    · exact .refl s
    · split
      · -- a packet leaves, from its own queue or from the place it held on another port
        refine RingOnly.trans ?_ (ih _)
        split <;> rfl
      · exact .refl s

theorem State.sendOn_ringOnly (s : State) (p : Nat) (h : PktHdr) (d : List (BitVec 8)) (q : Option (Nat × Nat)) :
    RingOnly s (s.sendOn p h d q) :=
  RingOnly.trans (t := s.modLink p _) rfl (State.pumpN_ringOnly _ p _)

theorem State.forward_ringOnly {s t : State} {h : PktHdr} {d : List (BitVec 8)} {p : Option Nat} (e : s.forward h d p = some t) :
    RingOnly s t := by
  unfold State.forward at e
  split at e
  · cases e
  · split at e
    · cases e
    · cases e
      exact State.sendOn_ringOnly _ _ _ _ _

theorem State.sendMgmt_ringOnly (s : State) (type dest tenant : Nat) (d : List (BitVec 8)) : RingOnly s (s.sendMgmt type dest tenant d) := by
  unfold State.sendMgmt
  dsimp only
  cases e : s.inject _ d with
  | none => exact .refl s
  | some t => exact State.forward_ringOnly e

theorem foldl_ringOnly {α : Type} {f : State → α → State} (h : ∀ s x, RingOnly s (f s x)) (l : List α) (s : State) :
    RingOnly s (l.foldl f s) := by
  induction l generalizing s with
  | nil => exact .refl s
  | cons x l ih => exact (h s x).trans (ih _)

theorem foldl_sendMgmt_ringOnly (type tenant : Nat) (d : List (BitVec 8)) (l : List Nat) (s : State) :
    RingOnly s (l.foldl (fun s c => s.sendMgmt type c tenant d) s) :=
  foldl_ringOnly (fun s c => State.sendMgmt_ringOnly s type c tenant d) l s

/-! The lines that hold poison stay the same while parity is written and armed flips are taken. -/

theorem State.applyFlip_poison (s : State) (w : Nat) : (s.applyFlip w).med.poison = s.med.poison := by
  unfold State.applyFlip
  dsimp only
  split <;> rfl

theorem State.flipRange_poison (s : State) (lo hi : Nat) : (s.flipRange lo hi).med.poison = s.med.poison := by
  refine foldl_keeps (fun s => s.med.poison) (fun s hbm => ?_) _ s
  split
  · split
    · exact State.applyFlip_poison _ _
    · rfl
  · rfl

theorem State.writeParity_poison (s : State) (line : Nat) (d : BitVec 512) : (s.writeParity line d).med.poison = s.med.poison := by
  unfold State.writeParity
  split
  · rfl
  · exact foldl_keeps (fun s => s.med.poison) State.applyFlip_poison _ _

theorem State.freshBlock_poison (s : State) (e : Nat) : (s.freshBlock e).med.poison = s.med.poison := by
  unfold State.freshBlock
  dsimp only
  split
  · rfl
  · refine foldl_keeps (fun s : State => s.med.poison) (fun s j => ?_) _ _
    rw [State.writeParity_poison]

/-- A wash on a chip without a ring: the partition's bytes are zero. -/
theorem State.washLines_mem {s : State} (t : Nat) (hr : s.ringClass = 0) :
    (s.washLines t).med.mem = Mem.zero s.med.mem (s.tenantAt t).base.toNat (s.tenantAt t).size.toNat := by
  unfold State.washLines
  dsimp only
  split
  · rw [State.flipRange_mem]
    exact foldl_mem _ (fun s i => State.freshBlock_mem _ _) _ _
  · contradiction

/-- A wash on a chip without a ring: poison stays outside the partition and on fatal slices alone. -/
theorem State.washLines_poison {s : State} (t : Nat) (hr : s.ringClass = 0) :
    (s.washLines t).med.poison = s.med.poison.filter (fun l =>
      !(decide ((s.tenantAt t).base.toNat / 64 ≤ l) && decide (l < ((s.tenantAt t).base.toNat + (s.tenantAt t).size.toNat) / 64))
        || s.fatalAt (l * 64)) := by
  unfold State.washLines
  dsimp only
  split
  · rw [State.flipRange_poison]
    exact foldl_keeps (fun s => s.med.poison) (fun s i => State.freshBlock_poison _ _) _ _
  · contradiction

/-- PARTITION_WASH_DONE of a partition that is washed, on a chip without a ring. -/
theorem execPartitionWashDone_washing {s : State} (t : Fin 256) (h3 : (s.tenantAt t.val).state = 3) (hk : (s.tenantAt t.val).keyWait = false) :
    ∃ u, execPartitionWashDone t s = .next u ∧ u.med = (s.washLines t.val).med ∧ (u.tenantAt t.val).state = 0 ∧
      u.par (0x4900 + t.val) 9 = 1000 ∧ u.par (0x4900 + t.val) 10 = (s.now - (s.tenantAt t.val).washAt) % 2 ^ 64 := by
  unfold execPartitionWashDone
  rw [if_neg (by simp [h3, hk])]
  extract_lets -lift +onlyGivenNames ns skipped s1 s2 others
  have h2 : s2.med = (s.washLines t.val).med := rfl
  refine ⟨_, rfl, ?_⟩
  have hu := foldl_sendMgmt_ringOnly 10 t.val (washPayload t.val (s.tenantAt t.val).keyGen.toNat ns) others s2
  revert hu
  generalize List.foldl _ s2 others = u
  intro hu
  refine ⟨hu.med.trans h2, ?_, State.par_of_find ?_, State.par_of_find ?_⟩
  · rw [hu.tenantAt, State.tenantAt_modTenant]
  · rw [hu.od, State.modTenant_od, State.find_setPar_other _ _ (odKey_ne (by decide : 9 ≠ 11)),
      State.find_setPar_other _ _ (odKey_ne (by decide : 9 ≠ 10))]
    exact Tab.find_set_same _ _ _
  · rw [hu.od, State.modTenant_od, State.find_setPar_other _ _ (odKey_ne (by decide : 10 ≠ 11))]
    exact Tab.find_set_same _ _ _

/-- RELEASE leaves the partition WASHING, its progress 0. -/
theorem State.release_washing (s : State) (t : Nat) : ((s.release t).tenantAt t).state = 3 ∧ (s.release t).par (0x4900 + t) 9 = 0 := by
  unfold State.release State.rotateKey
  dsimp only
  generalize List.foldl _ _ _ = u
  split <;> exact ⟨by simp, State.par_of_find (Tab.find_set_same _ _ _)⟩

/-- A served command answers what its operation computes (R443). -/
theorem State.request_eq_of_op {s : State} {c : Client} {idx sub : Nat} (hs : s.serves c idx sub = true) {val} {op : Op}
    {st v : Nat} {u : State} (e : op (s.modClient c id) = (st, v, u)) : s.request c idx sub val op = u.answer c st v := by
  rw [State.request_served hs, e]

theorem partitionCommand_allocate {s : State} {t : Nat} (h0 : (s.tenantAt t).state = 0) (hz : (s.tenantAt t).size ≠ 0)
    (hf : s.partitionFits t (s.tenantAt t).base.toNat (s.tenantAt t).size.toNat (s.tenantAt t).dbSize.toNat = true) :
    partitionCommand t 4 s = done (s.modTenant t (fun x => { x with state := 1, stopping := false })) := by
  refine (if_neg (by simp [h0])).trans (if_neg ?_)
  simpa [hf] using hz

theorem partitionCommand_allocate_range {s : State} {t : Nat} (h0 : (s.tenantAt t).state = 0) (h : (s.tenantAt t).size = 0 ∨
    s.partitionFits t (s.tenantAt t).base.toNat (s.tenantAt t).size.toNat (s.tenantAt t).dbSize.toNat = false) :
    partitionCommand t 4 s = refuse stRange s := by
  refine (if_neg (by simp [h0])).trans (if_pos ?_)
  simpa using h

/-- ACTIVATE of a STOPPED partition whose ring key, where it needs one, is there: it waits for no rebuild. -/
theorem partitionCommand_activate {s : State} {t : Nat} (h1 : (s.tenantAt t).state = 1) (hk : s.ringClass = 0 ∨ s.sec.ringKey ≠ none) :
    partitionCommand t 1 s = if s.pool.rebuild.st = 0 ∨ s.pool.rebuild.st = 5
      then done (s.modTenant t (fun x => { x with state := 2, stopping := false })) else refuse stState s := by
  have hk' : ¬ (s.ringClass ≠ 0 && s.sec.ringKey.isNone) = true := by
    simpa [← Option.ne_none_iff_isSome, imp_iff_not_or] using hk
  refine (if_neg (by simp [h1])).trans ((if_neg hk').trans ?_)
  by_cases hq : s.pool.rebuild.st = 0 ∨ s.pool.rebuild.st = 5
  · rw [if_pos hq, if_neg]
    rcases hq with hq | hq <;> simp [hq]
  · rw [if_neg hq, if_pos]
    simpa using hq

theorem partitionCommand_activate_denied {s : State} {t : Nat} (h1 : (s.tenantAt t).state = 1) (hr : s.ringClass ≠ 0)
    (hk : s.sec.ringKey = none) : partitionCommand t 1 s = refuse stDenied s := by
  simp [partitionCommand, h1, hr, hk]

/-- Settles O35, by the branches of the partition's command and by what the wash leaves. -/
theorem partitionLifeCycle : Obligations.PartitionLifeCycle := by
  unfold Obligations.PartitionLifeCycle
  refine ⟨fun s c t hs => ?_, fun s t h3 hk hr => ?_, fun s t h => ?_⟩
  · have ha {st v u} (e : partitionCommand t.val 4 (s.modClient c id) = (st, v, u)) : exec (.partitionAllocate c t) s = .next (u.answer c st v) :=
      congrArg Host.Outcome.next (State.request_eq_of_op hs e)
    have hb {st v u} (e : partitionCommand t.val 1 (s.modClient c id) = (st, v, u)) : exec (.partitionActivate c t) s = .next (u.answer c st v) :=
      congrArg Host.Outcome.next (State.request_eq_of_op hs e)
    have hc {st v u} (e : partitionCommand t.val 2 (s.modClient c id) = (st, v, u)) : exec (.partitionStop c t) s = .next (u.answer c st v) :=
      congrArg Host.Outcome.next (State.request_eq_of_op hs e)
    have hd {st v u} (e : partitionCommand t.val 3 (s.modClient c id) = (st, v, u)) : exec (.partitionRelease c t) s = .next (u.answer c st v) :=
      congrArg Host.Outcome.next (State.request_eq_of_op hs e)
    intro s0 x fits quiet
    refine ⟨fun h0 hz hf => ha (partitionCommand_allocate h0 hz hf), fun h0 h => ha (partitionCommand_allocate_range h0 h),
      fun h => ha (if_pos h), fun h1 hk hq => hb ?_, fun h1 hr hk => hb ?_, fun h1 hk hq => hb ?_, fun h => hb (if_pos h),
      fun h2 hn => hc ?_, fun h => hc (if_pos (by simpa using h)), fun h1 => ?_, fun h => hd (if_pos h)⟩
    · exact (partitionCommand_activate h1 hk).trans (if_pos hq)
    · exact partitionCommand_activate_denied h1 hr hk
    · exact (partitionCommand_activate h1 hk).trans (if_neg hq)
    · exact if_neg (by simpa using ⟨h2, hn⟩)
    · exact ⟨s0.release t.val, hd (if_neg (by simpa using h1)), s0.release_washing t.val⟩
  · obtain ⟨u, hu, hm, h0, h9, h10⟩ := execPartitionWashDone_washing t h3 hk
    refine ⟨u, hu, h0, fun a ha hb => ?_, fun a ha => ?_, fun l hl ha hb => ?_, h9, h10⟩
    · rw [hm, State.washLines_mem _ hr, Mem.get_zero, if_pos ⟨ha, hb⟩]
    · rw [hm, State.washLines_mem _ hr, Mem.get_zero, if_neg (by omega)]
    · rw [hm, State.washLines_poison _ hr] at hl
      have hp := (List.mem_filter.mp hl).2
      simpa [ha, hb] using hp
  · show execPartitionWashDone t s = _
    unfold execPartitionWashDone
    rw [if_pos (by simpa using h)]
    rfl

end Machine
end Sys2Proof

namespace Sys2Proof
namespace Machine

/-! No operation that a port's link loss comes to changes the options of the chip, HOST_MODE among them (R325, R376): one lemma for each. -/

@[simp] theorem foldl_opt {α : Type} (f : State → α → State) (h : ∀ s x, (f s x).opt = s.opt) (l : List α) (s : State) :
    (l.foldl f s).opt = s.opt := foldl_keeps State.opt h l s

@[simp] theorem ite_opt (c : Prop) [Decidable c] (a b : State) : (if c then a else b).opt = if c then a.opt else b.opt := by
  split <;> rfl

theorem foldl_pair_opt {α β : Type} (f : β × State → α → β × State) (h : ∀ a x, (f a x).2.opt = a.2.opt) (l : List α)
    (a : β × State) : (l.foldl f a).2.opt = a.2.opt := by
  induction l generalizing a with
  | nil => rfl
  | cons x l ih => simp only [List.foldl_cons, ih, h]

theorem ite_pair_opt {β : Type} (c : Prop) [Decidable c] (a b : β × State) :
    (if c then a else b).2.opt = if c then a.2.opt else b.2.opt := by
  split <;> rfl

@[simp] theorem State.muteRequests_opt x1 (s : State) : (State.muteRequests s x1).opt = s.opt := by
  rfl

@[simp] theorem State.modCache_opt x1 x2 (s : State) : (State.modCache s x1 x2).opt = s.opt := by
  simp only [State.modCache]
  (repeat' split) <;> simp [*]

@[simp] theorem State.clearErrors_opt x0 (s : State) : (State.clearErrors s x0).opt = s.opt := by
  rfl

@[simp] theorem State.applyFlip_opt x1 (s : State) : (State.applyFlip s x1).opt = s.opt := by
  simp [State.applyFlip]

@[simp] theorem State.takeFree_opt x0 (s : State) : (State.takeFree x0 s).2.opt = s.opt := by
  rfl

@[simp] theorem State.takeBytes_opt x0 (s : State) : (State.takeBytes x0 s).2.opt = s.opt := by
  induction x0 generalizing s with
  | zero => rfl
  | succ n ih => simp [State.takeBytes, ih]

@[simp] theorem State.tagLine_opt x0 x1 (s : State) : (State.tagLine s x0 x1).opt = s.opt := by
  rfl

@[simp] theorem State.storeStored_opt x0 x1 (s : State) : (State.storeStored s x0 x1).opt = s.opt := by
  simp [State.storeStored]

@[simp] theorem State.enqueueBe_opt x0 x1 x2 x3 x4 x5 (s : State) : (State.enqueueBe s x0 x1 x2 x3 x4 x5).opt = s.opt := by
  rfl

@[simp] theorem State.applyDelta_opt x1 x2 x3 (s : State) : (State.applyDelta s x1 x2 x3).opt = s.opt := by
  simp [State.applyDelta]

@[simp] theorem State.pumpN_opt x0 x1 (s : State) : (State.pumpN x0 x1 s).opt = s.opt := by
  induction x0 generalizing s with
  | zero => rfl
  | succ n ih =>
    simp only [State.pumpN]
    (repeat' split) <;> simp [ih]

@[simp] theorem State.pump_opt x1 (s : State) : (State.pump s x1).opt = s.opt := by
  simp [State.pump]

@[simp] theorem State.sendOn_opt x1 x2 x3 x4 (s : State) : (State.sendOn s x1 x2 x3 x4).opt = s.opt := by
  simp [State.sendOn]

@[simp] theorem State.forward_opt {s t : State} {h d f} (e : s.forward h d f = some t) : t.opt = s.opt := by
  simp only [State.forward] at e
  split at e
  · cases e
  · split at e
    · cases e
    · cases e; simp

@[simp] theorem State.inject_opt (s u : State) (h d) : ((s.inject h d).getD u).opt = (if (s.inject h d).isSome then s.opt else u.opt) := by
  cases e : s.inject h d with
  | none => simp
  | some t => simpa using State.forward_opt e

@[simp] theorem State.sendDeltas_opt x1 x2 x3 (s : State) : (State.sendDeltas s x1 x2 x3).opt = s.opt := by
  simp [State.sendDeltas]

@[simp] theorem State.markDirty_opt x1 (s : State) : (State.markDirty s x1).opt = s.opt := by
  rfl

@[simp] theorem State.enqueue_opt x1 (s : State) : (State.enqueue s x1).opt = s.opt := by
  simp [State.enqueue]

@[simp] theorem State.submit_opt x1 (s : State) : (State.submit s x1).opt = s.opt := by
  simp only [State.submit]
  (repeat' split) <;> simp [*]

@[simp] theorem State.report_opt x1 x2 x3 x4 (s : State) : (State.report s x1 x2 x3 x4).opt = s.opt := by
  simp [State.report]

@[simp] theorem State.parityLost_opt x0 x1 (s : State) : (State.parityLost s x0 x1).opt = s.opt := by
  simp [State.parityLost]

@[simp] theorem State.writeParity_opt x0 x1 (s : State) : (State.writeParity s x0 x1).opt = s.opt := by
  simp [State.writeParity]

@[simp] theorem State.evictParity_opt x0 (s : State) : (State.evictParity s x0).opt = s.opt := by
  simp only [State.evictParity]
  (repeat' split) <;> simp [*]

@[simp] theorem State.fetchParity_opt x0 (s : State) : (State.fetchParity s x0).2.opt = s.opt := by
  simp only [State.fetchParity]
  (repeat' split) <;> simp [*]

@[simp] theorem State.addParity_opt x0 x1 (s : State) : (State.addParity s x0 x1).opt = s.opt := by
  simp [State.addParity]

@[simp] theorem State.updateParity_opt x0 x1 x2 (s : State) : (State.updateParity s x0 x1 x2).opt = s.opt := by
  simp [State.updateParity]

@[simp] theorem State.poisonLine_opt x0 (s : State) : (State.poisonLine s x0).opt = s.opt := by
  unfold State.poisonLine
  dsimp only
  split
  · rfl
  · rw [foldl_opt _ (fun s x => State.applyFlip_opt x s), State.sendDeltas_opt]; simp

@[simp] theorem State.countUnit_opt x1 (s : State) : (State.countUnit s x1).opt = s.opt := by
  simp [State.countUnit]

@[simp] theorem State.countCorrected_opt x1 x2 (s : State) : (State.countCorrected s x1 x2).opt = s.opt := by
  simp [State.countCorrected]

@[simp] theorem State.countUe_opt x1 (s : State) : (State.countUe s x1).opt = s.opt := by
  rfl

@[simp] theorem State.takeEscSlots_opt x0 x1 x2 x3 (s : State) : (State.takeEscSlots s x0 x1 x2 x3).opt = s.opt := by
  refine foldl_opt _ (fun s p => ?_) _ _
  rfl

@[simp] theorem State.pageWritten_opt x0 (s : State) : (State.pageWritten s x0).opt = s.opt := by
  simp [State.pageWritten]

@[simp] theorem State.peak_opt x1 x2 x3 (s : State) : (State.peak s x1 x2 x3).opt = s.opt := by
  simp [State.peak]

@[simp] theorem State.reportTenant_opt x1 x2 x3 x4 (s : State) : (State.reportTenant s x1 x2 x3 x4).opt = s.opt := by
  simp [State.reportTenant]

@[simp] theorem State.pageDecoded_opt x0 x1 x2 x3 x4 (s : State) : (State.pageDecoded s x0 x1 x2 x3 x4).opt = s.opt := by
  simp [State.pageDecoded]

@[simp] theorem State.pageFailed_opt x0 x1 x2 x3 (s : State) : (State.pageFailed s x0 x1 x2 x3).opt = s.opt := by
  simp [State.pageFailed]

@[simp] theorem State.recover_opt x0 (s : State) : (State.recover s x0).2.opt = s.opt := by
  simp only [State.recover]
  (repeat' split) <;> simp [*]

@[simp] theorem State.wordLost_opt x0 x1 x2 (s : State) : (State.wordLost s x0 x1 x2).opt = s.opt := by
  simp [State.wordLost]

@[simp] theorem State.readWord_opt x0 x1 x2 (s : State) : (State.readWord s x0 x1 x2).2.opt = s.opt := by
  simp only [State.readWord]
  (repeat' split) <;> simp [*]

@[simp] theorem State.readLine_opt x0 x1 (s : State) : (State.readLine s x0 x1).2.opt = s.opt := by
  unfold State.readLine
  split
  · rfl
  · dsimp only
    generalize hr : List.foldl _ _ _ = r
    have h1 : r.2.opt = s.opt := by
      rw [← hr]
      exact foldl_pair_opt _ (fun a w => by simp) _ _
    (repeat' split) <;> simp [h1]

@[simp] theorem State.checkCached_opt x0 x1 (s : State) : (State.checkCached s x0 x1).opt = s.opt := by
  simp only [State.checkCached]
  (repeat' split) <;> simp [*]

@[simp] theorem State.dropVats_opt x1 x2 (s : State) : (State.dropVats s x1 x2).2.opt = s.opt := by
  induction x2 generalizing s with
  | nil => rfl
  | cons k ks ih =>
    simp only [State.dropVats]
    (repeat' split) <;> simp [ih]

@[simp] theorem State.holdWrite_opt x0 x1 x2 x3 (s : State) : (State.holdWrite s x0 x1 x2 x3).opt = s.opt := by
  rfl

@[simp] theorem State.armGlaze_opt x1 (s : State) : (State.armGlaze s x1).opt = s.opt := by
  simp [State.armGlaze]

@[simp] theorem State.dropMerge_opt x1 (s : State) : (State.dropMerge s x1).opt = s.opt := by
  rfl

@[simp] theorem State.dropScrubs_opt x0 (s : State) : (State.dropScrubs s x0).opt = s.opt := by
  simp [State.dropScrubs]

@[simp] theorem State.storeRaw_opt x0 x1 x2 (s : State) : (State.storeRaw s x0 x1 x2).opt = s.opt := by
  simp [State.storeRaw]

@[simp] theorem State.storeLine_opt x0 x1 x2 (s : State) : (State.storeLine s x0 x1 x2).opt = s.opt := by
  simp [State.storeLine]

@[simp] theorem State.vatsAct_opt x1 x2 (s : State) : (State.vatsAct s x1 x2).2.opt = s.opt := by
  simp only [State.vatsAct]
  (repeat' split) <;> simp [*]

@[simp] theorem State.storeHalf_opt x1 x2 (s : State) : (State.storeHalf s x1 x2).opt = s.opt := by
  simp [State.storeHalf]

@[simp] theorem State.dropPartial_opt x1 (s : State) : (State.dropPartial s x1).opt = s.opt := by
  simp [State.dropPartial]

@[simp] theorem State.rmwNow_opt x0 (s : State) : (State.rmwNow s x0).opt = s.opt := by
  simp [State.rmwNow]

@[simp] theorem State.releaseMerge_opt x1 (s : State) : (State.releaseMerge s x1).opt = s.opt := by
  simp only [State.releaseMerge]
  (repeat' split) <;> simp [*]

@[simp] theorem State.mergeRoom_opt (s : State) : (State.mergeRoom s).opt = s.opt := by
  simp only [State.mergeRoom]
  (repeat' split) <;> simp [*]

@[simp] theorem State.releaseAll_opt (s : State) : (State.releaseAll s).opt = s.opt := by
  simp [State.releaseAll]

@[simp] theorem State.mergeWrite_opt x0 x1 x2 x3 (s : State) : (State.mergeWrite s x0 x1 x2 x3).opt = s.opt := by
  simp only [State.mergeWrite]
  (repeat' split) <;> simp [*]

@[simp] theorem State.storeMasked_opt x0 x1 x2 x3 (s : State) : (State.storeMasked s x0 x1 x2 x3).opt = s.opt := by
  simp [State.storeMasked]

@[simp] theorem State.endHost_opt x1 x2 x3 (s : State) : (State.endHost s x1 x2 x3).opt = s.opt := by
  rfl

@[simp] theorem State.putDir_opt x1 x2 (s : State) : (State.putDir s x1 x2).opt = s.opt := by
  rfl

@[simp] theorem State.evictHolder_opt x1 x2 x3 (s : State) : (State.evictHolder s x1 x2 x3).opt = s.opt := by
  simp only [State.evictHolder]
  (repeat' split) <;> simp [*]

@[simp] theorem State.useCached_opt x0 x1 (s : State) : (State.useCached s x0 x1).2.opt = s.opt := by
  simp only [State.useCached]
  (repeat' split) <;> simp [*]

@[simp] theorem State.evictVat_opt x1 x2 (s : State) : (State.evictVat s x1 x2).opt = s.opt := by
  simp only [State.evictVat]
  (repeat' split) <;> simp [*]

@[simp] theorem State.fillVat_opt x1 x2 x3 (s : State) : (State.fillVat s x1 x2 x3).opt = s.opt := by
  simp only [State.fillVat]
  (repeat' split) <;> simp [*]

@[simp] theorem State.flushBuffer_opt x1 (s : State) : (State.flushBuffer s x1).opt = s.opt := by
  simp only [State.flushBuffer]
  (repeat' split) <;> simp [*]

@[simp] theorem State.fillBuffer_opt x1 x2 (s : State) : (State.fillBuffer s x1 x2).opt = s.opt := by
  simp only [State.fillBuffer]
  (repeat' split) <;> simp [*]

@[simp] theorem State.respond_opt x1 x2 x3 x4 (s : State) : (State.respond s x1 x2 x3 x4).opt = s.opt := by
  simp only [State.respond]
  (repeat' split) <;> simp [*]

@[simp] theorem State.serve_opt x1 x2 x3 (s : State) : (State.serve s x1 x2 x3).opt = s.opt := by
  simp [State.serve]

@[simp] theorem State.snoop_opt x1 x2 x3 (s : State) : (State.snoop s x1 x2 x3).opt = s.opt := by
  refine foldl_opt _ (fun s r => ?_) _ _
  rfl

@[simp] theorem State.openEvict_opt x1 x2 (s : State) : (State.openEvict s x1 x2).opt = s.opt := by
  simp only [State.openEvict]
  (repeat' split) <;> simp [*]

@[simp] theorem State.takeWay_opt x1 (s : State) : (State.takeWay s x1).2.opt = s.opt := by
  simp only [State.takeWay]
  (repeat' split) <;> simp [*]

@[simp] theorem State.act_opt x0 (s : State) : (State.act s x0).2.opt = s.opt := by
  simp only [State.act]
  (repeat' split) <;> simp [*]

@[simp] theorem State.drainHome_opt x0 (s : State) : (State.drainHome x0 s).opt = s.opt := by
  induction x0 generalizing s with
  | zero => rfl
  | succ n ih =>
    unfold State.drainHome
    dsimp only
    (repeat' split) <;> simp [ih]

@[simp] theorem State.enqueueHome_opt x1 (s : State) : (State.enqueueHome s x1).opt = s.opt := by
  simp [State.enqueueHome]

@[simp] theorem State.writeResult_opt x1 x2 x3 x4 (s : State) : (State.writeResult s x1 x2 x3 x4).opt = s.opt := by
  simp [State.writeResult]

@[simp] theorem State.readBytes_opt x0 x1 (s : State) : (State.readBytes s x0 x1).2.opt = s.opt := by
  exact foldl_pair_opt _ (fun a x => by simp) _ _

@[simp] theorem State.writeBytes_opt x0 x1 x2 (s : State) : (State.writeBytes s x0 x1 x2).opt = s.opt := by
  simp [State.writeBytes]

@[simp] theorem State.learn_opt x1 x2 (s : State) : (State.learn s x1 x2).opt = s.opt := by
  rfl

@[simp] theorem State.runJob_opt x0 (s : State) : (State.runJob s x0).opt = s.opt := by
  simp only [State.runJob]
  (repeat' split) <;> simp [*]

@[simp] theorem State.runJobs_opt x0 (s : State) : (State.runJobs x0 s).opt = s.opt := by
  induction x0 generalizing s with
  | zero => rfl
  | succ n ih =>
    unfold State.runJobs
    dsimp only
    (repeat' split) <;> simp [ih]

@[simp] theorem State.settle_opt (s : State) : (State.settle s).opt = s.opt := by
  simp [State.settle]

@[simp] theorem State.closeLine_opt x1 x2 (s : State) : (State.closeLine s x1 x2).opt = s.opt := by
  simp only [State.closeLine]
  (repeat' split) <;> simp [*]

@[simp] theorem State.snooped_opt x1 x2 x3 x4 (s : State) : (State.snooped s x1 x2 x3 x4).opt = s.opt := by
  simp only [State.snooped]
  (repeat' split) <;> simp [*]

@[simp] theorem State.hostDies_opt x1 x2 x3 (s : State) : (State.hostDies s x1 x2 x3).opt = s.opt := by
  unfold State.hostDies
  split
  · rfl
  · dsimp only
    rw [State.settle_opt]
    refine (foldl_opt _ (fun s p => ?_) _ _).trans ((foldl_opt _ (fun s p => State.snooped_opt _ _ _ _ _) _ _).trans rfl)
    (repeat' split) <;> simp

@[simp] theorem State.linkDeath_opt x1 (s : State) : (State.linkDeath s x1).opt = s.opt := by
  unfold State.linkDeath
  dsimp only
  split
  · exact foldl_opt _ (fun s n => State.hostDies_opt _ _ _ _) _ s
  · split
    · rfl
    · exact foldl_opt _ (fun s r => State.hostDies_opt _ _ _ _) _ s

@[simp] theorem State.dropLines_opt x1 (s : State) : (State.dropLines s x1).opt = s.opt := by
  have ha (s : State) (r : HomeReq) : (match r.who with
      | .host _ => s.respond { r with kind := if r.kind = ReqKind.wrF then ReqKind.wrF else ReqKind.rdC } .invalid [] true
      | _ => s).opt = s.opt := by
    split <;> simp
  unfold State.dropLines
  refine (foldl_opt _ (fun s x => ha _ _) _ _).trans ((foldl_opt _ (fun s x => ?_) _ _).trans rfl)
  dsimp only
  split
  · split
    · exact (ha _ _).trans (by simp)
    · simp
  · rfl

@[simp] theorem State.settleTenant_opt x1 (s : State) : (State.settleTenant s x1).opt = s.opt := by
  simp [State.settleTenant]

@[simp] theorem State.settleDisable_opt x1 (s : State) : (State.settleDisable s x1).opt = s.opt := by
  simp [State.settleDisable]

@[simp] theorem State.settleContext_opt x0 (s : State) : (State.settleContext s x0).opt = s.opt := by
  simp [State.settleContext]

@[simp] theorem State.homeRequest_opt x1 (s : State) : (State.homeRequest s x1).opt = s.opt := by
  simp [State.homeRequest]

@[simp] theorem State.watchLine_opt x1 (s : State) : (State.watchLine s x1).2.opt = s.opt := by
  simp only [State.watchLine]
  (repeat' split) <;> simp [*]

@[simp] theorem State.compFree_opt x0 (s : State) : (State.compFree s x0).2.opt = s.opt := by
  simp only [State.compFree]
  (repeat' split) <;> simp [*]

@[simp] theorem State.putRecord_opt x0 x1 (s : State) : (State.putRecord s x0 x1).opt = s.opt := by
  simp [State.putRecord]

@[simp] theorem State.flushRecords_opt x0 x1 (s : State) : (State.flushRecords x0 x1 s).opt = s.opt := by
  induction x1 generalizing x0 s with
  | zero => rfl
  | succ n ih =>
    unfold State.flushRecords
    dsimp only
    (repeat' split) <;> simp [ih]

@[simp] theorem State.complete_opt x1 x2 (s : State) : (State.complete s x1 x2).opt = s.opt := by
  simp [State.complete]

@[simp] theorem State.plainRecord_opt x1 x2 x3 x4 x5 (s : State) : (State.plainRecord s x1 x2 x3 x4 x5).opt = s.opt := by
  simp [State.plainRecord]

@[simp] theorem State.consume_opt x1 (s : State) : (State.consume s x1).opt = s.opt := by
  rfl

@[simp] theorem State.unpin_opt x1 (s : State) : (State.unpin s x1).opt = s.opt := by
  rfl

@[simp] theorem State.refuseLaunch_opt x1 x2 x3 x4 (s : State) : (State.refuseLaunch s x1 x2 x3 x4).opt = s.opt := by
  simp [State.refuseLaunch]

@[simp] theorem State.dropLaunch_opt x0 x1 x2 (s : State) : (State.dropLaunch s x0 x1 x2).opt = s.opt := by
  simp [State.dropLaunch]

@[simp] theorem State.pinTrouble_opt x1 x2 (s : State) : (State.pinTrouble s x1 x2).opt = s.opt := by
  simp only [State.pinTrouble]
  (repeat' split) <;> simp [*]

@[simp] theorem State.startFetch_opt x1 x2 (s : State) : (State.startFetch s x1 x2).opt = s.opt := by
  simp [State.startFetch]

@[simp] theorem State.install_opt x1 (s : State) : (State.install s x1).2.opt = s.opt := by
  simp only [State.install]
  (repeat' split) <;> simp [*]

@[simp] theorem State.pinMore_opt x0 x1 (s : State) : (State.pinMore x0 x1 s).2.opt = s.opt := by
  induction x1 generalizing s with
  | zero => simp [State.pinMore]
  | succ n ih =>
    simp only [State.pinMore]
    split
    · split
      · rw [ih, State.install_opt]
      · rw [State.install_opt]
    · exact foldl_opt _ (fun s x => by simp) _ _

@[simp] theorem State.pinOn_opt x1 (s : State) : (State.pinOn s x1).opt = s.opt := by
  simp [State.pinOn]

@[simp] theorem State.freePtt_opt x1 x2 x3 (s : State) : (State.freePtt s x1 x2 x3).opt = s.opt := by
  simp only [State.freePtt]
  (repeat' split) <;> simp [*]

@[simp] theorem State.endFetch_opt x1 x2 (s : State) : (State.endFetch s x1 x2).2.opt = s.opt := by
  unfold State.endFetch
  dsimp only
  split <;> simp only [State.freePtt_opt, State.install_opt]

@[simp] theorem State.atsDone_opt x1 x2 (s : State) : (State.atsDone s x1 x2).2.opt = s.opt := by
  simp only [State.atsDone]
  (repeat' split) <;> simp [*]

@[simp] theorem State.afterFetch_opt (k : Nat) (r : PinResult × State) : (State.afterFetch k r).opt = r.2.opt := by
  simp only [State.afterFetch]
  (repeat' split) <;> simp

@[simp] theorem State.failAts_opt x1 (s : State) : (State.failAts s x1).opt = s.opt := by
  unfold State.failAts
  refine foldl_opt _ (fun s f => ?_) _ _
  rw [State.afterFetch_opt, State.atsDone_opt]

@[simp] theorem State.linkDown_opt x1 (s : State) : (State.linkDown s x1).opt = s.opt := by
  simp [State.linkDown]

end Machine
end Sys2Proof

namespace Sys2Proof
namespace Machine

/-! Links, port resets and function resets (R35, R325, R352, R375, R376): what a report leaves of the dictionary, what a function reset
leaves of the host side, and what the death of requesters does where the home agent is at rest. -/

/-- The options select the functions of a port, which its link's loss leaves as they are. -/
theorem State.portFuncs_of_opt {s t : State} (h : t.opt = s.opt) (p : Nat) : t.portFuncs p = s.portFuncs p := by
  unfold State.portFuncs State.mld State.option
  rw [h]

/-- Only the fault log and the dictionary differ, and in the dictionary only the log's own counters, object 0x7800. -/
def LogOnly (s t : State) : Prop :=
  t = { s with flt := t.flt, od := t.od } ∧ ∀ i k, i * 256 + k < 0x780000 → Tab.find? t.od (odKey i k) = Tab.find? s.od (odKey i k)

theorem LogOnly.host {s t : State} (h : LogOnly s t) : t.host = s.host := by rw [h.1]
theorem LogOnly.rst {s t : State} (h : LogOnly s t) : t.rst = s.rst := by rw [h.1]
theorem LogOnly.med {s t : State} (h : LogOnly s t) : t.med = s.med := by rw [h.1]

/-- A count of the fault log, after any change to the log itself. -/
theorem LogOnly.bump (s : State) (flt) (w k : Nat) : LogOnly s (({ s with flt := flt } : State).bump w 0x7800 k) := by
  refine ⟨rfl, fun i j h => State.find_setPar_other _ _ ?_⟩
  unfold odKey
  omega

theorem State.submit_logOnly (s : State) (r : FaultRec) : LogOnly s (s.submit r) := by
  unfold State.submit
  split
  · exact .bump s _ _ _
  · split
    · exact ⟨rfl, fun _ _ _ => rfl⟩
    · unfold State.enqueue
      dsimp only
      split <;> exact .bump s _ _ _

theorem State.isolate_logOnly (s : State) (b : Block) (scope unit n : Nat) :
    ∃ iso, b ∈ iso ∧ LogOnly { s with rst := { s.rst with isolated := iso } } (s.isolate b scope unit n) := by
  refine ⟨_, ?_, State.submit_logOnly _ _⟩
  split
  · next h => simpa using h
  · exact List.mem_cons_self

/-! ### A function's reset -/

/-- What no window's glaze is part of, the end of a session changes only as far as the session leaves the list. -/
theorem State.endSession_keeps {β : Type} (g : State → β) (hg : ∀ s w, g (s.withdrawGlaze w) = g s) (s : State) (path : SpdmPath) (id : Nat) :
    g (s.endSession path id) = g { s with host := { s.host with sessions := s.host.sessions.filter (fun x => !(x.path = path && x.id = id)) } } := by
  unfold State.endSession
  refine foldl_keeps g (fun s w => ?_) _ _
  split
  · split
    · exact hg _ _
    · rfl
  · rfl

theorem State.endSession_funcs (s : State) (path : SpdmPath) (id : Nat) : (s.endSession path id).host.funcs = s.host.funcs :=
  State.endSession_keeps (fun s => s.host.funcs) (fun _ _ => rfl) s path id

theorem State.endSession_sessions (s : State) (path : SpdmPath) (id : Nat) :
    (s.endSession path id).host.sessions = s.host.sessions.filter (fun x => !(x.path = path && x.id = id)) :=
  State.endSession_keeps (fun s => s.host.sessions) (fun _ _ => rfl) s path id

theorem State.endSession_od (s : State) (path : SpdmPath) (id : Nat) : (s.endSession path id).od = s.od :=
  State.endSession_keeps (fun s => s.od) (fun _ _ => rfl) s path id

/-- Sessions that have been ended are gone, and no other has come. -/
theorem mem_sessions_of_foldl_endSession {l : List Session} {s : State} {x : Session}
    (h : x ∈ (l.foldl (fun s y => s.endSession y.path y.id) s).host.sessions) : x ∈ s.host.sessions ∧ x ∉ l := by
  induction l generalizing s with
  | nil => exact ⟨h, by simp⟩
  | cons y l ih =>
    rw [List.foldl_cons] at h
    obtain ⟨hx, hl⟩ := ih h
    rw [State.endSession_sessions, List.mem_filter] at hx
    refine ⟨hx.1, fun hm => ?_⟩
    rcases List.mem_cons.mp hm with rfl | hm
    · simp at hx
    · exact hl hm

/-- What a function keeps over its reset: its HDM decoders and IDE keys where the port stays up, nothing with the port's reset. -/
def Func.cleared (x : Func) (port : Bool) : Func :=
  if port then default else { (default : Func) with hdm := x.hdm, ide := x.ide, ideKey := x.ideKey }

theorem State.clearFunc_funcs (s : State) (f : Nat) (port : Bool) :
    (s.clearFunc f port).host.funcs = Tab.set s.host.funcs f ((s.funcAt f).cleared port) := by
  have h (l : List Session) := foldl_keeps (fun s => s.host.funcs) (fun s (x : Session) => State.endSession_funcs s x.path x.id) l s
  unfold State.clearFunc Func.cleared
  cases port
  · show Tab.set _ _ _ = _
    unfold State.funcAt
    rw [h]
  · show Tab.set _ _ _ = _
    rw [h]
    rfl

theorem State.funcAt_clearFunc (s : State) (f : Nat) (port : Bool) : (s.clearFunc f port).funcAt f = (s.funcAt f).cleared port := by
  unfold State.funcAt
  rw [State.clearFunc_funcs]
  exact Tab.get_set_same _ _ _ _

theorem State.funcAt_clearFunc_other (s : State) {f g : Nat} (port : Bool) (h : g ≠ f) : (s.clearFunc f port).funcAt g = s.funcAt g := by
  unfold State.funcAt
  rw [State.clearFunc_funcs]
  exact Tab.get_set_other _ _ _ h

theorem State.clearFunc_od (s : State) (f : Nat) (port : Bool) : (s.clearFunc f port).od = s.od := by
  have h (l : List Session) := foldl_keeps (fun s => s.od) (fun s (x : Session) => State.endSession_od s x.path x.id) l s
  unfold State.clearFunc
  cases port <;> exact h _

theorem State.clearFunc_sessions (s : State) (f : Fin 68) (x : Session) (h : x ∈ (s.clearFunc f.val false).host.sessions) :
    x.path ≠ .doe f := by
  obtain ⟨hs, hm⟩ := mem_sessions_of_foldl_endSession h
  intro hp
  exact hm (List.mem_filter.mpr ⟨hs, by simp [hp]⟩)

theorem State.clearFunc_clients (s : State) (f : Fin 68) (c : ClientSt) (h : c ∈ (s.clearFunc f.val false).clients) :
    c.client.path ≠ .window f := by
  intro hp
  have := (List.mem_filter.mp h).2
  simp [hp] at this

/-- Functions that a port's reset clears are at their reset values. -/
theorem funcAt_foldl_clearFunc {l : List Nat} {f : Nat} (s : State) (h : f ∈ l ∨ s.funcAt f = default) :
    (l.foldl (fun s f => s.clearFunc f true) s).funcAt f = default := by
  induction l generalizing s with
  | nil => simpa using h
  | cons g l ih =>
    refine ih _ ?_
    by_cases hg : f = g
    · subst hg
      exact .inr (State.funcAt_clearFunc s f true)
    · rw [State.funcAt_clearFunc_other s true hg]
      simpa [hg] using h

/-- A port's reset: its counter goes up, its functions are at their reset values. -/
theorem State.resetPort_spec (s : State) (p : Nat) (perst : Bool) :
    let d := s.linkDown p
    let t := s.resetPort p perst
    SameBytes d t ∧ Tab.find? t.od (odKey (0x5010 + p) 3) = some ((d.par (0x5010 + p) 3 + 1) % 2 ^ 32) ∧
      ∀ f, f ∈ d.portFuncs p → t.funcAt f = default := by
  intro d t
  let u := (s.portFuncs p).foldl (fun s f => s.clearFunc f true) (d.bump 32 (0x5010 + p) 3)
  have ht : t.med = u.med ∧ t.od = u.od ∧ t.host.funcs = u.host.funcs := by
    dsimp only [t]
    unfold State.resetPort
    dsimp only
    split <;> exact ⟨rfl, rfl, rfl⟩
  obtain ⟨hmed, hod, hfuncs⟩ := ht
  refine ⟨fun a => ?_, ?_, fun f hf => ?_⟩
  · rw [hmed]
    exact congrArg (Mem.get · a) (foldl_mem _ (fun s f => State.clearFunc_mem _ _ _) _ _)
  · rw [hod]
    rw [foldl_keeps (fun s => s.od) (fun s f => State.clearFunc_od s f true)]
    exact Tab.find_set_same _ _ _
  · have hfs : f ∈ s.portFuncs p := by rwa [State.portFuncs_of_opt (State.linkDown_opt p s)] at hf
    unfold State.funcAt
    rw [hfuncs]
    exact funcAt_foldl_clearFunc _ (.inl hfs)

/-! ### A link's loss -/

/-- The home agent is at rest: no line is held, no request and no atomic waits. -/
def AtRest (s : State) : Prop := s.coh.dir = [] ∧ s.coh.queue = [] ∧ s.coh.jobs = []

/-- Requesters have died and nothing else has changed. -/
def Died (s t : State) : Prop := t = { s with coh := t.coh } ∧ AtRest t ∧ ∀ r, s.isDead r = true → t.isDead r = true

theorem Died.trans {s t u : State} (h : Died s t) (k : Died t u) : Died s u := by
  obtain ⟨ht, _, hd⟩ := h
  obtain ⟨hu, hr, hk⟩ := k
  refine ⟨?_, hr, fun r h => hk r (hd r h)⟩
  rw [hu, ht]

theorem State.settle_of_atRest {s : State} (h : AtRest s) : s.settle = s := by
  obtain ⟨_, hq, hj⟩ := h
  have hd (n : Nat) : State.drainHome n s = s := by
    cases n with
    | zero => rfl
    | succ n => simp [State.drainHome, hq]
  have hr (n : Nat) : State.runJobs n s = s := by
    cases n with
    | zero => rfl
    | succ n => simp [State.runJobs, hj]
  unfold State.settle
  simp only [hd, hr]

theorem isDead_addNew (l : List Nat) (k r : Nat) : (addNew l k).contains r = (decide (r = k) || l.contains r) := by
  unfold addNew
  split
  · next h =>
    by_cases hr : r = k
    · subst hr
      simpa using h
    · simp [hr]
  · simp [eq_comm]

theorem State.hostDies_of_atRest {s : State} (h : AtRest s) (event unit r : Nat) :
    Died s (s.hostDies event unit r) ∧ (s.hostDies event unit r).isDead r = true := by
  unfold State.hostDies
  split
  · next hd => exact ⟨⟨rfl, h, fun _ h => h⟩, hd⟩
  · obtain ⟨hd, hq, hj⟩ := h
    simp only [hd, hq, List.map_nil, List.foldl_nil]
    rw [State.settle_of_atRest]
    · have hc := isDead_addNew s.coh.dead r
      refine ⟨⟨rfl, ⟨rfl, rfl, hj⟩, fun q hq => ?_⟩, ?_⟩
      · exact (hc q).trans (by rw [← State.isDead, hq, Bool.or_true])
      · exact (hc r).trans (by simp)
    · exact ⟨rfl, rfl, hj⟩

theorem foldl_hostDies_of_atRest {event unit : Nat} {g : Nat → Nat} {l : List Nat} {s : State} (h : AtRest s) :
    let t := l.foldl (fun s n => s.hostDies event unit (g n)) s
    Died s t ∧ ∀ n, n ∈ l → t.isDead (g n) = true := by
  induction l generalizing s with
  | nil => exact ⟨⟨rfl, h, fun _ h => h⟩, by simp⟩
  | cons n l ih =>
    obtain ⟨h1, hn⟩ := State.hostDies_of_atRest h event unit (g n)
    obtain ⟨h2, hl⟩ := ih h1.2.1
    refine ⟨h1.trans h2, fun m hm => ?_⟩
    rcases List.mem_cons.mp hm with rfl | hm
    · exact h2.2.2 _ hn
    · exact hl m hm

/-- The state after a link's loss, before requesters die with it. -/
def State.unlinked (s : State) (p : Nat) : State :=
  (((s.muteRequests p).modPort p (fun x => { x with up := false, mem := false })).setPar (0x5010 + p) 1 0).setPar (0x5010 + p) 2 0

/-- With no translation request under way, what is left of a link's loss is the death of requesters. -/
theorem State.linkDown_of_up {s : State} {p : Nat} (hup : (s.portAt p).up = true) (hf : s.tlb.fetches = []) :
    s.linkDown p = (s.unlinked p).linkDeath p := by
  have hfail : (s.unlinked p).failAts p = s.unlinked p := by
    have : (s.unlinked p).tlb.fetches = [] := hf
    unfold State.failAts
    rw [this]
    rfl
  unfold State.linkDown
  rw [hup]
  exact congrArg (fun t => State.linkDeath t p) hfail

theorem State.unlinked_atRest {s : State} (h : AtRest s) (p : Nat) : AtRest (s.unlinked p) := by
  obtain ⟨hd, hq, hj⟩ := h
  refine ⟨?_, ?_, hj⟩
  · show s.coh.dir.map _ = []
    rw [hd]
    rfl
  · show s.coh.queue.map _ = []
    rw [hq]
    rfl

theorem State.unlinked_portAt (s : State) (p q : Nat) :
    (s.unlinked p).portAt q = ((s.muteRequests p).modPort p (fun x => { x with up := false, mem := false })).portAt q := rfl

theorem State.unlinked_up_other {s : State} {p q : Nat} (h : q ≠ p) : ((s.unlinked p).portAt q).up = (s.portAt q).up := by
  rw [State.unlinked_portAt, State.portAt_modPort_other _ _ h]
  unfold State.muteRequests
  rw [State.portAt_modPort_other _ _ h]
  rfl

theorem State.unlinked_up_self (s : State) (p : Nat) : ((s.unlinked p).portAt p).up = false := by
  rw [State.unlinked_portAt, State.portAt_modPort]

/-- Where every other link is down, none is up after the loss. -/
theorem State.unlinked_up {s : State} {p : Fin 4} (h : ∀ q : Fin 4, q ≠ p → (s.portAt q.val).up = false) (q : Nat) (hq : q < 4) :
    ((s.unlinked p.val).portAt q).up = false := by
  by_cases e : q = p.val
  · rw [e, State.unlinked_up_self]
  · rw [State.unlinked_up_other e]
    exact h ⟨q, hq⟩ (fun h => e (congrArg Fin.val h))

theorem State.unlinked_mld (s : State) (p : Nat) : (s.unlinked p).mld = s.mld := rfl

theorem State.linkDeath_of_linked {s : State} {p q : Nat} (hm : s.mld = false) (hq : q < 4) (h : (s.portAt q).up = true) : s.linkDeath p = s := by
  unfold State.linkDeath
  rw [hm, if_neg (by simp), if_pos (List.any_eq_true.mpr ⟨q, List.mem_range.mpr hq, h⟩)]

/-- In G-FAM mode the loss of the last link leaves every requester dead. -/
theorem State.linkDeath_last {s : State} {p : Nat} (hm : s.mld = false) (hu : ∀ q, q < 4 → (s.portAt q).up = false) (h : AtRest s) :
    Died s (s.linkDeath p) ∧ ∀ r, r < 4096 → (s.linkDeath p).isDead r = true := by
  obtain ⟨hd, hq, hj⟩ := h
  have hany : (List.range 4).any (fun q => (s.portAt q).up) = false := by
    rw [List.any_eq_false]
    exact fun q hq => by simp [hu q (List.mem_range.mp hq)]
  unfold State.linkDeath
  rw [hm, hany, hd, hq, if_neg (by simp), if_neg (by simp)]
  have hdead (r : Nat) (l : List Nat) : (s.coh.dead ++ l).contains r = (s.isDead r || l.contains r) := by
    simp [State.isDead]
  refine ⟨⟨rfl, ⟨hd, hq, hj⟩, fun r hr => ?_⟩, fun r hr => ?_⟩
  · exact (hdead r _).trans (by rw [hr]; rfl)
  · refine (hdead r _).trans ?_
    by_cases hs : s.isDead r = true
    · rw [hs]; rfl
    · have : s.isDead r = false := by simpa using hs
      rw [this, Bool.false_or, List.contains_iff_mem]
      exact List.mem_filter.mpr ⟨List.mem_range.mpr hr, by simpa using this⟩

/-- In MLD mode a port's loss leaves its sixteen logical devices dead. -/
theorem State.linkDeath_mld {s : State} {p : Nat} (hm : s.mld = true) (h : AtRest s) :
    Died s (s.linkDeath p) ∧ ∀ n, n < 16 → (s.linkDeath p).isDead (p * 16 + n) = true := by
  unfold State.linkDeath
  rw [hm, if_pos rfl]
  obtain ⟨hd, hl⟩ := foldl_hostDies_of_atRest (event := 1) (unit := p) (g := fun n => p * 16 + n) (l := List.range 16) h
  exact ⟨hd, fun n hn => hl n (List.mem_range.mpr hn)⟩

theorem Died.sameBytes {s t : State} (h : Died s t) : SameBytes s t := by
  intro a
  rw [h.1]

theorem Died.portAt {s t : State} (h : Died s t) (p : Nat) : t.portAt p = s.portAt p := by
  rw [h.1]
  rfl

/-- Settles O38: each command by the branches of its definition; a port's reset by what is left of the link's loss, and a link's loss, where
nothing else goes on, by the requesters that die with it. -/
theorem portsAndFunctions : Obligations.PortsAndFunctions := by
  unfold Obligations.PortsAndFunctions
  refine ⟨fun s d v => ?_, fun s p rate width flit => ?_, fun s p hup hf => ?_, fun s p h => ?_, fun s p => ?_, fun s p => rfl, fun s f => ?_,
    fun s f h => ?_, fun s f w h => ?_⟩
  · exact ⟨fun h => if_pos h, fun h => if_neg (by simp [h])⟩
  · intro held u
    have hheld : ((s.portAt p.val).perst || s.rst.isolated.contains (.port p) || bit s.clk.status (7 + p.val)) = true ↔ held := by
      simp [held, or_assoc]
    refine ⟨fun h => if_pos (hheld.mpr h), fun h hflit hr hw => ?_, fun h hless => ?_⟩
    · refine (if_neg (mt hheld.mp h)).trans (if_pos ?_)
      have hr' : 32 ≤ rate := by omega
      have hw' : 8 ≤ width := by omega
      simp [hflit, hr, hw, hr', hw']
    · refine (if_neg (mt hheld.mp h)).trans (if_neg ?_)
      rcases hless with hl | hl
      · simp [hl]
      · simp only [Bool.and_eq_true, decide_eq_true_eq]
        omega
  · have hd : exec (.portLinkDown p) s = .next ((s.unlinked p.val).linkDeath p.val) := congrArg Host.Outcome.next (State.linkDown_of_up hup hf)
    refine ⟨fun q hm hq hu => ?_, fun hm hall h => ?_, fun hm h => ?_⟩
    · have hq' : q.val ≠ p.val := fun e => hq (Fin.ext e)
      exact hd.trans (congrArg Host.Outcome.next
        (State.linkDeath_of_linked (s := s.unlinked p.val) hm q.isLt ((State.unlinked_up_other hq').trans hu)))
    · obtain ⟨hdied, hdead⟩ := State.linkDeath_last (s := s.unlinked p.val) (p := p.val) hm (State.unlinked_up hall) (State.unlinked_atRest h _)
      exact ⟨_, hd, hdied.sameBytes, hdied.portAt _, hdead⟩
    · obtain ⟨hdied, hdead⟩ := State.linkDeath_mld (s := s.unlinked p.val) (p := p.val) hm (State.unlinked_atRest h _)
      exact ⟨_, hd, hdied.sameBytes, hdied.portAt _, hdead⟩
  · exact congrArg Host.Outcome.next (if_pos (by simp [h]))
  · intro d gone
    refine ⟨fun h => if_pos (by simp [h]), ?_, fun h => ?_, fun h => if_pos h⟩
    · obtain ⟨hb, hc, hf⟩ := State.resetPort_spec s p.val false
      exact ⟨_, rfl, hb, State.par_of_find hc, hf⟩
    · obtain ⟨hb, hc, hf⟩ := State.resetPort_spec s p.val true
      obtain ⟨iso, hiso, hl⟩ := State.isolate_logOnly (s.resetPort p.val true) (.port p) 5 p.val (s.portAt p.val).reqs.length
      refine ⟨_, if_neg (by simp [h]), ⟨fun a => ?_, State.par_of_find ?_, fun f hm => ?_⟩, ?_, ?_⟩
      · refine (congrArg (fun m => Mem.get m.mem a) hl.med).trans (hb a)
      · exact (hl.2 _ _ (by omega)).trans hc
      · have : (s.resetPort p.val true).funcAt f = default := hf f hm
        unfold State.funcAt at this ⊢
        exact (congrArg (fun x : HostState => Tab.get x.funcs f default) hl.host).trans this
      · rw [State.portAt_modPort]
      · show Block.port p ∈ (State.isolate _ _ _ _ _).rst.isolated
        rw [hl.rst]
        exact hiso
  · have h : SameBytes s (s.clearFunc f.val false) ∧ (s.clearFunc f.val false).funcAt f.val =
        { (default : Func) with hdm := (s.funcAt f.val).hdm, ide := (s.funcAt f.val).ide, ideKey := (s.funcAt f.val).ideKey } ∧
        (∀ x, x ∈ (s.clearFunc f.val false).host.sessions → x.path ≠ .doe f) ∧
        (∀ c, c ∈ (s.clearFunc f.val false).clients → c.client.path ≠ .window f) ∧
        ∀ g, g ≠ f.val → (s.clearFunc f.val false).funcAt g = s.funcAt g :=
      ⟨fun a => by rw [State.clearFunc_mem], State.funcAt_clearFunc s f.val false, State.clearFunc_sessions s f, State.clearFunc_clients s f,
        fun g => State.funcAt_clearFunc_other s false⟩
    exact ⟨⟨_, rfl, h⟩, ⟨_, rfl, h⟩⟩
  · have hup : ¬ (!(s.portAt (funcPort f.val)).up) = true := by simp [h]
    exact ⟨if_neg hup, fun on => if_neg hup, fun on => if_neg hup, fun on => if_neg hup, fun on => if_neg hup, fun d v => if_neg hup⟩
  · exact if_pos (by simp [h])

end Machine
end Sys2Proof

namespace Sys2Proof
namespace Machine

/-! Packets of the pool ring (R32, R393, R394, R407-R412): where a packet of a command's type goes, and what each type does here. -/

/-! ### Numbers as bytes, and back -/

/-- A number that fits is read back from its bytes. -/
theorem leNat_leBytes_of_lt {n v : Nat} (h : v < 256 ^ n) : leNat (leBytes n v) = v := by
  induction n generalizing v with
  | zero =>
    have : v = 0 := by simpa using h
    rw [this]
    rfl
  | succ n ih =>
    have hd : v / 256 < 256 ^ n := Nat.div_lt_of_lt_mul (by rwa [Nat.mul_comm, ← Nat.pow_succ])
    rw [leBytes, leNat, ih hd, BitVec.toNat_ofNat]
    omega

theorem ofNat_leNat_leBytes {n w : Nat} (hw : w = 8 * n) (v : BitVec w) : BitVec.ofNat w (leNat (leBytes n v.toNat)) = v := by
  have hp : 2 ^ w = 256 ^ n := hw ▸ Nat.pow_mul 2 8 n
  rw [leNat_leBytes_of_lt (hp ▸ v.isLt), BitVec.ofNat_toNat, BitVec.setWidth_eq]

/-- The 16 B unit of an arrival or a notice names its group, sequence number and barrier. -/
theorem arrivalOf_ringUnit (a : RingArrival) : arrivalOf (ringUnit a.group.toNat a.seq.toNat a.barrier.toNat) = a := by
  obtain ⟨g, q, b⟩ := a
  have hg := g.isLt
  have hq := q.isLt
  have hb := b.isLt
  unfold arrivalOf ringUnit bytesBits bitsAt
  dsimp only
  rw [leNat_leBytes_of_lt (by omega)]
  simp only [Nat.shiftRight_eq_div_pow, RingArrival.mk.injEq]
  refine ⟨BitVec.eq_of_toNat_eq ?_, BitVec.eq_of_toNat_eq ?_, BitVec.eq_of_toNat_eq ?_⟩ <;> rw [BitVec.toNat_ofNat] <;> omega

/-! ### Where a packet goes -/

theorem State.packet_of_other_type {s : State} {type : Nat} {b : BitVec 128} (h : (PktHdr.unpack b).type ≠ type) (d : List (BitVec 8)) :
    s.packet type b d = s := if_neg h

/-- A packet for this chip takes its effect. -/
theorem State.packet_here {s : State} {type : Nat} {b : BitVec 128} (ht : (PktHdr.unpack b).type = type)
    (hd : (PktHdr.unpack b).dest = s.coord) (d : List (BitVec 8)) : s.packet type b d = s.deliver b d :=
  (if_pos ht).trans (if_pos hd)

/-- A packet for another chip goes on where there is a way. -/
theorem State.packet_forwarded {s t : State} {type : Nat} {b : BitVec 128} {d : List (BitVec 8)} (ht : (PktHdr.unpack b).type = type)
    (hd : (PktHdr.unpack b).dest ≠ s.coord) (hf : s.forward (PktHdr.unpack b) d none = some t) : s.packet type b d = t := by
  refine (if_pos ht).trans ((if_neg hd).trans ?_)
  rw [hf]

/-- A request for another chip to which there is no way is answered with NO_ROUTE. -/
theorem State.packet_noWay {s : State} {type : Nat} {b : BitVec 128} {d : List (BitVec 8)} (ht : (PktHdr.unpack b).type = type)
    (hd : (PktHdr.unpack b).dest ≠ s.coord) (hf : s.forward (PktHdr.unpack b) d none = none) (hr : isRequest type = true) :
    s.packet type b d = s.reply (PktHdr.unpack b) (if type = 1 then 2 else 4) 3 [] := by
  refine (if_pos ht).trans ((if_neg hd).trans ?_)
  rw [hf]
  subst ht
  exact (if_pos (by rw [hr]; rfl)).trans (if_pos hr)

/-- What a command whose packet is of another type, or for another chip, does. -/
theorem State.packet_elsewhere (s : State) (type : Nat) (b : BitVec 128) (d : List (BitVec 8)) :
    ((PktHdr.unpack b).type ≠ type → ok (s.packet type b d) = .next s) ∧
    ((PktHdr.unpack b).type = type → (PktHdr.unpack b).dest ≠ s.coord →
      (∀ t, s.forward (PktHdr.unpack b) d none = some t → ok (s.packet type b d) = .next t) ∧
      (s.forward (PktHdr.unpack b) d none = none → type = 1 → ok (s.packet type b d) = .next (s.reply (PktHdr.unpack b) 2 3 [])) ∧
      (s.forward (PktHdr.unpack b) d none = none → type = 3 ∨ type = 5 ∨ type = 6 →
        ok (s.packet type b d) = .next (s.reply (PktHdr.unpack b) 4 3 []))) := by
  refine ⟨fun h => congrArg _ (State.packet_of_other_type h d), fun ht hd => ⟨fun t hf => congrArg _ (State.packet_forwarded ht hd hf),
    fun hf h1 => ?_, fun hf h => ?_⟩⟩
  · exact congrArg _ ((State.packet_noWay ht hd hf (by simp [isRequest, h1])).trans (by rw [if_pos h1]))
  · exact congrArg _ ((State.packet_noWay ht hd hf (by rcases h with h | h | h <;> simp [isRequest, h])).trans (by rw [if_neg (by omega)]))

/-! What each command's packet does at its destination, one lemma for each type. -/

section
variable {s : State} {b : BitVec 128}

theorem exec_rd_here (ht : (PktHdr.unpack b).type = 1) (hd : (PktHdr.unpack b).dest = s.coord) :
    exec (.rd b) s = .next (s.serveRd b) :=
  congrArg Host.Outcome.next ((State.packet_here ht hd _).trans (by simp only [State.deliver, ht]))

theorem exec_rdData_here (d : List (BitVec 8)) (ht : (PktHdr.unpack b).type = 2) (hd : (PktHdr.unpack b).dest = s.coord) :
    exec (.rdData b d) s = .next (s.takeResponse (PktHdr.unpack b) d) :=
  congrArg Host.Outcome.next ((State.packet_here ht hd _).trans (by simp only [State.deliver, ht]))

theorem exec_wr_here (d : List (BitVec 8)) (ht : (PktHdr.unpack b).type = 3) (hd : (PktHdr.unpack b).dest = s.coord) :
    exec (.wr b d) s = .next (s.serveWr (PktHdr.unpack b) d) :=
  congrArg Host.Outcome.next ((State.packet_here ht hd _).trans (by simp only [State.deliver, ht]))

theorem exec_wrAck_here (ht : (PktHdr.unpack b).type = 4) (hd : (PktHdr.unpack b).dest = s.coord) :
    exec (.wrAck b) s = .next (s.takeResponse (PktHdr.unpack b) []) :=
  congrArg Host.Outcome.next ((State.packet_here ht hd _).trans (by simp only [State.deliver, ht]))

theorem exec_delta_here (d : List (BitVec 8)) (ht : (PktHdr.unpack b).type = 5) (hd : (PktHdr.unpack b).dest = s.coord) :
    exec (.delta b d) s = .next (s.serveDelta b d) :=
  congrArg Host.Outcome.next ((State.packet_here ht hd _).trans (by simp only [State.deliver, ht]))

theorem exec_chunk_here (d : List (BitVec 8)) (ht : (PktHdr.unpack b).type = 6) (hd : (PktHdr.unpack b).dest = s.coord) :
    exec (.chunk b d) s = .next (s.serveChunk (PktHdr.unpack b) d) :=
  congrArg Host.Outcome.next ((State.packet_here ht hd _).trans (by simp only [State.deliver, ht]))

theorem exec_ringBarrierArrival_here (a : RingArrival) (ht : (PktHdr.unpack b).type = 7) (hd : (PktHdr.unpack b).dest = s.coord) :
    exec (.ringBarrierArrival b a) s = .next (s.takeArrival (PktHdr.unpack b) a) :=
  congrArg Host.Outcome.next ((State.packet_here ht hd _).trans (by simp only [State.deliver, ht, arrivalOf_ringUnit]))

theorem exec_notice_here (a : RingArrival) (ht : (PktHdr.unpack b).type = 8) (hd : (PktHdr.unpack b).dest = s.coord) :
    exec (.notice b a) s = .next (s.takeNotice (PktHdr.unpack b) a) :=
  congrArg Host.Outcome.next ((State.packet_here ht hd _).trans (by simp only [State.deliver, ht, arrivalOf_ringUnit]))

theorem exec_digest_here (r : BitVec 512) (ht : (PktHdr.unpack b).type = 9) (hd : (PktHdr.unpack b).dest = s.coord) :
    exec (.digest b r) s = .next (s.takeDigest (PktHdr.unpack b) r) :=
  congrArg Host.Outcome.next ((State.packet_here ht hd _).trans (by simp only [State.deliver, ht, ofNat_leNat_leBytes (n := 64) rfl r]))

theorem exec_washDone_here (p : BitVec 128) (ht : (PktHdr.unpack b).type = 10) (hd : (PktHdr.unpack b).dest = s.coord) :
    exec (.washDone b p) s = .next (s.takeWash (PktHdr.unpack b) p) :=
  congrArg Host.Outcome.next ((State.packet_here ht hd _).trans (by simp only [State.deliver, ht, ofNat_leNat_leBytes (n := 16) rfl p]))

end

/-! ### Requests of other chips -/

theorem State.serveRd_denied {s : State} {b : BitVec 128} (hl : (PktHdr.unpack b).lines ≠ 0)
    (h : ¬ ∀ i, i < (PktHdr.unpack b).lines → s.allowed (PktHdr.unpack b).tenant ((PktHdr.unpack b).dpa + 64 * i) false = true) :
    s.serveRd b = (s.poolDenied (PktHdr.unpack b)).reply (PktHdr.unpack b) 2 2 [] :=
  (if_neg hl).trans (if_pos (by simpa using h))

/-- An RD of allowed lines is answered by what they read as, or waits. -/
theorem State.serveRd_allowed {s : State} {b : BitVec 128} (hl : (PktHdr.unpack b).lines ≠ 0)
    (h : ∀ i, i < (PktHdr.unpack b).lines → s.allowed (PktHdr.unpack b).tenant ((PktHdr.unpack b).dpa + 64 * i) false = true) :
    s.serveRd b =
      let r := s.poolRead ((PktHdr.unpack b).dpa / 64) (PktHdr.unpack b).lines
      match r.1 with
      | none => { r.2 with pool := { r.2.pool with waiting := r.2.pool.waiting ++ [b] } }
      | some (bs, poison) => if poison then r.2.reply (PktHdr.unpack b) 2 1 [] else r.2.reply (PktHdr.unpack b) 2 0 bs :=
  (if_neg hl).trans (if_neg (by simpa using h))

theorem State.poolRead_one {s t : State} {line : Nat} {bs : List (BitVec 8)} {poison : Bool} (h : s.isHdmDb (line * 64) = false)
    (hr : s.readLine line poolPort = ((bs, poison), t)) : s.poolRead line 1 = (some (bs, poison), t) := by
  simp [State.poolRead, h, hr]

theorem State.serveWr_denied {s : State} {h : PktHdr} {d : List (BitVec 8)}
    (ha : ¬ ∀ i, i < (if h.status = 1 then 1 else h.units / 4) → s.allowed h.tenant (h.dpa + 64 * i) true = true) :
    s.serveWr h d = (s.poolDenied h).reply h 4 2 [] :=
  if_pos (by simpa using ha)

theorem State.serveWr_poison {s : State} {h : PktHdr} {d : List (BitVec 8)} (h1 : h.status = 1)
    (ha : ∀ i, i < 1 → s.allowed h.tenant (h.dpa + 64 * i) true = true) :
    s.serveWr h d = (s.otherPoison (h.dpa / 64) poolPort).reply h 4 0 [] := by
  have h0 : s.allowed h.tenant h.dpa true = true := ha 0 (by decide)
  simp [State.serveWr, h1, h0]

theorem State.serveWr_data {s : State} {h : PktHdr} {d : List (BitVec 8)} (h1 : h.status ≠ 1)
    (ha : ∀ i, i < h.units / 4 → s.allowed h.tenant (h.dpa + 64 * i) true = true) :
    s.serveWr h d = ((List.range (h.units / 4)).foldl (fun u i =>
      u.otherWrite (h.dpa / 64 + i) (fitBytes 64 ((d.drop (64 * i)).take 64)) (BitVec.allOnes 64) poolPort) s).reply h 4 0 [] := by
  have hall : (List.range (h.units / 4)).all (fun i => s.allowed h.tenant (h.dpa + 64 * i) true) = true := by simpa using ha
  simp [State.serveWr, h1, hall]

theorem State.serveDelta_applied {s : State} {b : BitVec 128} {d : List (BitVec 8)}
    (h : s.pool.rebuild.st ≠ 2 ∨ s.rebuildPlace (PktHdr.unpack b).dpa = 2) :
    s.serveDelta b d =
      (s.applyDelta (PktHdr.unpack b).dpa (fitBytes 64 d) (decide ((PktHdr.unpack b).status = 1))).reply (PktHdr.unpack b) 4 0 [] := by
  unfold State.serveDelta
  by_cases h2 : s.pool.rebuild.st = 2
  · have hp := h.resolve_left (not_not_intro h2)
    simp only [h2, if_true, hp]
  · simp only [h2, if_false]

theorem State.serveDelta_dropped {s : State} {b : BitVec 128} {d : List (BitVec 8)} (h2 : s.pool.rebuild.st = 2)
    (h : s.rebuildPlace (PktHdr.unpack b).dpa = 0) : s.serveDelta b d = s.reply (PktHdr.unpack b) 4 0 [] := by
  simp only [State.serveDelta, h2, if_true, h]

theorem State.serveDelta_held {s : State} {b : BitVec 128} {d : List (BitVec 8)} (h2 : s.pool.rebuild.st = 2)
    (h : s.rebuildPlace (PktHdr.unpack b).dpa = 1) :
    s.serveDelta b d = ({ s with pool := { s.pool with rebuild := { s.pool.rebuild with
      heldD := s.pool.rebuild.heldD ++ [(b, d)] } } } : State).reply (PktHdr.unpack b) 4 0 [] := by
  simp only [State.serveDelta, h2, if_true, h]

theorem State.applyDelta_data {s : State} {dpa : Nat} (delta : List (BitVec 8)) (hf : s.fatalAt dpa = false) (hp : s.isPoison (dpa / 64) = false) :
    s.applyDelta dpa delta false =
      (s.enqueueBe 8 4 true 64 dpa .none).storeStored (dpa / 64) (xorBytes (s.storedBytes (dpa / 64)) delta) := by
  simp [State.applyDelta, hf, hp]

theorem State.applyDelta_poison {s : State} {dpa : Nat} (delta : List (BitVec 8)) (hf : s.fatalAt dpa = false) (hp : s.isPoison (dpa / 64) = false) :
    (s.applyDelta dpa delta true).isPoison (dpa / 64) = true := by
  simp only [State.applyDelta, hf, hp, Bool.false_eq_true, if_false, if_true]
  unfold State.isPoison
  rw [State.bump_med, foldl_keeps (fun s => s.med.poison) State.applyFlip_poison]
  simp [State.clearErrors]

/-- A rebuilt line is written as it is. -/
theorem State.storeRebuilt_mem {s : State} {line : Nat} (d : List (BitVec 8)) (hf : s.fatalAt (line * 64) = false) :
    (s.storeRebuilt line d).med.mem = Mem.write s.med.mem (line * 64) (fitBytes 64 d) := by
  unfold State.storeRebuilt State.storeStored
  rw [hf, State.updateParity_mem]
  exact foldl_mem _ (fun s w => State.applyFlip_mem w s) _ _

theorem fitBytes_of_length {n : Nat} {d : List (BitVec 8)} (h : d.length = n) : fitBytes n d = d := by
  simp [fitBytes, ← h]

/-! ### Responses -/

theorem State.takeResponse_ok {s : State} {h : PktHdr} {r : PoolReq} (d : List (BitVec 8))
    (hr : s.pool.reqs.find? (fun q => q.tag.toNat = h.tag) = some r) (h0 : h.status = 0) : s.takeResponse h d = s.finishRequest r (some d) 0 := by
  simp only [State.takeResponse, hr, h0, if_true]

/-- A failed request is lost, with a record unless its rights failed. -/
theorem State.takeResponse_failed {s : State} {h : PktHdr} {r : PoolReq} (d : List (BitVec 8))
    (hr : s.pool.reqs.find? (fun q => q.tag.toNat = h.tag) = some r) (h0 : h.status ≠ 0) :
    s.takeResponse h d = (if h.status = 2 then s else s.requestLost h.src r h.status).finishRequest r none h.status := by
  simp only [State.takeResponse, hr, h0, if_false]

theorem State.takeResponse_unknown {s : State} {h : PktHdr} (d : List (BitVec 8)) (hr : s.pool.reqs.find? (fun q => q.tag.toNat = h.tag) = none) :
    s.takeResponse h d =
      if h.type = 4 && h.reqKind = 4 then (if h.status = 0 then s.deltaDone h.tag else s.deltaAgain h.tag) else s := by
  simp only [State.takeResponse, hr]

/-! ### Notices -/

/-- A notice that is not about the invocation of the one context is kept in it. -/
theorem State.takeNotice_single {s : State} {h : PktHdr} {a : RingArrival} {k : Nat} {x : Ctx} (hc : s.ctxs = [(k, x)])
    (hg : bits x.entry 287 272 = a.group.toNat) (ht : bits x.entry 7 0 = h.tenant) (hp : (s.partners k).contains h.src = true)
    (hs : s.ringSeq k ≠ a.seq) : s.takeNotice h a = s.modCtx k (fun x => { x with notices := x.notices ++ [(a.seq, BitVec.ofNat 6 h.src)] }) := by
  have hq : (s.modCtx k (fun x => { x with notices := x.notices ++ [(a.seq, BitVec.ofNat 6 h.src)] })).ringSeq k = s.ringSeq k := by
    unfold State.ringSeq
    rw [State.ctxAt_modCtx]
  unfold State.takeNotice
  simp only [hc, List.filter_cons, hg, ht, hp, decide_true, Bool.and_self, if_true, List.filter_nil, List.map_cons, List.map_nil,
    List.foldl_cons, List.foldl_nil]
  rw [if_pos (by rw [hq]; exact hs)]

/-- Settles O57: each packet's command by where the packet goes, and each type by the branches of its service. -/
theorem poolPackets : Obligations.PoolPackets := by
  unfold Obligations.PoolPackets
  refine ⟨fun s b => ?_, fun s line hdb => ⟨fun h => ?_, fun h => ?_⟩, fun s b data => ?_, fun s line d hdb => ⟨?_, fun hr => ?_⟩,
    fun s b data => ?_, fun s r st => ?_, fun s tag d hd => ?_, fun s b data => ?_, fun s dpa delta hf hp => ?_, fun s b data => ?_,
    fun s line d hl hf => ?_, fun s b a => ?_, fun s b r => ?_, fun s b p => ?_, fun s tag => ?_, fun s b p data a r => ?_⟩
  · intro h ht hd allow
    rw [exec_rd_here ht hd]
    refine ⟨fun hl => congrArg _ (if_pos hl), fun hl ha s1 => ?_, fun hl ha => congrArg _ (State.serveRd_denied hl ha)⟩
    rw [State.serveRd_allowed hl ha]
    exact ⟨fun bs poison e => by rw [e], fun e => by rw [e]⟩
  · exact State.poolRead_one hdb (State.readLine_intact h poolPort)
  · exact State.poolRead_one hdb (State.readLine_poison h poolPort)
  · intro h ht hd n allow
    rw [exec_wr_here data ht hd]
    refine ⟨fun ha h1 => congrArg _ (State.serveWr_poison h1 ?_), fun ha h1 => congrArg _ ?_, fun ha => congrArg _ (State.serveWr_denied ha)⟩
    · simpa only [allow, n, if_pos h1] using ha
    · simp only [n, if_neg h1]
      exact State.serveWr_data h1 (by simpa only [allow, n, if_neg h1] using ha)
  · exact (if_neg (by simp [hdb])).trans rfl
  · exact (if_neg (by simp [hr])).trans (if_neg (by simp [hdb]))
  · intro h hd
    refine ⟨fun r hr => ⟨fun ht => ?_, fun ht => ?_⟩, fun hr => ⟨fun ht => ?_, fun ht hk => ?_, fun ht hk => ?_⟩⟩
    · rw [exec_rdData_here data ht hd]
      refine ⟨fun h0 => by rw [State.takeResponse_ok data hr h0], fun h2 => ?_, fun h0 h2 => ?_⟩
      · rw [State.takeResponse_failed data hr (by omega), if_pos h2, h2]
      · rw [State.takeResponse_failed data hr h0, if_neg h2]
    · rw [exec_wrAck_here ht hd]
      refine ⟨fun h0 => by rw [State.takeResponse_ok [] hr h0], fun h2 => ?_, fun h0 h2 => ?_⟩
      · rw [State.takeResponse_failed [] hr (by omega), if_pos h2, h2]
      · rw [State.takeResponse_failed [] hr h0, if_neg h2]
    · rw [exec_rdData_here data ht hd, State.takeResponse_unknown data hr, if_neg (by simp [ht])]
    · rw [exec_wrAck_here ht hd, State.takeResponse_unknown [] hr, if_neg (by simp [hk])]
    · rw [exec_wrAck_here ht hd, State.takeResponse_unknown [] hr, if_pos (by simp [ht, hk])]
      exact ⟨fun h0 => by rw [if_pos h0], fun h0 => by rw [if_neg h0]⟩
  · intro u h
    refine ⟨fun ho => ?_, fun ho bs => ⟨fun hw => ?_, fun w hw h1 => ?_⟩, fun n d ho => ?_, fun v bs ho => ?_⟩
    · simp only [State.finishRequest, ho]
      rfl
    · simp only [State.finishRequest, ho]
      split
      · exact if_neg (hw.resolve_left (by simp [*]))
      · rfl
    · simp only [State.finishRequest, ho, hw]
      exact if_pos h1
    · cases d <;> simp only [State.finishRequest, ho] <;> rfl
    · simp only [State.finishRequest, ho]
      rfl
  · simp only [State.deltaDone, State.deltaAgain, hd]
    exact ⟨trivial, trivial⟩
  · intro h ht hd put
    rw [exec_delta_here data ht hd]
    exact ⟨fun hs => congrArg _ (State.serveDelta_applied hs), fun h2 hp => congrArg _ (State.serveDelta_dropped h2 hp),
      fun h2 hp => congrArg _ (State.serveDelta_held h2 hp)⟩
  · exact ⟨State.applyDelta_data delta hf hp, State.applyDelta_poison delta hf hp⟩
  · intro h ht hd
    rw [exec_chunk_here data ht hd]
    unfold State.serveChunk
    simp only [Bool.or_eq_true, decide_eq_true_eq]
    rfl
  · intro t
    have hm : t.med.mem = Mem.write s.med.mem (line * 64) d := by rw [State.storeRebuilt_mem d hf, fitBytes_of_length hl]
    refine ⟨fun x hx => ?_, fun i hi => ?_⟩
    · rw [hm]
      exact Mem.get_write_outside _ _ _ _ (by omega)
    · rw [hm, Mem.get_write_inside _ _ _ _ (by omega), List.getD_eq_getElem]
  · intro h hd
    exact ⟨fun ht => exec_ringBarrierArrival_here a ht hd,
      fun ht => ⟨exec_notice_here a ht hd, fun k x hc hg hten hp hs => State.takeNotice_single hc hg hten hp hs⟩⟩
  · intro h ht hd g
    rw [exec_digest_here r ht hd]
    exact ⟨fun h0 => congrArg _ (if_pos h0), fun h0 => congrArg _ (if_neg h0)⟩
  · intro h ht hd
    rw [exec_washDone_here p ht hd]
    exact ⟨fun h1 => congrArg _ (if_neg (not_not_intro h1)), fun h1 => congrArg _ (if_pos h1)⟩
  · refine ⟨fun r hr => ?_, fun hr => ?_⟩
    · show execPoolRequestTimeout tag s = _
      simp only [execPoolRequestTimeout, hr]
      rfl
    · show execPoolRequestTimeout tag s = _
      simp only [execPoolRequestTimeout, hr]
      rfl
  · exact ⟨s.packet_elsewhere 1 b _, s.packet_elsewhere 2 b _, s.packet_elsewhere 3 b _, s.packet_elsewhere 4 b _, s.packet_elsewhere 5 b _,
      s.packet_elsewhere 6 b _, s.packet_elsewhere 7 b _, s.packet_elsewhere 8 b _, s.packet_elsewhere 9 b _, s.packet_elsewhere 10 b _⟩

end Machine
end Sys2Proof

namespace Sys2Proof
namespace Machine

/-! Queues and row counts of the slices (R68-R72, R100-R104) and command-address parity (R76, R77). -/

/-- One change to each of the slices below `n`: they have it, and nothing else changes. -/
theorem State.foldl_modSlice (f : Slice → Slice) (n : Nat) (s : State) :
    let t := (List.range n).foldl (fun s k => s.modSlice k f) s
    (∀ k, k < n → t.sliceAt k = f (s.sliceAt k)) ∧ (∀ k, n ≤ k → t.sliceAt k = s.sliceAt k) ∧
      t = { s with cal := { s.cal with slices := t.cal.slices } } := by
  induction n with
  | zero => exact ⟨fun k hk => absurd hk (Nat.not_lt_zero k), fun _ _ => rfl, rfl⟩
  | succ n ih =>
    obtain ⟨hlo, hhi, hrest⟩ := ih
    simp only [List.range_succ, List.foldl_append, List.foldl_cons, List.foldl_nil]
    generalize (List.range n).foldl (fun s k => s.modSlice k f) s = u at hlo hhi hrest
    refine ⟨fun k hk => ?_, fun k hk => ?_, ?_⟩
    · by_cases hkn : k = n
      · rw [hkn, State.sliceAt_modSlice, hhi n (Nat.le_refl n)]
      · rw [State.sliceAt_modSlice_other _ _ hkn, hlo k (by omega)]
    · rw [State.sliceAt_modSlice_other _ _ (by omega), hhi k (by omega)]
    · unfold State.modSlice
      rw [hrest]

/-- R139: an arrival is queued where the slice holds its DPA and its port may have one more outstanding. -/
theorem execBeRequestArrival_eq (k : Fin 44) (r : BeSpec) (s : State) :
    execBeRequestArrival k r s =
      if s.sliceOf r.dpa.toNat = k.val ∧ (r.port = 6 → (s.sliceAt k.val).beq.any (fun q => q.port = 6) = false)
      then ok (s.enqueueBe (s.beClass r) r.port.val r.write r.bytes r.dpa.toNat .none) else ok s := by
  unfold execBeRequestArrival
  rw [← ite_not]
  refine if_congr ?_ rfl rfl
  cases (s.sliceAt k.val).beq.any (fun q => q.port = 6) <;> simp

/-- R68, R101: what a request adds to the slice that holds its DPA. -/
theorem State.enqueueBe_of_slice {s : State} {dpa k : Nat} (h : s.sliceOf dpa = k) (cls port : Nat) (write : Bool) (bytes : Nat) (work : BeWork) :
    s.enqueueBe cls port write bytes dpa work = s.modSlice k (fun x => { x with
      beq := x.beq ++ [{ id := x.nextId, cls := cls, port := port, write := write, bytes := bytes, dpa := dpa, bank := (s.bankRow dpa).1,
                         row := (s.bankRow dpa).2, tag := s.finishTag k cls bytes, level := 0, passes := 0, arrived := s.now, hold := .free,
                         work := work }],
      nextId := x.nextId + 1, finish := Tab.set x.finish cls (s.finishTag k cls bytes),
      inOrder := if write = false ∧
          (s.sliceAt k).beq.any (fun p => p.write && p.bank = (s.bankRow dpa).1 && p.row = (s.bankRow dpa).2) = true
        then addNew x.inOrder (s.bankRow dpa).1 else x.inOrder }) := by
  subst h
  unfold State.enqueueBe
  simp only [Bool.and_eq_true, Bool.not_eq_true']

/-- R69, R71: a waiting request takes the level of its age where that is higher. -/
theorem execUrgencyLevelRaise_of_find {k : Fin 44} {id : Nat} {s : State} {r : BeReq}
    (h : (s.sliceAt k.val).beq.find? (fun q => q.id = id) = some r) :
    execUrgencyLevelRaise k id s =
      let level := urgencyOf (s.now - r.arrived) (s.par 0x3050 (r.port + 1))
      let u := s.modSlice k.val (fun x => { x with beq := x.beq.map (fun (q : BeReq) => if q.id = id then { q with level := level } else q) })
      if level ≤ r.level then ok s else ok (if level = 3 then u.bumpElem 32 0x3050 11 (k.val * 10 + r.port) else u) := by
  unfold execUrgencyLevelRaise
  rw [h]

/-- Settles O9: the clearing of row counts slice by slice, the rest by the branches of each command. -/
theorem sliceQueuesAndRowCounts : Obligations.SliceQueuesAndRowCounts := by
  unfold Obligations.SliceQueuesAndRowCounts
  refine ⟨fun s => ⟨_, rfl, State.foldl_modSlice _ 44 s⟩, fun s k r => ?_, fun s k id r hr => ?_, fun _ _ => rfl, fun _ _ => rfl,
    fun _ _ => rfl, fun s k f => ⟨State.sliceAt_modSlice s k f, fun j hj => State.sliceAt_modSlice_other s f hj, rfl⟩⟩
  · intro cls bank row tag conflict mayEnter
    refine ⟨fun h => ((execBeRequestArrival_eq k r s).trans (if_pos h)).trans ?_, fun h => (execBeRequestArrival_eq k r s).trans (if_neg h)⟩
    exact congrArg Host.Outcome.next (State.enqueueBe_of_slice h.1 cls r.port.val r.write r.bytes .none)
  · intro level u
    have he : exec (.urgencyLevelRaise k id) s =
        if level ≤ r.level then ok s else ok (if level = 3 then u.bumpElem 32 0x3050 11 (k.val * 10 + r.port) else u) :=
      execUrgencyLevelRaise_of_find hr
    refine ⟨fun h h3 => ?_, fun h h3 => ?_, fun h => he.trans (if_pos h)⟩
    · rw [he, if_neg (by omega), if_neg (by omega)]
      rfl
    · rw [he, if_neg (by omega), if_pos h3]
      rfl

/-- The state of a slice that has become fatal, before its record (R77). -/
def State.fatalSlice (s : State) (k : Nat) : State :=
  let s1 := s.modSlice k (fun x => { x with fatal := true, escq := [] })
  let s2 := s1.setPar 0x3070 3 (setBits (s1.par 0x3070 3) k k 1)
  if k < 32 then s2.setPar (0x3100 + k / 4) 1 2 else s2.setPar (0x3110 + (k - 32)) 1 3

theorem State.makeFatal_eq (s : State) (k ch n : Nat) : s.makeFatal k ch n = (s.fatalSlice k).report kSliceFatal 0 k [(32, ch), (32, n)] := rfl

theorem State.fatalSlice_frame (s : State) (k : Nat) :
    s.fatalSlice k = { s with cal := { s.cal with slices := (s.fatalSlice k).cal.slices }, od := (s.fatalSlice k).od } := by
  unfold State.fatalSlice
  dsimp only
  split <;> rfl

theorem State.fatalSlice_sliceAt (s : State) (k j : Nat) :
    (s.fatalSlice k).sliceAt j = (s.modSlice k (fun x => { x with fatal := true, escq := [] })).sliceAt j := by
  unfold State.fatalSlice
  dsimp only
  split <;> rfl

theorem State.fatalSlice_par (s : State) (k : Nat) :
    (s.fatalSlice k).par (if k < 32 then 0x3100 + k / 4 else 0x3110 + (k - 32)) 1 = (if k < 32 then 2 else 3) := by
  unfold State.fatalSlice
  dsimp only
  split <;> exact State.par_setPar _ _ _ _

/-- A report changes no slice. -/
theorem State.sliceAt_report (s : State) (k : FKind) (unit subject : Nat) (fields : List (Nat × Nat)) (j : Nat) :
    (s.report k unit subject fields).sliceAt j = s.sliceAt j := by
  have h := (State.submit_logOnly s (s.mkRec k unit subject fields)).1
  unfold State.report
  rw [h]
  rfl

/-- Settles O13: the branches of the command; and what becomes fatal is one change of the slice and of its entries, then a record. -/
theorem commandParityAlerts : Obligations.CommandParityAlerts := by
  unfold Obligations.CommandParityAlerts
  refine ⟨fun s k ch => ?_, fun s k ch n => ⟨?_, fun a => ?_, s.fatalSlice k, s.makeFatal_eq k ch n, s.fatalSlice_frame k, fun j hj => ?_,
    s.fatalSlice_par k⟩, fun s k ch h => ?_⟩
  · intro x hf ht hc n incidents u
    have he : exec (.caParityAlert k ch) s = _ := if_neg (by rw [hf, ht, hc]; decide)
    exact ⟨fun hn => he.trans (if_neg (Nat.not_le.mpr hn)), fun hn => he.trans (if_pos hn)⟩
  · rw [State.makeFatal_eq, State.sliceAt_report, State.fatalSlice_sliceAt, State.sliceAt_modSlice]
  · rw [State.makeFatal_mem]
  · rw [State.fatalSlice_sliceAt, State.sliceAt_modSlice_other _ _ hj]
  · refine if_pos ?_
    rcases h with h | h | h <;> rw [h] <;> simp

end Machine
end Sys2Proof

namespace Sys2Proof
namespace Machine

/-! The bytes that a store of a whole line leaves (R120, R135, R407): what a store does before its DELTAs go out changes nothing from which
the holders of ring parity are computed, so where none of them is this chip, memory is the old one with the line written. -/

/-- What the holders of a line's ring parity are computed from (R405) stands: of the dictionary, all below the fault log's counters
but for the objects of the parity cache (0x3820) and of the flip mask (0x3850), where a store counts. -/
structure SameRing (s t : State) : Prop where
  opt : t.opt = s.opt
  h64 : t.h64 = s.h64
  tier : t.med.tier = s.med.tier
  pool : t.pool = s.pool
  od : ∀ key, key < 0x780000 → key / 256 ≠ 0x3820 → key / 256 ≠ 0x3850 → Tab.find? t.od key = Tab.find? s.od key

theorem SameRing.refl (s : State) : SameRing s s := ⟨rfl, rfl, rfl, rfl, fun _ _ _ _ => rfl⟩

theorem SameRing.trans {s t u : State} (h : SameRing s t) (k : SameRing t u) : SameRing s u :=
  ⟨k.opt.trans h.opt, k.h64.trans h.h64, k.tier.trans h.tier, k.pool.trans h.pool,
    fun key h1 h2 h3 => (k.od key h1 h2 h3).trans (h.od key h1 h2 h3)⟩

theorem SameRing.foldl {α : Type} {f : State → α → State} (h : ∀ s x, SameRing s (f s x)) (l : List α) (s : State) :
    SameRing s (l.foldl f s) :=
  List.foldlRecOn l f (SameRing.refl s) fun t ht x _ => ht.trans (h t x)

theorem SameRing.setPar (s : State) {idx sub : Nat} (v : Nat) (hi : idx = 0x3820 ∨ idx = 0x3850) (hs : sub < 256) :
    SameRing s (s.setPar idx sub v) := by
  refine ⟨rfl, rfl, rfl, rfl, fun key _ h1 h2 => Tab.find_set_other _ _ ?_⟩
  unfold odKey
  omega

theorem SameRing.bump (s : State) {idx sub : Nat} (w : Nat) (hi : idx = 0x3820 ∨ idx = 0x3850) (hs : sub < 256) :
    SameRing s (s.bump w idx sub) := SameRing.setPar s _ hi hs

theorem SameRing.med (s : State) {m : MediaState} (hm : m.tier = s.med.tier) : SameRing s { s with med := m } :=
  ⟨rfl, rfl, hm, rfl, fun _ _ _ _ => rfl⟩

theorem LogOnly.sameRing {s t : State} (h : LogOnly s t) : SameRing s t := by
  obtain ⟨ht, hod⟩ := h
  refine ⟨by rw [ht], by rw [ht], by rw [ht], by rw [ht], fun key hk _ _ => ?_⟩
  have := hod (key / 256) (key % 256) (by omega)
  rwa [show odKey (key / 256) (key % 256) = key by unfold odKey; omega] at this

/-! ### Operations on the way of a store -/

theorem State.applyFlip_sameRing (s : State) (w : Nat) : SameRing s (s.applyFlip w) := by
  unfold State.applyFlip
  dsimp only
  split
  · have hsub (b : Bool) : flipSub b + 1 < 256 := by cases b <;> decide
    refine .trans (.trans ?_ (.setPar _ _ (.inr rfl) (hsub (s.onHbm w)))) (.bump _ 32 (.inr rfl) (by decide))
    exact .med s rfl
  · exact .refl s

theorem State.enqueueBe_sameRing (s : State) (cls port : Nat) (write : Bool) (bytes dpa : Nat) (work : BeWork) :
    SameRing s (s.enqueueBe cls port write bytes dpa work) := ⟨rfl, rfl, rfl, rfl, fun _ _ _ _ => rfl⟩

theorem State.writeParity_sameRing (s : State) (line : Nat) (d : BitVec 512) : SameRing s (s.writeParity line d) := by
  unfold State.writeParity
  dsimp only
  split
  · exact .refl s
  · refine .trans ?_ (SameRing.foldl State.applyFlip_sameRing _ _)
    exact .med s rfl

theorem State.parityLost_sameRing (s : State) (line way : Nat) : SameRing s (s.parityLost line way) := by
  refine .trans (.trans (.trans ?_ (.bump _ 32 (.inl rfl) (by decide))) (State.submit_logOnly _ _).sameRing)
    (SameRing.foldl (fun u p => u.enqueueBe_sameRing 9 7 false 64 (p * 4096) (.reencode p)) _ _)
  exact .med s rfl

theorem State.evictParity_sameRing (s : State) (line : Nat) : SameRing s (s.evictParity line) := by
  unfold State.evictParity
  dsimp only
  split
  · split
    · exact .refl s
    · split
      · exact State.parityLost_sameRing _ _ _
      · split
        · refine .trans ?_ (State.writeParity_sameRing _ _ _)
          exact .med s rfl
        · exact .med s rfl
  · exact .refl s

theorem State.fetchParity_sameRing (s : State) (line : Nat) : SameRing s (s.fetchParity line).2 := by
  unfold State.fetchParity
  split
  · split
    · exact State.parityLost_sameRing _ _ _
    · exact .bump s 64 (.inl rfl) (by decide)
  · have h1 : SameRing s ((s.bump 64 0x3820 2).enqueueBe 9 7 false 64 (line * 64) .none) :=
      .trans (.bump s 64 (.inl rfl) (by decide)) (State.enqueueBe_sameRing _ _ _ _ _ _ _)
    dsimp only
    split
    · exact h1.trans (State.parityLost_sameRing _ _ _)
    · exact (h1.trans (State.evictParity_sameRing _ _)).trans (.med _ rfl)

/-- A line of parity is fetched, and something more is done where it came. -/
theorem State.fetchParity_then_sameRing {s t : State} {line : Nat} (h : SameRing (s.fetchParity line).2 t) :
    SameRing s (if (s.fetchParity line).1 then t else (s.fetchParity line).2) := by
  split
  · exact (State.fetchParity_sameRing s line).trans h
  · exact State.fetchParity_sameRing s line

theorem State.addParity_sameRing (s : State) (dpa : Nat) (delta : List (BitVec 8)) : SameRing s (s.addParity dpa delta) := by
  unfold State.addParity
  extract_lets line r d put s1
  have h1 : SameRing s s1 := State.fetchParity_then_sameRing (.med _ rfl)
  split
  · exact h1
  · exact h1.trans (State.fetchParity_then_sameRing (.med _ rfl))

theorem State.updateParity_sameRing (s : State) (dpa : Nat) (delta : List (BitVec 8)) (read : Bool) :
    SameRing s (s.updateParity dpa delta read) := by
  unfold State.updateParity
  dsimp only
  split
  · exact .refl s
  · refine .trans ?_ (State.addParity_sameRing _ _ _)
    split
    · exact State.enqueueBe_sameRing _ _ _ _ _ _ _
    · exact .refl s

theorem State.dropScrubs_sameRing (s : State) (line : Nat) : SameRing s (s.dropScrubs line) := by
  unfold State.dropScrubs
  dsimp only
  split
  · exact ⟨rfl, rfl, rfl, rfl, fun _ _ _ _ => rfl⟩
  · exact .refl s

/-! ### Where ring parity lies -/

section
variable {s t : State} (h : SameRing s t)
include h

theorem SameRing.option (hi lo : Nat) : t.option hi lo = s.option hi lo := by
  unfold State.option
  rw [h.opt]

theorem SameRing.par {idx sub : Nat} (hi : idx < 0x7800) (h1 : idx ≠ 0x3820) (h2 : idx ≠ 0x3850) (hs : sub < 256) :
    t.par idx sub = s.par idx sub := by
  have hd : t.odDefault idx sub = s.odDefault idx sub := by
    simp only [State.odDefault, State.identityRoutes, State.position, h.option, h.h64]
  unfold State.par
  rw [hd, h.od _ (by unfold odKey; omega) (by unfold odKey; omega) (by unfold odKey; omega)]

theorem SameRing.epoch : t.epoch = s.epoch := by
  unfold State.epoch
  rw [h.par (by decide) (by decide) (by decide) (by decide)]

theorem SameRing.route {tbl : Nat} (ht : tbl < 2) : t.route tbl = s.route tbl := by
  funext c
  unfold State.route
  rw [h.par (by decide) (by decide) (by decide) (by omega)]

theorem SameRing.coord : t.coord = s.coord := by
  have hr : t.route s.epoch = s.route s.epoch := h.route (Nat.mod_lt _ (by decide))
  unfold State.coord State.routePresent State.position
  rw [h.epoch, hr, h.option]

theorem SameRing.channelExtents {c : Nat} (hc : c < 16) : t.channelExtents c = s.channelExtents c := by
  have hp (sub : Nat) (hs : sub < 256) : t.par (0x3110 + c) sub = s.par (0x3110 + c) sub := h.par (by omega) (by omega) (by omega) hs
  unfold State.channelExtents
  rw [hp 1 (by decide), hp 4 (by decide)]

theorem SameRing.map_channelExtents {n : Nat} (hn : n ≤ 16) : (List.range n).map t.channelExtents = (List.range n).map s.channelExtents :=
  List.map_congr_left fun _ hc => h.channelExtents (Nat.lt_of_lt_of_le (List.mem_range.mp hc) hn)

theorem SameRing.ringClass : t.ringClass = s.ringClass := h.option 141 140

theorem SameRing.ringChips : t.ringChips = s.ringChips := by
  unfold State.ringChips
  rw [h.option, h.option]

theorem SameRing.spares : t.spares = s.spares := by
  unfold State.spares
  rw [h.ringClass, h.ringChips]

theorem SameRing.stripeChips : t.stripeChips = s.stripeChips := by
  unfold State.stripeChips
  rw [h.ringChips, h.spares]

theorem SameRing.stripeData : t.stripeData = s.stripeData := by
  unfold State.stripeData
  rw [h.ringClass]

theorem SameRing.stripeParity : t.stripeParity = s.stripeParity := by
  unfold State.stripeParity
  rw [h.ringClass]

theorem SameRing.rankOf (c : Nat) : t.rankOf c = s.rankOf c := by
  unfold State.rankOf
  rw [h.option]

theorem SameRing.ordinalCoord (i : Nat) : t.ordinalCoord i = s.ordinalCoord i := by
  unfold State.ordinalCoord
  rw [h.option]

theorem SameRing.isSpare : t.isSpare = s.isSpare := by
  unfold State.isSpare
  rw [h.ringClass, h.coord, h.rankOf, h.spares, h.ringChips]

theorem SameRing.ddrExtents : t.ddrExtents = s.ddrExtents := congrArg List.sum (h.map_channelExtents (by decide))

theorem SameRing.mediaExtents (tier : Nat) : t.mediaExtents tier = s.mediaExtents tier := by
  unfold State.mediaExtents State.hbmExtents
  rw [h.h64, h.ddrExtents]

theorem SameRing.armourExtents {tier : Nat} (ht : tier < 2) : t.armourExtents tier = s.armourExtents tier := by
  unfold State.armourExtents
  rw [h.od _ (by unfold odKey; omega) (by unfold odKey; omega) (by unfold odKey; omega), h.ddrExtents, h.ringClass]

theorem SameRing.levels (tier : Nat) : t.levels tier = s.levels tier := by
  unfold State.levels
  rw [h.ringClass, h.mediaExtents, h.stripeData, h.stripeParity]

theorem SameRing.ringParity (tier : Nat) : t.ringParity tier = s.ringParity tier := by
  unfold State.ringParity
  rw [h.ringClass, h.stripeParity, h.levels]

theorem SameRing.reserved {tier : Nat} (ht : tier < 2) : t.reserved tier = s.reserved tier := by
  unfold State.reserved State.leftover
  rw [h.ringParity, h.ringClass, h.mediaExtents, h.stripeData, h.stripeParity, h.armourExtents ht]

theorem SameRing.usable {tier : Nat} (ht : tier < 2) : t.usable tier = s.usable tier := by
  unfold State.usable
  rw [h.mediaExtents, h.reserved ht]

theorem SameRing.freeBlocks : t.freeBlocks = s.freeBlocks := by
  unfold State.freeBlocks
  rw [h.usable (by decide)]
  dsimp only
  congr 1
  refine List.foldl_ext _ _ _ fun a c hc => ?_
  rw [h.channelExtents (Nat.lt_trans (List.mem_range.mp hc) (by decide))]

theorem SameRing.defaultEntry (e : Nat) : t.defaultEntry e = s.defaultEntry e := by
  have hm : (List.range 12).map (fun c => (c, t.channelExtents c)) = (List.range 12).map (fun c => (c, s.channelExtents c)) :=
    List.map_congr_left fun c hc => by rw [h.channelExtents (Nat.lt_trans (List.mem_range.mp hc) (by decide))]
  unfold State.defaultEntry
  rw [h.ringClass, h.isSpare, h.freeBlocks, hm, h.usable (by decide), h.usable (by decide), h.reserved (by decide), h.reserved (by decide)]

theorem SameRing.entryAt (dpa : Nat) : t.entryAt dpa = s.entryAt dpa := by
  unfold State.entryAt State.tierEntry
  rw [h.tier, h.isSpare, h.defaultEntry]

theorem SameRing.mediaRank (e : BitVec 32) : t.mediaRank e = s.mediaRank e := by
  have hb : bits e 20 17 ≤ 16 := Nat.le_of_lt (Nat.mod_lt _ (by decide))
  unfold State.mediaRank
  rw [h.map_channelExtents hb]

theorem SameRing.parityExtentDpa {tier : Nat} (ht : tier < 2) (l : Nat) : t.parityExtentDpa tier l = s.parityExtentDpa tier l := by
  unfold State.parityExtentDpa
  rw [h.mediaExtents, h.ringParity, h.usable (by decide), h.usable (by decide), h.reserved (by decide), h.usable ht]

theorem SameRing.parityHolders (dpa : Nat) : t.parityHolders dpa = s.parityHolders dpa := by
  have ht : (s.mediaRank (s.entryAt dpa)).1 < 2 := by
    unfold State.mediaRank
    split
    · exact Nat.one_lt_two
    · exact Nat.two_pos
  unfold State.parityHolders
  rw [h.ringClass, h.stripeChips, h.entryAt, h.mediaRank]
  dsimp only
  rw [h.stripeData, h.levels, h.coord, h.rankOf]
  simp only [h.parityExtentDpa ht, h.ordinalCoord]

theorem SameRing.parityElsewhere {line : Nat} (hp : s.parityElsewhere line) : t.parityElsewhere line := by
  unfold State.parityElsewhere
  rw [h.pool, h.parityHolders, h.coord]
  exact hp

end

/-! ### The store -/

theorem RingOnly.coord {s t : State} (h : RingOnly s t) : t.coord = s.coord := by
  rw [h]
  rfl

theorem State.inject_ringOnly (s : State) (h : PktHdr) (d : List (BitVec 8)) : RingOnly s ((s.inject h d).getD s) := by
  cases e : s.inject h d with
  | none => exact .refl s
  | some t => exact State.forward_ringOnly e

/-- The DELTAs of a line whose ring parity lies elsewhere go out on the ring, and change nothing else (R407). -/
theorem State.sendDeltas_ringOnly {s : State} {line : Nat} (hp : s.parityElsewhere line) (delta : List (BitVec 8)) (poison : Bool) :
    RingOnly s (s.sendDeltas (line * 64) delta poison) := by
  unfold State.sendDeltas
  split
  · exact .refl s
  · next hb =>
    refine List.foldlRecOn _ _ (RingOnly.refl s) fun u hu x hx => ?_
    have hx' : x.1 ≠ u.coord := by
      rw [hu.coord]
      exact hp.resolve_left hb x hx
    dsimp only
    rw [if_neg hx']
    refine hu.trans (RingOnly.trans ?_ (State.inject_ringOnly _ _ _))
    rfl

/-- A whole line stored on a slice that is not fatal, its ring parity elsewhere. -/
theorem State.storeRaw_mem {s : State} {line : Nat} (hf : s.fatalAt (line * 64) = false) (hp : s.parityElsewhere line)
    (d : List (BitVec 8)) (read : Bool) : (s.storeRaw line d read).med.mem = Mem.write s.med.mem (line * 64) (fitBytes 64 d) := by
  unfold State.storeRaw
  rw [if_neg (by simp [hf])]
  extract_lets old media s1 s2 s3 delta s4
  have h2 : SameRing s s2 := .med s rfl
  have h3 : SameRing s s3 := (h2.trans (State.dropScrubs_sameRing s2 line)).trans ⟨rfl, rfl, rfl, rfl, fun _ _ _ _ => rfl⟩
  have h4 : RingOnly (s3.updateParity (line * 64) delta read) s4 :=
    State.sendDeltas_ringOnly ((h3.trans (State.updateParity_sameRing s3 _ delta read)).parityElsewhere hp) delta false
  rw [foldl_mem _ (fun u w => State.applyFlip_mem w u), h4.med, State.updateParity_mem]
  show (s2.dropScrubs line).med.mem = _
  rw [State.dropScrubs_mem]
  rfl

theorem fitBytes_length (n : Nat) (bs : List (BitVec 8)) : (fitBytes n bs).length = n := by
  simp [fitBytes]
  omega

/-- A write of a whole line that is open, its ring parity elsewhere. -/
theorem State.storeMasked_whole_mem {s : State} {line : Nat} (ho : s.open_ line) (hp : s.parityElsewhere line) (d : List (BitVec 8)) (req : Nat) :
    (s.storeMasked line d (BitVec.allOnes 64) req).med.mem = Mem.write s.med.mem (line * 64) (fitBytes 64 d) := by
  obtain ⟨hf, hr, hl⟩ := ho
  have e : s.storeMasked line d (BitVec.allOnes 64) req = (s.storeRaw line (fitBytes 64 d)).armGlaze line := by
    simp [State.storeMasked, State.storeLine, hf, hr, hl]
  rw [e, State.armGlaze_mem, State.storeRaw_mem hf hp, fitBytes_of_length (fitBytes_length 64 d)]

end Machine
end Sys2Proof

namespace Sys2Proof
namespace Machine

/-! Copy channels (R79-R82): what the service answers, how a run takes its next line, and what the events make of a channel. -/

/-! ### Requests and commands -/

section
variable {s : State} {d : BitVec 256}

theorem copyRequest_bad (h : s.copyGood d = false) : copyRequest d s = refuse stRange s := by
  unfold copyRequest
  rw [h]
  rfl

theorem copyRequest_busy (h : s.copyGood d = true) (hn : s.copyChannel = none) : copyRequest d s = refuse stBusy s := by
  unfold copyRequest
  rw [h, hn]
  rfl

theorem copyRequest_taken {n : Nat} (h : s.copyGood d = true) (hn : s.copyChannel = some n) :
    copyRequest d s = (stOk, n,
      let s1 := s.modCopy n (fun x => { x with queue := x.queue ++ [d] })
      if (s.copyAt n).queue = [] then s1.copyStart n else s1) := by
  unfold copyRequest
  rw [h, hn]
  rfl

variable {n v : Nat} {rest : List (BitVec 256)}

/-- R81: a command to a channel that is not halted. -/
theorem copyCommand_notHalted (h1 : 1 ≤ v) (h3 : v ≤ 3) (h : (s.copyAt n).state ≠ 2 ∨ (s.copyAt n).queue = []) :
    copyCommand n v s = refuse stState s := by
  unfold copyCommand
  dsimp only
  rw [if_neg (by simp; omega)]
  split
  · rfl
  · next h2 => rw [h.resolve_left h2]

/-- R81: a command to a halted channel acts on its head copy. -/
theorem copyCommand_halted (h1 : 1 ≤ v) (h3 : v ≤ 3) (h2 : (s.copyAt n).state = 2) (hq : (s.copyAt n).queue = d :: rest) :
    copyCommand n v s =
      let x := s.copyAt n
      let src := cpySrc d + x.done
      let r := s.peekLine (ppaDpa src / 64) copyPort
      if v = 1 then
        if s.isLocal src = true ∧ r.1.any (fun q => q.2) = true then done (r.2.haltCopy n)
        else done ((s.modCopy n (fun c => { c with state := 1 })).copyFetch n)
      else if v = 2 then
        done (((s.copyLine n d x.done none).modCopy n (fun c =>
          { c with state := 1, done := c.done + 64, skipped := (c.skipped + 1) % 2 ^ 32 })).copyFetch n)
      else done (s.copyEnd n 2) := by
  unfold copyCommand
  dsimp only
  rw [if_neg (by simp; omega), if_neg (not_not_intro h2), hq]
  obtain rfl | rfl | rfl : v = 1 ∨ v = 2 ∨ v = 3 := by omega
  · simp only [Bool.and_eq_true, if_true]
  · rfl
  · rfl

end

/-! ### The run of a channel -/

/-- What a run makes of the line that it has read: it goes on past a line that is there, with at most `m` lines more. -/
def State.copyTakes (n m : Nat) (d : BitVec 256) (off : Nat) : Option (List (BitVec 8) × Bool) × State → Bool × State
  | (none, u) => (false, u)
  | (some (_, true), u) => (true, u)
  | (some (bs, false), u) => State.copyRun n m ((u.copyLine n d off (some bs)).modCopy n (fun c => { c with done := c.done + 64 }))

section
variable {s : State} {n : Nat} {d : BitVec 256} {rest : List (BitVec 256)} (hq : (s.copyAt n).queue = d :: rest)
include hq

theorem State.copyRun_stops (m : Nat)
    (h : (s.copyAt n).done ≥ cpyLen d ∨ s.isLocal (cpySrc d + (s.copyAt n).done) = false ∨ (s.copyAt n).probes ≠ []) :
    State.copyRun n (m + 1) s = (false, s) := by
  rw [State.copyRun]
  simp only [hq]
  exact if_pos (by simpa [or_assoc] using h)

theorem State.copyRun_reads (m : Nat) (hd : (s.copyAt n).done < cpyLen d) (hl : s.isLocal (cpySrc d + (s.copyAt n).done) = true)
    (hp : (s.copyAt n).probes = []) :
    State.copyRun n (m + 1) s =
      State.copyTakes n m d (s.copyAt n).done (s.peekLine (ppaDpa (cpySrc d + (s.copyAt n).done) / 64) copyPort) := by
  rw [State.copyRun]
  simp only [hq]
  rw [if_neg (by simpa [hl, hp] using hd)]
  rcases s.peekLine _ copyPort with ⟨_ | ⟨bs, _ | _⟩, u⟩ <;> rfl

end

/-! ### Events of a channel -/

section
variable {s : State} {n : Fin 16}

theorem execCopyLinePoison_idle (h : (s.copyAt n.val).queue = [] ∨ (s.copyAt n.val).state ≠ 1) : execCopyLinePoison n s = ok s := by
  unfold execCopyLinePoison
  dsimp only
  split
  · rfl
  · next hq => exact if_pos (by simpa [hq] using Or.inl h)

theorem execCopyComplete_idle (h : (s.copyAt n.val).queue = [] ∨ (s.copyAt n.val).state ≠ 1) : execCopyComplete n s = ok s := by
  unfold execCopyComplete
  dsimp only
  split
  · rfl
  · next hq => exact if_pos (by simpa [hq] using h)

variable {d : BitVec 256} {rest : List (BitVec 256)} (hq : (s.copyAt n.val).queue = d :: rest) (h1 : (s.copyAt n.val).state = 1)
include hq

theorem execCopyLinePoison_denied (hr : s.copyRights d = false) : execCopyLinePoison n s = ok s := by
  unfold execCopyLinePoison
  simp only [hq]
  exact if_pos (by simp [hr])

include h1

theorem execCopyLinePoison_allowed (hr : s.copyRights d = true) {met : Bool} {s1 : State}
    (e : State.copyRun n.val (s.copyAt n.val).left s = (met, s1)) :
    execCopyLinePoison n s = if met then ok (s1.haltCopy n.val) else ok s := by
  unfold execCopyLinePoison
  simp only [hq, e]
  exact if_neg (by simp [h1, hr])

theorem execCopyComplete_denied (hr : s.copyRights d = false) (hd : (s.copyAt n.val).done = 0) :
    execCopyComplete n s = ok (s.copyEnd n.val 3) := by
  unfold execCopyComplete
  simp only [hq]
  rw [if_neg (not_not_intro h1), if_pos (by simp [hd, hr])]

/-- Where the rights do not fail, a copy whose probes are answered runs, and ends where nothing is left or owed. -/
theorem execCopyComplete_allowed (h : s.copyRights d = true ∨ (s.copyAt n.val).done ≠ 0) {met : Bool} {s1 : State}
    (e : State.copyRun n.val (s.copyAt n.val).left s = (met, s1)) :
    execCopyComplete n s = if (s.copyAt n.val).probes ≠ [] then ok s
      else if met then ok (s1.haltCopy n.val)
      else if (s1.copyAt n.val).left ≠ 0 ∨ s1.pool.reqs.any (fun q => q.owner = some (.copy n)) = true then ok s1
      else ok (s1.copyEnd n.val (if (s.copyAt n.val).skipped = 0 then 0 else 4)) := by
  unfold execCopyComplete
  simp only [hq, e]
  rw [if_neg (not_not_intro h1), if_neg (by rcases h with h | h <;> simp [h])]
  simp only [Bool.or_eq_true, decide_eq_true_eq]

end

/-! ### Lines -/

/-- A line outside the directory is read as any requester reads it. -/
theorem State.peekLine_of_dirAt_none {s : State} {line : Nat} (h : s.dirAt line = none) (who : Nat) :
    s.peekLine line who = (some (s.readLine line who).1, (s.readLine line who).2) := by
  unfold State.peekLine
  rw [h]

/-- A line of this chip outside HDM-DB and the copy's own source range is written whole. -/
theorem State.copyLine_plain {s : State} {d : BitVec 256} {off : Nat} (n : Nat) (bs : List (BitVec 8)) (hl : s.isLocal (cpyDst d + off) = true)
    (ho : copyOverlaps d off = false) (hb : s.isHdmDb (ppaDpa (cpyDst d + off) / 64 * 64) = false) :
    s.copyLine n d off (some bs) = s.storeMasked (ppaDpa (cpyDst d + off) / 64) bs (BitVec.allOnes 64) copyPort := by
  simp [State.copyLine, State.otherWrite, hl, ho, hb]

/-- Settles O36: requests and commands by what the service answers, events by the branches of a channel that runs, and the line that a
copy writes by what a store of a whole line leaves. -/
theorem copyChannels : Obligations.CopyChannels := by
  unfold Obligations.CopyChannels
  refine ⟨fun s c d hs => ?_, fun s c n hs => ?_, fun s s1 n d rest hq h1 => ?_, fun s n h => ?_, fun s u n m d rest bs hq => ?_,
    fun s line hd => ⟨fun h => ?_, fun h => ?_⟩, fun s n off d bs => ?_⟩
  · have served {st v u} (e : copyRequest d (s.modClient c id) = (st, v, u)) : exec (.copyRequest c d) s = .next (u.answer c st v) :=
      congrArg Host.Outcome.next (State.request_eq_of_op hs e)
    exact ⟨fun hg hn => served (copyRequest_busy hg hn), fun hg => served (copyRequest_bad hg), fun n hg hn => served (copyRequest_taken hg hn)⟩
  · have resume {st v u} (e : copyCommand n.val 1 (s.modClient c id) = (st, v, u)) : exec (.copyResume c n) s = .next (u.answer c st v) :=
      congrArg Host.Outcome.next (State.request_eq_of_op hs e)
    have skip {st v u} (e : copyCommand n.val 2 (s.modClient c id) = (st, v, u)) : exec (.copySkip c n) s = .next (u.answer c st v) :=
      congrArg Host.Outcome.next (State.request_eq_of_op hs e)
    have abort {st v u} (e : copyCommand n.val 3 (s.modClient c id) = (st, v, u)) : exec (.copyAbort c n) s = .next (u.answer c st v) :=
      congrArg Host.Outcome.next (State.request_eq_of_op hs e)
    intro s0 x
    refine ⟨fun h => ⟨resume (copyCommand_notHalted (by decide) (by decide) h), skip (copyCommand_notHalted (by decide) (by decide) h),
      abort (copyCommand_notHalted (by decide) (by decide) h)⟩, fun d rest h2 hq => ?_⟩
    intro src r poison
    have hc {v : Nat} (h1 : 1 ≤ v) (h3 : v ≤ 3) := copyCommand_halted (s := s0) h1 h3 h2 hq
    exact ⟨fun hp => resume ((hc (by decide) (by decide)).trans (if_pos hp)), fun hp => resume ((hc (by decide) (by decide)).trans (if_neg hp)),
      skip (hc (by decide) (by decide)), abort (hc (by decide) (by decide))⟩
  · intro run
    refine ⟨fun hr e => execCopyLinePoison_allowed hq h1 hr e, fun hr e => execCopyLinePoison_allowed hq h1 hr (Prod.ext e rfl),
      execCopyLinePoison_denied hq, execCopyComplete_denied hq h1, fun h => ⟨fun hp => ?_, fun hp e => ?_, fun hp e => ?_⟩⟩
    · exact (execCopyComplete_allowed hq h1 h rfl).trans (if_pos hp)
    · exact (execCopyComplete_allowed hq h1 h e).trans (if_neg (not_not_intro hp))
    · have he : exec (.copyComplete n) s = _ := (execCopyComplete_allowed hq h1 h e).trans (if_neg (not_not_intro hp))
      exact ⟨fun hw => he.trans (if_pos hw), fun hl hw => he.trans (if_neg (not_or.mpr ⟨not_not_intro hl, ne_true_of_eq_false hw⟩))⟩
  · exact ⟨execCopyLinePoison_idle h, execCopyComplete_idle h⟩
  · intro src r
    refine ⟨State.copyRun_stops hq m, fun hd hl hp => ?_⟩
    have take {q} (e : r = q) : State.copyRun n (m + 1) s = State.copyTakes n m d (s.copyAt n).done q :=
      (State.copyRun_reads hq m hd hl hp).trans (congrArg _ e)
    exact ⟨take, take, take⟩
  · rw [State.peekLine_of_dirAt_none hd, State.readLine_poison h]
  · rw [State.peekLine_of_dirAt_none hd, State.readLine_intact h]
  · intro line hl ho hb hopen hp
    have hm : (s.copyLine n d off (some bs)).med.mem = Mem.write s.med.mem (line * 64) (fitBytes 64 bs) := by
      rw [State.copyLine_plain n bs hl ho hb, State.storeMasked_whole_mem hopen hp]
    have hlen := fitBytes_length 64 bs
    refine ⟨fun i hi => ?_, fun x hx => ?_⟩
    · rw [hm, Mem.get_write_inside _ _ _ _ (by omega), List.getD_eq_getElem]
    · rw [hm]
      exact Mem.get_write_outside _ _ _ _ (by omega)

end Machine
end Sys2Proof

namespace Sys2Proof
namespace Machine

/-! Sensors and emergencies (R64, R481, R486-R489): what a report and the throttle's voltage leave of the power state, what one read of a
sensor changes, and what a sample of all core sensors leaves of each. -/

theorem Tab.get_erase_same {α : Type} (t : Tab α) (k : Nat) (d : α) : Tab.get (Tab.erase t k) k d = d := by
  simp [Tab.get]

theorem Tab.get_erase_other {α : Type} (t : Tab α) {k a : Nat} (d : α) (h : a ≠ k) : Tab.get (Tab.erase t k) a d = Tab.get t a d := by
  simp [Tab.get, Tab.find_erase_other t h]

theorem State.report_pwr (s : State) (k : FKind) (unit subject : Nat) (fields : List (Nat × Nat)) :
    (s.report k unit subject fields).pwr = s.pwr := by
  have h := (State.submit_logOnly s (s.mkRec k unit subject fields)).1
  unfold State.report
  rw [h]

/-! ### One read -/

theorem State.sensorRead_answered (s : State) (n : Nat) : s.sensorRead n true =
    { s with pwr := { s.pwr with missed := Tab.erase s.pwr.missed n, absent := s.pwr.absent.filter (fun k => k ≠ n) } } := rfl

theorem State.sensorRead_third {s : State} {n : Nat} (h : Tab.get s.pwr.missed n 0 = 2) : s.sensorRead n false =
    ({ s with pwr := { s.pwr with missed := Tab.set s.pwr.missed n 3, absent := addNew s.pwr.absent n } } : State).report
      kSensorAbsent 0 0 [(32, n)] := by
  simp [State.sensorRead, h]

theorem State.sensorRead_missed {s : State} {n : Nat} (h : Tab.get s.pwr.missed n 0 ≠ 2) : s.sensorRead n false =
    { s with pwr := { s.pwr with missed := Tab.set s.pwr.missed n (Tab.get s.pwr.missed n 0 + 1) } } := by
  simp [State.sensorRead, h]

/-- A read that fails changes only the list of absent sensors and the count of misses. -/
theorem State.sensorRead_failed_pwr (s : State) (n : Nat) : ∃ absent, (∀ i, i ≠ n → absent.contains i = s.pwr.absent.contains i) ∧
    (s.sensorRead n false).pwr = { s.pwr with missed := Tab.set s.pwr.missed n (Tab.get s.pwr.missed n 0 + 1), absent := absent } := by
  by_cases h : Tab.get s.pwr.missed n 0 = 2
  · refine ⟨addNew s.pwr.absent n, fun i hi => ?_, ?_⟩
    · rw [isDead_addNew, decide_eq_false hi, Bool.false_or]
    · rw [State.sensorRead_third h, State.report_pwr, h]
  · exact ⟨s.pwr.absent, fun _ _ => rfl, by rw [State.sensorRead_missed h]⟩

theorem State.heat_hot (s : State) (k : Nat) {r : Int} (h : 850 < r) : s.heat k r = s.modSlice k (fun x => { x with hotNext := true }) := if_pos h

theorem State.heat_cool (s : State) (k : Nat) {r : Int} (h : r ≤ 830) : s.heat k r = s.modSlice k (fun x => { x with hotNext := false }) :=
  (if_neg (by omega)).trans (if_pos h)

theorem State.heat_between (s : State) (k : Nat) {r : Int} (h1 : 830 < r) (h2 : r ≤ 850) : s.heat k r = s :=
  (if_neg (by omega)).trans (if_neg (by omega))

theorem State.sensorAbsent_answered (s : State) (n : Nat) : (s.sensorRead n true).sensorAbsent n = false := by
  simp [State.sensorRead_answered, State.sensorAbsent]

/-! ### A sample of the core sensors -/

/-- One diode of a sample (R481). -/
def State.coreRead (s : State) (p : Option Int × Nat) : State :=
  let s1 := s.sensorRead p.2 p.1.isSome
  match p.1 with
  | some t => { s1 with pwr := { s1.pwr with core := Tab.set s1.pwr.core p.2 t } }
  | none => s1

theorem State.coreRead_mem (s : State) (p : Option Int × Nat) : (s.coreRead p).med.mem = s.med.mem := by
  obtain ⟨_ | r, n⟩ := p
  · exact State.sensorRead_mem _ _ s
  · rfl

theorem State.coreRead_some_pwr (s : State) (r : Int) (n : Nat) : (s.coreRead (some r, n)).pwr = { s.pwr with
    core := Tab.set s.pwr.core n r, missed := Tab.erase s.pwr.missed n, absent := s.pwr.absent.filter (fun k => k ≠ n) } := rfl

/-- What the state holds of a core sensor: its reading, the reads that it missed in a row, and whether it is absent. -/
def State.coreSensor (s : State) (i : Nat) : Int × Nat × Bool := (Tab.get s.pwr.core i 0, Tab.get s.pwr.missed i 0, s.sensorAbsent i)

/-- The read of one sensor leaves the others. -/
theorem State.coreSensor_coreRead_other (s : State) {p : Option Int × Nat} {i : Nat} (h : i ≠ p.2) :
    (s.coreRead p).coreSensor i = s.coreSensor i := by
  obtain ⟨_ | r, n⟩ := p
  · obtain ⟨absent, ha, hp⟩ := s.sensorRead_failed_pwr n
    show (s.sensorRead n false).coreSensor i = _
    unfold State.coreSensor State.sensorAbsent
    rw [hp, ha i h, Tab.get_set_other _ _ _ h]
  · unfold State.coreSensor State.sensorAbsent
    rw [State.coreRead_some_pwr, Tab.get_set_other _ _ _ h, Tab.get_erase_other _ _ h]
    simp [show i ≠ n from h]

theorem State.coreSensor_coreRead_some (s : State) (r : Int) (i : Nat) : (s.coreRead (some r, i)).coreSensor i = (r, 0, false) := by
  unfold State.coreSensor State.sensorAbsent
  rw [State.coreRead_some_pwr, Tab.get_set_same, Tab.get_erase_same]
  simp

theorem State.coreSensor_coreRead_none (s : State) (i : Nat) :
    ((s.coreRead (none, i)).coreSensor i).1 = (s.coreSensor i).1 ∧ ((s.coreRead (none, i)).coreSensor i).2.1 = (s.coreSensor i).2.1 + 1 := by
  obtain ⟨absent, -, hp⟩ := s.sensorRead_failed_pwr i
  show Tab.get (s.sensorRead i false).pwr.core i 0 = _ ∧ Tab.get (s.sensorRead i false).pwr.missed i 0 = _
  rw [hp]
  exact ⟨rfl, Tab.get_set_same _ _ _ _⟩

theorem State.coreSensor_foldl_other (s : State) {l : List (Option Int × Nat)} {i : Nat} (h : ∀ p, p ∈ l → i ≠ p.2) :
    (l.foldl State.coreRead s).coreSensor i = s.coreSensor i :=
  List.foldlRecOn l State.coreRead (motive := fun u => u.coreSensor i = s.coreSensor i) rfl
    fun u hu p hp => (u.coreSensor_coreRead_other (h p hp)).trans hu

/-- The state after a sample of all diodes, before the conditions are tested. -/
def State.coreSample (s : State) (rs : List (Option Int)) : State := (rs.zipIdx.filter (fun p => p.2 < 64)).foldl State.coreRead s

/-- Sensor `i` of a sample is read once, with the others' reads leaving it. -/
theorem State.coreSensor_coreSample (s : State) {rs : List (Option Int)} {i : Nat} {a : Option Int} (hi : i < 64) (h : rs[i]? = some a) :
    ∃ v : State, v.coreSensor i = s.coreSensor i ∧ (s.coreSample rs).coreSensor i = (v.coreRead (a, i)).coreSensor i := by
  obtain ⟨hlt, rfl⟩ := List.getElem?_eq_some_iff.mp h
  have hsplit : rs.zipIdx = (rs.take i).zipIdx ++ (rs[i], i) :: (rs.drop (i + 1)).zipIdx (i + 1) := by
    conv_lhs => rw [← List.take_append_drop i rs, List.drop_eq_getElem_cons hlt]
    rw [List.zipIdx_append, List.zipIdx_cons]
    simp [Nat.min_eq_left hlt.le]
  refine ⟨((rs.take i).zipIdx.filter (fun p => p.2 < 64)).foldl State.coreRead s, State.coreSensor_foldl_other s fun p hp => ?_, ?_⟩
  · have := List.mem_zipIdx (List.mem_of_mem_filter hp)
    rw [List.length_take] at this
    omega
  · unfold State.coreSample
    rw [hsplit, List.filter_append, List.filter_cons_of_pos (by simpa using hi), List.foldl_append, List.foldl_cons]
    refine State.coreSensor_foldl_other _ fun p hp => ?_
    have := List.mem_zipIdx (List.mem_of_mem_filter hp)
    omega

theorem State.coreSample_some {s : State} {rs : List (Option Int)} {i : Nat} {r : Int} (hi : i < 64) (h : rs[i]? = some (some r)) :
    (s.coreSample rs).coreSensor i = (r, 0, false) := by
  obtain ⟨v, -, hv⟩ := s.coreSensor_coreSample hi h
  rw [hv, State.coreSensor_coreRead_some]

theorem State.coreSample_none {s : State} {rs : List (Option Int)} {i : Nat} (hi : i < 64) (h : rs[i]? = some none) :
    ((s.coreSample rs).coreSensor i).1 = (s.coreSensor i).1 ∧ ((s.coreSample rs).coreSensor i).2.1 = (s.coreSensor i).2.1 + 1 := by
  obtain ⟨v, hs, hv⟩ := s.coreSensor_coreSample hi h
  rw [hv, ← hs]
  exact v.coreSensor_coreRead_none i

/-! ### The throttle's voltage -/

/-- Of the power state only a raise and the regulators' targets differ. -/
def VoltsOnly (s t : State) : Prop :=
  t.pwr = { s.pwr with raise := t.pwr.raise, settled := t.pwr.settled, pend := t.pwr.pend, vddMv := t.pwr.vddMv, sramMv := t.pwr.sramMv }

theorem VoltsOnly.trans {s t u : State} (h : VoltsOnly s t) (k : VoltsOnly t u) : VoltsOnly s u := by
  unfold VoltsOnly at *
  rw [k, h]

theorem State.writeVdd_voltsOnly (s : State) (step : Nat) : VoltsOnly s (s.writeVdd step) := by
  unfold State.writeVdd
  dsimp only
  split <;> rfl

theorem State.retarget_voltsOnly (s : State) : VoltsOnly s s.retarget := by
  unfold State.retarget
  extract_lets e now p s1
  have h1 : VoltsOnly s s1 := by
    unfold s1
    split
    · refine VoltsOnly.trans ?_ (State.writeVdd_voltsOnly _ _)
      rfl
    · rfl
  split
  · exact h1.trans rfl
  · split
    · exact h1
    · refine h1.trans (VoltsOnly.trans ?_ (State.writeVdd_voltsOnly _ _))
      rfl

/-! ### Emergencies -/

theorem State.testEmergency_none {s : State} (h : s.emergencies false = [] ∨ s.pwr.emerg = true) : s.testEmergency = s := by
  unfold State.testEmergency
  split
  · next hc => exact if_pos (h.resolve_left (by simp [hc]))
  · rfl

/-- The first condition that holds begins an emergency. -/
theorem State.testEmergency_begins {s : State} {c : Bool × Nat × Int} {cs : List (Bool × Nat × Int)} (h : s.emergencies false = c :: cs)
    (he : s.pwr.emerg = false) : VoltsOnly { s with pwr := { s.pwr with
      emerg := true, emergAt := s.now, emergLow := s.pwr.step, clamp := true, thrDrive := true, pin := false,
      pwm := [(0, 255), (1, 255), (2, 255), (3, 255)] } } s.testEmergency := by
  obtain ⟨thermal, n, r⟩ := c
  unfold State.testEmergency
  simp only [h]
  rw [if_neg (by simp [he])]
  refine VoltsOnly.trans ?_ (State.retarget_voltsOnly _)
  unfold VoltsOnly
  rw [State.report_pwr]
  rfl

/-- R487: the clamp ends where an emergency stands and no condition holds, nor one of the margins. -/
theorem execEmergencyClear_eq (s : State) :
    execEmergencyClear s = if s.pwr.emerg = true ∧ s.emergencies false = [] ∧ s.emergencies true = []
      then ok ((({ s with pwr := { s.pwr with emerg := false, emergHold := true, clamp := false, thrDrive := false } } : State).report
        kEmergencyCleared 0 0 [(32, (s.now - s.pwr.emergAt) / 1000), (32, s.pwr.emergLow.toNat)]).retarget)
      else ok s := by
  unfold execEmergencyClear
  rw [← ite_not]
  refine if_congr ?_ rfl rfl
  simp [not_or, and_assoc]

/-! ### Samples of stacks, DIMMs and the bus -/

theorem State.hbmReading_answered (s : State) (i : Nat) (r : Int) :
    let s1 := s.sensorRead (64 + i) true
    ({ s1 with pwr := { s1.pwr with hbm := Tab.set s1.pwr.hbm i r } } : State).hbmReading i = r :=
  (if_neg (ne_true_of_eq_false (s.sensorAbsent_answered _))).trans (Tab.get_set_same _ _ _ _)

theorem State.dimmReading_answered (s : State) (i : Nat) (r : Int) :
    let s1 := s.sensorRead (72 + i) true
    ({ s1 with pwr := { s1.pwr with dimm := Tab.set s1.pwr.dimm i r } } : State).dimmReading i = r :=
  (if_neg (ne_true_of_eq_false (s.sensorAbsent_answered _))).trans (Tab.get_set_same _ _ _ _)

/-- A DIMM sensor that fails and is not absent reads as before. -/
theorem State.dimmReading_failed {s : State} {i : Nat} (h : (s.sensorRead (72 + i) false).sensorAbsent (72 + i) = false) :
    (s.sensorRead (72 + i) false).dimmReading i = Tab.get s.pwr.dimm i 0 := by
  obtain ⟨absent, -, hp⟩ := s.sensorRead_failed_pwr (72 + i)
  refine (if_neg (ne_true_of_eq_false h)).trans ?_
  rw [hp]

theorem execHbmTempSample_some (st : Fin 8) (r : Int) (s : State) :
    execHbmTempSample st (some r) s =
      let s1 := s.sensorRead (64 + st.val) true
      ok ((List.range 4).foldl (fun (u : State) i => u.heat (4 * st.val + i) r)
        { s1 with pwr := { s1.pwr with hbm := Tab.set s1.pwr.hbm st.val r } }).testTrip.testEmergency := by
  unfold execHbmTempSample
  dsimp only [Option.isSome]
  rw [State.hbmReading_answered]

theorem execDimmTempSample_some (ch : Fin 12) (r : Int) (s : State) :
    execDimmTempSample ch (some r) s =
      let s1 := s.sensorRead (72 + ch.val) true
      ok (({ s1 with pwr := { s1.pwr with dimm := Tab.set s1.pwr.dimm ch.val r } } : State).heat (32 + ch.val) r).testEmergency := by
  unfold execDimmTempSample
  dsimp only [Option.isSome]
  rw [State.dimmReading_answered]
  exact congrArg (fun u : State => ok u.testEmergency) (if_neg (ne_true_of_eq_false (s.sensorAbsent_answered _)))

theorem execDimmTempSample_none (ch : Fin 12) (s : State) :
    execDimmTempSample ch none s =
      let s1 := s.sensorRead (72 + ch.val) false
      ok (if s1.sensorAbsent (72 + ch.val) then s1.modSlice (32 + ch.val) (fun x => { x with hotNext := true })
        else s1.heat (32 + ch.val) (Tab.get s.pwr.dimm ch.val 0)).testEmergency := by
  unfold execDimmTempSample
  dsimp only [Option.isSome]
  split
  · rfl
  · next h => rw [State.dimmReading_failed (by simpa using h)]

/-- Settles O51: a sample of all diodes reads each of them once, an emergency begins with changes that the throttle keeps, and each other
command follows the branches of its definition. -/
theorem sensorsAndEmergencies : Obligations.SensorsAndEmergencies := by
  unfold Obligations.SensorsAndEmergencies
  refine ⟨fun s st => ⟨fun r => execHbmTempSample_some st r s, rfl⟩, fun s ch => ⟨fun r => execDimmTempSample_some ch r s, ?_⟩,
    fun s k r => ⟨s.heat_hot k, s.heat_cool k, s.heat_between k⟩,
    fun s n => ⟨State.sensorRead_third, State.sensorRead_missed, s.sensorRead_answered n⟩,
    fun s i => ⟨rfl, rfl, rfl⟩, fun s rs => ?_, fun s => rfl, fun s => ⟨fun v i => rfl, rfl⟩, fun s rail => ?_, fun s rail => ⟨rfl, rfl⟩,
    fun s i => ?_, fun s => ⟨State.testEmergency_none, fun c cs hc he => ?_⟩, fun s => ?_, fun s => rfl⟩
  · -- a DIMM sensor that does not answer
    intro s1
    have hd : exec (.dimmTempSample ch none) s = _ := execDimmTempSample_none ch s
    exact ⟨fun h => hd.trans (congrArg (fun u : State => ok u.testEmergency) (if_pos h)), fun h =>
      hd.trans (congrArg (fun u : State => ok u.testEmergency) (if_neg (ne_true_of_eq_false h)))⟩
  · -- the diodes of the core
    refine ⟨s.coreSample rs, rfl, fun a => congrArg (Mem.get · a) (foldl_mem _ State.coreRead_mem _ s), fun i r hi h => ?_,
      fun i hi h => State.coreSample_none hi h⟩
    have hv := State.coreSample_some (s := s) hi h
    exact ⟨congrArg Prod.fst hv, congrArg (fun x => x.2.2) hv⟩
  · -- a regulator's telemetry
    refine ⟨fun hg => ⟨fun mv => ?_, if_neg (ne_true_of_eq_false hg)⟩, fun hg r => if_pos hg⟩
    refine (if_neg (ne_true_of_eq_false hg)).trans ?_
    dsimp only
    split <;> rfl
  · -- a fan's speed
    exact ⟨fun hg => ⟨fun rpm => if_neg (ne_true_of_eq_false hg), if_neg (ne_true_of_eq_false hg)⟩, fun hg r => if_pos hg⟩
  · -- an emergency begins
    intro t
    have h := State.testEmergency_begins hc he
    unfold VoltsOnly at h
    have fans : ∀ f, f < 4 → Tab.get ([(0, 255), (1, 255), (2, 255), (3, 255)] : Tab Nat) f 255 = 255 := by decide
    exact ⟨by rw [h], by rw [h], by rw [h], by rw [h], fun f hf => (congrArg (fun p => Tab.get p.pwm f 255) h).trans (fans f hf)⟩
  · -- an emergency ends
    exact ⟨fun h => (execEmergencyClear_eq s).trans (if_pos h), fun h => (execEmergencyClear_eq s).trans (if_neg h)⟩

end Machine
end Sys2Proof

namespace Sys2Proof
namespace Machine

/-! The commands that move no data (R84, R383, R400, R423, R440, R463, R480, R514, R544) leave memory as it is: first the shapes that they
share, then the commands that need an argument of their own, then the split over the commands. -/

/-- The next state of an outcome, where there is one, holds the bytes of memory that state `s` holds. -/
def SparesMemory (s : State) (r : Res) : Prop := ∀ t, r = .next t → t.med.mem = s.med.mem

theorem SparesMemory.ok {s t : State} (h : t.med.mem = s.med.mem) : SparesMemory s (ok t) := fun _ e => by
  cases e
  exact h

@[simp] theorem sparesMemory_ok {s t : State} : SparesMemory s (ok t) ↔ t.med.mem = s.med.mem :=
  ⟨fun h => h t rfl, .ok⟩

theorem SparesMemory.request {s : State} (c : Client) (idx sub : Nat) (val : List (BitVec 8)) {op : Op}
    (ho : ∀ s, (op s).2.2.med.mem = s.med.mem) : SparesMemory s (Machine.ok (s.request c idx sub val op)) :=
  .ok (State.request_mem s c idx sub val op ho)

theorem SparesMemory.query {s : State} (c : Client) (idx sub : Nat) {op : Op}
    (ho : ∀ s, (op s).2.2.med.mem = s.med.mem) : SparesMemory s (Machine.ok (s.query c idx sub op)) :=
  .ok (State.query_mem s c idx sub op ho)

theorem execScrubReadDone_sparesMemory (sl : Fin 44) (dpa : BitVec 46) (err : SymErrors) (s : State) :
    SparesMemory s (execScrubReadDone sl dpa err s) := by
  unfold execScrubReadDone
  dsimp only
  (repeat' split) <;> simp

theorem execCoreTempSample_sparesMemory (rs : List (Option Int)) (s : State) : SparesMemory s (execCoreTempSample rs s) := by
  refine .ok ?_
  rw [State.testEmergency_mem, State.testTrip_mem, State.testThrottle_mem]
  exact foldl_mem _ State.coreRead_mem _ s

theorem execRebuildMapDone_sparesMemory (s : State) : SparesMemory s (execRebuildMapDone s) := by
  have hl := State.loadMap_mem s
  unfold execRebuildMapDone
  generalize s.loadMap = u at hl
  dsimp only
  split <;> simp [hl]

/-- Poison on the extents that a rebuild could not restore changes no stored byte (R413). -/
theorem execRebuildPoisoningDone_sparesMemory (n : Nat) (s : State) : SparesMemory s (execRebuildPoisoningDone n s) := by
  unfold execRebuildPoisoningDone
  dsimp only
  generalize List.filter _ (List.range s.dpaExtents) = es
  split
  · exact .ok rfl
  · have hp := State.poisonExtents_mem s extentLines es
    generalize List.foldl _ _ _ = u at hp
    simp [hp]

theorem execFaultLogRead_sparesMemory (c : Client) (pos : Option (BitVec 32)) (s : State) : SparesMemory s (execFaultLogRead c pos s) := by
  unfold execFaultLogRead
  split
  · exact .request _ _ _ _ (logPosition_mem _ _)
  · exact .query _ _ _ (State.domainBytes_mem _ _ _)

/-- Most commands of the list are one operation, or one request whose operation leaves memory; the others of a chapter are split into their
branches, each made of operations that leave it. -/
theorem exec_sparesMemory {c : Instr} (hc : c.sparesMemory = true) (s : State) : SparesMemory s (exec c s) := by
  cases c with
  | rowCountClear => exact .ok (foldl_mem _ (fun s k => State.modSlice_mem k _ s) _ s)
  | urgencyLevelRaise | wheelBucketRelease | wheelOverflowSweep | beRequestArrival =>
    simp only [exec, execUrgencyLevelRaise, execWheelBucketRelease, execWheelOverflowSweep, execBeRequestArrival]
    (repeat' split) <;> simp
  | vatReserve | takeoverDone | rotationDue | rotationWaitExpire | vatTestSliceDone =>
    simp only [exec, execVatReserve, execTakeoverDone, execRotationDue, execRotationWaitExpire, execVatTestSliceDone]
    (repeat' split) <;> simp
  | escalationGrant | parityCacheWriteback | mergeHoldExpire | scrubLapLate | caParityAlert =>
    simp only [exec, execEscalationGrant, execParityCacheWriteback, execMergeHoldExpire, execScrubLapLate, execCaParityAlert]
    (repeat' split) <;> simp
  | scrubReadDone => exact execScrubReadDone_sparesMemory _ _ _ s
  | scrubEnableWrite => exact .request _ _ _ _ (scrubEnable_mem _)
  | flipArm => exact .request _ _ _ _ (flipControl_mem _ _ _)
  | hbmTempSample | dimmTempSample | busSample | avsMeasurement | regulatorSettled | regulatorSlow | regulatorTelemetrySample
  | regulatorWarning | tachSample | powerLoopRun | thermalLoopRun | thermalStepLower | emergencyClear | emergencyHoldExpire
  | throttleNAssert | throttleNRelease =>
    simp only [exec, execHbmTempSample, execDimmTempSample, execBusSample, execAvsMeasurement, execRegulatorSettled, execRegulatorSlow,
      execRegulatorTelemetrySample, execRegulatorWarning, execTachSample, execPowerLoopRun, execThermalLoopRun, execThermalStepLower,
      execEmergencyClear, execEmergencyHoldExpire, execThrottleNAssert, execThrottleNRelease]
    (repeat' split) <;> simp
  | coreTempSample => exact execCoreTempSample_sparesMemory _ s
  | fmApiGfdDecoder | portLinkUp | identifyMemoryDevice | getPoisonList | doeDiscovery | cdatRead | ideKm | glazeKeyWithdraw
  | configurationRequest =>
    simp only [exec, execFmApiGfdDecoder, execPortLinkUp, execIdentifyMemoryDevice, execGetPoisonList, execDoeDiscovery, execCdatRead, execIdeKm,
      execGlazeKeyWithdraw, execConfigurationRequest]
    (repeat' split) <;> simp
  | copyRequest => exact .request _ _ _ _ (copyRequest_mem _)
  | gateWrite => exact .request _ _ _ _ (gateWrite_mem _ _ _)
  | shaperWrite => exact .request _ _ _ _ (shaperWrite_mem _ _)
  | markerFlit | frameLockAcquired | frameLockLost | frameLockRestored =>
    simp only [exec, execMarkerFlit, execFrameLockAcquired, execFrameLockLost, execFrameLockRestored]
    (repeat' split) <;> simp
  | ringBarrierRelease | atsInvalidationRequest | migrationBackoffExpire =>
    simp only [exec, execRingBarrierRelease, execAtsInvalidationRequest, execMigrationBackoffExpire]
    (repeat' split) <;> simp
  | rotationEnableWrite => exact .request _ _ _ _ (rotationEnable_mem _)
  | invalidate => exact .request _ _ _ _ (invalidateOp_mem _ _ _)
  | requesterRevive => exact .request _ _ _ _ (requesterRevive_mem _)
  | flr | cxlReset => exact .ok (State.clearFunc_mem _ _ _)
  | getSupportedLogs | getLog | getHealthInfo | unsupportedMailboxCommand => exact .ok (State.emit_mem _ _)
  | getVersion | getCapabilities | negotiateAlgorithms | getDigests | getCertificate | challenge | getMeasurements | keyExchange | getCsr
  | setCertificate =>
    refine .ok (State.spdm_mem _ _ _ _ fun s => ?_)
    (repeat' split) <;> simp
  | finish | heartbeat | keyUpdate | endSession =>
    exact .ok (State.spdm_mem _ _ _ _ fun s => State.inSession_mem s _ _ _ _ _ fun s => by simp)
  | ringKeyInstall | entropyRetry =>
    simp only [exec, execRingKeyInstall, execEntropyRetry]
    (repeat' split) <;> simp
  | versionAck => exact .ok (State.versionAck_mem _ _ _)
  | bootGo | firmwareCheckDone | crashRecordDone | complexBootDone | complexSynced | revertDelayExpire | switchoverDeferralExpire =>
    simp only [exec, execBootGo, execFirmwareCheckDone, execCrashRecordDone, execComplexBootDone, execComplexSynced, execRevertDelayExpire,
      execSwitchoverDeferralExpire]
    (repeat' split) <;> simp
  | idleFlit | ackCredit | retrainReq | initFlit | ackTimer | replayReqResend | retrainReqRepeat | creditRefresh
  | pmdTrainingDone | trainingFailed | trainingRetry | alignmentDone | alignmentTimeout | linkInitDone | lossOfSignal | retrainDone
  | retrainTimeout | congestionSample | badCrcFlit =>
    simp only [exec, execIdleFlit, execAckCredit, execRetrainReq, execInitFlit, execAckTimer, execReplayReqResend,
      execRetrainReqRepeat, execCreditRefresh, execPmdTrainingDone, execTrainingFailed, execTrainingRetry, execAlignmentDone,
      execAlignmentTimeout, execLinkInitDone, execLossOfSignal, execRetrainDone, execRetrainTimeout, execCongestionSample, execBadCrcFlit]
    (repeat' split) <;> simp
  | retrain | width16 | width8 | width4 | down | up => exact .request _ _ _ _ (linkCommand_mem _ _)
  | congestionMapRead | lightCountersRead => exact .query _ _ _ fun s => by simp
  | rebuildStart | rebuildAbort => exact .request _ _ _ _ (rebuildCommand_mem _)
  | rebuildMapDone => exact execRebuildMapDone_sparesMemory s
  | rebuildPoisoningDone => exact execRebuildPoisoningDone_sparesMemory _ s
  | lcTransition => exact .request _ _ _ _ (lcTransition_mem _)
  | svnCommit => exact .request _ _ _ _ (svnCommit_mem _)
  | gateOn | prstNRelease | blockResetRelease | optionsReadDone | pllLocked | pllLockTimeout | hbmTrainingDone | ddrTrainingDone
  | hbmFillDone | serviceStateLoaded =>
    simp only [exec, execGateOn, execPrstNRelease, execBlockResetRelease, execOptionsReadDone, execPllLocked, execPllLockTimeout,
      execHbmTrainingDone, execDdrTrainingDone, execHbmFillDone, execServiceStateLoaded]
    (repeat' split) <;> simp
  | segmentLatchExpire | optionWriteDone | neighborDiscovery | icmpv6Echo | entdaa | setdasa =>
    simp only [exec, execSegmentLatchExpire, execOptionWriteDone, execNeighborDiscovery, execIcmpv6Echo, execEntdaa, execSetdasa]
    (repeat' split) <;> simp
  | optionWrite => exact .request _ _ _ _ (optionWrite_mem _)
  | complexHeartbeat => exact .ok (State.modCx_mem _ _ _)
  | complexRestart | switchover => exact .request _ _ _ _ (complexCommand_mem _ _)
  | fwLoad | fwActivate | fwCancel => exact .request _ _ _ _ (fwCommand_mem _)
  | fwStage => exact .request _ _ _ _ (stageWrite_mem _)
  | clockRestored | timeBaseSync | idcode | samplePreload | privateInstruction | patternDue | patternSliceDone =>
    simp only [exec, execClockRestored, execTimeBaseSync, execIdcode, execSamplePreload, execPrivateInstruction, execPatternDue,
      execPatternSliceDone]
    (repeat' split) <;> simp
  | testVat | testController | testCrossbar => exact .request _ _ _ _ (testCommand_mem _ _)
  | bypass => exact .ok (State.tap_mem _ _)
  | dumpRequest => exact .request _ _ _ _ (dumpWrite_mem _ _ _)
  | aggregationWindowClose | aggregationOverflowEnd | digestBatchSend | faultLogMove | msixCoalesceExpire =>
    simp only [exec, execAggregationWindowClose, execAggregationOverflowEnd, execDigestBatchSend, execFaultLogMove, execMsixCoalesceExpire]
    (repeat' split) <;> simp
  | faultLogRead => exact execFaultLogRead_sparesMemory _ _ s
  | faultAck => exact .request _ _ _ _ (faultAck_mem _)
  | bootApertureWrite => exact .ok (State.imageWrite_mem _ _ _ _)
  | _ => exact Bool.noConfusion hc

/-- Settles O4, since a command of the list leaves the data of memory as they are. -/
theorem commandsThatSpareMemory : Obligations.CommandsThatSpareMemory := by
  unfold Obligations.CommandsThatSpareMemory
  intro s t c hc e a
  rw [exec_sparesMemory hc s t e]

end Machine
end Sys2Proof

namespace Sys2Proof
namespace Machine

/-! A slot boundary (R84, R108): no operation of the slices, of the counter records or of the media moves the calendar or the clocks, one
lemma for each; so what SLOT_BOUNDARY itself writes there is all that changes. -/

/-- The calendar but for what the slices hold. -/
def CalState.frameOnly (c : CalState) : CalState := { c with slices := [] }

/-- The clocks are as they were, and of the calendar only the slices differ. -/
@[simp, reducible] def SameTime (s t : State) : Prop := t.cal.frameOnly = s.cal.frameOnly ∧ t.clk = s.clk

theorem SameTime.trans {s t u : State} (h : SameTime s t) (k : SameTime t u) : SameTime s u := ⟨k.1.trans h.1, k.2.trans h.2⟩

@[simp] theorem foldl_sameTime {α : Type} (f : State → α → State) (h : ∀ s x, SameTime s (f s x)) (l : List α) (s : State) :
    SameTime s (l.foldl f s) :=
  List.foldlRecOn l f ⟨rfl, rfl⟩ fun t ht x _ => ht.trans (h t x)

@[simp] theorem State.setPar_sameTime (s : State) (i k v : Nat) : SameTime s (s.setPar i k v) := ⟨rfl, rfl⟩
@[simp] theorem State.modSlice_sameTime (s : State) (k : Nat) (f : Slice → Slice) : SameTime s (s.modSlice k f) := ⟨rfl, rfl⟩

@[simp] theorem ite_frameOnly (c : Prop) [Decidable c] (a b : State) :
    (if c then a else b).cal.frameOnly = if c then a.cal.frameOnly else b.cal.frameOnly := apply_ite (fun s : State => s.cal.frameOnly) c a b

@[simp] theorem ite_clk (c : Prop) [Decidable c] (a b : State) : (if c then a else b).clk = if c then a.clk else b.clk :=
  apply_ite State.clk c a b

theorem RingOnly.sameTime {s t : State} (h : RingOnly s t) : SameTime s t := by rw [h]; exact ⟨rfl, rfl⟩
theorem LogOnly.sameTime {s t : State} (h : LogOnly s t) : SameTime s t := by rw [h.1]; exact ⟨rfl, rfl⟩

@[simp] theorem State.report_sameTime (s : State) (k : FKind) (unit subject : Nat) (fields : List (Nat × Nat)) :
    SameTime s (s.report k unit subject fields) := (State.submit_logOnly _ _).sameTime

@[simp] theorem State.peak_sameTime (s : State) (i k v : Nat) : SameTime s (s.peak i k v) := by
  unfold State.peak
  split <;> simp

@[simp] theorem State.inject_sameTime (s : State) (h : PktHdr) (d : List (BitVec 8)) : SameTime s ((s.inject h d).getD s) :=
  (State.inject_ringOnly s h d).sameTime

/-! ### Stored data -/

@[simp] theorem State.clearErrors_sameTime (s : State) (line : Nat) : SameTime s (s.clearErrors line) := ⟨rfl, rfl⟩

@[simp] theorem State.applyFlip_sameTime (s : State) (w : Nat) : SameTime s (s.applyFlip w) := by
  unfold State.applyFlip
  dsimp only
  split <;> simp

@[simp] theorem State.enqueueBe_sameTime (s : State) (cls port : Nat) (write : Bool) (bytes dpa : Nat) (work : BeWork) :
    SameTime s (s.enqueueBe cls port write bytes dpa work) := ⟨rfl, rfl⟩

@[simp] theorem State.writeParity_sameTime (s : State) (line : Nat) (d : BitVec 512) : SameTime s (s.writeParity line d) := by
  simp [State.writeParity]

@[simp] theorem State.parityLost_sameTime (s : State) (line way : Nat) : SameTime s (s.parityLost line way) := by
  simp [State.parityLost]

@[simp] theorem State.evictParity_sameTime (s : State) (line : Nat) : SameTime s (s.evictParity line) := by
  simp only [State.evictParity]
  (repeat' split) <;> simp

@[simp] theorem State.fetchParity_sameTime (s : State) (line : Nat) : SameTime s (s.fetchParity line).2 := by
  simp only [State.fetchParity]
  (repeat' split) <;> simp

@[simp] theorem State.addParity_sameTime (s : State) (dpa : Nat) (delta : List (BitVec 8)) : SameTime s (s.addParity dpa delta) := by
  simp [State.addParity]

@[simp] theorem State.updateParity_sameTime (s : State) (dpa : Nat) (delta : List (BitVec 8)) (read : Bool) :
    SameTime s (s.updateParity dpa delta read) := by
  simp [State.updateParity]

@[simp] theorem State.freshParity_sameTime (s : State) (pg : Nat) : SameTime s (s.freshParity pg) := by
  simp [State.freshParity]

@[simp] theorem State.dropScrubs_sameTime (s : State) (line : Nat) : SameTime s (s.dropScrubs line) := by
  simp [State.dropScrubs]

@[simp] theorem State.tagLine_sameTime (s : State) (line k : Nat) : SameTime s (s.tagLine line k) := ⟨rfl, rfl⟩

@[simp] theorem State.dropMerge_sameTime (s : State) (line : Nat) : SameTime s (s.dropMerge line) := ⟨rfl, rfl⟩

@[simp] theorem State.markDirty_sameTime (s : State) (dpa : Nat) : SameTime s (s.markDirty dpa) := ⟨rfl, rfl⟩

@[simp] theorem State.takeFree_sameTime (w : Nat) (s : State) : SameTime s (s.takeFree w).2 := ⟨rfl, rfl⟩

@[simp] theorem State.holdWrite_sameTime (s : State) (line : Nat) (d : List (BitVec 8)) (mask : BitVec 64) (req : Nat) :
    SameTime s (s.holdWrite line d mask req) := ⟨rfl, rfl⟩

@[simp] theorem State.storeStored_sameTime (s : State) (line : Nat) (d : List (BitVec 8)) : SameTime s (s.storeStored line d) := by
  simp [State.storeStored]

@[simp] theorem State.takeBytes_sameTime (n : Nat) (s : State) : SameTime s (s.takeBytes n).2 := by
  induction n generalizing s with
  | zero => exact ⟨rfl, rfl⟩
  | succ n ih => exact SameTime.trans ⟨rfl, rfl⟩ (ih (s.takeFree 8).2)

@[simp] theorem State.applyDelta_sameTime (s : State) (dpa : Nat) (delta : List (BitVec 8)) (poison : Bool) :
    SameTime s (s.applyDelta dpa delta poison) := by
  simp [State.applyDelta]

@[simp] theorem State.sendDeltas_sameTime (s : State) (dpa : Nat) (delta : List (BitVec 8)) (poison : Bool) :
    SameTime s (s.sendDeltas dpa delta poison) := by
  simp [State.sendDeltas]

@[simp] theorem State.armGlaze_sameTime (s : State) (line : Nat) : SameTime s (s.armGlaze line) := by
  simp [State.armGlaze]

@[simp] theorem State.storeRaw_sameTime (s : State) (line : Nat) (d : List (BitVec 8)) (read : Bool) :
    SameTime s (s.storeRaw line d read) := by
  simp [State.storeRaw]

@[simp] theorem State.storeLine_sameTime (s : State) (line : Nat) (d : List (BitVec 8)) (read : Bool) :
    SameTime s (s.storeLine line d read) := by
  simp [State.storeLine]

theorem State.writeRecord_sameTime (s : State) (p : Nat × BitVec 1024) : SameTime s (s.writeRecord p.1 p.2) :=
  (State.storeLine_sameTime _ _ _ _).trans (State.storeLine_sameTime _ _ _ _)

/-- R534: the counter records that wait are written. -/
theorem State.drainRecords_sameTime (s : State) : SameTime s s.drainRecords := by
  unfold State.drainRecords
  exact SameTime.trans (t := { s with tst := { s.tst with records := [] } }) ⟨rfl, rfl⟩
    (foldl_sameTime _ State.writeRecord_sameTime _ _)

/-! ### What a slice does with a slot -/

@[simp] theorem State.putOnWheel_sameTime (s : State) (k id release : Nat) (l : List Nat) :
    SameTime s (s.putOnWheel k id release l) := ⟨rfl, rfl⟩

@[simp] theorem State.settleHead_sameTime (s : State) (k : Nat) (r : BeReq) : SameTime s (s.settleHead k r) := by
  simp only [State.settleHead]
  (repeat' split) <;> simp

@[simp] theorem State.settleHeads_sameTime (s : State) (k : Nat) : SameTime s (s.settleHeads k) := by
  simp [State.settleHeads]

@[simp] theorem State.retain_sameTime (s : State) (k ch : Nat) (c : DramCmd) : SameTime s (s.retain k ch c) := ⟨rfl, rfl⟩

@[simp] theorem State.activateRow_sameTime (s : State) (k bank row req : Nat) (ctx : Option Nat) :
    SameTime s (s.activateRow k bank row req ctx) := by
  simp only [State.activateRow]
  (repeat' split) <;> simp

@[simp] theorem State.command_sameTime (s : State) (k bank row dpa req : Nat) (write : Bool) (ctx : Option Nat) :
    SameTime s (s.command k bank row dpa req write ctx) := by
  simp only [State.command]
  (repeat' split) <;> simp

@[simp] theorem State.manageBanks_sameTime (s : State) (k : Nat) : SameTime s (s.manageBanks k) := by
  simp [State.manageBanks]

@[simp] theorem State.refreshGate_sameTime (s : State) (k : Nat) : SameTime s (s.refreshGate k) := by
  simp [State.refreshGate]

@[simp] theorem State.calibrateGate_sameTime (s : State) (k : Nat) : SameTime s (s.calibrateGate k) := by
  simp [State.calibrateGate]

@[simp] theorem State.doWork_sameTime (s : State) (w : BeWork) : SameTime s (s.doWork w) := by
  simp only [State.doWork]
  (repeat' split) <;> simp

@[simp] theorem State.washWrite_sameTime (s : State) (r : BeReq) : SameTime s (s.washWrite r) := by
  simp only [State.washWrite]
  (repeat' split) <;> simp

@[simp] theorem State.issueBe_sameTime (s : State) (k : Nat) (r : BeReq) : SameTime s (s.issueBe k r) := by
  simp [State.issueBe]

@[simp] theorem State.issueFit_sameTime (n k room : Nat) (lentPlan : Bool) (s : State) :
    SameTime s (State.issueFit n k room lentPlan s) := by
  induction n generalizing room s with
  | zero => exact ⟨rfl, rfl⟩
  | succ n ih =>
    unfold State.issueFit
    split
    · exact (State.issueBe_sameTime s k _).trans (ih _ _)
    · exact ⟨rfl, rfl⟩

@[simp] theorem State.giveEsc_sameTime (s : State) (k : Nat) (e : EscSlots) : SameTime s (s.giveEsc k e) := ⟨rfl, rfl⟩

@[simp] theorem State.freeSlot_sameTime (s : State) (k slot : Nat) : SameTime s (s.freeSlot k slot) := by
  simp only [State.freeSlot]
  (repeat' split) <;> simp

@[simp] theorem State.lentSlot_sameTime (s : State) (k : Nat) (plan idleRefresh : Bool) : SameTime s (s.lentSlot k plan idleRefresh) := by
  simp only [State.lentSlot]
  (repeat' split) <;> simp

@[simp] theorem State.issuePlan_sameTime (s : State) (k : Nat) (g : Gate) (rs : List PlanReq) : SameTime s (s.issuePlan k g rs) := by
  simp [State.issuePlan]

@[simp] theorem State.gateUsed_sameTime (s : State) (k e : Nat) : SameTime s (s.gateUsed k e) := ⟨rfl, rfl⟩

@[simp] theorem State.countTaken_sameTime (s : State) (e : Nat) : SameTime s (s.countTaken e) := ⟨rfl, rfl⟩

@[simp] theorem State.markEvent_sameTime (s : State) (k e : Nat) : SameTime s (s.markEvent k e) := ⟨rfl, rfl⟩

@[simp] theorem State.planSlot_sameTime (s : State) (k e : Nat) (g : Gate) (off : Nat) : SameTime s (s.planSlot k e g off) := by
  simp only [State.planSlot]
  (repeat' split) <;> simp

@[simp] theorem State.slotOf_sameTime (s : State) (k slot : Nat) : SameTime s (s.slotOf k slot) := by
  simp only [State.slotOf]
  (repeat' split) <;> simp

@[simp] theorem State.refill_sameTime (s : State) (k : Nat) : SameTime s (s.refill k) := by
  simp [State.refill]

@[simp] theorem State.upset_sameTime (s : State) (u : Upset) : SameTime s (s.upset u) := by
  simp only [State.upset]
  (repeat' split) <;> simp

/-! ### The boundary -/

/-- Every trained slice that is not fatal gives the slot to its user (R84, R94). -/
def State.slotSlice (slot : Nat) (s : State) (k : Nat) : State :=
  if (s.sliceAt k).trained && !(s.sliceAt k).fatal then (s.refill k).slotOf k slot else s

/-- What the slices, the waiting counter records and the upsets make of the state in a slot. -/
def State.slotWork (s : State) (ups : List Upset) : State :=
  (List.range 44).foldl (State.slotSlice s.cal.slot.toNat) (ups.foldl State.upset s).drainRecords

theorem State.slotSlice_sameTime (slot : Nat) (s : State) (k : Nat) : SameTime s (s.slotSlice slot k) := by
  simp only [State.slotSlice]
  split <;> simp

theorem State.slotWork_sameTime (s : State) (ups : List Upset) : SameTime s (s.slotWork ups) :=
  ((foldl_sameTime _ State.upset_sameTime ups s).trans (State.drainRecords_sameTime _)).trans
    (foldl_sameTime _ (State.slotSlice_sameTime _) _ _)

@[simp] theorem State.runCycles_holdTo (s : State) (ns : Nat) : (s.runCycles ns).clk.holdTo = s.clk.holdTo := by
  simp only [State.runCycles]

/-- Settles O7: the slices move neither the calendar nor the clocks in their slot; the end of the slot does. -/
theorem slotBoundaryMovesTheCalendar : Obligations.SlotBoundaryMovesTheCalendar := by
  unfold Obligations.SlotBoundaryMovesTheCalendar
  intro s ups
  show ∃ t, execSlotBoundary ups s = .next t ∧ _
  unfold execSlotBoundary
  extract_lets slot s1 ns now s2 old clk
  obtain ⟨hcal, hclk⟩ : SameTime s s1 := s.slotWork_sameTime ups
  clear_value s1
  obtain ⟨hslot, hframe, hticks, hcorr, -⟩ := CalState.mk.inj hcal
  refine ⟨_, rfl, congrArg (· + 1) hslot, congrArg (· + 1) hticks, ?_, ?_, fun hnone => ?_⟩
  · show (if _ then s1.cal.frame + 1 else s1.cal.frame) = _
    rw [hframe]
  · show (if _ then _ else s1.cal.corr) = _
    rw [hcorr]
  · have hhold : s2.clk.holdTo = none := by rw [State.runCycles_holdTo, hclk, hnone]
    show clk.now = _
    dsimp only [clk]
    rw [hhold, ← hclk]

end Machine
end Sys2Proof

namespace Sys2Proof
namespace Machine

/-! The changes that wait for a frame boundary (R85), and what each of them changes. -/

/-- Settles O8: the order is that of the command's definition, and what a change leaves as it was it does not write. -/
theorem frameBoundaryOrder : Obligations.FrameBoundaryOrder := by
  unfold Obligations.FrameBoundaryOrder
  exact ⟨fun s => rfl, fun s => ⟨rfl, rfl⟩, fun s => rfl, fun s => ⟨rfl, rfl⟩, fun s => rfl⟩

end Machine
end Sys2Proof

namespace Sys2Proof
namespace Machine

/-! Gate and shaper writes, and the alignment of frames (R87, R88, R102, R106-R111, R385, R404): first the bits of a number whose field is
replaced, then the two writes, then markers and the lock. -/

/-! ### Fields of a number -/

theorem bitAt_eq (n k : Nat) : bitAt n k = decide (bitsAt n k k = 1) := by
  simp [bitAt, bitsAt]

/-- A field is read from the bits up to its highest. -/
theorem bitsAt_eq_mod_div {hi lo : Nat} (h : lo ≤ hi) (n : Nat) : bitsAt n hi lo = n % 2 ^ (hi + 1) / 2 ^ lo := by
  have hp : 2 ^ (hi + 1) = 2 ^ lo * 2 ^ (hi + 1 - lo) := by rw [← pow_add]; congr 1; omega
  rw [hp, Nat.mod_mul_right_div_self, ← Nat.shiftRight_eq_div_pow]
  rfl

theorem bitsAt_congr_low {m n k hi lo : Nat} (h : m % 2 ^ k = n % 2 ^ k) (hk : hi < k) (hl : lo ≤ hi) : bitsAt m hi lo = bitsAt n hi lo := by
  have hd : 2 ^ (hi + 1) ∣ 2 ^ k := pow_dvd_pow 2 hk
  rw [bitsAt_eq_mod_div hl, bitsAt_eq_mod_div hl, ← Nat.mod_mod_of_dvd m hd, ← Nat.mod_mod_of_dvd n hd, h]

theorem bitsAt_congr_high {m n k hi lo : Nat} (h : m >>> k = n >>> k) (hk : k ≤ lo) : bitsAt m hi lo = bitsAt n hi lo := by
  obtain ⟨j, rfl⟩ := Nat.exists_eq_add_of_le hk
  unfold bitsAt
  rw [Nat.shiftRight_add, h, Nat.shiftRight_add]

theorem bitsAt_setBits_below {n hi lo v hi' lo' : Nat} (h : lo ≤ hi) (hb : hi' < lo) (hl : lo' ≤ hi') :
    bitsAt (setBits n hi lo v) hi' lo' = bitsAt n hi' lo' := by
  refine bitsAt_congr_low (k := lo) ?_ hb hl
  have hd : 2 ^ lo ∣ 2 ^ (hi + 1) := pow_dvd_pow 2 (by omega)
  have hx : 2 ^ lo ∣ (n >>> (hi + 1)) <<< (hi + 1) + (v % 2 ^ (hi + 1 - lo)) <<< lo := by
    rw [Nat.shiftLeft_eq, Nat.shiftLeft_eq]
    exact dvd_add (hd.mul_left _) (Nat.dvd_mul_left _ _)
  unfold setBits
  rw [Nat.add_mod, Nat.mod_eq_zero_of_dvd hx, Nat.zero_add, Nat.mod_mod, Nat.mod_mod]

theorem bitsAt_setBits_above {n hi lo v hi' lo' : Nat} (h : lo ≤ hi) (ha : hi < lo') :
    bitsAt (setBits n hi lo v) hi' lo' = bitsAt n hi' lo' := by
  refine bitsAt_congr_high (k := hi + 1) ?_ ha
  have hp : 2 ^ (hi + 1) = 2 ^ (hi + 1 - lo) * 2 ^ lo := by rw [← pow_add]; congr 1; omega
  have hv : v % 2 ^ (hi + 1 - lo) + 1 ≤ 2 ^ (hi + 1 - lo) := Nat.mod_lt _ (Nat.two_pow_pos _)
  have hn : n % 2 ^ lo < 2 ^ lo := Nat.mod_lt _ (Nat.two_pow_pos _)
  have hlow : (v % 2 ^ (hi + 1 - lo)) * 2 ^ lo + n % 2 ^ lo < 2 ^ (hi + 1) := by
    have := Nat.mul_le_mul_right (2 ^ lo) hv
    rw [← hp, Nat.succ_mul] at this
    omega
  unfold setBits
  rw [Nat.shiftLeft_eq, Nat.shiftLeft_eq, Nat.add_assoc, Nat.shiftRight_eq_div_pow, Nat.add_comm,
    Nat.add_mul_div_right _ _ (Nat.two_pow_pos _), Nat.div_eq_of_lt hlow, Nat.zero_add]

/-- R102: the entry of a shaper keeps the fields written but for ZERO and the reserved bits. -/
theorem shaperOf_stored (v : Nat) :
    shaperOf (setBits (setBits (v % 2 ^ 52) 11 10 0) 1 1 0) = { shaperOf v with zero := false } := by
  have hlow (hi lo : Nat) (h : hi < 52) (hl : lo ≤ hi) : bitsAt (v % 2 ^ 52) hi lo = bitsAt v hi lo :=
    bitsAt_congr_low (Nat.mod_mod _ _) h hl
  have hmid (hi lo : Nat) (h2 : 2 ≤ lo) (hl : lo ≤ hi) (h10 : hi < 10) :
      bitsAt (setBits (setBits (v % 2 ^ 52) 11 10 0) 1 1 0) hi lo = bitsAt v hi lo := by
    rw [bitsAt_setBits_above (by decide) h2, bitsAt_setBits_below (by decide) h10 hl, hlow _ _ (by omega) hl]
  have hhigh (hi lo : Nat) (h12 : 12 ≤ lo) (hl : lo ≤ hi) (h52 : hi < 52) :
      bitsAt (setBits (setBits (v % 2 ^ 52) 11 10 0) 1 1 0) hi lo = bitsAt v hi lo := by
    rw [bitsAt_setBits_above (by decide) (by omega), bitsAt_setBits_above (by decide) h12, hlow _ _ h52 hl]
  have h0 : bitsAt (setBits (setBits (v % 2 ^ 52) 11 10 0) 1 1 0) 0 0 = bitsAt v 0 0 := by
    rw [bitsAt_setBits_below (by decide) (by decide) (by decide), bitsAt_setBits_below (by decide) (by decide) (by decide),
      hlow _ _ (by decide) (by decide)]
  have h1 (n : Nat) : bitAt (setBits n 1 1 0) 1 = false := by
    simp only [bitAt, setBits, Nat.shiftRight_eq_div_pow, Nat.shiftLeft_eq, decide_eq_false_iff_not]
    omega
  simp only [shaperOf, Shaper.mk.injEq]
  refine ⟨by rw [bitAt_eq, h0, ← bitAt_eq], h1 _, hmid 3 2 ?_ ?_ ?_, hmid 7 4 ?_ ?_ ?_, hmid 9 8 ?_ ?_ ?_, hhigh 31 12 ?_ ?_ ?_,
    hhigh 51 32 ?_ ?_ ?_⟩ <;> decide

/-! ### Writes of gates and shapers -/

theorem gateWrite_fixed {k e : Nat} (h : e < 3) (v : BitVec 64) (s : State) : gateWrite k e v s = refuse stMode s := if_pos h

theorem gateWrite_free {k e : Nat} (h : 3 ≤ e) (v : BitVec 64) (s : State) : gateWrite k e v s =
    if s.gateAccepted k e v = false then refuse stRange s
    else done (s.modSlice k (fun x => { x with gates := Tab.set x.gates e v })) := by
  unfold gateWrite
  rw [if_neg (Nat.not_lt.mpr h)]
  simp only [Bool.not_eq_true']

theorem execGateWrite_served {s : State} {c : Client} {sl : Fin 44} {e : Fin 16}
    (h : s.serves c (if sl.val < 32 then 0x3440 + sl.val else 0x3460 + (sl.val - 32)) (e.val + 1) = true) (v : BitVec 64) :
    execGateWrite c sl e v s = ok ((gateWrite sl.val e.val v (s.modClient c id)).2.2.answer c (gateWrite sl.val e.val v (s.modClient c id)).1
      (gateWrite sl.val e.val v (s.modClient c id)).2.1) :=
  congrArg ok (State.request_served h _ _)

theorem execShaperWrite_served {s : State} {c : Client} {n : Fin 16} (h : s.serves c 0x3430 (n.val + 1) = true) (v : BitVec 64) :
    execShaperWrite c n v s = ok (if shaperForm v.toNat = true then ((s.modClient c id).shaperApply n.val v.toNat).answer c stOk 0
      else (s.modClient c id).answer c stRange 0) := by
  refine congrArg ok ((State.request_served h _ _).trans ?_)
  unfold shaperWrite
  split <;> rfl

theorem State.answer_cal (s : State) (c : Client) (st value : Nat) : (s.answer c st value).cal = s.cal := by
  unfold State.answer State.countResponse
  dsimp only
  split
  · rfl
  · split <;> rfl

/-- An answer counts in object 0x1000 alone. -/
theorem State.answer_find (s : State) (c : Client) (st value : Nat) {idx sub : Nat} (hi : 0x1001 ≤ idx) :
    Tab.find? (s.answer c st value).od (odKey idx sub) = Tab.find? s.od (odKey idx sub) := by
  have hb (u : State) (j n : Nat) (hj : j < 256) : Tab.find? (u.bump 64 0x1000 j n).od (odKey idx sub) = Tab.find? u.od (odKey idx sub) :=
    State.find_setPar_other u _ (by unfold odKey; omega)
  show Tab.find? (s.countResponse st).od _ = _
  unfold State.countResponse
  dsimp only
  split
  · exact hb _ _ _ (by decide)
  · split <;> rw [hb _ _ _ (by decide), hb _ _ _ (by decide)]

/-- R102, R106: what a valid shaper descriptor makes of the state. -/
theorem State.shaperApply_spec (s : State) (n v : Nat) :
    let t := s.shaperApply n v
    (∀ k, k < 44 → t.sliceAt k = { s.sliceAt k with
      tokens := Tab.set (s.sliceAt k).tokens n (if (shaperOf v).zero then 0 else (shaperOf v).burst * 64 * 256),
      beq := (s.sliceAt k).beq.map (fun r => if r.hold.shapers.contains n then { r with hold := .free } else r) }) ∧
    Tab.find? t.od (odKey 0x3430 (n + 1)) = some (setBits (setBits (v % 2 ^ 52) 11 10 0) 1 1 0) := by
  unfold State.shaperApply
  extract_lets h s1 t
  obtain ⟨hk, -, hrest⟩ := State.foldl_modSlice (fun x => { x with
      tokens := Tab.set x.tokens n (if h.zero then 0 else h.burst * 64 * 256),
      beq := x.beq.map (fun r => if r.hold.shapers.contains n then { r with hold := .free } else r) }) 44 s1
  exact ⟨hk, (congrArg (fun u : State => Tab.find? u.od (odKey 0x3430 (n + 1))) hrest).trans (Tab.find_set_same _ _ _)⟩

theorem shaperWrite_valid {s : State} {c : Client} {n : Fin 16} {v : BitVec 64} (h : s.serves c 0x3430 (n.val + 1) = true)
    (hf : shaperForm v.toNat = true) :
    ∃ t, exec (.shaperWrite c n v) s = .next t ∧ SameBytes s t ∧ t.shaper n.val = { shaperOf v.toNat with zero := false } ∧
      ∀ k, k < 44 → Tab.get (t.sliceAt k).tokens n.val 0 = (if (shaperOf v.toNat).zero then 0 else (shaperOf v.toNat).burst * 64 * 256) ∧
        ((t.sliceAt k).beq = (s.sliceAt k).beq.map (fun r => if r.hold.shapers.contains n.val then { r with hold := .free } else r)) := by
  obtain ⟨hk, hod⟩ := (s.modClient c id).shaperApply_spec n.val v.toNat
  have hslice (k : Nat) : (((s.modClient c id).shaperApply n.val v.toNat).answer c stOk 0).sliceAt k =
      ((s.modClient c id).shaperApply n.val v.toNat).sliceAt k := by
    unfold State.sliceAt
    rw [State.answer_cal]
  refine ⟨_, (execShaperWrite_served h v).trans (congrArg ok (if_pos hf)), fun a => ?_, ?_, fun k hk44 => ?_⟩
  · simp
  · unfold State.shaper
    rw [State.par_of_find ((State.answer_find _ _ _ _ (by decide)).trans hod), shaperOf_stored]
  · rw [hslice, hk k hk44]
    exact ⟨Tab.get_set_same _ _ _ _, rfl⟩

/-! ### Markers -/

/-- R107, R108: the offset, in ps, that a frame marker gives at its port. -/
def State.markerOffset (s : State) (p : Nat) (m : Marker) : Int := m.arrival - m.skewPs.toNat - s.par (0x5410 + p) 3

theorem execMarkerFlit_frame {s : State} {p : Fin 4} {m : Marker} (he : m.echo = false) (hp : m.probe = 0) :
    execMarkerFlit p m s =
      ok (if s.refPort = some p.val then s.frameMarker p.val m else s.modLink p.val (fun l => { l with master := m.master })) := by
  unfold execMarkerFlit
  rw [if_neg (by simp [he]), if_neg (not_not_intro hp)]
  split <;> rfl

/-- Before POOL_READY: the frame number is taken, and the slot stepped where the offset is beyond ±8 ns. -/
theorem State.frameMarker_joining {s : State} (h : s.pool.ready = false) (p : Nat) (m : Marker) :
    (s.frameMarker p m).par 0x3400 2 = twos 32 (s.markerOffset p m) ∧
    (s.frameMarker p m).cal = if -8000 ≤ s.markerOffset p m ∧ s.markerOffset p m ≤ 8000
      then { s.cal with goodRun := s.cal.goodRun + 1, badRun := 0, frame := m.frame }
      else { s.cal with
        goodRun := 0, badRun := 0, frame := m.frame, slot := BitVec.ofNat 11 ((m.skewPs.toNat + s.par (0x5410 + p) 3) / 4000) } := by
  unfold State.frameMarker
  extract_lets +onlyGivenNames delay off s1 within
  rw [if_pos (by simp [h])]
  extract_lets +onlyGivenNames s2
  have h2 : s2.cal = s.cal ∧ Tab.find? s2.od (odKey 0x3400 2) = some (twos 32 off) := by
    dsimp only [s2]
    split
    · exact ⟨rfl, Tab.find_set_same _ _ _⟩
    · exact ⟨rfl, (State.find_setPar_other s1 1 (odKey_ne (by decide))).trans (Tab.find_set_same _ _ _)⟩
  clear_value s2
  obtain ⟨hcal, hod⟩ := h2
  have hw : within 8000 = true ↔ -8000 ≤ s.markerOffset p m ∧ s.markerOffset p m ≤ 8000 := by
    simp [within, off, delay, State.markerOffset]
  rw [← hcal]
  by_cases hin : within 8000 = true
  · rw [if_pos hin, if_pos (hw.mp hin)]
    exact ⟨State.par_of_find hod, rfl⟩
  · rw [if_neg hin, if_neg fun hc => hin (hw.mpr hc)]
    exact ⟨State.par_of_find hod, rfl⟩

/-- From POOL_READY on: slot 2047 is corrected towards the reference, and the run of frames within or beyond ±40 ns goes on. -/
theorem State.frameMarker_ready {s : State} (h : s.pool.ready = true) (p : Nat) (m : Marker) :
    (s.frameMarker p m).par 0x3400 2 = twos 32 (s.markerOffset p m) ∧
    (s.frameMarker p m).cal = { s.cal with
      corr := if 0 < s.markerOffset p m then 1 else if s.markerOffset p m < 0 then -1 else 0
      goodRun := if -40000 ≤ s.markerOffset p m ∧ s.markerOffset p m ≤ 40000 then s.cal.goodRun + 1 else 0
      badRun := if -40000 ≤ s.markerOffset p m ∧ s.markerOffset p m ≤ 40000 then 0 else s.cal.badRun + 1 } := by
  unfold State.frameMarker
  extract_lets +onlyGivenNames delay off s1 within
  rw [if_neg (by simp [h])]
  extract_lets +onlyGivenNames c s2 good
  have h2 : s2.cal = s.cal ∧ Tab.find? s2.od (odKey 0x3400 2) = some (twos 32 off) := by
    dsimp only [s2]
    split
    · exact ⟨rfl, Tab.find_set_same _ _ _⟩
    · exact ⟨rfl, (State.find_setPar_other s1 _ (odKey_ne (by decide))).trans (Tab.find_set_same _ _ _)⟩
  clear_value s2
  obtain ⟨hcal, hod⟩ := h2
  have hw : good = true ↔ -40000 ≤ s.markerOffset p m ∧ s.markerOffset p m ≤ 40000 := by
    simp [good, within, off, delay, State.markerOffset]
  refine ⟨State.par_of_find hod, ?_⟩
  rw [← hcal]
  simp only [hw]
  rfl

/-- What a frame marker of the reference neighbour gives (R107-R109, R111). -/
theorem State.frameMarker_spec (s : State) (p : Nat) (m : Marker) :
    let off := s.markerOffset p m
    let t := s.frameMarker p m
    t.par 0x3400 2 = twos 32 off ∧
    (s.pool.ready = false → -8000 ≤ off → off ≤ 8000 →
      t.cal = { s.cal with goodRun := s.cal.goodRun + 1, badRun := 0, frame := m.frame }) ∧
    (s.pool.ready = false → off < -8000 ∨ 8000 < off → t.cal = { s.cal with
      goodRun := 0, badRun := 0, frame := m.frame, slot := BitVec.ofNat 11 ((m.skewPs.toNat + s.par (0x5410 + p) 3) / 4000) }) ∧
    (s.pool.ready = true → t.cal.frame = s.cal.frame ∧ t.cal.slot = s.cal.slot ∧
      t.cal.corr = (if 0 < off then 1 else if off < 0 then -1 else 0) ∧
      (-40000 ≤ off → off ≤ 40000 → t.cal.goodRun = s.cal.goodRun + 1 ∧ t.cal.badRun = 0) ∧
      (off < -40000 ∨ 40000 < off → t.cal.goodRun = 0 ∧ t.cal.badRun = s.cal.badRun + 1)) := by
  intro off t
  have hpar : t.par 0x3400 2 = twos 32 off := by
    cases h : s.pool.ready with
    | false => exact (State.frameMarker_joining h p m).1
    | true => exact (State.frameMarker_ready h p m).1
  refine ⟨hpar, fun h h1 h2 => ?_, fun h ho => ?_, fun h => ?_⟩
  · exact (State.frameMarker_joining h p m).2.trans (if_pos ⟨h1, h2⟩)
  · exact (State.frameMarker_joining h p m).2.trans (if_neg (by omega))
  · have hcal : t.cal = _ := (State.frameMarker_ready h p m).2
    rw [hcal]
    exact ⟨rfl, rfl, rfl, fun h1 h2 => ⟨if_pos ⟨h1, h2⟩, if_pos ⟨h1, h2⟩⟩, fun ho => ⟨if_neg (by omega), if_neg (by omega)⟩⟩

/-! ### The lock -/

theorem execFrameLockAcquired_eq (s : State) : execFrameLockAcquired s =
    if 16 ≤ s.cal.goodRun ∧ s.pool.locked = false
    then ok ({ s.setPar 0x3400 3 2 with pool := { s.pool with locked := true } } : State).updateReady else ok s := by
  unfold execFrameLockAcquired
  exact if_congr (by simp) rfl rfl

theorem execFrameLockLost_eq (s : State) : execFrameLockLost s =
    if 16 ≤ s.cal.badRun ∧ s.frameLock ≠ 3 ∧ s.refPort ≠ none
    then ok ((s.setPar 0x3400 3 3).report kFrameLockLost (s.refPort.getD 0) 0 [(32, s.par 0x3400 2), (32, s.refPort.getD 0)]) else ok s := by
  unfold execFrameLockLost
  exact if_congr (by simp [and_assoc, Option.isSome_iff_ne_none]) rfl rfl

theorem execFrameLockRestored_eq (s : State) : execFrameLockRestored s =
    if 16 ≤ s.cal.goodRun ∧ s.frameLock = 3 then ok (s.setPar 0x3400 3 2) else ok s := by
  unfold execFrameLockRestored
  exact if_congr (by simp) rfl rfl

/-- Settles O53: each command by its branches; a stored shaper and a marker's offset by their lemmas. -/
theorem gatesShapersAndAlignment : Obligations.GatesShapersAndAlignment := by
  unfold Obligations.GatesShapersAndAlignment
  refine ⟨fun s c sl e v h => ?_, fun s c n v h => ?_, fun s p m he => ?_, fun s p m he => ?_, fun s => ?_, fun s => ?_, fun s => ?_⟩
  · -- GATE_WRITE
    intro s0
    have hx : exec (.gateWrite c sl e v) s = _ := execGateWrite_served h v
    refine ⟨fun h3 ha => ?_, fun h3 ha => ?_, fun h3 => ?_⟩
    · rw [hx, gateWrite_free h3, if_neg (ne_false_of_eq_true ha)]
      rfl
    · rw [hx, gateWrite_free h3, if_pos ha]
      rfl
    · rw [hx, gateWrite_fixed h3]
      rfl
  · -- SHAPER_WRITE
    exact ⟨fun hf => shaperWrite_valid h hf, fun hf => (execShaperWrite_served h v).trans (congrArg ok (if_neg (ne_true_of_eq_false hf)))⟩
  · -- an echo
    intro mine
    have hx : exec (.markerFlit p m) s = _ := if_pos he
    refine ⟨fun q hq => ?_, fun hn => ?_⟩
    · rw [hx, show s.cal.probes.find? _ = some q from hq]
      rfl
    · rw [hx, show s.cal.probes.find? _ = none from hn]
      rfl
  · -- a probe, and a frame marker
    intro off
    refine ⟨fun hp => (if_neg (ne_true_of_eq_false he)).trans (if_pos hp), fun hp hr => ?_, fun hp hr => ?_⟩
    · exact (execMarkerFlit_frame he hp).trans (congrArg ok (if_neg hr))
    · exact ⟨_, (execMarkerFlit_frame he hp).trans (congrArg ok (if_pos hr)), fun a => by rw [State.frameMarker_mem],
        s.frameMarker_spec p.val m⟩
  · -- the lock is acquired
    exact ⟨fun h1 h2 => (execFrameLockAcquired_eq s).trans (if_pos ⟨h1, h2⟩), fun h =>
      (execFrameLockAcquired_eq s).trans (if_neg fun hc => by simp [hc.2] at h; omega)⟩
  · -- the lock is lost
    refine ⟨fun p h1 h2 h3 => ?_, fun h => (execFrameLockLost_eq s).trans (if_neg fun ⟨hbad, hlock, hport⟩ => ?_)⟩
    · refine ((execFrameLockLost_eq s).trans (if_pos ⟨h1, h2, by simp [h3]⟩)).trans ?_
      rw [h3]
      rfl
    · rcases h with h | h | h
      · omega
      · exact hlock h
      · exact hport h
  · -- the lock is restored
    exact ⟨fun h1 h2 => (execFrameLockRestored_eq s).trans (if_pos ⟨h1, h2⟩), fun h =>
      (execFrameLockRestored_eq s).trans (if_neg fun ⟨hgood, hlock⟩ => by omega)⟩

end Machine
end Sys2Proof

namespace Sys2Proof
namespace Machine

/-! The merge buffer (R77, R135-R137): what a store of a line leaves of the buffer's entries, what a read of a sound line makes of the
line's entry, and what the read of a release does with it. -/

/-! ### Operations on the way of a store keep the entries -/

@[simp] theorem State.report_merge (s : State) (k : FKind) (unit subject : Nat) (fields : List (Nat × Nat)) :
    (s.report k unit subject fields).med.merge = s.med.merge := by
  rw [show (s.report k unit subject fields).med = s.med from (State.submit_logOnly s _).med]

@[simp] theorem State.applyFlip_merge (s : State) (w : Nat) : (s.applyFlip w).med.merge = s.med.merge := by
  unfold State.applyFlip
  dsimp only
  split <;> rfl

@[simp] theorem foldl_applyFlip_merge (l : List Nat) (s : State) : (l.foldl State.applyFlip s).med.merge = s.med.merge :=
  foldl_keeps (fun u : State => u.med.merge) State.applyFlip_merge l s

@[simp] theorem State.writeParity_merge (s : State) (line : Nat) (d : BitVec 512) : (s.writeParity line d).med.merge = s.med.merge := by
  unfold State.writeParity
  dsimp only
  split
  · rfl
  · rw [foldl_applyFlip_merge]
    rfl

@[simp] theorem State.parityLost_merge (s : State) (line way : Nat) : (s.parityLost line way).med.merge = s.med.merge := by
  unfold State.parityLost
  dsimp only
  refine (foldl_keeps (fun u : State => u.med.merge) (fun u p => ?_) _ _).trans ((State.report_merge _ _ _ _ _).trans ?_) <;> rfl

@[simp] theorem State.evictParity_merge (s : State) (line : Nat) : (s.evictParity line).med.merge = s.med.merge := by
  unfold State.evictParity
  dsimp only
  split
  · split
    · rfl
    · split
      · rw [State.parityLost_merge]
      · split
        · rw [State.writeParity_merge]
        · rfl
  · rfl

@[simp] theorem State.fetchParity_merge (s : State) (line : Nat) : (s.fetchParity line).2.med.merge = s.med.merge := by
  unfold State.fetchParity
  split
  · split
    · rw [State.parityLost_merge]
    · rfl
  · dsimp only
    split
    · rw [State.parityLost_merge]
      rfl
    · exact State.evictParity_merge _ _

/-- A line of parity is fetched, and what is done where it came keeps the entries too. -/
theorem State.fetchParity_then_merge {s t : State} {line : Nat} (h : t.med.merge = (s.fetchParity line).2.med.merge) :
    (if (s.fetchParity line).1 then t else (s.fetchParity line).2).med.merge = s.med.merge := by
  split
  · rw [h, State.fetchParity_merge]
  · rw [State.fetchParity_merge]

@[simp] theorem State.addParity_merge (s : State) (dpa : Nat) (delta : List (BitVec 8)) : (s.addParity dpa delta).med.merge = s.med.merge := by
  unfold State.addParity
  extract_lets line r d put s1
  have h1 : s1.med.merge = s.med.merge := State.fetchParity_then_merge rfl
  split
  · exact h1
  · refine (State.fetchParity_then_merge ?_).trans h1
    rfl

@[simp] theorem State.updateParity_merge (s : State) (dpa : Nat) (delta : List (BitVec 8)) (read : Bool) :
    (s.updateParity dpa delta read).med.merge = s.med.merge := by
  unfold State.updateParity
  dsimp only
  split
  · rfl
  · rw [State.addParity_merge]
    split <;> rfl

@[simp] theorem State.dropScrubs_merge (s : State) (line : Nat) : (s.dropScrubs line).med.merge = s.med.merge := by
  unfold State.dropScrubs
  dsimp only
  split <;> rfl

theorem State.light_sameRing (s : State) (i n : Nat) : SameRing s (s.light i n) := ⟨rfl, rfl, rfl, rfl, fun _ _ _ _ => rfl⟩

theorem State.markDirty_sameRing (s : State) (dpa : Nat) : SameRing s (s.markDirty dpa) := ⟨rfl, rfl, rfl, rfl, fun _ _ _ _ => rfl⟩

/-- R136: a whole line that is stored replaces the line's entry. -/
theorem State.storeRaw_merge {s : State} {line : Nat} (hf : s.fatalAt (line * 64) = false) (hp : s.parityElsewhere line)
    (d : List (BitVec 8)) (read : Bool) : (s.storeRaw line d read).med.merge = s.med.merge.filter (fun e => e.line ≠ line) := by
  unfold State.storeRaw
  rw [if_neg (by simp [hf])]
  extract_lets old media s1 s2 s3 delta s4
  have h2 : SameRing s s2 := .med s rfl
  have h3 : SameRing s s3 := ((h2.trans (State.dropScrubs_sameRing s2 line)).trans (State.markDirty_sameRing _ _)).trans (State.light_sameRing _ _ _)
  have h4 : RingOnly (s3.updateParity (line * 64) delta read) s4 :=
    State.sendDeltas_ringOnly ((h3.trans (State.updateParity_sameRing s3 _ delta read)).parityElsewhere hp) delta false
  rw [foldl_applyFlip_merge, h4.med, State.updateParity_merge]
  exact State.dropScrubs_merge s2 line

theorem State.armGlaze_merge (s : State) (line : Nat) : (s.armGlaze line).med.merge = s.med.merge := by
  unfold State.armGlaze
  refine foldl_keeps (fun u : State => u.med.merge) (fun u p => ?_) _ _
  split <;> rfl

/-! A light counter is no part of what a line rests on. -/

theorem SameRing.sliceOf {s t : State} (h : SameRing s t) (dpa : Nat) : t.sliceOf dpa = s.sliceOf dpa := by
  unfold State.sliceOf State.locate
  rw [h.entryAt]

theorem State.fatalAt_light (s : State) (i n dpa : Nat) : (s.light i n).fatalAt dpa = s.fatalAt dpa := by
  unfold State.fatalAt
  rw [(s.light_sameRing i n).sliceOf]
  rfl

theorem State.open_light (s : State) (i n line : Nat) : (s.light i n).open_ line ↔ s.open_ line := by
  unfold State.open_
  rw [State.fatalAt_light]
  rfl

/-- A line that is open is stored at once. -/
theorem State.storeLine_open {s : State} {line : Nat} (ho : s.open_ line) (d : List (BitVec 8)) (read : Bool) :
    s.storeLine line d read = (s.storeRaw line d read).armGlaze line := by
  obtain ⟨-, hr, hl⟩ := ho
  simp [State.storeLine, hr, hl]

section
variable {s : State} {line : Nat} (ho : s.open_ line) (hp : s.parityElsewhere line)
include ho hp

theorem State.storeLine_open_mem {d : List (BitVec 8)} (hd : d.length = 64) (read : Bool) :
    (s.storeLine line d read).med.mem = Mem.write s.med.mem (line * 64) d := by
  rw [State.storeLine_open ho, State.armGlaze_mem, State.storeRaw_mem ho.1 hp, fitBytes_of_length hd]

/-- R136: a stored line has no entry left. -/
theorem State.storeLine_open_mergeEntry (d : List (BitVec 8)) (read : Bool) : (s.storeLine line d read).mergeEntry line = none := by
  unfold State.mergeEntry
  rw [State.storeLine_open ho, State.armGlaze_merge, State.storeRaw_merge ho.1 hp]
  simp

end

/-! ### Reads of a sound line -/

/-- R118: where no word of a line holds an error, every word delivers data, and none is counted. -/
theorem State.foldl_readWord_clean {s : State} {port : Nat} {ws : List Nat} (h : ∀ w, w ∈ ws → s.decodeWord w [] = .data []) :
    ws.foldl (fun (a : Bool × State) w => (a.1 && (a.2.readWord w port (s.decodeWord w [])).1, (a.2.readWord w port (s.decodeWord w [])).2))
      (true, s) = (true, s) := by
  induction ws with
  | nil => rfl
  | cons w ws ih =>
    have hw : s.readWord w port (s.decodeWord w []) = (true, s) := by
      rw [h w List.mem_cons_self]
      simp [State.readWord, State.countCorrected, EccMode.beyond_nil]
    rw [List.foldl_cons, hw]
    exact ih fun v hv => h v (List.mem_cons_of_mem w hv)

/-- R136: a sound line under its own key reads with the bytes of its merge-buffer entry over those that memory holds. -/
theorem State.readLine_merged {s : State} {line : Nat} {e : MergeEntry} (h : s.sound line) (hk : s.ownKey line)
    (he : s.mergeEntry line = some e) (port : Nat) :
    s.readLine line port = ((e.over (s.lineBytes line), false), s.light (lightRead (s.sliceOf (line * 64))) 64) := by
  obtain ⟨hf, hp, hw⟩ := h
  have he' : (s.light (lightRead (s.sliceOf (line * 64))) 64).mergeEntry line = some e := he
  unfold State.readLine
  rw [if_neg (by simp [hf, hp])]
  dsimp only
  rw [State.foldl_readWord_clean hw]
  simp [he', State.loadLine_own hk]

/-- R116: a sound line that returns without further errors decodes to data in which nothing is corrected. -/
theorem State.decodeLine_sound {s : State} {line : Nat} (h : s.sound line) :
    ∀ p, p ∈ s.decodeLine (line * 64) [] → p.2 = .data [] := by
  intro p hp
  obtain ⟨w, hw, rfl⟩ := List.mem_map.mp hp
  have hr : s.returned (line * 64) [] w = [] := by
    unfold State.returned
    split
    · rfl
    · split <;> rfl
  rw [Nat.mul_div_cancel line (by decide)] at hw
  simpa [hr] using h.2.2 w hw

/-- R116: a line of which every word decodes to data holds neither poison nor an uncorrectable word. -/
theorem decoded_clean {ws : List (Nat × WordResult)} (h : ∀ p, p ∈ ws → ∃ cs, p.2 = .data cs) :
    ws.any (fun p => p.2 = .poison) = false ∧ badWords ws = [] := by
  constructor
  · refine List.any_eq_false.mpr fun p hp => ?_
    obtain ⟨cs, hc⟩ := h p hp
    simp [hc]
  · refine List.map_eq_nil_iff.mpr (List.filter_eq_nil_iff.mpr fun p hp => ?_)
    obtain ⟨cs, hc⟩ := h p hp
    simp [hc]

/-! ### The two commands -/

theorem MergeEntry.length_over (e : MergeEntry) (bs : List (BitVec 8)) : (e.over bs).length = 64 := by
  simp [MergeEntry.over]

theorem State.line_of_mergeEntry {s : State} {line : Nat} {e : MergeEntry} (h : s.mergeEntry line = some e) : e.line = line := by
  simpa using List.find?_some h

/-- R135, R144: a held entry's read goes out. -/
theorem State.releaseMerge_held {s : State} {line : Nat} {e : MergeEntry} (he : s.mergeEntry line = some e) (hr : e.rmw = false) :
    s.releaseMerge line = ({ s with med := { s.med with
      merge := s.med.merge.map (fun e => if e.line = line then { e with rmw := true } else e) } } : State).bump 64 0x3830 3 := by
  unfold State.releaseMerge
  rw [he]
  exact if_neg (ne_true_of_eq_false hr)

theorem State.releaseMerge_reading {s : State} {line : Nat} {e : MergeEntry} (he : s.mergeEntry line = some e) (hr : e.rmw = true) :
    s.releaseMerge line = s := by
  unfold State.releaseMerge
  rw [he]
  exact if_pos hr

theorem State.releaseMerge_absent {s : State} {line : Nat} (hn : s.mergeEntry line = none) : s.releaseMerge line = s := by
  unfold State.releaseMerge
  rw [hn]

theorem execMergeRmwReadDone_absent {s : State} {line : BitVec 40} (hn : s.mergeEntry line.toNat = none) (err : SymErrors) :
    execMergeRmwReadDone line err s = ok s := by
  simp [execMergeRmwReadDone, hn]

theorem execMergeRmwReadDone_waiting {s : State} {line : BitVec 40} {e : MergeEntry} (he : s.mergeEntry line.toNat = some e)
    (hr : e.rmw = false) (err : SymErrors) : execMergeRmwReadDone line err s = ok s := by
  simp [execMergeRmwReadDone, he, hr]

theorem execMergeRmwReadDone_fatal {s : State} {line : BitVec 40} {e : MergeEntry} (he : s.mergeEntry line.toNat = some e)
    (hr : e.rmw = true) (hf : s.fatalAt (line.toNat * 64) = true) (err : SymErrors) :
    execMergeRmwReadDone line err s = ok (s.dropPartial e) := by
  simp [execMergeRmwReadDone, he, hr, hf]

theorem execMergeRmwReadDone_poison {s : State} {line : BitVec 40} {e : MergeEntry} (he : s.mergeEntry line.toNat = some e)
    (hr : e.rmw = true) (hf : s.fatalAt (line.toNat * 64) = false) {err : SymErrors}
    (hp : ∃ p, p ∈ s.decodeLine (line.toNat * 64) err ∧ p.2 = .poison) :
    execMergeRmwReadDone line err s = ok ((s.countLine (s.decodeLine (line.toNat * 64) err)).dropPartial e) := by
  have ha : (s.decodeLine (line.toNat * 64) err).any (fun p => p.2 = .poison) = true := by simpa using hp
  simp only [execMergeRmwReadDone, he, hr, hf, ha]
  rfl

/-- R137: the read of a sound line, whose page no engine holds, is merged and written. -/
theorem execMergeRmwReadDone_sound {s : State} {line : BitVec 40} {e : MergeEntry} (he : s.mergeEntry line.toNat = some e)
    (hr : e.rmw = true) (hs : s.sound line.toNat) (hk : s.ownKey line.toNat) (hl : s.pageLocked (pageOf (line.toNat * 64)) = false) :
    execMergeRmwReadDone line [] s = ok ((s.light (lightRead (s.sliceOf (line.toNat * 64))) 64).storeLine line.toNat
      (e.over (s.lineBytes line.toNat)) false) := by
  have hd := State.decodeLine_sound hs
  have hc : s.countLine (s.decodeLine (line.toNat * 64) []) = s :=
    s.countLine_clean _ fun p hp => ⟨[], hd p hp, EccMode.beyond_nil _⟩
  obtain ⟨ha, hb⟩ := decoded_clean fun p hp => ⟨[], hd p hp⟩
  have hm : s.mergeDone e = (s.light (lightRead (s.sliceOf (line.toNat * 64))) 64).storeLine line.toNat (e.over (s.lineBytes line.toNat)) false := by
    unfold State.mergeDone
    rw [State.line_of_mergeEntry he, State.readLine_merged hs hk he]
    rfl
  rw [← hm]
  simp only [execMergeRmwReadDone, he, hr, hs.1, ha, hb, hc, hl]
  rfl

/-- Settles O12: a hold's end by the entry's phase; the read of a release by what the line is, and where it is sound by the bytes and the
entries that the store of a whole line leaves. -/
theorem mergeBufferReleases : Obligations.MergeBufferReleases := by
  unfold Obligations.MergeBufferReleases
  refine ⟨fun s line => ⟨fun e he hr => congrArg ok (State.releaseMerge_held he hr), fun e he hr => congrArg ok (State.releaseMerge_reading he hr),
      fun hn => congrArg ok (State.releaseMerge_absent hn)⟩,
    fun s line e he hr => ⟨fun hs hk ho hp => ?_, fun err hf => execMergeRmwReadDone_fatal he hr hf err,
      fun err hf hp => execMergeRmwReadDone_poison he hr hf hp,
      fun err => ⟨fun a => by rw [State.dropPartial_mem], fun a => by rw [State.dropPartial_mem, State.countLine_mem]⟩, rfl⟩,
    fun s line err => ⟨fun hn => execMergeRmwReadDone_absent hn err, fun e he hr => execMergeRmwReadDone_waiting he hr err⟩⟩
  -- the line is sound
  have hu := (s.open_light (lightRead (s.sliceOf (line.toNat * 64))) 64 _).mpr ho
  have hq := (s.light_sameRing (lightRead (s.sliceOf (line.toNat * 64))) 64).parityElsewhere hp
  have hl := e.length_over (s.lineBytes line.toNat)
  have hm := State.storeLine_open_mem hu hq hl false
  refine ⟨_, execMergeRmwReadDone_sound he hr hs hk ho.2.2, fun i hi => ?_, fun x hx => ?_, State.storeLine_open_mergeEntry hu hq _ _⟩
  · rw [hm, Mem.get_write_inside _ _ _ _ (by omega), List.getD_eq_getElem]
  · rw [hm, Mem.get_write_outside _ _ _ _ (by omega)]
    rfl

end Machine
end Sys2Proof

namespace Sys2Proof
namespace Machine

/-! Reads that return from the media and the scrubber's reads (R77, R115-R121, R139-R141, R162): what a line that needs no correction
delivers, and what the scrubber makes of the word that it has next. -/

/-- R115, R162: the data of an intact line under its own key. -/
theorem State.dataTo_intact {s : State} {dpa : Nat} (hi : s.intact (dpa / 64)) (hk : s.ownKey (dpa / 64)) (rd : Reader) :
    let line := dpa / 64
    let t := (s.light (lightRead (s.sliceOf (line * 64))) 64).emit (.readerData rd dpa (s.lineBytes line) false)
    s.dataTo rd dpa = match rd with | .fetch v => t.fillBundles v.val (s.coord * 2 ^ 46 + line * 64) (s.lineBytes line) | _ => t := by
  intro line t
  unfold State.dataTo
  rw [State.readLine_intact hi, State.loadLine_own hk]
  cases rd <;> rfl

theorem execMediaReadReturn_fatal {s : State} {dpa : BitVec 46} (hf : s.fatalAt (s.wordBase dpa.toNat) = true) (rd : Reader) (err : SymErrors) :
    execMediaReadReturn rd dpa err s = ok (s.poisonTo rd (s.wordBase dpa.toNat)) := if_pos hf

theorem execMediaReadReturn_poison {s : State} {dpa : BitVec 46} {err : SymErrors} (hf : s.fatalAt (s.wordBase dpa.toNat) = false)
    (hp : ∃ p, p ∈ s.decodeLine (s.wordBase dpa.toNat) err ∧ p.2 = .poison) (rd : Reader) :
    execMediaReadReturn rd dpa err s =
      ok ((s.countLine (s.decodeLine (s.wordBase dpa.toNat) err)).poisonTo rd (s.wordBase dpa.toNat)) := by
  have ha : (s.decodeLine (s.wordBase dpa.toNat) err).any (fun p => p.2 = .poison) = true := by simpa using hp
  exact (if_neg (ne_true_of_eq_false hf)).trans (if_pos ha)

theorem execMediaReadReturn_clean {s : State} {dpa : BitVec 46} {err : SymErrors} (hf : s.fatalAt (s.wordBase dpa.toNat) = false)
    (hd : ∀ p, p ∈ s.decodeLine (s.wordBase dpa.toNat) err → ∃ cs, p.2 = .data cs ∧ (s.eccMode p.1).beyond cs = [])
    (he : s.med.escEng.any (fun p => p.2.req.page = pageOf (s.wordBase dpa.toNat) && !p.2.wback) = false) (rd : Reader) :
    execMediaReadReturn rd dpa err s = ok (s.dataTo rd (s.wordBase dpa.toNat)) := by
  obtain ⟨hp, hb⟩ := decoded_clean fun p h => (hd p h).imp fun _ => And.left
  unfold execMediaReadReturn
  extract_lets w ws s1
  have h1 : s1 = s := s.countLine_clean ws hd
  rw [if_neg (ne_true_of_eq_false hf), if_neg (ne_true_of_eq_false hp), show badWords ws = [] from hb]
  exact (if_neg (ne_true_of_eq_false he)).trans (by rw [h1])

/-! ### The scrubber -/

theorem SameRing.locate {s t : State} (h : SameRing s t) (dpa : Nat) : t.locate dpa = s.locate dpa := by
  unfold State.locate
  rw [h.entryAt]

/-- The scrubber of slice `k` has passed one more word. -/
def State.scrubStep (s : State) (k : Nat) : State :=
  { s with med := { s.med with scrub := Tab.set s.med.scrub k { done := (Tab.get s.med.scrub k default).done + 1 } } }

/-- R141: after a word, the tier's lap ends, or its progress follows. -/
def State.scrubFollow (s : State) (tier : Nat) : State :=
  if ∀ j, j ∈ tierSlices tier → s.sliceWords j ≤ s.scrubbed j then s.endLap tier else s.setPar 0x3840 (4 + tier) (s.lapProgress tier)

/-- R139, R140: what the scrubber does with a word as it is decoded. -/
def State.scrubWord (s : State) (w : Nat) (err : SymErrors) : WordResult → State
  | .data cs =>
    if ((s.eccMode w).beyond cs).isEmpty then s
    else ((s.countCorrected w cs).bump 64 0x3840 7).enqueueBe 10 6 true (s.wordBytes w) w (.scrubWrite w)
  | .poison => s.bump 64 0x3840 8
  | .uncorrectable => (s.uncorrectable w 6 err true []).2

theorem State.scrubStep_sameRing (s : State) (k : Nat) : SameRing s (s.scrubStep k) := .med s rfl

theorem State.eccMode_scrubStep (s : State) (k w : Nat) : (s.scrubStep k).eccMode w = s.eccMode w := by
  unfold State.eccMode
  rw [(s.scrubStep_sameRing k).locate]
  rfl

/-- The progress of a lap is no part of what a word decodes to. -/
theorem State.decodeWord_scrubStep (s : State) (k w : Nat) (err : SymErrors) : (s.scrubStep k).decodeWord w err = s.decodeWord w err := by
  have he : (s.scrubStep k).storedErrors w = s.storedErrors w := by
    unfold State.storedErrors State.wordBase State.wordBytes State.onHbm
    rw [(s.scrubStep_sameRing k).sliceOf]
    rfl
  unfold State.decodeWord
  rw [State.eccMode_scrubStep, he]
  rfl

theorem execScrubReadDone_next {s : State} {k : Fin 44} {dpa : BitVec 46} (he : s.par 0x3840 1 ≠ 0) (hf : (s.sliceAt k.val).fatal = false)
    (hd : (Tab.get s.med.scrub k.val default).done < s.sliceWords k.val) (hl : s.locate (s.wordBase dpa.toNat) =
      (k.val, (Tab.get s.med.scrub k.val default).done * s.wordBytes (s.wordBase dpa.toNat))) (err : SymErrors) :
    execScrubReadDone k dpa err s = ok (((s.scrubStep k.val).scrubWord (s.wordBase dpa.toNat) err
      (s.decodeWord (s.wordBase dpa.toNat) err)).scrubFollow (if k.val < 32 then 0 else 1)) := by
  unfold execScrubReadDone
  extract_lets n w x t m s0 s1
  rw [if_neg (by simp [he, hf, hl, hd, n, w, x])]
  have h1 : s1 = (s.scrubStep k.val).scrubWord w err (s.decodeWord w err) := by
    rw [← s.decodeWord_scrubStep k.val]
    show _ = State.scrubWord s0 w err (s0.decodeWord w err)
    unfold s1 State.scrubWord
    cases s0.decodeWord w err <;> rfl
  rw [h1]
  unfold State.scrubFollow
  rw [apply_ite ok]
  exact if_congr (List.all_eq_true.trans (forall₂_congr fun _ _ => decide_eq_true_iff)) rfl rfl

/-- Settles O10: a read's return by the slice and by what its words decode to, and a scrub read by what its word decodes to. -/
theorem mediaReadsReachTheirReader : Obligations.MediaReadsReachTheirReader := by
  unfold Obligations.MediaReadsReachTheirReader
  refine ⟨fun s rd dpa err => ?_, fun s i n => rfl, fun s rd dpa err => ⟨fun hf => execMediaReadReturn_fatal hf rd err,
    fun hf hp => execMediaReadReturn_poison hf hp rd⟩, fun s p q w => rfl, fun s k dpa err => ?_⟩
  · intro w line t hf hd hi hk he
    refine (execMediaReadReturn_clean hf hd he rd).trans ?_
    rw [State.dataTo_intact hi hk]
    rfl
  · intro w x tier s0 ends he hf hd hl
    have hx : exec (.scrubReadDone k dpa err) s = ok (ends (State.scrubWord s0 w err (s.decodeWord w err))) :=
      execScrubReadDone_next he hf hd hl err
    refine ⟨fun cs hw hb => ?_, fun cs hw hb => ?_, fun hw => ?_⟩
    · have hb0 : ((s0.eccMode w).beyond cs).isEmpty = true := by rw [show s0.eccMode w = _ from s.eccMode_scrubStep _ _, hb]; rfl
      rw [hx, hw, show State.scrubWord s0 w err (.data cs) = s0 from if_pos hb0]
      rfl
    · have hb0 : ¬ ((s0.eccMode w).beyond cs).isEmpty = true := by
        rw [show s0.eccMode w = _ from s.eccMode_scrubStep _ _, List.isEmpty_iff]
        exact hb
      rw [hx, hw, show State.scrubWord s0 w err (.data cs) = _ from if_neg hb0]
      rfl
    · rw [hx, hw]
      rfl

end Machine
end Sys2Proof

namespace Sys2Proof
namespace Machine

/-! Escalation engines, the parity cache, the scrubber's alarm and switch, and the flip masks (R122-R134, R141-R144). -/

/-! ### Engines -/

/-- R131: an escalation's slots wait in the slices alone. -/
theorem State.takeEscSlots_frame (s : State) (e : Nat) (plan : Option (Nat × Nat)) (scrub : Bool) (slots : List (Nat × Nat)) :
    s.takeEscSlots e plan scrub slots = { s with cal := { s.cal with slices := (s.takeEscSlots e plan scrub slots).cal.slices } } := by
  unfold State.takeEscSlots
  refine List.foldlRecOn slots _ (motive := fun t : State => t = { s with cal := { s.cal with slices := t.cal.slices } }) rfl
    fun t ht p _ => ?_
  rw [ht]
  rfl

theorem execEscalationGrant_granted {s : State} {errs : List (Nat × BitVec 16)} {r : EscReq} {rest : List EscReq} {e : Nat}
    (hq : s.med.escQueue = r :: rest) (he : (List.range 8).find? (fun e => (Tab.find? s.med.escEng e).isNone) = some e) :
    let s1 : State := ({ s with med := { s.med with
      escQueue := rest, escEng := Tab.set s.med.escEng e { req := r, errs := errs, wback := false, taken := 0 } } } : State).bump 64 0x3800 5
    execEscalationGrant errs s = ok (s1.takeEscSlots e (s.trigger r) r.scrub (s1.pageSlots r.page true)) := by
  unfold execEscalationGrant
  rw [hq, he]

theorem execEscalationGrant_none {s : State} (h : s.med.escQueue = [] ∨ (List.range 8).find? (fun e => (Tab.find? s.med.escEng e).isNone) = none)
    (errs : List (Nat × BitVec 16)) : execEscalationGrant errs s = ok s := by
  unfold execEscalationGrant
  split
  · next hq he => simp [hq, he] at h
  · rfl

section
variable {s : State} {e : Fin 8} {g : EscEngine} (hg : Tab.find? s.med.escEng e.val = some g) (hs : s.escWaits e.val = false)
include hg hs

/-- R123, R130: the page decodes. -/
theorem execEscalationDecodeDone_decoded (hw : g.wback = false) {n : Nat} (hn : s.med.noParity.contains g.req.page = false)
    (hp : s.pagePass g.req.page g.errs = some n) (stallNs : Nat) :
    let s1 := s.pageDecoded g.req.page g.req.word n stallNs g.errs
    let s2 : State := { s1 with med := { s1.med with escEng := Tab.set s1.med.escEng e.val { g with wback := true } } }
    execEscalationDecodeDone e stallNs s = ok (g.req.readers.foldl State.serveReader
      (s2.takeEscSlots e.val (s.trigger g.req) g.req.scrub (s2.pageSlots g.req.page false))) := by
  unfold execEscalationDecodeDone
  rw [hg]
  dsimp only
  rw [if_neg (by simp [hw, hs]), if_neg (ne_true_of_eq_false hn), hp]

/-- R123, R130: the page fails. -/
theorem execEscalationDecodeDone_failed (hw : g.wback = false)
    (hp : s.med.noParity.contains g.req.page = true ∨ s.pagePass g.req.page g.errs = none) (stallNs : Nat) :
    execEscalationDecodeDone e stallNs s =
      ok ((g.req.readers.foldl State.serveReader (s.pageFailed g.req.page stallNs g.req.word g.errs)).unlockPage e.val g.req.page) := by
  have hn : (if s.med.noParity.contains g.req.page then none else s.pagePass g.req.page g.errs) = none := by
    rcases hp with hp | hp
    · exact if_pos hp
    · rw [hp, ite_self]
  unfold execEscalationDecodeDone
  rw [hg]
  dsimp only
  rw [if_neg (by simp [hw, hs]), hn]

theorem execEscalationWritebackDone_written (hw : g.wback = true) :
    execEscalationWritebackDone e s = ok ((s.pageWritten g.req.page).unlockPage e.val g.req.page) := by
  unfold execEscalationWritebackDone
  rw [hg]
  exact if_neg (by simp [hw, hs])

end

/-- R134: where no write is held and the merge buffer is empty, unlocking a page frees its engine. -/
theorem State.unlockPage_idle {s : State} (hw : s.med.heldW = []) (hm : s.med.merge = []) (e pg : Nat) :
    s.unlockPage e pg = { s with med := { s.med with escEng := Tab.erase s.med.escEng e } } := by
  simp [State.unlockPage, State.releaseHeld, State.resumeMerges, hw, hm]

/-! ### The parity cache -/

section
variable {s : State} {line : Nat} {l : PcLine} (hl : s.med.pcache.find? (fun (l : PcLine) => l.line = line) = some l)
include hl

theorem execParityCacheWriteback_lost (he : 2 ≤ l.err) : execParityCacheWriteback line s = ok (s.parityLost line (s.wayOf line)) := by
  unfold execParityCacheWriteback
  rw [hl]
  exact if_pos he

theorem execParityCacheWriteback_dirty (he : l.err < 2) (hd : l.dirty = true) : execParityCacheWriteback line s =
    ok (({ s with med := { s.med with
      pcache := s.med.pcache.map (fun (l : PcLine) => if l.line = line then { l with dirty := false, err := 0 } else l) } } : State).writeParity
        line l.data) := by
  unfold execParityCacheWriteback
  rw [hl]
  exact (if_neg (Nat.not_le.mpr he)).trans (if_neg (by simp [hd]))

theorem execParityCacheWriteback_unchanged (he : l.err < 2) (hd : l.dirty = false) : execParityCacheWriteback line s = ok s := by
  unfold execParityCacheWriteback
  rw [hl]
  exact (if_neg (Nat.not_le.mpr he)).trans (if_pos (by simp [hd]))

end

theorem execParityCacheWriteback_absent {s : State} {line : Nat} (h : s.med.pcache.find? (fun (l : PcLine) => l.line = line) = none) :
    execParityCacheWriteback line s = ok s := by
  unfold execParityCacheWriteback
  rw [h]

/-! ### The scrubber's alarm, and the dictionary's writes -/

theorem execScrubLapLate_eq (tier : Tier) (s : State) :
    let t := if tier = Tier.hbm then 0 else 1
    let ns := s.now - Tab.get s.med.lapStart t 0
    execScrubLapLate tier s = if s.med.lapLate.contains t = true ∨ ns ≤ s.par 0x3840 6 * 1000000000 then ok s
      else ok (({ s with med := { s.med with lapLate := t :: s.med.lapLate } } : State).report kScrubLapLate 0 0 [(32, t), (64, ns)]) :=
  if_congr (by simp) rfl rfl

theorem scrubEnable_valid {v : Nat} (h : v ≤ 1) (s : State) : scrubEnable v s = done (s.setPar 0x3840 1 v) := if_neg (Nat.not_lt.mpr h)

theorem scrubEnable_range {v : Nat} (h : 1 < v) (s : State) : scrubEnable v s = refuse stRange s := if_pos h

/-- R142: the DPA that a control word names is aligned, installed and of its tier. -/
def State.flipFits (s : State) (tier : Tier) (v : Nat) : Prop :=
  v % 2 ^ 46 % (if tier = Tier.hbm then 32 else 64) = 0 ∧ s.installed (v % 2 ^ 46) = true ∧ (s.onHbm (v % 2 ^ 46) = true ↔ tier = Tier.hbm)

/-- R142: that check, as a write of the control word makes it. -/
theorem State.not_flipFits_iff (s : State) (tier : Tier) (v : Nat) : ¬ s.flipFits tier v ↔
    (decide (v % 2 ^ 46 % (if tier = Tier.hbm then 32 else 64) ≠ 0) || !s.installed (v % 2 ^ 46)
      || decide ((s.onHbm (v % 2 ^ 46) = true) ≠ (tier = Tier.hbm))) = true := by
  simp only [State.flipFits, Bool.or_eq_true, decide_eq_true_eq, Bool.not_eq_true', ne_eq, eq_iff_iff, not_and_or, Bool.not_eq_true, or_assoc]

theorem SameRing.flipFits {s t : State} (h : SameRing s t) (tier : Tier) (v : Nat) : t.flipFits tier v ↔ s.flipFits tier v := by
  have hi : t.installed (v % 2 ^ 46) = s.installed (v % 2 ^ 46) := by
    unfold State.installed State.dpaExtents State.hbmExtents
    rw [h.ddrExtents, h.h64]
  have ho : t.onHbm (v % 2 ^ 46) = s.onHbm (v % 2 ^ 46) := by
    unfold State.onHbm
    rw [h.sliceOf]
  unfold State.flipFits
  rw [hi, ho]

theorem State.modClient_sameRing (s : State) (c : Client) (f : ClientSt → ClientSt) : SameRing s (s.modClient c f) :=
  ⟨rfl, rfl, rfl, rfl, fun _ _ _ _ => rfl⟩

theorem flipControl_window {c : Client} (h : clientGroup c = 0) (tier : Tier) (v : Nat) (s : State) :
    flipControl c tier v s = refuse stDenied s := if_pos h

theorem flipControl_misfit {c : Client} (h : clientGroup c ≠ 0) {tier : Tier} {v : Nat} {s : State} (hv : bitAt v 46 = true)
    (hf : ¬ s.flipFits tier v) : flipControl c tier v s = refuse stRange s :=
  (if_neg h).trans (if_pos (Bool.and_eq_true_iff.mpr ⟨hv, (s.not_flipFits_iff tier v).mp hf⟩))

theorem flipControl_set {c : Client} (h : clientGroup c ≠ 0) {tier : Tier} {v : Nat} {s : State} (hv : bitAt v 46 = false ∨ s.flipFits tier v) :
    flipControl c tier v s = done (s.setPar 0x3850 (flipSub (tier = Tier.hbm) + 1) (v % 2 ^ 47
      + (if bitAt (s.par 0x3850 (flipSub (tier = Tier.hbm) + 1)) 47 && !bitAt v 47 then 2 ^ 47 else 0))) := by
  refine (if_neg h).trans (if_neg fun hc => ?_)
  obtain ⟨hb, hn⟩ := Bool.and_eq_true_iff.mp hc
  exact hv.elim (fun h0 => by simp [h0] at hb) ((s.not_flipFits_iff tier v).mpr hn)

/-- Settles O11: each command by its branches; a write by what the entry's operation computes of it. -/
theorem escalationScrubAndFlips : Obligations.EscalationScrubAndFlips := by
  unfold Obligations.EscalationScrubAndFlips
  refine ⟨fun s errs r rest e hq he => execEscalationGrant_granted hq he, fun s errs h => execEscalationGrant_none h errs,
    State.takeEscSlots_frame, fun s e stallNs g hg hw hs => ?_, fun s e g hg hw hs => execEscalationWritebackDone_written hg hs hw,
    fun s e pg hw hm => State.unlockPage_idle hw hm e pg, fun s pg word n stall line errs d => ?_, fun s line => ?_, fun s tier => ?_,
    fun s c v hs => ?_, fun s c tier v => ?_⟩
  · exact ⟨fun n hn hp => execEscalationDecodeDone_decoded hg hs hw hn hp stallNs, fun hp => execEscalationDecodeDone_failed hg hs hw hp stallNs⟩
  · -- no byte of memory changes
    exact ⟨fun a => by rw [State.pageDecoded_mem], fun a => by rw [State.pageFailed_mem], fun a => by rw [State.pageWritten_mem],
      fun a => by rw [State.parityLost_mem], fun a => by rw [State.writeParity_mem]⟩
  · -- PARITY_CACHE_WRITEBACK
    exact ⟨fun l hl => ⟨execParityCacheWriteback_lost hl, execParityCacheWriteback_dirty hl, execParityCacheWriteback_unchanged hl⟩,
      execParityCacheWriteback_absent⟩
  · -- SCRUB_LAP_LATE
    intro t ns
    exact ⟨fun hl hn => (execScrubLapLate_eq tier s).trans (if_neg (not_or.mpr ⟨ne_true_of_eq_false hl, Nat.not_le.mpr hn⟩)),
      fun h => (execScrubLapLate_eq tier s).trans (if_pos h)⟩
  · -- SCRUB_ENABLE_WRITE
    exact ⟨fun hv => congrArg ok (State.request_eq_of_op hs (scrubEnable_valid hv _)),
      fun hv => congrArg ok (State.request_eq_of_op hs (scrubEnable_range hv _))⟩
  · -- FLIP_ARM
    intro sub dpa fits hs
    have hfit := (s.modClient_sameRing c id).flipFits tier v.toNat
    exact ⟨fun hc hv => congrArg ok (State.request_eq_of_op hs (flipControl_set hc (hv.imp_right hfit.mpr))),
      fun hc hv hn => congrArg ok (State.request_eq_of_op hs (flipControl_misfit hc hv (mt hfit.mp hn))),
      fun hc => congrArg ok (State.request_eq_of_op hs (flipControl_window hc tier v.toNat _))⟩

end Machine
end Sys2Proof

namespace Sys2Proof
namespace Machine

/-! The vector slot's palette forms and the issue stage (R121, R148, R151-R153, R161, R199, R219, R222, R224, R225). -/

/-! ### Tables that take a block of values -/

theorem Tab.find_append {α : Type} (t u : Tab α) (k : Nat) : Tab.find? (t ++ u) k = (Tab.find? t k).or (Tab.find? u k) := by
  induction t with
  | nil => rfl
  | cons p t ih =>
    obtain ⟨j, v⟩ := p
    by_cases h : j = k
    · simp [Tab.find?, h]
    · simpa [Tab.find?, h] using ih

theorem Tab.find_zipIdx {α : Type} (vs : List α) (base i : Nat) :
    Tab.find? ((vs.zipIdx base).map (fun p => (p.2, p.1))) (base + i) = vs[i]? := by
  induction vs generalizing base i with
  | nil => rfl
  | cons v vs ih =>
    cases i with
    | zero => simp [Tab.find?]
    | succ i =>
      have := ih (base + 1) i
      rw [show base + 1 + i = base + (i + 1) by omega] at this
      simpa [Tab.find?] using this

/-- A block's values are read back, where nothing below the block is listed. -/
theorem Tab.get_setBlock_zero {α : Type} (t : Tab α) {vs : List α} {i : Nat} (h : i < vs.length) (d e : α) :
    Tab.get (Tab.setBlock t 0 vs) i d = vs.getD i e := by
  have hz := Tab.find_zipIdx vs 0 i
  rw [Nat.zero_add] at hz
  unfold Tab.get Tab.setBlock
  rw [show t.filter (fun p => decide (p.1 < 0)) = [] by simp, List.nil_append, Tab.find_append, hz, List.getElem?_eq_getElem h]
  simp [h]

/-! ### The slot -/

/-- R219: each operation of the vector slot, by its number. -/
theorem exec_vectorSlot {v : Fin 34} {cyc op : Nat} {c : Instr} (h : (op, c) ∈ [(1, Instr.fadd v cyc), (2, .fsub v cyc), (3, .fmul v cyc),
    (4, .ffma v cyc), (5, .fmin v cyc), (6, .fmax v cyc), (7, .fcmplt v cyc), (8, .fcmpeq v cyc), (9, .selectV v cyc), (10, .iadd v cyc),
    (11, .isub v cyc), (12, .imul v cyc), (13, .andV v cyc), (14, .orV v cyc), (15, .xorV v cyc), (16, .shl v cyc), (17, .shr v cyc),
    (18, .mov v cyc), (19, .seed v cyc), (20, .bcast v cyc)]) (s : State) : exec c s = ok (s.vectorSlot v.val cyc op) := by
  simp only [List.mem_cons, Prod.mk.injEq, List.not_mem_nil, or_false] at h
  rcases h with ⟨rfl, rfl⟩ | ⟨rfl, rfl⟩ | ⟨rfl, rfl⟩ | ⟨rfl, rfl⟩ | ⟨rfl, rfl⟩ | ⟨rfl, rfl⟩ | ⟨rfl, rfl⟩ | ⟨rfl, rfl⟩ | ⟨rfl, rfl⟩ |
    ⟨rfl, rfl⟩ | ⟨rfl, rfl⟩ | ⟨rfl, rfl⟩ | ⟨rfl, rfl⟩ | ⟨rfl, rfl⟩ | ⟨rfl, rfl⟩ | ⟨rfl, rfl⟩ | ⟨rfl, rfl⟩ | ⟨rfl, rfl⟩ | ⟨rfl, rfl⟩ |
    ⟨rfl, rfl⟩ <;> rfl

/-- R161: a slot that is ready acts on what the issue stage left. -/
theorem State.slotAct_issues {s u : State} {v cyc op k w : Nat} {slots : List Nat} (h : s.issues v cyc slots op k w u)
    (f : Nat → Nat → State → State) : s.slotAct v cyc slots op f = f k w u := by
  unfold State.slotAct
  rw [h.1]

/-- R219: the slot has a palette operand. -/
def VecPalette (op w : Nat) : Prop := bitsAt w 31 30 = 1 ∨ bitsAt w 33 32 = 1 ∧ op ≠ 19

theorem State.vecAct_plain {op w : Nat} (h : ¬ VecPalette op w) (s : State) (k v cyc : Nat) : s.vecAct k v cyc op w = s.vecRun v cyc op w 0 := by
  unfold VecPalette at h
  exact if_pos (by simpa [vecFromPal, vecToPal, imp_iff_not_or] using h)

/-- The accesses that the slot makes through the compute port. -/
def vecAccesses (op w cyc addr n : Nat) : List Access :=
  (if bitsAt w 31 30 = 1 then [(cyc, [(addr, n)])] else []) ++ (if bitsAt w 33 32 = 1 ∧ op ≠ 19 then [(cyc + 4, [(addr, n)])] else [])

/-- The palette address of a slot, from its descriptor's read. -/
def vecAddr (r : (Nat × Bool) × State) (v : Nat) : Nat := palAddr (bitsAt r.1.1 21 0) ((r.2.vatAt v).loopTerm r.1.1 24 32)

/-- R151-R153, R224: a slot with a palette operand, from what its descriptor's read gave. -/
def vecAddressed (r : (Nat × Bool) × State) (k v cyc op w b : Nat) : State :=
  if r.1.2 then r.2.fetchTrap k v b
  else if bitsAt r.1.1 31 22 ≠ 0 then r.2.encodingTrap k v b 1
  else
    match touchPort (r.2.vatAt v).ports (vecAccesses op w cyc (vecAddr r v) (fmtBytes (bitsAt w 49 46) 256)) with
    | .inr cause => r.2.bundleFault k v b cause
    | .inl ports =>
      let c := r.2.palCheck v (if bitsAt w 31 30 = 1 then [(vecAddr r v, fmtBytes (bitsAt w 49 46) 256)] else [])
      match c.1 with
      | some a => c.2.paletteUe k v a
      | none => (c.2.modVat v (fun x => { x with ports := ports })).vecRun v cyc op w (vecAddr r v)

section
variable {r : (Nat × Bool) × State}

theorem vecAddressed_poison (he : r.1.2 = true) (k v cyc op w b : Nat) : vecAddressed r k v cyc op w b = r.2.fetchTrap k v b := if_pos he

theorem vecAddressed_reserved (he : r.1.2 = false) (hf : bitsAt r.1.1 31 22 ≠ 0) (k v cyc op w b : Nat) :
    vecAddressed r k v cyc op w b = r.2.encodingTrap k v b 1 :=
  (if_neg (ne_true_of_eq_false he)).trans (if_pos hf)

variable {v cyc op w : Nat} (he : r.1.2 = false) (hf : bitsAt r.1.1 31 22 = 0)

include he hf

theorem vecAddressed_port {cause : Nat} (hu : touchPort (r.2.vatAt v).ports (vecAccesses op w cyc (vecAddr r v) (fmtBytes (bitsAt w 49 46) 256)) =
    .inr cause) (k b : Nat) : vecAddressed r k v cyc op w b = r.2.bundleFault k v b cause := by
  refine (if_neg (ne_true_of_eq_false he)).trans ((if_neg (not_not_intro hf)).trans ?_)
  rw [hu]

theorem vecAddressed_reaches {ports : List (Nat × Nat)} (hu : touchPort (r.2.vatAt v).ports
      (vecAccesses op w cyc (vecAddr r v) (fmtBytes (bitsAt w 49 46) 256)) = .inl ports) (k b : Nat) :
    let c := r.2.palCheck v (if bitsAt w 31 30 = 1 then [(vecAddr r v, fmtBytes (bitsAt w 49 46) 256)] else [])
    (∀ a, c.1 = some a → vecAddressed r k v cyc op w b = c.2.paletteUe k v a) ∧
    (c.1 = none → vecAddressed r k v cyc op w b =
      (c.2.modVat v (fun x => { x with ports := ports })).vecRun v cyc op w (vecAddr r v)) := by
  intro c
  have h : vecAddressed r k v cyc op w b = match c.1 with
      | some a => c.2.paletteUe k v a
      | none => (c.2.modVat v (fun x => { x with ports := ports })).vecRun v cyc op w (vecAddr r v) := by
    refine (if_neg (ne_true_of_eq_false he)).trans ((if_neg (not_not_intro hf)).trans ?_)
    rw [hu]
  exact ⟨fun a ha => by rw [h, ha], fun ha => by rw [h, ha]⟩

end

theorem State.vecAct_palette {op w : Nat} (h : VecPalette op w) (s : State) (k v cyc : Nat) :
    s.vecAct k v cyc op w = vecAddressed (s.sectionEntry k 5 (bitsAt w 45 34) 16) k v cyc op w (s.vatAt v).bundle := by
  unfold VecPalette at h
  refine (if_neg (by simpa [vecFromPal, vecToPal, or_iff_not_imp_left] using h)).trans ?_
  unfold vecAddressed vecAddr vecAccesses vecFromPal vecToPal
  simp only [decide_eq_true_eq, Bool.and_eq_true] <;> rfl

/-! ### The operands -/

/-- R192, R219: a palette source that is readable, in a format that the operation takes. -/
theorem State.readPal_lanes {s : State} {v op fmt addr cyc : Nat} (he : (s.vatAt v).palEarly addr (fmtBytes fmt 256) cyc = false)
    (hf : isBlock fmt = false ∨ op = 18) : (s.readPal v op fmt addr cyc).1.xs =
      (List.range 256).map (fun i => (elemLane fmt (Mem.read (s.vatAt v).palette addr (fmtBytes fmt 256)) i).1) := by
  unfold State.readPal
  dsimp only
  rw [if_neg (by rcases hf with hf | hf <;> simp [he, hf])]
  simp

/-- R199, R200: the draws of a write to the palette: with stochastic rounding each generator steps. -/
def Vat.draws (x : Vat) (mode : Nat) : List (BitVec 32) := if mode = 2 then x.genList.map genStep else x.genList

theorem Vat.length_draws (x : Vat) (mode : Nat) : (x.draws mode).length = 256 := by
  unfold Vat.draws Vat.genList
  split <;> simp

/-- R192, R199: a result enters the palette in a format that the operation takes. -/
theorem State.writePal_taken {op fmt : Nat} {l : Lanes} (hf : isBlock fmt = false ∨ (op = 18 ∧ l.int = false)) (s : State)
    (v addr cyc mode : Nat) (sat : Bool) :
    let gs := (s.vatAt v).draws mode
    let q := lanesToBytes fmt l.int l.xs mode sat (gs.map (fun g => bits g 15 0))
    s.writePal v op fmt addr cyc mode sat l = (s.modVat v (fun x => { x.palWrite addr q.1 with
      gens := if mode = 2 then Tab.setBlock x.gens 0 gs else x.gens,
      palReady := (addr, q.1.length, cyc + 4) :: x.palReady })).raise v q.2 := by
  intro gs q
  unfold State.writePal
  dsimp only
  rw [if_neg (by rcases hf with hf | hf <;> simp [hf])]
  rfl

/-- A byte of a memory after a write. -/
theorem Mem.get_write (m : List Host.Cell) (a x : Nat) (bs : List (BitVec 8)) :
    Mem.get (Mem.write m a bs) x = if a ≤ x ∧ x < a + bs.length then bs.getD (x - a) 0 else Mem.get m x := by
  split
  · next h =>
    have := Mem.get_write_inside m a (x - a) bs (by omega)
    rw [show a + (x - a) = x by omega] at this
    rw [this, List.getD_eq_getElem]
  · exact Mem.get_write_outside _ _ _ _ (by omega)

theorem State.raise_palette (s : State) (v : Nat) (f : FFlags) : ((s.raise v f).vatAt v).palette = (s.vatAt v).palette := by
  simp [State.raise]

theorem State.raise_gens (s : State) (v : Nat) (f : FFlags) : ((s.raise v f).vatAt v).gens = (s.vatAt v).gens := by
  simp [State.raise]

/-- R148, R225: the drain delivers the 256 cells of its cycle. -/
theorem State.readDrain_cells {s : State} {v cyc : Nat} {q : Drain} {cs : List (BitVec 32)} (hq : (s.vatAt v).drain = some q)
    (hc : q.cells = some cs) (h1 : q.cycle + 4 ≤ cyc) (h2 : cyc < q.cycle + 68) :
    (s.readDrain v cyc).1.xs = (cs.drop (256 * (cyc - q.cycle - 4))).take 256 := by
  unfold State.readDrain
  simp [hq, hc, h1, h2]

/-! ### The issue stage -/

theorem State.issue_idle {s : State} {v cyc : Nat} (h : s.runningOn v = none ∨ (s.vatAt v).wait ≠ .none ∨ (s.vatAt v).todo ≠ []) :
    s.issue v cyc = s := by
  unfold State.issue
  split
  · rfl
  · next k hk => exact if_pos (by simpa [hk] using h)

section
variable {s : State} {v cyc k : Nat} {w : BitVec 256} (hb : Tab.find? (s.vatAt v).buffer (s.vatAt v).next = some w)
include hb

/-- R161: a bundle that is not of NOP slots alone does not pass. -/
theorem State.passNops_acts (ha : bundleBad w ≠ none ∨ bundleActs w ≠ []) (n : Nat) : State.passNops k v cyc n s = s := by
  cases n with
  | zero => rfl
  | succ n =>
    unfold State.passNops
    dsimp only
    rw [hb]
    refine if_pos ?_
    rcases ha with ha | ha
    · simp [Option.isSome_iff_ne_none.mpr ha]
    · simp [ha]

/-- R161, R222, R224: on a vat that waits for nothing and whose last bundle has acted whole, a bundle that is due and not of NOP slots
alone stalls, issues, or is late. -/
theorem State.issue_due (hk : s.runningOn v = some k) (hw : (s.vatAt v).wait = .none) (ht : (s.vatAt v).todo = [])
    (hd : s.due (s.vatAt v) w cyc = true) (ha : bundleBad w ≠ none ∨ bundleActs w ≠ []) : s.issue v cyc =
      if (s.vatAt v).waits w then s.modVat v (fun x => { x with stall := some ((x.dueCycle w).getD cyc) })
      else if !(s.vatAt v).onTime w cyc then s
      else match bundleBad w with
        | some i => (s.beginBundle k v cyc w).encodingTrap k v (s.vatAt v).next i
        | none => s.beginBundle k v cyc w := by
  unfold State.issue
  rw [hk]
  dsimp only
  rw [if_neg (by simp [hw, ht]), State.passNops_acts hb ha, hb]
  dsimp only
  exact if_neg (by simp [hd])

end

/-- Settles O20: the slot by whether it has a palette operand and by what its descriptor names; the issue stage by the branches of a
bundle that is due. -/
theorem vectorPaletteForms : Obligations.VectorPaletteForms := by
  unfold Obligations.VectorPaletteForms
  refine ⟨fun s v cyc k w op u c hi hc => ?_, fun s v op fmt addr cyc i hi he hf => ?_, fun s v op fmt addr cyc mode sat l a hf => ?_,
    fun s v cyc q cs => State.readDrain_cells, fun s v cyc k w hk hw ht hb hd => ?_, fun s v cyc => State.issue_idle⟩
  · intro b r addr n src dst use read
    have hx : exec c s = ok (u.vecAct k v.val cyc op w) := (exec_vectorSlot hc s).trans (congrArg ok (State.slotAct_issues hi _))
    have hp (h : src ∨ dst) : exec c s = ok (vecAddressed r k v.val cyc op w b) := by rw [hx, State.vecAct_palette h]
    refine ⟨fun hs hd => by rw [hx, State.vecAct_plain (not_or.mpr ⟨hs, hd⟩)]; rfl, fun h he => ?_, fun h he hf => ?_, fun cause h he hf hu => ?_,
      fun ports h he hf hu => ?_⟩
    · exact (hp h).trans (congrArg ok (vecAddressed_poison he ..))
    · exact (hp h).trans (congrArg ok (vecAddressed_reserved he hf ..))
    · exact (hp h).trans (congrArg ok (vecAddressed_port he hf hu k b))
    · obtain ⟨hue, hrun⟩ := vecAddressed_reaches he hf hu k b
      exact ⟨fun a ha => (hp h).trans (congrArg ok (hue a ha)), fun ha => (hp h).trans (congrArg ok (hrun ha))⟩
  · rw [State.readPal_lanes he hf]
    simp [hi]
  · intro gs bs t
    have ht : t = _ := State.writePal_taken hf s v addr cyc mode sat
    refine ⟨?_, fun hm i hi => ?_, ?_⟩
    · rw [ht, State.raise_palette, State.vatAt_modVat]
      exact Mem.get_write _ _ _ _
    · rw [ht, State.raise_gens, State.vatAt_modVat]
      dsimp only
      rw [if_pos hm]
      exact Tab.get_setBlock_zero _ (by rw [Vat.length_draws]; exact hi) _ _
    · intro x
      rw [ht]
      rfl
  · have hx := fun ha => State.issue_due hb hk hw ht hd ha
    refine ⟨fun i hn ho hi => ?_, fun hn ho hi ha => ?_, fun hn ha => ?_⟩
    · rw [hx (.inl (by simp [hi])), if_neg (ne_true_of_eq_false hn), if_neg (by simp [ho]), hi]
    · rw [hx (.inr ha), if_neg (ne_true_of_eq_false hn), if_neg (by simp [ho]), hi]
    · rw [hx ha, if_pos hn]
      rfl

end Machine
end Sys2Proof

namespace Sys2Proof
namespace Machine

/-! Tiles (R127, R153, R156, R157, R290-R292, R298, R392): what a start of a tile does where its pages pass or fail the check, and how a
tile's lines move when it completes. -/

/-! ### A line joins its plan queue -/

theorem Tab.any_of_find {α : Type} (q : α → Bool) (t : Tab α) (k : Nat) (h : (Tab.find? t k).any q = true) : t.any (fun p => q p.2) = true := by
  induction t with
  | nil => simp [Tab.find?] at h
  | cons p t ih =>
    obtain ⟨j, u⟩ := p
    by_cases hj : j = k
    · simp_all [Tab.find?]
    · simp only [Tab.find?, if_neg hj] at h
      simp [ih h]

/-- A value that is set changes no question about some listed value that it answers as the one before it. -/
theorem Tab.any_set {α : Type} {q : α → Bool} {t : Tab α} {k : Nat} {v : α} (h : q v = (Tab.find? t k).any q) :
    (Tab.set t k v).any (fun p => q p.2) = t.any (fun p => q p.2) := by
  induction t with
  | nil => simpa [Tab.find?, Tab.set] using h
  | cons p t ih =>
    obtain ⟨j, u⟩ := p
    by_cases hj : j = k
    · simp_all [Tab.find?, Tab.set]
    · simp only [Tab.find?, if_neg hj] at h
      unfold Tab.set
      split
      · by_cases hv : q v = true
        · simp [Tab.any_of_find q t k (h ▸ hv)]
        · simp [hv]
      · rw [if_neg (Ne.symm hj), List.any_cons, List.any_cons, ih h]

/-- Only the calendar's part differs, and no slice is armed or disarmed for a test. -/
def CalendarOnly (s t : State) : Prop := t = { s with cal := t.cal } ∧ t.orderedMode = s.orderedMode

theorem CalendarOnly.trans {s t u : State} (h : CalendarOnly s t) (k : CalendarOnly t u) : CalendarOnly s u := by
  refine ⟨?_, k.2.trans h.2⟩
  have hu := k.1
  rw [h.1] at hu
  rw [hu]

/-- R317: a change of a slice that leaves its test as it is. -/
theorem State.modSlice_orderedMode (s : State) (k : Nat) {f : Slice → Slice} (hf : ∀ x, (f x).armed = x.armed) :
    (s.modSlice k f).orderedMode = s.orderedMode := by
  have h : (s.modSlice k f).cal.slices.any (fun p => p.2.armed = some .crossbar) = s.cal.slices.any (fun p => p.2.armed = some .crossbar) := by
    refine Tab.any_set (q := fun x : Slice => decide (x.armed = some .crossbar)) ?_
    simp only [hf]
    unfold State.sliceAt Tab.get
    cases Tab.find? s.cal.slices k <;> rfl
  unfold State.orderedMode
  rw [h]
  rfl

theorem State.planRequest_calendarOnly (s : State) (k dpa : Nat) (write : Bool) : CalendarOnly s (s.planRequest k dpa write) := by
  refine ⟨rfl, State.modSlice_orderedMode s _ fun x => ?_⟩
  split
  · split <;> rfl
  · rfl

/-- R127, R156: a line of a tile joins the plan queue of its slice, a write to an armoured page behind the read of the old line. -/
def State.planLine (s : State) (k : Nat) (writes : Bool) (dpa : Nat) : State :=
  (if writes && s.armourBytes dpa ≠ 0 then s.planRequest k dpa false else s).planRequest k dpa writes

theorem State.planLine_calendarOnly (s : State) (k : Nat) (writes : Bool) (dpa : Nat) : CalendarOnly s (s.planLine k writes dpa) := by
  unfold State.planLine
  split
  · exact (s.planRequest_calendarOnly k dpa false).trans (State.planRequest_calendarOnly _ k dpa writes)
  · exact s.planRequest_calendarOnly k dpa writes

theorem State.planLine_mem (s : State) (k : Nat) (writes : Bool) (dpa : Nat) : (s.planLine k writes dpa).med.mem = s.med.mem := by
  rw [(s.planLine_calendarOnly k writes dpa).1]

/-! ### A tile starts -/

/-- R156: a line of a tile is local, and an HDM-DB one can be served at once or is of a window. -/
def State.servesLine (s : State) (l : Nat) (c : TileCmd) (q : Nat × Nat) : Prop :=
  s.isLocal (c.ppa q.1) = true ∧ (s.isHdmDb (ppaDpa (c.ppa q.1)) = true →
    s.lineReady l (ppaDpa (c.ppa q.1) / 64) c.writes = true ∨ s.throughLine (ppaDpa (c.ppa q.1) / 64) = true)

theorem CalendarOnly.servesLine {s t : State} (h : CalendarOnly s t) {l : Nat} {c : TileCmd} {q : Nat × Nat} (hs : s.servesLine l c q) :
    t.servesLine l c q := by
  have hr (n : Nat) : t.lineReady l n c.writes = s.lineReady l n c.writes := by
    unfold State.lineReady
    rw [h.2, h.1]
    rfl
  unfold State.servesLine
  simp only [hr]
  rw [h.1]
  exact hs

/-- R392: a line of a tile on another chip: its request goes there, and meets poison where no way is open. -/
def State.awayLine (s : State) (v : Fin 34) (e : Fin 6) (k : Nat) (c : TileCmd) (q : Nat × Nat) : State :=
  let d := if c.writes then s.palLine k v.val q.2 else (some [], s)
  let h : PktHdr := { (default : PktHdr) with
    vc := 0, type := if c.writes then 3 else 1, dest := ppaCoord (c.ppa q.1), units := if c.writes && d.1.isSome then 4 else 0,
    status := if d.1.isSome then 0 else 1, lines := if c.writes then 0 else 1, tenant := s.ctxTenant k, reqKind := 0, dpa := ppaDpa (c.ppa q.1) }
  let r := d.2.poolRequest h (d.1.getD []) (some (.stream v e))
  if r.1 then r.2 else r.2.tilePoison k v.val e.val (c.ppa q.1)

/-- R290, R291: what a tile that runs asks for a line. -/
def State.startLine (v : Fin 34) (e : Fin 6) (k l : Nat) (c : TileCmd) (s : State) (q : Nat × Nat) : State :=
  if s.isLocal (c.ppa q.1) then
    let t := s.planLine k c.writes (ppaDpa (c.ppa q.1))
    if t.isHdmDb (ppaDpa (c.ppa q.1)) && !t.lineReady l (ppaDpa (c.ppa q.1) / 64) c.writes && !t.throughLine (ppaDpa (c.ppa q.1) / 64) then
      t.homeRequest { kind := if c.writes then .rdO else .rdS, who := .vat (Fin.ofNat 32 l), line := ppaDpa (c.ppa q.1) / 64, data := [] }
    else t
  else if ((s.vatAt v.val).queue e.val).isEmpty then s
  else s.awayLine v e k c q

theorem State.startLine_served {s : State} {l : Nat} {c : TileCmd} {q : Nat × Nat} (h : s.servesLine l c q) (v : Fin 34) (e : Fin 6) (k : Nat) :
    State.startLine v e k l c s q = s.planLine k c.writes (ppaDpa (c.ppa q.1)) := by
  refine (if_pos h.1).trans (if_neg ?_)
  have ht := ((s.planLine_calendarOnly k c.writes (ppaDpa (c.ppa q.1))).servesLine h).2
  simp only [Bool.and_eq_true, Bool.not_eq_true', not_and, Bool.not_eq_false]
  exact fun ⟨hd, hn⟩ => (ht hd).resolve_left (ne_true_of_eq_false hn)

theorem State.foldl_startLine_served {l : Nat} {c : TileCmd} {qs : List (Nat × Nat)} {s : State} (h : ∀ q, q ∈ qs → s.servesLine l c q)
    (v : Fin 34) (e : Fin 6) (k : Nat) :
    qs.foldl (State.startLine v e k l c) s = qs.foldl (fun u q => u.planLine k c.writes (ppaDpa (c.ppa q.1))) s := by
  induction qs generalizing s with
  | nil => rfl
  | cons q qs ih =>
    rw [List.foldl_cons, List.foldl_cons, State.startLine_served (h q List.mem_cons_self)]
    exact ih fun p hp => (s.planLine_calendarOnly ..).servesLine (h p (List.mem_cons_of_mem q hp))

/-- R290: the pins of the pages that a tile touches, each once. -/
def State.tilePins (s : State) (k : Nat) (c : TileCmd) : List (Nat × Nat × Nat) :=
  ((tilePages c).filterMap (fun va => (s.pinFor k va).map (fun p => (p.baseVa, p.shift, p.ppa)))).foldl
    (fun a p => if a.contains p then a else a ++ [p]) []

/-- The tile as it runs on its pins. -/
def State.tileRunning (s : State) (k : Nat) (c : TileCmd) : TileCmd := { c with running := true, pins := s.tilePins k c }

/-- R291: a tile that passed the check is at the head of its engine, and its pins count it. -/
def State.startTile (s : State) (v e k : Nat) (c : TileCmd) (rest : List TileCmd) : State :=
  let l2 := s.tlb.l2.map (fun p =>
    if p.ctx = k && c.pins.any (fun (u : Nat × Nat × Nat) => u.1 = p.baseVa) && p.locked then { p with running := p.running + 1 } else p)
  ({ s with tlb := { s.tlb with l2 := l2 } } : State).modVat v (fun x => { x with
    engines := Tab.set x.engines e (c :: rest),
    utlb := useUtlb x.utlb (c.pins.map (fun (u : Nat × Nat × Nat) => (u.1 >>> u.2.1, u.2.1))) })

theorem State.startTile_servesLine {s : State} {l : Nat} {c : TileCmd} {q : Nat × Nat} (h : s.servesLine l c q) (v e k : Nat) (d : TileCmd)
    (rest : List TileCmd) : (s.startTile v e k d rest).servesLine l c q := h

theorem State.startTile_queue (s : State) (v e k : Nat) (c : TileCmd) (rest : List TileCmd) :
    ((s.startTile v e k c rest).vatAt v).queue e = c :: rest := by
  unfold State.startTile
  simp [Vat.queue]

theorem State.startTile_mem (s : State) (v e k : Nat) (c : TileCmd) (rest : List TileCmd) : (s.startTile v e k c rest).med.mem = s.med.mem := rfl

section
variable {s : State} {v : Fin 34} {e : Fin 6} {k : Nat} {c : TileCmd} {rest : List TileCmd}
  (ho : (s.vatAt v.val).owner = some k) (hq : (s.vatAt v.val).queue e.val = c :: rest)
include ho hq

theorem execTileStart_running (hr : c.running = true) : execTileStart v e s = ok s := by
  unfold execTileStart
  dsimp only
  rw [ho, hq]
  exact if_pos hr

theorem execTileStart_passes (hr : c.running = false) (hc : s.checkTile k c = none) :
    execTileStart v e s = ok ((tileLines (s.tileRunning k c)).foldl
      (State.startLine v e k ((s.logical v.val).getD 0) (s.tileRunning k c)) (s.startTile v.val e.val k (s.tileRunning k c) rest)) := by
  unfold execTileStart
  dsimp only
  rw [ho, hq]
  dsimp only
  rw [if_neg (ne_true_of_eq_false hr), hc]
  rfl

/-- R156, R291: every line joins its plan queue where all are local and none waits for a host. -/
theorem execTileStart_served (hr : c.running = false) (hc : s.checkTile k c = none)
    (hl : ∀ q, q ∈ tileLines (s.tileRunning k c) → s.servesLine ((s.logical v.val).getD 0) (s.tileRunning k c) q) :
    execTileStart v e s = ok ((tileLines (s.tileRunning k c)).foldl
      (fun u q => u.planLine k (s.tileRunning k c).writes (ppaDpa ((s.tileRunning k c).ppa q.1)))
      (s.startTile v.val e.val k (s.tileRunning k c) rest)) := by
  rw [execTileStart_passes ho hq hr hc, State.foldl_startLine_served fun q h => State.startTile_servesLine (hl q h) ..]

/-- R392: the only line of a tile lies on another chip. -/
theorem execTileStart_away (hr : c.running = false) (hc : s.checkTile k c = none) {q : Nat × Nat}
    (hl : tileLines (s.tileRunning k c) = [q]) (ha : s.isLocal ((s.tileRunning k c).ppa q.1) = false) :
    execTileStart v e s = ok ((s.startTile v.val e.val k (s.tileRunning k c) rest).awayLine v e k (s.tileRunning k c) q) := by
  rw [execTileStart_passes ho hq hr hc, hl]
  refine congrArg ok ((if_neg ?_).trans (if_neg ?_))
  · exact ne_true_of_eq_false ha
  · rw [State.startTile_queue]
    nofun

/-- R290-R292: a page of the tile fails the check. -/
theorem execTileStart_fails (hr : c.running = false) {va cause : Nat} (hc : s.checkTile k c = some (va, cause)) :
    let pin := s.pinFor k va
    let base := (pin.map L2Entry.baseVa).getD (va / 4096 * 4096)
    let st := (s.vatAt v.val).step
    let j := if pin.any (fun p => p.invalid || p.absent.isSome) then s.joinPtt k ((s.logical v.val).getD 0) base else (0, s)
    execTileStart v e s = ok (((j.2.stepFault k st 0x0803 (translationPayload k st c.tile va cause) base j.1).engineFails k v.val
      e.val).settleFault k) := by
  intro pin base st j
  unfold execTileStart
  dsimp only
  rw [ho, hq]
  dsimp only
  rw [if_neg (ne_true_of_eq_false hr), hc]

/-! ### A tile completes -/

theorem execTileComplete_waits
    (h : c.running = false ∨ s.pool.reqs.any (fun r => r.owner = some (.stream v e)) = true) : execTileComplete v e s = ok s := by
  unfold execTileComplete
  dsimp only
  rw [ho, hq]
  exact if_pos (by simpa using h)

/-- R157, R298: with no request outstanding and no line that a host must give up, the tile's lines move and it is done. -/
theorem execTileComplete_lands (hr : c.running = true) (hm : s.pool.reqs.any (fun r => r.owner = some (.stream v e)) = false)
    (hl : ∀ q, q ∈ tileLines c → s.isLocal (c.ppa q.1) = true → s.isHdmDb (ppaDpa (c.ppa q.1)) = true →
      s.lineReady ((s.logical v.val).getD 0) (ppaDpa (c.ppa q.1) / 64) c.writes = true ∨ s.throughLine (ppaDpa (c.ppa q.1) / 64) = true) :
    let s1 := State.moveLines k v.val e.val ((s.logical v.val).getD 0) c (tileLines c) s
    (s1.vatAt v.val).queue e.val = c :: rest →
    execTileComplete v e s = ok (((s1.releasePins k (c.pins.map (fun (p : Nat × Nat × Nat) => p.1))).modVat v.val (fun x =>
      { (x.setToken c.token false) with
        engines := Tab.set x.engines e.val rest, stepCount := { x.stepCount with tiles := x.stepCount.tiles + 1 } })).payRecord k) := by
  intro s1 h1
  have late : (tileLines c).filter (fun q => s.isLocal (c.ppa q.1) && s.isHdmDb (ppaDpa (c.ppa q.1))
      && !s.lineReady ((s.logical v.val).getD 0) (ppaDpa (c.ppa q.1) / 64) c.writes && !s.throughLine (ppaDpa (c.ppa q.1) / 64)) = [] := by
    refine List.filter_eq_nil_iff.mpr fun q hq => ?_
    simp only [Bool.and_eq_true, Bool.not_eq_true', not_and, Bool.not_eq_false]
    exact fun ⟨⟨hloc, hdb⟩, hn⟩ => (hl q hq hloc hdb).resolve_left (ne_true_of_eq_false hn)
  unfold execTileComplete
  dsimp only
  rw [ho, hq]
  dsimp only
  rw [if_neg (by simp [hr, hm]), late, if_neg (by simp), show (s1.vatAt v.val).queue e.val = _ from h1]
  exact if_pos hr

end

theorem execTile_idle {s : State} {v : Fin 34} {e : Fin 6} (h : (s.vatAt v.val).owner = none ∨ (s.vatAt v.val).queue e.val = []) :
    execTileStart v e s = ok s ∧ execTileComplete v e s = ok s := by
  unfold execTileStart execTileComplete
  dsimp only
  rcases h with h | h
  · rw [h]
    exact ⟨rfl, rfl⟩
  · rw [h]
    cases (s.vatAt v.val).owner <;> exact ⟨rfl, rfl⟩

/-! ### Lines move -/

/-- R533: a step counts the 64 bytes of a line that moved. -/
def State.countMoved (s : State) (v : Nat) (c : TileCmd) (remote : Bool) : State :=
  s.modVat v (fun x => { x with
    stepCount := { x.stepCount with
      read := x.stepCount.read + (if c.writes then 0 else 64), write := x.stepCount.write + (if c.writes then 64 else 0),
      remote := x.stepCount.remote + (if remote then 64 else 0) } })

theorem State.palCheck_vatAt (s : State) (v : Nat) (rs : List (Nat × Nat)) (u : Nat) : (s.palCheck v rs).2.vatAt u = s.vatAt u := by
  unfold State.palCheck
  dsimp only
  split <;> rfl

theorem State.palCheck_isHdmDb (s : State) (v : Nat) (rs : List (Nat × Nat)) (dpa : Nat) : (s.palCheck v rs).2.isHdmDb dpa = s.isHdmDb dpa := by
  unfold State.palCheck
  dsimp only
  split <;> rfl

section
variable {s : State} {c : TileCmd} {q : Nat × Nat} (hl : s.isLocal (c.ppa q.1) = true) (hd : s.isHdmDb (ppaDpa (c.ppa q.1)) = false)
include hl hd

theorem State.moveLines_write {v : Nat} (hw : c.writes = true) (hp : (s.palCheck v [(q.2, 64)]).1 = none) (k e l : Nat) (qs : List (Nat × Nat)) :
    State.moveLines k v e l c (q :: qs) s = State.moveLines k v e l c qs
      ((((s.palCheck v [(q.2, 64)]).2.storeLine (ppaDpa (c.ppa q.1) / 64) (Mem.read (s.vatAt v).palette q.2 64) false)).countMoved v c false) := by
  have hpal : s.palLine k v q.2 = (some (Mem.read (s.vatAt v).palette q.2 64), (s.palCheck v [(q.2, 64)]).2) := by
    unfold State.palLine
    dsimp only
    rw [hp, State.palCheck_vatAt]
  have hst (bs : List (BitVec 8)) : (s.palCheck v [(q.2, 64)]).2.vatWrite l (ppaDpa (c.ppa q.1)) bs =
      (s.palCheck v [(q.2, 64)]).2.storeLine (ppaDpa (c.ppa q.1) / 64) bs false :=
    if_neg (by rw [State.palCheck_isHdmDb, hd]; nofun)
  rw [State.moveLines]
  dsimp only
  rw [if_neg (by simp [hl]), if_pos hw, hpal]
  dsimp only
  rw [hst]
  rfl

theorem State.moveLines_read (hw : c.writes = false) (hp : (s.readLine (ppaDpa (c.ppa q.1) / 64)).1.2 = false) (k v e l : Nat)
    (qs : List (Nat × Nat)) :
    State.moveLines k v e l c (q :: qs) s = State.moveLines k v e l c qs
      (((s.readLine (ppaDpa (c.ppa q.1) / 64)).2.modVat v (fun x => x.palWrite q.2 (s.readLine (ppaDpa (c.ppa q.1) / 64)).1.1)).countMoved
        v c false) := by
  have hv : s.vatRead l (ppaDpa (c.ppa q.1)) = s.readLine (ppaDpa (c.ppa q.1) / 64) := if_neg (ne_true_of_eq_false hd)
  rw [State.moveLines]
  dsimp only
  rw [if_neg (by simp [hl]), if_neg (ne_true_of_eq_false hw), hv, if_neg (ne_true_of_eq_false hp)]
  rfl

theorem State.moveLines_poison (hw : c.writes = false) (hp : (s.readLine (ppaDpa (c.ppa q.1) / 64)).1.2 = true) (k v e l : Nat)
    (qs : List (Nat × Nat)) :
    State.moveLines k v e l c (q :: qs) s = (s.readLine (ppaDpa (c.ppa q.1) / 64)).2.tilePoison k v e (c.ppa q.1) := by
  have hv : s.vatRead l (ppaDpa (c.ppa q.1)) = s.readLine (ppaDpa (c.ppa q.1) / 64) := if_neg (ne_true_of_eq_false hd)
  rw [State.moveLines]
  dsimp only
  rw [if_neg (by simp [hl]), if_neg (ne_true_of_eq_false hw), hv, if_pos hp]

end

/-- Settles O27: a start by what the check of the tile's pages found and by where its lines lie, a completion by what it still waits for,
and the movement of a line by its direction. -/
theorem tilesRunAndComplete : Obligations.TilesRunAndComplete := by
  unfold Obligations.TilesRunAndComplete
  refine ⟨fun s v e k c rest ho hq => ⟨execTileStart_running ho hq, fun hr hc => ?_, fun va cause hr hc => ?_⟩, fun s v e => execTile_idle,
    fun s v e k c rest ho hq => ⟨execTileComplete_waits ho hq, execTileComplete_lands ho hq⟩, fun s k v e l c q qs hl hd => ?_⟩
  · intro l pins uniq c1 l2 s1
    refine ⟨fun hl => ⟨_, execTileStart_served ho hq hr hc hl, fun a => ?_, rfl⟩, fun q hl ha => execTileStart_away ho hq hr hc hl ha⟩
    rw [foldl_mem _ (fun u q => State.planLine_mem u _ _ _), State.startTile_mem]
  · exact execTileStart_fails ho hq hr hc
  · intro line p r
    refine ⟨fun hw hp => ?_, fun hw hp => ?_, fun hw hp => State.moveLines_poison hl hd hw hp ..⟩
    · refine (State.moveLines_write hl hd hw hp ..).trans ?_
      simp only [State.countMoved, hw]
      rfl
    · refine (State.moveLines_read hl hd hw hp ..).trans ?_
      simp only [State.countMoved, hw]
      rfl

end Machine
end Sys2Proof

namespace Sys2Proof
namespace Machine

/-! The lane operations of the vector unit (R149, R161, R202, R219, R225): blocks of a table, what a write of a register leaves, the flags of
many lanes, and a slot that works on registers alone. -/

/-! ### Blocks of a table -/

theorem Tab.find_filter {α : Type} (q : Nat → Bool) (t : Tab α) (k : Nat) :
    Tab.find? (t.filter (fun p => q p.1)) k = if q k then Tab.find? t k else none := by
  induction t with
  | nil => simp [Tab.find?]
  | cons p t ih =>
    obtain ⟨j, v⟩ := p
    by_cases hj : j = k
    · subst hj
      by_cases hq : q j = true <;> simp_all [Tab.find?]
    · by_cases hq : q j = true <;> simp_all [Tab.find?]

theorem Tab.find_zipIdx_outside {α : Type} (vs : List α) {base k : Nat} (h : k < base ∨ base + vs.length ≤ k) :
    Tab.find? ((vs.zipIdx base).map (fun p => (p.2, p.1))) k = none := by
  induction vs generalizing base with
  | nil => rfl
  | cons v vs ih =>
    rw [List.length_cons] at h
    have hb : base ≠ k := by omega
    simpa [Tab.find?, hb] using ih (base := base + 1) (by omega)

theorem Tab.get_setBlock {α : Type} (t : Tab α) (base : Nat) (vs : List α) (k : Nat) (d : α) :
    Tab.get (Tab.setBlock t base vs) k d = if base ≤ k ∧ k < base + vs.length then vs.getD (k - base) d else Tab.get t k d := by
  have hlow := Tab.find_filter (fun j => decide (j < base)) t k
  have hhigh := Tab.find_filter (fun j => decide (base + vs.length ≤ j)) t k
  unfold Tab.get Tab.setBlock
  rw [Tab.find_append, Tab.find_append, hlow, hhigh]
  by_cases h : base ≤ k ∧ k < base + vs.length
  · have hin := Tab.find_zipIdx vs base (k - base)
    rw [show base + (k - base) = k by omega] at hin
    rw [hin, if_pos h, List.getElem?_eq_getElem (by omega)]
    simp [show ¬ k < base by omega, show k - base < vs.length by omega]
  · rw [Tab.find_zipIdx_outside vs (by omega), if_neg h]
    by_cases hk : k < base
    · simp [hk, show ¬ base + vs.length ≤ k by omega]
    · simp [hk, show base + vs.length ≤ k by omega]

/-! ### Only one vat differs -/

theorem State.onlyVat_modVat (s : State) (v : Nat) (f : Vat → Vat) : s.onlyVat (s.modVat v f) v :=
  ⟨fun _ => rfl, rfl, fun _ h => State.vatAt_modVat_other s f h⟩

theorem State.onlyVat_trans {s t u : State} {v : Nat} (h : s.onlyVat t v) (k : t.onlyVat u v) : s.onlyVat u v := by
  obtain ⟨hm, ht, hv⟩ := h
  obtain ⟨km, kt, kv⟩ := k
  refine ⟨fun a => (km a).trans (hm a), ?_, fun w hw => (kv w hw).trans (hv w hw)⟩
  rw [kt, ht]

/-! ### Registers and flags -/

/-- R225: what a register's write leaves of the lanes. -/
theorem State.lane_writeReg {l : Lanes} (hl : l.xs.length = 256) (s : State) (v dst cyc lat r : Nat) {i : Nat} (hi : i < 256) :
    (s.writeReg v dst cyc lat l).lane v r i = if r = dst then l.xs.getD i 0 else s.lane v r i := by
  unfold State.lane State.writeReg
  rw [State.vatAt_modVat]
  dsimp only
  rw [Tab.get_setBlock, hl]
  by_cases hr : r = dst
  · subst hr
    rw [if_pos (by omega), if_pos rfl, Nat.add_sub_cancel_left]
  · rw [if_neg (by omega), if_neg hr]

theorem State.lane_raise (s : State) (v : Nat) (f : FFlags) (r i : Nat) : (s.raise v f).lane v r i = s.lane v r i := by
  simp [State.lane, State.raise]

/-- The lanes that a register holds. -/
def State.regLanes (s : State) (v r : Nat) : Lanes := ⟨(List.range 256).map (s.lane v r), (s.vatAt v).regInt.contains r⟩

/-- A register that is readable delivers its lanes and changes nothing (R225). -/
theorem State.readReg_ready {s : State} {v r cyc : Nat} (h : s.regReady v r cyc) : s.readReg v r cyc = (s.regLanes v r, s) :=
  if_neg (Nat.not_lt.mpr h)

/-- R202: a flag is raised by many results where one of them raises it. -/
theorem withFlags_raises {p : FFlags → Bool} (hn : p .none = false) (ho : ∀ a b, p (a.or b) = (p a || p b)) (rs : List (BitVec 32 × FFlags)) :
    p (withFlags rs).2 = true ↔ ∃ r, r ∈ rs ∧ p r.2 = true := by
  have hf (a : FFlags) : p (rs.foldl (fun (a : FFlags) r => a.or r.2) a) = (p a || rs.any (fun r => p r.2)) := by
    induction rs generalizing a with
    | nil => simp
    | cons r rs ih => rw [List.foldl_cons, ih, ho, List.any_cons, Bool.or_assoc]
  unfold withFlags
  rw [hf, hn, Bool.false_or, List.any_eq_true]

/-- The results of the lanes `i` below `n`. -/
theorem laneMap_range (f : BitVec 32 → BitVec 32 → BitVec 32 → BitVec 32 × FFlags) (A B C : Nat → BitVec 32) (n : Nat) :
    laneMap f ((List.range n).map A) ((List.range n).map B) ((List.range n).map C) =
      withFlags ((List.range n).map (fun i => f (A i) (B i) (C i))) := by
  unfold laneMap withFlags
  rw [List.zip_map', List.zip_map', List.map_map]
  rfl

/-- R225: against `u`, a register of a vat holds a lane each of `f`, usable from cycle `due` on, and no other register, no other vat and no byte of
memory differs; `s` has the same memory. -/
def RegWritten (s u t : State) (v dst due : Nat) (f : Nat → BitVec 32) : Prop :=
  SameBytes s t ∧ u.onlyVat t v ∧ (∀ i, i < 256 → t.lane v dst i = f i) ∧
  (∀ r i, r ≠ dst → i < 256 → t.lane v r i = u.lane v r i) ∧ Tab.get (t.vatAt v).ready dst 0 = due

/-- R225: 256 lanes enter a register, after any flags. -/
theorem State.regWritten {s u : State} (hm : u.med = s.med) {l : Lanes} (hl : l.xs.length = 256) (v dst cyc lat : Nat) (fl : FFlags) :
    RegWritten s u ((u.raise v fl).writeReg v dst cyc lat l) v dst (cyc + lat) (fun i => l.xs.getD i 0) := by
  refine ⟨fun a => by rw [← hm]; rfl, State.onlyVat_trans (State.onlyVat_modVat ..) (State.onlyVat_modVat ..), fun i hi => ?_, fun q i hq hi => ?_, ?_⟩
  · rw [State.lane_writeReg hl _ _ _ _ _ _ hi, if_pos rfl]
  · rw [State.lane_writeReg hl _ _ _ _ _ _ hi, if_neg hq, State.lane_raise]
  · simp [State.writeReg]

theorem RegWritten.congr {s u t : State} {v dst due : Nat} {f g : Nat → BitVec 32} (h : RegWritten s u t v dst due f)
    (e : ∀ i, i < 256 → f i = g i) : RegWritten s u t v dst due g := by
  obtain ⟨hm, hv, hd, ho, hr⟩ := h
  exact ⟨hm, hv, fun i hi => (hd i hi).trans (e i hi), ho, hr⟩

/-- R202, R219, R225: a register written with the result of each lane, the lanes' flags added to the vat's. -/
def LanesWritten (s u t : State) (v dst due : Nat) (f : Nat → BitVec 32 × FFlags) : Prop :=
  SameBytes s t ∧ u.onlyVat t v ∧ (∀ i, i < 256 → t.lane v dst i = (f i).1) ∧
  (∀ r i, r ≠ dst → i < 256 → t.lane v r i = u.lane v r i) ∧ Tab.get (t.vatAt v).ready dst 0 = due ∧
  ((t.vatAt v).overflow = true ↔ (u.vatAt v).overflow = true ∨ ∃ i, i < 256 ∧ (f i).2.overflow = true) ∧
  ((t.vatAt v).invalid = true ↔ (u.vatAt v).invalid = true ∨ ∃ i, i < 256 ∧ (f i).2.invalid = true) ∧
  ((t.vatAt v).nanDrop = true ↔ (u.vatAt v).nanDrop = true ∨ ∃ i, i < 256 ∧ (f i).2.nanDrop = true)

/-- R202, R225: a result of 256 lanes raises its flags and enters its register. -/
theorem State.lanesWritten {s u : State} (hm : u.med = s.med) (v dst cyc lat : Nat) (f : Nat → BitVec 32 × FFlags) (int : Bool) :
    let r := withFlags ((List.range 256).map f)
    LanesWritten s u ((u.raise v r.2).writeReg v dst cyc lat ⟨r.1, int⟩) v dst (cyc + lat) f := by
  intro r
  have flag {p : FFlags → Bool} (hn : p .none = false) (ho : ∀ a b, p (a.or b) = (p a || p b)) :
      p r.2 = true ↔ ∃ i, i < 256 ∧ p (f i).2 = true := by
    rw [withFlags_raises hn ho]
    simp
  obtain ⟨hb, hv, hd, ho, hr⟩ := (State.regWritten hm (l := ⟨r.1, int⟩) (by simp [r, withFlags]) v dst cyc lat r.2).congr
    (g := fun i => (f i).1) (fun i hi => by simp [r, withFlags, hi])
  refine ⟨hb, hv, hd, ho, hr, ?_, ?_, ?_⟩
  · rw [← flag (p := FFlags.overflow) rfl fun _ _ => rfl]
    simp [State.writeReg, State.raise]
  · rw [← flag (p := FFlags.invalid) rfl fun _ _ => rfl]
    simp [State.writeReg, State.raise]
  · rw [← flag (p := FFlags.nanDrop) rfl fun _ _ => rfl]
    simp [State.writeReg, State.raise]

/-! ### The slot -/

/-- R219, R225: a slot of registers alone, all of them readable. -/
theorem State.vecRun_registers {u : State} {v cyc op w : Nat} (h19 : op ≠ 19) (h20 : op ≠ 20) (hs : bitsAt w 31 30 = 0) (hd : bitsAt w 33 32 = 0)
    (ha : u.regReady v (bitsAt w 17 12) cyc) (hb : u.regReady v (bitsAt w 23 18) cyc) (hc : u.regReady v (bitsAt w 29 24) cyc) (addr : Nat) :
    let r := withFlags ((List.range 256).map (fun i =>
      laneOp op (u.lane v (bitsAt w 17 12) i) (u.lane v (bitsAt w 23 18) i) (u.lane v (bitsAt w 29 24) i)))
    ∃ int, u.vecRun v cyc op w addr = (u.raise v r.2).writeReg v (bitsAt w 11 6) cyc 4 ⟨r.1, int⟩ := by
  intro r
  have hq : u.vecSources v cyc op w addr = ((u.regLanes v (bitsAt w 17 12), u.regLanes v (bitsAt w 23 18), u.regLanes v (bitsAt w 29 24)), u) := by
    unfold State.vecSources
    simp only [hs, State.readReg_ready ha, State.readReg_ready hb, State.readReg_ready hc]
  unfold State.vecRun
  simp only [hq, vecResult, State.regLanes, if_neg h19, if_neg h20, if_pos hd, laneMap_range]
  exact ⟨_, rfl⟩

/-- R161: where no slot is ready, the command does no more than the issue stage. -/
theorem State.slotAct_none {s : State} {v cyc op : Nat} {slots : List Nat} (h : s.slotReady v cyc slots op = none) (f : Nat → Nat → State → State) :
    s.slotAct v cyc slots op f = s.issue v cyc := by
  unfold State.slotAct
  rw [h]

theorem State.vectorSlot_lanes {s u : State} {v : Fin 34} {cyc op k w : Nat} {c : Instr} (hx : exec c s = ok (s.vectorSlot v.val cyc op))
    (hi : s.issues v.val cyc [1] op k w u) (h19 : op ≠ 19) (h20 : op ≠ 20) (hs : bitsAt w 31 30 = 0) (hd : bitsAt w 33 32 = 0)
    (ha : u.regReady v.val (bitsAt w 17 12) cyc) (hb : u.regReady v.val (bitsAt w 23 18) cyc) (hc : u.regReady v.val (bitsAt w 29 24) cyc) :
    ∃ t, exec c s = .next t ∧ LanesWritten s u t v.val (bitsAt w 11 6) (cyc + 4) (fun i =>
      laneOp op (u.lane v.val (bitsAt w 17 12) i) (u.lane v.val (bitsAt w 23 18) i) (u.lane v.val (bitsAt w 29 24) i)) := by
  have hn : ¬ VecPalette op w := by simp [VecPalette, hs, hd]
  obtain ⟨int, hr⟩ := State.vecRun_registers h19 h20 hs hd ha hb hc 0
  refine ⟨_, hx.trans (congrArg ok ?_), State.lanesWritten hi.2 v.val (bitsAt w 11 6) cyc 4 _ int⟩
  unfold State.vectorSlot
  rw [State.slotAct_issues hi, State.vecAct_plain hn, hr]

/-- Settles O18: the lane operations differ in the function of the lanes alone. -/
theorem vectorLaneOperations : Obligations.VectorLaneOperations := by
  unfold Obligations.VectorLaneOperations
  refine ⟨fun s v cyc k w op u hi _ hs hd ha hb hc => ?_, fun s v cyc op c hc hn => (exec_vectorSlot hc s).trans (congrArg ok (State.slotAct_none hn _))⟩
  intro A B C res
  refine ⟨?_, ?_, ?_, ?_, ?_, ?_, ?_, ?_, ?_, ?_, ?_, ?_, ?_, ?_, ?_, ?_⟩
  all_goals
    rintro rfl
    exact State.vectorSlot_lanes rfl hi (by decide) (by decide) hs hd ha hb hc

end Machine
end Sys2Proof

namespace Sys2Proof
namespace Machine

/-! The exponential and reduce unit (R150, R185, R202, R220, R225): what a slot writes, the segments of a register, the order of a sum, and the
exponential. -/

/-! ### The slot -/

/-- R533: a step counts exponentials. -/
def State.countExps (s : State) (v n : Nat) : State :=
  s.modVat v (fun x => { x with stepCount := { x.stepCount with exps := x.stepCount.exps + n } })

theorem RegWritten.countExps {s u t : State} {v dst due : Nat} {f : Nat → BitVec 32} (h : RegWritten s u t v dst due f) (n : Nat) :
    RegWritten s u (t.countExps v n) v dst due f := by
  obtain ⟨hm, hv, hd, ho, hr⟩ := h
  have hx : (t.countExps v n).vatAt v = { t.vatAt v with stepCount := { (t.vatAt v).stepCount with exps := (t.vatAt v).stepCount.exps + n } } :=
    State.vatAt_modVat ..
  have hl (r i : Nat) : (t.countExps v n).lane v r i = t.lane v r i := by
    unfold State.lane
    rw [hx]
  exact ⟨hm, State.onlyVat_trans hv (State.onlyVat_modVat ..), fun i hi => (hl _ i).trans (hd i hi), fun r i hr hi => (hl r i).trans (ho r i hr hi),
    by rw [hx]; exact hr⟩

/-- R220, R225: a slot that is ready and reads a readable FP32 register writes 256 results to its register. -/
theorem State.expSlot_writes {s u : State} {v cyc op k w : Nat} (hi : s.issues v cyc [2] op k w u) (hr : u.regReady v (bitsAt w 12 7) cyc)
    (hf : (u.vatAt v).regInt.contains (bitsAt w 12 7) = false) {r : List (BitVec 32) × FFlags} (hl : r.1.length = 256) (lat : Nat)
    {f : Nat → List (BitVec 32) → List (BitVec 32) × FFlags} (hx : f (bitsAt w 6 3) ((List.range 256).map (u.lane v (bitsAt w 12 7))) = r) :
    let t := s.expSlot v cyc op lat f
    RegWritten s u t v (bitsAt w 18 13) (cyc + lat) (fun i => r.1.getD i 0) ∧
    (t.vatAt v).stepCount.exps = (u.vatAt v).stepCount.exps + (if op = 1 then 256 else 0) ∧
    ((t.vatAt v).overflow = true ↔ (u.vatAt v).overflow = true ∨ r.2.overflow = true) := by
  have hq : u.readExp v (bitsAt w 12 7) cyc = ((List.range 256).map (u.lane v (bitsAt w 12 7)), u) := by
    unfold State.readExp
    rw [State.readReg_ready hr]
    exact if_neg (ne_true_of_eq_false hf)
  have ht : s.expSlot v cyc op lat f =
      ((u.raise v r.2).writeReg v (bitsAt w 18 13) cyc lat ⟨r.1, false⟩).countExps v (if op = 1 then 256 else 0) := by
    unfold State.expSlot
    rw [State.slotAct_issues hi]
    dsimp only
    rw [hq]
    dsimp only
    rw [hx]
    rfl
  intro t
  rw [show t = _ from ht]
  refine ⟨(State.regWritten hi.2 hl v _ cyc lat r.2).countExps _, ?_, ?_⟩
  · simp [State.countExps, State.writeReg, State.raise]
  · simp [State.countExps, State.writeReg, State.raise]

/-- R220: each operation of the slot, by its number. -/
theorem exec_expSlot {v : Fin 34} {cyc op : Nat} {c : Instr} (h : (op, c) ∈ [(1, Instr.exp2 v cyc), (2, .rmax v cyc), (3, .rmin v cyc), (4, .rsum v cyc)])
    (s : State) : ∃ lat f, exec c s = ok (s.expSlot v.val cyc op lat f) := by
  simp only [List.mem_cons, Prod.mk.injEq, List.not_mem_nil, or_false] at h
  rcases h with ⟨rfl, rfl⟩ | ⟨rfl, rfl⟩ | ⟨rfl, rfl⟩ | ⟨rfl, rfl⟩ <;> exact ⟨_, _, rfl⟩

/-! ### Segments -/

/-- R150: the segments of a register, from its lanes. -/
theorem segments_range (A : Nat → BitVec 32) (n : Nat) : segments n ((List.range 256).map A) =
    (List.range (2 ^ n)).map (fun g => (List.range (256 / 2 ^ n)).map (fun i => A (g * (256 / 2 ^ n) + i))) := by
  refine List.map_congr_left fun g hg => ?_
  have hle : (g + 1) * (256 / 2 ^ n) ≤ 256 :=
    (Nat.mul_le_mul_right _ (List.mem_range.mp hg)).trans (Nat.mul_div_le 256 (2 ^ n))
  rw [Nat.succ_mul] at hle
  refine List.ext_getElem ?_ fun i _ _ => ?_
  · simp
    omega
  · simp

theorem segLanes_length {rs : List (BitVec 32)} (h : rs.length ≤ 256) : (segLanes rs).length = 256 := by
  simp [segLanes]
  omega

/-- R220: the results of the segments lie in the first lanes, +0 in the others. -/
theorem segLanes_getD (F : Nat → BitVec 32) (n i : Nat) : (segLanes ((List.range n).map F)).getD i 0 = if i < n then F i else 0 := by
  unfold segLanes
  by_cases h : i < n
  · simp [h, List.getElem?_append_left]
  · rw [if_neg h, List.getD_append_right _ _ _ _ (by simpa using h)]
    simp only [List.getD_eq_getElem?_getD, List.getElem?_replicate]
    split <;> rfl

/-- R150: the sums of the segments. -/
def segSums (n : Nat) (xs : List (BitVec 32)) : List (BitVec 32) × FFlags :=
  withFlags ((segments n xs).map (fun g => treeSum g (sumOrder (8 - n))))

theorem segSums_lanes (n : Nat) (xs : List (BitVec 32)) : (segSums n xs).1 = (segments n xs).map (fun g => (treeSum g (sumOrder (8 - n))).1) := by
  simp [segSums, withFlags]

/-! ### The order of a sum -/

theorem treeLeaves_balanced (k b : Nat) : treeLeaves (balanced k b) = List.range' b (2 ^ k) := by
  induction k generalizing b with
  | zero => rfl
  | succ k ih =>
    rw [balanced, treeLeaves, ih, ih, Nat.pow_succ, Nat.mul_two, List.range'_append_1]

/-- R150: the order of a sum holds every lane once. -/
theorem sumOrder_leaves (k : Nat) : (treeLeaves (sumOrder k)).length = 2 ^ k ∧ ∀ i, i < 2 ^ k → i ∈ treeLeaves (sumOrder k) := by
  unfold sumOrder
  dsimp only
  split
  · next h => simpa using h
  · rw [treeLeaves_balanced]
    exact ⟨List.length_range', fun i hi => by simpa using hi⟩

/-! ### The exponential -/

theorem fExp2_small {a : BitVec 32} {neg : Bool} {m : Nat} {e : Int} (hf : f32 a = .fin neg m e) (h : FVal.lt (f32 a) (.fin true 126 0) = true) :
    (fExp2 a).1 = 0 := by
  rw [hf] at h
  unfold fExp2
  rw [hf]
  dsimp only
  rw [if_pos h]

/-- R150: from -126 on, the unit's candidate within the bound, or the nearest FP32 value (log entry 9). -/
theorem fExp2_near {a : BitVec 32} {neg : Bool} {m : Nat} {e : Int} (hf : f32 a = .fin neg m e) (h : FVal.lt (f32 a) (.fin true 126 0) = false) :
    exp2Near (fExp2 a).1 (exp2Approx neg m e).1 (exp2Approx neg m e).2 = true ∨
      (fExp2 a).1 = (roundF32 (.fin false (exp2Approx neg m e).1 (exp2Approx neg m e).2) [f32 a]).1 := by
  rw [hf] at h
  unfold fExp2
  rw [hf]
  dsimp only
  rw [if_neg (ne_true_of_eq_false h)]
  split
  · next hc =>
    simp only [Bool.and_eq_true] at hc
    obtain ⟨⟨hnear, -⟩, -⟩ := hc
    exact .inl hnear
  · exact .inr rfl

/-- Settles O21: a slot writes one register, whatever it makes of the lanes; then what each operation makes of them. -/
theorem exponentialAndReduce : Obligations.ExponentialAndReduce := by
  unfold Obligations.ExponentialAndReduce
  refine ⟨fun s v cyc k w op u hi h8 hr hf => ?_, fun s v cyc op c hc hn => ?_, sumOrder_leaves, fun a => ⟨fun h => ?_, fun h => ?_, fun h => ?_,
    fun neg m e h => ⟨fExp2_small h, fExp2_near h⟩⟩⟩
  · intro A n len dst seg sum res
    have hn : n ≤ 256 := Nat.pow_le_pow_right (by decide) h8
    have hs : segments (bitsAt w 6 3) ((List.range 256).map A) = (List.range n).map seg := segments_range A _
    have reduce (g : List (BitVec 32) → BitVec 32) : (segLanes ((segments (bitsAt w 6 3) ((List.range 256).map A)).map g)).length = 256 ∧
        ∀ i, (segLanes ((segments (bitsAt w 6 3) ((List.range 256).map A)).map g)).getD i 0 = if i < n then g (seg i) else 0 := by
      rw [hs, List.map_map]
      exact ⟨segLanes_length (by simpa using hn), segLanes_getD _ n⟩
    have extremum (max : Bool) := reduce (segMinMax max)
    refine ⟨?_, ?_, ?_, ?_⟩
    · rintro rfl
      obtain ⟨hw, he, ho⟩ := State.expSlot_writes hi hr hf (by simp [withFlags]) 8
        (f := fun _ xs => withFlags (xs.map fExp2)) rfl
      refine ⟨_, rfl, hw.congr fun i hi => by simp [withFlags, hi, A], he, ho.trans (or_congr_right ?_)⟩
      rw [withFlags_raises (p := FFlags.overflow) rfl fun _ _ => rfl]
      simp [A]
    · rintro rfl
      obtain ⟨hw, -⟩ := State.expSlot_writes hi hr hf (extremum true).1 10
        (f := fun n xs => (segLanes ((segments n xs).map (segMinMax true)), .none)) rfl
      exact ⟨_, rfl, hw.congr fun i _ => (extremum true).2 i⟩
    · rintro rfl
      obtain ⟨hw, -⟩ := State.expSlot_writes hi hr hf (extremum false).1 10
        (f := fun n xs => (segLanes ((segments n xs).map (segMinMax false)), .none)) rfl
      exact ⟨_, rfl, hw.congr fun i _ => (extremum false).2 i⟩
    · rintro rfl
      have hsum := reduce (fun g => (treeSum g (sumOrder (8 - bitsAt w 6 3))).1)
      rw [← segSums_lanes] at hsum
      obtain ⟨hw, -, ho⟩ := State.expSlot_writes hi hr hf (r := (_, _)) hsum.1 10 (f := fun n xs => (segLanes (segSums n xs).1, (segSums n xs).2)) rfl
      refine ⟨_, rfl, hw.congr fun i _ => hsum.2 i, ho.trans (or_congr_right ?_)⟩
      unfold segSums
      rw [withFlags_raises (p := FFlags.overflow) rfl fun _ _ => rfl, hs]
      simp [sum]
  · obtain ⟨lat, f, hx⟩ := exec_expSlot hc s
    exact hx.trans (congrArg ok (State.slotAct_none hn _))
  · unfold fExp2
    rw [h]
  · unfold fExp2
    rw [h]
    rfl
  · unfold fExp2
    rw [h]
    rfl

end Machine
end Sys2Proof

namespace Sys2Proof
namespace Machine

/-! The matrix unit (R121, R146-R148, R151-R153, R165, R192-R197, R218, R224-R226): the descriptor of a slot, what an update leaves of the
accumulators, and the drain. -/

/-! ### The descriptor -/

section
variable {s t : State} {k v w d : Nat}

theorem State.withOperand_valid (h : s.sectionEntry k 4 (bitsAt w 20 9) 32 = ((d, false), t)) (hd : bitsAt d 63 61 = 0) (f : Nat → State → State) :
    s.withOperand k v w f = f d t := by
  unfold State.withOperand
  rw [h]
  exact (if_neg Bool.false_ne_true).trans (if_neg (not_not_intro hd))

theorem State.withOperand_poison (h : s.sectionEntry k 4 (bitsAt w 20 9) 32 = ((d, true), t)) (f : Nat → State → State) :
    s.withOperand k v w f = t.fetchTrap k v (s.vatAt v).bundle := by
  unfold State.withOperand
  rw [h]
  exact if_pos rfl

theorem State.withOperand_reserved (h : s.sectionEntry k 4 (bitsAt w 20 9) 32 = ((d, false), t)) (hd : bitsAt d 63 61 ≠ 0)
    (f : Nat → State → State) : s.withOperand k v w f = t.encodingTrap k v (s.vatAt v).bundle 0 := by
  unfold State.withOperand
  rw [h]
  exact (if_neg Bool.false_ne_true).trans (if_pos hd)

end

/-- R218: the operations of the matrix slot with an operand descriptor, by their numbers. -/
theorem exec_mmaSlot {v : Fin 34} {cyc op : Nat} {c : Instr} (h : (op, c) ∈ [(1, Instr.mmaClear v cyc), (2, .mmaAcc v cyc)]) (s : State) :
    exec c s = ok (s.mmaSlot v.val cyc op) := by
  simp only [List.mem_cons, Prod.mk.injEq, List.not_mem_nil, or_false] at h
  rcases h with ⟨rfl, rfl⟩ | ⟨rfl, rfl⟩ <;> rfl

theorem exec_matrixSlot_none {s : State} {v : Fin 34} {cyc op : Nat} {c : Instr}
    (h : (op, c) ∈ [(1, Instr.mmaClear v cyc), (2, .mmaAcc v cyc), (3, .drain v cyc)]) (hn : s.slotReady v.val cyc [0] op = none) :
    exec c s = ok (s.issue v.val cyc) := by
  simp only [List.mem_cons, Prod.mk.injEq, List.not_mem_nil, or_false] at h
  rcases h with ⟨rfl, rfl⟩ | ⟨rfl, rfl⟩ | ⟨rfl, rfl⟩ <;> exact congrArg ok (State.slotAct_none hn _)

/-! ### The parts of a matrix operation -/

/-- R193: the half cycles of an update of two formats. -/
def mmaHalves (d : Nat) : Nat :=
  match updateHalves (bitsAt d 47 44), updateHalves (bitsAt d 51 48) with
  | some p, some q => Nat.max p q
  | _, _ => 32

/-- R216: where update `j` reads each operand. -/
def Vat.mmaA (x : Vat) (d j : Nat) : Nat := palAddr (bitsAt d 21 0) ((j : Int) * signedOf 16 (bitsAt d 79 64) + x.loopTerm d 20 96)
def Vat.mmaB (x : Vat) (d j : Nat) : Nat := palAddr (bitsAt d 43 22) ((j : Int) * signedOf 16 (bitsAt d 95 80) + x.loopTerm d 20 176)

/-- R152, R218: the accesses of a matrix operation through the compute port. -/
def Vat.mmaAccesses (x : Vat) (cyc w d : Nat) : List Access :=
  let groups := onesOf 4 (bitsAt w 8 5)
  let a : OperandAt :=
    ⟨bitsAt d 47 44, x.mmaA d, if bitAt w 4 then groups.map (fun g => 512 * g) else if groups.isEmpty then [] else [0]⟩
  let b : OperandAt := ⟨bitsAt d 51 48, x.mmaB d, if groups.isEmpty then [] else [0]⟩
  a.accesses cyc (bitsAt d 60 52) (mmaHalves d) ++ b.accesses cyc (bitsAt d 60 52) (mmaHalves d)

/-- R146, R147: the updates of a matrix operation. -/
def Vat.mmaUps (x : Vat) (w d : Nat) : List MmaUp := (List.range (bitsAt d 60 52)).map (fun j =>
  { a := (List.range 4).map (fun g => if bitAt w 4 then (if bitAt (bitsAt w 8 5) g then x.operand (bitsAt d 47 44) (x.mmaA d j + 512 * g) else [])
      else if bitAt w 4 then [] else x.operand (bitsAt d 47 44) (x.mmaA d j)),
    b := x.operand (bitsAt d 51 48) (x.mmaB d j) })

/-- The accumulators of a bank, row by row (R148). -/
def Vat.bank (x : Vat) (b : Nat) : List (BitVec 32) := Tab.block x.acc (b * 16384) 16384 0

/-- R195, R196, R218: the cells of a bank through the updates, where their group is enabled, with the flags raised. -/
def Vat.mmaCells (x : Vat) (clear : Bool) (w d : Nat) : List (BitVec 32 × FFlags) :=
  (x.bank (bitsAt w 3 3)).zipIdx.map (fun p =>
    if bitAt (bitsAt w 8 5) (p.2 % 128 / 32) then
      accCell (isIntFmt (bitsAt d 47 44) && isIntFmt (bitsAt d 51 48)) (mmaHalves d = 1) (p.2 % 128 / 32) (p.2 / 128) (p.2 % 128) (x.mmaUps w d)
        (if clear then 0 else p.1)
    else (p.1, .none))

/-- R192, R226: the manual leaves what the enabled groups hold undefined. -/
def Vat.mmaOpen (x : Vat) (cyc w d : Nat) : Bool :=
  cyc < x.matBusy || bitsAt d 47 44 = 13 || bitsAt d 51 48 = 13 || (x.mmaAccesses cyc w d).any (fun p => p.2.any (fun r => x.palEarly r.1 r.2 p.1))

/-- R193, R197, R225, R533: the unit's times, the type of the bank and the count of updates. -/
def State.mmaTimed (s : State) (v cyc w d : Nat) (ports : List (Nat × Nat)) : State :=
  s.modVat v (fun x => { x with
    ports := ports, matBusy := cyc + ceilDiv (bitsAt d 60 52 * mmaHalves d) 2,
    accReady := Tab.set x.accReady (bitsAt w 3 3) (cyc + (bitsAt d 60 52 - 1) * mmaHalves d / 2 + 6),
    accInt := if (onesOf 4 (bitsAt w 8 5)).isEmpty then x.accInt
      else if isIntFmt (bitsAt d 47 44) && isIntFmt (bitsAt d 51 48) then addNew x.accInt (bitsAt w 3 3) else x.accInt.erase (bitsAt w 3 3),
    stepCount := { x.stepCount with mma := x.stepCount.mma + bitsAt d 60 52 } })

/-- New values for the cells of a bank. -/
def State.setBank (s : State) (v b : Nat) (xs : List (BitVec 32)) : State :=
  s.modVat v (fun x => { x with acc := Tab.setBlock x.acc (b * 16384) xs })

/-- R146-R148, R192, R195, R226: the updates of a matrix slot whose accesses passed; `x` is the vat before. -/
def State.mmaUpdated (s : State) (x : Vat) (v cyc : Nat) (clear : Bool) (w d : Nat) (ports : List (Nat × Nat)) : State :=
  if x.mmaOpen cyc w d then (s.mmaTimed v cyc w d ports).freeBank v (bitsAt w 3 3) (bitsAt w 8 5)
  else
    ((s.mmaTimed v cyc w d ports).setBank v (bitsAt w 3 3) ((x.mmaCells clear w d).map (fun p => p.1))).raise v
      ((x.mmaCells clear w d).foldl (fun (a : FFlags) p => a.or p.2) .none)

/-- R121, R153: from what the reads of the palette found. -/
def State.mmaRead (r : Option Nat × State) (x : Vat) (k v cyc : Nat) (clear : Bool) (w d : Nat) (ports : List (Nat × Nat)) : State :=
  match r.1 with
  | some a => r.2.paletteUe k v a
  | none => r.2.mmaUpdated x v cyc clear w d ports

/-- R148: a drain holds the bank of a matrix slot. -/
def Vat.bankHeld (x : Vat) (cyc w : Nat) : Bool := x.drain.any (fun q => q.bank = bitsAt w 3 3 && cyc < q.cycle + 64)

/-- R148, R152, R165: from what the compute port says. -/
def State.mmaPassed (p : List (Nat × Nat) ⊕ Nat) (s : State) (k v cyc : Nat) (clear : Bool) (w d : Nat) : State :=
  match p with
  | .inr cause => s.bundleFault k v (s.vatAt v).bundle cause
  | .inl ports =>
    if (s.vatAt v).bankHeld cyc w then s.bundleFault k v (s.vatAt v).bundle 2
    else State.mmaRead (s.palCheck v (((s.vatAt v).mmaAccesses cyc w d).flatMap (fun p => p.2))) (s.vatAt v) k v cyc clear w d ports

theorem State.mma_eq (s : State) (k v cyc : Nat) (clear : Bool) (w d : Nat) : s.mma k v cyc clear w d =
    State.mmaPassed (touchPort (s.vatAt v).ports ((s.vatAt v).mmaAccesses cyc w d)) s k v cyc clear w d := by
  unfold State.mma
  dsimp only
  rfl

/-! ### Cells -/

/-- The place of a cell in its bank. -/
def cellAt (row col : Nat) : Nat := row * 128 + col

theorem cellAt_lt {row col : Nat} (hr : row < 128) (hc : col < 128) : cellAt row col < 16384 := by
  unfold cellAt
  omega

theorem cellAt_col {col : Nat} (hc : col < 128) (row : Nat) : cellAt row col % 128 = col := by
  unfold cellAt
  omega

theorem cellAt_row {col : Nat} (hc : col < 128) (row : Nat) : cellAt row col / 128 = row := by
  unfold cellAt
  omega

theorem Vat.length_bank (x : Vat) (b : Nat) : (x.bank b).length = 16384 := by simp [Vat.bank, Tab.block]

theorem State.bank_getD (s : State) (v b : Nat) {row col : Nat} (hr : row < 128) (hc : col < 128) :
    ((s.vatAt v).bank b).getD (cellAt row col) 0 = s.cell v b row col := by
  have h : cellAt row col < 16384 := cellAt_lt hr hc
  unfold Vat.bank Tab.block
  rw [List.getD_eq_getElem _ _ (by simpa using h)]
  simp [State.cell, cellAt, Nat.add_assoc]

/-- R148: what new values for a bank leave of the cells. -/
theorem State.cell_setBank {xs : List (BitVec 32)} (hx : xs.length = 16384) (s : State) (v b b' : Nat) {row col : Nat} (hr : row < 128)
    (hc : col < 128) : (s.setBank v b xs).cell v b' row col = if b' = b then xs.getD (cellAt row col) 0 else s.cell v b' row col := by
  unfold State.cell State.setBank cellAt
  rw [State.vatAt_modVat]
  dsimp only
  rw [Tab.get_setBlock, hx]
  by_cases hb : b' = b
  · subst hb
    rw [if_pos (by omega), if_pos rfl, Nat.add_assoc, Nat.add_sub_cancel_left]
  · rw [if_neg (by omega), if_neg hb]

theorem State.length_takeWords (n : Nat) (s : State) : (State.takeWords n s).1.length = n := by
  induction n generalizing s with
  | zero => rfl
  | succ n ih => simp [State.takeWords, ih]

theorem State.takeWords_state (n : Nat) (s : State) : (State.takeWords n s).2 = { s with fresh := s.fresh + n } := by
  induction n generalizing s with
  | zero => rfl
  | succ n ih =>
    rw [State.takeWords, ih]
    simp [State.takeFree, Nat.add_assoc, Nat.add_comm 1 n]

/-- Memory, the other vats and the accumulators of vat `v` are the same. -/
structure SameAcc (s t : State) (v : Nat) : Prop where
  bytes : SameBytes s t
  vats : ∀ j, j ≠ v → t.vatAt j = s.vatAt j
  acc : (t.vatAt v).acc = (s.vatAt v).acc

theorem SameAcc.trans {s t u : State} {v : Nat} (h : SameAcc s t v) (k : SameAcc t u v) : SameAcc s u v :=
  ⟨fun a => (k.bytes a).trans (h.bytes a), fun j hj => (k.vats j hj).trans (h.vats j hj), k.acc.trans h.acc⟩

theorem SameAcc.modVat (s : State) (v : Nat) {f : Vat → Vat} (hf : ∀ x, (f x).acc = x.acc) : SameAcc s (s.modVat v f) v :=
  ⟨fun _ => rfl, fun _ hj => State.vatAt_modVat_other s f hj, by rw [State.vatAt_modVat, hf]⟩

theorem SameAcc.palCheck (s : State) (v : Nat) (rs : List (Nat × Nat)) : SameAcc s (s.palCheck v rs).2 v :=
  ⟨fun a => by rw [State.palCheck_mem], fun j _ => State.palCheck_vatAt s v rs j, by rw [State.palCheck_vatAt]⟩

theorem SameAcc.takeWords (s : State) (n v : Nat) : SameAcc s (State.takeWords n s).2 v := by
  rw [State.takeWords_state]
  exact ⟨fun _ => rfl, fun _ _ => rfl, rfl⟩

theorem SameAcc.cell {s t : State} {v : Nat} (h : SameAcc s t v) (b row col : Nat) : t.cell v b row col = s.cell v b row col := by
  unfold State.cell
  rw [h.acc]

/-- `t` differs from `s` in cells of vat `v`’s bank `b` whose column `on` names, and in no other cell of the vat, no other vat and no byte of
memory. -/
def BankOnly (s t : State) (v b : Nat) (on : Nat → Bool) : Prop :=
  SameBytes s t ∧ (∀ j, j ≠ v → t.vatAt j = s.vatAt j) ∧
  (∀ b' row col, row < 128 → col < 128 → b' ≠ b → t.cell v b' row col = s.cell v b' row col) ∧
  ∀ row col, row < 128 → col < 128 → on col = false → t.cell v b row col = s.cell v b row col

theorem State.setBank_bankOnly {s t : State} {v b : Nat} {on : Nat → Bool} (h : SameAcc s t v) {xs : List (BitVec 32)} (hx : xs.length = 16384)
    (ho : ∀ row col, row < 128 → col < 128 → on col = false → xs.getD (cellAt row col) 0 = s.cell v b row col) :
    BankOnly s (t.setBank v b xs) v b on := by
  refine ⟨h.bytes, fun j hj => (State.vatAt_modVat_other _ _ hj).trans (h.vats j hj), fun b' row col hr hc hb => ?_, fun row col hr hc hn => ?_⟩
  · rw [State.cell_setBank hx _ _ _ _ hr hc, if_neg hb, h.cell]
  · rw [State.cell_setBank hx _ _ _ _ hr hc, if_pos rfl, ho row col hr hc hn]

theorem BankOnly.then {s t u : State} {v b : Nat} {on : Nat → Bool} (h : BankOnly s t v b on) (k : SameAcc t u v) : BankOnly s u v b on := by
  obtain ⟨hm, hv, hb, ho⟩ := h
  exact ⟨fun a => (k.bytes a).trans (hm a), fun j hj => (k.vats j hj).trans (hv j hj), fun b' row col hr hc hn => (k.cell ..).trans (hb b' row col hr hc hn),
    fun row col hr hc hn => (k.cell ..).trans (ho row col hr hc hn)⟩

/-! ### Updates -/

/-- R146, R218: the enabled groups of a matrix slot. -/
def mmaOn (w col : Nat) : Bool := bitAt (bitsAt w 8 5) (col / 32)

/-- R195, R196: a cell of an enabled group through the updates. -/
def Vat.mmaCell (x : Vat) (w d row col : Nat) (old : BitVec 32) : BitVec 32 :=
  (accCell (isIntFmt (bitsAt d 47 44) && isIntFmt (bitsAt d 51 48)) (mmaHalves d = 1) (col / 32) row col (x.mmaUps w d) old).1

theorem Vat.mmaCells_getD (x : Vat) (clear : Bool) (w d : Nat) {row col : Nat} (hr : row < 128) (hc : col < 128) :
    ((x.mmaCells clear w d).map (fun p => p.1)).getD (cellAt row col) 0 =
      if mmaOn w col then x.mmaCell w d row col (if clear then 0 else (x.bank (bitsAt w 3 3)).getD (cellAt row col) 0)
      else (x.bank (bitsAt w 3 3)).getD (cellAt row col) 0 := by
  have hl : cellAt row col < (x.bank (bitsAt w 3 3)).length := by rw [Vat.length_bank]; exact cellAt_lt hr hc
  rw [List.getD_eq_getElem _ _ hl, List.getD_eq_getElem _ _ (by simpa [Vat.mmaCells] using hl)]
  simp only [Vat.mmaCells, List.getElem_map, List.getElem_zipIdx, Nat.zero_add, cellAt_col hc, cellAt_row hc]
  unfold mmaOn
  split <;> rfl

/-- R192, R226: a bank of which the enabled groups take other values. -/
def mixCells (en : Nat) (old free : List (BitVec 32)) : List (BitVec 32) :=
  (old.zip free).zipIdx.map (fun p => if bitAt en (p.2 % 128 / 32) then p.1.2 else p.1.1)

theorem length_mixCells {en : Nat} {old free : List (BitVec 32)} (h : free.length = old.length) : (mixCells en old free).length = old.length := by
  simp [mixCells, h]

theorem mixCells_getD {en row col : Nat} {old free : List (BitVec 32)} (h : free.length = old.length) (hl : cellAt row col < old.length) (hc : col < 128)
    (hn : bitAt en (col / 32) = false) : (mixCells en old free).getD (cellAt row col) 0 = old.getD (cellAt row col) 0 := by
  rw [List.getD_eq_getElem _ _ hl, List.getD_eq_getElem _ _ (by rw [length_mixCells h]; exact hl)]
  simp [mixCells, cellAt_col hc, hn]

theorem State.freeBank_eq (s : State) (v b en : Nat) : s.freeBank v b en =
    (State.takeWords 16384 s).2.setBank v b (mixCells en ((s.vatAt v).bank b) (State.takeWords 16384 s).1) := by
  unfold State.freeBank State.setBank mixCells Vat.bank
  rfl

theorem State.freeBank_bankOnly {s t : State} {v : Nat} (h : SameAcc s t v) (b en : Nat) :
    BankOnly s (t.freeBank v b en) v b (fun col => bitAt en (col / 32)) := by
  have hf : (State.takeWords 16384 t).1.length = ((t.vatAt v).bank b).length := by rw [State.length_takeWords, Vat.length_bank]
  rw [State.freeBank_eq]
  refine State.setBank_bankOnly (h.trans (SameAcc.takeWords t _ v)) ((length_mixCells hf).trans (Vat.length_bank ..)) fun row col hr hc hn => ?_
  rw [mixCells_getD hf (by rw [Vat.length_bank]; exact cellAt_lt hr hc) hc hn, State.bank_getD _ _ _ hr hc, h.cell]

/-- R146-R148, R192-R196, R218, R226: the updates of a slot on the vat that the palette's reads left, against the vat before them. -/
theorem State.mmaUpdated_bankOnly {s t : State} {v : Nat} (h : SameAcc s t v) (cyc : Nat) (clear : Bool) (w d : Nat) (ports : List (Nat × Nat)) :
    let u := t.mmaUpdated (s.vatAt v) v cyc clear w d ports
    BankOnly s u v (bitsAt w 3 3) (mmaOn w) ∧
    ((s.vatAt v).mmaOpen cyc w d = false → ∀ row col, row < 128 → col < 128 → mmaOn w col = true → u.cell v (bitsAt w 3 3) row col =
      (s.vatAt v).mmaCell w d row col (if clear then 0 else s.cell v (bitsAt w 3 3) row col)) := by
  intro u
  have ht : SameAcc s (t.mmaTimed v cyc w d ports) v := h.trans (SameAcc.modVat t v fun _ => rfl)
  have hx : (((s.vatAt v).mmaCells clear w d).map (fun p => p.1)).length = 16384 := by simp [Vat.mmaCells, Vat.length_bank]
  have hcell {row col : Nat} (hr : row < 128) (hc : col < 128) := Vat.mmaCells_getD (s.vatAt v) clear w d hr hc
  cases ho : (s.vatAt v).mmaOpen cyc w d with
  | true =>
    have hu : u = (t.mmaTimed v cyc w d ports).freeBank v (bitsAt w 3 3) (bitsAt w 8 5) := if_pos ho
    rw [hu]
    exact ⟨State.freeBank_bankOnly ht _ _, nofun⟩
  | false =>
    have hu : u = ((t.mmaTimed v cyc w d ports).setBank v (bitsAt w 3 3) (((s.vatAt v).mmaCells clear w d).map (fun p => p.1))).raise v
        (((s.vatAt v).mmaCells clear w d).foldl (fun (a : FFlags) p => a.or p.2) .none) := if_neg (ne_true_of_eq_false ho)
    have hraise (f : FFlags) (x : State) : SameAcc x (x.raise v f) v := SameAcc.modVat x v fun _ => rfl
    rw [hu]
    refine ⟨(State.setBank_bankOnly ht hx fun row col hr hc hn => ?_).then (hraise ..), fun _ row col hr hc hon => ?_⟩
    · rw [hcell hr hc, if_neg (ne_true_of_eq_false hn), State.bank_getD _ _ _ hr hc]
    · rw [(hraise ..).cell, State.cell_setBank hx _ _ _ _ hr hc, if_pos rfl, hcell hr hc, if_pos hon, State.bank_getD _ _ _ hr hc]

/-! ### The accesses -/

section
variable {s : State} {v cyc w d : Nat}

theorem State.mma_port {cause : Nat} (h : touchPort (s.vatAt v).ports ((s.vatAt v).mmaAccesses cyc w d) = .inr cause) (k : Nat) (clear : Bool) :
    s.mma k v cyc clear w d = s.bundleFault k v (s.vatAt v).bundle cause := by
  rw [State.mma_eq, h]
  rfl

variable {ports : List (Nat × Nat)} (h : touchPort (s.vatAt v).ports ((s.vatAt v).mmaAccesses cyc w d) = .inl ports)
include h

theorem State.mma_held (hd : (s.vatAt v).bankHeld cyc w = true) (k : Nat) (clear : Bool) :
    s.mma k v cyc clear w d = s.bundleFault k v (s.vatAt v).bundle 2 := by
  rw [State.mma_eq, h]
  exact if_pos hd

theorem State.mma_free (hd : (s.vatAt v).bankHeld cyc w = false) (k : Nat) (clear : Bool) :
    let r := s.palCheck v (((s.vatAt v).mmaAccesses cyc w d).flatMap (fun p => p.2))
    (∀ a, r.1 = some a → s.mma k v cyc clear w d = r.2.paletteUe k v a) ∧
    (r.1 = none → s.mma k v cyc clear w d = r.2.mmaUpdated (s.vatAt v) v cyc clear w d ports) := by
  intro r
  have hr : s.mma k v cyc clear w d = State.mmaRead r (s.vatAt v) k v cyc clear w d ports := by
    rw [State.mma_eq, h]
    exact if_neg (ne_true_of_eq_false hd)
  unfold State.mmaRead at hr
  exact ⟨fun a ha => by rw [hr, ha], fun hn => by rw [hr, hn]⟩

end

/-! ### The drain and integer sums -/

/-- R148, R197, R225, R226. -/
theorem State.drainBank_eq (s : State) (v cyc w : Nat) : s.drainBank v cyc w = s.modVat v (fun x => { x with drain := some {
    bank := bitsAt w 3 3, cycle := cyc, int := x.accInt.contains (bitsAt w 3 3),
    cells := if Tab.get x.accReady (bitsAt w 3 3) 0 ≤ cyc ∧ x.drain.any (fun q => cyc < q.cycle + 64) = false then some (x.bank (bitsAt w 3 3))
      else none } }) := by
  unfold State.drainBank Vat.bank
  refine congrArg (s.modVat v) (funext fun x => ?_)
  by_cases hr : Tab.get x.accReady (bitsAt w 3 3) 0 ≤ cyc <;> by_cases hd : x.drain.any (fun q => cyc < q.cycle + 64) = true <;>
    simp [hr, hd, Nat.not_lt.mpr, Nat.not_le.mp]

theorem foldl_add_mul (ps : List (FVal × FVal)) (z : Int) :
    ps.foldl (fun a p => a + p.1.toInt * p.2.toInt) z = z + (ps.map (fun p => p.1.toInt * p.2.toInt)).sum := by
  induction ps generalizing z with
  | nil => simp
  | cons p ps ih => rw [List.foldl_cons, ih, List.map_cons, List.sum_cons, Int.add_assoc]

/-- R195, R196: a sum of integers saturates once. -/
theorem intAccum_saturates (old : BitVec 32) (ps : List (FVal × FVal)) :
    let z := old.toInt + (ps.map (fun p => p.1.toInt * p.2.toInt)).sum
    (intAccum old ps).1 = if z > 2 ^ 31 - 1 then BitVec.ofNat 32 (2 ^ 31 - 1) else if z < -(2 ^ 31) then BitVec.ofNat 32 (2 ^ 31) else BitVec.ofInt 32 z := by
  intro z
  unfold intAccum
  rw [foldl_add_mul]
  dsimp only
  split
  · rfl
  · split <;> rfl

/-- A bank is 0 or 1, and `1 - b` is the other. -/
theorem otherBank (w : Nat) : 1 - bitsAt w 3 3 ≠ bitsAt w 3 3 := by
  rw [bitsAt_eq_mod_div (le_refl 3)]
  omega

/-- The updates as the statement lists them: without a split, every group takes the one operand. -/
theorem Vat.mmaUps_eq (x : Vat) (w d : Nat) : x.mmaUps w d = (List.range (bitsAt d 60 52)).map (fun j =>
    { a := (List.range 4).map (fun g => if bitAt w 4 then (if bitAt (bitsAt w 8 5) g then x.operand (bitsAt d 47 44) (x.mmaA d j + 512 * g) else [])
        else x.operand (bitsAt d 47 44) (x.mmaA d j)),
      b := x.operand (bitsAt d 51 48) (x.mmaB d j) }) := by
  unfold Vat.mmaUps
  cases bitAt w 4 <;> rfl

/-- Settles O22: a slot by what the port, the drain and the palette's reads say, then cell by cell; and the drain. -/
theorem matrixUnitUpdates : Obligations.MatrixUnitUpdates := by
  unfold Obligations.MatrixUnitUpdates
  refine ⟨fun s v cyc k w op d u s1 c hc hi hs hd => ?_, fun s v cyc k w op d u s1 c hc hi => ?_, fun s v cyc k w u hi => ?_,
    fun s v cyc op c => exec_matrixSlot_none, intAccum_saturates⟩
  · intro x split bank on fa fb count groups halves aAt bAt a b accesses read held ups new
    have hx : exec c s = ok (s1.mma k v.val cyc (op = 1) w d) := by
      rw [exec_mmaSlot hc, State.mmaSlot, State.slotAct_issues hi, State.withOperand_valid hs hd]
    rw [hx]
    refine ⟨fun cause hp => congrArg ok (State.mma_port hp k _), fun ports hp => ⟨fun hh => congrArg ok (State.mma_held hp hh k _), fun addr hh hr => ?_,
      fun hh hr => ?_⟩⟩
    · exact congrArg ok ((State.mma_free hp hh k _).1 addr hr)
    · have ht := (State.mma_free hp hh k (op = 1)).2 hr
      obtain ⟨⟨hb, hv, ho, hn⟩, hu⟩ := State.mmaUpdated_bankOnly (SameAcc.palCheck s1 v.val (accesses.flatMap (fun p => p.2))) cyc (op = 1) w d ports
      refine ⟨_, congrArg ok ht, hb, hv, fun row col hr hc => ho _ row col hr hc (otherBank w), hn, fun hbusy ha13 hb13 he row col hr hc hon => ?_⟩
      have hopen : (s1.vatAt v.val).mmaOpen cyc w d = false := by
        simp only [Vat.mmaOpen, Bool.or_eq_false_iff, decide_eq_false_iff_not]
        exact ⟨⟨⟨Nat.not_lt.mpr hbusy, ha13⟩, hb13⟩, he⟩
      refine (hu hopen row col hr hc hon).trans ?_
      unfold Vat.mmaCell
      rw [Vat.mmaUps_eq]
      simp only [decide_eq_true_eq]
      rfl
  · have hx : exec c s = ok (u.withOperand k v.val w (fun d s => s.mma k v.val cyc (op = 1) w d)) := by
      rw [exec_mmaSlot hc, State.mmaSlot, State.slotAct_issues hi]
    rw [hx]
    exact ⟨fun h => congrArg ok (State.withOperand_poison h _), fun h hd => congrArg ok (State.withOperand_reserved h hd _)⟩
  · have hx : exec (.drain v cyc) s = ok (u.drainBank v.val cyc w) := congrArg ok (State.slotAct_issues hi _)
    rw [hx, State.drainBank_eq]
    exact ⟨_, rfl, fun a => by rw [← hi.2]; rfl, State.onlyVat_modVat .., State.vatAt_modVat ..⟩

end Machine
end Sys2Proof

namespace Sys2Proof
namespace Machine

/-! Stream slots (R121, R153, R155-R159, R165, R221, R222, R224): the tile command of a slot, what stands against it, and the queue that it joins. -/

/-- R215, R221: the tile command of a slot word and a descriptor, with the loop and row indices of now. -/
def Vat.tileCmd (x : Vat) (w d : Nat) : TileCmd :=
  { op := bitsAt w 2 0, token := bitsAt w 11 6, tile := bitsAt w 27 12, loops := (List.range 4).map x.loopIdx, desc := BitVec.ofNat 512 d,
    idx := if 3 ≤ bitsAt w 2 0 then (List.range (tileRowCount d)).map (fun i => leNat (Mem.read x.palette (bitsAt d 205 184 + 4 * i) 4)) else [],
    running := false, pins := [] }

/-- R151, R165: the row indices or a row of a tile lie outside the palette. -/
def tileOutside (c : TileCmd) (d : Nat) : Bool :=
  (3 ≤ c.op && bitsAt d 205 184 + 4 * tileRowCount d > palSize) || (tileRows c).any (fun p => p.2 + 64 * tileLinesPerRow d > palSize)

theorem tileOutside_eq_false_iff (c : TileCmd) (d : Nat) : tileOutside c d = false ↔
    (3 ≤ c.op → bitsAt d 205 184 + 4 * tileRowCount d ≤ palSize) ∧ ∀ r, r ∈ tileRows c → r.2 + 64 * tileLinesPerRow d ≤ palSize := by
  simp [tileOutside]

/-- R222: the palette's bytes that a gather or a scatter reads for its row indices. -/
def indexRanges (w d : Nat) : List (Nat × Nat) := if 3 ≤ bitsAt w 2 0 then [(bitsAt d 205 184, 4 * tileRowCount d)] else []

/-- R155, R157, R222: a command joins its engine’s queue and clears its token; behind a stopped engine it sets the token with its flag. -/
def Vat.acceptCmd (x : Vat) (e : Nat) (c : TileCmd) : Vat :=
  let y := { x with tokSet := x.tokSet.erase c.token, tokBad := x.tokBad.erase c.token }
  if x.engStop.contains e then y.setToken c.token true
  else { y with engines := Tab.set y.engines e (y.queue e ++ [c]) }

theorem Vat.acceptCmd_running {x : Vat} {e : Nat} (h : x.engStop.contains e = false) (c : TileCmd) :
    (x.acceptCmd e c).queue e = x.queue e ++ [c] ∧ (x.acceptCmd e c).tokSet = x.tokSet.erase c.token := by
  unfold Vat.acceptCmd
  dsimp only
  rw [if_neg (ne_true_of_eq_false h)]
  exact ⟨Tab.get_set_same .., rfl⟩

theorem mem_addNew (l : List Nat) (k : Nat) : k ∈ addNew l k := by
  rw [← List.contains_iff_mem, isDead_addNew]
  simp

theorem Vat.acceptCmd_stopped {x : Vat} {e : Nat} (h : x.engStop.contains e = true) (c : TileCmd) :
    (x.acceptCmd e c).queue e = x.queue e ∧ c.token ∈ (x.acceptCmd e c).tokSet ∧ c.token ∈ (x.acceptCmd e c).tokBad := by
  unfold Vat.acceptCmd
  dsimp only
  rw [if_pos h]
  exact ⟨rfl, mem_addNew .., mem_addNew ..⟩

theorem Vat.acceptCmd_otherQueue (x : Vat) {e j : Nat} (h : j ≠ e) (c : TileCmd) : (x.acceptCmd e c).queue j = x.queue j := by
  unfold Vat.acceptCmd
  dsimp only
  split
  · rfl
  · exact Tab.get_set_other _ _ _ h

/-- R153: a slot whose addresses are in range, from what the read of its indices found. -/
def State.takeTile (q : Option Nat × State) (k v e : Nat) (c : TileCmd) : State :=
  match q.1 with
  | some a => q.2.paletteUe k v a
  | none => q.2.modVat v (fun x => x.acceptCmd e c)

theorem State.takeTile_uncorrectable {q : Option Nat × State} {a : Nat} (h : q.1 = some a) (k v e : Nat) (c : TileCmd) :
    State.takeTile q k v e c = q.2.paletteUe k v a := by
  unfold State.takeTile
  rw [h]

theorem State.takeTile_sound {q : Option Nat × State} (h : q.1 = none) (k v e : Nat) (c : TileCmd) :
    State.takeTile q k v e c = q.2.modVat v (fun x => x.acceptCmd e c) := by
  unfold State.takeTile
  rw [h]

section
variable {s t : State} {k v w d : Nat}

theorem State.acceptTile_poison (h : s.sectionEntry k 3 (bitsAt w 27 12) 64 = ((d, true), t)) :
    s.acceptTile k v w = t.fetchTrap k v (s.vatAt v).bundle := by
  unfold State.acceptTile
  dsimp only
  rw [h]
  exact if_pos rfl

variable (h : s.sectionEntry k 3 (bitsAt w 27 12) 64 = ((d, false), t))
include h

theorem State.acceptTile_reserved (hr : tileReserved d = true) : s.acceptTile k v w = t.encodingTrap k v (s.vatAt v).bundle 3 := by
  unfold State.acceptTile
  dsimp only
  rw [h]
  exact (if_neg Bool.false_ne_true).trans (if_pos hr)

/-- The read of the indices leaves the vat as it was. -/
theorem State.acceptTile_valid (hr : tileReserved d = false) :
    let c := (t.vatAt v).tileCmd w d
    let q := t.palCheck v (indexRanges w d)
    s.acceptTile k v w = if tileOutside c d then q.2.bundleFault k v (s.vatAt v).bundle 3 else State.takeTile q k v (bitsAt w 5 3) c := by
  intro c q
  unfold State.acceptTile
  dsimp only
  rw [h]
  refine (if_neg Bool.false_ne_true).trans ((if_neg (ne_true_of_eq_false hr)).trans ?_)
  rw [State.palCheck_vatAt]
  rfl

end

/-- R221: each operation of a stream slot, by its number. -/
theorem exec_streamSlot {v : Fin 34} {cyc op : Nat} {i : Instr}
    (h : (op, i) ∈ [(1, Instr.streamRead v cyc), (2, .streamWrite v cyc), (3, .gather v cyc), (4, .scatter v cyc)]) (s : State) :
    exec i s = ok (s.streamSlot v.val cyc op) := by
  simp only [List.mem_cons, Prod.mk.injEq, List.not_mem_nil, or_false] at h
  rcases h with ⟨rfl, rfl⟩ | ⟨rfl, rfl⟩ | ⟨rfl, rfl⟩ | ⟨rfl, rfl⟩ <;> rfl

/-- Settles O26: the slot by its descriptor, its addresses and the read of its indices; then the command in the vat’s queue. -/
theorem streamSlotsQueueTiles : Obligations.StreamSlotsQueueTiles := by
  unfold Obligations.StreamSlotsQueueTiles
  refine ⟨fun s v cyc k w op d u s1 i hc hi hop => ?_, fun s v cyc op i hc hn => (exec_streamSlot hc s).trans (congrArg ok (State.slotAct_none hn _))⟩
  have hx : exec i s = ok (u.acceptTile k v.val w) := (exec_streamSlot hc s).trans (congrArg ok (State.slotAct_issues hi _))
  subst hop
  intro b e tok
  rw [hx]
  refine ⟨fun h => congrArg ok (State.acceptTile_poison h), fun h hr => congrArg ok (State.acceptTile_reserved h hr), fun h hr => ?_⟩
  intro at_ rows q c inside
  have hv : u.acceptTile k v.val w = if tileOutside c d then q.2.bundleFault k v.val b 3 else State.takeTile q k v.val e c :=
    State.acceptTile_valid h hr
  have hin : tileOutside c d = false ↔ inside := tileOutside_eq_false_iff c d
  refine ⟨fun ho => ?_, fun a ho ha => ?_, fun ho ha => ?_⟩
  · exact congrArg ok (hv.trans (if_pos (Bool.eq_true_of_not_eq_false (mt hin.mp ho))))
  · exact congrArg ok ((hv.trans (if_neg (ne_true_of_eq_false (hin.mpr ho)))).trans (State.takeTile_uncorrectable ha ..))
  · have ht := (hv.trans (if_neg (ne_true_of_eq_false (hin.mpr ho)))).trans (State.takeTile_sound ha ..)
    have hy : (q.2.modVat v.val (fun x => x.acceptCmd e c)).vatAt v.val = (s1.vatAt v.val).acceptCmd e c := by
      rw [State.vatAt_modVat, State.palCheck_vatAt]
    refine ⟨_, congrArg ok ht, fun a => ?_, fun j hj => (State.vatAt_modVat_other _ _ hj).trans (State.palCheck_vatAt ..), fun he => ?_, fun he => ?_,
      fun j hj => ?_⟩
    · rw [State.modVat_med, State.palCheck_mem]
    · rw [hy]
      exact Vat.acceptCmd_running he c
    · rw [hy]
      exact Vat.acceptCmd_stopped he c
    · rw [hy]
      exact Vat.acceptCmd_otherQueue _ hj c

end Machine
end Sys2Proof

namespace Sys2Proof
namespace Machine

/-! Rotation and reservation (R163, R166-R175, R180, R182): what each command answers in each of its cases. -/

/-! ### Due positions -/

/-- R163, R168: the position that falls due next. -/
def State.nextPosition (s : State) : Nat :=
  match s.vat.head with
  | h :: _ => h
  | [] => s.par 0x4000 10

/-- R163, R168: the order after its next position was taken. -/
def State.positionTaken (s : State) : State :=
  match s.vat.head with
  | _ :: rest => { s with vat := { s.vat with head := rest } }
  | [] => s.setPar 0x4000 10 ((s.par 0x4000 10 + 1) % 33)

/-- R163: a resident plan holds the vat of a position. -/
def State.positionHeld (s : State) (p : Nat) : Prop := p < 32 ∧ ∃ v, s.physical p = some v ∧ (s.vatAt v).resident = true

theorem State.positionTaken_keeps (s : State) : s.positionTaken.noSpare = s.noSpare ∧ s.positionTaken.vat.due = s.vat.due ∧
    (∀ p, s.positionTaken.physical p = s.physical p) ∧ ∀ v, s.positionTaken.vatAt v = s.vatAt v := by
  unfold State.positionTaken
  split <;> exact ⟨rfl, rfl, fun _ => rfl, fun _ => rfl⟩

theorem State.positionHeld_iff (s : State) (p : Nat) :
    (p < 32 && ((s.positionTaken.physical p).map (fun v => (s.positionTaken.vatAt v).resident)).getD false) = true ↔ s.positionHeld p := by
  obtain ⟨-, -, hp, hv⟩ := s.positionTaken_keeps
  unfold State.positionHeld
  rw [hp]
  cases s.physical p <;> simp [hv]

theorem execRotationDue_off {s : State} (h : s.par 0x4000 7 = 0) : execRotationDue s = ok s := if_pos h

section
variable {s : State} (hon : s.par 0x4000 7 ≠ 0)
include hon

/-- R168: with rotation on, the position that is taken is skipped, is due already, or falls due. -/
theorem execRotationDue_on : execRotationDue s =
    if s.positionTaken.noSpare && (s.nextPosition < 32 &&
        ((s.positionTaken.physical s.nextPosition).map (fun v => (s.positionTaken.vatAt v).resident)).getD false) then
      ok (s.positionTaken.skipRotation s.nextPosition 3)
    else if s.positionTaken.vat.due.any (fun d => d.1 = s.nextPosition) then ok s.positionTaken
    else ok { s.positionTaken with vat := { s.positionTaken.vat with due := s.positionTaken.vat.due ++ [(s.nextPosition, s.now, false)] } } := by
  refine (if_neg hon).trans ?_
  unfold State.positionTaken State.nextPosition
  cases s.vat.head <;> rfl

/-- R172: with no spare left or to come, a position that a resident plan holds is skipped. -/
theorem execRotationDue_skips (h : s.noSpare = true ∧ s.positionHeld s.nextPosition) :
    execRotationDue s = ok (s.positionTaken.skipRotation s.nextPosition 3) := by
  rw [execRotationDue_on hon]
  refine if_pos ?_
  rw [Bool.and_eq_true, s.positionHeld_iff, s.positionTaken_keeps.1]
  exact h

theorem execRotationDue_takes (h : ¬ (s.noSpare = true ∧ s.positionHeld s.nextPosition)) :
    (s.vat.due.any (fun d => d.1 = s.nextPosition) = false → execRotationDue s =
      ok { s.positionTaken with vat := { s.positionTaken.vat with due := s.vat.due ++ [(s.nextPosition, s.now, false)] } }) ∧
    (s.vat.due.any (fun d => d.1 = s.nextPosition) = true → execRotationDue s = ok s.positionTaken) := by
  obtain ⟨hn, hd, -⟩ := s.positionTaken_keeps
  rw [execRotationDue_on hon, if_neg (by rwa [Bool.and_eq_true, s.positionHeld_iff, hn]), hd]
  exact ⟨fun ha => if_neg (ne_true_of_eq_false ha), fun ha => if_pos ha⟩

end

/-- R169. -/
theorem execRotationWaitExpire_due {s : State} {d : Nat × Nat × Bool} (h : s.vat.due.find? (fun d => !d.2.2) = some d) : execRotationWaitExpire s =
    if s.now < d.2.1 + s.par 0x4000 9 * 1000000 then ok s
    else ok { s with vat := { s.vat with due := s.vat.due.map (fun e => if e = d then (d.1, d.2.1, true) else e) } } := by
  unfold execRotationWaitExpire
  rw [h]

theorem execRotationWaitExpire_none {s : State} (h : s.vat.due.find? (fun d => !d.2.2) = none) : execRotationWaitExpire s = ok s := by
  unfold execRotationWaitExpire
  rw [h]

/-! ### Takeovers -/

/-- R167, R180: the role is the spare's, and the old vat waits for its test. -/
def State.roleTaken (s : State) (t : Takeover) : State :=
  { s with vat := { s.vat with lmap := Tab.set s.vat.lmap t.logical t.spare, takeover := none, toTest := s.vat.toTest ++ [t.old] } }

/-- R167, R180: the state after a takeover: the old vat is to be washed. -/
def State.takenOver (s : State) (t : Takeover) : State :=
  ((((s.roleTaken t).modVat t.spare (fun x => { x with activity := 0 })).modVat t.old
    (fun x => { x with owner := none, resident := false })).bump 64 0x4000 11).washVat t.old

theorem execTakeoverDone_some {s : State} {t : Takeover} (h : s.vat.takeover = some t) : execTakeoverDone s = ok (s.takenOver t) := by
  unfold execTakeoverDone
  rw [h]
  rfl

@[simp] theorem State.vatAt_bump (s : State) (w i k n v : Nat) : (s.bump w i k n).vatAt v = s.vatAt v := rfl

theorem State.takenOver_spare (s : State) {t : Takeover} (h : t.old ≠ t.spare) :
    (s.takenOver t).vatAt t.spare = { s.vatAt t.spare with activity := 0 } := by
  unfold State.takenOver State.washVat
  rw [State.vatAt_modVat_other _ _ h.symm, State.vatAt_bump, State.vatAt_modVat_other _ _ h.symm, State.vatAt_modVat]
  rfl

theorem State.takenOver_old (s : State) {t : Takeover} (h : t.old ≠ t.spare) :
    (s.takenOver t).vatAt t.old = { s.vatAt t.old with owner := none, activity := 2, resident := false, faultHeld := false } := by
  unfold State.takenOver State.washVat
  rw [State.vatAt_modVat, State.vatAt_bump, State.vatAt_modVat, State.vatAt_modVat_other _ _ h]
  rfl

theorem State.takenOver_other (s : State) {t : Takeover} {v : Nat} (ho : v ≠ t.old) (hs : v ≠ t.spare) : (s.takenOver t).vatAt v = s.vatAt v := by
  unfold State.takenOver State.washVat
  rw [State.vatAt_modVat_other _ _ ho, State.vatAt_bump, State.vatAt_modVat_other _ _ ho, State.vatAt_modVat_other _ _ hs]
  rfl

theorem execTakeoverDone_none {s : State} (h : s.vat.takeover = none) : execTakeoverDone s = ok s := by
  unfold execTakeoverDone
  rw [h]

theorem State.roleTaken_physical (s : State) (t : Takeover) :
    (s.roleTaken t).physical t.logical = if t.spare = 0xFF then none else some t.spare := by
  unfold State.physical State.roleTaken
  dsimp only
  rw [Tab.get_set_same]

/-! ### Reservations -/

theorem le_foldl_max {α : Type} (g : α → Nat) (l : List α) (m : Nat) :
    m ≤ l.foldl (fun m p => Nat.max m (g p)) m ∧ ∀ p, p ∈ l → g p ≤ l.foldl (fun m p => Nat.max m (g p)) m := by
  induction l generalizing m with
  | nil => exact ⟨le_refl m, nofun⟩
  | cons p l ih =>
    obtain ⟨hm, hl⟩ := ih (Nat.max m (g p))
    refine ⟨(Nat.le_max_left ..).trans hm, fun q hq => ?_⟩
    rcases List.mem_cons.mp hq with rfl | hq
    · exact (Nat.le_max_right ..).trans hm
    · exact hl q hq

/-- R175: a reservation after every other one. -/
def State.nextReservation (s : State) : Nat := s.ctxs.foldl (fun (m : Nat) (p : Nat × Ctx) => Nat.max m (p.2.reserved.getD 0)) 0 + 1

theorem State.reserved_lt_next {s : State} {p : Nat × Ctx} (h : p ∈ s.ctxs) : p.2.reserved.getD 0 < s.nextReservation :=
  Nat.lt_succ_of_le ((le_foldl_max (fun p : Nat × Ctx => p.2.reserved.getD 0) s.ctxs 0).2 p h)

theorem execVatReserve_aged {s : State} {k : Fin 1024} (hr : (s.ctxAt k.val).reserved = none) (hv : (s.ctxAt k.val).headVats ≠ [])
    (ha : s.par 0x4000 5 ≤ (s.ctxAt k.val).headAge) :
    execVatReserve k s = ok (s.modCtx k.val (fun x => { x with reserved := some s.nextReservation })) :=
  if_neg (by simp [hr, hv, ha])

theorem execVatReserve_other {s : State} {k : Fin 1024} (h : (s.ctxAt k.val).reserved ≠ none ∨ (s.ctxAt k.val).headVats = [] ∨
    (s.ctxAt k.val).headAge < s.par 0x4000 5) : execVatReserve k s = ok s :=
  if_pos (by simpa [Option.isSome_iff_ne_none, or_assoc] using h)

/-! ### The switch -/

theorem State.stopSlice_none {s : State} (h : s.tst.testing = none) : s.stopSlice = s := by
  unfold State.stopSlice
  rw [h]

theorem State.stopSlice_some (s : State) {v : Nat} (h : s.tst.testing = some v) : s.stopSlice =
    (({ s with tst := { s.tst with testing := none, vatTest := if s.tst.vatTest = some v then none else s.tst.vatTest } } : State).modVat v
      (fun _ => { freshVat with lastTest := 3 })).slotVat v := by
  unfold State.stopSlice
  rw [h]

/-- R171, R524: a vat that returns changes who the rotating spare is and nothing else. -/
theorem State.slotVat_eq (s : State) (v : Nat) : s.slotVat v = { s with vat := { s.vat with
    spare := if s.logical v = none ∧ s.vat.repair ≠ some v then some v else s.vat.spare } } := by
  unfold State.slotVat
  by_cases h : s.logical v = none ∧ s.vat.repair ≠ some v
  · rw [if_pos h, if_neg (by simp [h])]
  · rw [if_neg h, if_pos (by simpa [Option.isSome_iff_ne_none, or_iff_not_imp_left] using h)]

@[simp] theorem State.vatAt_slotVat (s : State) (v u : Nat) : (s.slotVat v).vatAt u = s.vatAt u := by
  rw [State.slotVat_eq]
  rfl

@[simp] theorem State.slotVat_tst (s : State) (v : Nat) : (s.slotVat v).tst = s.tst := by rw [State.slotVat_eq]

@[simp] theorem State.slotVat_med (s : State) (v : Nat) : (s.slotVat v).med = s.med := by rw [State.slotVat_eq]

/-- Settles O33: each command by the cases that its rules name. -/
theorem rotationAndReservation : Obligations.RotationAndReservation := by
  unfold Obligations.RotationAndReservation
  refine ⟨fun s => ?_, fun s => ⟨fun d hd => ?_, execRotationWaitExpire_none⟩, fun s t ht hne => ?_, fun s => execTakeoverDone_none, fun s k => ?_,
    fun s c v hs => ?_, fun s v hv => ?_⟩
  · exact ⟨execRotationDue_off, execRotationDue_skips, execRotationDue_takes⟩
  · have hx : exec .rotationWaitExpire s = _ := execRotationWaitExpire_due hd
    rw [hx]
    exact ⟨fun h => if_neg (Nat.not_lt.mpr h), fun h => if_pos h⟩
  · exact ⟨_, execTakeoverDone_some ht, fun _ => rfl, s.roleTaken_physical t, rfl, rfl, s.takenOver_spare hne, s.takenOver_old hne, State.par_setPar ..,
      fun v => s.takenOver_other⟩
  · exact ⟨fun hr hv ha => ⟨_, execVatReserve_aged hr hv ha, fun p => State.reserved_lt_next⟩, execVatReserve_other⟩
  · intro t
    have hx (n : BitVec 8) : exec (.rotationEnableWrite c n) s = _ := congrArg ok (State.request_served hs [n] (rotationEnable n.toNat))
    refine ⟨(hx 1).trans rfl, fun hn => (hx 0).trans (congrArg (fun q => ok (State.answer q c stOk 0)) (State.stopSlice_none hn)), (hx 0).trans rfl,
      fun hv => ?_⟩
    · rw [hx, rotationEnable, if_pos hv]
      rfl
  · have h : s.stopSlice = _ := s.stopSlice_some hv
    rw [h]
    exact ⟨by rw [State.slotVat_tst]; rfl, (State.vatAt_slotVat ..).trans (State.vatAt_modVat ..), fun a => by rw [State.slotVat_med]; rfl⟩

end Machine
end Sys2Proof

namespace Sys2Proof
namespace Machine

/-! Washes and test slices of the vats (R164, R171-R180, R522, R524). -/

/-! ### Entries and records -/

/-- The value of an entry rests on what the dictionary lists for it, the options and the kind of stacks. -/
theorem State.par_congr {s t : State} {idx sub : Nat} (ho : t.opt = s.opt) (hh : t.h64 = s.h64)
    (hf : Tab.find? t.od (odKey idx sub) = Tab.find? s.od (odKey idx sub)) : t.par idx sub = s.par idx sub := by
  have hopt (hi lo : Nat) : t.option hi lo = s.option hi lo := by
    unfold State.option
    rw [ho]
  have hd : t.odDefault idx sub = s.odDefault idx sub := by
    simp only [State.odDefault, State.identityRoutes, State.position, hopt, hh]
  unfold State.par
  rw [hf, hd]

theorem State.par_setPar_other (s : State) {i k j l : Nat} (v : Nat) (h : odKey j l ≠ odKey i k) : (s.setPar i k v).par j l = s.par j l :=
  State.par_congr rfl rfl (State.find_setPar_other s v h)

@[simp] theorem State.par_bump (s : State) (w i k n : Nat) : (s.bump w i k n).par i k = (s.par i k + n) % 2 ^ w := State.par_setPar ..

theorem State.par_bump_other (s : State) {i k j l : Nat} (w n : Nat) (h : odKey j l ≠ odKey i k) : (s.bump w i k n).par j l = s.par j l :=
  State.par_setPar_other s _ h

theorem State.par_peak_other (s : State) {i k j l : Nat} (v : Nat) (h : odKey j l ≠ odKey i k) : (s.peak i k v).par j l = s.par j l := by
  unfold State.peak
  split
  · exact State.par_setPar_other s v h
  · rfl

theorem State.le_par_peak (s : State) (i k v : Nat) : v ≤ (s.peak i k v).par i k ∧ s.par i k ≤ (s.peak i k v).par i k := by
  unfold State.peak
  split
  · next h => exact ⟨(State.par_setPar ..).ge, h.le.trans (State.par_setPar ..).ge⟩
  · next h => exact ⟨Nat.not_lt.mp h, le_refl _⟩

theorem State.report_logOnly (s : State) (k : FKind) (unit subject : Nat) (fields : List (Nat × Nat)) : LogOnly s (s.report k unit subject fields) :=
  State.submit_logOnly s _

theorem State.report_vat (s : State) (k : FKind) (unit subject : Nat) (fields : List (Nat × Nat)) :
    (s.report k unit subject fields).vat = s.vat := by
  rw [(s.report_logOnly ..).1]

/-! ### The wash -/

/-- R177: what a wash leaves of a vat, for its new owner. -/
def Vat.washed (x : Vat) (who : Option Nat) : Vat :=
  { freshVat with
    unusable := x.unusable, owner := who, isolated := x.isolated, lastTest := x.lastTest, stepCount := x.stepCount, invCount := x.invCount }

/-- R178: a wash is counted with its longest time. -/
def State.countWash (s : State) (ns : Nat) : State := (s.bump 64 0x4000 13).peak 0x4000 14 ns

/-- R178: one wash more, and the longest time is no shorter than before or than this one. -/
def WashCounted (s t : State) (ns : Nat) : Prop :=
  t.par 0x4000 13 = (s.par 0x4000 13 + 1) % 2 ^ 64 ∧ ns ≤ t.par 0x4000 14 ∧ s.par 0x4000 14 ≤ t.par 0x4000 14

theorem State.countWash_counted (s : State) (ns : Nat) : WashCounted s (s.countWash ns) ns := by
  have h14 : (s.bump 64 0x4000 13).par 0x4000 14 = s.par 0x4000 14 := State.par_bump_other s _ _ (by decide)
  obtain ⟨hn, hs⟩ := (s.bump 64 0x4000 13).le_par_peak 0x4000 14 ns
  rw [h14] at hs
  exact ⟨(State.par_peak_other _ _ (by decide)).trans (State.par_bump ..), hn, hs⟩

theorem State.countWash_rotation (s : State) (ns : Nat) : (s.countWash ns).par 0x4000 7 = s.par 0x4000 7 :=
  (State.par_peak_other _ _ (by decide)).trans (State.par_bump_other s _ _ (by decide))

theorem State.countWash_eq (s : State) (ns : Nat) : s.countWash ns = { s with od := (s.countWash ns).od } := by
  unfold State.countWash State.peak
  split <;> rfl

theorem State.countWash_vat (s : State) (ns : Nat) : (s.countWash ns).vat = s.vat := by rw [State.countWash_eq]

theorem State.vatAt_countWash (s : State) (ns u : Nat) : (s.countWash ns).vatAt u = s.vatAt u := by
  unfold State.vatAt
  rw [State.countWash_vat]

theorem State.testBar_countWash (s : State) (ns : Nat) : (s.countWash ns).testBar = s.testBar := by
  rw [State.countWash_eq]
  rfl

/-- A wash is over: the vat holds nothing, and the wash is counted. -/
def State.washOver (s : State) (v ns : Nat) (who : Option Nat) : State := (s.modVat v (fun x => x.washed who)).countWash ns

theorem State.washOver_spec (s : State) (v ns : Nat) (who : Option Nat) :
    let t := s.washOver v ns who
    SameBytes s t ∧ t.vatAt v = (s.vatAt v).washed who ∧ (∀ u, u ≠ v → t.vatAt u = s.vatAt u) ∧ WashCounted s t ns := by
  refine ⟨fun a => ?_, (State.vatAt_countWash ..).trans (State.vatAt_modVat ..),
    fun u hu => (State.vatAt_countWash ..).trans (State.vatAt_modVat_other _ _ hu), State.countWash_counted ..⟩
  unfold State.washOver
  rw [State.countWash_eq]
  rfl

theorem State.washOver_toTest (s : State) (v ns : Nat) (who : Option Nat) : (s.washOver v ns who).vat.toTest = s.vat.toTest := by
  unfold State.washOver
  rw [State.countWash_vat]
  rfl

theorem State.washOver_rotation (s : State) (v ns : Nat) (who : Option Nat) : (s.washOver v ns who).par 0x4000 7 = s.par 0x4000 7 :=
  State.countWash_rotation ..

theorem State.testBar_washOver (s : State) (v ns : Nat) (who : Option Nat) : (s.washOver v ns who).testBar = s.testBar :=
  State.testBar_countWash ..

/-- R180: a vat leaves the list of those to be tested. -/
def State.testTaken (t : State) (v : Nat) : State := { t with vat := { t.vat with toTest := t.vat.toTest.erase v } }

theorem State.vatAt_testTaken (s : State) (v u : Nat) : (s.testTaken v).vatAt u = s.vatAt u := rfl

/-- R177, R180: after a wash the vat goes on to its test, or is free. -/
def State.afterWash (t : State) (v : Nat) : State :=
  if t.vat.toTest.contains v then (t.testTaken v).startSlice v
  else if (List.range 34).all (fun u => (t.vatAt u).activity ≠ 2) then { t with vat := { t.vat with vatPllBad := false } }
  else t

/-- R178: the cache of the vat's role is flushed. -/
def State.flushRole (s : State) (l : Option Nat) : State :=
  match l with
  | some n => if h : n < 32 then s.flushCache ⟨n, h⟩ else s
  | none => s

/-- R174: the launch that waits for the vat's role. -/
def State.nextOwner (s : State) (l : Option Nat) : Option Nat :=
  match l with
  | some n => s.startingOn n
  | none => none

/-- R321: the home agent is at rest where no request and no atomic waits. -/
theorem State.settle_of_empty {s : State} (hq : s.coh.queue = []) (hj : s.coh.jobs = []) : s.settle = s := by
  have hd (n : Nat) : State.drainHome n s = s := by
    cases n with
    | zero => rfl
    | succ n => simp [State.drainHome, hq]
  have hr (n : Nat) : State.runJobs n s = s := by
    cases n with
    | zero => rfl
    | succ n => simp [State.runJobs, hj]
  unfold State.settle
  simp only [hd, hr]

theorem State.flushCache_empty {s : State} {l : Fin 32} {v : Nat} (hp : s.physical l.val = some v) (hc : (s.vatAt v).cache = [])
    (hq : s.coh.queue = []) (hj : s.coh.jobs = []) : s.flushCache l = s := by
  unfold State.flushCache
  rw [hp]
  dsimp only
  rw [hc]
  exact State.settle_of_empty hq hj

/-- The logical vat that a physical one holds is below 32 and maps to it. -/
theorem State.of_logical {s : State} {v l : Nat} (h : s.logical v = some l) : l < 32 ∧ s.physical l = some v := by
  have hp := List.find?_some h
  have hm := List.mem_of_find?_eq_some h
  exact ⟨List.mem_range.mp hm, of_decide_eq_true hp⟩

section
variable {s : State} {v : Fin 34}

theorem execVatWashDone_other (h : (s.vatAt v.val).activity ≠ 2 ∨ s.vat.takeover.any (fun t => t.old = v.val || t.spare = v.val) = true) (ns : Nat) :
    execVatWashDone v ns s = ok s := if_pos (by simpa using h)

variable (ha : (s.vatAt v.val).activity = 2) (ht : s.vat.takeover.any (fun t => t.old = v.val || t.spare = v.val) = false)
include ha ht

theorem execVatWashDone_washing (ns : Nat) :
    let s1 := s.flushRole (s.logical v.val)
    execVatWashDone v ns s = ok ((s1.washOver v.val ns (s1.nextOwner (s.logical v.val))).afterWash v.val) :=
  (if_neg (by simp [ha, ht])).trans (apply_ite ok _ _ _).symm

theorem execVatWashDone_roleless (hl : s.logical v.val = none) (ns : Nat) :
    execVatWashDone v ns s = ok ((s.washOver v.val ns none).afterWash v.val) := by
  rw [execVatWashDone_washing ha ht, hl]
  rfl

theorem execVatWashDone_role {l : Nat} (hl : s.logical v.val = some l) (hc : (s.vatAt v.val).cache = []) (hq : s.coh.queue = [])
    (hj : s.coh.jobs = []) (ns : Nat) : execVatWashDone v ns s = ok ((s.washOver v.val ns (s.startingOn l)).afterWash v.val) := by
  obtain ⟨h32, hp⟩ := State.of_logical hl
  have hf : s.flushRole (some l) = s := (dif_pos h32).trans (State.flushCache_empty hp hc hq hj)
  rw [execVatWashDone_washing ha ht, hl, hf]
  rfl

end

theorem State.afterWash_untested {s : State} {v : Nat} (h : s.vat.toTest.contains v = false) (ns : Nat) (who : Option Nat) :
    let t := (s.washOver v ns who).afterWash v
    SameBytes s t ∧ t.vatAt v = (s.vatAt v).washed who ∧ (∀ u, u ≠ v → t.vatAt u = s.vatAt u) ∧ WashCounted s t ns := by
  unfold State.afterWash
  rw [State.washOver_toTest, if_neg (ne_true_of_eq_false h)]
  split <;> exact s.washOver_spec v ns who

/-- R171: the test slice of a vat. -/
def State.beginSlice (s : State) (v : Nat) : State :=
  ({ s with tst := { s.tst with testing := some v } } : State).modVat v (fun x => { x with activity := 3 })

theorem State.vatAt_beginSlice (s : State) (v : Nat) : (s.beginSlice v).vatAt v = { s.vatAt v with activity := 3 } := State.vatAt_modVat ..

theorem State.vatAt_beginSlice_other (s : State) {u v : Nat} (h : u ≠ v) : (s.beginSlice v).vatAt u = s.vatAt u :=
  State.vatAt_modVat_other _ _ h

/-- R182, R522: a slice begins where rotation is enabled and the conditions hold. -/
theorem State.startSlice_begins {s : State} {v : Nat} (h : s.par 0x4000 7 ≠ 0) (hb : s.testBar = none) : s.startSlice v = s.beginSlice v := by
  unfold State.startSlice
  rw [if_neg h, hb]
  rfl

theorem State.afterWash_tested {s : State} {v : Nat} (h : s.vat.toTest.contains v = true) (hp : s.par 0x4000 7 ≠ 0) (hb : s.testBar = none)
    (ns : Nat) (who : Option Nat) :
    let t := (s.washOver v ns who).afterWash v
    SameBytes s t ∧ t.vatAt v = { (s.vatAt v).washed who with activity := 3 } ∧ t.tst.testing = some v ∧ t.vat.toTest = s.vat.toTest.erase v ∧
      (∀ u, u ≠ v → t.vatAt u = s.vatAt u) ∧ WashCounted s t ns := by
  obtain ⟨hm, hv, ho, hc⟩ := s.washOver_spec v ns who
  have ht := s.washOver_toTest v ns who
  have hp' : ((s.washOver v ns who).testTaken v).par 0x4000 7 ≠ 0 := fun e => hp ((s.washOver_rotation v ns who).symm.trans e)
  have hb' : ((s.washOver v ns who).testTaken v).testBar = none := (s.testBar_washOver v ns who).trans hb
  have hx : (s.washOver v ns who).afterWash v = ((s.washOver v ns who).testTaken v).beginSlice v :=
    (if_pos (by rw [ht]; exact h)).trans (State.startSlice_begins hp' hb')
  intro t
  rw [show t = _ from hx]
  refine ⟨hm, ?_, rfl, congrArg (fun l => List.erase l v) ht, fun u hu => ?_, hc⟩
  · rw [State.vatAt_beginSlice, State.vatAt_testTaken, hv]
  · rw [State.vatAt_beginSlice_other _ hu, State.vatAt_testTaken, ho u hu]

/-! ### The end of a test slice -/

/-- R171, R524: the slice's signature is kept, and the seed advances. -/
def State.sliceOver (s : State) (v : Nat) (sig : BitVec 2048) : State :=
  (({ s with tst := { s.tst with
      testing := none, vatTest := if s.tst.vatTest = some v then none else s.tst.vatTest,
      sigs := Tab.set s.tst.sigs v (s.par 0x7000 4, sig) } } : State).setPar 0x7000 4 ((s.par 0x7000 4 + 1) % 16)).bump 64 0x7000 5

/-- R171, R524: what the end of a slice leaves, whatever its verdict. -/
def SliceKept (s t : State) (v : Nat) (sig : BitVec 2048) : Prop :=
  SameBytes s t ∧ t.tst.testing = none ∧ Tab.find? t.tst.sigs v = some (s.par 0x7000 4, sig) ∧
    t.par 0x7000 4 = (s.par 0x7000 4 + 1) % 16 ∧ ∀ u, u ≠ v → t.vatAt u = s.vatAt u

theorem State.sliceOver_kept (s : State) (v : Nat) (sig : BitVec 2048) : SliceKept s (s.sliceOver v sig) v sig :=
  ⟨fun _ => rfl, rfl, Tab.find_set_same .., (State.par_bump_other _ _ _ (by decide)).trans (State.par_setPar ..), fun _ _ => rfl⟩

theorem SliceKept.modVat {s t : State} {v : Nat} {sig : BitVec 2048} (h : SliceKept s t v sig) (f : Vat → Vat) :
    SliceKept s (t.modVat v f) v sig := by
  obtain ⟨hm, ht, hs, hp, hv⟩ := h
  exact ⟨hm, ht, hs, hp, fun u hu => (State.vatAt_modVat_other _ _ hu).trans (hv u hu)⟩

/-- The vats, the tests, the seed and memory are the same. -/
structure RolesOnly (s t : State) : Prop where
  bytes : SameBytes s t
  tst : t.tst = s.tst
  vats : t.vat.vats = s.vat.vats
  seed : t.par 0x7000 4 = s.par 0x7000 4

theorem RolesOnly.trans {s t u : State} (h : RolesOnly s t) (k : RolesOnly t u) : RolesOnly s u :=
  ⟨fun a => (k.bytes a).trans (h.bytes a), k.tst.trans h.tst, k.vats.trans h.vats, k.seed.trans h.seed⟩

theorem RolesOnly.vatAt {s t : State} (h : RolesOnly s t) (u : Nat) : t.vatAt u = s.vatAt u := by
  unfold State.vatAt
  rw [h.vats]

theorem RolesOnly.report (s : State) (k : FKind) (unit subject : Nat) (fields : List (Nat × Nat)) : RolesOnly s (s.report k unit subject fields) := by
  obtain ⟨ht, ho⟩ := s.report_logOnly k unit subject fields
  refine ⟨fun a => by rw [ht], by rw [ht], by rw [ht], State.par_congr (by rw [ht]) (by rw [ht]) (ho _ _ (by decide))⟩

theorem RolesOnly.report_withVat (s : State) {x : VatState} (h : x.vats = s.vat.vats) (k : FKind) (unit subject : Nat)
    (fields : List (Nat × Nat)) : RolesOnly s (({ s with vat := x } : State).report k unit subject fields) :=
  have hx : RolesOnly s { s with vat := x } := ⟨fun _ => rfl, rfl, h, rfl⟩
  hx.trans (RolesOnly.report ..)

theorem RolesOnly.bump (s : State) {k : Nat} (w : Nat) (hk : odKey 0x7000 4 ≠ odKey 0x7000 k) : RolesOnly s (s.bump w 0x7000 k) :=
  ⟨fun _ => rfl, rfl, rfl, State.par_bump_other s _ _ hk⟩

theorem RolesOnly.slotVat (s : State) (v : Nat) : RolesOnly s (s.slotVat v) := by
  rw [State.slotVat_eq]
  exact ⟨fun _ => rfl, rfl, rfl, rfl⟩

theorem SliceKept.roles {s t u : State} {v : Nat} {sig : BitVec 2048} (h : SliceKept s t v sig) (k : RolesOnly t u) : SliceKept s u v sig := by
  obtain ⟨hm, ht, hs, hp, hv⟩ := h
  exact ⟨fun a => (k.bytes a).trans (hm a), by rw [k.tst, ht], by rw [k.tst, hs], k.seed.trans hp, fun w hw => (k.vatAt w).trans (hv w hw)⟩

/-! ### A vat fails -/

/-- R171: a vat is unusable and on the failure list, and its failure is reported. -/
def State.vatLost (s : State) (v seed : Nat) (sig : BitVec 2048) : State :=
  let t := s.modVat v (fun _ => { freshVat with unusable := true, clean := false, lastTest := 2 })
  ({ t with vat := { t.vat with failures := addNew t.vat.failures v } } : State).report kVatFailed 0 v
    [(32, v), (32, (s.logical v).getD 0x3F), (32, seed), (192, bits sig 191 0)]

theorem State.vatLost_repair (s : State) (v seed : Nat) (sig : BitVec 2048) : (s.vatLost v seed sig).vat.repair = s.vat.repair := by
  unfold State.vatLost
  rw [State.report_vat]
  rfl

theorem State.vatLost_failures (s : State) (v seed : Nat) (sig : BitVec 2048) :
    (s.vatLost v seed sig).vat.failures = addNew s.vat.failures v := by
  unfold State.vatLost
  rw [State.report_vat]
  rfl

theorem State.vatLost_rolesOnly (s : State) (v seed : Nat) (sig : BitVec 2048) :
    RolesOnly (s.modVat v (fun _ => { freshVat with unusable := true, clean := false, lastTest := 2 })) (s.vatLost v seed sig) :=
  RolesOnly.report_withVat _ (by rfl) ..

/-- R172: the record of the vats that are left. -/
def State.countVats (s : State) : State := s.report kVatCountChanged 0 0 [(8, s.activeVats), (32, bitSet s.absentVats)]

theorem State.countVats_vat (s : State) : s.countVats.vat = s.vat := State.report_vat ..

/-- R164, R171, R172: the role of a vat that failed, whose logical vat was `l`. -/
def State.roleLost (s : State) (v : Nat) (l : Option Nat) : State :=
  if s.vat.repair = some v then { s with vat := { s.vat with repair := none } }
  else match l with
    | some n => ({ s with vat := { s.vat with lmap := Tab.set s.vat.lmap n 0xFF } } : State).countVats
    | none => { s with vat := { s.vat with spare := s.vat.repair, repair := none } }

theorem State.vatFails_eq (s : State) (v seed : Nat) (sig : BitVec 2048) : s.vatFails v seed sig = (s.vatLost v seed sig).roleLost v (s.logical v) := rfl

theorem State.roleLost_repair {s : State} {v : Nat} (h : s.vat.repair = some v) (l : Option Nat) :
    s.roleLost v l = { s with vat := { s.vat with repair := none } } := if_pos h

theorem State.roleLost_spare {s : State} {v : Nat} (h : s.vat.repair ≠ some v) :
    s.roleLost v none = { s with vat := { s.vat with spare := s.vat.repair, repair := none } } := if_neg h

theorem State.roleLost_logical {s : State} {v : Nat} (h : s.vat.repair ≠ some v) (n : Nat) :
    s.roleLost v (some n) = ({ s with vat := { s.vat with lmap := Tab.set s.vat.lmap n 0xFF } } : State).countVats := if_neg h

theorem State.roleLost_rolesOnly (s : State) (v : Nat) (l : Option Nat) :
    RolesOnly s (s.roleLost v l) ∧ (s.roleLost v l).vat.failures = s.vat.failures := by
  unfold State.roleLost
  split
  · exact ⟨⟨fun _ => rfl, rfl, rfl, rfl⟩, rfl⟩
  · cases l with
    | some n =>
      refine ⟨RolesOnly.report_withVat _ (by rfl) .., ?_⟩
      dsimp only
      rw [State.countVats_vat]
    | none => exact ⟨⟨fun _ => rfl, rfl, rfl, rfl⟩, rfl⟩

theorem State.vatFails_rolesOnly (s : State) (v seed : Nat) (sig : BitVec 2048) :
    RolesOnly (s.modVat v (fun _ => { freshVat with unusable := true, clean := false, lastTest := 2 })) (s.vatFails v seed sig) := by
  rw [State.vatFails_eq]
  exact (s.vatLost_rolesOnly v seed sig).trans (State.roleLost_rolesOnly ..).1

theorem State.mem_vatFails_failures (s : State) (v seed : Nat) (sig : BitVec 2048) : v ∈ (s.vatFails v seed sig).vat.failures := by
  rw [State.vatFails_eq, (State.roleLost_rolesOnly ..).2, State.vatLost_failures]
  exact mem_addNew _ _

section
variable {s : State} {v : Nat} (seed : Nat) (sig : BitVec 2048)

theorem State.vatFails_repair (h : s.vat.repair = some v) : (s.vatFails v seed sig).vat.repair = none := by
  rw [State.vatFails_eq, State.roleLost_repair ((s.vatLost_repair v seed sig).trans h)]

variable (h : s.vat.repair ≠ some v)
include h

theorem State.vatFails_spare (hl : s.logical v = none) :
    (s.vatFails v seed sig).vat.spare = s.vat.repair ∧ (s.vatFails v seed sig).vat.repair = none := by
  have hr := s.vatLost_repair v seed sig
  rw [State.vatFails_eq, hl, State.roleLost_spare (by rwa [hr])]
  exact ⟨hr, rfl⟩

theorem State.vatFails_logical {l : Nat} (hl : s.logical v = some l) :
    Tab.find? (s.vatFails v seed sig).vat.lmap l = some 0xFF ∧ (s.vatFails v seed sig).vat.repair = s.vat.repair := by
  have hr := s.vatLost_repair v seed sig
  rw [State.vatFails_eq, hl, State.roleLost_logical (by rwa [hr]), State.countVats_vat]
  exact ⟨Tab.find_set_same .., hr⟩

end

/-! ### The verdict -/

/-- R171: a vat that passes. -/
def State.slicePassed (s : State) (v : Nat) (sig : BitVec 2048) : State :=
  ((s.sliceOver v sig).modVat v (fun _ => { freshVat with lastTest := 1 })).slotVat v

/-- R171: a vat that fails is counted, and its role passes on. -/
def State.sliceFailed (s : State) (v : Nat) (sig : BitVec 2048) : State :=
  ((s.sliceOver v sig).bump 32 0x7000 6).vatFails v (s.par 0x7000 4) sig

theorem State.slicePassed_spec (s : State) (v : Nat) (sig : BitVec 2048) : SliceKept s (s.slicePassed v sig) v sig ∧
    (s.slicePassed v sig).vatAt v = { freshVat with lastTest := 1 } ∧
    (s.slicePassed v sig).vat.spare = if s.logical v = none ∧ s.vat.repair ≠ some v then some v else s.vat.spare := by
  refine ⟨((s.sliceOver_kept v sig).modVat _).roles (RolesOnly.slotVat ..), (State.vatAt_slotVat ..).trans (State.vatAt_modVat ..), ?_⟩
  unfold State.slicePassed
  rw [State.slotVat_eq]
  rfl

theorem State.sliceFailed_spec (s : State) (v : Nat) (sig : BitVec 2048) : SliceKept s (s.sliceFailed v sig) v sig ∧
    v ∈ (s.sliceFailed v sig).vat.failures ∧
    (s.sliceFailed v sig).vatAt v = { freshVat with unusable := true, clean := false, lastTest := 2 } := by
  have hr := ((s.sliceOver v sig).bump 32 0x7000 6).vatFails_rolesOnly v (s.par 0x7000 4) sig
  exact ⟨(((s.sliceOver_kept v sig).roles (RolesOnly.bump _ 32 (by decide))).modVat _).roles hr, State.mem_vatFails_failures ..,
    (hr.vatAt v).trans (State.vatAt_modVat ..)⟩

/-- R164, R171, R172: the role of a vat that fails: the repair spare's, a rotating spare's, or that of a logical vat. -/
theorem State.sliceFailed_role (s : State) (v : Nat) (sig : BitVec 2048) :
    (s.vat.repair = some v → (s.sliceFailed v sig).vat.repair = none) ∧
    (s.vat.repair ≠ some v → s.logical v = none →
      (s.sliceFailed v sig).vat.spare = s.vat.repair ∧ (s.sliceFailed v sig).vat.repair = none) ∧
    ∀ l, s.vat.repair ≠ some v → s.logical v = some l →
      Tab.find? (s.sliceFailed v sig).vat.lmap l = some 0xFF ∧ (s.sliceFailed v sig).vat.repair = s.vat.repair :=
  ⟨State.vatFails_repair (s := (s.sliceOver v sig).bump 32 0x7000 6) _ sig,
    State.vatFails_spare (s := (s.sliceOver v sig).bump 32 0x7000 6) _ sig,
    fun _ h hl => State.vatFails_logical (s := (s.sliceOver v sig).bump 32 0x7000 6) _ sig h hl⟩

section
variable {s : State} {v : Fin 34} {sig : BitVec 2048}

theorem execVatTestSliceDone_other (h : s.tst.testing ≠ some v.val ∨ (s.vatAt v.val).activity ≠ 3) (pass : Bool) :
    execVatTestSliceDone v pass sig s = ok s := if_pos (by simpa using h)

variable (ht : s.tst.testing = some v.val) (ha : (s.vatAt v.val).activity = 3)
include ht ha

theorem execVatTestSliceDone_passes : execVatTestSliceDone v true sig s = ok (s.slicePassed v.val sig) := if_neg (by simp [ht, ha])

theorem execVatTestSliceDone_fails : execVatTestSliceDone v false sig s = ok (s.sliceFailed v.val sig) := if_neg (by simp [ht, ha])

end

/-- Settles O34: a wash by the role of its vat and by whether its test waits; a slice by its verdict, a failure by the role that it takes. -/
theorem vatsAreWashedAndTested : Obligations.VatsAreWashedAndTested := by
  unfold Obligations.VatsAreWashedAndTested
  refine ⟨fun s v ns ha ht => ?_, fun s v ns h => execVatWashDone_other h ns, fun s v sig ht ha => ?_,
    fun s v pass sig h => execVatTestSliceDone_other h pass⟩
  · intro kept counted
    exact ⟨fun hl hn => ⟨_, execVatWashDone_roleless ha ht hl ns, State.afterWash_untested hn ns none⟩,
      fun l hl hc hn hq hj => ⟨_, execVatWashDone_role ha ht hl hc hq hj ns, State.afterWash_untested hn ns _⟩,
      fun hl hn hp hb => ⟨_, execVatWashDone_roleless ha ht hl ns, State.afterWash_tested hn hp hb ns none⟩⟩
  · intro kept
    obtain ⟨hpk, hpv, hps⟩ := s.slicePassed_spec v.val sig
    obtain ⟨hfk, hff, hfv⟩ := s.sliceFailed_spec v.val sig
    exact ⟨⟨_, execVatTestSliceDone_passes ht ha, hpk, hpv, hps⟩,
      _, execVatTestSliceDone_fails ht ha, hfk, hff, hfv, s.sliceFailed_role v.val sig⟩

end Machine
end Sys2Proof

namespace Sys2Proof
namespace Machine

/-! The vector slot's selections (R185, R199, R219): the order of FP32 values and the patterns that it does not tell apart, the minimum and
the maximum, and the slots that select lanes or seed the generators. -/

/-! ### FP32 patterns -/

/-- R184: the value of an FP32 pattern, from its sign, its exponent field and its mantissa field. -/
theorem f32_eq (a : BitVec 32) : f32 a =
    if a.toNat / 2 ^ 23 % 256 = 255 then (if a.toNat % 2 ^ 23 = 0 then .inf (bitAt a.toNat 31) else .nan)
    else if a.toNat / 2 ^ 23 % 256 = 0 then .fin (bitAt a.toNat 31) (a.toNat % 2 ^ 23) (-149)
    else .fin (bitAt a.toNat 31) (2 ^ 23 + a.toNat % 2 ^ 23) ((a.toNat / 2 ^ 23 % 256 : Nat) - 150) := by
  simp [f32, FpFmt.decode, fp32, Nat.shiftRight_eq_div_pow, Int.sub_sub] <;> rfl

theorem fp32_signed_bitAt {a : BitVec 32} {c : Nat} (h : a.toNat % 2 ^ 31 = c) : a.toNat = fp32.signed (bitAt a.toNat 31) c := by
  have ha := a.isLt
  have hs : fp32.signed (bitAt a.toNat 31) c = if a.toNat / 2 ^ 31 % 2 = 1 then c + 2 ^ 31 else c := by
    simp [FpFmt.signed, fp32, bitAt, Nat.shiftRight_eq_div_pow]
  rw [hs]
  split <;> omega

/-- R184: a magnitude m × 2^e as FP32 holds it: below 2^24, and below 2^23 only at the least exponent. -/
def Fp32Normal (m : Nat) (e : Int) : Prop := m < 2 ^ 24 ∧ -149 ≤ e ∧ (m < 2 ^ 23 → e = -149)

/-- R184: the pattern of an infinity is its code. -/
theorem f32_inf_code {a : BitVec 32} {p : Bool} (h : f32 a = .inf p) : a.toNat = fp32.signed p (255 * 2 ^ 23) := by
  rw [f32_eq] at h
  split at h
  · next he =>
    split at h
    · next hm =>
      cases h
      exact fp32_signed_bitAt (by omega)
    · cases h
  · split at h <;> cases h

/-- R184: the pattern of a finite value is the code of its sign, its magnitude and its exponent. -/
theorem f32_fin_code {a : BitVec 32} {p : Bool} {m : Nat} {e : Int} (h : f32 a = .fin p m e) :
    a.toNat = fp32.signed p (fp32.encodeMag m e) ∧ Fp32Normal m e := by
  unfold Fp32Normal
  rw [f32_eq] at h
  split at h
  · split at h <;> cases h
  · split at h
    · next he =>
      cases h
      have hc : fp32.encodeMag (a.toNat % 2 ^ 23) (-149) = a.toNat % 2 ^ 23 := if_pos (Nat.mod_lt _ (by decide))
      exact ⟨fp32_signed_bitAt (by omega), by omega⟩
    · cases h
      have hc : fp32.encodeMag (2 ^ 23 + a.toNat % 2 ^ 23) ((a.toNat / 2 ^ 23 % 256 : Nat) - 150) =
          a.toNat / 2 ^ 23 % 256 * 2 ^ 23 + a.toNat % 2 ^ 23 := by
        simp [FpFmt.encodeMag, fp32]
        omega
      exact ⟨fp32_signed_bitAt (by omega), by omega⟩

/-- R185: the patterns of zero. -/
theorem f32_zero {a : BitVec 32} {p : Bool} {e : Int} (h : f32 a = .fin p 0 e) : a = 0 ∨ a = 0x80000000 := by
  obtain ⟨ha, -⟩ := f32_fin_code h
  rw [show fp32.encodeMag 0 e = 0 from if_pos (by decide)] at ha
  cases p with
  | false => exact .inl (BitVec.eq_of_toNat_eq ha)
  | true => exact .inr (BitVec.eq_of_toNat_eq ha)

/-! ### Order -/

/-- A sign over a magnitude. -/
def signedInt (p : Bool) (x : Nat) : Int := if p then -(x : Int) else x

theorem signedInt_inj {p q : Bool} {x y : Nat} (h : signedInt p x = signedInt q y) : x = y ∧ (p = q ∨ x = 0) := by
  cases p <;> cases q <;> simp [signedInt] at h ⊢ <;> omega

/-- Two finite values compare as the numbers that they are in units of the lower exponent. -/
theorem FVal.lt_fin (p q : Bool) (m n : Nat) (e f : Int) : FVal.lt (.fin p m e) (.fin q n f) = true ↔
    signedInt p (m <<< (e - min e f).toNat) < signedInt q (n <<< (f - min e f).toNat) := by
  have hg : (if e < f then e else f) = min e f := by omega
  simp only [FVal.lt, FVal.negate, FVal.add, hg, signedInt]
  generalize m <<< (e - min e f).toNat = x
  generalize n <<< (f - min e f).toNat = y
  cases p <;> cases q <;> simp <;> omega

theorem FVal.lt_asymm {x y : FVal} (h : FVal.lt x y = true) : FVal.lt y x = false := by
  cases x with
  | nan => cases h
  | inf p => cases y <;> simp_all [FVal.lt]
  | fin p m e =>
    cases y with
    | nan => cases h
    | inf q => simp_all [FVal.lt]
    | fin q n f =>
      rw [FVal.lt_fin] at h
      rw [← Bool.not_eq_true, FVal.lt_fin, min_comm]
      exact not_lt.mpr h.le

/-- A magnitude of FP32 is no multiple by 2 or more of a magnitude above the least exponent. -/
theorem Fp32Normal.le_of_shift {m n : Nat} {e f : Int} (hm : Fp32Normal m e) (hn : Fp32Normal n f) (h : m = n <<< (f - e).toNat) : f ≤ e := by
  obtain ⟨hm, he, -⟩ := hm
  obtain ⟨-, -, hn⟩ := hn
  by_contra hlt
  rw [Nat.shiftLeft_eq] at h
  have h2 : n * 2 ≤ m := h ▸ Nat.mul_le_mul_left n (Nat.le_self_pow (by omega) 2)
  omega

/-- R184: FP32 holds a magnitude in one way. -/
theorem Fp32Normal.shift_inj {m n : Nat} {e f : Int} (hm : Fp32Normal m e) (hn : Fp32Normal n f)
    (h : m <<< (e - min e f).toNat = n <<< (f - min e f).toNat) : m = n ∧ e = f := by
  have hef : e = f := by
    rcases le_total e f with hle | hle
    · rw [min_eq_left hle, sub_self] at h
      exact le_antisymm hle (hm.le_of_shift hn h)
    · rw [min_eq_right hle, sub_self] at h
      exact le_antisymm (hn.le_of_shift hm h.symm) hle
  subst hef
  simpa using h

/-- Two finite values of which neither is less agree, save for the sign of a zero. -/
theorem f32_tie_fin {a b : BitVec 32} {p q : Bool} {m n : Nat} {e f : Int} (ha : f32 a = .fin p m e) (hb : f32 b = .fin q n f)
    (hab : FVal.lt (f32 a) (f32 b) = false) (hba : FVal.lt (f32 b) (f32 a) = false) : m = n ∧ e = f ∧ (p = q ∨ m = 0) := by
  rw [ha, hb, ← Bool.not_eq_true, FVal.lt_fin, not_lt] at hab
  rw [ha, hb, ← Bool.not_eq_true, FVal.lt_fin, not_lt, min_comm] at hba
  obtain ⟨hx, hs⟩ := signedInt_inj (le_antisymm hba hab)
  obtain ⟨hmn, hef⟩ := (f32_fin_code ha).2.shift_inj (f32_fin_code hb).2 hx
  exact ⟨hmn, hef, hs.imp_right fun h => by simpa [Nat.shiftLeft_eq] using h⟩

/-- R185: two patterns of which neither is less are one pattern, or the two zeros. -/
theorem f32_tie {a b : BitVec 32} (hna : (f32 a).isNan = false) (hnb : (f32 b).isNan = false)
    (hab : FVal.lt (f32 a) (f32 b) = false) (hba : FVal.lt (f32 b) (f32 a) = false) :
    a = b ∨ (a = 0 ∧ b = 0x80000000) ∨ (a = 0x80000000 ∧ b = 0) := by
  cases ha : f32 a with
  | nan => simp [ha, FVal.isNan] at hna
  | inf p =>
    cases hb : f32 b with
    | nan => simp [hb, FVal.isNan] at hnb
    | inf q =>
      have hpq : p = q := by
        rw [ha, hb] at hab hba
        cases p <;> cases q <;> simp_all [FVal.lt]
      exact .inl (BitVec.eq_of_toNat_eq (by rw [f32_inf_code ha, f32_inf_code hb, hpq]))
    | fin q n f => cases p <;> simp [ha, hb, FVal.lt] at hab hba
  | fin p m e =>
    cases hb : f32 b with
    | nan => simp [hb, FVal.isNan] at hnb
    | inf q => cases q <;> simp [ha, hb, FVal.lt] at hab hba
    | fin q n f =>
      obtain ⟨rfl, rfl, rfl | rfl⟩ := f32_tie_fin ha hb hab hba
      · exact .inl (BitVec.eq_of_toNat_eq (by rw [(f32_fin_code ha).1, (f32_fin_code hb).1]))
      · rcases f32_zero ha with rfl | rfl <;> rcases f32_zero hb with rfl | rfl <;> simp

/-! ### The minimum and the maximum -/

section
variable {a b : BitVec 32} {max : Bool}

/-- R185, log entry 20: a NaN that comes of a NaN is the canonical one. -/
theorem fMinMax_nan (h : (f32 a).isNan = true ∨ (f32 b).isNan = true) (hm : (f32 (fMinMax max a b)).isNan = true) :
    fMinMax max a b = 0x7FC00000 := by
  have he : fMinMax max a b = if (f32 (Config.minMax max a b)).isNan then 0x7FC00000 else Config.minMax max a b := if_pos (by simpa using h)
  rw [he] at hm ⊢
  split at hm
  · next hc => exact if_pos hc
  · next hc => exact absurd hm hc

variable (hna : (f32 a).isNan = false) (hnb : (f32 b).isNan = false)
include hna hnb

theorem fMinMax_numbers : fMinMax max a b = if FVal.lt (f32 a) (f32 b) then (if max then b else a)
    else if FVal.lt (f32 b) (f32 a) then (if max then a else b)
    else if a = b then a else if bit (Config.minMax max a b) 31 then 0x80000000 else 0 := if_neg (by simp [hna, hnb])

/-- R185, log entry 20: of two numbers of which neither is less, one of the two. -/
theorem fMinMax_tie (hab : FVal.lt (f32 a) (f32 b) = false) (hba : FVal.lt (f32 b) (f32 a) = false) :
    fMinMax max a b = a ∨ fMinMax max a b = b := by
  have he : fMinMax max a b = if a = b then a else if bit (Config.minMax max a b) 31 then 0x80000000 else 0 := by
    rw [fMinMax_numbers hna hnb, hab, hba]
    rfl
  rw [he]
  rcases f32_tie hna hnb hab hba with h | ⟨rfl, rfl⟩ | ⟨rfl, rfl⟩
  · exact .inl (if_pos h)
  · rw [if_neg (by decide)]
    exact (ite_eq_or_eq ..).symm
  · rw [if_neg (by decide)]
    exact ite_eq_or_eq ..

end

/-! ### The slot -/

/-- R199: the generators of a vat take a value for each lane. -/
def State.loadGens (s : State) (v : Nat) (g : Nat → BitVec 32) : State :=
  s.modVat v (fun x => { x with gens := Tab.setBlock x.gens 0 ((List.range 256).map g) })

/-- R199: what a load of the generators leaves, and what they then are. -/
theorem State.loadGens_spec {s u : State} (hm : u.med = s.med) (v : Nat) (g : Nat → BitVec 32) :
    SameBytes s (u.loadGens v g) ∧ u.onlyVat (u.loadGens v g) v ∧ (∀ r i, (u.loadGens v g).lane v r i = u.lane v r i) ∧
    ∀ i, i < 256 → Tab.get ((u.loadGens v g).vatAt v).gens i 0 = g i := by
  unfold State.loadGens
  refine ⟨fun a => by rw [← hm]; rfl, State.onlyVat_modVat .., fun r i => by simp [State.lane], fun i hi => ?_⟩
  rw [State.vatAt_modVat, Tab.get_setBlock_zero (e := 0) _ (by simpa using hi)]
  simp [hi]

theorem LanesWritten.reg {s u t : State} {v dst due : Nat} {f : Nat → BitVec 32 × FFlags} (h : LanesWritten s u t v dst due f) :
    RegWritten s u t v dst due (fun i => (f i).1) := by
  obtain ⟨hm, hv, hd, ho, hr, -⟩ := h
  exact ⟨hm, hv, hd, ho, hr⟩

/-- R161, R219: a slot that is ready and has no palette operand runs on what the issue stage left. -/
theorem State.vectorSlot_runs {s u : State} {v cyc op k w : Nat} (hi : s.issues v cyc [1] op k w u) (hs : bitsAt w 31 30 = 0)
    (hd : bitsAt w 33 32 = 0) : s.vectorSlot v cyc op = u.vecRun v cyc op w 0 := by
  unfold State.vectorSlot
  rw [State.slotAct_issues hi, State.vecAct_plain (by simp [VecPalette, hs, hd])]

section
variable {u : State} {v cyc w : Nat} (hs : bitsAt w 31 30 = 0) (ha : u.regReady v (bitsAt w 17 12) cyc)
  (hb : u.regReady v (bitsAt w 23 18) cyc) (hc : u.regReady v (bitsAt w 29 24) cyc)
include hs ha hb hc

/-- R219: the sources of a slot of registers that are readable. -/
theorem State.vecSources_registers (op addr : Nat) : u.vecSources v cyc op w addr =
    ((u.regLanes v (bitsAt w 17 12), u.regLanes v (bitsAt w 23 18), u.regLanes v (bitsAt w 29 24)), u) := by
  unfold State.vecSources
  simp only [hs, State.readReg_ready ha, State.readReg_ready hb, State.readReg_ready hc]

/-- R219: BCAST writes one lane of its first source to every lane. -/
theorem State.vecRun_bcast (hd : bitsAt w 33 32 = 0) (addr : Nat) : u.vecRun v cyc 20 w addr =
    (u.raise v .none).writeReg v (bitsAt w 11 6) cyc 4 ⟨List.replicate 256 (u.lane v (bitsAt w 17 12) ((u.lane v (bitsAt w 23 18) 0).toNat % 256)),
      (u.vatAt v).regInt.contains (bitsAt w 17 12)⟩ := by
  have hl : (u.lane v (bitsAt w 23 18) 0).toNat % 256 < 256 := Nat.mod_lt _ (by decide)
  unfold State.vecRun
  simp [State.vecSources_registers hs ha hb hc, vecResult, State.regLanes, hd, hl, -List.reduceReplicate]

/-- R199, R219: SEED loads the generators. -/
theorem State.vecRun_seed (addr : Nat) : u.vecRun v cyc 19 w addr =
    u.loadGens v (fun i => if u.lane v (bitsAt w 17 12) i = 0 then 1 else u.lane v (bitsAt w 17 12) i) := by
  unfold State.vecRun
  simp [State.vecSources_registers hs ha hb hc, State.regLanes, State.loadGens, Function.comp_def]

end

/-- Settles O19: FMIN and FMAX are lane operations, BCAST writes one lane everywhere, SEED writes the generators alone; of two patterns that the
order does not tell apart both are zeros where they differ. -/
theorem vectorSelectionOperations : Obligations.VectorSelectionOperations := by
  unfold Obligations.VectorSelectionOperations
  refine ⟨fun s v cyc k w op u hi _ hs hd ha hb hc => ?_, fun max a b => ⟨fun hna hnb => ?_, fMinMax_nan⟩⟩
  · intro A B res
    refine ⟨?_, ?_, ?_, ?_⟩
    · rintro rfl
      exact (State.vectorSlot_lanes rfl hi (by decide) (by decide) hs hd ha hb hc).imp fun _ => And.imp_right LanesWritten.reg
    · rintro rfl
      exact (State.vectorSlot_lanes rfl hi (by decide) (by decide) hs hd ha hb hc).imp fun _ => And.imp_right LanesWritten.reg
    · rintro rfl
      refine ⟨_, congrArg ok ((State.vectorSlot_runs hi hs hd).trans (State.vecRun_bcast hs ha hb hc hd 0)), ?_⟩
      exact (State.regWritten hi.2 List.length_replicate ..).congr fun _ h => List.getD_replicate _ h
    · rintro rfl
      obtain ⟨hm, hv, hl, hg⟩ := State.loadGens_spec hi.2 v.val (fun i => if A i = 0 then 1 else A i)
      exact ⟨_, congrArg ok ((State.vectorSlot_runs hi hs hd).trans (State.vecRun_seed hs ha hb hc 0)), hm, hv, fun r i _ => hl r i, hg⟩
  · have hn := fMinMax_numbers (max := max) hna hnb
    refine ⟨fun h => hn.trans (if_pos h), fun h => ?_, fun hab hba => ⟨fMinMax_tie hna hnb hab hba, ?_⟩⟩
    · exact hn.trans ((if_neg (ne_true_of_eq_false (FVal.lt_asymm h))).trans (if_pos h))
    · rintro rfl
      simpa [hab] using hn

end Machine
end Sys2Proof

namespace Sys2Proof
namespace Machine

/-! What the operations of a running plan leave of it (R229, R233, R242, R250, R533): where its vats stand, how its context stands, and
memory. -/

/-- Of a vat, what decides whether its plan has come to rest: the tile commands in its engines, whether it is held, what it does and what
it waits for. -/
def Vat.standing (x : Vat) : Tab (List TileCmd) × Bool × BitVec 2 × VatWait := (x.engines, x.faultHeld, x.activity, x.wait)

/-- Of a context, where its plan runs and how it stands. -/
def Ctx.standing (x : Ctx) : BitVec 2 × Phase × Option (Nat × Nat) × BitVec 512 × Option (BitVec 1024) :=
  (x.state, x.phase, x.owed, x.entry, x.inv.map (fun i => i.header))

/-- Memory, the place of every logical vat, and the standing of every vat and of every context are the same. -/
structure SameStanding (s t : State) : Prop where
  mem : t.med.mem = s.med.mem
  lmap : t.vat.lmap = s.vat.lmap
  vats : ∀ v, (t.vatAt v).standing = (s.vatAt v).standing
  ctxs : ∀ k, (t.ctxAt k).standing = (s.ctxAt k).standing

theorem SameStanding.refl (s : State) : SameStanding s s := ⟨rfl, rfl, fun _ => rfl, fun _ => rfl⟩

theorem SameStanding.trans {s t u : State} (h : SameStanding s t) (k : SameStanding t u) : SameStanding s u :=
  ⟨k.mem.trans h.mem, k.lmap.trans h.lmap, fun v => (k.vats v).trans (h.vats v), fun c => (k.ctxs c).trans (h.ctxs c)⟩

theorem SameStanding.foldl {α : Type} {f : State → α → State} (h : ∀ s x, SameStanding s (f s x)) (l : List α) (s : State) :
    SameStanding s (l.foldl f s) :=
  List.foldlRecOn l f (SameStanding.refl s) fun t ht x _ => ht.trans (h t x)

/-- Parts of the state that no vat, no context and no byte of memory lies in. -/
theorem SameStanding.of_eq {s t : State} (hm : t.med.mem = s.med.mem) (hv : t.vat = s.vat) (hc : t.ctxs = s.ctxs) : SameStanding s t :=
  ⟨hm, by rw [hv], fun v => by rw [State.vatAt, hv]; rfl, fun k => by rw [State.ctxAt, hc]; rfl⟩

theorem SameStanding.modVat (s : State) (v : Nat) {f : Vat → Vat} (hf : ∀ x, (f x).standing = x.standing) : SameStanding s (s.modVat v f) := by
  refine ⟨rfl, rfl, fun u => ?_, fun _ => rfl⟩
  by_cases h : u = v
  · rw [h, State.vatAt_modVat, hf]
  · rw [State.vatAt_modVat_other _ _ h]

theorem SameStanding.modCtx (s : State) (k : Nat) {f : Ctx → Ctx} (hf : ∀ x, (f x).standing = x.standing) : SameStanding s (s.modCtx k f) := by
  refine ⟨rfl, rfl, fun _ => rfl, fun c => ?_⟩
  by_cases h : c = k
  · rw [h, State.ctxAt_modCtx, hf]
  · rw [State.ctxAt_modCtx_other _ _ h]

theorem LogOnly.sameStanding {s t : State} (h : LogOnly s t) : SameStanding s t := .of_eq (by rw [h.1]) (by rw [h.1]) (by rw [h.1])
theorem RingOnly.sameStanding {s t : State} (h : RingOnly s t) : SameStanding s t := .of_eq (by rw [h]) (by rw [h]) (by rw [h])

/-- R173, R211: the vats of a plan follow from the map of the logical vats, the context's entry and the plan's header. -/
theorem State.planVats_congr {s t : State} {k : Nat} (hl : t.vat.lmap = s.vat.lmap) (he : (t.ctxAt k).entry = (s.ctxAt k).entry)
    (hh : t.header k = s.header k) : t.planVats k = s.planVats k := by
  have hp : t.physical = s.physical := by funext l; unfold State.physical; rw [hl]
  unfold State.planVats State.planLogical State.firstVat
  rw [hh, he, hp]

theorem State.writesDone_congr {s t : State} {k : Nat} (hp : t.planVats k = s.planVats k) (he : ∀ v, (t.vatAt v).engines = (s.vatAt v).engines) :
    t.writesDone k = s.writesDone k := by
  unfold State.writesDone
  rw [hp]
  simp only [he]

section
variable {s t : State} (h : SameStanding s t)
include h

theorem SameStanding.sameBytes : SameBytes s t := fun a => by rw [h.mem]

theorem SameStanding.header (k : Nat) : t.header k = s.header k := by
  have := congrArg (fun x => x.2.2.2.2) (h.ctxs k)
  exact congrArg (fun o => Option.getD o 0) this

theorem SameStanding.planVats (k : Nat) : t.planVats k = s.planVats k :=
  State.planVats_congr h.lmap (congrArg (fun x => x.2.2.2.1) (h.ctxs k)) (h.header k)

theorem SameStanding.engines (v : Nat) : (t.vatAt v).engines = (s.vatAt v).engines := congrArg (fun x => x.1) (h.vats v)

theorem SameStanding.writesDone (k : Nat) : t.writesDone k = s.writesDone k := State.writesDone_congr (h.planVats k) h.engines

/-- Whether a context has an invocation does not change. -/
theorem SameStanding.map_inv {α : Type} (k : Nat) (a : α) : (t.ctxAt k).inv.map (fun _ => a) = (s.ctxAt k).inv.map (fun _ => a) := by
  have := congrArg (fun x => x.2.2.2.2.map (fun _ => a)) (h.ctxs k)
  simpa [Ctx.standing, Function.comp_def] using this

end

/-! ### Records and steps (R205, R533, R534) -/

@[simp] theorem State.pushRecord_vat (s : State) (k : Nat) (r : BitVec 32 → BitVec 1024) : (s.pushRecord k r).vat = s.vat := by
  unfold State.pushRecord
  dsimp only
  (repeat' split) <;> rfl

@[simp] theorem State.countFlags_vat (s : State) (f : BitVec 3) : (s.countFlags f).vat = s.vat := by
  unfold State.countFlags
  dsimp only
  (repeat' split) <;> rfl

@[simp] theorem State.countFlags_ctxs (s : State) (f : BitVec 3) : (s.countFlags f).ctxs = s.ctxs := by
  unfold State.countFlags
  dsimp only
  (repeat' split) <;> rfl

theorem State.pushRecord_sameStanding (s : State) (k : Nat) (r : BitVec 32 → BitVec 1024) : SameStanding s (s.pushRecord k r) := by
  have h1 : SameStanding s (s.modCtx k (fun x => { x with recordNo := (s.ctxAt k).recordNo + 1, lastCount := r ((s.ctxAt k).recordNo + 1) })) :=
    .modCtx s k fun _ => rfl
  unfold State.pushRecord
  dsimp only
  (repeat' split)
  · exact h1
  · exact h1.trans (.of_eq rfl rfl rfl)
  · exact h1.trans (.of_eq rfl rfl rfl)

@[simp] theorem State.stepRecord_vat (s : State) (k no : Nat) (faulted : Bool) : (s.stepRecord k no faulted).vat = s.vat := by
  simp [State.stepRecord]

theorem State.stepRecord_sameStanding (s : State) (k no : Nat) (faulted : Bool) : SameStanding s (s.stepRecord k no faulted) := by
  unfold State.stepRecord
  extract_lets x a seq altered step s1 s2
  have h1 : SameStanding s s1 := .modCtx s k fun x => by simp [Ctx.standing, Function.comp_def]
  have h2 : SameStanding s1 s2 := State.pushRecord_sameStanding ..
  exact (h1.trans h2).trans (.of_eq (by simp) (by simp) (by simp))

/-- R533: a vat whose step has ended, at a cycle and a time. -/
def Vat.stepEnded (x : Vat) (cyc now : Nat) : Vat :=
  { x with stepNo := x.stepNo + 1, stepCyc := cyc, stepTime := now, stepCount := default, invCount := x.invCount.add x.stepCount,
           overflow := false, invalid := false, nanDrop := false }

theorem State.stepEnd_vat (s : State) (k v cyc : Nat) (faulted : Bool) :
    (s.stepEnd k v cyc faulted).vat = (s.modVat v (fun x => x.stepEnded cyc s.now)).vat := by
  unfold State.stepEnd
  dsimp only
  split
  · rw [State.stepRecord_vat]
    rfl
  · rfl

theorem State.vatAt_stepEnd (s : State) (k v cyc : Nat) (faulted : Bool) :
    (s.stepEnd k v cyc faulted).vatAt v = (s.vatAt v).stepEnded cyc s.now := by
  unfold State.vatAt
  rw [State.stepEnd_vat]
  exact State.vatAt_modVat ..

theorem State.vatAt_stepEnd_other (s : State) (k cyc : Nat) (faulted : Bool) {v j : Nat} (h : j ≠ v) :
    (s.stepEnd k v cyc faulted).vatAt j = s.vatAt j := by
  unfold State.vatAt
  rw [State.stepEnd_vat]
  exact State.vatAt_modVat_other _ _ h

theorem State.stepEnd_sameStanding (s : State) (k v cyc : Nat) (faulted : Bool) : SameStanding s (s.stepEnd k v cyc faulted) := by
  unfold State.stepEnd
  extract_lets x no a cycles b s1
  have h1 : SameStanding s s1 := by
    refine .trans (t := s.modVat v _) (.modVat s v fun _ => ?_) (.modCtx _ k fun _ => ?_) <;> rfl
  split
  · exact h1.trans (State.stepRecord_sameStanding _ _ _ _)
  · exact h1

/-! ### The arrival at a ring barrier (R229) -/

/-- The chip arrives, which changes its context's arrivals and the ring alone, or nothing changes. -/
theorem State.ringArrive_cases (s : State) (k : Nat) :
    s.ringArrive k = s ∨ ∃ l, RingOnly (s.modCtx k (fun x => { x with arrivals := x.arrivals ++ l })) (s.ringArrive k) := by
  unfold State.ringArrive
  split
  · exact .inl rfl
  · split
    · exact .inl rfl
    · exact .inr ⟨_, foldl_ringOnly (fun t c => State.sendMgmt_ringOnly t ..) _ _⟩

theorem RingOnly.vat {s t : State} (h : RingOnly s t) : t.vat = s.vat := by rw [h]

theorem RingOnly.ctxAt {s t : State} (h : RingOnly s t) (k : Nat) : t.ctxAt k = s.ctxAt k := by
  rw [h]
  rfl

theorem State.ringArrive_vat (s : State) (k : Nat) : (s.ringArrive k).vat = s.vat := by
  rcases s.ringArrive_cases k with h | ⟨l, h⟩
  · rw [h]
  · exact h.vat

theorem State.ringArrive_faults (s : State) (k : Nat) : ((s.ringArrive k).ctxAt k).faults = (s.ctxAt k).faults := by
  rcases s.ringArrive_cases k with h | ⟨l, h⟩
  · rw [h]
  · rw [h.ctxAt, State.ctxAt_modCtx]

/-- R250: a plan that holds no fault is not stopped. -/
theorem State.settleFault_of_sound {s : State} {k : Nat} (h : (s.ctxAt k).faults = []) : s.settleFault k = s := if_neg (by simp [h])

theorem State.ringArrive_settleFault {s : State} {k : Nat} (h : (s.ctxAt k).faults = []) : (s.ringArrive k).settleFault k = s.ringArrive k :=
  State.settleFault_of_sound ((s.ringArrive_faults k).trans h)

/-! ### The control slot (R223) -/

/-- R161: where no slot of the operation is ready, a command of the control slot does no more than the issue stage. -/
theorem exec_controlSlot_none {s : State} {v : Fin 34} {cyc op : Nat} {c : Instr}
    (h : (op, c) ∈ [(1, Instr.loopV v cyc), (2, .endloop v cyc), (3, .barrier v cyc), (4, .ringBarrier v cyc), (5, .waitFrame v cyc),
      (6, .waitLp v cyc), (7, .probe v cyc), (8, .step v cyc), (9, .endV v cyc)])
    (hn : s.slotReady v.val cyc [5] op = none) : exec c s = ok (s.issue v.val cyc) := by
  simp only [List.mem_cons, Prod.mk.injEq, List.not_mem_nil, or_false] at h
  rcases h with ⟨rfl, rfl⟩ | ⟨rfl, rfl⟩ | ⟨rfl, rfl⟩ | ⟨rfl, rfl⟩ | ⟨rfl, rfl⟩ | ⟨rfl, rfl⟩ | ⟨rfl, rfl⟩ | ⟨rfl, rfl⟩ | ⟨rfl, rfl⟩ <;>
    exact congrArg ok (State.slotAct_none hn _)

end Machine
end Sys2Proof

namespace Sys2Proof
namespace Machine

/-! Waits, steps and the end of a plan on a vat (R121, R224, R231, R233, R242, R250). -/

/-- R233: the vat of a step that has begun takes the snapshot of its next bundle, its loop levels and its generators. -/
def Vat.stepBegun (x : Vat) (arg : Nat) : Vat := { x with step := arg, snap := { bundle := x.next, loops := x.loops, gens := x.gens } }

/-- R233: a step has begun on a vat. -/
def State.stepBegins (s : State) (k v arg : Nat) : State :=
  (s.modVat v (fun x => x.stepBegun arg)).modCtx k
    (fun x => { x with inv := x.inv.map (fun i => { i with step := BitVec.ofNat 16 arg, stepAt := BitVec.ofNat 64 s.now }) })

/-- R121, R224, R233, R250: STEP that is ready, from what the read of its step entry gave. -/
def stepTaken (r : (Nat × Bool) × State) (k v cyc arg : Nat) : State :=
  if r.1.2 then r.2.fetchTrap k v (r.2.vatAt v).bundle
  else if bitsAt r.1.1 63 32 ≠ 0 then r.2.encodingTrap k v (r.2.vatAt v).bundle 5
  else if (r.2.ctxAt k).faults ≠ [] then (r.2.stepEnd k v cyc true).stopVat k v
  else (r.2.stepEnd k v cyc false).stepBegins k v arg

theorem exec_step {s u : State} {v : Fin 34} {cyc k w : Nat} (hi : s.issues v.val cyc [5] 8 k w u) :
    exec (.step v cyc) s = ok (stepTaken (u.sectionEntry k 2 (bitsAt w 21 6) 16) k v.val cyc (bitsAt w 21 6)) := by
  refine congrArg ok ((State.slotAct_issues hi _).trans ?_)
  unfold stepTaken State.stepBegins Vat.stepBegun
  by_cases h : ((u.sectionEntry k 2 (bitsAt w 21 6) 16).2.ctxAt k).faults = [] <;> simp [h]

theorem State.vatAt_stepBegins (s : State) (k v arg : Nat) : (s.stepBegins k v arg).vatAt v = (s.vatAt v).stepBegun arg :=
  State.vatAt_modVat s v fun x => x.stepBegun arg

theorem State.vatAt_stepBegins_other (s : State) (k arg : Nat) {v j : Nat} (h : j ≠ v) : (s.stepBegins k v arg).vatAt j = s.vatAt j :=
  State.vatAt_modVat_other s (fun x => x.stepBegun arg) h

/-- R233: the step that has ended on a vat and the one that has begun there. -/
theorem State.vatAt_nextStep (s : State) (k v cyc arg : Nat) :
    ((s.stepEnd k v cyc false).stepBegins k v arg).vatAt v = ((s.vatAt v).stepEnded cyc s.now).stepBegun arg := by
  rw [State.vatAt_stepBegins, State.vatAt_stepEnd]

theorem State.inv_stepBegins (s : State) (k v arg : Nat) :
    ((s.stepBegins k v arg).ctxAt k).inv.map (fun i => i.step) = (s.ctxAt k).inv.map (fun _ => BitVec.ofNat 16 arg) := by
  unfold State.stepBegins
  rw [State.ctxAt_modCtx, Option.map_map]
  rfl

/-- R242, R250: END that is ready. -/
def State.planEnds (s : State) (k v cyc : Nat) : State :=
  let ended (faulted : Bool) := (s.stepEnd k v cyc faulted).light (lightRun v) (cyc - (s.vatAt v).firstCyc.getD cyc)
  if (s.ctxAt k).faults ≠ [] then (ended true).stopVat k v
  else ((ended false).modVat v (fun x => { x with wait := .done })).ringArrive k

theorem exec_endV {s u : State} {v : Fin 34} {cyc k w : Nat} (hi : s.issues v.val cyc [5] 9 k w u) :
    exec (.endV v cyc) s = ok (u.planEnds k v.val cyc) := by
  refine congrArg ok ((State.slotAct_issues hi _).trans ?_)
  unfold State.planEnds
  by_cases h : (u.ctxAt k).faults = [] <;> simp [h]

section
variable {s : State} {k : Nat} (hf : (s.ctxAt k).faults = []) (v cyc : Nat)
include hf

theorem State.planEnds_vat : (s.planEnds k v cyc).vat =
    ((s.stepEnd k v cyc false).modVat v (fun x => { x with wait := .done })).vat := by
  unfold State.planEnds
  dsimp only
  rw [if_neg (not_not_intro hf), State.ringArrive_vat]
  rfl

theorem State.planEnds_sameBytes : SameBytes s (s.planEnds k v cyc) := fun a => by
  unfold State.planEnds
  dsimp only
  rw [if_neg (not_not_intro hf)]
  simp

theorem State.vatAt_planEnds : (s.planEnds k v cyc).vatAt v = { (s.vatAt v).stepEnded cyc s.now with wait := .done } := by
  unfold State.vatAt
  rw [State.planEnds_vat hf]
  exact (State.vatAt_modVat ..).trans (by rw [State.vatAt_stepEnd]; rfl)

theorem State.vatAt_planEnds_other {j : Nat} (h : j ≠ v) : (s.planEnds k v cyc).vatAt j = s.vatAt j := by
  unfold State.vatAt
  rw [State.planEnds_vat hf]
  exact (State.vatAt_modVat_other _ _ h).trans (State.vatAt_stepEnd_other _ _ _ _ h)

end

/-- Settles O24: STEP by what its step entry is and by whether a fault is pending, END by the latter; what a step's end and the next one's
begin leave of the vat. -/
theorem waitsStepsAndEnd : Obligations.WaitsStepsAndEnd := by
  unfold Obligations.WaitsStepsAndEnd
  refine ⟨fun s v cyc k w u => ⟨fun hi => congrArg ok (State.slotAct_issues hi _), fun hi => congrArg ok (State.slotAct_issues hi _)⟩,
    fun s v cyc k w e u s1 hi => ?_, fun s v cyc k w u hi => ⟨fun hf => ?_, fun hf => ?_⟩, fun s v cyc op c hc hn => ?_⟩
  · rw [exec_step hi]
    refine ⟨fun he => by rw [he]; rfl, fun he hb => ?_, fun he hb => ⟨fun hf => ?_, fun hf => ?_⟩⟩
    all_goals rw [he]
    · exact congrArg ok (if_pos hb)
    · exact congrArg ok ((if_neg (not_not_intro hb)).trans (if_pos hf))
    · have ht : stepTaken ((e, false), s1) k v.val cyc (bitsAt w 21 6) = (s1.stepEnd k v.val cyc false).stepBegins k v.val (bitsAt w 21 6) :=
        (if_neg (not_not_intro hb)).trans (if_neg (not_not_intro hf))
      have hs := s1.stepEnd_sameStanding k v.val cyc false
      refine ⟨_, congrArg ok ht, fun a => hs.sameBytes a, ?_⟩
      rw [State.vatAt_nextStep]
      refine ⟨rfl, rfl, rfl, rfl, rfl, rfl, fun j hj => ?_, (State.inv_stepBegins ..).trans (hs.map_inv k _)⟩
      exact (State.vatAt_stepBegins_other _ _ _ hj).trans (State.vatAt_stepEnd_other _ _ _ _ hj)
  · refine ⟨_, exec_endV hi, State.planEnds_sameBytes hf v.val cyc, ?_⟩
    rw [State.vatAt_planEnds hf]
    exact ⟨rfl, rfl, rfl, fun j hj => State.vatAt_planEnds_other hf v.val cyc hj⟩
  · exact (exec_endV hi).trans (congrArg ok (if_pos hf))
  · refine exec_controlSlot_none ?_ hn
    simp only [List.mem_cons] at hc ⊢
    tauto

end Machine
end Sys2Proof

namespace Sys2Proof
namespace Machine

/-! Loops, barriers within a plan and ring barriers (R121, R224, R227-R230, R245, R250; log entries 26 and 174). -/

/-! ### Loops -/

/-- R227: a loop of level `l` is in order: the level outside it runs, and none from its own inwards. -/
def Vat.loopFits (x : Vat) (l : Nat) : Bool :=
  (l = 0 || (Tab.find? x.loops (l - 1)).isSome) && (List.range 4).all (fun m => m < l || (Tab.find? x.loops m).isNone)

theorem Vat.loopFits_iff (x : Vat) (l : Nat) : x.loopFits l = true ↔
    (l = 0 ∨ (Tab.find? x.loops (l - 1)).isSome = true) ∧ ∀ m, l ≤ m → m < 4 → Tab.find? x.loops m = none := by
  simp only [Vat.loopFits, Bool.and_eq_true, Bool.or_eq_true, decide_eq_true_eq, List.all_eq_true, List.mem_range, Option.isNone_iff_eq_none,
    or_iff_not_imp_left, Nat.not_lt]
  exact and_congr_right' ⟨fun h m hl h4 => h m h4 hl, fun h m h4 hl => h m hl h4⟩

/-- R227: a level of a vat is the innermost that runs. -/
def Vat.innermost (x : Vat) (l : Nat) : Prop := ∀ m, l < m → m < 4 → Tab.find? x.loops m = none

/-- R227: a level begins. -/
def State.loopBegins (s : State) (v l : Nat) (y : LoopLevel) : State := s.modVat v (fun x => { x with loops := Tab.set x.loops l y })

/-- R121, R224, R227: LOOP that is ready in bundle `b`, from what the read of its loop entry gave. -/
def loopTaken (r : (Nat × Bool) × State) (k v b l : Nat) : State :=
  if r.1.2 then r.2.fetchTrap k v b
  else if bitsAt r.1.1 31 25 ≠ 0 then r.2.encodingTrap k v b 5
  else if (r.2.vatAt v).loopFits l then r.2.loopBegins v l { index := 0, trip := bitsAt r.1.1 24 0, first := b + 1 }
  else r.2.freeLoop v l

theorem exec_loopV {s u : State} {v : Fin 34} {cyc k w : Nat} (hi : s.issues v.val cyc [5] 1 k w u) :
    exec (.loopV v cyc) s = ok (loopTaken (u.sectionEntry k 6 (bitsAt w 21 6) 4) k v.val (u.vatAt v.val).bundle (bitsAt w 5 4)) :=
  congrArg ok (State.slotAct_issues hi _)

/-- R227: ENDLOOP of level `l` that is ready. -/
def State.loopEnds (s : State) (k v l : Nat) (y : LoopLevel) : State :=
  if y.index + 1 < y.trip then
    (s.modVat v (fun x => { x with loops := Tab.set x.loops l { y with index := y.index + 1 }, next := y.first })).fetchAhead k v
  else s.modVat v (fun x => { x with loops := Tab.erase x.loops l })

section
variable {s u : State} {v : Fin 34} {cyc k w : Nat} (hi : s.issues v.val cyc [5] 2 k w u)
include hi

theorem exec_endloop_innermost {y : LoopLevel} (hy : Tab.find? (u.vatAt v.val).loops (bitsAt w 5 4) = some y)
    (hn : (u.vatAt v.val).innermost (bitsAt w 5 4)) : exec (.endloop v cyc) s = ok (u.loopEnds k v.val (bitsAt w 5 4) y) := by
  refine congrArg ok ((State.slotAct_issues hi _).trans ?_)
  dsimp only
  rw [hy]
  refine if_neg ?_
  unfold Vat.innermost at hn
  simpa using fun m h4 hl => hn m hl h4

theorem exec_endloop_disordered (h : Tab.find? (u.vatAt v.val).loops (bitsAt w 5 4) = none ∨ ¬ (u.vatAt v.val).innermost (bitsAt w 5 4)) :
    exec (.endloop v cyc) s = ok (u.freeLoop v.val (bitsAt w 5 4)) := by
  refine congrArg ok ((State.slotAct_issues hi _).trans ?_)
  dsimp only
  cases hy : Tab.find? (u.vatAt v.val).loops (bitsAt w 5 4) with
  | none => rfl
  | some y =>
    have hn := h.resolve_left (by simp [hy])
    refine if_pos ?_
    unfold Vat.innermost at hn
    push Not at hn
    obtain ⟨m, hl, h4, hm⟩ := hn
    simpa using ⟨m, h4, hl, Option.isSome_iff_ne_none.mpr hm⟩

end

theorem State.freeLoop_spec (s : State) (v l : Nat) : SameBytes s (s.freeLoop v l) ∧ (∀ j, j ≠ v → (s.freeLoop v l).vatAt j = s.vatAt j) ∧
    ∀ m, m ≠ l → Tab.find? ((s.freeLoop v l).vatAt v).loops m = Tab.find? (s.vatAt v).loops m := by
  refine ⟨fun _ => rfl, fun j hj => State.vatAt_modVat_other _ _ hj, fun m hm => ?_⟩
  unfold State.freeLoop
  rw [State.vatAt_modVat]
  exact Tab.find_set_other _ _ hm

/-! ### Barriers -/

/-- R228: BARRIER that is ready: the last vat to reach it lets all go on, any other waits. -/
theorem exec_barrier {s u : State} {v : Fin 34} {cyc k w : Nat} (hi : s.issues v.val cyc [5] 3 k w u) :
    let t := u.modVat v.val (fun x => { x with wait := .barrier (bitsAt w 13 6) })
    exec (.barrier v cyc) s = ok (if ∀ j, j ∈ u.planVats k → (t.vatAt j).wait = .barrier (bitsAt w 13 6) then
        t.onVats (u.planVats k) (fun x => { x with wait := .none, hold := cyc + 4 })
      else (t.ringArrive k).settleFault k) := by
  refine congrArg ok ((State.slotAct_issues hi _).trans ?_)
  refine ite_congr ?_ (fun _ => rfl) (fun _ => rfl)
  simp only [List.all_eq_true, decide_eq_true_eq]
  rfl

/-- A vat that takes on a wait, and the others as they wait. -/
theorem State.wait_modVat (s : State) (v j : Nat) (q : VatWait) :
    ((s.modVat v (fun x => { x with wait := q })).vatAt j).wait = q ↔ j = v ∨ (s.vatAt j).wait = q := by
  by_cases h : j = v
  · simp [h]
  · simp [h, State.vatAt_modVat_other]

/-- R229, R230: RING_BARRIER that is ready. -/
theorem exec_ringBarrier {s u : State} {v : Fin 34} {cyc k w : Nat} (hi : s.issues v.val cyc [5] 4 k w u) :
    exec (.ringBarrier v cyc) s = ok (match (u.ctxAt k).notices.find? (fun n => n.1 = u.ringSeq k) with
    | some n => u.trap k v.val 0x0805 (payload [(32, k), (32, bitsAt w 13 6), (32, n.2.toNat)])
    | none => match (u.partners k).find? (fun c => !u.routePresent u.epoch c) with
      | some c => u.trap k v.val 0x0806 (payload [(32, k), (32, bitsAt w 13 6), (32, c)])
      | none => ((u.modVat v.val (fun x => { x with wait := .ring (bitsAt w 13 6) (bitsAt w 21 14 * 16) })).ringArrive k).settleFault k) :=
  congrArg ok (State.slotAct_issues hi _)

/-! ### The arrival -/

/-- R229: the ring barrier at which a vat waits. -/
def State.ringWait (s : State) (v : Nat) : Option Nat := match (s.vatAt v).wait with | .ring id _ => some id | _ => none

/-- R229: the chip's arrival at a ring barrier is kept. -/
def State.arrivalKept (s : State) (k id : Nat) : State :=
  s.modCtx k (fun x => { x with arrivals := x.arrivals ++ [(BitVec.ofNat 6 s.coord, s.ringSeq k, BitVec.ofNat 8 id)] })

/-- R229: the chip's arrival is sent to each partner. -/
def State.arrivalSent (s : State) (k seq id : Nat) : State :=
  (s.partners k).foldl (fun s c => s.sendMgmt 7 c (s.ctxTenant k) (ringUnit (s.ringGroup k) seq id)) s

theorem State.ringArrive_at {s : State} {k id : Nat} (h : (s.planVats k).findSome? s.ringWait = some id) : s.ringArrive k =
    if s.rang k id || (s.planVats k).any (s.onTheWay k id) then s else (s.arrivalKept k id).arrivalSent k (s.ringSeq k).toNat id := by
  unfold State.ringArrive
  split
  · next hn => cases h.symm.trans hn
  · next id' hs =>
    cases h.symm.trans hs
    rfl

/-- Two operations agree along a fold of which the second keeps a property of the state under which they agree. -/
theorem foldl_congr_of_keeps {α β : Type} {P : β → Prop} {f g : β → α → β} (hk : ∀ b x, P b → P (g b x)) (he : ∀ b x, P b → f b x = g b x)
    (l : List α) {b : β} (hb : P b) : l.foldl f b = l.foldl g b := by
  induction l generalizing b with
  | nil => rfl
  | cons x l ih => rw [List.foldl_cons, List.foldl_cons, he b x hb, ih (hk b x hb)]

/-- R229: what is sent names the context's tenant and group, which no packet changes. -/
theorem State.arrivalSent_eq (s : State) (k seq id : Nat) : s.arrivalSent k seq id =
    (s.partners k).foldl (fun t c => t.sendMgmt 7 c (s.ctxTenant k) (ringUnit (s.ringGroup k) seq id)) s := by
  refine foldl_congr_of_keeps (P := RingOnly s) (fun t c h => h.trans (State.sendMgmt_ringOnly ..)) (fun t c h => ?_) _ (.refl s)
  unfold State.ctxTenant State.ringGroup
  rw [h.ctxAt]

/-- R229, log entry 174: where a vat of the plan waits at a ring barrier and none is on its way to it, the chip arrives. -/
theorem State.ringArrive_arrives {s : State} {k v id allow : Nat} (hh : (s.planVats k).head? = some v) (hw : (s.vatAt v).wait = .ring id allow)
    (hr : s.rang k id = false) (ho : ∀ j, j ∈ s.planVats k → s.onTheWay k id j = false) :
    s.ringArrive k = (s.partners k).foldl (fun t c => t.sendMgmt 7 c (s.ctxTenant k) (ringUnit (s.ringGroup k) (s.ringSeq k).toNat id))
      (s.arrivalKept k id) := by
  have hf : (s.planVats k).findSome? s.ringWait = some id := by
    obtain ⟨vs, hvs⟩ := List.head?_eq_some_iff.mp hh
    rw [hvs]
    simp [State.ringWait, hw]
  have he : ((s.arrivalKept k id).ctxAt k).entry = (s.ctxAt k).entry := by rw [State.arrivalKept, State.ctxAt_modCtx]
  rw [State.ringArrive_at hf, if_neg (by simpa [hr] using ho), State.arrivalSent_eq]
  unfold State.partners State.ctxTenant State.ringGroup
  rw [he]
  rfl

/-! ### The release and the timeout of a ring barrier -/

/-- R229: the chip and every partner have arrived at a ring barrier. -/
def State.allRang (s : State) (k id : Nat) : Prop :=
  s.rang k id = true ∧ ∀ c, c ∈ s.partners k → (BitVec.ofNat 6 c, s.ringSeq k, BitVec.ofNat 8 id) ∈ (s.ctxAt k).arrivals

theorem State.allRang_iff (s : State) (k id : Nat) : s.allRang k id ↔ (!s.rang k id || !(s.partners k).all (fun c =>
    (s.ctxAt k).arrivals.contains (BitVec.ofNat 6 c, s.ringSeq k, BitVec.ofNat 8 id))) = false := by
  unfold State.allRang
  simp only [Bool.or_eq_false_iff, Bool.not_eq_false', List.all_eq_true, List.contains_iff_mem]

/-- R229: the cycle from which a vat that waits at a ring barrier with an allowance may go on. -/
def State.ringDue (s : State) (v allow : Nat) : Nat := (s.vatAt v).lastCyc + ceilDiv (allow * s.vatHz) 1000000000

/-- R229, R244: the vat goes on, its wait cycles counted. -/
def State.ringReleased (s : State) (k v cyc id : Nat) : State :=
  (s.modVat v (fun x => { x with
    wait := .none, base := some cyc, stepCount := { x.stepCount with wait := x.stepCount.wait + (cyc - x.lastCyc) } })).ringPassed k id

section
variable {s : State} {v : Fin 34} {cyc k id allow : Nat} (hw : (s.vatAt v.val).wait = .ring id allow) (hk : s.runningOn v.val = some k)
include hw hk

theorem execRingBarrierRelease_waiting : execRingBarrierRelease v cyc s =
    if !s.rang k id || !(s.partners k).all (fun c => (s.ctxAt k).arrivals.contains (BitVec.ofNat 6 c, s.ringSeq k, BitVec.ofNat 8 id)) ||
        cyc < s.ringDue v.val allow then ok s
    else ok (if cyc > s.ringDue v.val allow then (s.ringReleased k v.val cyc id).markEvent k 4 else s.ringReleased k v.val cyc id) := by
  unfold execRingBarrierRelease
  dsimp only
  rw [hw, hk]
  rfl

theorem execRingBarrierRelease_released (ha : s.allRang k id) (hd : s.ringDue v.val allow ≤ cyc) : execRingBarrierRelease v cyc s =
    ok (if cyc = s.ringDue v.val allow then s.ringReleased k v.val cyc id else (s.ringReleased k v.val cyc id).markEvent k 4) := by
  rw [execRingBarrierRelease_waiting hw hk, (s.allRang_iff k id).mp ha, if_neg (by simpa using hd)]
  rcases Nat.eq_or_lt_of_le hd with h | h
  · rw [if_neg (by omega), if_pos h.symm]
  · rw [if_pos h, if_neg (by omega)]

theorem execRingBarrierRelease_waits (h : ¬ s.allRang k id ∨ cyc < s.ringDue v.val allow) : execRingBarrierRelease v cyc s = ok s := by
  rw [State.allRang_iff, Bool.not_eq_false] at h
  rw [execRingBarrierRelease_waiting hw hk, if_pos ((Bool.or_eq_true ..).mpr (h.imp_right decide_eq_true))]

end

theorem execRingBarrierRelease_idle {s : State} {v : Fin 34}
    (h : (∀ id allow, (s.vatAt v.val).wait ≠ .ring id allow) ∨ s.runningOn v.val = none) (cyc : Nat) : execRingBarrierRelease v cyc s = ok s := by
  unfold execRingBarrierRelease
  dsimp only
  split
  · next id allow k hw hk =>
    rcases h with h | h
    · exact absurd hw (h id allow)
    · rw [h] at hk
      cases hk
  · rfl

/-- R230: a vat waits at a ring barrier. -/
def State.atRing (s : State) (v : Nat) : Bool := match (s.vatAt v).wait with | .ring _ _ => true | _ => false

/-- R230: BARRIER_TIMEOUT, by the first vat of the plan that waits at a ring barrier. -/
theorem execBarrierTimeout_eq (k : Fin 1024) (s : State) : execBarrierTimeout k s = match (s.planVats k.val).find? s.atRing with
    | some v => match (s.vatAt v).wait with
      | .ring id _ => if s.runningOn v = some k.val then ok (s.trap k.val v 0x0804 (payload [(32, k.val), (32, id), (64, bitSet
          ((s.partners k.val).filter (fun c => !(s.ctxAt k.val).arrivals.contains (BitVec.ofNat 6 c, s.ringSeq k.val, BitVec.ofNat 8 id))))])) else ok s
      | _ => ok s
    | none => ok s := rfl

/-- Settles O23: LOOP by what its entry is and by whether the nesting is in order, ENDLOOP by the latter, the barriers by who has reached
them; the arrival, the release and the timeout by who waits. -/
theorem loopsAndBarriers : Obligations.LoopsAndBarriers := by
  unfold Obligations.LoopsAndBarriers
  refine ⟨⟨fun s v cyc k w e u s1 hi => ?_, fun s v cyc k w u hi => ⟨fun y => exec_endloop_innermost hi, exec_endloop_disordered hi⟩,
    State.freeLoop_spec, fun s v cyc k w u hi => ?_, fun s v cyc k w u hi => ?_, fun s v cyc op c hc hn => ?_⟩,
    fun s k v id allow => State.ringArrive_arrives, fun s v cyc k id allow hw hk => ⟨fun ha hd => ?_, fun h => ?_⟩,
    fun s v cyc h => execRingBarrierRelease_idle h cyc, fun s k => ⟨fun v id allow hv hw hk => ?_, fun hn => ?_⟩⟩
  · -- LOOP
    rw [exec_loopV hi]
    refine ⟨fun he => by rw [he]; rfl, fun he hb => ?_, fun he hb => ⟨fun ho => ?_, fun ho => ?_⟩⟩
    all_goals rw [he]
    · exact congrArg ok (if_pos hb)
    · exact congrArg ok ((if_neg (not_not_intro hb)).trans (if_pos ((Vat.loopFits_iff ..).mpr ho)))
    · exact congrArg ok ((if_neg (not_not_intro hb)).trans (if_neg (mt (Vat.loopFits_iff ..).mp ho)))
  · -- BARRIER
    intro id t
    have hw := u.wait_modVat v.val
    refine ⟨fun h => ?_, fun ⟨j, hj, hv, hb⟩ => ?_⟩
    · exact (exec_barrier hi).trans (congrArg ok (if_pos fun j hj => (hw j _).mpr (h j hj)))
    · have hx : exec (.barrier v cyc) s = ok ((t.ringArrive k).settleFault k) :=
        (exec_barrier hi).trans (congrArg ok (if_neg fun h => ((hw j _).mp (h j hj)).elim hv hb))
      exact ⟨hx, fun hf => hx.trans (congrArg ok (State.ringArrive_settleFault hf))⟩
  · -- RING_BARRIER
    intro id t
    refine ⟨fun hn hp => ?_, fun n hn => ?_, fun c hn hp => ?_⟩
    · have hx : exec (.ringBarrier v cyc) s = ok ((t.ringArrive k).settleFault k) := by rw [exec_ringBarrier hi, hn, hp]
      exact ⟨hx, fun hf => hx.trans (congrArg ok (State.ringArrive_settleFault hf))⟩
    · rw [exec_ringBarrier hi, hn]
      rfl
    · rw [exec_ringBarrier hi, hn, hp]
      rfl
  · refine exec_controlSlot_none ?_ hn
    simp only [List.mem_cons] at hc ⊢
    tauto
  · exact execRingBarrierRelease_released hw hk ha hd
  · exact execRingBarrierRelease_waits hw hk h
  · refine (execBarrierTimeout_eq k s).trans ?_
    rw [show (s.planVats k.val).find? s.atRing = some v from hv]
    dsimp only
    rw [hw]
    exact if_pos hk
  · refine (execBarrierTimeout_eq k s).trans ?_
    rw [show (s.planVats k.val).find? s.atRing = none from hn]
    rfl

end Machine
end Sys2Proof

namespace Sys2Proof
namespace Machine

/-! Probes and dumps (R224, R232, R535, R536). -/

/-! ### The probe -/

/-- R535: dump request `n` of a context is active and names a symbol. -/
def State.dumpNames (s : State) (k sym n : Nat) : Bool :=
  dumpLeft (Tab.get (s.ctxAt k).dumps n 0) ≠ 0 && bits (Tab.get (s.ctxAt k).dumps n 0) 15 0 = sym

/-- R535, R536: dump request `n` takes the tensor of a symbol that it names. -/
def State.dumpTaken (k v sym : Nat) (s : State) (n : Nat) : State :=
  if s.dumpNames k sym n then s.dump k v n (Tab.get (s.ctxAt k).dumps n 0) sym else s

/-- R224, R232, R535: PROBE that is ready, from what the read of its symbol entry gave. -/
def probeTaken (r : (Nat × Bool) × State) (k v sym : Nat) : State :=
  if symbolReserved r.1.1 then r.2.encodingTrap k v (r.2.vatAt v).bundle 5 else (List.range 8).foldl (State.dumpTaken k v sym) r.2

theorem exec_probe {s u : State} {v : Fin 34} {cyc k w : Nat} (hi : s.issues v.val cyc [5] 7 k w u) :
    exec (.probe v cyc) s = ok (probeTaken (u.sectionEntry k 1 (bitsAt w 21 6) 64) k v.val (bitsAt w 21 6)) :=
  congrArg ok (State.slotAct_issues hi _)

/-- Requests that do not name the symbol change nothing. -/
theorem State.foldl_dumpTaken_idle {s : State} {k sym n : Nat} (v : Nat) (h : ∀ i, i < n → s.dumpNames k sym i = false) :
    (List.range n).foldl (State.dumpTaken k v sym) s = s :=
  List.foldlRecOn (List.range n) _ (motive := fun t => t = s) rfl fun t ht i hi => by
    rw [ht]
    exact if_neg (by simp [h i (List.mem_range.mp hi)])

/-! ### The dump -/

/-- R536: the bytes of a tensor with an entry, in whole lines. -/
def tensorBytes (t : Nat) : Nat :=
  ceilDiv (ceilDiv (bitsAt t 351 320 * bitsAt t 383 352 * bitsAt t 415 384 * bitsAt t 447 416 * (match bitsAt t 315 312 with
    | 8 => 264 | 9 => 200 | 10 => 136 | 14 => 140 | 15 => 108 | _ => 32 * codeBits (bitsAt t 315 312))) 32) 512 * 64

/-- R536: a dump may move a tensor of some bytes at a VA: every page of it is usable and lies on this chip. -/
def State.dumpMapped (s : State) (k va bytes : Nat) : Bool :=
  ((List.range (bytes / 64)).map (fun i => va + 64 * i)).all (fun a =>
    a % 4096 ≠ 0 && a ≠ va || (s.checkPage k a false).isNone && (s.pinFor k a).any (fun e => s.isLocal (e.ppaOf a)))

/-- The first page of a tensor of one line or more is checked at the tensor's VA. -/
theorem State.dumpMapped_unusable {s : State} {k va bytes : Nat} (hb : 0 < bytes / 64) (hc : (s.checkPage k va false).isSome = true) :
    s.dumpMapped k va bytes = false := by
  refine Bool.eq_false_iff.mpr fun h => ?_
  have hva := List.all_eq_true.mp h va (List.mem_map.mpr ⟨0, List.mem_range.mpr hb, rfl⟩)
  simp [Option.isSome_iff_ne_none.mp hc] at hva

theorem tensorBytes_lines {t : Nat} (h : tensorBytes t ≠ 0) : 0 < tensorBytes t / 64 := by
  unfold tensorBytes at *
  omega

/-- R536: the header line of a dump of STATUS 1, with no byte of the tensor. -/
def State.dumpHeader (s : State) (k v probe fmt : Nat) : Nat :=
  (s.ringSeq k).toNat + k * 2 ^ 32 + probe % 2 ^ 16 * 2 ^ 48 + (s.vatAt v).step % 2 ^ 16 * 2 ^ 64 + 1 * 2 ^ 80
    + ((List.range 4).map (fun i => (s.vatAt v).loopIdx i % 2 ^ 24 * 2 ^ (96 + 24 * i))).sum + s.now % 2 ^ 64 * 2 ^ 192
    + 0 * 2 ^ 256 + fmt * 2 ^ 288

section
variable {s s1 s2 : State} {k probe e t : Nat} {p1 p2 : Bool} (h1 : s.sectionEntry k 1 probe 64 = ((e, p1), s1))
  (h2 : s1.sectionEntry k 1 (bitsAt e 351 320) 64 = ((t, p2), s2)) (v n : Nat) {d : BitVec 256}

include h1 h2

theorem State.dump_full (h : bits d 127 96 < dumpUsed d + 64 + tensorBytes t) : s.dump k v n d probe =
    s2.modCtx k (fun x => { x with dumps := Tab.set x.dumps n (BitVec.ofNat 256
      (setBits (Tab.get x.dumps n 0).toNat 223 192 (bits d 223 192 + 1))) }) := by
  unfold State.dump
  rw [h1]
  dsimp only
  rw [h2]
  exact if_pos h

theorem State.dump_unusable (h : dumpUsed d + 64 + tensorBytes t ≤ bits d 127 96) (hb : tensorBytes t ≠ 0)
    (hc : (s2.checkPage k (bitsAt t 311 256) false).isSome = true) : s.dump k v n d probe =
    (((s2.storeLine ((bits d 77 32 + dumpUsed d) / 64) (leBytes 64 (s2.dumpHeader k v probe (bitsAt t 315 312)))).modVat v
        (fun x => { x with stepCount := { x.stepCount with dumps := x.stepCount.dumps + 1 } })).modCtx k
      (fun x => { x with dumps := Tab.set x.dumps n (BitVec.ofNat 256 (setBits (setBits (Tab.get x.dumps n 0).toNat 159 128
        (dumpUsed d + 64)) 191 160 (bits d 191 160 + 1))) })) := by
  have hm := State.dumpMapped_unusable (tensorBytes_lines hb) hc
  unfold State.dump
  rw [h1]
  dsimp only
  rw [h2]
  generalize hn : ceilDiv (ceilDiv _ 32) 512 * 64 = bytes
  obtain rfl : tensorBytes t = bytes := hn
  refine (if_neg (Nat.not_lt.mpr h)).trans ?_
  unfold State.dumpMapped at hm
  dsimp only
  rw [hm]
  rfl

end

/-- Settles O25: a probe by its symbol entry, a request by whether it names the symbol; a dump by its room and by its first page. -/
theorem probesAndDumps : Obligations.ProbesAndDumps := by
  unfold Obligations.ProbesAndDumps
  refine ⟨fun s v cyc k w e lost u s1 hi he => ?_, fun s v cyc hn => exec_controlSlot_none (by simp) hn,
    fun s s1 s2 k v n probe e t d p1 p2 h1 h2 => ⟨State.dump_full h1 h2 v n, State.dump_unusable h1 h2 v n⟩⟩
  rw [exec_probe hi, he]
  refine ⟨fun hr => congrArg ok (if_pos hr), fun hr => ?_⟩
  have hx : probeTaken ((e, lost), s1) k v.val (bitsAt w 21 6) = (List.range 8).foldl (State.dumpTaken k v.val (bitsAt w 21 6)) s1 :=
    if_neg (ne_true_of_eq_false hr)
  refine ⟨congrArg ok hx, fun h => congrArg ok (hx.trans (State.foldl_dumpTaken_idle v.val h)), fun h h7 => congrArg ok (hx.trans ?_)⟩
  rw [List.range_succ, List.foldl_append, State.foldl_dumpTaken_idle v.val h]
  exact if_pos h7

end Machine
end Sys2Proof

namespace Sys2Proof
namespace Machine

/-! The launch point and the end of an invocation (R166, R168, R174, R208, R231, R235, R237, R240-R242, R302, R533). -/

/-! ### The waits that a launch point ends -/

theorem State.wait_endWait (s : State) (v : Nat) : ((s.endWait v).vatAt v).wait = .none := by
  unfold State.endWait
  rw [State.vatAt_modVat]

theorem State.vatAt_endWait_other (s : State) {u v : Nat} (h : u ≠ v) : (s.endWait v).vatAt u = s.vatAt u := State.vatAt_modVat_other _ _ h

/-- R231: one vat, where it waits for a launch point, goes on. -/
def State.releaseVat (s : State) (v : Nat) : State := if (s.vatAt v).wait = .launchPoint then s.endWait v else s

theorem State.wait_releaseVat {s : State} {v : Nat} (h : (s.vatAt v).wait = .launchPoint) : ((s.releaseVat v).vatAt v).wait = .none := by
  rw [State.releaseVat, if_pos h, State.wait_endWait]

theorem State.vatAt_releaseVat_other (s : State) {u v : Nat} (h : u ≠ v) : (s.releaseVat v).vatAt u = s.vatAt u := by
  unfold State.releaseVat
  split
  · exact State.vatAt_endWait_other s h
  · rfl

/-- A list of vats is released: one that is not in it stays as it is. -/
theorem State.vatAt_foldl_releaseVat {l : List Nat} {v : Nat} (h : v ∉ l) (s : State) : (l.foldl State.releaseVat s).vatAt v = s.vatAt v :=
  List.foldlRecOn l _ (motive := fun t => t.vatAt v = s.vatAt v) rfl fun t ht _ hu =>
    (State.vatAt_releaseVat_other t (ne_of_mem_of_not_mem hu h).symm).trans ht

theorem State.releaseLp_waits {s : State} {v : Nat} (hv : v < 34) (hw : (s.vatAt v).wait = .launchPoint) : (s.releaseLp.vatAt v).wait = .none := by
  obtain ⟨before, after, hl⟩ := List.append_of_mem (List.mem_range.mpr hv)
  have hn : (before ++ v :: after).Nodup := hl ▸ List.nodup_range
  have hb : v ∉ before := fun h => (List.disjoint_of_nodup_append hn) h List.mem_cons_self
  have ha : v ∉ after := (List.nodup_cons.mp (List.nodup_append.mp hn).2.1).1
  show (((List.range 34).foldl State.releaseVat s).vatAt v).wait = .none
  rw [hl, List.foldl_append, List.foldl_cons, State.vatAt_foldl_releaseVat ha, State.wait_releaseVat]
  rw [State.vatAt_foldl_releaseVat hb, hw]

/-! ### The end of an invocation -/

/-- R240, R242: what INVOCATION_END waits for. -/
def State.invocationOver (s : State) (k : Nat) : Prop :=
  (s.ctxAt k).phase = .running ∧ s.stopped k = true ∧ s.writesDone k = true ∧ (s.ctxAt k).faults = [] ∧ (s.ctxAt k).state = 1

/-- R240, R242, R533: the invocation's records are written, its arrivals and notices forgotten, and its dump requests counted down. -/
def State.invocationRecorded (s : State) (k : Nat) : State :=
  ((s.invComplete k 0 0).invocationRecord k false).modCtx k (fun x => { x with
    phase := .idle, notices := x.notices.filter (fun n => n.1 ≠ s.ringSeq k), arrivals := x.arrivals.filter (fun a => a.2.1 ≠ s.ringSeq k),
    dumps := x.dumps.map (fun d => (d.1, if dumpLeft d.2 = 0 ∨ dumpLeft d.2 = 0xFFFF then d.2
      else BitVec.ofNat 256 (setBits d.2.toNat 31 16 (dumpLeft d.2 - 1)))) })

/-- R242: the vats of the plan are idle; where `x` is the context as the end found it, a plan that is not resident or whose context is being
disabled leaves them. -/
def State.vatsLeft (s : State) (k : Nat) (x : Ctx) : State :=
  let s1 := s.onVats (s.planVats k) (fun x => { x with activity := 0, wait := .none, stall := none })
  if x.resident then (if x.disabling then s1.endResidency k else s1)
  else (((s1.leaveVats k).unpin k).modCtx k (fun x => { x with inv := none })).eagerWash k (s1.planLogical k (s1.header k))

theorem execInvocationEnd_over {s : State} {k : Fin 1024} (h : s.invocationOver k.val) : execInvocationEnd k s =
    let t := (s.invocationRecorded k.val).vatsLeft k.val (s.ctxAt k.val)
    ok ((t.settleDisable k.val).settleTenant (t.ctxTenant k.val)) := by
  obtain ⟨hp, hs, hw, hf, he⟩ := h
  unfold execInvocationEnd State.invocationRecorded
  refine (if_neg (by simp [hp, hs, hw, hf, he])).trans ?_
  simp only [Bool.or_eq_true, decide_eq_true_eq]
  rfl

theorem execInvocationEnd_other {s : State} {k : Fin 1024}
    (h : (s.ctxAt k.val).phase ≠ .running ∨ s.stopped k.val = false ∨ s.writesDone k.val = false ∨ (s.ctxAt k.val).faults ≠ [] ∨
      (s.ctxAt k.val).state ≠ 1) : execInvocationEnd k s = ok s := by
  unfold execInvocationEnd
  exact if_pos (by simpa [or_assoc] using h)

theorem State.invComplete_some {s : State} {k : Nat} {i : Inv} (h : (s.ctxAt k).inv = some i) (status reason : Nat) :
    s.invComplete k status reason = s.complete k {
      seq := i.seq.toNat, tag := i.tag.toNat, status := status, reason := reason, step := i.step.toNat, altered := i.altered,
      events := i.events.toNat, flags := i.flags.toNat, start := i.start.toNat, fin := s.now, cycles := s.cyclesRun k,
      frame := i.frame.toNat, lp := i.lp.toNat } := by
  unfold State.invComplete
  rw [h]

/-- Settles O30: the launch point by its slot, its order being that of the definition; the waits by the vats that are released in turn; the
end of an invocation by whether the invocation is over. -/
theorem launchPointOrder : Obligations.LaunchPointOrder := by
  unfold Obligations.LaunchPointOrder
  refine ⟨fun s hs => if_neg (not_not_intro hs), fun s hs => if_pos hs, fun s v => State.releaseLp_waits, fun s => rfl,
    fun s k => ⟨fun hp hs hw hf he => execInvocationEnd_over ⟨hp, hs, hw, hf, he⟩, execInvocationEnd_other⟩,
    fun s k i hi => State.invComplete_some hi 0 0⟩

end Machine
end Sys2Proof

namespace Sys2Proof
namespace Machine

/-! No read of a line and no poison that it leaves touches the vats or the contexts: one lemma for each operation on the way. -/

/-- The vats and the contexts are the same. -/
@[simp, reducible] def SamePlans (s t : State) : Prop := t.vat = s.vat ∧ t.ctxs = s.ctxs

theorem SamePlans.trans {s t u : State} (h : SamePlans s t) (k : SamePlans t u) : SamePlans s u := ⟨k.1.trans h.1, k.2.trans h.2⟩

@[simp] theorem foldl_samePlans {α : Type} (f : State → α → State) (h : ∀ s x, SamePlans s (f s x)) (l : List α) (s : State) :
    SamePlans s (l.foldl f s) :=
  List.foldlRecOn l f ⟨rfl, rfl⟩ fun t ht x _ => ht.trans (h t x)

@[simp] theorem ite_vat (c : Prop) [Decidable c] (a b : State) : (if c then a else b).vat = if c then a.vat else b.vat := apply_ite State.vat c a b
@[simp] theorem ite_ctxs (c : Prop) [Decidable c] (a b : State) : (if c then a else b).ctxs = if c then a.ctxs else b.ctxs :=
  apply_ite State.ctxs c a b

theorem LogOnly.samePlans {s t : State} (h : LogOnly s t) : SamePlans s t := by rw [h.1]; exact ⟨rfl, rfl⟩
theorem RingOnly.samePlans {s t : State} (h : RingOnly s t) : SamePlans s t := by rw [h]; exact ⟨rfl, rfl⟩

@[simp] theorem State.report_samePlans (s : State) (k : FKind) (unit subject : Nat) (fields : List (Nat × Nat)) :
    SamePlans s (s.report k unit subject fields) := (State.submit_logOnly _ _).samePlans

@[simp] theorem State.reportTenant_samePlans (s : State) (k : FKind) (t : Option Nat) (subject : Nat) (fields : List (Nat × Nat)) :
    SamePlans s (s.reportTenant k t subject fields) := (State.submit_logOnly _ _).samePlans

@[simp] theorem State.peak_samePlans (s : State) (i k v : Nat) : SamePlans s (s.peak i k v) := by simp [State.peak]

@[simp] theorem State.takeFree_samePlans (w : Nat) (s : State) : SamePlans s (s.takeFree w).2 := ⟨rfl, rfl⟩

@[simp] theorem State.clearErrors_samePlans (s : State) (line : Nat) : SamePlans s (s.clearErrors line) := ⟨rfl, rfl⟩

@[simp] theorem State.markDirty_samePlans (s : State) (dpa : Nat) : SamePlans s (s.markDirty dpa) := ⟨rfl, rfl⟩

@[simp] theorem State.enqueueBe_samePlans (s : State) (cls port : Nat) (write : Bool) (bytes dpa : Nat) (work : BeWork) :
    SamePlans s (s.enqueueBe cls port write bytes dpa work) := ⟨rfl, rfl⟩

@[simp] theorem State.applyFlip_samePlans (s : State) (w : Nat) : SamePlans s (s.applyFlip w) := by simp [State.applyFlip]

/-! ### Parity -/

@[simp] theorem State.writeParity_samePlans (s : State) (line : Nat) (d : BitVec 512) : SamePlans s (s.writeParity line d) := by
  simp [State.writeParity]

@[simp] theorem State.parityLost_samePlans (s : State) (line way : Nat) : SamePlans s (s.parityLost line way) := by
  simp [State.parityLost]

@[simp] theorem State.evictParity_samePlans (s : State) (line : Nat) : SamePlans s (s.evictParity line) := by
  simp only [State.evictParity]
  (repeat' split) <;> simp

@[simp] theorem State.fetchParity_samePlans (s : State) (line : Nat) : SamePlans s (s.fetchParity line).2 := by
  simp only [State.fetchParity]
  (repeat' split) <;> simp

@[simp] theorem State.addParity_samePlans (s : State) (dpa : Nat) (delta : List (BitVec 8)) : SamePlans s (s.addParity dpa delta) := by
  simp [State.addParity]

@[simp] theorem State.updateParity_samePlans (s : State) (dpa : Nat) (delta : List (BitVec 8)) (read : Bool) :
    SamePlans s (s.updateParity dpa delta read) := by
  simp [State.updateParity]

/-! ### Poison -/

@[simp] theorem State.applyDelta_poison_samePlans (s : State) (dpa : Nat) (delta : List (BitVec 8)) :
    SamePlans s (s.applyDelta dpa delta true) := by
  simp [State.applyDelta]

@[simp] theorem State.inject_samePlans (s : State) (h : PktHdr) (d : List (BitVec 8)) : SamePlans s ((s.inject h d).getD s) :=
  (State.inject_ringOnly s h d).samePlans

@[simp] theorem State.sendDeltas_poison_samePlans (s : State) (dpa : Nat) (delta : List (BitVec 8)) :
    SamePlans s (s.sendDeltas dpa delta true) := by
  simp [State.sendDeltas]

@[simp] theorem State.poisonLine_samePlans (s : State) (line : Nat) : SamePlans s (s.poisonLine line) := by
  simp [State.poisonLine]

@[simp] theorem State.wordLost_samePlans (s : State) (dpa port : Nat) (err : SymErrors) : SamePlans s (s.wordLost dpa port err) := by
  simp [State.wordLost]

/-! ### Recovery -/

@[simp] theorem State.pageDecoded_samePlans (s : State) (pg word pass stall : Nat) (errs : List (Nat × BitVec 16)) :
    SamePlans s (s.pageDecoded pg word pass stall errs) := by
  simp [State.pageDecoded]

@[simp] theorem State.pageFailed_samePlans (s : State) (pg stall word : Nat) (errs : List (Nat × BitVec 16)) :
    SamePlans s (s.pageFailed pg stall word errs) := by
  simp [State.pageFailed]

@[simp] theorem State.pageWritten_samePlans (s : State) (pg : Nat) : SamePlans s (s.pageWritten pg) := by
  simp [State.pageWritten]

@[simp] theorem State.takeEscSlots_samePlans (s : State) (e : Nat) (plan : Option (Nat × Nat)) (scrub : Bool) (slots : List (Nat × Nat)) :
    SamePlans s (s.takeEscSlots e plan scrub slots) := by
  simp [State.takeEscSlots]

@[simp] theorem State.recover_samePlans (s : State) (word : Nat) : SamePlans s (s.recover word).2 := by
  simp only [State.recover]
  (repeat' split) <;> simp

/-! ### Reads -/

@[simp] theorem State.countUnit_samePlans (s : State) (u : Nat × Nat × Nat) : SamePlans s (s.countUnit u) := by
  simp [State.countUnit]

@[simp] theorem State.countCorrected_samePlans (s : State) (dpa : Nat) (syms : List (Nat × Nat)) : SamePlans s (s.countCorrected dpa syms) := by
  simp [State.countCorrected]

@[simp] theorem State.readWord_samePlans (s : State) (word port : Nat) (r : WordResult) : SamePlans s (s.readWord word port r).2 := by
  simp only [State.readWord, State.countUe]
  (repeat' split) <;> simp

theorem State.readLine_samePlans (s : State) (line port : Nat) : SamePlans s (s.readLine line port).2 := by
  unfold State.readLine
  split
  · exact ⟨rfl, rfl⟩
  · dsimp only
    generalize hr : List.foldl _ _ _ = r
    have h : SamePlans s r.2 := by
      rw [← hr]
      exact List.foldlRecOn _ _ (motive := fun a : Bool × State => SamePlans s a.2) ⟨rfl, rfl⟩ fun a ha w _ => ha.trans (State.readWord_samePlans ..)
    have hl (i n : Nat) : SamePlans s (r.2.light i n) := h
    (repeat' split) <;> exact hl ..

end Machine
end Sys2Proof

namespace Sys2Proof
namespace Machine

/-! Traps and hung vats (R163, R176, R241, R249-R251, R433, R496). -/

/-! ### The lines of a stopped partition -/

theorem SamePlans.sameStanding {s t : State} (h : SamePlans s t) (hm : t.med.mem = s.med.mem) : SameStanding s t := .of_eq hm h.1 h.2

/-- The standing of a vat does not lie in its cache. -/
theorem State.modCache_sameStanding (s : State) (k : Nat) (f : Tab CacheLine → Tab CacheLine) : SameStanding s (s.modCache k f) := by
  unfold State.modCache
  split
  · exact .modVat s _ fun _ => rfl
  · exact .refl s

theorem State.bump_sameStanding (s : State) (w i k n : Nat) : SameStanding s (s.bump w i k n) := .of_eq rfl rfl rfl

theorem State.bumpElem_sameStanding (s : State) (w i k e n : Nat) : SameStanding s (s.bumpElem w i k e n) := .of_eq rfl rfl rfl

theorem State.checkCached_sameStanding (s : State) (k line : Nat) : SameStanding s (s.checkCached k line) := by
  unfold State.checkCached
  dsimp only
  split
  · exact .refl s
  · split
    · exact .refl s
    · split
      · exact (s.modCache_sameStanding k _).trans (State.bump_sameStanding ..)
      · split
        · exact (s.modCache_sameStanding k _).trans ((State.poisonLine_samePlans _ line).sameStanding (State.poisonLine_mem ..))
        · exact ((s.readLine_samePlans line 9).sameStanding (State.readLine_mem ..)).trans (State.modCache_sameStanding ..)

theorem State.dropVats_sameStanding (s : State) (line : Nat) (ks : List Nat) : SameStanding s (s.dropVats line ks).2 := by
  induction ks generalizing s with
  | nil => exact .refl s
  | cons k ks ih =>
    have h := ((s.checkCached_sameStanding k line).trans (State.modCache_sameStanding _ k (fun t => Tab.erase t line))).trans (ih _)
    unfold State.dropVats
    dsimp only
    (repeat' split) <;> exact h

theorem State.snoop_sameStanding (s : State) (line : Nat) (inv : Bool) (rs : List Nat) : SameStanding s (s.snoop line inv rs) :=
  SameStanding.foldl (f := fun u r => (u.emit (.bisnp r line inv)).bump 64 0x5800 4) (fun _ _ => .of_eq rfl rfl rfl) rs s

/-- A response to a host leaves by its port. -/
theorem State.respond_host_sameStanding (s : State) {r : HomeReq} {h : Fin 4096} (hr : r.who = .host h) (mv : MetaValue) (data : List (BitVec 8))
    (poison : Bool) : SameStanding s (s.respond r mv data poison) := by
  unfold State.respond
  rw [hr]
  dsimp only
  (repeat' split) <;> exact .of_eq rfl rfl rfl

/-- R33: a host's request for a line of a stopped partition sees poison. -/
def State.answerStopped (s : State) (r : HomeReq) : State :=
  match r.who with
  | .host _ => s.respond { r with kind := if r.kind = .wrF then .wrF else .rdC } .invalid [] true
  | _ => s

theorem State.answerStopped_sameStanding (s : State) (r : HomeReq) : SameStanding s (s.answerStopped r) := by
  unfold State.answerStopped
  split
  · next h hr => exact State.respond_host_sameStanding s (r := { r with kind := if r.kind = .wrF then .wrF else .rdC }) hr ..
  · exact .refl s

theorem State.dropLines_sameStanding (s : State) (t : Nat) : SameStanding s (s.dropLines t) := by
  unfold State.dropLines
  extract_lets mine answer s1 s2
  have ha (u : State) (r : HomeReq) : SameStanding u (answer u r) := u.answerStopped_sameStanding r
  have h1 : SameStanding s s1 := by
    refine SameStanding.foldl (fun u p => ?_) _ _
    dsimp only
    split
    · have hd (hs : List Nat) : SameStanding u ((u.snoop p.1 true hs).dropVats p.1 p.2.vatList).2 :=
        (u.snoop_sameStanding ..).trans (State.dropVats_sameStanding ..)
      split
      · exact (hd _).trans (ha _ _)
      · exact hd _
    · exact .refl u
  have h2 : SameStanding s1 s2 := SameStanding.foldl ha _ _
  exact (h1.trans h2).trans (.of_eq rfl rfl rfl)

theorem State.settleTenant_sameStanding (s : State) (t : Nat) : SameStanding s (s.settleTenant t) := by
  unfold State.settleTenant
  dsimp only
  split
  · exact (s.dropLines_sameStanding t).trans (.of_eq rfl rfl rfl)
  · exact .refl s

/-! ### The fault of a context -/

theorem State.markEvent_sameStanding (s : State) (k e : Nat) : SameStanding s (s.markEvent k e) := by
  unfold State.markEvent
  refine .trans (t := s.modCtx k _) (.modCtx s k fun x => ?_) (State.bumpElem_sameStanding ..)
  simp [Ctx.standing, Function.comp_def]

theorem State.markFaults_sameStanding (s : State) (k : Nat) (fs : List PlanFault) : SameStanding s (s.markFaults k fs) := by
  refine SameStanding.foldl (fun u f => ?_) _ _
  split
  · exact u.markEvent_sameStanding k _
  · exact .refl u

theorem State.msix_sameStanding (s : State) (f vec : Nat) : SameStanding s (s.msix f vec) := by
  unfold State.msix
  split
  · exact .of_eq rfl rfl rfl
  · exact .refl s

theorem bit_eq_getLsbD {w : Nat} (v : BitVec w) (k : Nat) : bit v k = v.getLsbD k := by
  simp [bit, bitAt, BitVec.getLsbD, Nat.testBit_eq_decide_div_mod_eq, Nat.shiftRight_eq_div_pow]

/-- R230: only a plan across chips has partners to tell. -/
theorem State.sendNotices_alone {s : State} {k : Nat} (h : (s.header k).getLsbD 57 = false) : s.sendNotices k = s := by
  unfold State.sendNotices
  split
  · rfl
  · next i hi =>
    have hh : s.header k = i.header := by unfold State.header; rw [hi]; rfl
    rw [hh, ← bit_eq_getLsbD] at h
    exact if_neg (ne_true_of_eq_false h)

/-- R241: the record waits where a write tile is left. -/
theorem State.payRecord_waits {s : State} {k : Nat} (h : s.writesDone k = false) : s.payRecord k = s := by
  unfold State.payRecord
  split
  · exact if_neg (by simp [h])
  · rfl

/-- A change on every vat of a list leaves what it does not change on any. -/
theorem State.onVats_keeps {α : Type} {f : Vat → Vat} {g : Vat → α} (hf : ∀ x, g (f x) = g x) (s : State) (vs : List Nat) (j : Nat) :
    g ((s.onVats vs f).vatAt j) = g (s.vatAt j) :=
  List.foldlRecOn vs (fun t v => t.modVat v f) (motive := fun t : State => g (t.vatAt j) = g (s.vatAt j)) rfl fun t ht v _ => by
    by_cases h : j = v
    · rw [h, State.vatAt_modVat, hf, ← h, ht]
    · rw [State.vatAt_modVat_other _ _ h, ht]

/-- What a change gives every vat, the vats of the list have. -/
theorem State.onVats_holds {f : Vat → Vat} {P : Vat → Prop} (hf : ∀ x, P (f x)) (s : State) {vs : List Nat} {j : Nat} (hj : j ∈ vs) :
    P ((s.onVats vs f).vatAt j) := by
  induction vs using List.reverseRecOn with
  | nil => cases hj
  | append_singleton vs v ih =>
    unfold State.onVats at *
    rw [List.foldl_append, List.foldl_cons, List.foldl_nil]
    by_cases h : j = v
    · rw [h, State.vatAt_modVat]
      exact hf _
    · rw [State.vatAt_modVat_other _ _ h]
      exact ih ((List.mem_append.mp hj).resolve_right (by simpa using h))

theorem State.onVats_lmap_ctxs (s : State) (vs : List Nat) (f : Vat → Vat) :
    (s.onVats vs f).vat.lmap = s.vat.lmap ∧ (s.onVats vs f).ctxs = s.ctxs :=
  List.foldlRecOn vs (fun t v => t.modVat v f) (motive := fun t : State => t.vat.lmap = s.vat.lmap ∧ t.ctxs = s.ctxs) ⟨rfl, rfl⟩
    fun _ ht _ _ => ht

/-- A vat of a FAULTED plan: held, idle, and waiting for nothing. -/
def Vat.held (x : Vat) : Prop := x.faultHeld = true ∧ x.activity = 0 ∧ x.wait = .none

/-- R176, R241, R249-R251: context `k` is FAULTED for a reason: the vats that its plan had are held, its record is owed, and the write tiles
are as they were. -/
structure Faulted (s t : State) (k reason : Nat) : Prop where
  bytes : SameBytes s t
  state : (t.ctxAt k).state = 2
  phase : (t.ctxAt k).phase = .idle
  owed : (t.ctxAt k).owed = some (2, reason)
  vats : ∀ j, j ∈ s.planVats k → (t.vatAt j).held
  header : t.header k = s.header k
  writes : t.writesDone k = s.writesDone k

theorem Faulted.trans {s t u : State} {k reason : Nat} (h : Faulted s t k reason) (g : SameStanding t u) : Faulted s u k reason := by
  obtain ⟨hb, hs, hp, ho, hv, hh, hw⟩ := h
  have hc := g.ctxs k
  simp only [Ctx.standing, Prod.mk.injEq] at hc
  obtain ⟨cs, cp, co, _⟩ := hc
  refine ⟨fun a => (g.sameBytes a).trans (hb a), cs.trans hs, cp.trans hp, co.trans ho, fun j hj => ?_, (g.header k).trans hh, (g.writesDone k).trans hw⟩
  have hx := g.vats j
  simp only [Vat.standing, Prod.mk.injEq] at hx
  obtain ⟨_, xf, xa, xw⟩ := hx
  obtain ⟨vf, va, vw⟩ := hv j hj
  exact ⟨xf.trans vf, xa.trans va, xw.trans vw⟩

theorem SameStanding.faulted {s t u : State} {k reason : Nat} (g : SameStanding s t) (h : Faulted t u k reason) : Faulted s u k reason := by
  obtain ⟨hb, hs, hp, ho, hv, hh, hw⟩ := h
  exact ⟨fun a => (hb a).trans (g.sameBytes a), hs, hp, ho, fun j hj => hv j (by rwa [g.planVats]), hh.trans (g.header k), hw.trans (g.writesDone k)⟩

/-- R176, R241, R251: the vats of the plan are held, and the context is FAULTED. -/
theorem State.faulted_of_held (s : State) {k reason : Nat} {f : Vat → Vat} {g : Ctx → Ctx} (hf : ∀ x, (f x).held) (he : ∀ x, (f x).engines = x.engines)
    (hg : ∀ x, (g x).state = 2 ∧ (g x).phase = .idle ∧ (g x).owed = some (2, reason) ∧ (g x).entry = x.entry ∧
      (g x).inv.map (fun i => i.header) = x.inv.map (fun i => i.header)) :
    Faulted s ((s.onVats (s.planVats k) f).modCtx k g) k reason := by
  obtain ⟨hl, hcs⟩ := s.onVats_lmap_ctxs (s.planVats k) f
  have hc : ((s.onVats (s.planVats k) f).modCtx k g).ctxAt k = g (s.ctxAt k) := by
    rw [State.ctxAt_modCtx, State.ctxAt, hcs]
    rfl
  obtain ⟨gs, gp, go, ge, gh⟩ := hg (s.ctxAt k)
  have hh : ((s.onVats (s.planVats k) f).modCtx k g).header k = s.header k := by
    unfold State.header
    rw [hc, gh]
  refine ⟨fun a => ?_, by rw [hc, gs], by rw [hc, gp], by rw [hc, go], fun j hj => State.onVats_holds hf s hj, hh,
    State.writesDone_congr (State.planVats_congr hl (by rw [hc, ge]) hh) fun j => State.onVats_keeps (g := Vat.engines) he s _ j⟩
  rw [State.modCtx_mem, State.onVats_mem]

theorem State.faultContext_faulted {s : State} {k : Nat} {f : PlanFault} {rest : List PlanFault} (hf : (s.ctxAt k).faults = f :: rest)
    (hw : s.writesDone k = false) (hc : (s.header k).getLsbD 57 = false) : Faulted s (s.faultContext k) k (f.kind.toNat % 256) := by
  unfold State.faultContext
  split
  · next h => cases hf.symm.trans h
  · next f' rest' h =>
    cases hf.symm.trans h
    extract_lets code vs s0 s1 pl kd src rec_ s2 stored s3 seq s4 s5 s6
    have h0 : SameStanding s s0 := SameStanding.foldl (fun u v => by
      split
      · exact .refl u
      · exact u.stepEnd_sameStanding ..) _ _
    have h1 : SameStanding s0 s1 := SameStanding.foldl (fun u a => u.stepRecord_sameStanding ..) _ _
    have h2 : SameStanding s s2 := (h0.trans h1).trans (State.submit_logOnly _ _).sameStanding
    have h4 : Faulted s s4 k (code % 256) := by
      have hv : s3 = s2.onVats (s2.planVats k) (fun x => { x with
          faultHeld := true, activity := 0, wait := .none, stall := none, todo := [], fetching := [] }) := by rw [h2.planVats]
      refine h2.faulted ?_
      unfold s4
      rw [hv]
      refine s2.faulted_of_held (fun x => ⟨rfl, rfl, rfl⟩) (fun x => rfl) fun x => ⟨rfl, rfl, rfl, rfl, ?_⟩
      simp [Function.comp_def]
    have h5 : Faulted s s5 k (code % 256) := by
      have h := h4.trans ((s4.msix_sameStanding (s4.ctxFunction k) (bits (s4.ctxAt k).entry 266 256)).trans (State.bump_sameStanding _ 64 0x4400 7 1))
      unfold s5
      rwa [State.sendNotices_alone (by rw [h.header, hc])]
    have h6 : Faulted s s6 k (code % 256) := by
      have h := h5.trans (s5.markFaults_sameStanding k (f :: rest))
      unfold s6
      rwa [State.payRecord_waits (by rw [h.writes, hw])]
    exact h6.trans (State.settleTenant_sameStanding ..)

theorem State.stepFault_sameStanding (s : State) (k step code : Nat) (pl : BitVec 320) (page : Nat) (mask : BitVec 32) :
    SameStanding s (s.stepFault k step code pl page mask) := by
  unfold State.stepFault
  exact .modCtx s k fun _ => rfl

/-- R249-R251: a trap of a plan that holds no fault makes its context FAULTED at once. -/
theorem State.trap_faulted {s : State} {k code : Nat} (hf : (s.ctxAt k).faults = []) (hw : s.writesDone k = false)
    (hc : (s.header k).getLsbD 57 = false) (h16 : code < 65536) (v : Nat) (pl : BitVec 320) : Faulted s (s.trap k v code pl) k (code % 256) := by
  unfold State.trap
  have h1 : SameStanding s (s.stepFault k (s.vatAt v).step code pl 0 0) := State.stepFault_sameStanding ..
  have hfs : ((s.stepFault k (s.vatAt v).step code pl 0 0).ctxAt k).faults = [⟨BitVec.ofNat 16 code, pl, 0, (s.vatAt v).step, 0, false⟩] := by
    unfold State.stepFault
    rw [State.ctxAt_modCtx, hf]
    rfl
  have h := h1.faulted (State.faultContext_faulted hfs ((h1.writesDone k).trans hw) ((congrArg (fun h => BitVec.getLsbD h 57) (h1.header k)).trans hc))
  rwa [BitVec.toNat_ofNat, Nat.mod_eq_of_lt h16] at h

/-! ### A hung vat -/

/-- R163: VAT_HANG_LIMIT is over for a vat that has stalled from cycle `c` to cycle `cyc`. -/
def State.hangs (s : State) (cyc c : Nat) : Prop := s.par 0x4000 4 * s.vatHz < (cyc - c) * 1000000

section
variable {s : State} {v : Fin 34} {cyc k c : Nat} (hk : s.runningOn v.val = some k) (hc : (s.vatAt v.val).stall = some c)
include hk hc

theorem execVatHang_stalled : execVatHang v cyc s = if !(s.vatAt v.val).blocked || (cyc - c) * 1000000 ≤ s.par 0x4000 4 * s.vatHz then ok s
    else ok (((s.resetVatCore v.val).trap k v.val 0x0605
      (payload [(32, v.val), (32, k), (32, (s.vatAt v.val).next), (32, cyc - c)])).toHead v.val) := by
  unfold execVatHang
  rw [hk, hc]

theorem execVatHang_hangs (hb : (s.vatAt v.val).blocked = true) (hl : s.hangs cyc c) : execVatHang v cyc s =
    ok (((s.resetVatCore v.val).trap k v.val 0x0605
      (payload [(32, v.val), (32, k), (32, (s.vatAt v.val).next), (32, cyc - c)])).toHead v.val) :=
  (execVatHang_stalled hk hc).trans (if_neg (by simpa [hb, State.hangs] using hl))

theorem execVatHang_goesOn (h : (s.vatAt v.val).blocked = false ∨ ¬ s.hangs cyc c) : execVatHang v cyc s = ok s :=
  (execVatHang_stalled hk hc).trans (if_pos (by simpa [State.hangs] using h))

end

theorem execVatHang_idle {s : State} {v : Fin 34} (h : s.runningOn v.val = none ∨ (s.vatAt v.val).stall = none) (cyc : Nat) :
    execVatHang v cyc s = ok s := by
  unfold execVatHang
  split
  · next k c hk hc => simp [hk, hc] at h
  · rfl

/-! ### The reset of a vat -/

/-- R496: a vat as its reset leaves it. -/
theorem State.vatAt_resetVatCore (s : State) (v : Nat) : ∃ n, (s.resetVatCore v).vatAt v = { freshVat with
    unusable := (s.vatAt v).unusable, owner := (s.vatAt v).owner, resident := (s.vatAt v).resident, faultHeld := (s.vatAt v).faultHeld,
    lastTest := (s.vatAt v).lastTest, snap := (s.vatAt v).snap, step := (s.vatAt v).step, stepNo := (s.vatAt v).stepNo,
    stepCyc := (s.vatAt v).stepCyc, stepTime := (s.vatAt v).stepTime, firstCyc := (s.vatAt v).firstCyc, lastCyc := (s.vatAt v).lastCyc,
    stepCount := (s.vatAt v).stepCount, invCount := (s.vatAt v).invCount, clean := false, isolated := some n } := by
  refine ⟨((s.vatAt v).engines.map (fun (p : Nat × List TileCmd) => p.2.length)).sum, ?_⟩
  unfold State.resetVatCore State.vatAt
  rw [State.report_vat]
  exact State.vatAt_modVat ..

/-- Settles O28: a trap by the operations that make its context FAULTED, none of which but the hold and the context's own change touches
where its vats and contexts stand; VAT_HANG by whether the stall lasts, and the reset by what it keeps. -/
theorem trapsFaultTheContext : Obligations.TrapsFaultTheContext := by
  unfold Obligations.TrapsFaultTheContext
  refine ⟨fun s k v code pl hf hw hc h16 => ?_, fun s v cyc k c hk hc => ⟨execVatHang_hangs hk hc, execVatHang_goesOn hk hc⟩,
    fun s v cyc h => execVatHang_idle h cyc, fun s v => ?_⟩
  · obtain ⟨hb, hs, hp, ho, hv, -, -⟩ := State.trap_faulted hf hw hc h16 v pl
    exact ⟨hb, hs, hp, ho, hv⟩
  · obtain ⟨n, hx⟩ := s.vatAt_resetVatCore v
    rw [hx]
    exact ⟨fun a => by rw [State.resetVatCore_mem], rfl, rfl, rfl, rfl, rfl, rfl, rfl, rfl, rfl⟩

end Machine
end Sys2Proof

namespace Sys2Proof
namespace Machine

/-! The rights of a Translation Request (R293, R294). -/

/-- A fetch of the first page for reading and writing. -/
def writingFetch : Fetch := { ctx := 0, va := 0, ats := false, stale := false, read := true, write := true }

/-- Tenant 0 ACTIVE; the mirror of context 0, with ATS on at port 0, maps the first page by an ASK_HOST entry that gives READ alone; that
fetch is out. -/
def askingReadOnly : State :=
  { State.reset with
    tenants := [(0, { (default : Tenant) with size := 0x200000, state := 2 })]
    ctxs := [(0, { (default : Ctx) with entry := BitVec.ofNat 512 (4096 * 2 ^ 192), binding := 1 })]
    med := { State.reset.med with mem := [(4096, 0x0D), (4097, 0x20), (8192, 0x14)] }
    host := { State.reset.host with funcs := [(0, { (default : Func) with ats := true })] }
    tlb := { State.reset.tlb with fetches := [writingFetch] } }

theorem askingReadOnly_walk : ((askingReadOnly.bump 64 0x4100 3).walk (0 : Fin 1024).val writingFetch.va).1.1 = .ask true false := by
  decide +kernel

theorem askingReadOnly_walking : askingReadOnly.walking (0 : Fin 1024).val (0 : BitVec 56).toNat false = some writingFetch := by decide +kernel

theorem askingReadOnly_atsOn : askingReadOnly.atsOn (0 : Fin 1024).val = true := by decide +kernel

theorem askingReadOnly_idle : askingReadOnly.tlb.l2.length < 8 ∧ (askingReadOnly.ctxAt (0 : Fin 1024).val).phase = .idle := by decide +kernel

/-- R293: the Translation Request has No Write clear, for the footprint grants WRITE. -/
theorem askingReadOnly_request :
    (Res.stateOr (exec (.pinFetchDone 0 0) askingReadOnly) askingReadOnly).out.head? = some (.atsRequest 0 none 0 false false) := by
  decide +kernel

/-- Refutes O31: where the mirror's ASK_HOST entry gives READ alone and the footprint READ and WRITE, the Translation Request has No Write
clear, as R293 says, and not set by the rights that both give; the mirror's rights meet the completion's only in the pin (R294). -/
theorem not_pinsAreFetched : ¬ Obligations.PinsAreFetched := by
  unfold Obligations.PinsAreFetched
  rintro ⟨h, -⟩
  obtain ⟨hroom, hidle⟩ := askingReadOnly_idle
  obtain ⟨hdone, -⟩ := h askingReadOnly 0 0 writingFetch rfl rfl rfl hroom hidle
  obtain ⟨-, -, -, hask⟩ := hdone askingReadOnly_walking
  obtain ⟨t, o, ht, -, ho, -, hr⟩ := (hask true false askingReadOnly_walk).2 askingReadOnly_atsOn
  have hq := askingReadOnly_request
  rw [ht] at hq
  have he : o = .atsRequest 0 none 0 false false := Option.some.inj (ho.symm.trans hq)
  rw [hr, Out.atsRequest.injEq] at he
  obtain ⟨-, -, -, hnw, -⟩ := he
  exact absurd hnw (by decide)

end Machine
end Sys2Proof

namespace Sys2Proof
namespace Machine

/-! What an invalidation hits (R284, R295, R296, R298, R299). -/

/-- R284, R295, R296, R298: of context `k`, no unlocked entry in [lo, hi) is left, every present locked one there is INVALIDATED, the fetches
there are stale, and the walk cache holds nothing. -/
structure Invalidated (t : State) (k lo hi : Nat) : Prop where
  pins : ∀ e, e ∈ t.tlb.l2 → e.ctx = k → e.page <<< e.shift < hi → lo < (e.page + 1) <<< e.shift →
    e.locked = true ∧ (e.absent = none → e.invalid = true)
  fetches : ∀ f, f ∈ t.tlb.fetches → f.ctx = k → f.va < hi → lo < f.va + 4096 → f.stale = true
  walks : ∀ p, p ∈ t.tlb.walks → p.1.1 ≠ k

/-- An entry of a matched context overlaps [lo, hi). -/
def L2Entry.hitBy (e : L2Entry) (m : Nat → Bool) (lo hi : Nat) : Bool :=
  m e.ctx && e.page <<< e.shift < hi && lo < (e.page + 1) <<< e.shift

/-- R296: an entry as an invalidation leaves it. -/
def L2Entry.invalidated (e : L2Entry) (m : Nat → Bool) (lo hi : Nat) : L2Entry :=
  if e.hitBy m lo hi && e.locked && e.absent.isNone then { e with invalid := true } else e

/-- R298: a fetch as an invalidation leaves it. -/
def Fetch.invalidated (f : Fetch) (m : Nat → Bool) (lo hi : Nat) : Fetch :=
  if m f.ctx && f.va < hi && lo < f.va + 4096 then { f with stale := true } else f

section
variable (s : State) (m : Nat → Bool) (lo hi : Nat) (port : Option (Fin 4)) (tag : Nat)

theorem State.invDone_tlb (i : Invalidation) : (s.invDone i).tlb = s.tlb := by
  unfold State.invDone
  split <;> rfl

/-- R295, R296, R298: the micro-TLBs, the counters and the completion aside, an invalidation is what it does to the L2 TLB, the fetches and
the walk cache. -/
theorem State.invalidate_tlb : ∃ invs, (s.invalidate m lo hi port tag).tlb = { s.tlb with
    l2 := (s.tlb.l2.filter (fun e => !(e.hitBy m lo hi && !e.locked))).map (fun e => e.invalidated m lo hi)
    fetches := s.tlb.fetches.map (fun f => f.invalidated m lo hi)
    walks := s.tlb.walks.filter (fun p => !m p.1.1)
    invs := invs } := by
  unfold State.invalidate
  extract_lets hit pins wait l2 fetches i x s1 s2 s3
  have h : s2.tlb = s1.tlb := foldl_keeps State.tlb (fun s v => by split <;> rfl) _ s1
  have h3 : s3.tlb = s1.tlb := (State.bump_tlb ..).trans ((State.bump_tlb ..).trans h)
  refine ⟨_, Eq.trans ?_ h3⟩
  split
  · exact State.invDone_tlb s3 i
  · rfl

/-- R296: where no tile runs on an entry, the port's completion goes out at once. -/
theorem State.invalidate_completes (h : ∀ e, e ∈ s.tlb.l2 → e.running = 0) (p : Fin 4) :
    .invCompletion p tag ∈ (s.invalidate m lo hi (some p) tag).out := by
  unfold State.invalidate
  extract_lets hit pins wait l2 fetches i x s1 s2 s3
  have hw : wait = [] := by
    have hn : s.tlb.l2.filter (fun e => hit e && e.locked && e.running > 0) = [] := List.filter_eq_nil_iff.mpr fun e he => by simp [h e he]
    unfold wait
    rw [hn, List.map_nil]
  rw [if_pos (List.isEmpty_iff.mpr hw)]
  exact List.mem_cons_self

end

/-- An invalidation changes neither the place of an entry nor whether it is locked or ABSENT; a present locked one that is hit it marks. -/
theorem L2Entry.invalidated_keeps (e : L2Entry) (m : Nat → Bool) (lo hi : Nat) :
    ((e.invalidated m lo hi).hitBy m lo hi = e.hitBy m lo hi ∧ (e.invalidated m lo hi).locked = e.locked) ∧
    (e.hitBy m lo hi = true → e.locked = true → (e.invalidated m lo hi).absent = none → (e.invalidated m lo hi).invalid = true) := by
  unfold L2Entry.invalidated
  split
  · exact ⟨⟨rfl, rfl⟩, fun _ _ _ => rfl⟩
  · next h => exact ⟨⟨rfl, rfl⟩, fun hh hl ha => absurd (by simp [hh, hl, ha]) h⟩

theorem Fetch.invalidated_stale {f : Fetch} {m : Nat → Bool} {lo hi : Nat} (hm : m (f.invalidated m lo hi).ctx = true)
    (hl : (f.invalidated m lo hi).va < hi) (hh : lo < (f.invalidated m lo hi).va + 4096) : (f.invalidated m lo hi).stale = true := by
  unfold Fetch.invalidated at *
  split
  · rfl
  · next h =>
    rw [if_neg h] at hm hl hh
    exact absurd (by simp [hm, hl, hh]) h

theorem State.invalidate_invalidated (s : State) {m : Nat → Bool} {k : Nat} (hk : m k = true) (lo hi : Nat) (port : Option (Fin 4)) (tag : Nat) :
    Invalidated (s.invalidate m lo hi port tag) k lo hi := by
  obtain ⟨invs, h⟩ := s.invalidate_tlb m lo hi port tag
  refine ⟨?_, ?_, ?_⟩ <;> rw [h]
  · intro e he hc hl hh
    obtain ⟨x, hx, rfl⟩ := List.mem_map.mp he
    obtain ⟨⟨hit, hlocked⟩, hmark⟩ := x.invalidated_keeps m lo hi
    have hx' : x.hitBy m lo hi = true := by rw [← hit]; simp [L2Entry.hitBy, hc, hk, hl, hh]
    have hlk : x.locked = true := by simpa [hx'] using (List.mem_filter.mp hx).2
    exact ⟨hlocked.trans hlk, hmark hx' hlk⟩
  · intro f hf hc hl hh
    obtain ⟨x, -, rfl⟩ := List.mem_map.mp hf
    exact Fetch.invalidated_stale (hc ▸ hk) hl hh
  · rintro p hp rfl
    simpa [hk] using (List.mem_filter.mp hp).2

/-- R295: the binding of a context matches an ATS Invalidation Request at a port and a logical device. -/
def State.atsMatches (s : State) (p : Fin 4) (ld : Fin 16) (q : AtsInvalidation) (k : Nat) : Bool :=
  let b := (s.ctxAt k).binding
  bit b 0 && bits b 2 1 = p.val && (!s.mld || bits b 6 3 = ld.val)
    && (match q.pasid with
        | some x => q.glob || (bit b 7 && bits b 27 8 = x.toNat)
        | none => !bit b 7)

theorem execAtsInvalidationRequest_eq (p : Fin 4) (ld : Fin 16) (q : AtsInvalidation) (s : State) : execAtsInvalidationRequest p ld q s =
    ok (s.invalidate (s.atsMatches p ld q) q.va.toNat (q.va.toNat + q.len) (some p) q.tag) := rfl

/-- R299: a length of whole 4 KiB pages invalidates for the selected context; another is refused. -/
theorem invalidateOp_pages {s : State} {c : Client} {va len : Nat} (h : len % 4096 = 0) : invalidateOp c va len s =
    done (s.invalidate (fun j => j = s.selected c) va (va + len) none (s.selected c)) := if_neg (not_not_intro h)

theorem invalidateOp_range {s : State} {c : Client} {va len : Nat} (h : len % 4096 ≠ 0) : invalidateOp c va len s = refuse stRange s :=
  if_pos h

/-- Settles O32: both commands are one invalidation, of the selected context and of the contexts that match. -/
theorem invalidationsHitTheirRange : Obligations.InvalidationsHitTheirRange := by
  unfold Obligations.InvalidationsHitTheirRange
  refine ⟨fun s c va len hs => ⟨fun hl => ?_, fun hl => ?_⟩, fun s p ld q => ?_⟩
  · obtain ⟨hpins, hfetches, hwalks⟩ := (s.modClient c id).invalidate_invalidated (k := (s.modClient c id).selected c)
      (m := fun j => j = (s.modClient c id).selected c) (decide_eq_true rfl) va.toNat (va.toNat + len.toNat) none
      ((s.modClient c id).selected c)
    exact ⟨_, congrArg ok (State.request_eq_of_op hs (invalidateOp_pages hl)), fun a => by rw [State.invalidate_mem]; rfl, hpins, hfetches, hwalks⟩
  · exact congrArg ok (State.request_eq_of_op hs (invalidateOp_range hl))
  · refine ⟨_, execAtsInvalidationRequest_eq p ld q s, fun a => by rw [State.invalidate_mem],
      fun h => State.invalidate_completes s _ _ _ _ h p, fun k hb hp hld hq => ?_⟩
    have hm : s.atsMatches p ld q k = true := by
      simp only [State.atsMatches, Bool.and_eq_true, Bool.or_eq_true, Bool.not_eq_true', decide_eq_true_eq]
      refine ⟨⟨⟨hb, hp⟩, (Bool.eq_false_or_eq_true s.mld).symm.imp_right hld⟩, ?_⟩
      cases hpasid : q.pasid with
      | some x => simpa [hpasid] using hq
      | none => simpa [hpasid] using hq
    obtain ⟨hpins, hfetches, hwalks⟩ := s.invalidate_invalidated hm q.va.toNat (q.va.toNat + q.len) (some p) q.tag
    exact ⟨hpins, hfetches, hwalks⟩

end Machine
end Sys2Proof

namespace Sys2Proof
namespace Machine

/-! A descriptor whose target straddles two lines (R28, R322). -/

/-- FETCH_ADD of 8 bytes at offset 0 of the partition, the addend 0. -/
def addAtBase : BitVec 512 := 0x12

/-- Tenant 0 ACTIVE in a partition that begins four bytes before line 1, with an atomic window of one line 4096 bytes on; line 1
begins with a 1, and every other byte of memory is 0. -/
def straddling : State :=
  { State.reset with
    tenants := [(0, { (default : Tenant) with base := 60, size := 0x200000, state := 2 })]
    od := [(odKey 0x5900 1, 4096), (odKey 0x5900 2, 1)]
    med := { State.reset.med with mem := [(64, 1)] } }

theorem addAtBase_op : descOp addAtBase = 2 := by decide +kernel

theorem straddling_window : straddling.windowAtIndex (0 : Fin 256).val (0 : Fin 64).val = some 64 := by decide +kernel

theorem straddling_target : (straddling.tenantAt (0 : Fin 256).val).base.toNat + bits addAtBase 63 16 = 60 := by decide +kernel

theorem straddling_passes : straddling.descCheck (0 : Fin 256).val addAtBase = none := by decide +kernel

theorem straddling_open {line : Nat} (h : line ∈ [0, 64]) : straddling.open_ line := by
  have hb : ∀ l ∈ [0, 64], straddling.fatalAt (l * 64) = false ∧ straddling.recordOf l = none ∧ straddling.pageLocked (pageOf (l * 64)) = false := by
    decide +kernel
  exact hb line h

theorem straddling_parityElsewhere (line : Nat) : straddling.parityElsewhere line := by
  have hr : straddling.ringClass = 0 := by decide +kernel
  refine .inr fun x hx => absurd hx ?_
  simp [State.parityHolders, hr]

theorem straddling_intact : straddling.intact 0 := by
  have hs : straddling.fatalAt (0 * 64) = false ∧ straddling.isPoison 0 = false ∧ ∀ w ∈ straddling.lineWords 0, straddling.decodeWord w [] = .data [] := by
    decide +kernel
  exact ⟨hs, rfl⟩

theorem straddling_ownKey : straddling.ownKey 0 := fun _ _ => .inl rfl

theorem straddling_notHdmDb : straddling.isHdmDb 60 = false := by decide +kernel

/-- The four bytes of line 0 that the target begins with are 0. -/
theorem straddling_old : leNat (((straddling.lineBytes (60 / 64)).drop (60 % 64)).take (descSize addAtBase)) = 0 := by decide +kernel

/-- The descriptor that the statement expects back has byte 48, the fifth of RESULT, 0. -/
theorem addAtBase_result : (withResult addAtBase (atomicResult addAtBase 0).2 0).getD 48 0 = 0 := by decide +kernel

/-- The machine writes the fifth byte of the target there, which is the first of line 1. -/
theorem straddling_answer :
    Mem.get (Res.stateOr (exec (.fetchAdd (.other 0) 0 0 addAtBase) straddling) straddling).med.mem (64 * 64 + 48) = 1 := by
  decide +kernel

/-- Refutes O17: nothing in it says that the partition's base is aligned, as R28 wants it to be; so a target that is aligned to its size within the partition
can straddle two lines, and its old value is not what the first of them holds. -/
theorem not_atomicsInAWindow : ¬ Obligations.AtomicsInAWindow := by
  unfold Obligations.AtomicsInAWindow
  rintro ⟨h, -, -⟩
  have hc := h straddling (.other 0) 0 0 addAtBase 64 (.fetchAdd (.other 0) 0 0 addAtBase) (by simp [addAtBase_op]) straddling_window rfl rfl rfl rfl
    (by simp) (straddling_open (by decide)) (straddling_parityElsewhere 64)
  dsimp only at hc
  rw [straddling_target] at hc
  obtain ⟨-, hpass⟩ := hc
  obtain ⟨hfar, -⟩ := hpass straddling_passes (by decide) straddling_intact straddling_ownKey (straddling_open (by decide))
  obtain ⟨u, hu, ⟨hw, -, -⟩, -⟩ := hfar straddling_notHdmDb (by decide)
  have hb := hw 48 (by decide)
  rw [straddling_old, addAtBase_result] at hb
  have ha := straddling_answer
  rw [hu] at ha
  exact absurd (hb.symm.trans ha) (by decide)
end Machine
end Sys2Proof

namespace Sys2Proof
namespace Machine

/-! The high mark of the home queue (OD 0x5800:13), which a request raises as it comes, is no part of where a line and its parity lie, of the
window and publish lines, or of whether a line is open to a write. -/

section
variable (s : State) (v : Nat)

theorem State.par_setPeak {i j : Nat} (h : odKey i j ≠ odKey 0x5800 13) : (s.setPar 0x5800 13 v).par i j = s.par i j :=
  State.par_setPar_other s v h

theorem State.channelExtents_setPeak : (s.setPar 0x5800 13 v).channelExtents = s.channelExtents := by
  funext c
  unfold State.channelExtents
  rw [s.par_setPeak v (by unfold odKey; omega), s.par_setPeak v (by unfold odKey; omega)]

theorem State.armourExtents_setPeak {tier : Nat} (ht : tier < 2) : (s.setPar 0x5800 13 v).armourExtents tier = s.armourExtents tier := by
  have h : Tab.find? (s.setPar 0x5800 13 v).od (odKey 0x3020 (tier + 1)) = Tab.find? s.od (odKey 0x3020 (tier + 1)) :=
    Tab.find_set_other s.od v (k := odKey 0x5800 13) (by unfold odKey; omega)
  unfold State.armourExtents State.ddrExtents
  rw [h, s.channelExtents_setPeak]
  rfl

theorem State.coord_setPeak : (s.setPar 0x5800 13 v).coord = s.coord := by
  have he : (s.setPar 0x5800 13 v).epoch = s.epoch := congrArg (· % 2) (s.par_setPeak v (by decide))
  have hr : (s.setPar 0x5800 13 v).route s.epoch = s.route s.epoch := by
    have hlt : s.epoch < 2 := Nat.mod_lt _ (by decide)
    funext c
    exact congrArg (bitsAt · _ _) (s.par_setPeak v (by unfold odKey; omega))
  unfold State.coord State.routePresent
  rw [he, hr]
  rfl

theorem State.mediaExtents_setPeak (tier : Nat) : (s.setPar 0x5800 13 v).mediaExtents tier = s.mediaExtents tier := by
  unfold State.mediaExtents State.ddrExtents
  rw [s.channelExtents_setPeak]
  rfl

theorem State.levels_setPeak (tier : Nat) : (s.setPar 0x5800 13 v).levels tier = s.levels tier := by
  unfold State.levels
  rw [s.mediaExtents_setPeak]
  rfl

theorem State.ringParity_setPeak (tier : Nat) : (s.setPar 0x5800 13 v).ringParity tier = s.ringParity tier := by
  unfold State.ringParity
  rw [s.levels_setPeak]
  rfl

theorem State.reserved_setPeak {tier : Nat} (ht : tier < 2) : (s.setPar 0x5800 13 v).reserved tier = s.reserved tier := by
  unfold State.reserved State.leftover
  rw [s.ringParity_setPeak, s.mediaExtents_setPeak, s.armourExtents_setPeak v ht]
  rfl

theorem State.usable_setPeak {tier : Nat} (ht : tier < 2) : (s.setPar 0x5800 13 v).usable tier = s.usable tier := by
  unfold State.usable
  rw [s.mediaExtents_setPeak, s.reserved_setPeak v ht]

theorem State.isSpare_setPeak : (s.setPar 0x5800 13 v).isSpare = s.isSpare := by
  unfold State.isSpare
  rw [s.coord_setPeak]
  rfl

theorem State.entryAt_setPeak (dpa : Nat) : (s.setPar 0x5800 13 v).entryAt dpa = s.entryAt dpa := by
  have hd (e : Nat) : (s.setPar 0x5800 13 v).defaultEntry e = s.defaultEntry e := by
    unfold State.defaultEntry State.freeBlocks
    simp only [State.isSpare_setPeak, s.usable_setPeak v Nat.two_pos, s.usable_setPeak v Nat.one_lt_two, s.reserved_setPeak v Nat.two_pos,
      s.reserved_setPeak v Nat.one_lt_two, State.channelExtents_setPeak]
    rfl
  unfold State.entryAt State.tierEntry
  rw [s.isSpare_setPeak, hd]
  rfl

theorem State.fatalAt_setPeak (dpa : Nat) : (s.setPar 0x5800 13 v).fatalAt dpa = s.fatalAt dpa := by
  unfold State.fatalAt State.sliceOf State.locate
  rw [s.entryAt_setPeak]
  rfl

theorem State.recordOf_setPeak (line : Nat) : (s.setPar 0x5800 13 v).recordOf line = s.recordOf line := by
  have hp (r : Nat) {j : Nat} (hj : j < 8) : (s.setPar 0x5800 13 v).par (0x5A00 + r) j = s.par (0x5A00 + r) j :=
    s.par_setPeak v (by unfold odKey; omega)
  unfold State.recordOf
  simp only [hp _ (show 1 < 8 by decide), hp _ (show 5 < 8 by decide)]
  rfl

theorem State.windowLine_setPeak (line : Nat) : (s.setPar 0x5800 13 v).windowLine line = s.windowLine line := by
  have hp (t : Nat) {j : Nat} (hj : j < 8) : (s.setPar 0x5800 13 v).par (0x5900 + t) j = s.par (0x5900 + t) j :=
    s.par_setPeak v (by unfold odKey; omega)
  unfold State.windowLine
  simp only [hp _ (show 1 < 8 by decide), hp _ (show 2 < 8 by decide)]
  rfl

theorem State.publishAt_setPeak (line : Nat) : (s.setPar 0x5800 13 v).publishAt line = s.publishAt line := by
  have hp (r : Nat) {j : Nat} (hj : j < 8) : (s.setPar 0x5800 13 v).par (0x5A00 + r) j = s.par (0x5A00 + r) j :=
    s.par_setPeak v (by unfold odKey; omega)
  have hf (r : Nat) : Tab.find? (s.setPar 0x5800 13 v).od (odKey (0x5A00 + r) 6) = Tab.find? s.od (odKey (0x5A00 + r) 6) :=
    State.find_setPar_other s v (by unfold odKey; omega)
  unfold State.publishAt
  simp only [hp _ (show 1 < 8 by decide), hp _ (show 6 < 8 by decide), hf]
  rfl

theorem State.parityHolders_setPeak (dpa : Nat) : (s.setPar 0x5800 13 v).parityHolders dpa = s.parityHolders dpa := by
  have hm : (s.setPar 0x5800 13 v).mediaRank = s.mediaRank := by
    unfold State.mediaRank
    rw [s.channelExtents_setPeak]
  have ht : (s.mediaRank (s.entryAt dpa)).1 < 2 := by
    unfold State.mediaRank
    split
    · exact Nat.one_lt_two
    · exact Nat.two_pos
  have hx (l : Nat) : (s.setPar 0x5800 13 v).parityExtentDpa (s.mediaRank (s.entryAt dpa)).1 l =
      s.parityExtentDpa (s.mediaRank (s.entryAt dpa)).1 l := by
    unfold State.parityExtentDpa
    rw [s.mediaExtents_setPeak, s.ringParity_setPeak, s.usable_setPeak v ht, s.usable_setPeak v Nat.two_pos, s.usable_setPeak v Nat.one_lt_two,
      s.reserved_setPeak v Nat.two_pos]
  unfold State.parityHolders
  simp only [State.entryAt_setPeak, State.levels_setPeak, State.coord_setPeak, hm, hx]
  rfl

/-- The home queue's high mark is no part of what a store rests on. -/
theorem State.open_setPeak (line : Nat) : (s.setPar 0x5800 13 v).open_ line ↔ s.open_ line := by
  unfold State.open_
  rw [s.fatalAt_setPeak, s.recordOf_setPeak]
  rfl

theorem State.parityElsewhere_setPeak (line : Nat) : (s.setPar 0x5800 13 v).parityElsewhere line ↔ s.parityElsewhere line := by
  unfold State.parityElsewhere
  rw [s.parityHolders_setPeak, s.coord_setPeak]
  rfl

end
end Machine
end Sys2Proof

namespace Sys2Proof
namespace Machine

/-! The home agent's own state and the host ports under a read and a store (11): what a line's read or store does, on its way through slices,
parity, the ring and the fault log, rests neither on them nor on what the chip has sent, and changes neither the state nor the ports. -/

/-- The state with another home agent and other host ports, and with `os` sent before all else. -/
def State.withHome (s : State) (c : CohState) (ps : Tab Port) (os : List Out) : State :=
  { s with coh := c, host := { s.host with ports := ps }, out := s.out ++ os }

section
variable (s : State) (c : CohState) (ps : Tab Port) (os : List Out)

@[simp] theorem State.withHome_med : (s.withHome c ps os).med = s.med := (rfl)
theorem State.withHome_sameRing : SameRing s (s.withHome c ps os) := ⟨rfl, rfl, rfl, rfl, fun _ _ _ _ => rfl⟩

/-! Where a line lies. -/

@[simp] theorem State.entryAt_withHome (dpa : Nat) : (s.withHome c ps os).entryAt dpa = s.entryAt dpa := (s.withHome_sameRing c ps os).entryAt dpa
@[simp] theorem State.coord_withHome : (s.withHome c ps os).coord = s.coord := (s.withHome_sameRing c ps os).coord
@[simp] theorem State.epoch_withHome : (s.withHome c ps os).epoch = s.epoch := (s.withHome_sameRing c ps os).epoch

@[simp] theorem State.parityHolders_withHome (dpa : Nat) : (s.withHome c ps os).parityHolders dpa = s.parityHolders dpa :=
  (s.withHome_sameRing c ps os).parityHolders dpa

@[simp] theorem State.locate_withHome (dpa : Nat) : (s.withHome c ps os).locate dpa = s.locate dpa := (s.withHome_sameRing c ps os).locate dpa
@[simp] theorem State.sliceOf_withHome (dpa : Nat) : (s.withHome c ps os).sliceOf dpa = s.sliceOf dpa := (s.withHome_sameRing c ps os).sliceOf dpa

@[simp] theorem State.tierEntry_withHome (e : Nat) : (s.withHome c ps os).tierEntry e = s.tierEntry e := by
  have h := s.withHome_sameRing c ps os
  unfold State.tierEntry
  rw [h.tier, h.isSpare, h.defaultEntry]

@[simp] theorem State.onHbm_withHome (dpa : Nat) : (s.withHome c ps os).onHbm dpa = s.onHbm dpa := by
  simp [State.onHbm]

@[simp] theorem State.wordBytes_withHome (dpa : Nat) : (s.withHome c ps os).wordBytes dpa = s.wordBytes dpa := by
  simp [State.wordBytes]

@[simp] theorem State.wordBase_withHome (dpa : Nat) : (s.withHome c ps os).wordBase dpa = s.wordBase dpa := by
  simp [State.wordBase]

@[simp] theorem State.lineWords_withHome (line : Nat) : (s.withHome c ps os).lineWords line = s.lineWords line := by
  simp [State.lineWords]

@[simp] theorem State.pageWords_withHome (pg : Nat) : (s.withHome c ps os).pageWords pg = s.pageWords pg := by
  simp [State.pageWords]

@[simp] theorem State.fatalAt_withHome (dpa : Nat) : (s.withHome c ps os).fatalAt dpa = s.fatalAt dpa := by
  unfold State.fatalAt
  rw [State.sliceOf_withHome]
  rfl

@[simp] theorem State.storedErrors_withHome (dpa : Nat) : (s.withHome c ps os).storedErrors dpa = s.storedErrors dpa := by
  simp [State.storedErrors]

@[simp] theorem State.keyOf_withHome (dpa : Nat) : (s.withHome c ps os).keyOf dpa = s.keyOf dpa := by
  unfold State.keyOf
  rw [State.entryAt_withHome, (s.withHome_sameRing c ps os).mediaRank]
  rfl

@[simp] theorem State.armourBytes_withHome (dpa : Nat) : (s.withHome c ps os).armourBytes dpa = s.armourBytes dpa := by
  simp [State.armourBytes]

@[simp] theorem State.armoured_withHome (dpa : Nat) : (s.withHome c ps os).armoured dpa = s.armoured dpa := by
  simp [State.armoured]

@[simp] theorem State.loadHalf_withHome (half : Nat) : (s.withHome c ps os).loadHalf half = s.loadHalf half := by
  simp only [State.loadHalf, State.keyOf_withHome]
  rfl

@[simp] theorem State.loadLine_withHome (line : Nat) : (s.withHome c ps os).loadLine line = s.loadLine line := by
  simp [State.loadLine]

@[simp] theorem State.clearErrors_withHome (line : Nat) : (s.withHome c ps os).clearErrors line = (s.clearErrors line).withHome c ps os := by
  unfold State.clearErrors
  rw [State.lineWords_withHome]
  rfl

@[simp] theorem State.defaultBlocks_withHome : (s.withHome c ps os).defaultBlocks = s.defaultBlocks := by
  have h := s.withHome_sameRing c ps os
  simp only [State.defaultBlocks, h.ringClass, h.usable Nat.two_pos, h.usable Nat.one_lt_two, h.defaultEntry]
  rfl

@[simp] theorem State.armourBlock_withHome (e : Nat) : (s.withHome c ps os).armourBlock e = s.armourBlock e := by
  simp only [State.armourBlock, State.defaultBlocks_withHome]
  rfl

/-! What the store of a line reads besides. -/

@[simp] theorem State.finishTag_withHome (k cls bytes : Nat) : (s.withHome c ps os).finishTag k cls bytes = s.finishTag k cls bytes := (rfl)
@[simp] theorem State.isPoison_withHome (line : Nat) : (s.withHome c ps os).isPoison line = s.isPoison line := (rfl)
@[simp] theorem State.flipArmed_withHome (hbm : Bool) : (s.withHome c ps os).flipArmed hbm = s.flipArmed hbm := (rfl)
@[simp] theorem State.owner_withHome (dpa : Nat) : (s.withHome c ps os).owner dpa = s.owner dpa := (rfl)
@[simp] theorem State.ownerClass_withHome (dpa : Nat) : (s.withHome c ps os).ownerClass dpa = s.ownerClass dpa := (rfl)
@[simp] theorem State.storedBytes_withHome (line : Nat) : (s.withHome c ps os).storedBytes line = s.storedBytes line := (rfl)
@[simp] theorem State.wayOf_withHome (line : Nat) : (s.withHome c ps os).wayOf line = s.wayOf line := (rfl)
@[simp] theorem State.pageLocked_withHome (pg : Nat) : (s.withHome c ps os).pageLocked pg = s.pageLocked pg := (rfl)
@[simp] theorem State.mergeEntry_withHome (line : Nat) : (s.withHome c ps os).mergeEntry line = s.mergeEntry line := (rfl)
@[simp] theorem State.storedPage_withHome (pg : Nat) : (s.withHome c ps os).storedPage pg = s.storedPage pg := (rfl)
@[simp] theorem State.recordOf_withHome (line : Nat) : (s.withHome c ps os).recordOf line = s.recordOf line := (rfl)
@[simp] theorem State.glazeHeader_withHome (line : Nat) : (s.withHome c ps os).glazeHeader line = s.glazeHeader line := (rfl)
@[simp] theorem State.par_withHome (i k : Nat) : (s.withHome c ps os).par i k = s.par i k := (rfl)
@[simp] theorem State.now_withHome : (s.withHome c ps os).now = s.now := (rfl)
@[simp] theorem State.isX8_withHome (k : Nat) : (s.withHome c ps os).isX8 k = s.isX8 k := (rfl)
@[simp] theorem State.slotTenths_withHome (k : Nat) : (s.withHome c ps os).slotTenths k = s.slotTenths k := (rfl)
@[simp] theorem State.ranksLog2_withHome (k : Nat) : (s.withHome c ps os).ranksLog2 k = s.ranksLog2 k := (rfl)

@[simp] theorem State.bankRow_withHome (dpa : Nat) : (s.withHome c ps os).bankRow dpa = s.bankRow dpa := by
  simp [State.bankRow]

@[simp] theorem State.eccMode_withHome (dpa : Nat) : (s.withHome c ps os).eccMode dpa = s.eccMode dpa := by
  simp [State.eccMode]

@[simp] theorem State.decodeWord_withHome (dpa : Nat) (err : SymErrors) : (s.withHome c ps os).decodeWord dpa err = s.decodeWord dpa err := by
  simp [State.decodeWord]

@[simp] theorem State.ceUnitOf_withHome (dpa sym : Nat) : (s.withHome c ps os).ceUnitOf dpa sym = s.ceUnitOf dpa sym := by
  simp [State.ceUnitOf]

@[simp] theorem State.syndromeOf_withHome (dpa : Nat) (err : SymErrors) : (s.withHome c ps os).syndromeOf dpa err = s.syndromeOf dpa err := by
  simp [State.syndromeOf]

@[simp] theorem State.unitDpa_withHome (t u o : Nat) : (s.withHome c ps os).unitDpa t u o = s.unitDpa t u o := (rfl)

@[simp] theorem State.parityDpa_withHome (pg : Nat) : (s.withHome c ps os).parityDpa pg = s.parityDpa pg := by
  simp [State.parityDpa]

@[simp] theorem State.parityLines_withHome (pg : Nat) : (s.withHome c ps os).parityLines pg = s.parityLines pg := by
  simp [State.parityLines]

@[simp] theorem State.parityOwners_withHome (line : Nat) : (s.withHome c ps os).parityOwners line = s.parityOwners line := by
  simp [State.parityOwners]

@[simp] theorem State.parityLine_withHome (line : Nat) : (s.withHome c ps os).parityLine line = s.parityLine line := (rfl)

@[simp] theorem State.storedParity_withHome (pg : Nat) : (s.withHome c ps os).storedParity pg = s.storedParity pg := by
  simp [State.storedParity]

@[simp] theorem State.readParity_withHome (pg : Nat) (errs : List (Nat × BitVec 16)) (a : PageRead) :
    (s.withHome c ps os).readParity pg errs a = s.readParity pg errs a := by
  simp [State.readParity]

@[simp] theorem State.readPage_withHome (pg : Nat) (errs : List (Nat × BitVec 16)) : (s.withHome c ps os).readPage pg errs = s.readPage pg errs := by
  simp [State.readPage]

@[simp] theorem State.pagePass_withHome (pg : Nat) (errs : List (Nat × BitVec 16)) : (s.withHome c ps os).pagePass pg errs = s.pagePass pg errs := by
  simp [State.pagePass]

@[simp] theorem State.pageSlots_withHome (pg : Nat) (parity : Bool) : (s.withHome c ps os).pageSlots pg parity = s.pageSlots pg parity := by
  have h : (s.withHome c ps os).sliceOf = s.sliceOf := funext fun dpa => s.sliceOf_withHome c ps os dpa
  simp only [State.pageSlots, h, State.pageWords_withHome, State.wordBytes_withHome, State.parityLines_withHome, State.slotTenths_withHome,
    State.withHome_med]

/-! ### What a store does -/

@[simp] theorem State.setMed_withHome (m : MediaState) :
    ({ s.withHome c ps os with med := m } : State) = ({ s with med := m } : State).withHome c ps os := (rfl)
theorem State.setFlt_withHome (m : FaultState) : ({ s.withHome c ps os with flt := m } : State) = ({ s with flt := m } : State).withHome c ps os :=
    (rfl)
theorem State.setPool_withHome (m : PoolState) :
    ({ s.withHome c ps os with pool := m } : State) = ({ s with pool := m } : State).withHome c ps os := (rfl)
@[simp] theorem State.setPar_withHome (i k v : Nat) : (s.withHome c ps os).setPar i k v = (s.setPar i k v).withHome c ps os := (rfl)
@[simp] theorem State.bump_withHome (w i k n : Nat) : (s.withHome c ps os).bump w i k n = (s.bump w i k n).withHome c ps os := (rfl)
@[simp] theorem State.emit_withHome (o : Out) : (s.withHome c ps os).emit o = (s.emit o).withHome c ps os := (rfl)
@[simp] theorem State.light_withHome (i n : Nat) : (s.withHome c ps os).light i n = (s.light i n).withHome c ps os := (rfl)

@[simp] theorem State.modSlice_withHome (k : Nat) (f : Slice → Slice) :
    (s.withHome c ps os).modSlice k f = (s.modSlice k f).withHome c ps os := (rfl)

@[simp] theorem State.modLink_withHome (k : Nat) (f : Link → Link) : (s.withHome c ps os).modLink k f = (s.modLink k f).withHome c ps os := (rfl)

@[simp] theorem State.modGlaze_withHome (k : Nat) (f : Glaze → Glaze) :
    (s.withHome c ps os).modGlaze k f = (s.modGlaze k f).withHome c ps os := (rfl)

@[simp] theorem State.tagLine_withHome (line k : Nat) : (s.withHome c ps os).tagLine line k = (s.tagLine line k).withHome c ps os := (rfl)
@[simp] theorem State.dropMerge_withHome (line : Nat) : (s.withHome c ps os).dropMerge line = (s.dropMerge line).withHome c ps os := (rfl)
@[simp] theorem State.markDirty_withHome (dpa : Nat) : (s.withHome c ps os).markDirty dpa = (s.markDirty dpa).withHome c ps os := (rfl)

@[simp] theorem State.holdWrite_withHome (line : Nat) (d : List (BitVec 8)) (mask : BitVec 64) (req : Nat) :
    (s.withHome c ps os).holdWrite line d mask req = (s.holdWrite line d mask req).withHome c ps os := (rfl)

@[simp] theorem ite_withHome (P : Prop) [Decidable P] (a b : State) :
    (if P then a.withHome c ps os else b.withHome c ps os) = (if P then a else b).withHome c ps os := by split <;> rfl

theorem foldl_withHome {α : Type} {f : State → α → State} (h : ∀ s x, f (s.withHome c ps os) x = (f s x).withHome c ps os) (l : List α) :
    l.foldl f (s.withHome c ps os) = (l.foldl f s).withHome c ps os := by
  induction l generalizing s with
  | nil => rfl
  | cons x l ih => rw [List.foldl_cons, h, ih, List.foldl_cons]

@[simp] theorem State.enqueueBe_withHome (cls port : Nat) (write : Bool) (bytes dpa : Nat) (work : BeWork) :
    (s.withHome c ps os).enqueueBe cls port write bytes dpa work = (s.enqueueBe cls port write bytes dpa work).withHome c ps os := by
  simp only [State.enqueueBe, State.sliceOf_withHome, State.bankRow_withHome, State.finishTag_withHome, State.now_withHome, State.modSlice_withHome]
  rfl

@[simp] theorem State.countUe_withHome (dpa : Nat) : (s.withHome c ps os).countUe dpa = (s.countUe dpa).withHome c ps os := by
  simp only [State.countUe, State.onHbm_withHome, State.bump_withHome]

@[simp] theorem State.peak_withHome (i k v : Nat) : (s.withHome c ps os).peak i k v = (s.peak i k v).withHome c ps os := by
  simp only [State.peak, State.setPar_withHome, State.par_withHome, ite_withHome]

theorem State.withHome_flt : (s.withHome c ps os).flt = s.flt := (rfl)
theorem State.withHome_pool : (s.withHome c ps os).pool = s.pool := (rfl)

@[simp] theorem State.enqueue_withHome (r : FaultRec) : (s.withHome c ps os).enqueue r = (s.enqueue r).withHome c ps os := by
  simp only [State.enqueue, ↓State.setFlt_withHome, State.withHome_flt, State.bump_withHome, ite_withHome]

@[simp] theorem State.submit_withHome (r : FaultRec) : (s.withHome c ps os).submit r = (s.submit r).withHome c ps os := by
  simp only [State.submit, ↓State.setFlt_withHome, State.withHome_flt, State.bump_withHome, State.enqueue_withHome, ite_withHome]
  cases s.flt.windows.findIdx? (fun w => FaultRec.sameKey w.first r) <;> rfl

@[simp] theorem State.report_withHome (k : FKind) (unit subject : Nat) (fields : List (Nat × Nat)) :
    (s.withHome c ps os).report k unit subject fields = (s.report k unit subject fields).withHome c ps os := State.submit_withHome ..

@[simp] theorem State.reportTenant_withHome (k : FKind) (t : Option Nat) (subject : Nat) (fields : List (Nat × Nat)) :
    (s.withHome c ps os).reportTenant k t subject fields = (s.reportTenant k t subject fields).withHome c ps os := State.submit_withHome ..

theorem State.withHome_sliceAt (k : Nat) : (s.withHome c ps os).sliceAt k = s.sliceAt k := (rfl)

@[simp] theorem State.dropScrubs_withHome (line : Nat) : (s.withHome c ps os).dropScrubs line = (s.dropScrubs line).withHome c ps os := by
  simp only [State.dropScrubs, State.sliceOf_withHome, State.withHome_sliceAt, State.modSlice_withHome, ite_withHome]

@[simp] theorem State.applyFlip_withHome (w : Nat) : (s.withHome c ps os).applyFlip w = (s.applyFlip w).withHome c ps os := by
  simp only [State.applyFlip, ↓State.setMed_withHome, State.withHome_med, State.onHbm_withHome, State.flipArmed_withHome, State.par_withHome,
    State.setPar_withHome, State.bump_withHome, ite_withHome]

@[simp] theorem foldl_applyFlip_withHome (l : List Nat) :
    l.foldl State.applyFlip (s.withHome c ps os) = (l.foldl State.applyFlip s).withHome c ps os :=
  foldl_withHome s c ps os (fun u w => u.applyFlip_withHome c ps os w) l

/-! The ring. -/

@[simp] theorem State.linkAt_withHome (p : Nat) : (s.withHome c ps os).linkAt p = s.linkAt p := (rfl)

@[simp] theorem State.pumpN_withHome (n p : Nat) : State.pumpN n p (s.withHome c ps os) = (State.pumpN n p s).withHome c ps os := by
  induction n generalizing s with
  | zero => rfl
  | succ n ih =>
    simp only [State.pumpN, State.linkAt_withHome, State.modLink_withHome]
    rcases (s.linkAt p).outq with _ | ⟨⟨b, d, _ | ⟨q, vc⟩⟩, rest⟩
    · rfl
    · simp only [State.light_withHome, State.emit_withHome, ih, ite_withHome]
    · simp only [State.light_withHome, State.emit_withHome, ih, ite_withHome]

@[simp] theorem State.sendOn_withHome (p : Nat) (h : PktHdr) (d : List (BitVec 8)) (q : Option (Nat × Nat)) :
    (s.withHome c ps os).sendOn p h d q = (s.sendOn p h d q).withHome c ps os := by
  simp only [State.sendOn, State.pump, State.modLink_withHome, State.linkAt_withHome, State.pumpN_withHome]

theorem State.forward_withHome (h : PktHdr) (d : List (BitVec 8)) (p : Option Nat) :
    (s.withHome c ps os).forward h d p = (s.forward h d p).map (·.withHome c ps os) := by
  have hd : (s.withHome c ps os).destPos h = s.destPos h := (rfl)
  have hp (pos : Nat) : (s.withHome c ps os).portTo pos = s.portTo pos := (rfl)
  unfold State.forward
  rw [hd]
  cases s.destPos h with
  | none => rfl
  | some pos =>
    dsimp only
    rw [hp]
    cases s.portTo pos with
    | none => rfl
    | some q => exact congrArg some (State.sendOn_withHome ..)

theorem State.inject_withHome (h : PktHdr) (d : List (BitVec 8)) :
    (s.withHome c ps os).inject h d = (s.inject h d).map (·.withHome c ps os) := State.forward_withHome ..

@[simp] theorem State.takeFree_withHome (w : Nat) :
    State.takeFree w (s.withHome c ps os) = ((State.takeFree w s).1, (State.takeFree w s).2.withHome c ps os) := (rfl)

@[simp] theorem State.takeBytes_withHome (n : Nat) :
    State.takeBytes n (s.withHome c ps os) = ((State.takeBytes n s).1, (State.takeBytes n s).2.withHome c ps os) := by
  induction n generalizing s with
  | zero => rfl
  | succ n ih => simp only [State.takeBytes, State.takeFree_withHome, ih]

@[simp] theorem State.storeStored_withHome (line : Nat) (d : List (BitVec 8)) :
    (s.withHome c ps os).storeStored line d = (s.storeStored line d).withHome c ps os := by
  simp [State.storeStored]

@[simp] theorem State.applyDelta_withHome (dpa : Nat) (d : List (BitVec 8)) (poison : Bool) :
    (s.withHome c ps os).applyDelta dpa d poison = (s.applyDelta dpa d poison).withHome c ps os := by
  simp [State.applyDelta]

@[simp] theorem State.sendDeltas_withHome (dpa : Nat) (d : List (BitVec 8)) (poison : Bool) :
    (s.withHome c ps os).sendDeltas dpa d poison = (s.sendDeltas dpa d poison).withHome c ps os := by
  unfold State.sendDeltas
  rw [State.withHome_pool, State.parityHolders_withHome, ← ite_withHome]
  refine congrArg (ite _ _) (foldl_withHome s c ps os (fun u h => ?_) _)
  have hi (t : State) (q : PktHdr) (b : List (BitVec 8)) :
      ((t.withHome c ps os).inject q b).getD (t.withHome c ps os) = ((t.inject q b).getD t).withHome c ps os := by
    rw [State.inject_withHome]
    cases t.inject q b <;> rfl
  simp only [State.applyDelta_withHome, State.coord_withHome, State.epoch_withHome, State.withHome_pool, ↓State.setPool_withHome, hi, ite_withHome]
  rfl

@[simp] theorem State.writeParity_withHome (line : Nat) (d : BitVec 512) :
    (s.withHome c ps os).writeParity line d = (s.writeParity line d).withHome c ps os := by
  simp only [State.writeParity, ↓State.setMed_withHome, State.withHome_med, State.fatalAt_withHome, State.clearErrors_withHome,
    State.lineWords_withHome, foldl_applyFlip_withHome, ite_withHome]

@[simp] theorem State.parityLost_withHome (line way : Nat) : (s.withHome c ps os).parityLost line way = (s.parityLost line way).withHome c ps os := by
  simp only [State.parityLost, ↓State.setMed_withHome, State.withHome_med, State.parityOwners_withHome, State.parityLines_withHome,
    State.bump_withHome, State.report_withHome]
  exact foldl_withHome _ c ps os (fun u p => u.enqueueBe_withHome c ps os ..) _

@[simp] theorem State.evictParity_withHome (line : Nat) : (s.withHome c ps os).evictParity line = (s.evictParity line).withHome c ps os := by
  unfold State.evictParity
  rw [State.withHome_med]
  cases s.med.pcache.filter (fun l => l.line % 16384 = line % 16384) with
  | nil => rfl
  | cons v vs => simp

theorem State.fetchParity_withHome (line : Nat) :
    (s.withHome c ps os).fetchParity line = ((s.fetchParity line).1, (s.fetchParity line).2.withHome c ps os) := by
  unfold State.fetchParity
  rw [State.withHome_med]
  cases s.med.pcache.find? (fun l => l.line = line) with
  | some l =>
    simp only [State.wayOf_withHome, State.parityLost_withHome, State.bump_withHome]
    split <;> rfl
  | none =>
    simp only [State.bump_withHome, State.enqueueBe_withHome, State.fatalAt_withHome, State.lineWords_withHome, State.decodeWord_withHome,
      State.parityLost_withHome, State.evictParity_withHome]
    split <;> rfl

@[simp] theorem State.addParity_withHome (dpa : Nat) (d : List (BitVec 8)) :
    (s.withHome c ps os).addParity dpa d = (s.addParity dpa d).withHome c ps os := by
  simp only [State.addParity, State.fetchParity_withHome, ↓State.setMed_withHome, State.withHome_med, ite_withHome]
  rfl

@[simp] theorem State.updateParity_withHome (dpa : Nat) (d : List (BitVec 8)) (read : Bool) :
    (s.withHome c ps os).updateParity dpa d read = (s.updateParity dpa d read).withHome c ps os := by
  simp [State.updateParity]

@[simp] theorem State.poisonLine_withHome (line : Nat) : (s.withHome c ps os).poisonLine line = (s.poisonLine line).withHome c ps os := by
  simp [State.poisonLine]

@[simp] theorem State.wordLost_withHome (dpa port : Nat) (err : SymErrors) :
    (s.withHome c ps os).wordLost dpa port err = (s.wordLost dpa port err).withHome c ps os := by
  simp [State.wordLost]

@[simp] theorem State.countUnit_withHome (u : Nat × Nat × Nat) : (s.withHome c ps os).countUnit u = (s.countUnit u).withHome c ps os := by
  simp [State.countUnit]

@[simp] theorem State.countCorrected_withHome (dpa : Nat) (syms : List (Nat × Nat)) :
    (s.withHome c ps os).countCorrected dpa syms = (s.countCorrected dpa syms).withHome c ps os := by
  have hf (t : State) (us : List (Nat × Nat × Nat)) :
      us.foldl State.countUnit (t.withHome c ps os) = (us.foldl State.countUnit t).withHome c ps os :=
    foldl_withHome t c ps os (fun u x => u.countUnit_withHome c ps os x) us
  simp [State.countCorrected, hf]

@[simp] theorem State.takeEscSlots_withHome (e : Nat) (plan : Option (Nat × Nat)) (scrub : Bool) (slots : List (Nat × Nat)) :
    (s.withHome c ps os).takeEscSlots e plan scrub slots = (s.takeEscSlots e plan scrub slots).withHome c ps os :=
  foldl_withHome s c ps os (fun _ _ => (rfl)) slots

@[simp] theorem State.pageDecoded_withHome (pg word pass stall : Nat) (errs : List (Nat × BitVec 16)) :
    (s.withHome c ps os).pageDecoded pg word pass stall errs = (s.pageDecoded pg word pass stall errs).withHome c ps os := by
  simp [State.pageDecoded]

@[simp] theorem State.pageFailed_withHome (pg stall word : Nat) (errs : List (Nat × BitVec 16)) :
    (s.withHome c ps os).pageFailed pg stall word errs = (s.pageFailed pg stall word errs).withHome c ps os := by
  have hf (t : State) (ls : List Nat) : ls.foldl State.poisonLine (t.withHome c ps os) = (ls.foldl State.poisonLine t).withHome c ps os :=
    foldl_withHome t c ps os (fun u x => u.poisonLine_withHome c ps os x) ls
  simp [State.pageFailed, hf]

@[simp] theorem State.pageWritten_withHome (pg : Nat) : (s.withHome c ps os).pageWritten pg = (s.pageWritten pg).withHome c ps os := by
  simp [State.pageWritten]

@[simp] theorem State.recover_withHome (word : Nat) :
    (s.withHome c ps os).recover word = ((s.recover word).1, (s.recover word).2.withHome c ps os) := by
  simp only [State.recover, State.pageLocked_withHome, State.pagePass_withHome, State.bump_withHome, State.takeFree_withHome,
    State.pageSlots_withHome, State.takeEscSlots_withHome, State.pageDecoded_withHome, State.pageWritten_withHome, State.pageFailed_withHome]
  cases s.pagePass (pageOf word) [] <;> dsimp only <;> split <;> rfl

@[simp] theorem State.readWord_withHome (word port : Nat) (r : WordResult) :
    (s.withHome c ps os).readWord word port r = ((s.readWord word port r).1, (s.readWord word port r).2.withHome c ps os) := by
  cases r with
  | data cs => simp [State.readWord]
  | poison => rfl
  | uncorrectable =>
    simp only [State.readWord, State.countUe_withHome, State.isPoison_withHome, State.decodeWord_withHome, State.armoured_withHome,
      State.recover_withHome, State.wordLost_withHome]
    split
    · rfl
    · split
      · rfl
      · split <;> rfl

theorem foldl_pair_withHome {α β : Type} {f : β × State → α → β × State}
    (h : ∀ b s x, f (b, s.withHome c ps os) x = ((f (b, s) x).1, (f (b, s) x).2.withHome c ps os)) (l : List α) (b : β) :
    l.foldl f (b, s.withHome c ps os) = ((l.foldl f (b, s)).1, (l.foldl f (b, s)).2.withHome c ps os) := by
  induction l generalizing b s with
  | nil => rfl
  | cons x l ih => rw [List.foldl_cons, h, ih, List.foldl_cons]

@[simp] theorem State.readLine_withHome (line port : Nat) :
    (s.withHome c ps os).readLine line port = ((s.readLine line port).1, (s.readLine line port).2.withHome c ps os) := by
  unfold State.readLine
  simp only [State.decodeWord_withHome, State.fatalAt_withHome, State.isPoison_withHome, State.lineWords_withHome]
  split
  · rfl
  · rw [foldl_pair_withHome s c ps os (fun b t x => by rw [State.readWord_withHome])]
    simp only [State.loadLine_withHome, State.sliceOf_withHome, State.light_withHome, State.mergeEntry_withHome]
    split
    · rfl
    · cases State.mergeEntry _ line <;> rfl

@[simp] theorem State.storeRaw_withHome (line : Nat) (d : List (BitVec 8)) (read : Bool) :
    (s.withHome c ps os).storeRaw line d read = (s.storeRaw line d read).withHome c ps os := by
  simp [State.storeRaw]

@[simp] theorem State.armGlaze_withHome (line : Nat) : (s.withHome c ps os).armGlaze line = (s.armGlaze line).withHome c ps os := by
  unfold State.armGlaze
  refine foldl_withHome s c ps os (fun u p => ?_) s.host.glaze
  simp

@[simp] theorem State.storeLine_withHome (line : Nat) (d : List (BitVec 8)) (read : Bool) :
    (s.withHome c ps os).storeLine line d read = (s.storeLine line d read).withHome c ps os := by
  simp [State.storeLine]

end
end Machine
end Sys2Proof

namespace Sys2Proof
namespace Machine

/-! ### What waits at the home agent -/

/-- The state with other requests and atomics waiting at the home agent. -/
def State.withWaiting (s : State) (q : List HomeReq) (j : List AtomicJob) : State := { s with coh := { s.coh with queue := q, jobs := j } }

theorem State.withWaiting_eq (s : State) (q : List HomeReq) (j : List AtomicJob) :
    s.withWaiting q j = s.withHome { s.coh with queue := q, jobs := j } s.host.ports [] := by
  simp [State.withWaiting, State.withHome]

/-! What an operation that commutes with `State.withHome` keeps. -/

section
variable {f : State → State} (h : ∀ s c ps os, f (s.withHome c ps os) = (f s).withHome c ps os)
include h

/-- It keeps the home agent's state, keeps the host ports, and only adds to what the chip sends. -/
theorem commWithHome_keeps (s : State) : (f s).coh = s.coh ∧ (f s).host.ports = s.host.ports ∧ s.out ⊆ (f s).out := by
  have he : f s = (f { s with out := [] }).withHome s.coh s.host.ports s.out := h { s with out := [] } s.coh s.host.ports s.out
  rw [he]
  exact ⟨rfl, rfl, List.subset_append_right _ _⟩

theorem comm_withWaiting (s : State) (q : List HomeReq) (j : List AtomicJob) : f (s.withWaiting q j) = (f s).withWaiting q j := by
  obtain ⟨hc, hp, -⟩ := commWithHome_keeps h s
  rw [State.withWaiting_eq, State.withWaiting_eq, h, hc, hp]

end

section
variable (s : State) (q : List HomeReq) (j : List AtomicJob)

theorem State.bump_withWaiting (w i k n : Nat) : (s.withWaiting q j).bump w i k n = (s.bump w i k n).withWaiting q j := (rfl)
@[simp] theorem State.emit_withWaiting (o : Out) : (s.withWaiting q j).emit o = (s.emit o).withWaiting q j := (rfl)
@[simp] theorem State.putDir_withWaiting (line : Nat) (e : DirEntry) : (s.withWaiting q j).putDir line e = (s.putDir line e).withWaiting q j := (rfl)
@[simp] theorem State.cached_withWaiting (k line : Nat) : (s.withWaiting q j).cached k line = s.cached k line := (rfl)

@[simp] theorem ite_withWaiting (P : Prop) [Decidable P] (a b : State) :
    (if P then a.withWaiting q j else b.withWaiting q j) = (if P then a else b).withWaiting q j := by split <;> rfl

@[simp] theorem State.poisonLine_withWaiting (line : Nat) : (s.withWaiting q j).poisonLine line = (s.poisonLine line).withWaiting q j :=
  comm_withWaiting (f := fun s => s.poisonLine line) (fun s c ps os => s.poisonLine_withHome c ps os line) s q j

@[simp] theorem State.storeLine_withWaiting (line : Nat) (d : List (BitVec 8)) (read : Bool) :
    (s.withWaiting q j).storeLine line d read = (s.storeLine line d read).withWaiting q j :=
  comm_withWaiting (f := fun s => s.storeLine line d read) (fun s c ps os => s.storeLine_withHome c ps os line d read) s q j

theorem State.readLine_comm_withHome (line port : Nat) (s : State) (c : CohState) (ps : Tab Port) (os : List Out) :
    ((s.withHome c ps os).readLine line port).2 = (s.readLine line port).2.withHome c ps os := by
  rw [State.readLine_withHome]

@[simp] theorem State.readLine_withWaiting (line port : Nat) :
    (s.withWaiting q j).readLine line port = ((s.readLine line port).1, (s.readLine line port).2.withWaiting q j) := by
  have h1 : ((s.withWaiting q j).readLine line port).1 = (s.readLine line port).1 := by
    rw [State.withWaiting_eq, State.readLine_withHome]
  exact Prod.ext h1 (comm_withWaiting (f := fun s => (s.readLine line port).2) (State.readLine_comm_withHome line port) s q j)

@[simp] theorem State.modCache_withWaiting (k : Nat) (f : Tab CacheLine → Tab CacheLine) :
    (s.withWaiting q j).modCache k f = (s.modCache k f).withWaiting q j := by
  have hp : (s.withWaiting q j).physical k = s.physical k := (rfl)
  unfold State.modCache
  rw [hp]
  cases s.physical k <;> rfl

@[simp] theorem State.checkCached_withWaiting (k line : Nat) : (s.withWaiting q j).checkCached k line = (s.checkCached k line).withWaiting q j := by
  unfold State.checkCached
  rw [State.cached_withWaiting]
  cases s.cached k line with
  | none => rfl
  | some c => simp [State.bump_withWaiting]

@[simp] theorem State.evictHolder_withWaiting (a : Agent) (line : Nat) (d : Option (List (BitVec 8))) :
    (s.withWaiting q j).evictHolder a line d = (s.evictHolder a line d).withWaiting q j := by
  have ht : (s.withWaiting q j).takesData a line = s.takesData a line := (rfl)
  have hput (t : State) : (match (t.withWaiting q j).dirAt line with
      | some e => (t.withWaiting q j).putDir line (e.without a)
      | none => t.withWaiting q j) = (match t.dirAt line with
      | some e => t.putDir line (e.without a)
      | none => t).withWaiting q j := by
    rw [show (t.withWaiting q j).dirAt line = t.dirAt line from rfl]
    cases t.dirAt line <;> rfl
  unfold State.evictHolder
  cases d with
  | none => exact hput s
  | some d =>
    simp only [ht, State.storeLine_withWaiting, ite_withWaiting]
    exact hput _

@[simp] theorem State.useCached_withWaiting (k : Fin 32) (line : Nat) :
    (s.withWaiting q j).useCached k line = ((s.useCached k line).1, (s.useCached k line).2.withWaiting q j) := by
  unfold State.useCached
  simp only [State.checkCached_withWaiting, State.cached_withWaiting]
  cases (s.checkCached k.val line).cached k.val line with
  | some c => rfl
  | none => simp

@[simp] theorem State.evictVat_withWaiting (k : Fin 32) (line : Nat) : (s.withWaiting q j).evictVat k line = (s.evictVat k line).withWaiting q j := by
  unfold State.evictVat
  simp only [State.useCached_withWaiting]
  cases (s.useCached k line).1 with
  | none => rfl
  | some c => simp

@[simp] theorem State.fillVat_withWaiting (k : Fin 32) (line : Nat) (c : CacheLine) :
    (s.withWaiting q j).fillVat k line c = (s.fillVat k line c).withWaiting q j := by
  unfold State.fillVat
  extract_lets same s1 same' s1'
  have hs : s1 = s1'.withWaiting q j := by
    unfold s1 s1'
    rw [show same = same' from rfl]
    rcases same' with _ | ⟨⟨l, x⟩, rest⟩
    · rfl
    · simp
  rw [hs, State.modCache_withWaiting]

@[simp] theorem State.flushBuffer_withWaiting (line : Nat) : (s.withWaiting q j).flushBuffer line = (s.flushBuffer line).withWaiting q j := by
  unfold State.flushBuffer
  rw [show (s.withWaiting q j).coh.abuf = s.coh.abuf from rfl]
  cases s.coh.abuf.find? (fun p => p.1 = line) with
  | none => rfl
  | some p =>
    exact State.evictHolder_withWaiting { s with coh := { s.coh with abuf := s.coh.abuf.filter (fun q => q.1 ≠ line) } } q j .buffer line (some p.2)

@[simp] theorem State.fillBuffer_withWaiting (line : Nat) (d : List (BitVec 8)) :
    (s.withWaiting q j).fillBuffer line d = (s.fillBuffer line d).withWaiting q j := by
  unfold State.fillBuffer
  rw [show (s.withWaiting q j).coh.abuf = s.coh.abuf from rfl]
  cases s.coh.abuf.getLast? with
  | none => dsimp only; split <;> rfl
  | some p => simp only [State.flushBuffer_withWaiting, ite_withWaiting]; rfl

@[simp] theorem State.respond_withWaiting (r : HomeReq) (mv : MetaValue) (d : List (BitVec 8)) (poison : Bool) :
    (s.withWaiting q j).respond r mv d poison = (s.respond r mv d poison).withWaiting q j := by
  unfold State.respond
  split
  · rfl
  · cases r.who with
    | host h => cases r.kind <;> rfl
    | vat k => simp
    | buffer => simp
    | other k => simp
    | watch => rfl

/-- Serving a read neither reads nor changes what waits. -/
theorem State.serve_withWaiting {r : HomeReq} (hk : r.kind ≠ .wrF) (e : DirEntry) (vd : Option (List (BitVec 8))) :
    (s.withWaiting q j).serve r e vd = (s.serve r e vd).withWaiting q j := by
  unfold State.serve
  rw [if_pos hk, if_pos hk]
  simp only [State.readLine_withWaiting, State.putDir_withWaiting, State.respond_withWaiting]
  rfl

end
end Machine
end Sys2Proof

namespace Sys2Proof
namespace Machine

/-! ### A request that comes to an empty home queue -/

theorem State.enqueueHome_eq (s : State) (r : HomeReq) : s.enqueueHome r =
    (s.withWaiting (s.coh.queue ++ [{ r with behind := s.isBehind r }]) s.coh.jobs).peak 0x5800 13
      (Nat.min (s.coh.queue ++ [{ r with behind := s.isBehind r }]).length homePlaces) := rfl

theorem State.peak_od (s : State) (i k v : Nat) : s.peak i k v = { s with od := (s.peak i k v).od } := by
  unfold State.peak
  split <;> rfl

/-- What neither the directory, the queue nor the queue's high mark enters is unchanged by a request that waits. -/
theorem State.enqueueHome_keeps {α : Type} (g : State → α) (hw : ∀ t c ps os, g (t.withHome c ps os) = g t)
    (hp : ∀ t v, g (t.setPar 0x5800 13 v) = g t)
    (s : State) (r : HomeReq) : g (s.enqueueHome r) = g s := by
  have h (q : List HomeReq) (j : List AtomicJob) : g (s.withWaiting q j) = g s := by rw [State.withWaiting_eq, hw]
  rw [State.enqueueHome_eq, State.peak]
  split
  · rw [hp, h]
  · exact h _ _

theorem State.enqueueHome_coh (s : State) (r : HomeReq) :
    (s.enqueueHome r).coh = { s.coh with queue := s.coh.queue ++ [{ r with behind := s.isBehind r }] } := by
  rw [State.enqueueHome_eq, State.peak_od]
  rfl

theorem State.throughLine_enqueueHome (s : State) (r : HomeReq) (line : Nat) : (s.enqueueHome r).throughLine line = s.throughLine line :=
  State.enqueueHome_keeps (fun t => t.throughLine line) (fun _ _ _ _ => rfl)
    (fun t v => by simp only [State.throughLine, t.windowLine_setPeak v, t.publishAt_setPeak v]) s r

theorem State.open_enqueueHome (s : State) (r : HomeReq) (line : Nat) : (s.enqueueHome r).open_ line ↔ s.open_ line :=
  Eq.to_iff (State.enqueueHome_keeps (fun t => t.open_ line) (fun t c ps os => by rw [State.open_, State.fatalAt_withHome]; rfl)
    (fun t v => propext (t.open_setPeak v line)) s r)

theorem State.parityElsewhere_enqueueHome (s : State) (r : HomeReq) (line : Nat) :
    (s.enqueueHome r).parityElsewhere line ↔ s.parityElsewhere line :=
  Eq.to_iff (State.enqueueHome_keeps (fun t => t.parityElsewhere line)
    (fun t c ps os => by rw [State.parityElsewhere, State.parityHolders_withHome, State.coord_withHome]; rfl)
    (fun t v => propext (t.parityElsewhere_setPeak v line)) s r)

theorem State.homeRequest_live {s : State} {r : HomeReq} (h : ∀ x, r.who = .host x → s.isDead x.val = false) :
    s.homeRequest r = (s.enqueueHome r).settle := by
  have hd : (match r.who with | .host x => s.isDead x.val | _ => false) = false := by
    cases hw : r.who with
    | host x => exact h x hw
    | _ => rfl
  exact if_neg (ne_true_of_eq_false hd)

theorem State.homeRequest_dead {s : State} {r : HomeReq} {x : Fin 4096} (hw : r.who = .host x) (h : s.isDead x.val = true) :
    s.homeRequest r = s := by
  simp [State.homeRequest, hw, h]

/-- The only request of the home queue acts, and the home agent is at rest. -/
theorem State.settle_acts {s t : State} {r : HomeReq} (hq : s.coh.queue = [r]) (hj : s.coh.jobs = []) (hm : s.mayAct 0 r = true)
    (ha : s.act r = (none, t)) (htq : t.coh.queue = [r]) (htj : t.coh.jobs = []) : s.settle = t.withWaiting [] [] := by
  have hd (n : Nat) : State.drainHome (n + 1) s = State.drainHome n (t.withWaiting [] []) := by
    have hw : t.withWaiting [] [] = { t with coh := { t.coh with queue := [] } } := by
      unfold State.withWaiting
      rw [← htj]
    rw [State.drainHome, hw]
    simp [hq, hm, ha, homePlaces, htq]
  have hr : (t.withWaiting [] []).settle = t.withWaiting [] [] := State.settle_of_empty rfl rfl
  have he (n : Nat) : State.drainHome n (t.withWaiting [] []) = t.withWaiting [] [] := by
    cases n with
    | zero => rfl
    | succ n => simp [State.drainHome, State.withWaiting]
  unfold State.settle at hr ⊢
  rw [hq, hj, show 2 * ([r].length + ([] : List AtomicJob).length) = 1 + 1 from rfl, hd, he]
  simpa [he] using hr

/-- The only request of the home queue waits. -/
theorem State.settle_waits {s : State} {r : HomeReq} (hq : s.coh.queue = [r]) (hj : s.coh.jobs = []) (hm : s.mayAct 0 r = false) :
    s.settle = s := by
  have hd (n : Nat) : State.drainHome n s = s := by
    cases n with
    | zero => rfl
    | succ n =>
      rw [State.drainHome]
      simp [hq, hm, homePlaces]
  have hr (n : Nat) : State.runJobs n s = s := by
    cases n with
    | zero => rfl
    | succ n => simp [State.runJobs, hj]
  unfold State.settle
  simp only [hd, hr]

/-- A request for an open line waits, and nothing else changes (R314). -/
theorem State.homeRequest_open {s : State} {r : HomeReq} {e : DirEntry} (h : ∀ x, r.who = .host x → s.isDead x.val = false)
    (hq : s.coh.queue = []) (hj : s.coh.jobs = []) (hd : s.dirAt r.line = some e) (ho : e.isOpen = true) : s.homeRequest r = s.enqueueHome r := by
  rw [State.homeRequest_live h]
  refine State.settle_waits (r := { r with behind := s.isBehind r }) ?_ ?_ ?_
  · rw [State.enqueueHome_coh, hq]
    rfl
  · rw [State.enqueueHome_coh, hj]
  · have hd' : (s.enqueueHome r).dirAt r.line = some e := by
      unfold State.dirAt
      rw [State.enqueueHome_coh]
      exact hd
    simp [State.mayAct, State.mustWait, hd', ho]

/-! ### A request acts on its line -/

/-- A request acts on its line, whose entry is `e` (R311). -/
def State.actOn (s : State) (r : HomeReq) (e : DirEntry) : State :=
  let r := if s.throughLine r.line && r.kind = .rdO then { r with kind := .rdS } else r
  let n := s.needSnoop r e
  let q := s.vatsAct r e
  if n.1.isEmpty then
    let s1 := match e.st, e.owner with
      | .M, some (.host o) => if s.isDead o.val then q.2.poisonLine r.line else q.2
      | _, _ => q.2
    s1.serve r e q.1
  else
    (q.2.snoop r.line n.2 n.1).putDir r.line { e with
      isOpen := true, req := some r, data := none, poison := false,
      waitFor := n.1.map (fun h => Agent.host (Fin.ofNat 4096 h)) }

theorem State.act_entry {s : State} {r : HomeReq} {e : DirEntry} (hd : s.dirAt r.line = some e) (ho : e.owner ≠ some .buffer) :
    s.act r = (none, s.actOn r e) := by
  unfold State.act
  simp only [hd, if_neg ho]
  rfl

/-- R315: into an empty directory, a read for a line takes way 0 of its set. -/
theorem State.act_allocates {s : State} {r : HomeReq} (hd : s.coh.dir = []) (hc : r.kind ≠ .rdC) (hw : r.kind ≠ .wrF) :
    s.act r = (none, ({ s with coh := { s.coh with age := s.coh.age + 1 } } : State).actOn r (freshDir 0 s.coh.age)) := by
  have hn : s.dirAt r.line = none := by simp [State.dirAt, hd, Tab.find?]
  have hf : s.takeWay r.line = ((some 0, none), s) := by
    have : s.freeWay r.line = some 0 := by simp [State.freeWay, hd]
    rw [State.takeWay, this]
  unfold State.act
  simp only [hn, hf, hc, hw]
  rfl

theorem State.act_unlisted {s : State} {r : HomeReq} (hd : s.coh.dir = []) (hk : r.kind = .rdC ∨ r.kind = .wrF) :
    s.act r = (none, s.actOn r (freshDir 0 0)) := by
  have hn : s.dirAt r.line = none := by simp [State.dirAt, hd, Tab.find?]
  have hk' : (decide (r.kind = .rdC) || decide (r.kind = .wrF)) = true := by simpa using hk
  unfold State.act
  simp only [hn, hk', if_true]
  rfl

end Machine
end Sys2Proof

namespace Sys2Proof
namespace Machine

/-! ### Lines that no vat cache holds -/

theorem DirEntry.vatList_of_none {e : DirEntry} (h : e.vats = 0) : e.vatList = [] := by
  unfold DirEntry.vatList
  rw [h]
  decide

theorem State.checkCached_of_none {s : State} {k line : Nat} (h : s.cached k line = none) : s.checkCached k line = s := by
  rw [State.checkCached, h]

/-- R311: no vat cache acts on a request for a line that none holds. -/
theorem State.vatsAct_unheld {s : State} {r : HomeReq} {e : DirEntry} (hv : r.kind = .rdO ∨ r.kind = .wrF → e.vats = 0)
    (ho : ∀ k, e.owner ≠ some (.vat k)) (hc : r.kind ≠ .wrF → ∀ k, k < 32 → s.cached k r.line = none) : s.vatsAct r e = (none, s) := by
  unfold State.vatsAct
  cases hk : r.kind with
  | rdO =>
    dsimp only
    rw [DirEntry.vatList_of_none (hv (.inl hk))]
    cases r.who with
    | vat x =>
      have hx : s.cached x.val r.line = none := hc (by simp [hk]) x.val x.isLt
      simp [State.dropVats, State.checkCached_of_none hx, hx]
    | _ => rfl
  | wrF =>
    dsimp only
    rw [DirEntry.vatList_of_none (hv (.inr hk))]
    rfl
  | rdS =>
    obtain ⟨st, isOpen, owner⟩ := e
    rcases owner with _ | (k | x | - | - | x)
    · cases st <;> rfl
    · exact absurd rfl (ho k)
    all_goals cases st <;> rfl
  | rdC =>
    obtain ⟨st, isOpen, owner⟩ := e
    rcases owner with _ | (k | x | - | - | x)
    · cases st <;> rfl
    · exact absurd rfl (ho k)
    all_goals cases st <;> rfl

theorem State.needSnoop_fresh (s : State) (r : HomeReq) (w a : Nat) : (s.needSnoop r (freshDir w a)).1 = [] := by
  unfold State.needSnoop
  cases r.kind <;> simp [freshDir, State.hostHolders]

/-- R311: a request for a line that no agent holds is served at once. -/
theorem State.actOn_fresh {s : State} {r : HomeReq} (hc : r.kind ≠ .wrF → ∀ k, k < 32 → s.cached k r.line = none)
    (ht : s.throughLine r.line = false) (w a : Nat) : s.actOn r (freshDir w a) = s.serve r (freshDir w a) none := by
  have hq : s.vatsAct r (freshDir w a) = (none, s) := State.vatsAct_unheld (fun _ => rfl) (fun _ => nofun) hc
  unfold State.actOn
  simp only [ht, Bool.false_and, Bool.false_eq_true, if_false, State.needSnoop_fresh, hq]
  rfl

/-- R311: a line that another live host owns in M is snooped, and opens. -/
theorem State.actOn_owned {s : State} {r : HomeReq} {e : DirEntry} {o : Fin 4096} (ht : s.throughLine r.line = false) (hs : e.st = .M)
    (ho : e.owner = some (.host o)) (hw : r.who ≠ .host o) (hd : s.isDead o.val = false) (hv : r.kind = .rdO ∨ r.kind = .wrF → e.vats = 0)
    (hc : r.kind ≠ .wrF → ∀ k, k < 32 → s.cached k r.line = none) :
    s.actOn r e = (s.snoop r.line (r.kind = .rdO || r.kind = .wrF) [o.val]).putDir r.line
      { e with isOpen := true, req := some r, data := none, poison := false, waitFor := [.host o] } := by
  have hq : s.vatsAct r e = (none, s) := State.vatsAct_unheld hv (fun k => by simp [ho]) hc
  have hn : s.needSnoop r e = ([o.val], r.kind = .rdO || r.kind = .wrF) := by
    unfold State.needSnoop
    rw [hs, ho]
    simp [hw, hd]
  unfold State.actOn
  simp only [ht, Bool.false_and, Bool.false_eq_true, if_false, hn, hq]
  simp

end Machine
end Sys2Proof

namespace Sys2Proof
namespace Machine

/-! ### A request to an empty home queue, of a line that may be used -/

/-- A request, newly come, whose sender lives, that finds the home queue empty and its line neither open nor held. -/
structure State.Finds (s : State) (r : HomeReq) : Prop where
  queue : s.coh.queue = []
  jobs : s.coh.jobs = []
  live : ∀ x, r.who = .host x → s.isDead x.val = false
  behind : r.behind = false
  parked : r.parked = false
  closed : ∀ e, s.dirAt r.line = some e → e.isOpen = false ∧ e.hold = false

theorem State.dirAt_enqueueHome (s : State) (r : HomeReq) (line : Nat) : (s.enqueueHome r).dirAt line = s.dirAt line := by
  unfold State.dirAt
  rw [State.enqueueHome_coh]

theorem State.cached_enqueueHome (s : State) (r : HomeReq) (k line : Nat) : (s.enqueueHome r).cached k line = s.cached k line := by
  rw [State.enqueueHome_eq, State.peak_od]
  rfl

section
variable {s : State} {r : HomeReq} (h : s.Finds r)
include h

theorem State.Finds.coh_eq : (s.enqueueHome r).coh = { s.coh with queue := [r] } := by
  have hb : s.isBehind r = false := by
    unfold State.isBehind
    cases hw : r.who with
    | host x =>
      cases hd : s.dirAt r.line with
      | none => rfl
      | some e => simp [(h.closed e hd).1]
    | _ => rfl
  have hr : { r with behind := false } = r := by
    rw [← h.behind]
  rw [State.enqueueHome_coh, h.queue, hb, hr]
  rfl

theorem State.Finds.mayAct : (s.enqueueHome r).mayAct 0 r = true := by
  have hw : (s.enqueueHome r).mustWait r = false := by
    unfold State.mustWait
    rw [h.behind, State.dirAt_enqueueHome]
    cases hd : s.dirAt r.line with
    | none => rfl
    | some e => simp [h.closed e hd]
  simp [State.mayAct, hw, h.parked]

/-- What the request does to the state that holds it is what it does, the home agent at rest again. -/
theorem State.Finds.homeRequest {t : State} (ha : (s.enqueueHome r).act r = (none, t)) (hq : t.coh.queue = [r]) (hj : t.coh.jobs = []) :
    s.homeRequest r = t.withWaiting [] [] := by
  rw [State.homeRequest_live h.live]
  exact State.settle_acts (congrArg CohState.queue h.coh_eq) ((congrArg CohState.jobs h.coh_eq).trans h.jobs) h.mayAct ha hq hj

end

theorem State.serve_waiting (s : State) {r : HomeReq} (hk : r.kind ≠ .wrF) (e : DirEntry) (vd : Option (List (BitVec 8))) :
    (s.serve r e vd).coh.queue = s.coh.queue ∧ (s.serve r e vd).coh.jobs = s.coh.jobs := by
  have h := s.serve_withWaiting s.coh.queue s.coh.jobs hk e vd
  have h1 := congrArg (fun t : State => t.coh.queue) h
  have h2 := congrArg (fun t : State => t.coh.jobs) h
  exact ⟨h1, h2⟩

/-- R311, R315: a read served at once, the home queue empty behind it. -/
theorem State.Finds.homeRequest_serves {s x : State} {r : HomeReq} {e : DirEntry} (h : s.Finds r) (hk : r.kind ≠ .wrF)
    (ha : (s.enqueueHome r).act r = (none, x.serve r e none)) (hq : x.coh.queue = [r]) (hj : x.coh.jobs = []) :
    s.homeRequest r = (x.withWaiting [] []).serve r e none := by
  obtain ⟨h1, h2⟩ := x.serve_waiting hk e none
  rw [h.homeRequest ha (h1.trans hq) (h2.trans hj), State.serve_withWaiting _ _ _ hk]

theorem State.throughLine_withHome (s : State) (c : CohState) (ps : Tab Port) (os : List Out) (line : Nat) :
    (s.withHome c ps os).throughLine line = s.throughLine line :=
  rfl

theorem State.cached_withHome (s : State) (c : CohState) (ps : Tab Port) (os : List Out) (k line : Nat) :
    (s.withHome c ps os).cached k line = s.cached k line := rfl

section
variable {s : State} {r : HomeReq} (h : s.Finds r) (hd : s.coh.dir = []) (hc : ∀ k, k < 32 → s.cached k r.line = none)
  (ht : s.throughLine r.line = false)
include h hd hc ht

/-- R311, R315: a read of a line that no agent holds takes way 0 of the line's set. -/
theorem State.Finds.homeRequest_allocates (h1 : r.kind ≠ .rdC) (h2 : r.kind ≠ .wrF) : s.homeRequest r =
    ({ s.enqueueHome r with coh := { s.coh with age := s.coh.age + 1 } } : State).serve r (freshDir 0 s.coh.age) none := by
  have hX := h.coh_eq
  obtain ⟨x, hxe⟩ : ∃ x, x = (s.enqueueHome r).withHome { (s.enqueueHome r).coh with age := s.coh.age + 1 } (s.enqueueHome r).host.ports [] :=
    ⟨_, rfl⟩
  have hx : x.actOn r (freshDir 0 s.coh.age) = x.serve r (freshDir 0 s.coh.age) none := by
    refine State.actOn_fresh (fun _ i hi => ?_) ?_ 0 _
    · rw [hxe, State.cached_withHome, State.cached_enqueueHome, hc i hi]
    · rw [hxe, State.throughLine_withHome, State.throughLine_enqueueHome, ht]
  have ha : (s.enqueueHome r).act r = (none, x.actOn r (freshDir 0 s.coh.age)) := by
    rw [State.act_allocates ((congrArg CohState.dir hX).trans hd) h1 h2, congrArg CohState.age hX, hxe, State.withHome, List.append_nil]
  have hw : x.withWaiting [] [] = { s.enqueueHome r with coh := { s.coh with age := s.coh.age + 1 } } := by
    simp only [hxe, State.withHome, State.withWaiting, List.append_nil, hX, ← h.queue, ← h.jobs]
  rw [← hw]
  refine h.homeRequest_serves h2 (ha.trans (congrArg (Prod.mk none) hx)) ?_ ?_
  · rw [hxe]
    exact congrArg CohState.queue hX
  · rw [hxe]
    exact (congrArg CohState.jobs hX).trans h.jobs

/-- R311: a read of current data takes no way. -/
theorem State.Finds.homeRequest_peeks (hk : r.kind = .rdC) : s.homeRequest r =
    ({ s.enqueueHome r with coh := { (s.enqueueHome r).coh with queue := [] } } : State).serve r (freshDir 0 0) none := by
  have hX := h.coh_eq
  have hx : (s.enqueueHome r).actOn r (freshDir 0 0) = (s.enqueueHome r).serve r (freshDir 0 0) none :=
    State.actOn_fresh (fun _ i hi => (s.cached_enqueueHome r i r.line).trans (hc i hi)) ((s.throughLine_enqueueHome r r.line).trans ht) 0 0
  have ha := (State.act_unlisted ((congrArg CohState.dir hX).trans hd) (.inl hk)).trans (congrArg (Prod.mk none) hx)
  have hw : (s.enqueueHome r).withWaiting [] [] = { s.enqueueHome r with coh := { (s.enqueueHome r).coh with queue := [] } } := by
    simp only [State.withWaiting, hX, h.jobs]
  rw [← hw]
  exact h.homeRequest_serves (by simp [hk]) ha (congrArg CohState.queue hX) ((congrArg CohState.jobs hX).trans h.jobs)

end

/-- R311, R314: the line that another live host owns in M is snooped, and the request waits in its open entry. -/
theorem State.Finds.homeRequest_snoops {s : State} {r : HomeReq} {e : DirEntry} {o : Fin 4096} (h : s.Finds r) (hd : s.coh.dir = [(r.line, e)])
    (ht : s.throughLine r.line = false) (hs : e.st = .M) (ho : e.owner = some (.host o)) (hw : r.who ≠ .host o) (hl : s.isDead o.val = false)
    (hv : r.kind = .rdO ∨ r.kind = .wrF → e.vats = 0) (hc : r.kind ≠ .wrF → ∀ k, k < 32 → s.cached k r.line = none) :
    (s.homeRequest r).coh.queue = [] ∧ SameBytes s (s.homeRequest r) ∧
      (s.homeRequest r).out = .bisnp o.val r.line (r.kind = .rdO || r.kind = .wrF) :: s.out ∧
      (s.homeRequest r).dirAt r.line = some { e with isOpen := true, req := some r, data := none, poison := false, waitFor := [.host o] } := by
  have hX := h.coh_eq
  have hdir : (s.enqueueHome r).coh.dir = [(r.line, e)] := (congrArg CohState.dir hX).trans hd
  have hl' : (s.enqueueHome r).isDead o.val = false := (congrArg (fun c : CohState => c.dead.contains o.val) hX).trans hl
  have hx := State.actOn_owned ((s.throughLine_enqueueHome r r.line).trans ht) hs ho hw hl' hv
    (fun hk i hi => (s.cached_enqueueHome r i r.line).trans (hc hk i hi))
  have ha := (State.act_entry (by simp [State.dirAt, hdir, Tab.find?]) (by simp [ho])).trans (congrArg (Prod.mk none) hx)
  have hr := h.homeRequest ha (congrArg CohState.queue hX) ((congrArg CohState.jobs hX).trans h.jobs)
  rw [hr]
  have he : s.enqueueHome r = { s with coh := (s.enqueueHome r).coh, od := (s.enqueueHome r).od } := by
    rw [State.enqueueHome_eq, State.peak_od]
    rfl
  refine ⟨rfl, fun b => ?_, ?_, ?_⟩
  · rw [he]
    rfl
  · rw [he]
    rfl
  · unfold State.dirAt State.putDir
    simp [State.withWaiting]

end Machine
end Sys2Proof

namespace Sys2Proof
namespace Machine

/-! ### A read that a host is served -/

theorem State.hostPort_congr {s t : State} (h : t.host.ports = s.host.ports) (r line : Nat) : t.hostPort r line = s.hostPort r line := by
  unfold State.hostPort State.portAt
  rw [h]

theorem State.respond_host_read (s : State) {r : HomeReq} {h : Fin 4096} (hk : r.kind ≠ .wrF) (hm : r.mute = false) (hw : r.who = .host h)
    (mv : MetaValue) (d : List (BitVec 8)) (poison : Bool) : s.respond r mv d poison =
      ((s.endHost (s.hostPort h.val r.line).val h.val r.line).emit (.hostData (s.hostPort h.val r.line) h.val d poison mv)).light
        (lightTx (s.hostPort h.val r.line).val) 64 := by
  unfold State.respond
  rw [hm, hw]
  cases hr : r.kind with
  | wrF => exact absurd hr hk
  | _ => rfl

/-- R308, R311: a host whose read is served has its data, and the line its new entry. -/
theorem State.serve_host_read {s v : State} {k : ReqKind} (h : Fin 4096) {l : Nat} (e : DirEntry)
    {d : List (BitVec 8)} {poison : Bool} (hk : k ≠ .wrF)
    (hr : s.readLine l = ((d, poison), v)) :
    let t := s.serve { kind := k, who := .host h, line := l, data := [] } e none
    let f := { nextDir e k (.host h) (s.throughLine l) with hold := k = .rdO && s.orderedMode = 0 && s.par 0x5800 6 ≠ 0 }
    t.out = .hostData (v.hostPort h.val l) h.val d poison (metaOf k) :: v.out ∧ t.med = v.med ∧ t.coh = (v.putDir l f).coh := by
  intro t f
  have hp : (v.putDir l f).hostPort h.val l = v.hostPort h.val l := State.hostPort_congr rfl h.val l
  have ht : t = (v.putDir l f).respond { kind := k, who := .host h, line := l, data := [] } (metaOf k) d poison := by
    unfold t State.serve
    rw [if_pos hk]
    simp only [hr]
    rfl
  rw [ht, State.respond_host_read _ (h := h) hk rfl rfl, hp]
  exact ⟨rfl, rfl, rfl⟩

/-- A line is read as its key delivers it, or as poison, and but for a light nothing changes. -/
theorem State.readLine_quiet {s : State} {l : Nat} {poison : Bool} (hi : poison = false → s.intact l)
    (hp : poison = true → s.fatalAt (l * 64) = true ∨ s.isPoison l = true) (port : Nat) :
    ∃ v, s.readLine l port = ((if poison then List.replicate 64 0 else s.loadLine l, poison), v) ∧ v.med = s.med ∧ v.coh = s.coh ∧
      v.host = s.host ∧ v.out = s.out := by
  cases poison with
  | true => exact ⟨s, State.readLine_poison (hp rfl) port, rfl, rfl, rfl, rfl⟩
  | false => exact ⟨_, State.readLine_intact (hi rfl) port, rfl, rfl, rfl, rfl⟩

/-! The entries that a host's read leaves of a line that no agent holds (R308, R310). -/

section
variable {e : DirEntry} (hs : e.st = .I) (ho : e.owner = none)
include hs ho

theorem DirEntry.shared_unheld : e.shared = e.quiet := by
  unfold DirEntry.shared
  rw [hs, ho]

theorem DirEntry.peeked_unheld : e.peeked = e.quiet := by
  unfold DirEntry.peeked
  rw [hs, ho]

theorem nextDir_rdS_host (hh : e.hosts = []) (hc : e.coarse = none) (h : Fin 4096) (w : Bool) :
    nextDir e .rdS (.host h) w = { e.quiet with st := .S, hosts := [h.val] } := by
  unfold nextDir
  simp only [DirEntry.shared_unheld hs ho]
  simp [DirEntry.addHost, DirEntry.quiet, hc, hh, hs]

end

/-- Of an empty directory, the entry of a line that is kept is the only one. -/
theorem State.putDir_only {s : State} (hd : s.coh.dir = []) {l : Nat} {f : DirEntry} (hf : f.st ≠ .I) : (s.putDir l f).coh.dir = [(l, f)] := by
  simp [State.putDir, hf, hd, Tab.set]

theorem State.putDir_none {s : State} (hd : s.coh.dir = []) {l : Nat} {f : DirEntry} (hf : f.st = .I) (ho : f.isOpen = false) :
    (s.putDir l f).coh.dir = [] := by
  simp [State.putDir, hf, ho, hd, Tab.erase]

/-- Settles O14, by what serving the request does to the state that holds it: a read neither reads nor changes what else waits. -/
theorem coherentReadsOfAQuietLine : Obligations.CoherentReadsOfAQuietLine := by
  unfold Obligations.CoherentReadsOfAQuietLine
  refine ⟨fun s a line hd hq hj hl hc ht => ?_, fun s u h l e poison hu hd ht hs ho hh hc hop hi hp => ?_,
    fun s a o line e hd hq hj hl hc ht hs ho hop hh hw hlo => ?_, fun s a line e hd hop hq hj hl => ?_, fun s h line hd => ?_⟩
  · intro req quiet aged
    have h (k : ReqKind) : s.Finds (req k) := ⟨hq, hj, hl, rfl, rfl, fun e he => by simp [State.dirAt, hd, Tab.find?] at he⟩
    exact ⟨congrArg ok ((h .rdS).homeRequest_allocates hd hc ht nofun nofun), congrArg ok ((h .rdO).homeRequest_allocates hd hc ht nofun nofun),
      congrArg ok ((h .rdC).homeRequest_peeks hd hc ht rfl)⟩
  · intro data answered
    obtain ⟨v, hr, hvm, hvc, hvh, hvo⟩ := State.readLine_quiet hi hp 9
    have hum : u.med = s.med := by rw [hu]
    have huo : u.out = s.out := by rw [hu]
    have huh : v.hostPort h.val l = s.hostPort h.val l := State.hostPort_congr (by rw [hvh, hu]) _ _
    have hvd : v.coh.dir = [] := by rw [hvc, hu]; exact hd
    have hserve {k : ReqKind} (hk : k ≠ .wrF) {d : Tab DirEntry} (hdir : (v.putDir l
          { nextDir e k (.host h) (u.throughLine l) with hold := k = .rdO && u.orderedMode = 0 && u.par 0x5800 6 ≠ 0 }).coh.dir = d) :
        answered k (metaOf k) d := by
      obtain ⟨h1, h2, h3⟩ := State.serve_host_read h e hk hr
      refine ⟨?_, fun x => ?_, ?_, ?_⟩
      · rw [h1, huh, hvo, huo]
      · rw [h2, hvm, hum]
      · rw [h3]
        show v.coh.queue = u.coh.queue
        rw [hvc]
      · rw [h3]
        exact hdir
    have hS := nextDir_rdS_host hs ho hh hc h (u.throughLine l)
    have hC : nextDir e .rdC (.host h) (u.throughLine l) = e.quiet := DirEntry.peeked_unheld hs ho
    refine ⟨⟨_, ?_, ?_, ?_, ?_, hserve (by decide) (State.putDir_only hvd ?_)⟩,
      ⟨_, rfl, rfl, rfl, rfl, hserve (by decide) (State.putDir_only hvd nofun)⟩,
      hserve (by decide) (State.putDir_none hvd ?_ ?_)⟩
    · rw [hS]
    · rw [hS]
    · rw [hS]
      exact ho
    · rw [hS]
      rfl
    · rw [hS]
      nofun
    · rw [hC]
      exact hs
    · rw [hC]
      rfl
  · intro req opened
    have hdir : s.dirAt line.toNat = some e := by simp [State.dirAt, hd, Tab.find?]
    have h (k : ReqKind) : s.Finds (req k) := ⟨hq, hj, hl, rfl, rfl, fun f hf => by
      obtain rfl : e = f := Option.some.inj (hdir.symm.trans hf)
      exact ⟨hop, hh⟩⟩
    have hsn {k : ReqKind} (hk : k ≠ .wrF) (hv : k = .rdO → e.vats = 0) : opened k (k = .rdO || k = .wrF) (s.homeRequest (req k)) :=
      (h k).homeRequest_snoops hd ht hs ho hw hlo (fun hv' => hv (hv'.resolve_right hk)) (fun _ => hc)
    exact ⟨fun hv => ⟨_, rfl, hsn (by decide) fun _ => hv⟩, ⟨_, rfl, hsn (by decide) nofun⟩, ⟨_, rfl, hsn (by decide) nofun⟩⟩
  · intro req
    exact ⟨congrArg ok (State.homeRequest_open hl hq hj hd hop), congrArg ok (State.homeRequest_open hl hq hj hd hop),
      congrArg ok (State.homeRequest_open hl hq hj hd hop)⟩
  · exact ⟨congrArg ok (State.homeRequest_dead rfl hd), congrArg ok (State.homeRequest_dead rfl hd), congrArg ok (State.homeRequest_dead rfl hd)⟩

end Machine
end Sys2Proof

namespace Sys2Proof
namespace Machine

/-! ### Coherent writes (R310, R311, R322, R337) -/

/-- A write of a whole line reads and changes neither the home agent's state nor the host ports. -/
theorem State.storeWhole_withHome (s : State) (c : CohState) (ps : Tab Port) (os : List Out) (line : Nat) (d : List (BitVec 8)) (req : Nat) :
    (s.withHome c ps os).storeMasked line d (BitVec.allOnes 64) req = (s.storeMasked line d (BitVec.allOnes 64) req).withHome c ps os := by
  simp [State.storeMasked]

/-- R77, R134, R336: a write of a line that is not open leaves memory as it is. -/
theorem State.storeMasked_closed_mem {s : State} {line : Nat} (h : ¬ s.open_ line) (d : List (BitVec 8)) (mask : BitVec 64) (req : Nat) :
    (s.storeMasked line d mask req).med.mem = s.med.mem := by
  unfold State.storeMasked
  by_cases hr : (s.recordOf line).isSome = true
  · rw [if_pos hr]
    rfl
  by_cases hf : s.fatalAt (line * 64) = true
  · rw [if_neg hr, if_pos hf]
  by_cases hl : s.pageLocked (pageOf (line * 64)) = true
  · rw [if_neg hr, if_neg hf, if_pos hl, State.holdWrite_mem]
  exact absurd ⟨Bool.eq_false_iff.mpr hf, by simpa using hr, Bool.eq_false_iff.mpr hl⟩ h

/-- R310: a write's completion goes to a host; another sender is sent nothing. -/
theorem State.respond_write (s : State) {r : HomeReq} (hk : r.kind = .wrF) (hm : r.mute = false) (mv : MetaValue) (d : List (BitVec 8))
    (poison : Bool) :
    let t := s.respond r mv d poison
    t.med = s.med ∧ t.coh = s.coh ∧ ∀ h, r.who = .host h → t.out.head? = some (.hostCmp (s.hostPort h.val r.line) h.val) := by
  have ht : s.respond r mv d poison = match r.who with
      | .host h => (s.endHost (s.hostPort h.val r.line).val h.val r.line).emit (.hostCmp (s.hostPort h.val r.line) h.val)
      | _ => s := by
    unfold State.respond
    rw [hm]
    cases r.who with
    | _ => simp [hk]
  rw [ht]
  cases hw : r.who with
  | host h => exact ⟨rfl, rfl, fun x hx => by obtain rfl := Agent.host.inj hx; rfl⟩
  | _ => exact ⟨rfl, rfl, nofun⟩

/-- An entry in I, not open, of an empty directory leaves it empty. -/
theorem State.putDir_coh {s : State} (hd : s.coh.dir = []) {l : Nat} {f : DirEntry} (hf : f.st = .I) (ho : f.isOpen = false) :
    (s.putDir l f).coh = s.coh := by
  have he : Tab.erase s.coh.dir l = s.coh.dir := by
    rw [hd]
    rfl
  simp [State.putDir, hf, ho, he]

/-- R311: a whole line is stored, and read back, before its writer has the completion. -/
theorem State.serve_write_eq (s : State) {r : HomeReq} (e : DirEntry) (hk : r.kind = .wrF) (hp : r.poison = false) (ha : r.mask = BitVec.allOnes 64) :
    ∃ q d poison, s.serve r e none =
      (((s.storeMasked r.line r.data (BitVec.allOnes 64) q).readLine r.line).2.putDir r.line e.cleared).respond r .invalid d poison := by
  have hr : { r with kind := .wrF } = r := by rw [← hk]
  unfold State.serve
  extract_lets s0 rd data poison kind e1 e2
  obtain ⟨q, hs0⟩ : ∃ q, s0 = s.storeMasked r.line r.data (BitVec.allOnes 64) q := by
    unfold s0
    rw [if_neg (not_not_intro hk), hp, if_neg Bool.false_ne_true, ha]
    exact ⟨_, rfl⟩
  have hkind : kind = .wrF := by
    unfold kind
    split
    · simp [hk]
    · exact hk
  have he : e2 = e.cleared := by
    unfold e2 e1
    rw [hkind]
    rfl
  rw [he, hkind, hr]
  unfold rd
  rw [hs0]
  exact ⟨q, _, _, rfl⟩

section
variable (line q : Nat) (d : List (BitVec 8)) (s : State)

/-- The state after a store of a whole line, and its reading back. -/
def State.storedBack : State := ((s.storeMasked line d (BitVec.allOnes 64) q).readLine line).2

theorem State.storedBack_withHome (c : CohState) (ps : Tab Port) (os : List Out) :
    (s.withHome c ps os).storedBack line q d = (s.storedBack line q d).withHome c ps os := by
  unfold State.storedBack
  rw [State.storeWhole_withHome, State.readLine_withHome]

theorem State.storedBack_coh : (s.storedBack line q d).coh = s.coh :=
  (commWithHome_keeps (f := State.storedBack line q d) (State.storedBack_withHome line q d) s).1

theorem State.storedBack_hostPort (r l : Nat) : (s.storedBack line q d).hostPort r l = s.hostPort r l :=
  State.hostPort_congr (commWithHome_keeps (f := State.storedBack line q d) (State.storedBack_withHome line q d) s).2.1 r l

end

/-- R311: what a served write of a whole line leaves: the store, an empty directory, the completion. -/
theorem State.serve_write (s : State) {r : HomeReq} (e : DirEntry) (hk : r.kind = .wrF) (hm : r.mute = false) (hp : r.poison = false)
    (ha : r.mask = BitVec.allOnes 64) (hd : s.coh.dir = []) :
    ∃ q, (s.serve r e none).med.mem = (s.storeMasked r.line r.data (BitVec.allOnes 64) q).med.mem ∧ (s.serve r e none).coh = s.coh ∧
      ∀ h, r.who = .host h → (s.serve r e none).out.head? = some (.hostCmp (s.hostPort h.val r.line) h.val) := by
  obtain ⟨q, d, poison, hs⟩ := s.serve_write_eq e hk hp ha
  have hcoh := s.storedBack_coh r.line q r.data
  obtain ⟨h1, h2, h3⟩ := State.respond_write ((s.storedBack r.line q r.data).putDir r.line e.cleared) hk hm .invalid d poison
  rw [hs]
  refine ⟨q, ?_, ?_, fun h hw => ?_⟩
  · exact (congrArg MediaState.mem h1).trans (State.readLine_mem ..)
  · exact h2.trans ((State.putDir_coh (by rw [hcoh, hd]) rfl rfl).trans hcoh)
  · have hp := (State.hostPort_congr rfl h.val r.line).trans (s.storedBack_hostPort r.line q r.data h.val r.line)
    exact (h3 h hw).trans (congrArg (fun p => some (Out.hostCmp p h.val)) hp)

theorem State.enqueueHome_med (s : State) (r : HomeReq) : (s.enqueueHome r).med = s.med :=
  State.enqueueHome_keeps State.med (fun _ _ _ _ => rfl) (fun _ _ => rfl) s r

theorem State.enqueueHome_ports (s : State) (r : HomeReq) : (s.enqueueHome r).host.ports = s.host.ports := by
  rw [State.enqueueHome_eq, State.peak_od]
  rfl

/-- R311: a write of a line that no agent holds is served at once, the home queue empty behind it. -/
theorem State.Finds.homeRequest_writes {s : State} {r : HomeReq} (h : s.Finds r) (hd : s.coh.dir = []) (ht : s.throughLine r.line = false)
    (hk : r.kind = .wrF) (hm : r.mute = false) (hp : r.poison = false) (ha : r.mask = BitVec.allOnes 64) :
    ∃ q, (s.homeRequest r).med.mem = ((s.enqueueHome r).storeMasked r.line r.data (BitVec.allOnes 64) q).med.mem ∧
      (s.homeRequest r).coh.queue = [] ∧ (s.homeRequest r).coh.dir = [] ∧
      ∀ x, r.who = .host x → (s.homeRequest r).out.head? = some (.hostCmp (s.hostPort x.val r.line) x.val) := by
  have hX := h.coh_eq
  have hdir : (s.enqueueHome r).coh.dir = [] := (congrArg CohState.dir hX).trans hd
  have hx : (s.enqueueHome r).actOn r (freshDir 0 0) = (s.enqueueHome r).serve r (freshDir 0 0) none :=
    State.actOn_fresh (fun hw => absurd hk hw) ((s.throughLine_enqueueHome r r.line).trans ht) 0 0
  obtain ⟨q, hmem, hcoh, hout⟩ := (s.enqueueHome r).serve_write (freshDir 0 0) hk hm hp ha hdir
  have hs := h.homeRequest ((State.act_unlisted hdir (.inr hk)).trans (congrArg (Prod.mk none) hx)) (by rw [hcoh, hX])
      (by rw [hcoh, hX]; exact h.jobs)
  rw [hs]
  refine ⟨q, hmem, rfl, (congrArg CohState.dir hcoh).trans hdir, fun x hw => (hout x hw).trans ?_⟩
  rw [State.hostPort_congr (s.enqueueHome_ports r)]

/-- A write of a whole line is what its bytes read as, and leaves every other byte. -/
theorem SameBytesBut.of_write {s t : State} {line : Nat} {d : List (BitVec 8)} (h : t.med.mem = Mem.write s.med.mem (line * 64) d)
    (hl : d.length = 64) : (∀ i, i < 64 → Mem.get t.med.mem (line * 64 + i) = d.getD i 0) ∧ SameBytesBut s t (line * 64) 64 := by
  refine ⟨fun i hi => ?_, fun x hx => ?_⟩
  · rw [h, Mem.get_write_inside _ _ _ _ (by omega), List.getD_eq_getElem]
  · rw [h]
    exact Mem.get_write_outside _ _ _ _ (by omega)

/-- Settles O15: the write is served at once, or waits, as the entry of its line has it. -/
theorem coherentWriteStoresTheLine : Obligations.CoherentWriteStoresTheLine := by
  unfold Obligations.CoherentWriteStoresTheLine
  have hx {s : State} {a : Agent} {line : BitVec 40} (data : List (BitVec 8)) (hw : s.windowLine line.toNat = none)
      (hp : s.publishAt line.toNat = none) : exec (.wrf a line data) s =
        ok (s.homeRequest { kind := .wrF, who := a, line := line.toNat, data := fitBytes 64 data }) := by
    show ok (s.homeWrite a line.toNat (fitBytes 64 data)) = _
    rw [State.homeWrite, hw, hp]
  have ht {s : State} {line : Nat} (hw : s.windowLine line = none) (hp : s.publishAt line = none) : s.throughLine line = false := by
    rw [State.throughLine, hw, hp]
    rfl
  refine ⟨fun s a line data hd hq hj hl hw hp => ?_, fun s a o line data e hd hq hj hl hw hp hs ho hv hop hh hne hlo => ?_,
    fun s a line data e hd hop hq hj hl hw hp => ?_, fun s h line data hdead hw hp => ?_⟩
  · have h : s.Finds { kind := .wrF, who := a, line := line.toNat, data := fitBytes 64 data } :=
      ⟨hq, hj, hl, rfl, rfl, fun e he => by simp [State.dirAt, hd, Tab.find?] at he⟩
    obtain ⟨q, hmem, hqueue, hdir, hout⟩ := h.homeRequest_writes hd (ht hw hp) rfl rfl rfl rfl
    have hX : (s.enqueueHome { kind := .wrF, who := a, line := line.toNat, data := fitBytes 64 data }).med.mem = s.med.mem :=
      congrArg MediaState.mem (s.enqueueHome_med _)
    refine ⟨_, hx data hw hp, hqueue, hdir, hout, fun ho hpe => ?_, fun hcl x => ?_⟩
    · have hlen := fitBytes_length 64 data
      rw [State.storeMasked_whole_mem ((s.open_enqueueHome _ _).mpr ho) ((s.parityElsewhere_enqueueHome _ _).mpr hpe), fitBytes_of_length hlen,
        hX] at hmem
      exact SameBytesBut.of_write hmem hlen
    · have hno : ¬ (s.enqueueHome { kind := .wrF, who := a, line := line.toNat, data := fitBytes 64 data }).open_ line.toNat := by
        rintro ho
        obtain ⟨h1, h2, h3⟩ := (s.open_enqueueHome _ _).mp ho
        simp [h1, h2, h3] at hcl
      rw [hmem, State.storeMasked_closed_mem hno, hX]
  · have hdir : s.dirAt line.toNat = some e := by simp [State.dirAt, hd, Tab.find?]
    have h : s.Finds { kind := .wrF, who := a, line := line.toNat, data := fitBytes 64 data } := ⟨hq, hj, hl, rfl, rfl, fun f hf => by
      obtain rfl : e = f := Option.some.inj (hdir.symm.trans hf)
      exact ⟨hop, hh⟩⟩
    exact ⟨_, hx data hw hp, h.homeRequest_snoops hd (ht hw hp) hs ho hne hlo (fun _ => hv) nofun⟩
  · rw [hx data hw hp]
    exact congrArg ok (State.homeRequest_open hl hq hj hd hop)
  · rw [hx data hw hp]
    exact congrArg ok (State.homeRequest_dead rfl hdead)

end Machine
end Sys2Proof

namespace Sys2Proof
namespace Machine

/-! ### What a read and a store keep of the home agent -/

theorem State.poisonLine_coh (s : State) (line : Nat) : (s.poisonLine line).coh = s.coh :=
  (commWithHome_keeps (f := fun s => s.poisonLine line) (fun s c ps os => s.poisonLine_withHome c ps os line) s).1

theorem State.storeLine_keeps (s : State) (line : Nat) (d : List (BitVec 8)) (read : Bool) :
    (s.storeLine line d read).coh = s.coh ∧ (s.storeLine line d read).host.ports = s.host.ports ∧ s.out ⊆ (s.storeLine line d read).out :=
  commWithHome_keeps (f := fun s => s.storeLine line d read) (fun s c ps os => s.storeLine_withHome c ps os line d read) s

theorem State.report_coh (s : State) (k : FKind) (unit subject : Nat) (fields : List (Nat × Nat)) : (s.report k unit subject fields).coh = s.coh :=
  (commWithHome_keeps (f := fun s => s.report k unit subject fields) (fun s c ps os => s.report_withHome c ps os k unit subject fields) s).1

/-! ### Evicts (R312, R319) -/

/-- A line is as open to a write after what leaves slices, regions and pages as they are. -/
theorem SameRing.open_ {s t : State} (h : SameRing s t) (hc : t.cal = s.cal) (hm : t.med = s.med) (hr : t.recordOf = s.recordOf) {line : Nat}
    (ho : s.open_ line) : t.open_ line := by
  obtain ⟨h1, h2, h3⟩ := ho
  refine ⟨?_, (congrFun hr line).trans h2, ?_⟩
  · rw [State.fatalAt, State.sliceAt, h.sliceOf, hc]
    exact h1
  · rw [State.pageLocked, hm]
    exact h3

theorem State.evictHolder_clean {s : State} {a : Agent} {line : Nat} {e : DirEntry} (hd : s.dirAt line = some e) :
    s.evictHolder a line none = s.putDir line (e.without a) := by
  rw [State.evictHolder, hd]

theorem State.evictHolder_dirty {s : State} {a : Agent} {line : Nat} {e : DirEntry} {d : List (BitVec 8)} (ht : s.takesData a line = true)
    (hd : s.dirAt line = some e) : s.evictHolder a line (some d) = (s.storeLine line d).putDir line (e.without a) := by
  have hd' : (s.storeLine line d).dirAt line = some e :=
      (congrArg (fun c : CohState => Tab.find? c.dir line) (s.storeLine_keeps line d true).1).trans hd
  rw [State.evictHolder]
  simp only [ht, if_true, hd']

/-- What an Evict of a host leaves before the directory learns it: a host that sends data is answered at once. -/
def State.evictAnswered (s : State) (h : Fin 4096) (line : Nat) (data : Option (List (BitVec 8))) : State :=
  if data.isSome then (s.endHost (s.hostPort h.val line).val h.val line).emit (.hostCmp (s.hostPort h.val line) h.val) else s

theorem State.evictAnswered_sameRing (s : State) (h : Fin 4096) (line : Nat) (data : Option (List (BitVec 8))) :
    SameRing s (s.evictAnswered h line data) := by
  cases data <;> exact ⟨rfl, rfl, rfl, rfl, fun _ _ _ _ => rfl⟩

theorem State.evictAnswered_open {s : State} {line : Nat} (ho : s.open_ line) (h : Fin 4096) (data : Option (List (BitVec 8))) :
    (s.evictAnswered h line data).open_ line :=
  (s.evictAnswered_sameRing h line data).open_ (by cases data <;> rfl) (by cases data <;> rfl) (by cases data <;> rfl) ho

theorem State.evictAnswered_takesData (s : State) (h : Fin 4096) (line : Nat) (data : Option (List (BitVec 8))) :
    (s.evictAnswered h line data).takesData (.host h) line = s.takesData (.host h) line := by
  cases data <;> rfl

/-- R33: data of an ACTIVE partition is taken from a host while the partition is not stopping. -/
theorem State.takesData_active {s : State} {line t : Nat} (ho : s.owner (line * 64) = some t) (ha : (s.tenantAt t).state = 2)
    (hs : (s.tenantAt t).stopping = false) (a : Agent) : s.takesData a line = true := by
  unfold State.takesData
  rw [ho]
  simp [ha, hs]

section
variable {s : State} {h : Fin 4096} {line : Nat} {e : DirEntry} (data : Option (List (BitVec 8))) (hd : s.dirAt line = some e)
include hd

theorem State.dirAt_evictAnswered : (s.evictAnswered h line data).dirAt line = some e := by
  rw [← hd]
  cases data <;> rfl

theorem State.evict_closed (ho : e.isOpen = false) :
    s.evict (.host h) line data = ((s.evictAnswered h line data).evictHolder (.host h) line data).settle := by
  unfold State.evict
  extract_lets s0
  have hs : s0 = s.evictAnswered h line data := rfl
  rw [hs, State.dirAt_evictAnswered data hd]
  simp only [ho, Bool.false_and, Bool.false_eq_true, if_false]

theorem State.evict_crosses (ho : e.isOpen = true) (hw : e.waitFor.contains (.host h) = true) (hn : e.waitFor ≠ [.host h]) :
    s.evict (.host h) line data = ((s.evictAnswered h line data).bump 64 0x5800 11).putDir line { e with data := data } := by
  unfold State.evict
  extract_lets s0
  have hs : s0 = s.evictAnswered h line data := rfl
  rw [hs, State.dirAt_evictAnswered data hd]
  simp only [ho, hw, Bool.true_and, if_true, hn, if_false]
  exact congrArg (fun x : State => (x.bump 64 0x5800 11).putDir line _) hs

end

/-- R312, R33: modified data that a host returns is stored, and the Evict completed. -/
theorem State.evict_stores {s : State} {h : Fin 4096} {line : Nat} {e : DirEntry} {t : Nat} {d : List (BitVec 8)} (hd : s.dirAt line = some e)
    (hop : e.isOpen = false) (hq : s.coh.queue = []) (hj : s.coh.jobs = []) (ht : s.owner (line * 64) = some t) (ha : (s.tenantAt t).state = 2)
    (hs : (s.tenantAt t).stopping = false) (ho : s.open_ line) (hp : s.parityElsewhere line) (hl : d.length = 64) :
    let u := s.evict (.host h) line (some d)
    u.dirAt line = (s.putDir line (e.without (.host h))).dirAt line ∧ u.med.mem = Mem.write s.med.mem (line * 64) d ∧
      .hostCmp (s.hostPort h.val line) h.val ∈ u.out := by
  intro u
  obtain ⟨hcoh, -, hout⟩ := (s.evictAnswered h line (some d)).storeLine_keeps line d true
  have hc : ((s.evictAnswered h line (some d)).storeLine line d).coh = s.coh := hcoh
  have htd : (s.evictAnswered h line (some d)).takesData (.host h) line = true :=
    (s.evictAnswered_takesData h line _).trans (State.takesData_active ht ha hs _)
  have hu : u = ((s.evictAnswered h line (some d)).storeLine line d).putDir line (e.without (.host h)) := by
    unfold u
    rw [State.evict_closed (some d) hd hop, State.evictHolder_dirty htd (State.dirAt_evictAnswered (some d) hd)]
    exact State.settle_of_empty ((congrArg CohState.queue hc).trans hq) ((congrArg CohState.jobs hc).trans hj)
  rw [hu]
  refine ⟨?_, ?_, hout List.mem_cons_self⟩
  · unfold State.dirAt State.putDir
    rw [hc]
  · exact State.storeLine_open_mem (State.evictAnswered_open ho h _) ((s.evictAnswered_sameRing h line _).parityElsewhere hp) hl true

end Machine
end Sys2Proof

namespace Sys2Proof
namespace Machine

/-! ### Poison stays where a line is poisoned -/

section
variable (s : State)

theorem State.parityLost_poison (line way : Nat) : (s.parityLost line way).med.poison = s.med.poison := by
  unfold State.parityLost
  dsimp only
  refine (foldl_keeps (f := fun u p => u.enqueueBe 9 7 false 64 (p * 4096) (.reencode p))
    (fun u : State => u.med.poison) (fun u p => rfl) _ _).trans ?_
  exact (congrArg MediaState.poison (State.submit_logOnly _ _).med).trans rfl

theorem State.evictParity_poison (line : Nat) : (s.evictParity line).med.poison = s.med.poison := by
  unfold State.evictParity
  dsimp only
  split
  · split
    · rfl
    · split
      · exact State.parityLost_poison ..
      · split
        · exact State.writeParity_poison ..
        · rfl
  · rfl

theorem State.fetchParity_poison (line : Nat) : (s.fetchParity line).2.med.poison = s.med.poison := by
  unfold State.fetchParity
  dsimp only
  split
  · split
    · exact State.parityLost_poison ..
    · rfl
  · split
    · exact State.parityLost_poison ..
    · exact State.evictParity_poison ..

theorem State.addParity_poison (dpa : Nat) (d : List (BitVec 8)) : (s.addParity dpa d).med.poison = s.med.poison := by
  unfold State.addParity
  extract_lets line r d put s1 q
  have h1 : s1.med.poison = s.med.poison := (by unfold s1; split <;> rfl : s1.med.poison = r.2.med.poison).trans (s.fetchParity_poison line)
  split
  · exact h1
  · exact (by split <;> rfl : _ = q.2.med.poison).trans ((s1.fetchParity_poison _).trans h1)

theorem State.updateParity_poison (dpa : Nat) (d : List (BitVec 8)) (read : Bool) : (s.updateParity dpa d read).med.poison = s.med.poison := by
  unfold State.updateParity
  dsimp only
  split
  · rfl
  · exact (State.addParity_poison ..).trans (by split <;> rfl)

theorem foldl_applyFlip_poison (l : List Nat) : (l.foldl State.applyFlip s).med.poison = s.med.poison :=
  foldl_keeps (fun u : State => u.med.poison) State.applyFlip_poison l s

theorem State.applyDelta_morePoison (dpa : Nat) (d : List (BitVec 8)) : s.med.poison ⊆ (s.applyDelta dpa d true).med.poison := by
  unfold State.applyDelta
  dsimp only
  split
  · exact List.Subset.refl _
  · rw [if_pos rfl]
    split
    · exact List.Subset.refl _
    · show _ ⊆ (List.foldl State.applyFlip _ _).med.poison
      rw [foldl_applyFlip_poison]
      exact List.subset_cons_self ..

theorem State.sendDeltas_morePoison (dpa : Nat) (d : List (BitVec 8)) : s.med.poison ⊆ (s.sendDeltas dpa d true).med.poison := by
  unfold State.sendDeltas
  split
  · exact List.Subset.refl _
  · refine List.foldlRecOn _ _ (motive := fun u : State => s.med.poison ⊆ u.med.poison) (List.Subset.refl _) fun u hu h _ => ?_
    dsimp only
    split
    · exact List.Subset.trans hu (State.applyDelta_morePoison ..)
    · rw [(State.inject_ringOnly _ _ _).med]
      exact hu

/-- A line that is poisoned, its slice in order, is poison (R120). -/
theorem State.isPoison_poisonLine {line : Nat} (hf : s.fatalAt (line * 64) = false) : (s.poisonLine line).isPoison line = true := by
  unfold State.poisonLine
  by_cases hp : s.isPoison line = true
  · simp only [hp, Bool.or_true, if_true]
  · extract_lets dpa old media s1 s2
    rw [hf, Bool.false_or, if_neg hp]
    have h1 : line ∈ (s1.updateParity dpa old false).med.poison := by
      rw [State.updateParity_poison]
      exact List.mem_cons_self
    have h2 : line ∈ s2.med.poison := State.sendDeltas_morePoison _ _ _ h1
    unfold State.isPoison
    rw [foldl_applyFlip_poison]
    exact List.contains_iff_mem.mpr h2

end

/-! ### Answers to snoops, the ends of holds, conflicts (R311, R317, R318, R320) -/

section
variable {s : State} {a : Agent} {line : Nat} {e : DirEntry} (hd : s.dirAt line = some e)
include hd

theorem State.snooped_awaited (ho : e.isOpen = true) (hw : e.waitFor.contains a = true) (data : Option (List (BitVec 8))) :
    let kept := { e with waitFor := e.waitFor.erase a, data := match data with | some d => some d | none => e.data }
    s.snooped a line data false = if e.waitFor.erase a = [] then (s.closeLine line kept).settle else s.putDir line kept := by
  unfold State.snooped
  rw [hd]
  simp only [ho, hw, Bool.or_false, List.isEmpty_iff]
  rfl

end

theorem State.snooped_other {s : State} {a : Agent} {line : Nat}
    (h : ∀ e, s.dirAt line = some e → e.isOpen = false ∨ e.waitFor.contains a = false)
    (data : Option (List (BitVec 8))) (poison : Bool) : s.snooped a line data poison = s := by
  unfold State.snooped
  cases hd : s.dirAt line with
  | none => rfl
  | some e =>
    refine if_pos ?_
    rcases h e hd with ho | hw
    · rw [ho]
      rfl
    · rw [hw, Bool.not_false, Bool.or_true]

theorem execHoldTimeExpire_held {s : State} {line : BitVec 40} {e : DirEntry} (hd : s.dirAt line.toNat = some e) (he : e.evict = false) :
    execHoldTimeExpire line s = ok ((s.putDir line.toNat { e with hold := false }).settle) := by
  rw [execHoldTimeExpire, hd]
  exact if_neg (ne_true_of_eq_false he)

theorem execHoldTimeExpire_evicted {s : State} {line : BitVec 40} {e : DirEntry} (hd : s.dirAt line.toNat = some e) (he : e.evict = true) :
    execHoldTimeExpire line s = ok s := by
  rw [execHoldTimeExpire, hd]
  exact if_pos he

theorem execHoldTimeExpire_none {s : State} {line : BitVec 40} (hd : s.dirAt line.toNat = none) : execHoldTimeExpire line s = ok s := by
  rw [execHoldTimeExpire, hd]

/-! ### Dead requesters (R325-R327) -/

theorem execBiTimeout_awaited {s : State} {r : Fin 4096} {line : BitVec 40} {e : DirEntry} (hd : s.dirAt line.toNat = some e)
    (ho : e.isOpen = true) (hw : e.waitFor.contains (.host r) = true) :
    execBiTimeout r line s = ok (s.hostDies 4 (if s.mld then r.val / 16 else 4) r.val) := by
  rw [execBiTimeout, hd]
  exact if_pos (by rw [ho, hw]; rfl)

theorem execBiTimeout_other {s : State} {r : Fin 4096} {line : BitVec 40}
    (h : ∀ e, s.dirAt line.toNat = some e → e.isOpen = false ∨ e.waitFor.contains (.host r) = false) : execBiTimeout r line s = ok s := by
  unfold execBiTimeout
  cases hd : s.dirAt line.toNat with
  | none => rfl
  | some e =>
    refine if_neg ?_
    rcases h e hd with ho | hw
    · rw [ho]
      exact Bool.false_ne_true
    · rw [hw, Bool.and_false]
      exact Bool.false_ne_true

section
variable {s : State} {r : Nat}

theorem requesterRevive_done (h : r < 4096) (hw : s.coh.sweep = []) :
    requesterRevive r s = done { s with coh := { s.coh with dead := s.coh.dead.erase r } } :=
  (if_neg (Nat.not_le.mpr h)).trans (if_neg (not_not_intro hw))

theorem requesterRevive_sweeping (h : r < 4096) (hw : s.coh.sweep ≠ []) : requesterRevive r s = refuse stState s :=
  (if_neg (Nat.not_le.mpr h)).trans (if_pos hw)

theorem requesterRevive_range (h : 4096 ≤ r) : requesterRevive r s = refuse stRange s := if_pos h

end

/-- An entry without its owner has none, and is not in M. -/
theorem DirEntry.without_owned {e : DirEntry} {a : Agent} (h : e.owner = some a) : (e.without a).owner = none ∧ (e.without a).st ≠ .M := by
  unfold DirEntry.without
  dsimp only
  rw [if_pos h]
  refine ⟨rfl, ?_⟩
  split
  · nofun
  · nofun

theorem State.dirAt_putDir (s : State) (line : Nat) (e : DirEntry) :
    (s.putDir line e).dirAt line = if e.st = .I && !e.isOpen then none else some e := by
  unfold State.dirAt State.putDir
  dsimp only
  split
  · exact Tab.find_erase_same ..
  · exact Tab.find_set_same ..

/-- The state in which a requester is on the list of the dead. -/
def State.withDead (s : State) (r : Nat) : State := { s with coh := { s.coh with dead := addNew s.coh.dead r } }

theorem State.fatalAt_withDead (s : State) (r dpa : Nat) : (s.withDead r).fatalAt dpa = s.fatalAt dpa := by
  have h : SameRing s (s.withDead r) := ⟨rfl, rfl, rfl, rfl, fun _ _ _ _ => rfl⟩
  unfold State.fatalAt
  rw [h.sliceOf]
  rfl

/-- Where nothing waits, a death changes no request. -/
theorem State.withDead_eq {s : State} (hq : s.coh.queue = []) (hn : ∀ p ∈ s.coh.dir, p.2.req = none) (r : Nat) (g : HomeReq → HomeReq) :
    ({ s with coh := { s.coh with
      dead := addNew s.coh.dead r, queue := s.coh.queue.map g,
      dir := s.coh.dir.map (fun (p : Nat × DirEntry) => (p.1, { p.2 with req := p.2.req.map g })) } } : State) = s.withDead r := by
  have hd : s.coh.dir.map (fun (p : Nat × DirEntry) => (p.1, { p.2 with req := p.2.req.map g })) = s.coh.dir :=
    (List.map_congr_left fun p hp => by rw [hn p hp, Option.map_none, ← hn p hp]; rfl).trans (List.map_id _)
  rw [hd, hq, List.map_nil, ← hq]
  rfl

section
variable {s : State} {event unit r : Nat} (hr : s.isDead r = false) (hq : s.coh.queue = []) (hj : s.coh.jobs = [])
include hr hq hj

/-- R326: with an empty directory, a death only begins a sweep. -/
theorem State.hostDies_unlisted (hd : s.coh.dir = []) : s.hostDies event unit r =
    { s with coh := { s.coh with dead := addNew s.coh.dead r, sweep := s.coh.sweep ++ [(r, event, 0, unit)] } } := by
  unfold State.hostDies
  rw [if_neg (ne_true_of_eq_false hr)]
  extract_lets me gone coh s1 mine s2 s3 last
  have h1 : s1 = s.withDead r := State.withDead_eq hq (by simp [hd]) r gone
  have hd1 : s1.coh.dir = [] := by rw [h1]; exact hd
  have h2 : s2 = s1 := by unfold s2; rw [hd1]; rfl
  have h3 : s3 = s.withDead r := by unfold s3; rw [h2, hd1]; exact h1
  have hm : mine = [] := by unfold mine; rw [hd1]; rfl
  have hlast : last = (s.withDead r).coh := congrArg State.coh h3
  rw [hlast, h3, hm, State.settle_of_empty]
  · rfl
  · exact hq
  · exact hj

/-- R326: the line that the dead requester owned in M is poison and owned by nobody. -/
theorem State.hostDies_owner {l : Nat} {e : DirEntry} (hd : s.coh.dir = [(l, e)]) (hs : e.st = .M)
    (ho : e.owner = some (.host (Fin.ofNat 4096 r))) (hop : e.isOpen = false) (hn : e.req = none) :
    let u := ((s.withDead r).poisonLine l).putDir l (e.without (.host (Fin.ofNat 4096 r)))
    s.hostDies event unit r = { u with coh := { u.coh with sweep := u.coh.sweep ++ [(r, event, 1, unit)] } } := by
  intro u
  unfold State.hostDies
  rw [if_neg (ne_true_of_eq_false hr)]
  extract_lets me gone coh s1 mine s2 s3 last
  have h1 : s1 = s.withDead r := State.withDead_eq hq (by simp [hd, hn]) r gone
  have hd1 : s1.coh.dir = [(l, e)] := by rw [h1]; exact hd
  have he : s1.dirAt l = some e := by simp [State.dirAt, hd1, Tab.find?]
  have hmine : (decide (e.st = .M) && decide (e.owner = some me)) = true := by simp [hs, ho, me]
  have h2 : s2 = s1 := by
    unfold s2
    rw [hd1]
    exact State.snooped_other (fun f hf => .inl (Option.some.inj (he.symm.trans hf) ▸ hop)) none _
  have h3 : s3 = u := by
    unfold s3
    rw [h2, hd1]
    simp only [List.foldl_cons, List.foldl_nil, he, hmine, hop]
    rw [h1]
    rfl
  have hm : mine.length = 1 := by
    unfold mine
    rw [hd1]
    simp [hs, ho, me]
  have hlast : last = u.coh := congrArg State.coh h3
  rw [hlast, h3, hm, State.settle_of_empty]
  · exact (congrArg CohState.queue ((s.withDead r).poisonLine_coh l)).trans hq
  · exact (congrArg CohState.jobs ((s.withDead r).poisonLine_coh l)).trans hj

end

end Machine
end Sys2Proof

namespace Sys2Proof
namespace Machine

/-! ### A directory entry is lost (R328) -/

theorem Tab.erase_of_none {α : Type} {t : Tab α} {k : Nat} (h : Tab.find? t k = none) : Tab.erase t k = t := by
  induction t with
  | nil => rfl
  | cons p t ih =>
    obtain ⟨j, v⟩ := p
    by_cases hj : j = k
    · simp [Tab.find?, hj] at h
    · rw [Tab.find?, if_neg hj] at h
      rw [Tab.erase, if_neg hj, ih h]

/-- Nothing but the table of the vats is another, and each vat reads as it did. -/
def SameVats (s t : State) : Prop := t = { s with vat := { s.vat with vats := t.vat.vats } } ∧ ∀ v, t.vatAt v = s.vatAt v

theorem SameVats.trans {s t u : State} (h : SameVats s t) (k : SameVats t u) : SameVats s u := by
  obtain ⟨ht, hv⟩ := h
  obtain ⟨hu, hw⟩ := k
  refine ⟨?_, fun v => (hw v).trans (hv v)⟩
  rw [hu, ht]

theorem SameVats.cached {s t : State} (h : SameVats s t) (k line : Nat) : t.cached k line = s.cached k line := by
  have hp : t.physical k = s.physical k := by
    rw [h.1]
    rfl
  unfold State.cached
  rw [hp]
  cases s.physical k with
  | none => rfl
  | some v => exact congrArg (fun x : Vat => Tab.find? x.cache line) (h.2 v)

/-- A line that a vat does not cache leaves no cache. -/
theorem State.modCache_erase_none {s : State} {k line : Nat} (h : s.cached k line = none) :
    SameVats s (s.modCache k (fun t => Tab.erase t line)) := by
  unfold State.cached at h
  unfold State.modCache
  cases hp : s.physical k with
  | none => exact ⟨rfl, fun _ => rfl⟩
  | some v =>
    rw [hp] at h
    refine ⟨rfl, fun w => ?_⟩
    have he : Tab.erase (s.vatAt v).cache line = (s.vatAt v).cache := Tab.erase_of_none h
    by_cases hw : w = v
    · subst hw
      dsimp only
      rw [State.vatAt_modVat, he]
    · exact State.vatAt_modVat_other s _ hw

theorem State.dropVats_unheld {line : Nat} {ks : List Nat} {s : State} (h : ∀ k ∈ ks, s.cached k line = none) :
    (s.dropVats line ks).1 = none ∧ SameVats s (s.dropVats line ks).2 := by
  induction ks generalizing s with
  | nil => exact ⟨rfl, rfl, fun _ => rfl⟩
  | cons k ks ih =>
    have hk := h k List.mem_cons_self
    have hm := State.modCache_erase_none hk
    obtain ⟨h1, h2⟩ := ih fun j hj => (hm.cached j line).trans (h j (List.mem_cons_of_mem k hj))
    unfold State.dropVats
    dsimp only
    rw [State.checkCached_of_none hk, hk]
    exact ⟨h1, hm.trans h2⟩

/-- R314: a snoop goes to each host of the list, and changes nothing but its count. -/
theorem State.snoop_spec (s : State) (line : Nat) (inv : Bool) (rs : List Nat) :
    let t := s.snoop line inv rs
    t.med = s.med ∧ t.coh = s.coh ∧ s.out ⊆ t.out ∧ ∀ h, h ∈ rs → .bisnp h line inv ∈ t.out := by
  induction rs generalizing s with
  | nil => exact ⟨rfl, rfl, List.Subset.refl _, nofun⟩
  | cons r rs ih =>
    obtain ⟨hm, hc, ho, hb⟩ := ih ((s.emit (.bisnp r line inv)).bump 64 0x5800 4)
    refine ⟨hm, hc, List.Subset.trans (List.subset_cons_self ..) ho, fun h hh => ?_⟩
    rcases List.mem_cons.mp hh with rfl | hh
    · exact ho List.mem_cons_self
    · exact hb h hh

/-- The entry of a lost line, open until the requesters `hs` have answered (R328). -/
def lostDir (way : Nat) (hs : List Nat) : DirEntry :=
  { freshDir way 0 with
    st := .M, isOpen := true, evict := true, hold := true, poison := true, waitFor := hs.map (fun h => Agent.host (Fin.ofNat 4096 h)) }

/-- The requesters that may hold a lost line. -/
def State.lostHolders (s : State) (line : Nat) : List Nat :=
  match s.owner (line * 64) with
  | some t => (List.range 4096).filter (fun r => !s.isDead r && s.hostRight r t false)
  | none => []

section
variable {s : State} {line : BitVec 40} {e : DirEntry} (hd : s.dirAt line.toNat = some e) (hr : e.req = none) (ha : s.coh.abuf = [])
  (hc : ∀ k, k < 32 → s.cached k line.toNat = none)
include hd hr ha hc

/-- R328: the loss of the entry of a line that no cache and no buffer holds and no request has open. -/
theorem execDirectoryUe_unheld : ∃ v, SameVats s v ∧ execDirectoryUe line s =
    let hs := s.lostHolders line.toNat
    let t := ({ v with coh := { v.coh with recovery := true } } : State).snoop line.toNat true hs
    if hs.isEmpty then ok ((t.closeLine line.toNat { lostDir e.way hs with poison := false }).settle)
    else ok (t.putDir line.toNat (lostDir e.way hs)) := by
  obtain ⟨h1, h2⟩ := State.dropVats_unheld (line := line.toNat) (ks := List.range 32) fun k hk => hc k (List.mem_range.mp hk)
  refine ⟨_, h2, ?_⟩
  unfold execDirectoryUe
  extract_lets l way again coh s0 buf coh0 drop q s1 hs0 fresh lost coh1 s2 hs coh2 t
  have hs : s0 = s := by simp [s0, again, coh, l, hd, hr]
  have hbuf : buf = none := by
    unfold buf
    rw [hs, ha]
    rfl
  have hdrop : drop = s.dropVats line.toNat (List.range 32) := by
    have hb : ({ s with coh := { s.coh with abuf := s.coh.abuf.filter (fun p => p.1 ≠ l) } } : State) = s := by
      rw [ha, List.filter_nil, ← ha]
    unfold drop coh0
    rw [hs, hb]
  have hq : q = (none, (s.dropVats line.toNat (List.range 32)).2) := by
    unfold q
    rw [hbuf, hdrop, h1]
    rfl
  have hs1 : s1 = (s.dropVats line.toNat (List.range 32)).2 := by
    unfold s1
    rw [hq]
  have hh : hs0 = s.lostHolders line.toNat := by
    unfold hs0
    rw [hs]
    rfl
  have hlost : lost = lostDir e.way (s.lostHolders line.toNat) := by
    unfold lost fresh way
    rw [hh, hq, hd]
    rfl
  have hs2 : s2 = t := by
    unfold s2 coh1
    rw [hs1, hh]
  rw [hlost, hs2, hh]

/-- R328: of no partition, the entry is dropped, with a record. -/
theorem execDirectoryUe_unowned (hq : s.coh.queue = []) (hj : s.coh.jobs = []) (ho : s.owner (line.toNat * 64) = none) :
    ∃ u, execDirectoryUe line s = .next u ∧ (∀ v, u.vatAt v = s.vatAt v) ∧
      u = ({ s with
        coh := { s.coh with recovery := false, dir := Tab.erase s.coh.dir line.toNat }, vat := { s.vat with vats := u.vat.vats } } : State).report
        kDirectoryUe 0 0 [(32, dirSet line.toNat), (32, e.way), (32, 0)] := by
  obtain ⟨v, hv, hx⟩ := execDirectoryUe_unheld hd hr ha hc
  have hh : s.lostHolders line.toNat = [] := by rw [State.lostHolders, ho]
  let y : State :=
    { s with coh := { s.coh with recovery := false, dir := Tab.erase s.coh.dir line.toNat }, vat := { s.vat with vats := v.vat.vats } }
  let u := y.report kDirectoryUe 0 0 [(32, dirSet line.toNat), (32, e.way), (32, 0)]
  have hvat : u.vat = y.vat := (y.report_samePlans ..).1
  have hcoh : u.coh = y.coh := y.report_coh ..
  have hu : execDirectoryUe line s = .next u := by
    rw [hx, hh]
    refine congrArg ok (Eq.trans ?_ (State.settle_of_empty (s := u) ?_ ?_))
    · refine congrArg State.settle ?_
      show State.report _ _ _ _ _ = _
      unfold u y
      rw [hv.1]
      rfl
    · rw [hcoh]
      exact hq
    · rw [hcoh]
      exact hj
  refine ⟨u, hu, fun w => ?_, ?_⟩
  · exact (congrArg (fun x : VatState => Tab.get x.vats w freshVat) hvat).trans (hv.2 w)
  · rw [hvat]

/-- R328: where live requesters may hold it, the line opens, and each of them is invalidated. -/
theorem execDirectoryUe_owned (hne : s.lostHolders line.toNat ≠ []) :
    ∃ u f, execDirectoryUe line s = .next u ∧ SameBytes s u ∧ u.coh.recovery = true ∧ u.dirAt line.toNat = some f ∧
      f.isOpen = true ∧ f.evict = true ∧ f.poison = true ∧ f.data = none ∧
      f.waitFor = (s.lostHolders line.toNat).map (fun h => .host (Fin.ofNat 4096 h)) ∧
      ∀ h, h ∈ s.lostHolders line.toNat → .bisnp h line.toNat true ∈ u.out := by
  obtain ⟨v, hv, hx⟩ := execDirectoryUe_unheld hd hr ha hc
  obtain ⟨hm, hcoh, -, hb⟩ := ({ v with coh := { v.coh with recovery := true } } : State).snoop_spec line.toNat true (s.lostHolders line.toNat)
  rw [hx]
  refine ⟨_, lostDir e.way (s.lostHolders line.toNat), if_neg (by simpa using hne), fun a => ?_, ?_, ?_, rfl, rfl, rfl, rfl, rfl, hb⟩
  · show Mem.get (State.snoop _ _ _ _).med.mem a = _
    rw [hm, hv.1]
  · exact congrArg CohState.recovery hcoh
  · rw [State.dirAt_putDir]
    rfl

end

end Machine
end Sys2Proof

namespace Sys2Proof
namespace Machine

/-- Settles O16, entry by entry: what an Evict, an answer, the end of a hold, a conflict, a death, a return and a lost entry each leave. -/
theorem directoryAndItsRequesters : Obligations.DirectoryAndItsRequesters := by
  unfold Obligations.DirectoryAndItsRequesters
  refine ⟨⟨fun s h line e hd ho hq hj => ⟨?_, fun t data ht ha hs hop hp => ?_⟩, fun s h line e data hd ho hw hn => ?_,
    fun s a line data e hd ho hw => ?_, fun s a line data h => ?_, fun s line => ?_, fun s r line => ?_, fun s hq hj => ?_,
    fun s hq hj => State.settle_of_empty hq hj⟩, fun s c r hs => ?_, fun s c r hs => ?_, fun s r line => ?_,
    fun s event unit r hr hl hq hj => ?_, fun s r h event unit => if_pos h, fun s line e hd hn hq hj ha hc => ?_⟩
  · refine congrArg ok ((State.evict_closed none hd ho).trans ?_)
    rw [State.evictHolder_clean (State.dirAt_evictAnswered none hd)]
    exact State.settle_of_empty hq hj
  · have hl := fitBytes_length 64 data
    obtain ⟨h1, h2, h3⟩ := State.evict_stores (h := h) hd ho hq hj ht ha hs hop hp hl
    obtain ⟨hin, hout⟩ := SameBytesBut.of_write h2 hl
    exact ⟨_, rfl, h1, hin, hout, h3⟩
  · refine congrArg ok ((State.evict_crosses (data.map (fitBytes 64)) hd ho hw hn).trans ?_)
    rw [State.evictAnswered, Option.isSome_map]
  · exact congrArg ok (State.snooped_awaited hd ho hw (data.map (fitBytes 64)))
  · exact congrArg ok (State.snooped_other h (data.map (fitBytes 64)) false)
  · exact ⟨fun e => execHoldTimeExpire_held, fun e => execHoldTimeExpire_evicted, execHoldTimeExpire_none⟩
  · intro t
    have hf (q : HomeReq) : (if q.who = .host r && q.line = line.toNat then { q with behind := false } else q) =
        (if q.who = .host r ∧ q.line = line.toNat then { q with behind := false } else q) := by simp only [Bool.and_eq_true, decide_eq_true_eq]
    refine congrArg (fun q => ok ({ t with coh := { s.coh with queue := q } } : State).settle) (List.map_congr_left fun q _ => hf q)
  · have hc : (s.coh.sweep.foldl (fun (t : State) d => t.report kHostDeath d.2.2.2 d.1 [(32, d.1), (32, d.2.1), (32, d.2.2.1)])
        { s with coh := { s.coh with sweep := [] } }).coh = { s.coh with sweep := [] } :=
      foldl_keeps (f := fun (t : State) (d : Nat × Nat × Nat × Nat) => t.report kHostDeath d.2.2.2 d.1 [(32, d.1), (32, d.2.1), (32, d.2.2.1)])
        State.coh (fun t d => t.report_coh ..) _ _
    exact congrArg ok (State.settle_of_empty ((congrArg CohState.queue hc).trans hq) ((congrArg CohState.jobs hc).trans hj))
  · intro t
    have hx : exec (.requesterGone c r) s = _ := congrArg ok (State.request_served hs (leBytes 2 r.toNat) (requesterGone r.toNat))
    refine ⟨fun h => ?_, fun h => ?_⟩
    · rw [hx, requesterGone, if_pos h]
      rfl
    · rw [hx, requesterGone, if_neg (Nat.not_lt.mpr h)]
      rfl
  · intro t
    have hx : exec (.requesterRevive c r) s = _ := congrArg ok (State.request_served hs (leBytes 2 r.toNat) (requesterRevive r.toNat))
    refine ⟨fun h hw => ?_, fun h hw => ?_, fun h => ?_⟩
    · rw [hx, requesterRevive_done h (show t.coh.sweep = [] from hw)]
      rfl
    · rw [hx, requesterRevive_sweeping h (show t.coh.sweep ≠ [] from hw)]
      rfl
    · rw [hx, requesterRevive_range h]
      rfl
  · exact ⟨fun e => execBiTimeout_awaited, execBiTimeout_other⟩
  · refine ⟨State.hostDies_unlisted hl hq hj, fun l e hd hs ho hop hn hf => ?_⟩
    have hdies := State.hostDies_owner (event := event) (unit := unit) hl hq hj hd hs ho hop hn
    intro t
    have ht : t = _ := hdies
    have hcoh := (s.withDead r).poisonLine_coh l
    rw [ht]
    refine ⟨?_, ?_, ?_, fun a => ?_, fun f hf' => ?_⟩
    · show (State.poisonLine _ _).coh.dead.contains r = true
      rw [hcoh]
      exact (isDead_addNew s.coh.dead r r).trans (by simp)
    · show (State.poisonLine _ _).coh.sweep ++ _ = _
      rw [hcoh]
      rfl
    · exact State.isPoison_poisonLine _ ((s.fatalAt_withDead r (l * 64)).trans hf)
    · exact congrArg (fun m => Mem.get m a) ((s.withDead r).poisonLine_mem ..)
    · have hw := (State.dirAt_putDir ((s.withDead r).poisonLine l) l (e.without (.host (Fin.ofNat 4096 r)))).symm.trans hf'
      split at hw
      · cases hw
      · obtain rfl := Option.some.inj hw
        exact DirEntry.without_owned ho
  · refine ⟨execDirectoryUe_unowned hd hn ha hc hq hj, fun t ht => ?_⟩
    have hh : s.lostHolders line.toNat = (List.range 4096).filter (fun r => !s.isDead r && s.hostRight r t false) := by
      rw [State.lostHolders, ht]
    rw [← hh]
    exact execDirectoryUe_owned hd hn ha hc

end Machine
end Sys2Proof

namespace Sys2Proof
namespace Machine

/-! CXL.mem requests of the hosts (R33, R36, R121, R135, R307, R311, R336, R356-R358, R376): what stands against a request before its
line is looked at, and then each outcome of the checks. -/

section
variable {s : State} {p : Fin 4} {req : Fin 4096}

/-- R326, R352: a port without CXL.mem, or a dead requester, is not served. -/
theorem execHostMemRead_unserved (h : (s.portAt p.val).mem = false ∨ s.isDead (s.requester p req).val = true) (hpa : BitVec 64)
    (mv : MetaValue) : execHostMemRead p req hpa mv s = ok s := by
  unfold execHostMemRead
  rcases h with h | h
  · rw [h]
    rfl
  · dsimp only
    rw [h]
    exact ite_self _

theorem execHostMemWrite_unserved (h : (s.portAt p.val).mem = false ∨ s.isDead (s.requester p req).val = true) (hpa : BitVec 64)
    (data : List (BitVec 8)) (mask : BitVec 64) (poison : Bool) : execHostMemWrite p req hpa data mask poison s = ok s := by
  unfold execHostMemWrite
  rcases h with h | h
  · rw [h]
    rfl
  · dsimp only
    rw [h]
    exact ite_self _

variable (hm : (s.portAt p.val).mem = true) (hd : s.isDead (s.requester p req).val = false)
include hm hd

/-- R356: before memory is active, a read is answered with poisoned zeros. -/
theorem execHostMemRead_inactive (ha : s.host.active = false) (hpa : BitVec 64) (mv : MetaValue) :
    execHostMemRead p req hpa mv s = ok (s.hostPoison p (s.requester p req).val) := by
  simp [execHostMemRead, hm, hd, ha]

/-- R356: before memory is active, a write is dropped. -/
theorem execHostMemWrite_inactive (ha : s.host.active = false) (hpa : BitVec 64) (data : List (BitVec 8)) (mask : BitVec 64) (poison : Bool) :
    execHostMemWrite p req hpa data mask poison s = ok ((s.light (lightRx p.val) 64).emit (.hostCmp p (s.requester p req).val)) := by
  simp [execHostMemWrite, hm, hd, ha]

variable {hpa : BitVec 64} (ha : s.host.active = true)
include ha

/-! ### Reads -/

theorem execHostMemRead_quiet (hb : s.hostBar p req hpa.toNat false = .quiet) (mv : MetaValue) :
    execHostMemRead p req hpa mv s = ok (s.hostPoison p (s.requester p req).val) := by
  simp [execHostMemRead, hm, hd, ha, hb]

theorem execHostMemRead_violation {t : Option Nat} {dpa : Nat} (hb : s.hostBar p req hpa.toNat false = .violation t dpa) (mv : MetaValue) :
    execHostMemRead p req hpa mv s = ok ((s.violate p (s.requester p req).val t dpa).hostPoison p (s.requester p req).val) := by
  simp [execHostMemRead, hm, hd, ha, hb]

/-- R307, R376: a read of an HDM-DB line waits at its port for the home agent. -/
theorem execHostMemRead_db {dpa : Nat} (hb : s.hostBar p req hpa.toNat false = .go dpa) (hl : s.isHdmDb dpa = true) (mv : MetaValue) :
    execHostMemRead p req hpa mv s = ok ((s.beginHost p.val (s.requester p req).val (dpa / 64)).homeRequest
      { kind := s.readKind (s.portFunc p req) mv, who := .host (s.requester p req), line := dpa / 64, data := [] }) := by
  simp [execHostMemRead, hm, hd, ha, hb, hl]

/-- A read of an HDM-H line is answered at once with what the line reads as. -/
theorem execHostMemRead_line {dpa : Nat} (hb : s.hostBar p req hpa.toNat false = .go dpa) (hl : s.isHdmDb dpa = false) (mv : MetaValue) :
    execHostMemRead p req hpa mv s = ok (((s.readLine (dpa / 64)).2.emit
      (.hostData p (s.requester p req).val (s.readLine (dpa / 64)).1.1 (s.readLine (dpa / 64)).1.2 .invalid)).light (lightTx p.val) 64) := by
  simp [execHostMemRead, hm, hd, ha, hb, hl]

/-! ### Writes -/

variable (data : List (BitVec 8)) (mask : BitVec 64)

theorem execHostMemWrite_quiet (hb : s.hostBar p req hpa.toNat true = .quiet) (poison : Bool) :
    execHostMemWrite p req hpa data mask poison s = ok ((s.light (lightRx p.val) 64).emit (.hostCmp p (s.requester p req).val)) := by
  simp [execHostMemWrite, hm, hd, ha, hb]

theorem execHostMemWrite_violation {t : Option Nat} {dpa : Nat} (hb : s.hostBar p req hpa.toNat true = .violation t dpa) (poison : Bool) :
    execHostMemWrite p req hpa data mask poison s =
      ok (((s.light (lightRx p.val) 64).violate p (s.requester p req).val t dpa).emit (.hostCmp p (s.requester p req).val)) := by
  simp [execHostMemWrite, hm, hd, ha, hb]

variable {dpa : Nat} (hb : s.hostBar p req hpa.toNat true = .go dpa)
include hb

/-- R311, R376: a write of an HDM-DB line goes to the home agent, as a full-line write where it is one. -/
theorem execHostMemWrite_db (hl : s.isHdmDb dpa = true) (poison : Bool) : execHostMemWrite p req hpa data mask poison s =
    ok (if mask = BitVec.allOnes 64 ∧ poison = false
      then ((s.light (lightRx p.val) 64).beginHost p.val (s.requester p req).val (dpa / 64)).homeWrite (.host (s.requester p req)) (dpa / 64)
        (fitBytes 64 data)
      else ((s.light (lightRx p.val) 64).beginHost p.val (s.requester p req).val (dpa / 64)).homeRequest
        { kind := .wrF, who := .host (s.requester p req), line := dpa / 64, data := fitBytes 64 data, mask := mask, poison := poison }) := by
  by_cases hw : mask = BitVec.allOnes 64 ∧ poison = false
  · rw [if_pos hw]
    simp [execHostMemWrite, hm, hd, ha, hb, hl, hw]
  · rw [if_neg hw]
    have hw' : ¬ ((decide (mask = BitVec.allOnes 64) && !poison) = true) := by simpa using hw
    simp only [execHostMemWrite, hm, hd, ha, hb, hl, if_neg hw']
    rfl

variable (hl : s.isHdmDb dpa = false)
include hl

/-- R135, R357: a write of an HDM-H line stores the bytes of its mask. -/
theorem execHostMemWrite_stores : execHostMemWrite p req hpa data mask false s =
    ok (((s.light (lightRx p.val) 64).storeMasked (dpa / 64) (fitBytes 64 data) mask p.val).emit (.hostCmp p (s.requester p req).val)) := by
  simp [execHostMemWrite, hm, hd, ha, hb, hl]

theorem execHostMemWrite_poisons (hr : s.recordOf (dpa / 64) = none) : execHostMemWrite p req hpa data mask true s =
    ok (((s.light (lightRx p.val) 64).poisonLine (dpa / 64)).emit (.hostCmp p (s.requester p req).val)) := by
  have hr' : (s.light (lightRx p.val) 64).recordOf (dpa / 64) = none := hr
  simp [execHostMemWrite, hm, hd, ha, hb, hl, hr']

/-- R336: poison for a mordant record's line is dropped and counted. -/
theorem execHostMemWrite_record {g : Nat} (hr : s.recordOf (dpa / 64) = some g) : execHostMemWrite p req hpa data mask true s =
    ok (((s.light (lightRx p.val) 64).bump 64 0x5B00 1).emit (.hostCmp p (s.requester p req).val)) := by
  have hr' : (s.light (lightRx p.val) 64).recordOf (dpa / 64) = some g := hr
  simp [execHostMemWrite, hm, hd, ha, hb, hl, hr']

end

/-- Settles O37: each request by what its port, its requester and its checks say; a whole line by what its store leaves of memory. -/
theorem hostAccesses : Obligations.HostAccesses := by
  unfold Obligations.HostAccesses
  refine ⟨fun s p req hpa hm => ?_, fun s p req hpa h => ⟨execHostMemRead_unserved h hpa, execHostMemWrite_unserved h hpa⟩⟩
  intro r rx hd
  refine ⟨fun mv ha => execHostMemRead_inactive hm hd ha hpa mv,
    fun data mask poison ha => execHostMemWrite_inactive hm hd ha hpa data mask poison,
    fun mv ha hb => execHostMemRead_quiet hm hd ha hb mv,
    fun mv t dpa ha hb => execHostMemRead_violation hm hd ha hb mv,
    fun mv dpa ha hb hl => ⟨execHostMemRead_line hm hd ha hb hl mv, fun a => ?_, fun hi hk => ?_⟩,
    fun mv dpa ha hb hl => execHostMemRead_db hm hd ha hb hl mv,
    fun data mask poison ha hb => execHostMemWrite_quiet hm hd ha data mask hb poison,
    fun data mask poison t dpa ha hb => execHostMemWrite_violation hm hd ha data mask hb poison,
    fun data mask dpa ha hb hl => execHostMemWrite_stores hm hd ha data mask hb hl,
    fun data mask dpa ha hb hl hr => execHostMemWrite_poisons hm hd ha data mask hb hl hr,
    fun data mask dpa g ha hb hl hr => execHostMemWrite_record hm hd ha data mask hb hl hr,
    fun data dpa ha hb hl ho hp => ⟨_, execHostMemWrite_stores hm hd ha data (BitVec.allOnes 64) hb hl, ?_⟩,
    fun data mask poison dpa ha hb hl => execHostMemWrite_db hm hd ha data mask hb hl poison⟩
  · exact congrArg (fun m => Mem.get m a) (s.readLine_mem ..)
  · rw [State.readLine_intact hi, State.loadLine_own hk]
  · have hmem := State.storeMasked_whole_mem ((s.open_light (lightRx p.val) 64 _).mpr ho)
      ((s.light_sameRing (lightRx p.val) 64).parityElsewhere hp) (fitBytes 64 data) p.val
    rw [fitBytes_of_length (fitBytes_length 64 data)] at hmem
    have hlen := fitBytes_length 64 data
    refine ⟨fun i hi => ?_, fun x hx => ?_, rfl⟩
    · rw [State.emit_mem, hmem, Mem.get_write_inside _ _ _ _ (by omega), List.getD_eq_getElem]
    · rw [State.emit_mem, hmem, Mem.get_write_outside _ _ _ _ (by omega)]
      rfl

end Machine
end Sys2Proof

namespace Sys2Proof
namespace Machine

/-! Which regions are enabled, which moves are in flight, and the tier map (R42, R333, R347): no read of a word, no store and no parity of
a line touches them, but that it marks pages of a moving extent dirty (R44). One lemma for each operation on the way. -/

/-- A move, its dirty pages apart. -/
def Move.still (m : Move) : Move := { m with dirty := [] }

/-- The same regions are enabled, the same moves are in flight but for their dirty pages, and the tier map is the same. -/
@[simp, reducible] def SameMoves (s t : State) : Prop :=
  t.reg.enabled = s.reg.enabled ∧ t.reg.moves.map Move.still = s.reg.moves.map Move.still ∧ t.med.tier = s.med.tier

theorem SameMoves.refl (s : State) : SameMoves s s := ⟨rfl, rfl, rfl⟩

theorem SameMoves.trans {s t u : State} (h : SameMoves s t) (k : SameMoves t u) : SameMoves s u :=
  ⟨k.1.trans h.1, k.2.1.trans h.2.1, k.2.2.trans h.2.2⟩

theorem SameMoves.enabled {s t : State} (h : SameMoves s t) : t.reg.enabled = s.reg.enabled := h.1
theorem SameMoves.moves {s t : State} (h : SameMoves s t) : t.reg.moves.map Move.still = s.reg.moves.map Move.still := h.2.1
theorem SameMoves.tier {s t : State} (h : SameMoves s t) : t.med.tier = s.med.tier := h.2.2

@[simp] theorem foldl_sameMoves {α : Type} (f : State → α → State) (h : ∀ s x, SameMoves s (f s x)) (l : List α) (s : State) :
    SameMoves s (l.foldl f s) :=
  List.foldlRecOn l f (.refl s) fun t ht x _ => ht.trans (h t x)

@[simp] theorem ite_enabled (c : Prop) [Decidable c] (a b : State) :
    (if c then a else b).reg.enabled = if c then a.reg.enabled else b.reg.enabled := apply_ite (fun s : State => s.reg.enabled) c a b

@[simp] theorem ite_moves (c : Prop) [Decidable c] (a b : State) : (if c then a else b).reg.moves.map Move.still =
    if c then a.reg.moves.map Move.still else b.reg.moves.map Move.still := apply_ite (fun s : State => s.reg.moves.map Move.still) c a b

@[simp] theorem ite_tier (c : Prop) [Decidable c] (a b : State) :
    (if c then a else b).med.tier = if c then a.med.tier else b.med.tier := apply_ite (fun s : State => s.med.tier) c a b

theorem LogOnly.sameMoves {s t : State} (h : LogOnly s t) : SameMoves s t := by rw [h.1]; exact .refl s
theorem RingOnly.sameMoves {s t : State} (h : RingOnly s t) : SameMoves s t := by rw [h]; exact .refl s

@[simp] theorem State.report_sameMoves (s : State) (k : FKind) (unit subject : Nat) (fields : List (Nat × Nat)) :
    SameMoves s (s.report k unit subject fields) := (State.submit_logOnly _ _).sameMoves

@[simp] theorem State.reportTenant_sameMoves (s : State) (k : FKind) (t : Option Nat) (subject : Nat) (fields : List (Nat × Nat)) :
    SameMoves s (s.reportTenant k t subject fields) := (State.submit_logOnly _ _).sameMoves

@[simp] theorem State.inject_sameMoves (s : State) (h : PktHdr) (d : List (BitVec 8)) : SameMoves s ((s.inject h d).getD s) :=
  (State.inject_ringOnly s h d).sameMoves

@[simp] theorem State.peak_sameMoves (s : State) (i k v : Nat) : SameMoves s (s.peak i k v) := by simp [State.peak]

@[simp] theorem State.takeFree_sameMoves (w : Nat) (s : State) : SameMoves s (s.takeFree w).2 := .refl s

@[simp] theorem State.takeBytes_sameMoves (n : Nat) (s : State) : SameMoves s (s.takeBytes n).2 := by
  induction n generalizing s with
  | zero => exact .refl s
  | succ n ih => exact SameMoves.trans (State.takeFree_sameMoves 8 s) (ih (s.takeFree 8).2)

@[simp] theorem State.clearErrors_sameMoves (s : State) (line : Nat) : SameMoves s (s.clearErrors line) := .refl s

@[simp] theorem State.tagLine_sameMoves (s : State) (line k : Nat) : SameMoves s (s.tagLine line k) := .refl s

@[simp] theorem State.dropMerge_sameMoves (s : State) (line : Nat) : SameMoves s (s.dropMerge line) := .refl s

@[simp] theorem State.enqueueBe_sameMoves (s : State) (cls port : Nat) (write : Bool) (bytes dpa : Nat) (work : BeWork) :
    SameMoves s (s.enqueueBe cls port write bytes dpa work) := .refl s

@[simp] theorem State.dropScrubs_sameMoves (s : State) (line : Nat) : SameMoves s (s.dropScrubs line) := by simp [State.dropScrubs]

/-- R44: a write to a moving extent changes the dirty pages of its moves alone. -/
@[simp] theorem State.markDirty_sameMoves (s : State) (dpa : Nat) : SameMoves s (s.markDirty dpa) := by
  refine ⟨rfl, ?_, rfl⟩
  unfold State.markDirty
  rw [List.map_map]
  refine List.map_congr_left fun m _ => ?_
  dsimp only [Function.comp_apply]
  split <;> rfl

@[simp] theorem State.applyFlip_sameMoves (s : State) (w : Nat) : SameMoves s (s.applyFlip w) := by simp [State.applyFlip]

/-! ### Parity -/

@[simp] theorem State.writeParity_sameMoves (s : State) (line : Nat) (d : BitVec 512) : SameMoves s (s.writeParity line d) := by
  simp [State.writeParity]

@[simp] theorem State.parityLost_sameMoves (s : State) (line way : Nat) : SameMoves s (s.parityLost line way) := by
  simp [State.parityLost]

@[simp] theorem State.evictParity_sameMoves (s : State) (line : Nat) : SameMoves s (s.evictParity line) := by
  simp only [State.evictParity]
  (repeat' split) <;> simp

@[simp] theorem State.fetchParity_sameMoves (s : State) (line : Nat) : SameMoves s (s.fetchParity line).2 := by
  simp only [State.fetchParity]
  (repeat' split) <;> simp

@[simp] theorem State.addParity_sameMoves (s : State) (dpa : Nat) (delta : List (BitVec 8)) : SameMoves s (s.addParity dpa delta) := by
  simp [State.addParity]

@[simp] theorem State.updateParity_sameMoves (s : State) (dpa : Nat) (delta : List (BitVec 8)) (read : Bool) :
    SameMoves s (s.updateParity dpa delta read) := by
  simp [State.updateParity]

@[simp] theorem State.freshBlock_sameMoves (s : State) (e : Nat) : SameMoves s (s.freshBlock e) := by
  simp [State.freshBlock]

/-! ### Ring parity, stores and poison -/

@[simp] theorem State.storeStored_sameMoves (s : State) (line : Nat) (d : List (BitVec 8)) : SameMoves s (s.storeStored line d) := by
  simp [State.storeStored]

@[simp] theorem State.applyDelta_sameMoves (s : State) (dpa : Nat) (delta : List (BitVec 8)) (poison : Bool) :
    SameMoves s (s.applyDelta dpa delta poison) := by
  simp [State.applyDelta]

@[simp] theorem State.sendDeltas_sameMoves (s : State) (dpa : Nat) (delta : List (BitVec 8)) (poison : Bool) :
    SameMoves s (s.sendDeltas dpa delta poison) := by
  simp [State.sendDeltas]

@[simp] theorem State.mediaDeltas_sameMoves (s : State) (e : Nat) (old new : Nat → List (BitVec 8)) : SameMoves s (s.mediaDeltas e old new) := by
  simp [State.mediaDeltas]

@[simp] theorem State.storeRaw_sameMoves (s : State) (line : Nat) (d : List (BitVec 8)) (read : Bool) :
    SameMoves s (s.storeRaw line d read) := by
  simp [State.storeRaw]

@[simp] theorem State.poisonLine_sameMoves (s : State) (line : Nat) : SameMoves s (s.poisonLine line) := by
  simp [State.poisonLine]

@[simp] theorem State.wordLost_sameMoves (s : State) (dpa port : Nat) (err : SymErrors) : SameMoves s (s.wordLost dpa port err) := by
  simp [State.wordLost]

/-- R143: a range of lines takes an armed flip. -/
@[simp] theorem State.flipRange_sameMoves (s : State) (lo hi : Nat) : SameMoves s (s.flipRange lo hi) := by
  refine foldl_sameMoves _ (fun u hbm => ?_) _ s
  (repeat' split) <;> simp

/-! ### Words that are read -/

@[simp] theorem State.pageDecoded_sameMoves (s : State) (pg word pass stall : Nat) (errs : List (Nat × BitVec 16)) :
    SameMoves s (s.pageDecoded pg word pass stall errs) := by
  simp [State.pageDecoded]

@[simp] theorem State.pageFailed_sameMoves (s : State) (pg stall word : Nat) (errs : List (Nat × BitVec 16)) :
    SameMoves s (s.pageFailed pg stall word errs) := by
  simp [State.pageFailed]

@[simp] theorem State.pageWritten_sameMoves (s : State) (pg : Nat) : SameMoves s (s.pageWritten pg) := by
  simp [State.pageWritten]

@[simp] theorem State.takeEscSlots_sameMoves (s : State) (e : Nat) (plan : Option (Nat × Nat)) (scrub : Bool) (slots : List (Nat × Nat)) :
    SameMoves s (s.takeEscSlots e plan scrub slots) := by
  simp [State.takeEscSlots]

@[simp] theorem State.recover_sameMoves (s : State) (word : Nat) : SameMoves s (s.recover word).2 := by
  simp only [State.recover]
  (repeat' split) <;> simp

@[simp] theorem State.countUnit_sameMoves (s : State) (u : Nat × Nat × Nat) : SameMoves s (s.countUnit u) := by
  simp [State.countUnit]

@[simp] theorem State.countCorrected_sameMoves (s : State) (dpa : Nat) (syms : List (Nat × Nat)) : SameMoves s (s.countCorrected dpa syms) := by
  simp [State.countCorrected]

@[simp] theorem State.readWord_sameMoves (s : State) (word port : Nat) (r : WordResult) : SameMoves s (s.readWord word port r).2 := by
  simp only [State.readWord, State.countUe]
  (repeat' split) <;> simp

theorem State.copyWords_sameMoves (s : State) (e : Nat) (inPlace : Bool) : SameMoves s (s.copyWords e inPlace) := by
  simp [State.copyWords]

end Machine
end Sys2Proof

namespace Sys2Proof
namespace Machine

/-! Shared regions, descriptors and the moves of extents (R333, R337-R339, R346-R348). -/

/-! ### Regions -/

section
variable {s : State} {r : Nat}

/-- The region is enabled in a state. -/
def State.withRegion (s : State) (r : Nat) : State := { s with reg := { s.reg with enabled := r :: s.reg.enabled } }

theorem addNew_of_not_contains {l : List Nat} {k : Nat} (h : l.contains k = false) : addNew l k = k :: l := by
  unfold addNew
  rw [h]
  rfl

theorem regionCommand_enable (ho : s.reg.enabled.contains r = false) :
    regionCommand r 1 s = if s.regionGood r then done (s.withRegion r) else refuse stRange s := by
  unfold regionCommand State.withRegion
  dsimp only
  rw [ho, addNew_of_not_contains ho]
  cases s.regionGood r <;> rfl

/-- R333: a region is enabled fresh with a record of zeros, whose store leaves the other regions as they are. -/
theorem regionCommand_enableFresh (ho : s.reg.enabled.contains r = false) : regionCommand r 2 s = if s.regionGood r
    then done ((s.storeRaw (s.recordDpa r / 64) (List.replicate 64 0)).withRegion r) else refuse stRange s := by
  have ho' : (s.storeRaw (s.recordDpa r / 64) (List.replicate 64 0)).reg.enabled.contains r = false := by
    rw [(State.storeRaw_sameMoves ..).enabled, ho]
  unfold regionCommand State.withRegion
  dsimp only
  rw [ho, addNew_of_not_contains ho']
  cases s.regionGood r <;> rfl

theorem regionCommand_disable_off (ho : s.reg.enabled.contains r = false) : regionCommand r 3 s = refuse stState s := by
  unfold regionCommand
  dsimp only
  rw [ho]
  rfl

section
variable (ho : s.reg.enabled.contains r = true)
include ho

theorem regionCommand_enable_on : regionCommand r 1 s = refuse stState s := if_pos ho
theorem regionCommand_enableFresh_on : regionCommand r 2 s = refuse stState s := if_pos ho
theorem regionCommand_disable_on :
    regionCommand r 3 s = done { s with reg := { s.reg with enabled := s.reg.enabled.erase r } } := if_pos ho

end
end

/-! ### Descriptors -/

/-- What the answer to a descriptor tells of the record's version: a free value where the record is poison. -/
def State.tellVersion (s : State) (bad : Bool) (st v : Nat) : (Nat × Nat) × State :=
  if bad then ((st, (s.takeFree 64).1.toNat), (s.takeFree 64).2) else ((st, v), s)

/-- R337: a descriptor to a publish line in HDM-DB reaches the home agent. -/
theorem execPublishDescriptor_runs {s : State} {who : BitVec 16} {r : Fin 256} {bank : Fin 4} {d : BitVec 512}
    (h : s.isHdmDb (((s.regionPublish r.val).1 / 64 + bank.val) * 64) = true) : execPublishDescriptor who r bank d s =
    ok (s.runPublish (s.publisherAgent who.toNat) who.toNat r.val bank.val ((s.regionPublish r.val).1 / 64 + bank.val) d) := by
  simp [execPublishDescriptor, h]

theorem execPublishDescriptor_elsewhere {s : State} {who : BitVec 16} {r : Fin 256} {bank : Fin 4} {d : BitVec 512}
    (h : s.isHdmDb (((s.regionPublish r.val).1 / 64 + bank.val) * 64) = false) : execPublishDescriptor who r bank d s = ok s := by
  simp [execPublishDescriptor, h]

/-- The bank's publisher passes the check of who publishes. -/
theorem publisher_passes {who p : Nat} (h : who = p ∧ who ≠ 0xFFFF) : (decide (who ≠ p) || decide (who = 0xFFFF)) = false := by
  simpa using h

/-- A descriptor without reserved bits, of a version that is not 0, passes the check of its form. -/
theorem form_passes {d : BitVec 512} (h : bits d 63 0 ≠ 0 ∧ bits d 127 104 = 0 ∧ bits d 255 224 = 0) :
    (decide (bits d 63 0 = 0) || decide (bits d 127 104 ≠ 0) || decide (bits d 255 224 ≠ 0)) = false := by
  simpa [and_assoc] using h

section
variable {s s1 : State} {who r bank : Nat} {d : BitVec 512} {old : List (BitVec 8)} {bad : Bool}
  (hq : s.readBytes (s.recordDpa r) 64 = ((old, bad), s1))
include hq

theorem State.publish_disabled (ho : s.reg.enabled.contains r = false) :
    s.publish who r bank d = s1.tellVersion bad 4 (bitsAt (leNat old) 63 0) := by
  unfold State.publish
  rw [hq]
  dsimp only
  rw [ho]
  rfl

variable (ho : s.reg.enabled.contains r = true)
include ho

/-- R338: only the bank's publisher may publish to it. -/
theorem State.publish_stranger (hm : ¬ (who = s.par (0x5A00 + r) (7 + bank) ∧ who ≠ 0xFFFF)) :
    s.publish who r bank d = s1.tellVersion bad 2 (bitsAt (leNat old) 63 0) := by
  have hm' : (decide (who ≠ s.par (0x5A00 + r) (7 + bank)) || decide (who = 0xFFFF)) = true := by
    simpa [or_iff_not_imp_left] using hm
  unfold State.publish
  rw [hq]
  dsimp only
  rw [ho, hm']
  rfl

variable (hm : who = s.par (0x5A00 + r) (7 + bank) ∧ who ≠ 0xFFFF)
include hm

theorem State.publish_malformed (hf : ¬ (bits d 63 0 ≠ 0 ∧ bits d 127 104 = 0 ∧ bits d 255 224 = 0)) :
    s.publish who r bank d = s1.tellVersion bad 5 (bitsAt (leNat old) 63 0) := by
  have hf' : (decide (bits d 63 0 = 0) || decide (bits d 127 104 ≠ 0) || decide (bits d 255 224 ≠ 0)) = true := by
    simpa [or_iff_not_imp_left] using hf
  unfold State.publish
  rw [hq]
  dsimp only
  rw [ho, publisher_passes hm, hf']
  rfl

variable (hf : bits d 63 0 ≠ 0 ∧ bits d 127 104 = 0 ∧ bits d 255 224 = 0)
include hf

/-- R339: a good descriptor finds the record poison. -/
theorem State.publish_poison (hb : bad = true) :
    let f := (s1.report kPublishRecordPoison (s.par (0x5A00 + r) 1) 0 [(32, r), (64, s.recordDpa r), (32, who)]).takeFree 64
    s.publish who r bank d = ((6, f.1.toNat), f.2) := by
  unfold State.publish
  rw [hq]
  dsimp only
  rw [ho, publisher_passes hm, form_passes hf, hb]
  rfl

/-- R338: a good descriptor publishes the next version to a free bank. -/
theorem State.publish_clean (hb : bad = false) : s.publish who r bank d =
    if bits d 63 0 ≠ bitsAt (leNat old) 63 0 + 1 then ((1, bitsAt (leNat old) 63 0), s1)
    else if bankFree (leNat old) bank = false then ((3, bitsAt (leNat old) 63 0), s1)
    else ((0, bits d 63 0), s1.storeRaw (s.recordDpa r / 64)
      (packRecord (bits d 63 0) bank (bitsAt (leNat old) 65 64) (bitAt (leNat old) 66) who s.now (bits d 511 256))) := by
  unfold State.publish
  rw [hq]
  dsimp only
  rw [ho, publisher_passes hm, form_passes hf, hb]
  cases bankFree (leNat old) bank <;> rfl

end

/-! ### Rounds of a move -/

theorem State.ch_of_moveOn {s : State} {n : Nat} {m : Move} (h : s.moveOn n = some m) : m.ch = n := by
  simpa using List.find?_some h

section
variable {s : State} {n : Fin 16}

theorem execMigration_idle (h : s.moveOn n.val = none) : execMigrationRoundDone n s = ok s ∧
    execMigrationFinalPassDone n s = ok s ∧ execMigrationZeroFillDone n s = ok s := by
  simp [execMigrationRoundDone, execMigrationFinalPassDone, execMigrationZeroFillDone, h]

variable {m : Move} (hm : s.moveOn n.val = some m)
include hm

/-- R347: a move whose vacated media is being zeroed takes no more pass. -/
theorem execMigration_zeroing (hz : m.zero = true) : execMigrationRoundDone n s = ok s ∧ execMigrationFinalPassDone n s = ok s := by
  simp [execMigrationRoundDone, execMigrationFinalPassDone, hm, hz]

theorem execMigrationFinalPassDone_early (h : m.round ≠ 5 ∨ s.moveHeld m = true) : execMigrationFinalPassDone n s = ok s := by
  rcases h with h | h <;> simp [execMigrationFinalPassDone, hm, h]

variable (hz : m.zero = false)
include hz

theorem execMigrationRoundDone_next (hr : m.round < 4) :
    execMigrationRoundDone n s = ok (s.putMove m { m with round := m.round + 1, dirty := [] }) := by
  simp [execMigrationRoundDone, hm, hz, hr, show ¬ 4 < m.round by omega]

theorem execMigrationRoundDone_past (hr : 4 < m.round) : execMigrationRoundDone n s = ok s := by
  simp [execMigrationRoundDone, hm, hz, hr]

/-- R348: a fourth round is repeated while a plan may write the extent. -/
theorem execMigrationRoundDone_held (hr : m.round = 4) (hh : s.moveHeld m = true) :
    execMigrationRoundDone n s = ok (s.putMove m { m with dirty := [] }) := by
  simp [execMigrationRoundDone, hm, hz, hr, hh]

theorem execMigrationRoundDone_final (hr : m.round = 4) (hh : s.moveHeld m = false) (hd : m.dirty.length ≤ 64) :
    execMigrationRoundDone n s = ok (s.putMove m { m with round := 5 }) := by
  simp [execMigrationRoundDone, hm, hz, hr, hh, Nat.not_lt.mpr hd]

theorem execMigrationRoundDone_abandons (hr : m.round = 4) (hh : s.moveHeld m = false) (hd : 64 < m.dirty.length) :
    execMigrationRoundDone n s = ok (({ s.abandonMove m with
        reg := { (s.abandonMove m).reg with backoff := addNew (s.abandonMove m).reg.backoff m.extent } } : State).reportTenant
      kMigrationAbandoned (s.owner (m.extent * 2 ^ 21)) 0 [(32, m.extent), (32, m.dirty.length)]) := by
  simp [execMigrationRoundDone, hm, hz, hr, hh, hd]

theorem execMigrationZeroFillDone_early : execMigrationZeroFillDone n s = ok s := by
  simp [execMigrationZeroFillDone, hm, hz]

end

/-! ### The final pass -/

/-- The same moves are found on a channel, their dirty pages apart. -/
theorem SameMoves.moveOn {s t : State} (h : SameMoves s t) (n : Nat) : (t.moveOn n).map Move.still = (s.moveOn n).map Move.still := by
  have hf (l : List Move) : (l.find? (fun m => m.ch = n)).map Move.still = (l.map Move.still).find? (fun m => m.ch = n) := by
    rw [List.find?_map]
    rfl
  unfold State.moveOn
  rw [hf, hf, h.moves]

theorem SameMoves.moveOn_some {s t : State} (h : SameMoves s t) {n : Nat} {m : Move} (hm : s.moveOn n = some m) :
    ∃ x, t.moveOn n = some x ∧ x.still = m.still := by
  have hx := h.moveOn n
  rw [hm, Option.map_some, Option.map_eq_some_iff] at hx
  exact hx

/-- A move that is put in place of those of its channel is the one found there. -/
theorem State.moveOn_putMove {s : State} {n : Nat} {m x m' : Move} (hc : m.ch = n) (hx : s.moveOn n = some x) (hm' : m'.ch = n) :
    (s.putMove m m').moveOn n = some m' := by
  subst hc
  unfold State.moveOn State.putMove at *
  generalize s.reg.moves = l at hx
  induction l with
  | nil => cases hx
  | cons y l ih =>
    rw [List.map_cons]
    by_cases hy : y.ch = m.ch
    · rw [if_pos hy]
      exact List.find?_cons_of_pos (by simpa using hm')
    · rw [if_neg hy, List.find?_cons_of_neg (by simpa using hy)]
      exact ih ((List.find?_cons_of_neg (by simpa using hy)).symm.trans hx)

theorem State.ringClass_copyWords (s : State) (e : Nat) (inPlace : Bool) : (s.copyWords e inPlace).ringClass = s.ringClass := by
  have h : (s.copyWords e inPlace).opt = s.opt := by simp [State.copyWords]
  unfold State.ringClass State.option
  rw [h]

/-- R407: a chip without a ring holds no ring parity. -/
theorem State.mediaDeltas_of_noRing {s : State} (h : s.ringClass = 0) (e : Nat) (old new : Nat → List (BitVec 8)) :
    s.mediaDeltas e old new = s := if_pos h

theorem State.swapBlock_sameMoves (s : State) (m : Move) : SameMoves s (s.swapBlock m) := by
  unfold State.swapBlock
  dsimp only
  split <;> exact .refl s

/-- The state as the final pass finds it: the extent's words are read, and the move is counted. -/
def State.passed (s : State) (m : Move) (own : Bool) : State := (s.copyWords m.extent own).bump 64 0x5B00 2

theorem State.passed_sameMoves (s : State) (m : Move) (own : Bool) : SameMoves s (s.passed m own) := s.copyWords_sameMoves m.extent own

theorem State.passed_mem (s : State) (m : Move) (own : Bool) : (s.passed m own).med.mem = s.med.mem := s.copyWords_mem m.extent own

/-- R347, R407, log entry 162: the final pass to other media: the ring parity of both media follows, the extent takes its parity block and the
unowned one the vacated media's, the entry is mapped, and the vacated media wait for their zero-fill. -/
def State.movedAway (s : State) (m : Move) : State :=
  let data := fun i => s.storedBytes (m.extent * 32768 + i)
  let s1 := (s.mediaDeltas m.partner (fun i => s.storedBytes (m.partner * 32768 + i)) data).mediaDeltas m.extent data
    (fun _ => List.replicate 64 0)
  (((s1.setBlock m.extent m.unit (armourUnits (bits m.dest 27 25))).swapBlock m).setEntry m.extent m.dest).putMove m { m with zero := true }

section
variable {s : State} {n : Fin 16} {m : Move} (hm : s.moveOn n.val = some m) (hz : m.zero = false) (hr : m.round = 5)
  (hh : s.moveHeld m = false)
include hm hz hr hh

/-- R349: a change of ARMOUR alone is done with the final pass. -/
theorem execMigrationFinalPassDone_own (ho : m.partner = m.extent) : execMigrationFinalPassDone n s =
    ok (((((s.passed m true).dropMove m).setEntry m.extent m.dest).setBlock m.extent m.unit (armourUnits (bits m.dest 27 25))).freshBlock
      m.extent) := by
  simp [execMigrationFinalPassDone, hm, hz, hr, hh, ho, State.passed]

theorem execMigrationFinalPassDone_away (ho : m.partner ≠ m.extent) : execMigrationFinalPassDone n s =
    ok (((s.passed m false).fatalLines m.extent).foldl State.poisonLine (((s.passed m false).movedAway m).freshBlock m.extent)) := by
  simp [execMigrationFinalPassDone, hm, hz, hr, hh, ho, State.passed, State.movedAway]

end

/-- Once the entry is mapped, the fresh parity and the poison of lines on fatal slices (R77, R347) leave the moves and the tier map as they are. -/
theorem State.passedAway_sameMoves (s : State) (m : Move) : SameMoves ((s.passed m false).movedAway m)
    (((s.passed m false).fatalLines m.extent).foldl State.poisonLine (((s.passed m false).movedAway m).freshBlock m.extent)) :=
  (State.freshBlock_sameMoves _ _).trans (foldl_sameMoves _ State.poisonLine_sameMoves _ _)

theorem State.movedAway_tier (s : State) (m : Move) : Tab.find? (s.movedAway m).med.tier m.extent = some m.dest := Tab.find_set_same _ _ _

theorem State.movedAway_mem {s : State} (h : s.ringClass = 0) (m : Move) : (s.movedAway m).med.mem = s.med.mem := by
  unfold State.movedAway
  dsimp only
  rw [State.mediaDeltas_of_noRing h, State.mediaDeltas_of_noRing h]
  exact State.swapBlock_mem m _

/-- R347: the move waits on its channel for the zero-fill. -/
theorem State.movedAway_moveOn {s : State} {n : Nat} {m x : Move} (hc : m.ch = n) (hx : s.moveOn n = some x) :
    (s.movedAway m).moveOn n = some { m with zero := true } := by
  unfold State.movedAway
  extract_lets data s1
  have h1 : SameMoves s s1 := (State.mediaDeltas_sameMoves s _ _ _).trans (State.mediaDeltas_sameMoves _ _ _ _)
  have h2 : SameMoves s (((s1.setBlock m.extent m.unit (armourUnits (bits m.dest 27 25))).swapBlock m)) :=
    h1.trans (State.swapBlock_sameMoves (s1.setBlock m.extent m.unit (armourUnits (bits m.dest 27 25))) m)
  obtain ⟨y, hy, -⟩ := h2.moveOn_some hx
  exact State.moveOn_putMove (x := y) hc hy hc

/-- What MIGRATION_FINAL_PASS_DONE leaves (R347, R349). -/
theorem execMigrationFinalPassDone_maps {s : State} {n : Fin 16} {m : Move} (hm : s.moveOn n.val = some m) (hz : m.zero = false)
    (hr : m.round = 5) (hh : s.moveHeld m = false) :
    ∃ t, execMigrationFinalPassDone n s = ok t ∧ Tab.find? t.med.tier m.extent = some m.dest ∧ (s.ringClass = 0 → t.med.mem = s.med.mem) ∧
      (m.partner = m.extent → ∀ x, x ∈ t.reg.moves → x.ch ≠ n.val) ∧
      (m.partner ≠ m.extent → ∃ x, t.moveOn n.val = some x ∧ x.still = { m with zero := true }.still) := by
  have hc := State.ch_of_moveOn hm
  by_cases ho : m.partner = m.extent
  · refine ⟨_, execMigrationFinalPassDone_own hm hz hr hh ho, ?_, fun _ => ?_, fun _ x hx => ?_, fun h => absurd ho h⟩
    · rw [(State.freshBlock_sameMoves _ _).tier]
      exact Tab.find_set_same _ _ _
    · rw [State.freshBlock_mem]
      exact s.passed_mem m true
    · have hx' := List.mem_map_of_mem (f := Move.still) hx
      rw [(State.freshBlock_sameMoves _ _).moves] at hx'
      obtain ⟨y, hy, he⟩ := List.mem_map.mp hx'
      have hy' : y.ch ≠ m.ch := by simpa using (List.mem_filter.mp hy).2
      rw [← hc, show x.ch = y.ch from (congrArg Move.ch he).symm]
      exact hy'
  · have hp := s.passedAway_sameMoves m
    refine ⟨_, execMigrationFinalPassDone_away hm hz hr hh ho, ?_, fun h0 => ?_, fun h => absurd h ho, fun _ => ?_⟩
    · rw [hp.tier]
      exact State.movedAway_tier _ m
    · rw [foldl_mem _ (fun u l => State.poisonLine_mem l u), State.freshBlock_mem,
        State.movedAway_mem (s := s.passed m false) ((s.ringClass_copyWords m.extent false).trans h0), State.passed_mem]
    · obtain ⟨x, hx, -⟩ := (s.passed_sameMoves m false).moveOn_some hm
      exact hp.moveOn_some (State.movedAway_moveOn hc hx)

/-! ### The zero-fill -/

theorem State.zeroExtent_mem (s : State) (e : Nat) : (s.zeroExtent e).med.mem = Mem.zero s.med.mem (e * 2 ^ 21) (2 ^ 21) := by
  unfold State.zeroExtent
  dsimp only
  rw [State.flipRange_mem, State.freshBlock_mem]

theorem State.applyFlip_reg (s : State) (w : Nat) : (s.applyFlip w).reg = s.reg := by
  unfold State.applyFlip
  dsimp only
  split <;> rfl

theorem State.writeParity_reg (s : State) (line : Nat) (d : BitVec 512) : (s.writeParity line d).reg = s.reg := by
  unfold State.writeParity
  split
  · rfl
  · exact foldl_keeps State.reg State.applyFlip_reg _ _

theorem State.freshBlock_reg (s : State) (e : Nat) : (s.freshBlock e).reg = s.reg := by
  unfold State.freshBlock
  dsimp only
  split
  · rfl
  · refine foldl_keeps State.reg (fun u j => ?_) _ _
    rw [State.writeParity_reg]

theorem State.flipRange_reg (s : State) (lo hi : Nat) : (s.flipRange lo hi).reg = s.reg := by
  refine foldl_keeps State.reg (fun u hbm => ?_) _ s
  split
  · split
    · exact u.applyFlip_reg _
    · rfl
  · rfl

/-- R347: a zero-fill writes no page of a moving extent. -/
theorem State.zeroExtent_reg (s : State) (e : Nat) : (s.zeroExtent e).reg = s.reg := by
  unfold State.zeroExtent
  dsimp only
  rw [State.flipRange_reg, State.freshBlock_reg]

theorem State.zeroExtent_tier (s : State) (e : Nat) : (s.zeroExtent e).med.tier = s.med.tier := by
  unfold State.zeroExtent
  dsimp only
  rw [(State.flipRange_sameMoves _ _ _).tier, (State.freshBlock_sameMoves _ _).tier]

/-- A field that has been replaced reads as the value written (R11). -/
theorem bitsAt_setBits_same {n hi lo v : Nat} (h : lo ≤ hi) : bitsAt (setBits n hi lo v) hi lo = v % 2 ^ (hi + 1 - lo) := by
  have hp : 2 ^ (hi + 1) = 2 ^ (hi + 1 - lo) * 2 ^ lo := by rw [← pow_add]; congr 1; omega
  have hn : n % 2 ^ lo < 2 ^ lo := Nat.mod_lt _ (Nat.two_pow_pos _)
  unfold bitsAt setBits
  rw [Nat.shiftLeft_eq, Nat.shiftLeft_eq, hp, ← Nat.mul_assoc, ← Nat.add_mul, Nat.shiftRight_eq_div_pow, Nat.add_comm (_ * _) (n % _),
    Nat.add_mul_div_right _ _ (Nat.two_pow_pos _), Nat.div_eq_of_lt hn, Nat.zero_add, Nat.mul_add_mod_self_right, Nat.mod_mod]

/-- The entry of vacated media: MAPPED on the source, with the ARMOUR of the block that it has been given. -/
def Move.vacated (m : Move) (armour : Nat) : BitVec 32 := BitVec.ofNat 32 (setBits (setBits m.source.toNat 24 23 1) 27 25 armour)

theorem Move.bits_vacated (m : Move) (armour : Nat) :
    bits (m.vacated armour) 24 23 = 1 ∧ bits (m.vacated armour) 22 0 = bits m.source 22 0 := by
  have h (hi lo : Nat) (hl : lo ≤ hi) (hb : hi < 25) :
      bits (m.vacated armour) hi lo = bitsAt (setBits m.source.toNat 24 23 1) hi lo := by
    unfold bits Move.vacated
    rw [BitVec.toNat_ofNat, bitsAt_congr_low (Nat.mod_mod _ _) (by omega) hl, bitsAt_setBits_below (by decide) hb hl]
  refine ⟨?_, ?_⟩
  · rw [h 24 23 (by decide) (by decide), bitsAt_setBits_same (by decide)]
    rfl
  · rw [h 22 0 (by decide) (by decide), bitsAt_setBits_below (by decide) (by decide) (by decide)]
    rfl

theorem execMigrationZeroFillDone_zeroed {s : State} {n : Fin 16} {m : Move} (hm : s.moveOn n.val = some m) (hz : m.zero = true) :
    execMigrationZeroFillDone n s =
      ok (((s.dropMove m).setEntry m.partner (m.vacated (armourOf (s.armourBlock m.partner).2))).zeroExtent m.partner) := by
  simp [execMigrationZeroFillDone, hm, hz, Move.vacated]

/-- What MIGRATION_ZERO_FILL_DONE leaves (R347). -/
theorem execMigrationZeroFillDone_spec {s : State} {n : Fin 16} {m : Move} (hm : s.moveOn n.val = some m) (hz : m.zero = true) :
    ∃ t, execMigrationZeroFillDone n s = ok t ∧ t.reg.moves = s.reg.moves.filter (fun x => x.ch ≠ n.val) ∧
      t.med.mem = Mem.zero s.med.mem (m.partner * 2 ^ 21) (2 ^ 21) ∧
      Tab.find? t.med.tier m.partner = some (m.vacated (armourOf (s.armourBlock m.partner).2)) := by
  refine ⟨_, execMigrationZeroFillDone_zeroed hm hz, ?_, State.zeroExtent_mem _ _, ?_⟩
  · rw [State.zeroExtent_reg, ← State.ch_of_moveOn hm]
    rfl
  · rw [State.zeroExtent_tier]
    exact Tab.find_set_same _ _ _

/-- Settles O54: a region's command and a descriptor by what is checked of them, an event of a move by how far the move is. -/
theorem regionsPublishAndMigrate : Obligations.RegionsPublishAndMigrate := by
  unfold Obligations.RegionsPublishAndMigrate
  refine ⟨fun s c r hs => ?_, fun s who r bank d => ?_, fun s s1 who r bank d old bad hq => ?_, fun s n m hm hz => ?_, fun s n m hm hz => ?_,
    fun s n h => execMigration_idle h, fun s e => rfl⟩
  · have ha {v st u} (e : regionCommand r.val v (s.modClient c id) = (st, 0, u)) (val) :
        s.request c (0x5A00 + r.val) 12 val (regionCommand r.val v) = u.answer c st 0 := State.request_eq_of_op hs e
    intro s0 on tells
    have hb {st u} (e : regionCommand r.val 1 s0 = (st, 0, u)) : tells (.regionEnable c r) st u := congrArg ok (ha e _)
    have hf {st u} (e : regionCommand r.val 2 s0 = (st, 0, u)) : tells (.regionEnableFresh c r) st u := congrArg ok (ha e _)
    have hx {st u} (e : regionCommand r.val 3 s0 = (st, 0, u)) : tells (.regionDisable c r) st u := congrArg ok (ha e _)
    refine ⟨fun (ho : s0.reg.enabled.contains r.val = false) => ⟨fun hg => ⟨hb ?_, hf ?_⟩, fun hg => ⟨hb ?_, hf ?_⟩,
      hx (regionCommand_disable_off ho)⟩, fun (ho : s0.reg.enabled.contains r.val = true) =>
      ⟨hb (regionCommand_enable_on ho), hf (regionCommand_enableFresh_on ho), hx (regionCommand_disable_on ho)⟩⟩
    · exact (regionCommand_enable ho).trans (if_pos hg)
    · exact (regionCommand_enableFresh ho).trans (if_pos hg)
    · exact (regionCommand_enable ho).trans (if_neg (by simp [hg]))
    · exact (regionCommand_enableFresh ho).trans (if_neg (by simp [hg]))
  · exact ⟨execPublishDescriptor_runs, execPublishDescriptor_elsewhere⟩
  · intro v tellsRec mine form
    refine ⟨fun ho => State.publish_disabled hq ho, fun ho => ⟨fun hm => State.publish_stranger hq ho hm,
      fun hm hf => State.publish_malformed hq ho hm hf, fun hm hf hb => State.publish_poison hq ho hm hf hb, fun hm hf hb => ?_⟩⟩
    have hc := State.publish_clean hq ho hm hf hb
    have ht (st : Nat) : s1.tellVersion bad st v = ((st, v), s1) := by rw [hb]; rfl
    refine ⟨fun hv => ?_, fun hv hk => ?_, fun hv hk => ?_⟩
    · exact (hc.trans (if_pos hv)).trans (ht 1).symm
    · rw [if_neg (not_not_intro hv), if_pos hk] at hc
      exact hc.trans (ht 3).symm
    · rw [if_neg (not_not_intro hv), if_neg (by simp [hk]), hv] at hc
      exact hc
  · refine ⟨execMigrationRoundDone_next hm hz, execMigrationRoundDone_held hm hz,
      fun hr hh => ⟨execMigrationRoundDone_final hm hz hr hh, execMigrationRoundDone_abandons hm hz hr hh⟩, execMigrationRoundDone_past hm hz,
      fun hr hh => ?_, execMigrationFinalPassDone_early hm, execMigrationZeroFillDone_early hm hz⟩
    obtain ⟨t, ht, htier, hmem, hown, haway⟩ := execMigrationFinalPassDone_maps hm hz hr hh
    refine ⟨t, ht, htier, fun h0 a => by rw [hmem h0], hown, fun ho => ?_⟩
    obtain ⟨x, hx, he⟩ := haway ho
    exact ⟨x, hx, (congrArg Move.zero he :), (congrArg Move.extent he :), (congrArg Move.partner he :)⟩
  · obtain ⟨t, ht, hmoves, hmem, htier⟩ := execMigrationZeroFillDone_spec hm hz
    obtain ⟨hst, hmedia⟩ := m.bits_vacated (armourOf (s.armourBlock m.partner).2)
    refine ⟨⟨t, _, ht, hmoves, fun a h1 h2 => ?_, fun a ha => ?_, htier, hst, hmedia⟩, execMigration_zeroing hm hz⟩
    · rw [hmem, Mem.get_zero, if_pos ⟨h1, h2⟩]
    · rw [hmem, Mem.get_zero, if_neg (by omega)]

end Machine
end Sys2Proof

namespace Sys2Proof
namespace Machine

/-! The state of a pool link (14): what the traffic on the ring leaves of it, and the width that training gives. -/

/-- What the states of R400 speak of: LINK_STATE, the hold, LINK_WIDTH and the failures in a row. -/
def Link.face (l : Link) : LinkSt × Bool × Nat × Nat := (l.st, l.held, l.width, l.fails)

/-- Every link keeps its state, hold, width and failures, and the ring its check of R20. -/
def LinksKept (s t : State) : Prop := t.pool.broken = s.pool.broken ∧ ∀ q, (t.linkAt q).face = (s.linkAt q).face

theorem LinksKept.refl (s : State) : LinksKept s s := ⟨rfl, fun _ => rfl⟩

theorem LinksKept.trans {s t u : State} (h : LinksKept s t) (k : LinksKept t u) : LinksKept s u :=
  ⟨k.1.trans h.1, fun q => (k.2 q).trans (h.2 q)⟩

theorem LinksKept.st {s t : State} (h : LinksKept s t) (q : Nat) : (t.linkAt q).st = (s.linkAt q).st := congrArg (·.1) (h.2 q)

theorem LinksKept.held {s t : State} (h : LinksKept s t) (q : Nat) : (t.linkAt q).held = (s.linkAt q).held :=
  congrArg (·.2.1) (h.2 q)

/-- A change of a link that keeps its state, hold, width and failures keeps those of every link. -/
theorem State.modLink_linksKept {s : State} {p : Nat} {f : Link → Link} (h : (f (s.linkAt p)).face = (s.linkAt p).face) :
    LinksKept s (s.modLink p f) := by
  refine ⟨rfl, fun q => ?_⟩
  by_cases hq : q = p
  · rw [hq, State.linkAt_modLink, h]
  · rw [State.linkAt_modLink_other _ _ hq]

/-- What a flit counts and sends leaves the links. -/
theorem State.sent_linksKept {s t : State} (h : LinksKept s t) (i n : Nat) (o : Out) : LinksKept s ((t.light i n).emit o) := h

theorem State.pumpN_linksKept (n p : Nat) (s : State) : LinksKept s (State.pumpN n p s) := by
  induction n generalizing s with
  | zero => exact .refl s
  | succ n ih =>
    unfold State.pumpN
    dsimp only
    split
    · exact .refl s
    · split
      · -- a packet leaves: only queues, counts and sequence numbers of links differ
        refine LinksKept.trans (State.sent_linksKept ?_ _ _ _) (ih _)
        split
        · exact (State.modLink_linksKept (by rfl)).trans (State.modLink_linksKept (by rfl))
        · exact State.modLink_linksKept (by rfl)
      · exact .refl s

theorem State.sendOn_linksKept (s : State) (p : Nat) (h : PktHdr) (d : List (BitVec 8)) (q : Option (Nat × Nat)) :
    LinksKept s (s.sendOn p h d q) :=
  LinksKept.trans (State.modLink_linksKept rfl) (State.pumpN_linksKept _ p _)

theorem State.inject_linksKept {s t : State} {h : PktHdr} {d : List (BitVec 8)} (e : s.inject h d = some t) : LinksKept s t := by
  unfold State.inject State.forward at e
  split at e
  · cases e
  · split at e
    · cases e
    · cases e
      exact State.sendOn_linksKept _ _ _ _ _

theorem foldl_linksKept {α : Type} {f : State → α → State} (h : ∀ s x, LinksKept s (f s x)) (l : List α) (s : State) :
    LinksKept s (l.foldl f s) := by
  induction l generalizing s with
  | nil => exact .refl s
  | cons x l ih => exact (h s x).trans (ih _)

theorem State.injectOr_linksKept (s : State) (h : PktHdr) (d : List (BitVec 8)) : LinksKept s ((s.inject h d).getD s) := by
  cases e : s.inject h d with
  | none => exact .refl s
  | some t => exact State.inject_linksKept e

theorem State.sendStored_linksKept (s : State) : LinksKept s s.sendStored := by
  unfold State.sendStored
  refine LinksKept.trans (t := { s with pool := { s.pool with stored := [] } }) ⟨rfl, fun _ => rfl⟩ ?_
  refine foldl_linksKept (fun s d => ?_) _ _
  exact LinksKept.trans (t := { s with pool := { s.pool with deltas := s.pool.deltas ++ [(d.1, d.2, s.now)] } })
    ⟨rfl, fun _ => rfl⟩ (State.injectOr_linksKept _ _ _)

/-- POOL_READY follows the links and changes none (R404). -/
theorem State.updateReady_linksKept (s : State) : LinksKept s s.updateReady := by
  unfold State.updateReady
  dsimp only
  split
  · exact ⟨rfl, fun _ => rfl⟩
  · split
    · split
      · exact .refl s
      · exact LinksKept.trans (t := { s with pool := { s.pool with ready := true } }) ⟨rfl, fun _ => rfl⟩ (State.sendStored_linksKept _)
    · exact .refl s

/-- A link takes the state it is sent to, or DOWN while the ring is broken (R20). -/
theorem State.linkAt_linkTo_st (s : State) (p : Nat) (st : LinkSt) :
    ((s.linkTo p st).linkAt p).st = if s.pool.broken then .down else st := by
  unfold State.linkTo
  rw [(State.updateReady_linksKept _).st, State.linkAt_modLink]

theorem State.linkAt_linkTo_other (s : State) {p q : Nat} (st : LinkSt) (h : q ≠ p) :
    ((s.linkTo p st).linkAt q).face = (s.linkAt q).face := by
  unfold State.linkTo
  rw [(State.updateReady_linksKept _).2, State.linkAt_modLink_other _ _ h]

@[simp] theorem State.linkTo_broken (s : State) (p : Nat) (st : LinkSt) : (s.linkTo p st).pool.broken = s.pool.broken :=
  (State.updateReady_linksKept _).1

/-- A port in TRAINING that no block reset holds comes up at the width of `lanes` (R403). -/
theorem execPmdTrainingDone_up {s : State} {p : Fin 4} {lanes : Nat} (ht : (s.linkAt p.val).st = .training)
    (hi : s.rst.isolated.contains (.link p) = false) (hl : 4 ≤ lanes) :
    exec (.pmdTrainingDone p lanes) s =
      let w := codeLanes (lanesCode lanes)
      let s1 := (s.linkTo p.val .aligning).modLink p.val (fun l => { l with width := w, fails := 0 })
      .next (if w < 16 then s1.report kLinkWidthReduced p.val 0 [(32, p.val), (32, w)] else s1) := by
  show execPmdTrainingDone p lanes s = _
  unfold execPmdTrainingDone
  rw [if_neg (by rw [ht, hi]; simpa using hl)]
  rfl

/-- Settles O6, by the width code of each range of lanes; that the link keeps its state and width through what POOL_READY
sends is `State.linkAt_linkTo_st`. -/
theorem linkWidthAfterTraining : Obligations.LinkWidthAfterTraining := by
  unfold Obligations.LinkWidthAfterTraining
  intro s p lanes ht hi
  refine ⟨fun h => ?_, fun h1 h2 => ?_, fun h1 h2 => ?_, fun h => ?_, fun w => ⟨?_, ?_⟩⟩
  · have hw : codeLanes (lanesCode lanes) = 16 := by simp [lanesCode, codeLanes, h]
    rw [execPmdTrainingDone_up ht hi (by omega), hw]
    rfl
  · have hw : codeLanes (lanesCode lanes) = 8 := by simp [lanesCode, codeLanes, h1, Nat.not_le.2 h2]
    rw [execPmdTrainingDone_up ht hi (by omega), hw]
    rfl
  · have hw : codeLanes (lanesCode lanes) = 4 := by
      simp [lanesCode, codeLanes, Nat.not_le.2 h2, show ¬ 16 ≤ lanes by omega]
    rw [execPmdTrainingDone_up ht hi h1, hw]
    rfl
  · show execPmdTrainingDone p lanes s = _
    unfold execPmdTrainingDone
    rw [if_pos (by simp [h])]
    rfl
  · rw [State.linkAt_modLink]
    exact State.linkAt_linkTo_st s p.val .aligning
  · rw [State.linkAt_modLink]

end Machine
end Sys2Proof

namespace Sys2Proof
namespace Machine

/-! The states of a pool link (R400-R402) and its checks (R19, R20, R379). -/

/-! ### A ring that is broken -/

/-- POOL_READY does not come up while the ring is broken (R404). -/
theorem State.updateReady_ready_of_broken {s : State} (hb : s.pool.broken = true) (hr : s.pool.ready = false) :
    s.updateReady.pool.ready = false := by
  unfold State.updateReady
  dsimp only
  split
  · rfl
  · rw [if_neg (by simp [hb])]
    exact hr

theorem State.linkTo_ready_of_broken {s : State} (p : Nat) (st : LinkSt) (hb : s.pool.broken = true) (hr : s.pool.ready = false) :
    (s.linkTo p st).pool.ready = false :=
  State.updateReady_ready_of_broken hb hr

/-- Links sent DOWN one after the other are all DOWN, and no other link comes up. -/
theorem foldl_linkTo_down (l : List Nat) {s : State} {q : Nat} (h : q ∈ l ∨ (s.linkAt q).st = .down) :
    ((l.foldl (fun s p => s.linkTo p .down) s).linkAt q).st = .down := by
  induction l generalizing s with
  | nil => simpa using h
  | cons p l ih =>
    refine ih ?_
    by_cases hq : q = p
    · right
      rw [hq, State.linkAt_linkTo_st, ite_self]
    · rcases h with h | h
      · exact .inl ((List.mem_cons.1 h).resolve_left hq)
      · right
        exact (congrArg (·.1) (s.linkAt_linkTo_other .down hq)).trans h

theorem foldl_linkTo_ready (l : List Nat) {s : State} (hb : s.pool.broken = true) (hr : s.pool.ready = false) :
    (l.foldl (fun s p => s.linkTo p .down) s).pool.broken = true ∧ (l.foldl (fun s p => s.linkTo p .down) s).pool.ready = false := by
  induction l generalizing s with
  | nil => exact ⟨hb, hr⟩
  | cons p l ih => exact ih ((s.linkTo_broken p .down).trans hb) (State.linkTo_ready_of_broken p .down hb hr)

/-- A ring check that fails takes every link down, and POOL_READY with them (R20). -/
theorem State.breakRing_ring (s : State) :
    s.breakRing.pool.broken = true ∧ s.breakRing.pool.ready = false ∧ ∀ q, q < 4 → (s.breakRing.linkAt q).st = .down := by
  unfold State.breakRing
  generalize hs : ({ s with pool := { s.pool with broken := true, ready := false } } : State) = s0
  have hb : s0.pool.broken = true := by rw [← hs]
  have hr : s0.pool.ready = false := by rw [← hs]
  exact ⟨(foldl_linkTo_ready _ hb hr).1, (foldl_linkTo_ready _ hb hr).2, fun q hq => foldl_linkTo_down _ (.inl (List.mem_range.2 hq))⟩

/-! ### Events of a link, by its state -/

section
variable {s : State} {p : Fin 4}

theorem execAlignment_aligning (h : (s.linkAt p.val).st = .aligning) :
    exec (.alignmentDone p) s = .next ((s.linkTo p.val .init).sendInit p.val) ∧
    exec (.alignmentTimeout p) s = .next (s.linkTo p.val .training) := ⟨if_pos h, if_pos h⟩

theorem execAlignment_other (h : (s.linkAt p.val).st ≠ .aligning) :
    exec (.alignmentDone p) s = .next s ∧ exec (.alignmentTimeout p) s = .next s := ⟨if_neg h, if_neg h⟩

theorem execLossOfSignal_up (h1 : (s.linkAt p.val).st ≠ .training) (h2 : (s.linkAt p.val).st ≠ .down) :
    exec (.lossOfSignal p) s = .next (s.linkTo p.val .training) := by
  show execLossOfSignal p s = _
  unfold execLossOfSignal
  cases h : (s.linkAt p.val).st with
  | down => exact absurd h h2
  | training => exact absurd h h1
  | aligning => rfl
  | init => rfl
  | active => rfl
  | retrain => rfl

theorem execLossOfSignal_down (h : (s.linkAt p.val).st = .training ∨ (s.linkAt p.val).st = .down) :
    exec (.lossOfSignal p) s = .next s := by
  show execLossOfSignal p s = _
  unfold execLossOfSignal
  rcases h with h | h <;> rw [h] <;> rfl

theorem execTrainingFailed_again (h : (s.linkAt p.val).st = .training) (hf : (s.linkAt p.val).fails < 2) :
    exec (.trainingFailed p) s = .next (s.modLink p.val (fun l => { l with fails := l.fails + 1 })) :=
  (if_neg (by simp [h])).trans (if_neg (by omega))

theorem execTrainingFailed_third (h : (s.linkAt p.val).st = .training) (hf : 2 ≤ (s.linkAt p.val).fails) :
    exec (.trainingFailed p) s = .next ((s.linkTo p.val .down).modLink p.val (fun l => { l with fails := 0 })) :=
  (if_neg (by simp [h])).trans (if_pos hf)

/-- What TRAINING_RETRY asks of a link, as one condition. -/
theorem trainingRetry_may_iff : ((s.linkAt p.val).st = .down && !(s.linkAt p.val).held && s.linkEnabled p.val && !s.pool.broken
      && !s.poolClockBad) = true ↔
    (s.linkAt p.val).st = .down ∧ (s.linkAt p.val).held = false ∧ s.linkEnabled p.val = true ∧ s.pool.broken = false ∧
      s.poolClockBad = false := by
  simp [and_assoc]

theorem execRetrainDone_agreed {w : BitVec 2} (h : (s.linkAt p.val).st = .retrain) (ha : (s.linkAt p.val).agreed = some w) :
    exec (.retrainDone p) s = .next ((((s.linkTo p.val .init).modLink p.val (fun l => { l with width := codeLanes w.toNat })).bump
      32 (0x5410 + p.val) 10).sendInit p.val) := by
  show execRetrainDone p s = _
  unfold execRetrainDone
  dsimp only
  rw [h, ha]
  rfl

theorem execRetrainDone_none (ha : (s.linkAt p.val).agreed = none) : exec (.retrainDone p) s = .next s := by
  show execRetrainDone p s = _
  unfold execRetrainDone
  dsimp only
  rw [ha]
  split
  · next e => cases e
  · rfl

theorem execRetrainReqRepeat_asked {w : BitVec 2} (h : (s.linkAt p.val).st = .retrain) (hr : (s.linkAt p.val).retrainReq = some w) :
    exec (.retrainReqRepeat p) s = .next (s.control p.val 3 0 w.toNat) := by
  show execRetrainReqRepeat p s = _
  unfold execRetrainReqRepeat
  rw [h, hr]
  rfl

theorem execRetrainReqRepeat_none (hr : (s.linkAt p.val).retrainReq = none) : exec (.retrainReqRepeat p) s = .next s := by
  show execRetrainReqRepeat p s = _
  unfold execRetrainReqRepeat
  rw [hr]
  split
  · next e => cases e
  · rfl

/-- Outside RETRAIN the events of a retrain change nothing. -/
theorem execRetrain_other (h : (s.linkAt p.val).st ≠ .retrain) :
    exec (.retrainTimeout p) s = .next s ∧ exec (.retrainDone p) s = .next s ∧ exec (.retrainReqRepeat p) s = .next s := by
  refine ⟨if_neg h, ?_, ?_⟩
  · show execRetrainDone p s = _
    unfold execRetrainDone
    dsimp only
    split
    · next e _ => exact absurd e h
    · rfl
  · show execRetrainReqRepeat p s = _
    unfold execRetrainReqRepeat
    split
    · next e _ => exact absurd e h
    · rfl

variable {width : BitVec 2} {coord : BitVec 6}

theorem execRetrainReq_active (hw : width ≠ 3) (h : (s.linkAt p.val).st = .active) : exec (.retrainReq p width coord) s =
    .next (((s.linkTo p.val .retrain).modLink p.val (fun l => { l with agreed := some width, coord := coord })).control p.val 3 0
      width.toNat) := by
  show execRetrainReq p width coord s = _
  unfold execRetrainReq
  dsimp only
  rw [if_neg hw, h]
  rfl

theorem execRetrainReq_crossed {w : BitVec 2} (hw : width ≠ 3) (h : (s.linkAt p.val).st = .retrain)
    (hr : (s.linkAt p.val).retrainReq = some w) : exec (.retrainReq p width coord) s =
    .next (s.modLink p.val (fun l => { l with
      retrainReq := none, agreed := some (if w.toNat < width.toNat then width else w), coord := coord })) := by
  show execRetrainReq p width coord s = _
  unfold execRetrainReq
  dsimp only
  rw [if_neg hw, h, hr]
  rfl

theorem execRetrainReq_again (hw : width ≠ 3) (h : (s.linkAt p.val).st = .retrain) (hr : (s.linkAt p.val).retrainReq = none) :
    exec (.retrainReq p width coord) s = .next (s.control p.val 3 0 ((s.linkAt p.val).agreed.getD width).toNat) := by
  show execRetrainReq p width coord s = _
  unfold execRetrainReq
  dsimp only
  rw [if_neg hw, h, hr]
  rfl

theorem execRetrainReq_ignored (h : width = 3 ∨ ((s.linkAt p.val).st ≠ .active ∧ (s.linkAt p.val).st ≠ .retrain)) :
    exec (.retrainReq p width coord) s = .next s := by
  show execRetrainReq p width coord s = _
  unfold execRetrainReq
  dsimp only
  split
  · rfl
  · next hw =>
    obtain ⟨ha, hr⟩ := h.resolve_left hw
    split
    · next e _ => exact absurd e hr
    · next e _ => exact absurd e hr
    · next e => exact absurd e ha
    · rfl

/-! ### The INIT exchange -/

variable {i : InitFlit}

/-- R379: what an INIT flit must name. -/
def State.initFits (s : State) (p : Nat) (i : InitFlit) : Prop :=
  i.position.toNat = (s.neighbour p).1 ∧ i.port.toNat = (s.neighbour p).2 ∧ i.sizeX.toNat = s.option 136 134 ∧
    i.sizeY.toNat = s.option 139 137 ∧ i.cls.toNat = s.ringClass

theorem State.initFits_iff (s : State) (p : Nat) (i : InitFlit) : (i.position.toNat = (s.neighbour p).1 && i.port.toNat = (s.neighbour p).2
    && i.sizeX.toNat = s.option 136 134 && i.sizeY.toNat = s.option 139 137 && i.cls.toNat = s.ringClass) = true ↔ s.initFits p i := by
  simp [State.initFits, and_assoc]

theorem execInitFlit_starts (h : (s.linkAt p.val).st = .init) (hg : s.initFits p.val i) (hc : s.classFits = true) :
    exec (.initFlit p i) s = .next (s.modLink p.val (fun l => { l with
      inited := true, peerE := i.expect, coord := i.coord, sent := [], ret := [], freed := [], occ := [] })) :=
  (if_neg (by simp [h])).trans ((if_pos ((s.initFits_iff p.val i).2 hg)).trans (if_neg (by simp [hc])))

theorem execInitFlit_class (h : (s.linkAt p.val).st = .init) (hg : s.initFits p.val i) (hc : s.classFits = false) :
    exec (.initFlit p i) s = .next ((s.breakRing.modLink p.val (fun l => { l with held := true })).report kRingClassMismatch 0 0
      [(32, s.ringClass), (32, s.ringChips), (32, s.hbmExtents), (32, s.ddrExtents)]) :=
  (if_neg (by simp [h])).trans ((if_pos ((s.initFits_iff p.val i).2 hg)).trans (if_pos (by simp [hc])))

theorem execInitFlit_miswired (h : (s.linkAt p.val).st = .init) (hg : ¬ s.initFits p.val i) :
    exec (.initFlit p i) s = .next ((s.breakRing.modLink p.val (fun l => { l with held := true })).report kRingMiswired p.val 0
      [(32, p.val), (32, i.position.toNat), (32, i.port.toNat), (32, i.sizeX.toNat), (32, i.sizeY.toNat), (32, i.cls.toNat)]) :=
  (if_neg (by simp [h])).trans (if_neg (fun e => hg ((s.initFits_iff p.val i).1 e)))

/-- A ring check that fails on a port's INIT leaves memory, takes every link down and holds that port's link. -/
theorem State.breakRing_held (s : State) (p : Nat) :
    let u := s.breakRing.modLink p (fun l => { l with held := true })
    SameBytes s u ∧ u.pool.broken = true ∧ u.pool.ready = false ∧ (∀ q, q < 4 → (u.linkAt q).st = .down) ∧ (u.linkAt p).held = true := by
  have hm := s.breakRing_mem
  obtain ⟨hb, hr, hd⟩ := s.breakRing_ring
  generalize s.breakRing = v at hm hb hr hd
  intro u
  refine ⟨fun a => ?_, hb, hr, fun q hq => ?_, ?_⟩
  · rw [State.modLink_med, hm]
  · by_cases h : q = p
    · subst h
      rw [State.linkAt_modLink]
      exact hd q hq
    · rw [State.linkAt_modLink_other _ _ h]
      exact hd q hq
  · rw [State.linkAt_modLink]

/-! ### LINK_COMMAND -/

variable {c : Client}

/-- A served LINK_COMMAND answers what its value computes. -/
theorem linkCommand_tells (hs : s.serves c (0x5410 + p.val) 4 = true) {n v st : Nat} {val : List (BitVec 8)} {u : State}
    (e : linkCommand p.val n (s.modClient c id) = (st, v, u)) :
    ok (s.request c (0x5410 + p.val) 4 val (linkCommand p.val n)) = .next (u.answer c st v) :=
  congrArg Host.Outcome.next (State.request_eq_of_op hs e)

end

/-- WIDTH_n of an ACTIVE link trains it where it is narrower, and else asks for a retrain at that width. -/
theorem linkWidth_active {s : State} {p n : Nat} (h : (s.linkAt p).st = .active) :
    (if (s.linkAt p).st ≠ .active then refuse stState s
      else if n > (s.linkAt p).width then done (s.linkTo p .training) else done (s.askRetrain p (lanesCode n))) =
    done (if (s.linkAt p).width < n then s.linkTo p .training else s.askRetrain p (lanesCode n)) := by
  rw [if_neg (by simp [h])]
  split <;> rfl

theorem linkCommand_up {s : State} {p : Nat} (h : (s.linkAt p).st = .down ∧ s.pool.broken = false ∧ s.linkEnabled p = true ∧
    s.poolClockBad = false) : linkCommand p 6 s =
      done ((s.linkTo p .training).modLink p (fun l => { l with held := false, fails := 0 })) :=
  if_neg (by simp [h])

theorem linkCommand_up_refused {s : State} {p : Nat} (h : ¬ ((s.linkAt p).st = .down ∧ s.pool.broken = false ∧ s.linkEnabled p = true ∧
    s.poolClockBad = false)) : linkCommand p 6 s = refuse stState s := by
  refine if_pos ?_
  by_contra hc
  exact h (by simpa [and_assoc] using hc)

/-- What LINK_INIT_DONE asks of a link. -/
theorem linkInitDone_checked_iff (s : State) (p : Nat) :
    ((s.linkAt p).st ≠ .init || !(s.linkAt p).inited || s.pool.broken) = true ↔
    ¬ ((s.linkAt p).st = .init ∧ (s.linkAt p).inited = true ∧ s.pool.broken = false) := by
  rw [← Bool.not_eq_false, not_iff_not]
  simp [and_assoc]

/-- Settles O56, by the state that each event finds; `State.linkAt_linkTo_st` is what the change of POOL_READY leaves of it. -/
theorem poolLinkStates : Obligations.PoolLinkStates := by
  unfold Obligations.PoolLinkStates
  refine ⟨State.linkAt_linkTo_st, fun s p => ?_, fun s p width coord => ?_, fun s p i h => ?_, fun s p i h => if_pos h,
    fun s p delay => ?_, fun s c p hs => ?_⟩
  · refine ⟨execAlignment_aligning, execAlignment_other, execLossOfSignal_up, execLossOfSignal_down,
      fun h => ⟨execTrainingFailed_again h, execTrainingFailed_third h⟩, fun h => if_pos h,
      ⟨fun h => if_pos (trainingRetry_may_iff.2 h), fun h => if_neg (fun e => h (trainingRetry_may_iff.1 e))⟩,
      fun h => ⟨if_pos h, fun w hw => execRetrainDone_agreed h hw, execRetrainDone_none, fun w hw => execRetrainReqRepeat_asked h hw,
        execRetrainReqRepeat_none⟩, execRetrain_other⟩
  · exact ⟨fun hw => ⟨execRetrainReq_active hw, fun w h => execRetrainReq_crossed hw h, execRetrainReq_again hw⟩,
      execRetrainReq_ignored⟩
  · exact ⟨execInitFlit_starts h, execInitFlit_class h, execInitFlit_miswired h, s.breakRing_held p.val⟩
  · refine ⟨fun h => ?_, fun h => if_pos ((linkInitDone_checked_iff s p.val).2 h)⟩
    exact if_neg (fun e => (linkInitDone_checked_iff s p.val).1 e h)
  · refine ⟨fun h => ⟨?_, ?_, ?_, ?_⟩, fun h => ⟨?_, ?_, ?_, ?_⟩, linkCommand_tells hs rfl, fun h => linkCommand_tells hs (linkCommand_up h),
      fun h => linkCommand_tells hs (linkCommand_up_refused h)⟩
    · exact linkCommand_tells hs (if_neg (not_not.2 h))
    · exact linkCommand_tells hs (linkWidth_active h)
    · exact linkCommand_tells hs (linkWidth_active h)
    · exact linkCommand_tells hs (linkWidth_active h)
    · exact linkCommand_tells hs (if_pos h)
    · exact linkCommand_tells hs (if_pos h)
    · exact linkCommand_tells hs (if_pos h)
    · exact linkCommand_tells hs (if_pos h)

end Machine
end Sys2Proof

namespace Sys2Proof
namespace Machine

/-! The SPDM responder (R417, R421-R423): its stages, and what each request does once a path is agreed. -/

section
variable {s : State} {r : SpdmPath}

/-- A request whose stages are agreed takes effect while firmware runs. -/
theorem State.spdm_agreed {n : Nat} (hr : s.running = true) (ha : n ≤ s.agreedTo r) (f : State → State) : s.spdm r n f = f s := by
  unfold State.spdm
  rw [if_neg (by simp [hr]), if_neg (by omega)]

theorem State.spdm_early {n : Nat} (hr : s.running = true) (ha : s.agreedTo r < n) (f : State → State) :
    s.spdm r n f = s.spdmError r 4 := by
  unfold State.spdm
  rw [if_neg (by simp [hr]), if_pos ha]

theorem State.spdm_off {n : Nat} (hr : s.running = false) (f : State → State) : s.spdm r n f = s := by
  unfold State.spdm
  rw [if_pos (by simp [hr])]

/-- A command whose work is a request of a stage does what the request does. -/
theorem ok_spdm_agreed {n : Nat} {f : State → State} {t : State} (hr : s.running = true) (ha : n ≤ s.agreedTo r) (e : f s = t) :
    ok (s.spdm r n f) = .next t := by
  rw [State.spdm_agreed hr ha, e]
  rfl

theorem ok_spdm_early {n : Nat} {f : State → State} (hr : s.running = true) (ha : s.agreedTo r < n) :
    ok (s.spdm r n f) = .next { s with out := .spdm r 0x7F [4] :: s.out } := by
  rw [State.spdm_early hr ha]
  rfl

theorem ok_spdm_off {n : Nat} {f : State → State} (hr : s.running = false) : ok (s.spdm r n f) = .next s := by
  rw [State.spdm_off hr]
  rfl

/-! ### Algorithms -/

/-- An offer without one of the four algorithms is refused. -/
theorem negotiateAlgorithms_refused {q : SpdmAlgorithms} (h : q ≠ ⟨true, true, true, true⟩) :
    (if q.p521 && q.sha512 && q.ecdhe && q.gcm256 then (s.agree r 3).emit (.spdm r 0x63 [1, 1, 1, 1]) else s.spdmError r 1) =
      s.spdmError r 1 := by
  refine if_neg (fun e => h ?_)
  obtain ⟨a, b, c, d⟩ := q
  simpa [and_assoc] using e

/-! ### Sessions -/

/-- R363: what the end of a session does to one glaze window. -/
def State.withdrawOf (path : SpdmPath) (id : Nat) (s : State) (w : Nat) : State :=
  match (s.glazeAt w).key with
  | some (_, q, i) => if q = path && i = id then s.withdrawGlaze w else s
  | none => s

theorem State.endSession_eq (s : State) (path : SpdmPath) (id : Nat) : s.endSession path id =
    (List.range 64).foldl (State.withdrawOf path id)
      { s with host := { s.host with sessions := s.host.sessions.filter (fun x => !(x.path = path && x.id = id)) } } := rfl

/-- The window that is looked at holds no key of the session any more. -/
theorem State.withdrawOf_same (path : SpdmPath) (id : Nat) (s : State) (w : Nat) (key : BitVec 256) :
    ((s.withdrawOf path id w).glazeAt w).key ≠ some (key, path, id) := by
  unfold State.withdrawOf
  split
  · next k q i e =>
    split
    · simp [State.withdrawGlaze]
    · next h =>
      rw [e]
      rintro h'
      simp_all
  · next e => simp [e]

/-- A window without a key of the session stays so while others are looked at. -/
theorem State.withdrawOf_other (path : SpdmPath) (id : Nat) (s : State) {w v : Nat} (h : w ≠ v) :
    (s.withdrawOf path id v).glazeAt w = s.glazeAt w := by
  unfold State.withdrawOf
  split
  · split
    · exact State.glazeAt_modGlaze_other _ _ h
    · rfl
  · rfl

theorem foldl_withdrawOf_key (path : SpdmPath) (id : Nat) (key : BitVec 256) {w : Nat} (l : List Nat) (s : State)
    (h : w ∈ l ∨ (s.glazeAt w).key ≠ some (key, path, id)) :
    ((l.foldl (State.withdrawOf path id) s).glazeAt w).key ≠ some (key, path, id) := by
  induction l generalizing s with
  | nil => simpa using h
  | cons v l ih =>
    refine ih _ ?_
    by_cases hv : w = v
    · subst hv
      exact .inr (State.withdrawOf_same path id s w key)
    · rw [State.withdrawOf_other path id s hv]
      exact h.imp_left (fun h => (List.mem_cons.1 h).resolve_left hv)

theorem State.endSession_key (s : State) (path : SpdmPath) (id : Nat) {w : Nat} (hw : w < 64) (key : BitVec 256) :
    ((s.endSession path id).glazeAt w).key ≠ some (key, path, id) := by
  rw [State.endSession_eq]
  exact foldl_withdrawOf_key path id key _ _ (.inl (List.mem_range.2 hw))

theorem State.mem_endSession_sessions (s : State) (path : SpdmPath) (id : Nat) (x : Session) :
    x ∈ (s.endSession path id).host.sessions ↔ x ∈ s.host.sessions ∧ ¬ (x.path = path ∧ x.id = id) := by
  rw [State.endSession_sessions, List.mem_filter]
  simp only [Bool.not_eq_true', Bool.and_eq_false_iff, decide_eq_false_iff_not, not_and_or]

/-! ### Measurements -/

/-- A block of 1 to 5 is answered, signed. -/
theorem execGetMeasurements_block {i : Nat} (hr : s.running = true) (ha : 3 ≤ s.agreedTo r) (h1 : 1 ≤ i) (h5 : i ≤ 5) :
    exec (.getMeasurements r i) s = .next (s.emit (.spdm r 0x60 (s.signed (s.measurement r i)))) := by
  refine ok_spdm_agreed hr ha ?_
  rw [if_neg (by omega), if_pos (by simp [h1, h5])]

theorem execGetMeasurements_refused {i : Nat} (hr : s.running = true) (ha : 3 ≤ s.agreedTo r) (h5 : 5 < i) (hf : i ≠ 0xFF) :
    exec (.getMeasurements r i) s = .next (s.spdmError r 1) := by
  refine ok_spdm_agreed hr ha ?_
  rw [if_neg (by omega), if_neg (by simp; omega), if_neg hf]

/-! ### A path before its agreement, a chip without an identity -/

/-- Before the algorithms are agreed every later request is refused. -/
theorem spdm_refused_early (hr : s.running = true) (h : s.agreedTo r < 3) :
    let no (i : Instr) (n : Nat) : Prop := exec i s = .next { s with out := .spdm r 0x7F [n] :: s.out }
    no (.getDigests r) 4 ∧ (∀ slot, no (.getCertificate r slot) 4) ∧ (∀ nonce, no (.challenge r nonce) 4) ∧
      (∀ i, no (.getMeasurements r i) 4) ∧ no (.getCsr r) 4 ∧ (∀ slot chain, no (.setCertificate r slot chain) 4) ∧
      ∀ session, no (.keyExchange r session) 4 ∧ no (.finish r session) 4 ∧ no (.heartbeat r session) 4 ∧ no (.keyUpdate r session) 4 ∧
        no (.endSession r session) 4 :=
  ⟨ok_spdm_early hr h, fun _ => ok_spdm_early hr h, fun _ => ok_spdm_early hr h, fun _ => ok_spdm_early hr h, ok_spdm_early hr h,
    fun _ _ => ok_spdm_early hr h, fun _ => ⟨ok_spdm_early hr h, ok_spdm_early hr h, ok_spdm_early hr h, ok_spdm_early hr h,
      ok_spdm_early hr h⟩⟩

/-- A slot whose chain stands is answered with it where the chip has an identity, and any other is refused. -/
theorem execGetCertificate_held {slot : Fin 2} {c : List (BitVec 8)} (hr : s.running = true) (ha : 3 ≤ s.agreedTo r)
    (hi : s.hasIdentity = true) (hc : s.chain slot.val = some c) :
    exec (.getCertificate r slot) s = .next (s.emit (.spdm r 0x02 (c.map (fun b => b.toNat)))) := by
  refine ok_spdm_agreed hr ha ?_
  rw [hc]
  exact if_pos hi

theorem execGetCertificate_refused {slot : Fin 2} (hr : s.running = true) (ha : 3 ≤ s.agreedTo r)
    (h : s.hasIdentity = false ∨ s.chain slot.val = none) : exec (.getCertificate r slot) s = .next (s.spdmError r 1) := by
  refine ok_spdm_agreed hr ha ?_
  cases hc : s.chain slot.val with
  | none => rfl
  | some c => exact if_neg (by simpa [hc] using h)

theorem execKeyExchange_new {session : Nat} (hr : s.running = true) (ha : 3 ≤ s.agreedTo r) (hi : s.hasIdentity = true)
    (hn : (s.host.sessions.filter (fun x => x.path = r)).any (fun x => x.id = session) = false)
    (hl : (s.host.sessions.filter (fun x => x.path = r)).length < 4) :
    exec (.keyExchange r session) s = .next (({ s with host := { s.host with
      sessions := s.host.sessions ++ [⟨r, session, false, 0⟩] } } : State).emit (.spdm r 0x64 (s.signed [session]))) := by
  refine ok_spdm_agreed hr ha ?_
  dsimp only
  rw [if_neg (by rw [hi, hn]; decide), if_neg (Nat.not_le.2 hl)]

theorem execKeyExchange_full {session : Nat} (hr : s.running = true) (ha : 3 ≤ s.agreedTo r) (hi : s.hasIdentity = true)
    (hn : (s.host.sessions.filter (fun x => x.path = r)).any (fun x => x.id = session) = false)
    (hl : 4 ≤ (s.host.sessions.filter (fun x => x.path = r)).length) :
    exec (.keyExchange r session) s = .next (s.spdmError r 0x0A) := by
  refine ok_spdm_agreed hr ha ?_
  dsimp only
  rw [if_neg (by rw [hi, hn]; decide), if_pos hl]

theorem execKeyExchange_refused {session : Nat} (hr : s.running = true) (ha : 3 ≤ s.agreedTo r) (h : s.hasIdentity = false ∨
    (s.host.sessions.filter (fun x => x.path = r)).any (fun x => x.id = session) = true) :
    exec (.keyExchange r session) s = .next (s.spdmError r 1) := by
  refine ok_spdm_agreed hr ha ?_
  dsimp only
  rw [if_pos]
  rcases h with h | h <;> rw [h]
  · rfl
  · exact Bool.or_true _

/-- A request of an open session is refused where no session stands so. -/
theorem State.inSession_refused {session code : Nat} {o : Bool} {f : State → State}
    (h : s.host.sessions.any (fun x => x.path = r && x.id = session && x.open_ = o) = false) :
    s.inSession r session o code f = s.spdmError r 2 := if_neg (by simp [h])

/-- The end of an open session takes it from the list and withdraws the glaze keys that it installed (R363). -/
theorem execEndSession_open {session : Nat} (hr : s.running = true) (ha : 3 ≤ s.agreedTo r)
    (h : s.host.sessions.any (fun x => x.path = r && x.id = session && x.open_ = true) = true) :
    ∃ t, exec (.endSession r session) s = .next t ∧ SameBytes s t ∧
      (∀ x, x ∈ t.host.sessions ↔ x ∈ s.host.sessions ∧ ¬ (x.path = r ∧ x.id = session)) ∧
      ∀ w, w < 64 → ∀ key, (t.glazeAt w).key ≠ some (key, r, session) := by
  have hm := s.endSession_mem r session
  have hs := s.mem_endSession_sessions r session
  have hk {w : Nat} (hw : w < 64) := s.endSession_key r session hw
  refine ⟨(s.endSession r session).emit (.spdm r 0x6C []), ok_spdm_agreed hr ha (if_pos h), ?_⟩
  generalize s.endSession r session = u at hm hs hk
  exact ⟨fun a => congrArg (Mem.get · a) hm, hs, fun w hw => hk hw⟩

end

/-- Settles O46, stage by stage; END_SESSION by what it withdraws (`State.endSession_key`). -/
theorem spdmResponder : Obligations.SpdmResponder := by
  unfold Obligations.SpdmResponder
  refine ⟨fun s r hr => ?_, fun s r hr ha => ?_, fun s r hr => ?_⟩
  · exact ⟨ok_spdm_agreed hr (Nat.zero_le _) rfl, fun h => ok_spdm_agreed hr h rfl, ok_spdm_early hr,
      fun h => ok_spdm_agreed hr h rfl, fun q h hq => ok_spdm_agreed hr h (negotiateAlgorithms_refused hq),
      fun q => ok_spdm_early hr, spdm_refused_early hr⟩
  · intro tells signed held mine
    refine ⟨fun hi => ⟨?_, fun slot c => execGetCertificate_held hr ha hi, fun nonce => ?_, ?_,
      fun session hn => ⟨execKeyExchange_new hr ha hi hn, execKeyExchange_full hr ha hi hn⟩⟩,
      fun hi => ⟨?_, fun slot => execGetCertificate_refused hr ha (.inl hi), fun nonce => ?_, ?_,
        fun session => execKeyExchange_refused hr ha (.inl hi)⟩,
      fun slot hn => execGetCertificate_refused hr ha (.inr hn), fun session h => execKeyExchange_refused hr ha (.inr h),
      ok_spdm_agreed hr ha rfl, fun i => execGetMeasurements_block hr ha, ?_, fun i => execGetMeasurements_refused hr ha,
      fun slot chain => ⟨fun h => ok_spdm_agreed hr ha (if_pos h), fun h => ok_spdm_agreed hr ha (if_neg h)⟩,
      fun session => ⟨fun h => ok_spdm_agreed hr ha (if_pos h), fun h => ok_spdm_agreed hr ha (State.inSession_refused h),
        fun h => ⟨ok_spdm_agreed hr ha (if_pos h), ok_spdm_agreed hr ha (if_pos h), execEndSession_open hr ha h⟩,
        fun h => ⟨ok_spdm_agreed hr ha (State.inSession_refused h), ok_spdm_agreed hr ha (State.inSession_refused h),
          ok_spdm_agreed hr ha (State.inSession_refused h)⟩⟩⟩
    · exact ok_spdm_agreed hr ha (if_neg (by simp [hi]))
    · exact ok_spdm_agreed hr ha (if_neg (by simp [hi]))
    · exact ok_spdm_agreed hr ha (if_neg (by simp [hi]))
    · exact ok_spdm_agreed hr ha (if_pos (by simp [hi]))
    · exact ok_spdm_agreed hr ha (if_pos (by simp [hi]))
    · exact ok_spdm_agreed hr ha (if_pos (by simp [hi]))
    · refine ok_spdm_agreed hr ha ?_
      rw [if_neg (by decide), if_neg (by decide), if_pos rfl]
      simp only [List.flatMap_cons, List.flatMap_nil, List.append_nil, List.append_assoc]
      rfl
  · exact ⟨ok_spdm_off hr, ok_spdm_off hr, fun _ => ok_spdm_off hr, ok_spdm_off hr, fun _ => ok_spdm_off hr, fun _ => ok_spdm_off hr,
      fun _ => ok_spdm_off hr, ok_spdm_off hr, fun _ _ => ok_spdm_off hr,
      fun _ => ⟨ok_spdm_off hr, ok_spdm_off hr, ok_spdm_off hr, ok_spdm_off hr, ok_spdm_off hr⟩⟩

end Machine
end Sys2Proof

namespace Sys2Proof
namespace Machine

/-! Life cycle, MIN_SVN, the ring key and the draw of keys (R418, R419, R426, R429, R431, R438). -/

/-- An entry outside object 0x7800 reads after a report as before it. -/
theorem LogOnly.par {s t : State} (h : LogOnly s t) {idx sub : Nat} (hk : idx * 256 + sub < 0x780000) : t.par idx sub = s.par idx sub :=
  State.par_congr (by rw [h.1]) (by rw [h.1]) (h.2 idx sub hk)

theorem LogOnly.sec {s t : State} (h : LogOnly s t) : t.sec = s.sec := by rw [h.1]

/-! ### Life-cycle transitions -/

/-- R419: what a refused LC_TRANSITION leaves: a record, and no fuse burnt. -/
def State.lcRefused (s : State) (token : BitVec 1184) : State :=
  let c := s.takeFree 32
  c.2.report kLcTransitionRefused 0 0 [(8, s.sec.lcState.toNat), (8, bits token 71 64), (32, c.1.toNat)]

theorem State.lcRefused_keeps (s : State) (token : BitVec 1184) : (s.lcRefused token).med = s.med ∧ (s.lcRefused token).sec = s.sec := by
  have h := State.report_logOnly (s.takeFree 32).2 kLcTransitionRefused 0 0
    [(8, s.sec.lcState.toNat), (8, bits token 71 64), (32, (s.takeFree 32).1.toNat)]
  exact ⟨h.med, h.sec⟩

/-- What LC_TRANSITION computes: the target is burnt where the table lists it and the token verifies where it must. -/
theorem lcTransition_eq (token : BitVec 1184) (s : State) : lcTransition token s =
    match (if bits token 63 0 = s.sec.uid.toNat && s.sec.lcNext.isNone then s.lcAllowed (bits token 71 64) else none) with
    | some signed =>
      if signed && !s.tokenSigned token then refuse stDenied (s.lcRefused token)
      else done { s with sec := { s.sec with lcNext := some (BitVec.ofNat 8 (bits token 71 64)) } }
    | none => refuse stDenied (s.lcRefused token) := rfl

section
variable {s : State} {token : BitVec 1184}

theorem lcTransition_burns {signed : Bool} (hm : bits token 63 0 = s.sec.uid.toNat ∧ s.sec.lcNext = none)
    (ha : s.lcAllowed (bits token 71 64) = some signed) (ht : signed = false ∨ s.tokenSigned token = true) :
    lcTransition token s = done { s with sec := { s.sec with lcNext := some (BitVec.ofNat 8 (bits token 71 64)) } } := by
  rw [lcTransition_eq, if_pos (by simp [hm]), ha]
  exact if_neg (by rcases ht with ht | ht <;> simp [ht])

theorem lcTransition_unsigned (hm : bits token 63 0 = s.sec.uid.toNat ∧ s.sec.lcNext = none)
    (ha : s.lcAllowed (bits token 71 64) = some true) (ht : s.tokenSigned token = false) :
    lcTransition token s = refuse stDenied (s.lcRefused token) := by
  rw [lcTransition_eq, if_pos (by simp [hm]), ha]
  exact if_pos (by simp [ht])

theorem lcTransition_unlisted (h : ¬ (bits token 63 0 = s.sec.uid.toNat ∧ s.sec.lcNext = none) ∨ s.lcAllowed (bits token 71 64) = none) :
    lcTransition token s = refuse stDenied (s.lcRefused token) := by
  have hn : (if bits token 63 0 = s.sec.uid.toNat && s.sec.lcNext.isNone then s.lcAllowed (bits token 71 64) else none) = none := by
    rcases h with h | h
    · exact if_neg (by simpa using h)
    · rw [h, ite_self]
  rw [lcTransition_eq, hn]

/-- A refused LC_TRANSITION is answered with ACCESS_DENIED and changes no fuse. -/
theorem execLcTransition_refused {c : Client} (hs : s.serves c 0x6000 2 = true)
    (h : lcTransition token (s.modClient c id) = refuse stDenied ((s.modClient c id).lcRefused token)) :
    ∃ t, exec (.lcTransition c token) s = .next (t.answer c stDenied 0) ∧ SameBytes s t ∧ t.sec = s.sec := by
  obtain ⟨hm, hc⟩ := (s.modClient c id).lcRefused_keeps token
  refine ⟨_, congrArg Host.Outcome.next (State.request_eq_of_op hs h), fun a => ?_, hc⟩
  rw [hm]
  rfl

end

/-! The edges of R418's table, by the state they start from. -/

section
variable {s : State} (k : Nat)

theorem lcAllowed_blank (h : s.sec.lcState = 0) : s.lcAllowed k = if k = 1 then some true else if k = 5 then some false else none := by
  unfold State.lcAllowed
  rw [h]
  by_cases h5 : k = 5
  · simp [h5]
  · simp [h5]

theorem lcAllowed_manufacture (h : s.sec.lcState = 1) : s.lcAllowed k =
    if k = 2 ∧ (Tab.find? s.sec.certs 0).isSome then some true else if k = 5 then some false else none := by
  unfold State.lcAllowed
  rw [h]
  by_cases h5 : k = 5
  · simp [h5]
  · by_cases h2 : k = 2
    · simp [h2]
    · simp [h5, h2]

theorem lcAllowed_provisioned (h : s.sec.lcState = 2) : s.lcAllowed k =
    if k = 3 ∨ k = 5 then some false else if k = 4 then some true else none := by
  unfold State.lcAllowed
  rw [h]
  by_cases h5 : k = 5
  · simp [h5]
  · simp [h5]

theorem lcAllowed_fielded (h : s.sec.lcState = 3) : s.lcAllowed k = if k = 4 then some true else if k = 5 then some false else none := by
  unfold State.lcAllowed
  rw [h]
  by_cases h5 : k = 5
  · simp [h5]
  · simp [h5]

theorem lcAllowed_rma (h : s.sec.lcState = 4) : s.lcAllowed k = if k = 5 then some false else none := by
  unfold State.lcAllowed
  rw [h]
  by_cases h5 : k = 5
  · simp [h5]
  · simp [h5]

theorem lcAllowed_scrap (h : s.sec.lcState = 5) : s.lcAllowed k = none := by
  unfold State.lcAllowed
  rw [h]
  by_cases h5 : k = 5
  · simp [h5]
  · simp [h5]

end

/-! ### The ring key -/

section
variable {s : State} {r : SpdmPath} {session : Nat} {key : BitVec 512}

/-- R431: the paths that set the ring key: MCTP, and the mailboxes of functions of admin scope. -/
def State.ringAdmin (s : State) (r : SpdmPath) : Bool :=
  match r with
  | .doe f => s.par 0x5040 (f.val + 1) = 0x8000
  | .mctp => true

theorem State.ringAdmin_iff (s : State) (r : SpdmPath) :
    s.ringAdmin r = true ↔ r = .mctp ∨ ∃ f : Fin 68, r = .doe f ∧ s.par 0x5040 (f.val + 1) = 0x8000 := by
  cases r <;> simp [State.ringAdmin]

theorem execRingKeyInstall_eq (s : State) (r : SpdmPath) (session : Nat) (key : BitVec 512) : exec (.ringKeyInstall r session key) s =
    if !s.running then ok s
    else if !s.sessionOpen r session then ok (s.spdmError r 2)
    else if !s.ringAdmin r || s.sec.ringKey.any (fun k => k ≠ key) then ok (s.spdmError r 1)
    else ok (({ s with sec := { s.sec with ringKey := some key } } : State).emit (.spdm r 0x7E [])) := by
  cases r <;> rfl

theorem execRingKeyInstall_set (hr : s.running = true) (ho : s.sessionOpen r session = true) (ha : s.ringAdmin r = true)
    (hk : s.sec.ringKey = none ∨ s.sec.ringKey = some key) : exec (.ringKeyInstall r session key) s =
      .next (({ s with sec := { s.sec with ringKey := some key } } : State).emit (.spdm r 0x7E [])) := by
  rw [execRingKeyInstall_eq, if_neg (by simp [hr]), if_neg (by simp [ho]), if_neg]
  · rfl
  · rcases hk with hk | hk <;> simp [ha, hk]

theorem execRingKeyInstall_refused (hr : s.running = true) (ho : s.sessionOpen r session = true)
    (h : ¬ s.ringAdmin r = true ∨ ∃ k, s.sec.ringKey = some k ∧ k ≠ key) : exec (.ringKeyInstall r session key) s = .next (s.spdmError r 1) := by
  rw [execRingKeyInstall_eq, if_neg (by simp [hr]), if_neg (by simp [ho]), if_pos]
  · rfl
  · rcases h with h | ⟨k, hk, hn⟩
    · simp [h]
    · simp [hk, hn]

theorem execRingKeyInstall_closed (hr : s.running = true) (ho : s.sessionOpen r session = false) :
    exec (.ringKeyInstall r session key) s = .next (s.spdmError r 2) :=
  (if_neg (by simp [hr])).trans (if_pos (by simp [ho]))

theorem execRingKeyInstall_off (hr : s.running = false) : exec (.ringKeyInstall r session key) s = .next s := if_pos (by simp [hr])

end

/-! ### The draw of keys -/

/-- A draw that passes while no wash waits only ends the run of failures. -/
theorem execEntropyRetry_none {s : State} (h : s.tenants.any (fun p => p.2.keyWait) = false) :
    exec (.entropyRetry true) s = .next { s with sec := { s.sec with entropy := 0 } } := by
  have hw : ({ s with sec := { s.sec with entropy := 0 } } : State).keyWaiters = [] := by
    simpa [State.keyWaiters] using h
  show ok (List.foldl _ _ (State.keyWaiters _)) = _
  rw [hw]
  rfl

/-- A draw that passes gives the one wash that waits its key. -/
theorem execEntropyRetry_one {s : State} {t : Nat} {x : Tenant} (ht : s.tenants = [(t, x)]) (hx : x.keyWait = true) :
    exec (.entropyRetry true) s = .next { s with
      sec := { s.sec with entropy := 0 }, tenants := [(t, { x with keyGen := x.keyGen + 1, keyWait := false })] } := by
  have hw : ({ s with sec := { s.sec with entropy := 0 } } : State).keyWaiters = [t] := by
    simp [State.keyWaiters, ht, hx]
  show ok (List.foldl _ _ (State.keyWaiters _)) = _
  rw [hw]
  simp [State.rotateKey, State.modTenant, State.tenantAt, ht, Tab.get, Tab.find?, Tab.set, ok]

/-- A draw that fails is counted and reported. -/
theorem execEntropyRetry_fails (s : State) : ∃ t, exec (.entropyRetry false) s = .next t ∧ SameBytes s t ∧
    t.sec.entropy = s.sec.entropy + 1 ∧ t.par 0x6000 7 = (s.par 0x6000 7 + 1) % 2 ^ 32 := by
  refine ⟨_, rfl, ?_⟩
  have h := State.report_logOnly ((({ s with sec := { s.sec with entropy := s.sec.entropy + 1 } } : State).bump 32 0x6000 7).takeFree 32).2
    kEntropyFailure 0 0 [(32, ((({ s with sec := { s.sec with entropy := s.sec.entropy + 1 } } : State).bump 32 0x6000 7).takeFree 32).1.toNat),
      (32, s.sec.entropy + 1)]
  refine ⟨fun a => congrArg (fun m => Mem.get m.mem a) h.med, congrArg SecState.entropy h.sec, (h.par (by decide)).trans ?_⟩
  exact State.par_bump ({ s with sec := { s.sec with entropy := s.sec.entropy + 1 } } : State) 32 0x6000 7 1

/-- Settles O47, by the table's edges, the checks of each install, and what a draw of keys finds waiting. -/
theorem lifeCycleAndKeys : Obligations.LifeCycleAndKeys := by
  unfold Obligations.LifeCycleAndKeys
  refine ⟨fun s c token hs => ?_, fun s k => ?_, fun s c n hs => ⟨fun h1 h2 => ?_, fun h => ?_⟩, fun s r session key => ?_,
    fun s h => execEntropyRetry_none h, fun s t x => execEntropyRetry_one, execEntropyRetry_fails⟩
  · exact ⟨fun signed hm ha ht => congrArg Host.Outcome.next (State.request_eq_of_op hs (lcTransition_burns hm ha ht)),
      fun hm ha ht => execLcTransition_refused hs (lcTransition_unsigned hm ha ht),
      fun h => execLcTransition_refused hs (lcTransition_unlisted h)⟩
  · exact ⟨lcAllowed_blank k, lcAllowed_manufacture k, lcAllowed_provisioned k, lcAllowed_fielded k, lcAllowed_rma k, lcAllowed_scrap k⟩
  · have e : svnCommit n.toNat (s.modClient c id) =
        done { (s.modClient c id) with sec := { s.sec with minSvn := n } } := by
      refine (if_pos ?_).trans ?_
      · exact Bool.and_eq_true_iff.2 ⟨decide_eq_true h1, decide_eq_true h2⟩
      · rw [BitVec.ofNat_toNat, BitVec.setWidth_eq]
        rfl
    exact congrArg Host.Outcome.next (State.request_eq_of_op hs e)
  · refine congrArg Host.Outcome.next (State.request_eq_of_op hs (if_neg ?_))
    rw [Bool.and_eq_true, decide_eq_true_eq, decide_eq_true_eq, not_and_or, Nat.not_le, Nat.not_lt]
    exact h
  · rw [← s.ringAdmin_iff r]
    exact ⟨execRingKeyInstall_set, fun k hr ho hk hn => execRingKeyInstall_refused hr ho (.inr ⟨k, hk, hn⟩),
      fun hr ho ha => execRingKeyInstall_refused hr ho (.inl ha), execRingKeyInstall_closed, execRingKeyInstall_off⟩

end Machine
end Sys2Proof

namespace Sys2Proof
namespace Machine

/-! Pattern slices, test commands, dump requests, the light counters and the test access port (R525-R537). -/

/-! ### Pattern slices -/

section
variable {s : State}

/-- What a due pattern comes to (R529). -/
theorem execPatternDue_due (h : s.par 0x7000 1 ≠ 0 ∧ s.running = true) : exec .patternDue s =
    let k := s.par 0x7000 3 / 2
    let kind : Pattern := if s.par 0x7000 3 % 2 = 0 then .controller else .crossbar
    let s1 := s.setPar 0x7000 3 ((s.par 0x7000 3 + 1) % 88)
    .next (if !(s.sliceAt k).trained || (s.sliceAt k).fatal then s1
      else if s.cx.gap then s1.skipSlice kind.code k 4 false
      else if s.testSlots k < 16 then s1.skipSlice kind.code k 3 false else s1.modSlice k (fun x => { x with armNext := some kind })) := by
  show execPatternDue s = _
  unfold execPatternDue
  rw [if_neg (by simp [h])]
  dsimp only
  split
  · next hk => exact (congrArg Host.Outcome.next (if_pos hk)).symm
  · next hk =>
    refine Eq.trans ?_ (congrArg Host.Outcome.next (if_neg hk)).symm
    split
    · next hg => exact (congrArg Host.Outcome.next (if_pos hg)).symm
    · next hg => exact (congrArg Host.Outcome.next (if_neg hg)).symm

theorem execPatternDue_other (h : ¬ (s.par 0x7000 1 ≠ 0 ∧ s.running = true)) : exec .patternDue s = .next s := by
  refine if_pos ?_
  by_contra hc
  exact h (by simpa using hc)

/-- A slice that the position can test: trained and not fatal. -/
theorem sliceAble {k : Nat} (h : (s.sliceAt k).trained = true ∧ (s.sliceAt k).fatal = false) :
    ¬ (!(s.sliceAt k).trained || (s.sliceAt k).fatal) = true := by simp [h]

/-- What PATTERN_SLICE_DONE counts before it looks at the result. -/
theorem execPatternSliceDone_armed {k : Fin 44} {p : Pattern} {misr : BitVec 128} (h : (s.sliceAt k.val).armed = some p) (pass : Bool) :
    exec (.patternSliceDone k pass misr) s =
      let f := (s.sliceAt k.val).testFails + 1
      let s1 := (s.modSlice k.val (fun x => { x with armed := none })).bump 64 0x7000 5
      let s2 := ((s1.bump 32 0x7000 6).setPar 0x7000 4 ((s.par 0x7000 4 + 1) % 16)).report { kSliceTestFailed with error := f ≥ 2 } k.val 0
        [(32, p.code), (32, k.val), (32, s.par 0x7000 4), (128, misr.toNat)]
      .next (if pass then s1.modSlice k.val (fun x => { x with testFails := 0 })
        else if f ≥ 2 then (s2.modSlice k.val (fun x => { x with testFails := 0 })).makeFatal k.val 0 (s2.sliceAt k.val).incidents.length
        else s2.modSlice k.val (fun x => { x with testFails := f, armNext := some p })) := by
  have hp : ((s.modSlice k.val (fun x => { x with armed := none })).bump 64 0x7000 5).par 0x7000 4 = s.par 0x7000 4 :=
    State.par_bump_other _ _ _ (by decide)
  have hf : (((s.modSlice k.val (fun x => { x with armed := none })).bump 64 0x7000 5).sliceAt k.val).testFails =
      (s.sliceAt k.val).testFails :=
    (congrArg Slice.testFails (s.sliceAt_modSlice k.val (fun x => { x with armed := none }))).trans rfl
  show execPatternSliceDone k pass misr s = _
  unfold execPatternSliceDone
  dsimp only
  rw [h]
  dsimp only
  rw [hp, hf]
  cases pass with
  | true => rfl
  | false =>
    rw [if_neg Bool.false_ne_true, if_neg Bool.false_ne_true]
    split <;> rfl

theorem execPatternSliceDone_none {k : Fin 44} {pass : Bool} {misr : BitVec 128} (h : (s.sliceAt k.val).armed = none) :
    exec (.patternSliceDone k pass misr) s = .next s := by
  show execPatternSliceDone k pass misr s = _
  unfold execPatternSliceDone
  dsimp only
  rw [h]
  rfl

/-! ### TEST_COMMAND -/

/-- Outside MANUFACTURE and RMA a test command is denied (R529). -/
theorem testCommand_denied {kind u : Nat} (h : ¬ (s.sec.lcState = 1 ∨ s.sec.lcState = 4)) : testCommand kind u s = refuse stDenied s := by
  unfold testCommand
  rw [if_pos (by simpa using h)]

theorem testCommand_factory {kind u : Nat} (h : s.sec.lcState = 1 ∨ s.sec.lcState = 4) : testCommand kind u s =
    match kind with
    | 1 => if u ≥ 34 || (s.vatAt u).unusable then refuse stRange s else done (s.askVat u)
    | 2 => if u ≥ 44 || !(s.sliceAt u).trained then refuse stRange s else done (s.askPattern u .controller)
    | 3 => if u ≥ 44 || !(s.sliceAt u).trained then refuse stRange s else done (s.askPattern u .crossbar)
    | _ => refuse stRange s := by
  unfold testCommand
  exact if_neg (by rcases h with h | h <;> simp [h])

theorem testCommand_vat {u : Nat} (h : s.sec.lcState = 1 ∨ s.sec.lcState = 4) (hu : u < 34 ∧ (s.vatAt u).unusable = false) :
    testCommand 1 u s = done (s.askVat u) :=
  (testCommand_factory h).trans (if_neg (by simp [hu]))

theorem testCommand_vat_range {u : Nat} (h : s.sec.lcState = 1 ∨ s.sec.lcState = 4) (hu : ¬ (u < 34 ∧ (s.vatAt u).unusable = false)) :
    testCommand 1 u s = refuse stRange s :=
  (testCommand_factory h).trans (if_pos (by simpa [imp_iff_not_or] using hu))

theorem testCommand_slice {u : Nat} (h : s.sec.lcState = 1 ∨ s.sec.lcState = 4) (hu : u < 44 ∧ (s.sliceAt u).trained = true) :
    testCommand 2 u s = done (s.askPattern u .controller) ∧ testCommand 3 u s = done (s.askPattern u .crossbar) :=
  ⟨(testCommand_factory h).trans (if_neg (by simp [hu])), (testCommand_factory h).trans (if_neg (by simp [hu]))⟩

theorem testCommand_slice_range {u : Nat} (h : s.sec.lcState = 1 ∨ s.sec.lcState = 4) (hu : ¬ (u < 44 ∧ (s.sliceAt u).trained = true)) :
    testCommand 2 u s = refuse stRange s ∧ testCommand 3 u s = refuse stRange s := by
  have hb : (decide (u ≥ 44) || !(s.sliceAt u).trained) = true := by simpa [imp_iff_not_or] using hu
  exact ⟨(testCommand_factory h).trans (if_pos hb), (testCommand_factory h).trans (if_pos hb)⟩

/-! ### The test access port -/

theorem State.pinTest_high (h : s.rst.prstLow = false) (n : Nat) : s.pinTest n = s.tap 0xFF := if_pos (by simp [h])

/-- While PRST_N is low and no reset that holds memory runs, the instruction is taken. -/
theorem State.pinTest_low (h : s.rst.prstLow = true) (hn : ¬ (s.rst.kind = .warmHeld ∧ (s.rst.phase = .reset ∨ s.rst.entry = true)))
    (n : Nat) : s.pinTest n = s.tap n :=
  (if_neg (by simp [h])).trans (if_neg (by simpa using hn))

/-- A reset that holds memory loses it (R531). -/
theorem State.pinTest_held (h : s.rst.prstLow = true) (hh : s.rst.kind = .warmHeld ∧ (s.rst.phase = .reset ∨ s.rst.entry = true)) (n : Nat) :
    s.pinTest n = (s.assertReset .warmLost s.rst.cause.toNat s.rst.sources.toNat).tap n :=
  (if_neg (by simp [h])).trans (if_pos (by simpa using hh))

end

/-- Settles O48, by what each command finds: a due position, an armed slice, a state that lets a test run, a pin that is low. -/
theorem testsAndTheTestPort : Obligations.TestsAndTheTestPort := by
  unfold Obligations.TestsAndTheTestPort
  refine ⟨fun s => ?_, fun s k p misr h => ?_, fun s k pass misr => execPatternSliceDone_none, fun s c u hs => ?_, fun s c n v hs => ?_,
    fun s c hr => congrArg Host.Outcome.next (State.query_served hr _), fun s => ?_⟩
  · intro k kind s1 due able skipped
    refine ⟨fun hd ha hg ht => ?_, fun hd ha hg ht => ?_, fun hd ha hg => ?_, fun hd ha => ?_, execPatternDue_other⟩
    · exact (execPatternDue_due hd).trans (congrArg Host.Outcome.next
        ((if_neg (sliceAble ha)).trans ((if_neg (by simp [hg])).trans (if_neg (Nat.not_lt.2 ht)))))
    · exact (execPatternDue_due hd).trans (congrArg Host.Outcome.next
        ((if_neg (sliceAble ha)).trans ((if_neg (by simp [hg])).trans (if_pos ht))))
    · exact (execPatternDue_due hd).trans (congrArg Host.Outcome.next ((if_neg (sliceAble ha)).trans (if_pos hg)))
    · refine (execPatternDue_due hd).trans (congrArg Host.Outcome.next (if_pos ?_))
      by_contra hc
      exact ha (by simpa using hc)
  · refine ⟨execPatternSliceDone_armed h true, fun hf => ?_, fun hf => ?_⟩
    · exact (execPatternSliceDone_armed h false).trans (congrArg Host.Outcome.next (if_neg (Nat.not_le.2 hf)))
    · exact (execPatternSliceDone_armed h false).trans (congrArg Host.Outcome.next (if_pos hf))
  · have tells {kind st v : Nat} {val : List (BitVec 8)} {t : State} (e : testCommand kind u.toNat (s.modClient c id) = (st, v, t)) :
        ok (s.request c 0x7000 8 val (testCommand kind u.toNat)) = .next (t.answer c st v) :=
      congrArg Host.Outcome.next (State.request_eq_of_op hs e)
    exact ⟨fun hf hv => tells (testCommand_vat hf hv), fun hf hv => tells (testCommand_vat_range hf hv),
      fun hf hv => ⟨tells (testCommand_slice (s := s.modClient c id) hf hv).1, tells (testCommand_slice (s := s.modClient c id) hf hv).2⟩,
      fun hf hv => ⟨tells (testCommand_slice_range (s := s.modClient c id) hf hv).1, tells (testCommand_slice_range (s := s.modClient c id) hf hv).2⟩,
      fun hf => ⟨tells (testCommand_denied hf), tells (testCommand_denied hf), tells (testCommand_denied hf)⟩⟩
  · exact ⟨fun hg => congrArg Host.Outcome.next (State.request_eq_of_op hs (if_neg (by rw [hg]; decide))),
      fun hg => congrArg Host.Outcome.next (State.request_eq_of_op hs (if_pos (by rw [hg]; decide)))⟩
  · refine ⟨rfl, rfl, fun pins => rfl, fun h => ?_, fun h hn => ?_, fun h hh => ?_, fun code => ⟨fun h => ?_, fun h0 h1 h4 => ?_⟩⟩
    · exact ⟨congrArg ok (State.pinTest_high h 3), congrArg ok (State.pinTest_high h 4), congrArg ok (State.pinTest_high h 5)⟩
    · exact ⟨congrArg ok (State.pinTest_low h hn 3), congrArg ok (State.pinTest_low h hn 4), congrArg ok (State.pinTest_low h hn 5)⟩
    · exact ⟨congrArg ok (State.pinTest_held h hh 3), congrArg ok (State.pinTest_held h hh 4), congrArg ok (State.pinTest_held h hh 5)⟩
    · exact if_pos (by simpa [or_assoc] using h)
    · exact if_neg (by simpa using ⟨⟨h0, h1⟩, h4⟩)

end Machine
end Sys2Proof

namespace Sys2Proof
namespace Machine

/-! The fault log (R542-R547): the ring of 65,536 records, what a record that reaches it signals, and the commands of the log. -/

/-! ### The ring -/

/-- R544: the log with one record more, of which it keeps the last `n`. -/
def keepLast (n : Nat) (log : List FaultRec) (r : FaultRec) : List FaultRec := (if log.length ≥ n then log.drop 1 else log) ++ [r]

theorem keepLast_eq_drop {n : Nat} {log : List FaultRec} (r : FaultRec) (hn : 1 ≤ n) (h : log.length ≤ n) :
    keepLast n log r = (log ++ [r]).drop (log.length + 1 - n) := by
  unfold keepLast
  split
  · rw [show log.length + 1 - n = 1 by omega, List.drop_append_of_le_length (by omega)]
  · rw [show log.length + 1 - n = 0 by omega, List.drop_zero]

theorem length_keepLast_le {n : Nat} {log : List FaultRec} (r : FaultRec) (hn : 1 ≤ n) (h : log.length ≤ n) :
    (keepLast n log r).length ≤ n := by
  rw [keepLast_eq_drop r hn h, List.length_drop, List.length_append, List.length_singleton]
  omega

/-- Records that reach the log one after the other leave its last `n`. -/
theorem foldl_keepLast {n : Nat} (hn : 1 ≤ n) (l : List FaultRec) {log : List FaultRec} (h : log.length ≤ n) :
    l.foldl (keepLast n) log = (log ++ l).drop ((log ++ l).length - n) := by
  induction l generalizing log with
  | nil => rw [List.append_nil, List.foldl_nil, show log.length - n = 0 by omega, List.drop_zero]
  | cons r l ih =>
    rw [List.foldl_cons, ih (length_keepLast_le r hn h), keepLast_eq_drop r hn h,
      ← List.drop_append_of_le_length (by rw [List.length_append, List.length_singleton]; omega), List.append_assoc, List.singleton_append,
      List.drop_drop, List.length_drop]
    congr 1
    simp only [List.length_append, List.length_cons]
    omega

/-! ### Signals -/

/-- Only signals went out, and the vectors that wait for their 1 ms differ (R547). -/
def OnlySignalled (s t : State) : Prop := t = { s with flt := { s.flt with coalesce := t.flt.coalesce }, out := t.out }

theorem OnlySignalled.refl (s : State) : OnlySignalled s s := rfl

theorem OnlySignalled.trans {s t u : State} (h : OnlySignalled s t) (k : OnlySignalled t u) : OnlySignalled s u := by
  unfold OnlySignalled at *
  rw [k, h]

/-- The state with other records in its log. -/
def State.withLog (s : State) (log : List FaultRec) : State := { s with flt := { s.flt with log := log } }

/-- A signal leaves the log as it is, whatever it holds. -/
theorem OnlySignalled.withLog {s t : State} (h : OnlySignalled s t) (log : List FaultRec) : OnlySignalled (s.withLog log) (t.withLog log) := by
  unfold OnlySignalled at *
  rw [h]
  rfl

theorem State.raiseFaultVector_signals (s : State) (f : Nat) : OnlySignalled s (s.raiseFaultVector f) := by
  unfold State.raiseFaultVector State.msix
  split
  · exact rfl
  · split <;> exact rfl

theorem State.signalError_signals (s : State) (r : FaultRec) : OnlySignalled s (s.signalError r) := by
  unfold State.signalError
  generalize List.range 68 = l
  induction l generalizing s with
  | nil => exact .refl s
  | cons f l ih =>
    refine OnlySignalled.trans ?_ (ih _)
    dsimp only
    split
    · exact s.raiseFaultVector_signals f
    · exact .refl s

theorem OnlySignalled.emit {s t : State} (h : OnlySignalled s t) (o : Out) : OnlySignalled s (t.emit o) := h.trans rfl

/-- A record reaches the log, and is signalled. -/
theorem State.logRecord_signals (s : State) (r : FaultRec) : OnlySignalled (s.withLog (keepLast 65536 s.flt.log r)) (s.logRecord r) := by
  have h : OnlySignalled (s.withLog (keepLast 65536 s.flt.log r))
      (if r.error then (s.withLog (keepLast 65536 s.flt.log r)).signalError r else s.withLog (keepLast 65536 s.flt.log r)) := by
    split
    · exact State.signalError_signals _ r
    · exact .refl _
  have e : s.logRecord r =
      let u := if r.error then (s.withLog (keepLast 65536 s.flt.log r)).signalError r else s.withLog (keepLast 65536 s.flt.log r)
      if (r.error || r.digest) && u.notifyOn then u.emit (.notify (BitVec.ofNat 144 (u.par 0x7800 8)) notifyHeader (leBytes 64 r.pack.toNat))
      else u := rfl
  rw [e]
  generalize (if r.error then (s.withLog (keepLast 65536 s.flt.log r)).signalError r else s.withLog (keepLast 65536 s.flt.log r)) = u at h
  dsimp only
  split
  · exact h.emit _
  · exact h

theorem foldl_logRecord_signals (l : List FaultRec) (s : State) :
    OnlySignalled (s.withLog (l.foldl (keepLast 65536) s.flt.log)) (l.foldl (fun s r => s.logRecord r) s) := by
  induction l generalizing s with
  | nil => exact .refl s
  | cons r l ih =>
    have h := s.logRecord_signals r
    have hlog : (s.logRecord r).flt.log = keepLast 65536 s.flt.log r := by rw [h]; rfl
    have i := ih (s.logRecord r)
    rw [hlog] at i
    exact (h.withLog (l.foldl (keepLast 65536) (keepLast 65536 s.flt.log r))).trans i

/-! ### FAULT_LOG_MOVE -/

/-- The loss that waits enters an empty queue as a record; with none the state stays. -/
theorem State.enqueueLost_none {s : State} (h : s.flt.lost = none) : s.enqueueLost = s := by
  unfold State.enqueueLost
  rw [h]

theorem State.enqueueLost_some {s : State} {n : Nat} {a b : BitVec 32} (h : s.flt.lost = some (n, a, b)) (hq : s.flt.queue = []) :
    SameBytes s s.enqueueLost ∧ s.enqueueLost.flt.lost = none ∧ s.enqueueLost.flt.log = s.flt.log ∧ s.enqueueLost.flt.queue =
      [{ s.mkRec kFaultLogLost 0 0 [(32, n), (32, a.toNat), (32, b.toNat)] with lostBefore := true, logSeq := s.flt.logSeq + 1 }] := by
  unfold State.enqueueLost
  rw [h]
  dsimp only
  rw [if_neg (by simp [hq])]
  unfold State.enqueue
  dsimp only
  rw [if_neg (by simp [hq]), hq]
  exact ⟨fun _ => rfl, rfl, rfl, rfl⟩

/-- The active complex empties the queue into the log (R544). -/
theorem execFaultLogMove_moves {s : State} (hr : s.running = true) (hg : s.cx.gap = false) (hl : s.flt.log.length ≤ 65536) :
    ∃ t, exec .faultLogMove s = .next t ∧ SameBytes s t ∧
      (s.flt.lost = none → t.flt.queue = []) ∧
      (∀ n a b, s.flt.lost = some (n, a, b) → t.flt.lost = none ∧
        t.flt.queue = [{ s.mkRec kFaultLogLost 0 0 [(32, n), (32, a.toNat), (32, b.toNat)] with lostBefore := true, logSeq := s.flt.logSeq + 1 }]) ∧
      t.flt.log = (s.flt.log ++ s.flt.queue).drop ((s.flt.log ++ s.flt.queue).length - 65536) := by
  have h := foldl_logRecord_signals s.flt.queue { s with flt := { s.flt with queue := [] } }
  refine ⟨_, if_neg (by simp [hr, hg]), ?_⟩
  generalize List.foldl (fun s r => State.logRecord s r) _ _ = u at h ⊢
  have hlog : u.flt.log = (s.flt.log ++ s.flt.queue).drop ((s.flt.log ++ s.flt.queue).length - 65536) := by
    rw [h]
    exact foldl_keepLast (by decide) s.flt.queue hl
  have hq : u.flt.queue = [] := by rw [h]; rfl
  have hm : u.med = s.med := by rw [h]; rfl
  have hlost : u.flt.lost = s.flt.lost := by rw [h]; rfl
  cases hc : s.flt.lost with
  | none =>
    rw [State.enqueueLost_none (hlost.trans hc)]
    exact ⟨fun a => congrArg (fun m => Mem.get m.mem a) hm, fun _ => hq, fun n a b e => absurd e (by simp), hlog⟩
  | some x =>
    obtain ⟨n, a, b⟩ := x
    obtain ⟨hb, h0, h1, h2⟩ := State.enqueueLost_some (hlost.trans hc) hq
    refine ⟨fun x => (hb x).trans (congrArg (fun m => Mem.get m.mem x) hm), fun e => absurd e (by simp), fun n' a' b' e => ⟨h0, ?_⟩, h1.trans hlog⟩
    cases e
    rw [h2, h]
    rfl

/-! ### Windows, periods, batches and vectors -/

section
variable {s : State} {i : Nat}

theorem execAggregationWindowClose_some {w : AggWindow} (h : s.flt.windows[i]? = some w) :
    let s1 : State := { s with flt := { s.flt with windows := s.flt.windows.eraseIdx i } }
    exec (.aggregationWindowClose i) s = .next (if w.count = 0 then s1
      else s1.enqueue { w.first with digest := true, count := BitVec.ofNat 16 (Nat.min w.count 0xFFFF), time := w.last }) := by
  show execAggregationWindowClose i s = _
  unfold execAggregationWindowClose
  rw [h]
  dsimp only
  by_cases hc : w.count = 0
  · rw [if_pos hc, if_neg (by omega)]
    rfl
  · rw [if_neg hc, if_pos (by omega)]
    rfl

theorem execAggregationWindowClose_none (h : s.flt.windows[i]? = none) : exec (.aggregationWindowClose i) s = .next s := by
  show execAggregationWindowClose i s = _
  unfold execAggregationWindowClose
  rw [h]
  rfl

theorem execAggregationOverflowEnd_some {n : Nat} (h : s.flt.overflow = some n) : exec .aggregationOverflowEnd s =
    .next (({ s with flt := { s.flt with overflow := none } } : State).enqueue (s.mkRec kAggregationOverflow 0 0 [(32, n)])) := by
  show execAggregationOverflowEnd s = _
  unfold execAggregationOverflowEnd
  rw [h]
  rfl

theorem execAggregationOverflowEnd_none (h : s.flt.overflow = none) : exec .aggregationOverflowEnd s = .next s := by
  show execAggregationOverflowEnd s = _
  unfold execAggregationOverflowEnd
  rw [h]
  rfl

/-- What DIGEST_BATCH_SEND comes to for a batch (R543). -/
theorem execDigestBatchSend_some {b : DigestBatch} (h : s.flt.batches[i]? = some b) :
    let s1 : State := { s with flt := { s.flt with batches := s.flt.batches.eraseIdx i } }
    let r : FaultRec := { b.first with count := BitVec.ofNat 16 (Nat.min b.count 0xFFFF), time := b.last }
    exec (.digestBatchSend i) s = (if b.count = 0 then .next s1
      else if s.routePresent s.epoch b.first.origin.toNat then .next (s1.sendMgmt 9 b.first.origin.toNat 0 (leBytes 64 r.pack.toNat))
      else .next (s1.countReport r)) := by
  show execDigestBatchSend i s = _
  unfold execDigestBatchSend
  rw [h]
  rfl

theorem execDigestBatchSend_none (h : s.flt.batches[i]? = none) : exec (.digestBatchSend i) s = .next s := by
  show execDigestBatchSend i s = _
  unfold execDigestBatchSend
  rw [h]
  rfl

/-- FAULT_ACK raises the acknowledged number and drops the errors that it covers (R547). -/
theorem execFaultAck_served {c : Client} {n : BitVec 32} (hs : s.serves c 0x7800 3 = true) :
    ∃ t, exec (.faultAck c n) s = .next (t.answer c stOk 0) ∧ SameBytes s t ∧
      t.flt.acked = (if s.flt.acked.toNat < n.toNat then n else s.flt.acked) ∧
      ∀ k, k ∈ t.flt.chipErr ↔ k ∈ s.flt.chipErr ∧ n.toNat < k.toNat := by
  refine ⟨_, congrArg Host.Outcome.next (State.request_eq_of_op hs rfl), fun _ => rfl, rfl, fun k => ?_⟩
  exact List.mem_filter.trans (and_congr_right fun _ => decide_eq_true_iff)

variable {f : Fin 68}

theorem execMsixCoalesceExpire_more (h : s.flt.coalesce.find? (fun e => e.1 = f.val) = some (f.val, true)) :
    exec (.msixCoalesceExpire f) s = .next (({ s with flt := { s.flt with
      coalesce := s.flt.coalesce.map (fun (e : Nat × Bool) => if e.1 = f.val then (e.1, false) else e) } } : State).msix f.val 1) := by
  show execMsixCoalesceExpire f s = _
  unfold execMsixCoalesceExpire
  rw [h]
  rfl

theorem execMsixCoalesceExpire_ends (h : s.flt.coalesce.find? (fun e => e.1 = f.val) = some (f.val, false)) :
    exec (.msixCoalesceExpire f) s = .next { s with flt := { s.flt with
      coalesce := s.flt.coalesce.filter (fun (e : Nat × Bool) => e.1 ≠ f.val) } } := by
  show execMsixCoalesceExpire f s = _
  unfold execMsixCoalesceExpire
  rw [h]
  rfl

theorem execMsixCoalesceExpire_none (h : s.flt.coalesce.find? (fun e => e.1 = f.val) = none) :
    exec (.msixCoalesceExpire f) s = .next s := by
  show execMsixCoalesceExpire f s = _
  unfold execMsixCoalesceExpire
  rw [h]
  rfl

end

/-- Settles O49, command by command; the move of the queue by what one record does to the log (`State.logRecord_signals`). -/
theorem faultRecordsAreLogged : Obligations.FaultRecordsAreLogged := by
  unfold Obligations.FaultRecordsAreLogged
  refine ⟨fun s i => ⟨fun w => execAggregationWindowClose_some, execAggregationWindowClose_none⟩,
    fun s => ⟨fun n => execAggregationOverflowEnd_some, execAggregationOverflowEnd_none⟩,
    fun s i => ⟨fun b hb => ⟨fun h0 => ?_, fun h0 hp => ?_, fun h0 hp => ?_⟩, execDigestBatchSend_none⟩,
    fun s => ⟨execFaultLogMove_moves, fun h => if_pos (by simpa using h)⟩,
    fun s c n => ⟨fun hs => congrArg Host.Outcome.next (State.request_eq_of_op hs rfl),
      fun hr => congrArg Host.Outcome.next (State.query_served hr _), execFaultAck_served⟩,
    fun s f => ⟨fun more h => ⟨fun hm => ?_, fun hm => ?_⟩, execMsixCoalesceExpire_none⟩⟩
  · exact (execDigestBatchSend_some hb).trans (if_pos h0)
  · exact (execDigestBatchSend_some hb).trans ((if_neg h0).trans (if_pos hp))
  · exact (execDigestBatchSend_some hb).trans ((if_neg h0).trans (if_neg (by simp [hp])))
  · subst hm
    exact execMsixCoalesceExpire_more h
  · subst hm
    exact execMsixCoalesceExpire_ends h

end Machine
end Sys2Proof

namespace Sys2Proof
namespace Machine

/-! Requests of the object dictionary (R441-R451): where a message goes, what a READ and a WRITE are answered. -/

/-! ### Where a message goes -/

section
variable {s : State} {c : Client} {h : BitVec 128} {data : List (BitVec 8)}

/-- A window that takes messages is open and its version stands. -/
theorem State.windowTakes_window {w : Fin 68} (hp : c.path = .window w) (ht : s.windowTakes c = true) :
    (s.clientScope c = 0xFFFF || (s.windowAt w.val).changed) = false := by
  unfold State.windowTakes at ht
  rw [hp] at ht
  simpa using ht

/-- Outside a gap a message that its path takes reaches the service. -/
theorem State.arriveMessage_served (hg : s.pwr.gateOn = true) (ht : s.windowTakes c = true) (hc : s.cx.gap = false) :
    s.arriveMessage c h data = s.odServe c h data := by
  unfold State.arriveMessage
  rw [if_neg (by simp [hg])]
  split
  · next w hp => rw [if_neg (by rw [State.windowTakes_window hp ht]; decide), if_neg (by simp [hc])]
  · rfl

/-- In a gap a window's message is queued (R371). -/
theorem State.arriveMessage_gap_window {w : Fin 68} (hg : s.pwr.gateOn = true) (ht : s.windowTakes c = true) (hc : s.cx.gap = true)
    (hp : c.path = .window w) : s.arriveMessage c h data = s.gapPush w.val (.message c h data) := by
  unfold State.arriveMessage
  rw [if_neg (by simp [hg]), hp]
  dsimp only
  rw [if_neg (by rw [State.windowTakes_window hp ht]; decide), if_pos hc]

/-- In a gap a management request is answered BUSY (R449). -/
theorem State.arriveMessage_gap_management (hg : s.pwr.gateOn = true) (hc : s.cx.gap = true) (hp : clientGroup c ≠ 0) :
    s.arriveMessage c h data = s.odRespond c h stBusy [] := by
  have hs : s.odServe c h data = s.odRespond c h stBusy [] := if_pos (by simp [State.notServed, hc])
  unfold State.arriveMessage
  rw [if_neg (by simp [hg])]
  split
  · next w e => exact absurd (by simp [clientGroup, e]) hp
  · exact hs

theorem State.notServed_running (hc : s.cx.gap = false) (hr : s.running = true) : s.notServed c h = false := by
  simp [State.notServed, hc, hr]

/-- R448: a repeated request gets its kept response. -/
theorem State.odServe_kept {r : BitVec 128} {d : List (BitVec 8)} (hc : s.cx.gap = false) (hr : s.running = true)
    (hk : s.keptFor c h = some (r, d)) : s.odServe c h data = s.resend c r d := by
  unfold State.odServe
  rw [if_neg (by rw [State.notServed_running hc hr]; decide), hk]

/-- A READ or WRITE of another entry than RESET_COMMAND is answered as it is performed. -/
theorem State.odServe_performed (hc : s.cx.gap = false) (hr : s.running = true) (hk : s.keptFor c h = none) (h4 : hdrOp h ≠ 4)
    (hi : hdrOp h ≠ 2 ∨ hdrIndex h ≠ 0x7C20) :
    s.odServe c h data = (s.perform c h data).2.2.odRespond c h (s.perform c h data).1 (s.perform c h data).2.1 := by
  unfold State.odServe
  rw [if_neg (by rw [State.notServed_running hc hr]; decide), hk]
  dsimp only
  rw [if_neg (by simp [h4]), if_neg (by rcases hi with hi | hi <;> simp [hi])]

/-- A READ is answered with what `readMessage` finds. -/
theorem State.arriveMessage_read (hg : s.pwr.gateOn = true) (ht : s.windowTakes c = true) (hc : s.cx.gap = false) (hr : s.running = true)
    (hh : headerGood h 0 = true) (ho : hdrOp h = 1) (hk : s.keptFor c h = none) {st : Nat} {bs : List (BitVec 8)} {u : State}
    (e : s.readMessage c h = (st, bs, u)) : s.arriveMessage c h [] = u.odRespond c h st bs := by
  have hp : s.perform c h [] = s.readMessage c h := by
    unfold State.perform
    rw [if_neg (by simp [hh]), List.length_nil, if_neg (Nat.not_lt_zero _), if_pos ho]
  rw [State.arriveMessage_served hg ht hc, State.odServe_performed hc hr hk (by omega) (.inl (by omega)), hp, e]

/-! ### READ -/

/-- R445: what a READ at an OFFSET that is not 0 is answered from the latch. -/
def State.readLater (s : State) (c : Client) (h : BitVec 128) : Answered :=
  match (s.clientAt c).latch with
  | some (k, bs) =>
    if k ≠ odKey (hdrIndex h) (hdrSub h) then (stSegment, [], s)
    else if bs.length < hdrOffset h then (stLength, [], s)
    else (stOk, (bs.drop (hdrOffset h)).take (Nat.min (hdrLength h) (pathLimit c)), s)
  | none => (stSegment, [], s)

/-- R445: what a READ of a whole value is answered, the value being latched. -/
def State.readFirst (s : State) (c : Client) (h : BitVec 128) (bs : List (BitVec 8)) : Answered :=
  (stOk, bs.take (Nat.min (hdrLength h) (pathLimit c)), s.modClient c (fun x => { x with latch := some (odKey (hdrIndex h) (hdrSub h), bs) }))

theorem State.readMessage_eq (s : State) (c : Client) (h : BitVec 128) : s.readMessage c h =
    match odHighest (hdrIndex h) with
    | none => (stNoEntry, [], s)
    | some top =>
      match odRow (hdrIndex h) (hdrSub h) with
      | none =>
        if hdrSub h ≠ 0 then (stNoEntry, [], s)
        else if !s.inScope c (hdrIndex h) (hdrSub h) false then (stDenied, [], s)
        else if hdrOffset h = 0 then s.readFirst c h [BitVec.ofNat 8 top] else s.readLater c h
      | some r =>
        if !s.inScope c (hdrIndex h) (hdrSub h) false || (hdrIndex h = 0x3850 && hdrSub h ≤ 4 && clientGroup c = 0) then (stDenied, [], s)
        else if r.acc = .wo then (stMode, [], s)
        else if hdrOffset h = 0 then
          (s.entryValue c r (hdrIndex h) (hdrSub h)).2.readFirst c h (s.entryValue c r (hdrIndex h) (hdrSub h)).1
        else s.readLater c h := rfl

theorem State.readMessage_noEntry (ht : odHighest (hdrIndex h) = none) : s.readMessage c h = (stNoEntry, [], s) := by
  rw [State.readMessage_eq, ht]

section
variable {top : Nat}

/-- What a READ of a subindex without a row is answered: subindex 0 holds the highest. -/
theorem State.readMessage_noRow (ht : odHighest (hdrIndex h) = some top) (hr : odRow (hdrIndex h) (hdrSub h) = none) :
    s.readMessage c h = if hdrSub h ≠ 0 then (stNoEntry, [], s)
      else if !s.inScope c (hdrIndex h) (hdrSub h) false then (stDenied, [], s)
      else if hdrOffset h = 0 then s.readFirst c h [BitVec.ofNat 8 top] else s.readLater c h := by
  rw [State.readMessage_eq, ht, hr]

variable {r : OdRow}

/-- What a READ of an entry is answered. -/
theorem State.readMessage_row (ht : odHighest (hdrIndex h) = some top) (hr : odRow (hdrIndex h) (hdrSub h) = some r) :
    s.readMessage c h =
      if !s.inScope c (hdrIndex h) (hdrSub h) false || (hdrIndex h = 0x3850 && hdrSub h ≤ 4 && clientGroup c = 0) then (stDenied, [], s)
      else if r.acc = .wo then (stMode, [], s)
      else if hdrOffset h = 0 then
        (s.entryValue c r (hdrIndex h) (hdrSub h)).2.readFirst c h (s.entryValue c r (hdrIndex h) (hdrSub h)).1
      else s.readLater c h := by
  rw [State.readMessage_eq, ht, hr]

/-- A client sees an entry in its scope; flip injection is not for windows. -/
theorem shown_iff : (!s.inScope c (hdrIndex h) (hdrSub h) false || (hdrIndex h = 0x3850 && hdrSub h ≤ 4 && clientGroup c = 0)) = true ↔
    ¬ (s.inScope c (hdrIndex h) (hdrSub h) false = true ∧ ¬ (hdrIndex h = 0x3850 ∧ hdrSub h ≤ 4 ∧ clientGroup c = 0)) := by
  simp [imp_iff_not_or, and_assoc]

end

/-- A later READ is answered from the latch of its entry, and with SEGMENT where there is none. -/
theorem readLater_tells {P : Nat → List (BitVec 8) → State → Prop} (hP : P (s.readLater c h).1 (s.readLater c h).2.1 (s.readLater c h).2.2) :
    match (s.clientAt c).latch with
    | none => P stSegment [] s
    | some (k, bs) => if k ≠ odKey (hdrIndex h) (hdrSub h) then P stSegment [] s else if bs.length < hdrOffset h then P stLength [] s
      else P stOk ((bs.drop (hdrOffset h)).take (Nat.min (hdrLength h) (pathLimit c))) s := by
  unfold State.readLater at hP
  cases hl : (s.clientAt c).latch with
  | none => rwa [hl] at hP
  | some x =>
    obtain ⟨k, bs⟩ := x
    rw [hl] at hP
    dsimp only at hP ⊢
    split
    · next hk => rwa [if_pos hk] at hP
    · next hk =>
      rw [if_neg hk] at hP
      split
      · next hb => rwa [if_pos hb] at hP
      · next hb => rwa [if_neg hb] at hP

/-! ### WRITE -/

/-- A WRITE of one message is answered with what `writeMessage` does, or is barred on a management path (R450). -/
theorem State.arriveMessage_write (hg : s.pwr.gateOn = true) (ht : s.windowTakes c = true) (hc : s.cx.gap = false) (hr : s.running = true)
    (hh : headerGood h data.length = true) (ho : hdrOp h = 2) (hk : s.keptFor c h = none) (hl : data.length ≤ pathLimit c)
    (hi : hdrIndex h ≠ 0x7C20) {st : Nat} {bs : List (BitVec 8)} {u : State}
    (e : (if clientGroup c ≠ 0 && s.option 199 199 = 0 then (stDenied, [], s) else s.writeMessage c h data) = (st, bs, u)) :
    s.arriveMessage c h data = u.odRespond c h st bs := by
  have hp : s.perform c h data = if clientGroup c ≠ 0 && s.option 199 199 = 0 then (stDenied, [], s) else s.writeMessage c h data := by
    unfold State.perform
    rw [if_neg (by simp [hh]), if_neg (Nat.not_lt.2 hl), if_neg (by omega), if_pos ho]
  rw [State.arriveMessage_served hg ht hc, State.odServe_performed hc hr hk (by omega) (.inr hi), hp, e]

variable {top n : Nat} {r : OdRow}

theorem State.writeMessage_denied (hh : odHighest (hdrIndex h) = some top) (hr : odRow (hdrIndex h) (hdrSub h) = some r)
    (hs : s.inScope c (hdrIndex h) (hdrSub h) true = false) : s.writeMessage c h data = (stDenied, [], s) := by
  unfold State.writeMessage
  dsimp only
  rw [hh, hr]
  dsimp only
  rw [if_pos (by simp [hs])]

theorem State.writeMessage_mode (hh : odHighest (hdrIndex h) = some top) (hr : odRow (hdrIndex h) (hdrSub h) = some r)
    (hs : s.inScope c (hdrIndex h) (hdrSub h) true = true) (ha : r.acc = .const ∨ r.acc = .ro) :
    s.writeMessage c h data = (stMode, [], s) := by
  unfold State.writeMessage
  dsimp only
  rw [hh, hr]
  dsimp only
  rw [if_neg (by simp [hs]), if_pos (by simpa using ha)]

/-- A value that fits one message is applied whole, or is refused with LENGTH. -/
theorem State.writeMessage_single (hh : odHighest (hdrIndex h) = some top) (hr : odRow (hdrIndex h) (hdrSub h) = some r)
    (hs : s.inScope c (hdrIndex h) (hdrSub h) true = true) (hc : r.acc ≠ .const) (ho : r.acc ≠ .ro) (hn : writeSize r = some n)
    (hl : n ≤ pathLimit c) : s.writeMessage c h data =
      if hdrOffset h = 0 && hdrFinal h && data.length = n then s.applyValue c r (hdrIndex h) (hdrSub h) data else (stLength, [], s) := by
  unfold State.writeMessage
  dsimp only
  rw [hh, hr]
  dsimp only
  rw [if_neg (by simp [hs]), if_neg (by simp [hc, ho]), hn]
  exact if_pos hl

/-- What keeps a client's write from an entry: MGMT_WRITE on a management path, and its scope. -/
theorem not_barred (h : clientGroup c = 0 ∨ s.option 199 199 ≠ 0) : ¬ (clientGroup c ≠ 0 && s.option 199 199 = 0) = true := by
  rcases h with h | h <;> simp [h]

end

/-- Settles O41, by where a message goes and by the rows of the dictionary. -/
theorem dictionaryRequests : Obligations.DictionaryRequests := by
  unfold Obligations.DictionaryRequests
  refine ⟨fun s c h hg ht hc hr hh ho hk => ?_, fun s c h data top r hg ht hc hr hh ho hk hl htop hrow => ?_,
    fun s c h r d data hg ht hc hr hk => ?_, fun s c h data hg ht hc => ⟨fun hp => ?_, fun w hp => ?_⟩, fun s c h hn => if_neg ?_,
    fun s c => ⟨fun hl => if_pos ?_, fun hl => if_neg ?_⟩⟩
  · intro idx sub want tells shown latched later
    have tell {st : Nat} {bs : List (BitVec 8)} {u : State} (e : s.readMessage c h = (st, bs, u)) : tells st bs u :=
      congrArg ok (State.arriveMessage_read hg ht hc hr hh ho hk e)
    have late (e : s.readMessage c h = s.readLater c h) : later := readLater_tells (P := tells) (tell e)
    refine ⟨fun hn => tell (State.readMessage_noEntry hn), fun top htop hrow => ?_, fun top r htop hrow => ?_⟩
    · have e := State.readMessage_noRow (s := s) (c := c) htop hrow
      refine ⟨fun hs => tell (e.trans (if_pos hs)), fun hs hi => tell (e.trans ((if_neg (not_not.2 hs)).trans (if_pos (by rw [hi]; rfl)))),
        fun hs hi => ?_⟩
      have e' := e.trans ((if_neg (not_not.2 hs)).trans (if_neg (by rw [hi]; decide)))
      refine ⟨fun h0 => ⟨tell (e'.trans (if_pos h0)), fun hp hx => ?_⟩, fun h0 => late (e'.trans (if_neg h0))⟩
      exact (if_pos (by rw [hp, ho]; simpa using hx)).trans (tell (e'.trans (if_pos h0)))
    · have e := State.readMessage_row (s := s) (c := c) htop hrow
      have e' (hs : shown) := e.trans (if_neg (fun hb => shown_iff.1 hb hs))
      exact ⟨fun hs => tell (e.trans (if_pos (shown_iff.2 hs))), fun hs ha => tell ((e' hs).trans (if_pos ha)),
        fun hs ha h0 => tell ((e' hs).trans ((if_neg ha).trans (if_pos h0))),
        fun hs ha h0 => late ((e' hs).trans ((if_neg ha).trans (if_neg h0)))⟩
  · intro tells may hi
    have tell {st : Nat} {bs : List (BitVec 8)} {u : State}
        (e : (if clientGroup c ≠ 0 && s.option 199 199 = 0 then (stDenied, [], s) else s.writeMessage c h data) = (st, bs, u)) :
        tells st bs u := congrArg ok (State.arriveMessage_write hg ht hc hr hh ho hk hl hi e)
    refine ⟨fun hm => tell ?_, fun hm ha => tell ?_, fun n hm hcn hro hn hlim => ⟨fun h0 hf hd => tell ?_, fun hb => tell ?_⟩⟩
    · by_cases hb : clientGroup c = 0 ∨ s.option 199 199 ≠ 0
      · exact (if_neg (not_barred hb)).trans (State.writeMessage_denied htop hrow (Bool.not_eq_true _ ▸ fun e => hm ⟨hb, e⟩))
      · exact if_pos (by simpa using hb)
    · exact (if_neg (not_barred hm.1)).trans (State.writeMessage_mode htop hrow hm.2 ha)
    · exact (if_neg (not_barred hm.1)).trans ((State.writeMessage_single htop hrow hm.2 hcn hro hn hlim).trans (if_pos (by simp [h0, hf, hd])))
    · refine (if_neg (not_barred hm.1)).trans ((State.writeMessage_single htop hrow hm.2 hcn hro hn hlim).trans (if_neg ?_))
      rcases hb with hb | hb | hb <;> simp [hb]
  · exact ⟨congrArg ok ((State.arriveMessage_served hg ht hc).trans (State.odServe_kept hc hr hk)),
      congrArg ok ((State.arriveMessage_served hg ht hc).trans (State.odServe_kept hc hr hk))⟩
  · exact ⟨congrArg ok (State.arriveMessage_gap_management hg hc hp), congrArg ok (State.arriveMessage_gap_management hg hc hp)⟩
  · exact ⟨congrArg ok (State.arriveMessage_gap_window hg ht hc hp), congrArg ok (State.arriveMessage_gap_window hg ht hc hp)⟩
  · rcases hn with hn | hn | hn <;> simp [hn]
  · exact Option.isSome_iff_ne_none.2 hl
  · simp [hl]

end Machine
end Sys2Proof

namespace Sys2Proof
namespace Machine

/-! The option record, the field network and the I3C address (R451, R452, R455-R457). -/

section
variable {s : State}

/-- R457: the record as it is stored: the next GENERATION, and the CRC over it. -/
def State.storedOptions (s : State) (v : BitVec 2048) : BitVec 2048 :=
  let r := BitVec.ofNat 2048 (setBits v.toNat 95 64 ((s.option 95 64 + 1) % 2 ^ 32))
  BitVec.ofNat 2048 (setBits r.toNat 2047 2016 (optionCrc r).toNat)

/-- What OPTION_WRITE of a record comes to: the copy not in use is erased, and the storing begins. -/
theorem optionWrite_eq (v : BitVec 2048) (s : State) : optionWrite v s =
    if s.opt.st = 1 then refuse stBusy s
    else if !optionForm v then refuse stRange s
    else done { s with opt :=
      if s.opt.used then { s.opt with st := 1, writing := some (s.storedOptions v), copy0 := BitVec.allOnes 2048, commit0 := BitVec.allOnes 32 }
      else { s.opt with st := 1, writing := some (s.storedOptions v), copy1 := BitVec.allOnes 2048, commit1 := BitVec.allOnes 32 } } := rfl

theorem optionWrite_range {v : BitVec 2048} (h : s.opt.st ≠ 1) (hf : optionForm v = false) : optionWrite v s = refuse stRange s :=
  (if_neg h).trans (if_pos (by simp [hf]))

/-- A good record erases copy 1 while copy 0 is in use. -/
theorem optionWrite_copy1 {v : BitVec 2048} (h : s.opt.st ≠ 1) (hf : optionForm v = true) (hu : s.opt.used = false) : optionWrite v s =
    done { s with opt := { s.opt with st := 1, writing := some (s.storedOptions v), copy1 := BitVec.allOnes 2048, commit1 := BitVec.allOnes 32 } } := by
  rw [optionWrite_eq, if_neg h, if_neg (by simp [hf]), hu]
  rfl

theorem optionWrite_copy0 {v : BitVec 2048} (h : s.opt.st ≠ 1) (hf : optionForm v = true) (hu : s.opt.used = true) : optionWrite v s =
    done { s with opt := { s.opt with st := 1, writing := some (s.storedOptions v), copy0 := BitVec.allOnes 2048, commit0 := BitVec.allOnes 32 } } := by
  rw [optionWrite_eq, if_neg h, if_neg (by simp [hf]), hu]
  rfl

/-- The record that is being stored is programmed into the copy not in use, its commit word last. -/
theorem execOptionWriteDone_some {r : BitVec 2048} (h : s.opt.writing = some r) : exec .optionWriteDone s = .next { s with opt :=
    if s.opt.used then { s.opt with st := 2, writing := none, copy0 := r, commit0 := 0x54494D43 }
    else { s.opt with st := 2, writing := none, copy1 := r, commit1 := 0x54494D43 } } := by
  show execOptionWriteDone s = _
  unfold execOptionWriteDone
  rw [h]
  rfl

theorem execOptionWriteDone_none (h : s.opt.writing = none) : exec .optionWriteDone s = .next s := by
  show execOptionWriteDone s = _
  unfold execOptionWriteDone
  rw [h]
  rfl

/-- SETDASA names the target by its static address, 0 being none. -/
theorem execSetdasa_named {static a : BitVec 7} (hi : s.i3c = none) (h0 : static ≠ 0) (hs : static.toNat = s.option 198 192) :
    exec (.setdasa static a) s = .next { s with i3c := some a, out := .i3cAddress a :: s.out } :=
  if_pos (by simp only [hi, hs, Option.isNone_none, decide_true, Bool.and_true, Bool.true_and, decide_eq_true_eq]; exact h0)

theorem execSetdasa_other {static a : BitVec 7} (h : static = 0 ∨ static.toNat ≠ s.option 198 192) :
    exec (.setdasa static a) s = .next s := by
  refine if_neg ?_
  rw [Bool.and_eq_true, Bool.and_eq_true, decide_eq_true_eq, decide_eq_true_eq]
  rintro ⟨⟨-, h0⟩, hs⟩
  exact h.elim h0 (fun e => e hs)

end

/-- Settles O42, by which copy is in use, by the chip's own address, and by the address that the target holds. -/
theorem optionsNetworkAndAddresses : Obligations.OptionsNetworkAndAddresses := by
  unfold Obligations.OptionsNetworkAndAddresses
  refine ⟨fun s c v hs => ?_, fun s r hw => ⟨fun hu => ?_, fun hu => ?_⟩, fun s => execOptionWriteDone_none, fun s target h => if_neg ?_,
    fun s data h => if_neg (by simp [h]), fun s target hg => ⟨fun ht => if_pos ?_, fun data => if_pos hg⟩,
    fun s a static hi => ⟨if_pos (by simp [hi]), execSetdasa_named hi, execSetdasa_other⟩,
    fun s a b static hi => ⟨if_neg (by simp [hi]), if_neg (by simp [hi])⟩⟩
  · have tells {st v' : Nat} {t : State} (e : optionWrite v (s.modClient c id) = (st, v', t)) :
        exec (.optionWrite c v) s = .next (t.answer c st v') := congrArg Host.Outcome.next (State.request_eq_of_op hs e)
    exact ⟨fun h => tells (if_pos h), fun h hf => tells (optionWrite_range h hf), fun h hf hu => tells (optionWrite_copy1 h hf hu),
      fun h hf hu => tells (optionWrite_copy0 h hf hu)⟩
  · rw [execOptionWriteDone_some hw, hu]
    rfl
  · rw [execOptionWriteDone_some hw, hu]
    rfl
  · rw [Bool.and_eq_true, decide_eq_true_eq]
    rintro ⟨hg, ht⟩
    exact h.elim (fun e => absurd (hg.symm.trans e) (by decide)) (fun e => e ht)
  · rw [hg, Bool.true_and]
    exact decide_eq_true ht

end Machine
end Sys2Proof

namespace Sys2Proof
namespace Machine

/-! The control complexes (R461-R472): their places, who is in control, planned switch-overs and updates. -/

/-! ### The two complexes -/

@[simp] theorem otherCx_otherCx (x : Cx) : otherCx (otherCx x) = x := by cases x <;> rfl

theorem otherCx_ne (x : Cx) : otherCx x ≠ x := by cases x <;> decide

section
variable (s : State) (x : Cx) (f : Complex → Complex)

@[simp] theorem State.cxAt_modCx : (s.modCx x f).cxAt x = f (s.cxAt x) := by cases x <;> rfl

@[simp] theorem State.cxAt_modCx_otherCx : (s.modCx x f).cxAt (otherCx x) = s.cxAt (otherCx x) := by cases x <;> rfl

@[simp] theorem State.cxAt_modCx_of_otherCx : (s.modCx (otherCx x) f).cxAt x = s.cxAt x := by cases x <;> rfl

/-- A change of one complex leaves who is in control, the gap, the update and everything but the complexes. -/
theorem State.modCx_keeps : s.modCx x f = { s with cx := { s.cx with a := (s.modCx x f).cx.a, b := (s.modCx x f).cx.b } } := by
  cases x <;> rfl

@[simp] theorem State.modCx_active : (s.modCx x f).cx.active = s.cx.active := by cases x <;> rfl
@[simp] theorem State.modCx_gap : (s.modCx x f).cx.gap = s.cx.gap := by cases x <;> rfl
@[simp] theorem State.modCx_fwState : (s.modCx x f).cx.fwState = s.cx.fwState := by cases x <;> rfl
@[simp] theorem State.modCx_staging : (s.modCx x f).cx.staging = s.cx.staging := by cases x <;> rfl
@[simp] theorem State.modCx_host : (s.modCx x f).host = s.host := by cases x <;> rfl

end

theorem State.cxAt_congr {s t : State} (h : t.cx = s.cx) (x : Cx) : t.cxAt x = s.cxAt x := by
  cases x with
  | A => exact congrArg CxState.a h
  | B => exact congrArg CxState.b h

/-- Whether the staged image is ready on a complex rests on the complex and the update. -/
theorem State.stagedReady_congr {s t : State} {x : Cx} (hx : t.cxAt x = s.cxAt x) (hf : t.cx.fwState = s.cx.fwState) :
    t.stagedReady x = s.stagedReady x := by
  unfold State.stagedReady
  rw [hx, hf]

/-! ### Control -/

/-- What a complex that takes control finds: itself ACTIVE, the gap open, and the staged image running where it was ready there. -/
theorem State.takeControl_cx (s : State) (x : Cx) :
    (s.takeControl x).cx.active = x ∧ (s.takeControl x).cx.gap = true ∧
    (s.takeControl x).cxAt x = { s.cxAt x with st := .active, owed := false } ∧
    (s.takeControl x).cxAt (otherCx x) = s.cxAt (otherCx x) ∧
    (s.takeControl x).cx.fwState = (if s.stagedReady x then 5 else s.cx.fwState) ∧
    (s.takeControl x).host.boot.image = if s.stagedReady x then s.cx.staging else s.host.boot.image := by
  unfold State.takeControl
  cases h : s.stagedReady x <;> cases x <;> exact ⟨rfl, rfl, rfl, rfl, rfl, rfl⟩

/-- A planned switch-over: who is in control, the gap, and what the two complexes then are (R463, R465, R469). -/
theorem State.switchOver_cx (s : State) (x : Cx) : SameBytes s (s.switchOver x) ∧ (s.switchOver x).cx.active = x ∧
    (s.switchOver x).cx.gap = true ∧ ((s.switchOver x).cxAt x).st = .active ∧
    ((s.switchOver x).cxAt (otherCx x)).st = (if s.stagedReady x then .booting else .standby) := by
  unfold State.switchOver
  dsimp only
  refine ⟨fun a => by rw [State.takeControl_mem, State.modCx_mem], ?_⟩
  generalize hu : s.modCx (otherCx x) _ = u
  obtain ⟨ha, hg, hx, ho, -, -⟩ := u.takeControl_cx x
  refine ⟨ha, hg, congrArg Complex.st hx, (congrArg Complex.st ho).trans ?_⟩
  rw [← hu, State.cxAt_modCx]

section
variable {s : State} {x : Cx}

theorem State.planSwitch_now (h : s.pwr.emerg = false) (hh : s.pwr.emergHold = false) : s.planSwitch x = s.switchOver x :=
  if_neg (by simp [State.switchBarred, h, hh])

/-- An emergency, or one that cleared less than 1 s ago, defers a planned switch-over (R470). -/
theorem State.planSwitch_deferred (h : s.pwr.emerg = true ∨ s.pwr.emergHold = true) : s.planSwitch x =
    { s with cx := { s.cx with deferred := some x, fwState := if s.stagedReady x then 4 else s.cx.fwState } } :=
  if_pos (by simpa [State.switchBarred] using h)

/-! ### Requests and events -/

/-- The complex that a request names. -/
def namedCx (n : Nat) : Cx := if n = 0 then .A else .B

variable {n : Nat}

theorem complexCommand_restart (hn : n ≤ 1) (h : (s.cxAt (namedCx n)).st = .held) :
    complexCommand n 1 s = done (s.modCx (namedCx n) (fun c => { c with st := .booting, staged := false })) :=
  (if_neg (Nat.not_lt.2 hn)).trans (if_neg (not_not.2 h))

theorem complexCommand_restart_state (hn : n ≤ 1) (h : (s.cxAt (namedCx n)).st ≠ .held) : complexCommand n 1 s = refuse stState s :=
  (if_neg (Nat.not_lt.2 hn)).trans (if_pos h)

theorem complexCommand_switchover (hn : n ≤ 1) (h : (s.cxAt (namedCx n)).st = .standby) :
    complexCommand n 2 s = done (s.planSwitch (namedCx n)) :=
  (if_neg (Nat.not_lt.2 hn)).trans (if_neg (not_not.2 h))

theorem complexCommand_switchover_state (hn : n ≤ 1) (h : (s.cxAt (namedCx n)).st ≠ .standby) : complexCommand n 2 s = refuse stState s :=
  (if_neg (Nat.not_lt.2 hn)).trans (if_pos h)

/-- R468: what a complex must be to take control back. -/
theorem revertOwed_iff : (decide (s.ringClass ≤ 1) && decide ((s.cxAt x).st = .standby) && (s.cxAt x).owed && !s.cx.gap) = true ↔
    s.ringClass ≤ 1 ∧ (s.cxAt x).st = .standby ∧ (s.cxAt x).owed = true ∧ s.cx.gap = false := by
  simp [and_assoc]

theorem execSwitchoverDeferralExpire_waits (h : s.cx.deferred = none ∨ s.pwr.emerg = true ∨ s.cx.gap = true) :
    exec .switchoverDeferralExpire s = .next s := by
  show execSwitchoverDeferralExpire s = _
  unfold execSwitchoverDeferralExpire
  cases hd : s.cx.deferred with
  | none => rfl
  | some x =>
    have hb : (s.pwr.emerg || s.cx.gap) = true := by simpa [hd] using h
    exact if_pos hb

/-- Once its barrier has gone, a deferred switch-over happens, or is dropped where it has become impossible. -/
theorem execSwitchoverDeferralExpire_due (hd : s.cx.deferred = some x) (he : s.pwr.emerg = false) (hg : s.cx.gap = false) :
    exec .switchoverDeferralExpire s = .next (if (s.cxAt x).st = .standby ∧ s.cx.active ≠ x then s.switchOver x
      else { s with cx := { s.cx with deferred := none } }) := by
  show execSwitchoverDeferralExpire s = _
  unfold execSwitchoverDeferralExpire
  rw [hd]
  dsimp only
  rw [if_neg (by simp [he, hg])]
  by_cases h : (s.cxAt x).st = .standby ∧ s.cx.active ≠ x
  · rw [if_pos h, if_pos (by simpa using h)]
    rfl
  · rw [if_neg h, if_neg (by simpa using h)]
    rfl

/-! ### Updates -/

theorem fwCommand_load (h : (s.cxAt (otherCx s.cx.active)).st = .standby ∧
    (s.cx.fwState.toNat % 256 = 0 ∨ s.cx.fwState.toNat % 256 = 3 ∨ s.cx.fwState.toNat % 256 = 6)) :
    fwCommand 1 s = done (s.bootStandby true 1) := by
  obtain ⟨hr, hf⟩ := h
  refine if_pos ?_
  rw [Bool.and_eq_true, Bool.or_eq_true, Bool.or_eq_true, decide_eq_true_eq, decide_eq_true_eq, decide_eq_true_eq, decide_eq_true_eq, or_assoc]
  exact ⟨hr, hf⟩

theorem fwCommand_load_state (h : ¬ ((s.cxAt (otherCx s.cx.active)).st = .standby ∧
    (s.cx.fwState.toNat % 256 = 0 ∨ s.cx.fwState.toNat % 256 = 3 ∨ s.cx.fwState.toNat % 256 = 6))) : fwCommand 1 s = refuse stState s := by
  refine if_neg ?_
  rw [Bool.and_eq_true, Bool.or_eq_true, Bool.or_eq_true, decide_eq_true_eq, decide_eq_true_eq, decide_eq_true_eq, decide_eq_true_eq, or_assoc]
  exact h

theorem fwCommand_activate (hr : (s.cxAt (otherCx s.cx.active)).st = .standby) (hf : s.cx.fwState.toNat % 256 = 3) :
    fwCommand 2 s = done (s.planSwitch (otherCx s.cx.active)) :=
  if_pos (by simp [hr, hf])

theorem fwCommand_activate_state (h : ¬ ((s.cxAt (otherCx s.cx.active)).st = .standby ∧ s.cx.fwState.toNat % 256 = 3)) :
    fwCommand 2 s = refuse stState s :=
  if_neg (by simpa using h)

theorem fwCommand_cancel (h : s.cx.fwState.toNat % 256 = 3 ∨ s.cx.fwState.toNat % 256 = 4) :
    fwCommand 3 s = done (s.bootStandby false 0) :=
  if_pos (by simpa using h)

theorem fwCommand_cancel_state (h3 : s.cx.fwState.toNat % 256 ≠ 3) (h4 : s.cx.fwState.toNat % 256 ≠ 4) :
    fwCommand 3 s = refuse stState s :=
  if_neg (by simp [h3, h4])

variable {data : List (BitVec 8)}

/-- A write of the staging window stands in IDLE, READY and FAILED, and takes READY back to IDLE (R472). -/
theorem stageWrite_eq (hl : data.length ≤ 1048576) : stageWrite data s =
    let u : State := { s with cx := { s.cx with staging := Mem.write s.cx.staging (s.par 0x7C10 1 * 1048576) data } }
    if s.cx.fwState.toNat % 256 = 3 then done { u with cx := { u.cx with fwState := 0 } }
    else if s.cx.fwState.toNat % 256 = 0 || s.cx.fwState.toNat % 256 = 6 then done u else refuse stState s :=
  if_neg (Nat.not_lt.2 hl)

theorem stageWrite_ready (hl : data.length ≤ 1048576) (hf : s.cx.fwState.toNat % 256 = 3) : stageWrite data s =
    done { s with cx := { s.cx with staging := Mem.write s.cx.staging (s.par 0x7C10 1 * 1048576) data, fwState := 0 } } :=
  (stageWrite_eq hl).trans (if_pos hf)

theorem stageWrite_idle (hl : data.length ≤ 1048576) (hf : s.cx.fwState.toNat % 256 = 0 ∨ s.cx.fwState.toNat % 256 = 6) : stageWrite data s =
    done { s with cx := { s.cx with staging := Mem.write s.cx.staging (s.par 0x7C10 1 * 1048576) data } } :=
  (stageWrite_eq hl).trans ((if_neg (by omega)).trans (if_pos (by simpa using hf)))

theorem stageWrite_state (hl : data.length ≤ 1048576) (h0 : s.cx.fwState.toNat % 256 ≠ 0) (h3 : s.cx.fwState.toNat % 256 ≠ 3)
    (h6 : s.cx.fwState.toNat % 256 ≠ 6) : stageWrite data s = refuse stState s :=
  (stageWrite_eq hl).trans ((if_neg h3).trans (if_neg (by simp [h0, h6])))

end

/-- Settles O45, by what a planned switch-over and a write of the staging window find. -/
theorem switchoversAndUpdates : Obligations.SwitchoversAndUpdates := by
  unfold Obligations.SwitchoversAndUpdates
  refine ⟨fun s c x hs => ?_, State.switchOver_cx, fun s => ?_, fun s => ⟨execSwitchoverDeferralExpire_waits, fun x hd he hg =>
    ⟨fun h1 h2 => ?_, fun h => ?_⟩⟩, fun s c hs => ?_, fun s c data hs => ?_⟩
  · have tells {v st r : Nat} {val : List (BitVec 8)} {t : State} (e : complexCommand x.toNat v (s.modClient c id) = (st, r, t)) :
        ok (s.request c 0x7C00 10 val (complexCommand x.toNat v)) = .next (t.answer c st r) :=
      congrArg Host.Outcome.next (State.request_eq_of_op hs e)
    refine ⟨fun hn hx he hh => tells ?_, fun hn hx he => tells ?_, fun hn hx => tells (complexCommand_switchover_state hn hx),
      fun hn => tells (if_pos hn)⟩
    · exact (complexCommand_switchover hn hx).trans (congrArg done (State.planSwitch_now he hh))
    · exact (complexCommand_switchover hn hx).trans (congrArg done (State.planSwitch_deferred he))
  · refine ⟨fun ho he hh => ?_, fun ho he => ?_, fun ho => if_neg (fun e => ho (revertOwed_iff.1 e))⟩
    · exact (if_pos (revertOwed_iff.2 ho)).trans (congrArg ok (State.planSwitch_now he hh))
    · exact (if_pos (revertOwed_iff.2 ho)).trans (congrArg ok (State.planSwitch_deferred he))
  · exact (execSwitchoverDeferralExpire_due hd he hg).trans (congrArg Host.Outcome.next (if_pos ⟨h1, h2⟩))
  · refine (execSwitchoverDeferralExpire_due hd he hg).trans (congrArg Host.Outcome.next (if_neg ?_))
    exact fun e => h.elim (fun h => h e.1) e.2
  · have tells {v st r : Nat} {val : List (BitVec 8)} {t : State} (e : fwCommand v (s.modClient c id) = (st, r, t)) :
        ok (s.request c 0x7C10 4 val (fwCommand v)) = .next (t.answer c st r) :=
      congrArg Host.Outcome.next (State.request_eq_of_op hs e)
    refine ⟨fun hr hf => tells (fwCommand_load ⟨hr, hf⟩), fun h => tells (fwCommand_load_state h), fun hr hf he hh => tells ?_,
      fun hr hf he => tells ?_, fun h => tells (fwCommand_activate_state h), fun hf => tells (fwCommand_cancel hf),
      fun h3 h4 => tells (fwCommand_cancel_state h3 h4)⟩
    · exact (fwCommand_activate hr hf).trans (congrArg done (State.planSwitch_now he hh))
    · exact (fwCommand_activate hr hf).trans (congrArg done (State.planSwitch_deferred he))
  · have tells {st r : Nat} {t : State} (e : stageWrite data (s.modClient c id) = (st, r, t)) :
        exec (.fwStage c data) s = .next (t.answer c st r) :=
      congrArg Host.Outcome.next (State.request_eq_of_op hs e)
    exact ⟨fun hl => tells (if_pos hl), fun hl hf => tells (stageWrite_idle hl hf), fun hl hf => tells (stageWrite_ready hl hf),
      fun hl h0 h3 h6 => tells (stageWrite_state hl h0 h3 h6)⟩

end Machine
end Sys2Proof

namespace Sys2Proof
namespace Machine

/-! The control complexes fail and return (R461-R464, R469, R514): what a failure leaves of each complex, and the way back. -/

/-! ### Failure -/

theorem LogOnly.cx {s t : State} (h : LogOnly s t) : t.cx = s.cx := by rw [h.1]

theorem LogOnly.sameBytes {s t : State} (h : LogOnly s t) : SameBytes s t := fun a => congrArg (fun m => Mem.get m.mem a) h.med

/-- An isolation changes no complex and nothing of the host side. -/
theorem State.isolate_keeps (s : State) (b : Block) (scope unit n : Nat) :
    (s.isolate b scope unit n).cx = s.cx ∧ (s.isolate b scope unit n).host = s.host := by
  obtain ⟨iso, -, h⟩ := s.isolate_logOnly b scope unit n
  exact ⟨h.cx, h.host⟩

/-- R463: a complex is FAILED, its failure counted, and it is isolated. -/
def State.failCx (s : State) (x : Cx) (owed : Bool) : State :=
  (s.modCx x (fun c => { c with st := .failed, missed := 0, fails := s.now :: c.fails, owed := owed })).isolate (.cx x) 0 (cxCode x) 0

/-- A failure changes the complex that fails, and no other part of the complexes or of the host side. -/
theorem State.failCx_keeps (s : State) (x : Cx) (owed : Bool) :
    (s.failCx x owed).med.mem = s.med.mem ∧
    ((s.failCx x owed).cxAt x).st = .failed ∧ ((s.failCx x owed).cxAt x).owed = owed ∧
    (s.failCx x owed).cxAt (otherCx x) = s.cxAt (otherCx x) ∧ (s.failCx x owed).cx.active = s.cx.active ∧
    (s.failCx x owed).cx.gap = s.cx.gap ∧ (s.failCx x owed).cx.fwState = s.cx.fwState ∧
    (s.failCx x owed).cx.staging = s.cx.staging ∧ (s.failCx x owed).host = s.host := by
  unfold State.failCx
  obtain ⟨hc, hh⟩ := State.isolate_keeps
    (s.modCx x (fun c => { c with st := .failed, missed := 0, fails := s.now :: c.fails, owed := owed })) (.cx x) 0 (cxCode x) 0
  refine ⟨by rw [State.isolate_mem, State.modCx_mem], ?_, ?_, ?_, ?_, ?_, ?_, ?_, ?_⟩
  · rw [State.cxAt_congr hc, State.cxAt_modCx]
  · rw [State.cxAt_congr hc, State.cxAt_modCx]
  · rw [State.cxAt_congr hc, State.cxAt_modCx_otherCx]
  · rw [hc, State.modCx_active]
  · rw [hc, State.modCx_gap]
  · rw [hc, State.modCx_fwState]
  · rw [hc, State.modCx_staging]
  · rw [hh, State.modCx_host]

/-- A complex can be declared failed: the chip runs, the SID oscillator too, and it has not failed yet. -/
def State.mayFail (s : State) (x : Cx) : Prop :=
  (s.rst.phase = .released ∨ s.rst.phase = .active) ∧ bit s.clk.status 3 = false ∧ (s.cxAt x).st ≠ .failed

section
variable {s : State} {x : Cx}

theorem State.mayFail_iff : (!(decide (s.rst.phase = .released) || decide (s.rst.phase = .active)) || decide ((s.cxAt x).st = .failed)
    || bit s.clk.status 3) = true ↔ ¬ s.mayFail x := by
  rw [← Bool.not_eq_false, not_iff_not]
  simp only [State.mayFail, Bool.or_eq_false_iff, Bool.not_eq_false', Bool.or_eq_true, decide_eq_true_eq, decide_eq_false_iff_not]
  exact ⟨fun ⟨⟨h1, h2⟩, h3⟩ => ⟨h1, h3, h2⟩, fun ⟨h1, h3, h2⟩ => ⟨⟨h1, h2⟩, h3⟩⟩

theorem State.declareFailed_not (cause : Nat) (h : ¬ s.mayFail x) : s.declareFailed x cause = s :=
  if_pos (State.mayFail_iff.2 h)

/-- Where the active complex has no standby the chip is reset. -/
theorem State.declareFailed_both (cause : Nat) (h : s.mayFail x) (ha : s.cx.active = x) (hs : (s.cxAt (otherCx x)).st ≠ .standby) :
    s.declareFailed x cause = (s.reportDeferredAlways kBothComplexesFailed [(32, s.cx.a.st.code), (32, s.cx.b.st.code)]).chipReset s.prstKind 5 :=
  (if_neg (fun e => State.mayFail_iff.1 e h)).trans ((if_neg (not_not.2 ha)).trans (if_neg hs))

/-- The failure of the active complex passes control to the standby. -/
theorem State.declareFailed_active (cause : Nat) (h : s.mayFail x) (ha : s.cx.active = x) (hs : (s.cxAt (otherCx x)).st = .standby) :
    ∃ u : State, u.med.mem = s.med.mem ∧ (u.cxAt x).st = .failed ∧ (u.cxAt x).owed = true ∧
      u.cxAt (otherCx x) = s.cxAt (otherCx x) ∧ u.cx.fwState = s.cx.fwState ∧ u.cx.staging = s.cx.staging ∧ u.host = s.host ∧
      s.declareFailed x cause = ((u.takeControl (otherCx x)).report kComplexFailed 0 0 [(32, cxCode x), (32, cause), (32, 0)]).bump 32 0x7C00 4 := by
  obtain ⟨hm, hst, how, ho, -, -, hf, hg, hh⟩ := s.failCx_keeps x true
  have e : s.declareFailed x cause = ((({ (s.failCx x true).modCx x (fun c => { c with staged := s.stagedReady (otherCx x) }) with
      clk := { ((s.failCx x true).modCx x (fun c => { c with staged := s.stagedReady (otherCx x) })).clk with
        cycles := Tab.erase ((s.failCx x true).modCx x (fun c => { c with staged := s.stagedReady (otherCx x) })).clk.cycles (17 + cxCode x) } } :
      State).takeControl (otherCx x)).report kComplexFailed 0 0 [(32, cxCode x), (32, cause), (32, 0)]).bump 32 0x7C00 4 :=
    (if_neg (fun e => State.mayFail_iff.1 e h)).trans ((if_neg (not_not.2 ha)).trans (if_pos hs))
  generalize s.failCx x true = w at hm hst how ho hf hg hh e
  refine ⟨_, ?_, ?_, ?_, ?_, ?_, ?_, ?_, e⟩
  · exact (State.modCx_mem ..).trans hm
  · exact (congrArg Complex.st (State.cxAt_modCx w x _)).trans hst
  · exact (congrArg Complex.owed (State.cxAt_modCx w x _)).trans how
  · exact (State.cxAt_modCx_otherCx w x _).trans ho
  · exact (State.modCx_fwState w x _).trans hf
  · exact (State.modCx_staging w x _).trans hg
  · exact (State.modCx_host w x _).trans hh

/-- Whether the complex that fails was loading or activating an image (R469). -/
def State.updating (s : State) (x : Cx) : Prop :=
  (s.cxAt x).staged = true ∧ 1 ≤ s.cx.fwState.toNat % 256 ∧ s.cx.fwState.toNat % 256 ≤ 4

theorem State.updating_iff : ((s.cxAt x).staged && (s.cx.fwState.toNat % 256 = 1 || s.cx.fwState.toNat % 256 = 2 || s.cx.fwState.toNat % 256 = 3
    || s.cx.fwState.toNat % 256 = 4)) = true ↔ s.updating x := by
  simp only [State.updating, Bool.and_eq_true, Bool.or_eq_true, decide_eq_true_eq]
  refine and_congr_right fun _ => ?_
  omega

/-- The failure of the standby leaves control, and ends a LOAD or activation of its image. -/
theorem State.declareFailed_standby (cause : Nat) (h : s.mayFail x) (ha : s.cx.active ≠ x) [Decidable (s.updating x)] :
    ∃ u : State, SameBytes s u ∧ (u.cxAt x).st = .failed ∧ u.cxAt (otherCx x) = s.cxAt (otherCx x) ∧ u.cx.active = s.cx.active ∧
      u.cx.gap = s.cx.gap ∧ u.cx.fwState = s.cx.fwState ∧
      s.declareFailed x cause = if s.updating x then
        (({ u with cx := { u.cx with fwState := 6, deferred := none } } : State).modCx x (fun c => { c with staged := false })).report
          kUpdateFailed 0 0 [(8, 0)] else u := by
  obtain ⟨hm, hst, -, ho, hac, hg, hf, -, -⟩ := s.failCx_keeps x (s.cxAt x).owed
  have hl := State.report_logOnly (s.failCx x (s.cxAt x).owed) kComplexFailed 0 0 [(32, cxCode x), (32, cause), (32, 0)]
  have hcx := hl.cx
  refine ⟨{ (s.failCx x (s.cxAt x).owed).report kComplexFailed 0 0 [(32, cxCode x), (32, cause), (32, 0)] with
      clk := { ((s.failCx x (s.cxAt x).owed).report kComplexFailed 0 0 [(32, cxCode x), (32, cause), (32, 0)]).clk with
        cycles := Tab.erase ((s.failCx x (s.cxAt x).owed).report kComplexFailed 0 0 [(32, cxCode x), (32, cause), (32, 0)]).clk.cycles
          (17 + cxCode x) } }, fun a => (hl.sameBytes a).trans (congrArg (Mem.get · a) hm), ?_, ?_, ?_, ?_, ?_, ?_⟩
  · exact (congrArg Complex.st (State.cxAt_congr hcx x)).trans hst
  · exact (State.cxAt_congr hcx (otherCx x)).trans ho
  · exact (congrArg CxState.active hcx).trans hac
  · exact (congrArg CxState.gap hcx).trans hg
  · exact (congrArg CxState.fwState hcx).trans hf
  · refine (if_neg (fun e => State.mayFail_iff.1 e h)).trans ((if_pos ha).trans ?_)
    by_cases hu : s.updating x
    · exact (if_pos (State.updating_iff.2 hu)).trans (if_pos hu).symm
    · exact (if_neg (fun e => hu (State.updating_iff.1 e))).trans (if_neg hu).symm

end

/-- What the failure of the active complex leaves where a standby takes control. -/
theorem State.declareFailed_active_leaves {s : State} {x : Cx} (cause : Nat) (h : s.mayFail x) (ha : s.cx.active = x)
    (hs : (s.cxAt (otherCx x)).st = .standby) :
    let t := s.declareFailed x cause
    let ready := s.stagedReady (otherCx x)
    SameBytes s t ∧ t.cx.active = otherCx x ∧ t.cx.gap = true ∧ (t.cxAt x).st = .failed ∧ (t.cxAt x).owed = true ∧ (t.cxAt (otherCx x)).st = .active ∧
      t.cx.fwState = (if ready then 5 else s.cx.fwState) ∧ t.host.boot.image = (if ready then s.cx.staging else s.host.boot.image) := by
  obtain ⟨u, hm, hst, how, ho, hf, hg, hh, e⟩ := State.declareFailed_active cause h ha hs
  obtain ⟨ta, tg, tx, tother, tf, ti⟩ := u.takeControl_cx (otherCx x)
  have hl := State.report_logOnly (u.takeControl (otherCx x)) kComplexFailed 0 0 [(32, cxCode x), (32, cause), (32, 0)]
  have hr : u.stagedReady (otherCx x) = s.stagedReady (otherCx x) := State.stagedReady_congr ho hf
  rw [otherCx_otherCx] at tother
  rw [hr, hf] at tf
  rw [hr, hg, hh] at ti
  intro t ready
  have hcx : t.cx = (u.takeControl (otherCx x)).cx := (congrArg State.cx e).trans hl.cx
  have hhost : t.host = (u.takeControl (otherCx x)).host := (congrArg State.host e).trans hl.host
  refine ⟨fun a => ?_, ?_, ?_, ?_, ?_, ?_, ?_, ?_⟩
  · rw [show t.med.mem = _ from congrArg (fun s => s.med.mem) e]
    refine (hl.sameBytes a).trans ?_
    rw [State.takeControl_mem, hm]
  · rw [hcx, ta]
  · rw [hcx, tg]
  · rw [State.cxAt_congr hcx, tother, hst]
  · rw [State.cxAt_congr hcx, tother, how]
  · rw [State.cxAt_congr hcx, tx]
  · rw [hcx, tf]
  · rw [hhost, ti]

/-- What the failure of the standby leaves. -/
theorem State.declareFailed_standby_leaves {s : State} {x : Cx} (cause : Nat) (h : s.mayFail x) (ha : s.cx.active ≠ x) :
    let t := s.declareFailed x cause
    let fw := s.cx.fwState.toNat % 256
    SameBytes s t ∧ t.cx.active = s.cx.active ∧ t.cx.gap = s.cx.gap ∧ (t.cxAt x).st = .failed ∧ t.cxAt (otherCx x) = s.cxAt (otherCx x) ∧
      t.cx.fwState = if (s.cxAt x).staged = true ∧ 1 ≤ fw ∧ fw ≤ 4 then 6 else s.cx.fwState := by
  classical
  obtain ⟨u, hb, hst, ho, hac, hg, hf, e⟩ := State.declareFailed_standby cause h ha
  intro t fw
  change t = _ at e
  by_cases hu : s.updating x
  · rw [if_pos hu] at e
    have hl := State.report_logOnly (({ u with cx := { u.cx with fwState := 6, deferred := none } } : State).modCx x
      (fun c => { c with staged := false })) kUpdateFailed 0 0 [(8, 0)]
    have hcx := (congrArg State.cx e).trans hl.cx
    refine ⟨fun a => ?_, ?_, ?_, ?_, ?_, ?_⟩
    · rw [e]
      refine (hl.sameBytes a).trans ?_
      rw [State.modCx_mem]
      exact hb a
    · rw [hcx, State.modCx_active, hac]
    · rw [hcx, State.modCx_gap, hg]
    · rw [State.cxAt_congr hcx, State.cxAt_modCx]
      refine Eq.trans ?_ hst
      cases x <;> rfl
    · rw [State.cxAt_congr hcx, State.cxAt_modCx_otherCx]
      refine Eq.trans ?_ ho
      cases x <;> rfl
    · rw [hcx, State.modCx_fwState]
      exact (if_pos hu).symm
  · rw [if_neg hu] at e
    rw [e]
    exact ⟨hb, hac, hg, hst, ho, hf.trans (if_neg hu).symm⟩

/-! ### The way back -/

section
variable {s : State} {x : Cx}

/-- CRASH_RECORD_DONE finds a failed complex whose isolation is over. -/
theorem crashLeft_iff : (decide ((s.cxAt x).st ≠ .failed) || s.rst.isolated.contains (.cx x)) = true ↔
    ¬ ((s.cxAt x).st = .failed ∧ s.rst.isolated.contains (.cx x) = false) := by
  rw [← Bool.not_eq_false, not_iff_not]
  simp

/-- What CRASH_RECORD_DONE comes to: the complex boots again, or is HELD after too many failures (R463). -/
theorem execCrashRecordDone_left (h : (s.cxAt x).st = .failed ∧ s.rst.isolated.contains (.cx x) = false) :
    let n := (s.recentFails x).length
    let s1 : State := { s with flt := { s.flt with crash := (cxCode x, s.now) :: s.flt.crash } }
    exec (.crashRecordDone x) s = if n < s.par 0x7C00 8 then
        .next (s1.modCx x (fun c => { c with st := .booting, fails := s.recentFails x }))
      else .next ((s1.modCx x (fun c => { c with st := .held, fails := s.recentFails x })).report kComplexHeld 0 0
        [(32, cxCode x), (32, n)]) :=
  if_neg (fun e => crashLeft_iff.1 e h)

/-- COMPLEX_BOOT_DONE checks the staged image of a LOAD, and the running one else. -/
theorem execComplexBootDone_booting {img : List Host.Cell} {len : Nat} (h : (s.cxAt x).st = .booting) (hr : s.running = true)
    (hi : img = if (s.cxAt x).staged = true ∧ s.cx.fwState.toNat % 256 = 1 then s.cx.staging else s.host.boot.image)
    (hl : len = if (s.cxAt x).staged = true ∧ s.cx.fwState.toNat % 256 = 1 then s.par 0x7C10 3 else s.host.boot.length.toNat) :
    exec (.complexBootDone x) s = match s.imageCheck img len with
      | none =>
        let s1 := s.modCx x (fun c => { c.runs img with st := .resync })
        .next (if (s.cxAt x).staged = true ∧ s.cx.fwState.toNat % 256 = 1 then { s1 with cx := { s1.cx with fwState := 2 } } else s1)
      | some r =>
        let s2 := s.modCx x (fun c => { c with st := .failed, staged := false })
        .next (if (s.cxAt x).staged = true ∧ s.cx.fwState.toNat % 256 = 1
          then ({ s2 with cx := { s2.cx with fwState := BitVec.ofNat 16 (6 + r * 256) } } : State).report kUpdateFailed 0 0 [(8, r)]
          else s2.report kComplexHeld 0 0 [(32, cxCode x), (32, (s.recentFails x).length)]) := by
  show execComplexBootDone x s = _
  unfold execComplexBootDone
  dsimp only
  rw [if_neg (by simp [h, hr])]
  by_cases hg : (s.cxAt x).staged = true ∧ s.cx.fwState.toNat % 256 = 1
  · have hb : ((s.cxAt x).staged && decide (s.cx.fwState.toNat % 256 = 1)) = true := by simpa using hg
    rw [if_pos hg] at hi hl
    rw [hb, hi, hl]
    simp only [if_true]
    cases s.imageCheck s.cx.staging (s.par 0x7C10 3) <;> simp only [if_pos hg] <;> rfl
  · have hb : ((s.cxAt x).staged && decide (s.cx.fwState.toNat % 256 = 1)) = false := by simpa using hg
    rw [if_neg hg] at hi hl
    rw [hb, hi, hl]
    simp only [Bool.false_eq_true, if_false]
    cases s.imageCheck s.host.boot.image s.host.boot.length.toNat <;> simp only [if_neg hg] <;> rfl

theorem execComplexBootDone_other (h : (s.cxAt x).st ≠ .booting ∨ s.running = false) : exec (.complexBootDone x) s = .next s :=
  if_pos (by rcases h with h | h <;> simp [h])

/-- What COMPLEX_SYNCED comes to: STANDBY; a LOAD is READY, an activation over (R469). -/
theorem execComplexSynced_resync (h : (s.cxAt x).st = .resync) :
    let s1 := s.modCx x (fun c => { c with st := .standby })
    exec (.complexSynced x) s = if (decide (s.cx.fwState.toNat % 256 = 2) && (s.cxAt x).staged) = true
        then .next { s1 with cx := { s1.cx with fwState := 3 } }
      else if s.cx.fwState.toNat % 256 = 5 then .next { s1 with
        cx := { s1.cx with fwState := 0, a := { s1.cx.a with staged := false }, b := { s1.cx.b with staged := false } } }
      else .next s1 :=
  if_neg (not_not.2 h)

end

/-- Settles O44, by who was in control when the complex failed (`State.declareFailed_active_leaves`, `State.declareFailed_standby_leaves`)
and by what each step of the way back finds. -/
theorem complexesFailAndReturn : Obligations.ComplexesFailAndReturn := by
  unfold Obligations.ComplexesFailAndReturn
  refine ⟨fun s x => rfl, fun s x => ?_, fun s x => ⟨rfl, rfl, rfl⟩, fun s x cause => ?_, fun s x => ?_, fun s x => ?_, fun s x => ?_,
    fun s c x hs => ?_⟩
  · intro s1
    have hm : (s1.cxAt x).missed = (s.cxAt x).missed + 1 := congrArg Complex.missed (State.cxAt_modCx ..)
    show (if (s1.cxAt x).missed ≥ 5 then ok (s1.declareFailed x 1) else ok s1) = _
    rw [hm]
    by_cases h : (s.cxAt x).missed + 1 < 5
    · rw [if_pos h, if_neg (Nat.not_le.2 h)]
      rfl
    · rw [if_neg h, if_pos (Nat.not_lt.1 h)]
      rfl
  · exact ⟨State.declareFailed_active_leaves cause, State.declareFailed_both cause, State.declareFailed_standby_leaves cause,
      State.declareFailed_not cause⟩
  · exact ⟨fun h hn => (execCrashRecordDone_left h).trans (if_pos hn), fun h hn => (execCrashRecordDone_left h).trans (if_neg (Nat.not_lt.2 hn)),
      fun h => if_pos (crashLeft_iff.2 h)⟩
  · intro loading img len s1 s2
    refine ⟨fun h hr => ⟨fun hn => ?_, fun r hn => ?_⟩, execComplexBootDone_other⟩
    · rw [execComplexBootDone_booting (img := img) (len := len) h hr rfl rfl, hn]
    · rw [execComplexBootDone_booting (img := img) (len := len) h hr rfl rfl, hn]
  · intro s1 fw
    refine ⟨fun h => ⟨fun h2 hs => ?_, fun h5 => ?_, fun h5 h2 => ?_⟩, fun h => if_pos h⟩
    · exact (execComplexSynced_resync h).trans (if_pos (by rw [hs, Bool.and_true]; exact decide_eq_true h2))
    · refine (execComplexSynced_resync h).trans ((if_neg ?_).trans (if_pos h5))
      rw [Bool.and_eq_true, decide_eq_true_eq]
      omega
    · refine (execComplexSynced_resync h).trans ((if_neg ?_).trans (if_neg h5))
      rw [Bool.and_eq_true, decide_eq_true_eq]
      rintro ⟨h2', hs⟩
      exact h2.elim (fun e => e h2') (fun e => absurd (hs.symm.trans e) (by decide))
  · have tells {st r : Nat} {t : State} (e : complexCommand x.toNat 1 (s.modClient c id) = (st, r, t)) :
        exec (.complexRestart c x) s = .next (t.answer c st r) :=
      congrArg Host.Outcome.next (State.request_eq_of_op hs e)
    exact ⟨fun hn hx => tells (complexCommand_restart hn hx), fun hn hx => tells (complexCommand_restart_state hn hx),
      fun hn => tells (if_pos hn)⟩

end Machine
end Sys2Proof

namespace Sys2Proof
namespace Machine

/-! The host control window, the boot form and the end of a fail-over gap (R367-R374, R425, R453, R465, R471). -/

/-! ### Windows -/

section
variable {s : State} {w : Fin 68}

/-- A window takes writes: the supply is on, its scope is open, and its version stands or is being acknowledged. -/
theorem State.windowDrops_false {ack : Bool} (hg : s.pwr.gateOn = true) (hs : s.clientScope (windowClient w) ≠ 0xFFFF)
    (hc : (s.windowAt w.val).changed = false ∨ ack = true) : s.windowDrops w ack = false := by
  unfold State.windowDrops
  rcases hc with hc | hc <;> simp [hg, hs, hc]

theorem State.windowDrops_closed (ack : Bool) (h : s.pwr.gateOn = false ∨ s.clientScope (windowClient w) = 0xFFFF) :
    s.windowDrops w ack = true := by
  unfold State.windowDrops
  rcases h with h | h <;> simp [h]

theorem State.windowDrops_changed (h : (s.windowAt w.val).changed = true) : s.windowDrops w false = true := by
  unfold State.windowDrops
  simp [h]

theorem State.doorbell_dropped {seq : BitVec 32} (h : s.windowDrops w false = true) : s.doorbell w seq = s := if_pos h

theorem State.versionAck_dropped {v : BitVec 32} (h : s.windowDrops w true = true) : s.versionAck w v = s := if_pos h

/-- A window that drops writes drops one of every register, VERSION_ACK being a write of its own. -/
theorem execWindowRequestWrite_dropped {off : BitVec 16} {data : List (BitVec 8)} (h : s.windowDrops w false = true)
    (h8 : off = 8 → s.windowDrops w true = true) : exec (.windowRequestWrite w off data) s = .next s := by
  by_cases h1 : off = 0x100
  · exact (if_pos h1).trans (congrArg ok (State.doorbell_dropped h))
  · by_cases e : off = 8
    · exact (if_neg h1).trans ((if_pos e).trans (congrArg ok (State.versionAck_dropped (h8 e))))
    · exact (if_neg h1).trans ((if_neg e).trans (if_pos h))

/-- Outside a gap a write of another register than REQ_DOORBELL and VERSION_ACK is stored. -/
theorem execWindowRequestWrite_stores {off : BitVec 16} {data : List (BitVec 8)} (hd : s.windowDrops w false = false)
    (hg : s.cx.gap = false) (h100 : off ≠ 0x100) (h8 : off ≠ 8) :
    exec (.windowRequestWrite w off data) s = .next (s.windowStore w.val off.toNat data) :=
  (if_neg h100).trans ((if_neg h8).trans ((if_neg (by rw [hd]; decide)).trans (if_neg (by rw [hg]; decide))))

/-- In a gap it is queued (R371). -/
theorem execWindowRequestWrite_queued {off : BitVec 16} {data : List (BitVec 8)} (hd : s.windowDrops w false = false)
    (hg : s.cx.gap = true) (h100 : off ≠ 0x100) (h8 : off ≠ 8) :
    exec (.windowRequestWrite w off data) s = .next (s.gapPush w.val (.data w.val off.toNat data)) :=
  (if_neg h100).trans ((if_neg h8).trans ((if_neg (by rw [hd]; decide)).trans (if_pos hg)))

/-- REQ_DOORBELL serves the message in REQUEST (R368). -/
theorem State.doorbell_serves {seq : BitVec 32} (hd : s.windowDrops w false = false) (hg : s.cx.gap = false)
    (hp : (s.windowAt w.val).pending = none) : s.doorbell w seq = s.windowServe w seq :=
  (if_neg (by rw [hd]; decide)).trans ((if_neg (by rw [hp]; decide)).trans (if_neg (by rw [hg]; decide)))

theorem State.doorbell_overruns {seq : BitVec 32} (hd : s.windowDrops w false = false) (hp : (s.windowAt w.val).pending ≠ none) :
    s.doorbell w seq = s.modWindow w.val (fun x => { x with overrun := true }) :=
  (if_neg (by rw [hd]; decide)).trans (if_pos (Option.isSome_iff_ne_none.2 hp))

theorem State.doorbell_queued {seq : BitVec 32} (hd : s.windowDrops w false = false) (hg : s.cx.gap = true)
    (hp : (s.windowAt w.val).pending = none) (hq : s.host.gapQueue.length < 64) :
    s.doorbell w seq = (s.gapPush w.val (.doorbell w.val seq)).modWindow w.val (fun x => { x with pending := some seq }) :=
  (if_neg (by rw [hd]; decide)).trans ((if_neg (by rw [hp]; decide)).trans ((if_pos hg).trans (if_pos hq)))

theorem State.versionAck_acks {v : BitVec 32} (hd : s.windowDrops w true = false) (hg : s.cx.gap = false) :
    s.versionAck w v = s.ackVersion w.val v :=
  (if_neg (by rw [hd]; decide)).trans (if_neg (by rw [hg]; decide))

/-! ### The registers of a window -/

variable {n : Nat} {data : List (BitVec 8)}

/-- The window that has the boot form, before firmware runs (R372). -/
theorem bootForm_iff : (!s.running && decide (n = s.bootWindow)) = true ↔ s.running = false ∧ n = s.bootWindow := by simp

theorem State.windowStore_request {off : Nat} (h1 : 0x1000 ≤ off) (h2 : off < 0x8000) : s.windowStore n off data =
    s.modWindow n (fun x => { x with request := Mem.write x.request (off - 0x1000) (data.take (0x8000 - off)) }) := by
  unfold State.windowStore
  dsimp only
  rw [if_neg (by omega), if_neg (by omega), if_neg (by omega), if_pos (by simp [h1, h2])]

theorem State.windowStore_length (h : s.running = false ∧ n = s.bootWindow) : s.windowStore n 0x204 data =
    { s with host := { s.host with boot := { s.host.boot with length := BitVec.ofNat 32 (leNat (data.take 4)) } } } := by
  unfold State.windowStore
  dsimp only
  rw [if_neg (by omega), if_pos rfl, if_pos (bootForm_iff.2 h)]

theorem State.windowStore_length_other (h : ¬ (s.running = false ∧ n = s.bootWindow)) : s.windowStore n 0x204 data = s := by
  unfold State.windowStore
  dsimp only
  rw [if_neg (by omega), if_pos rfl, if_neg (fun e => h (bootForm_iff.1 e))]

theorem State.windowStore_go (h : s.running = false ∧ n = s.bootWindow) (hv : leNat (data.take 4) = 1) :
    s.windowStore n 0x208 data = s.imageGo 1 := by
  unfold State.windowStore
  dsimp only
  rw [if_neg (by omega), if_neg (by omega), if_pos rfl, if_pos (by rw [bootForm_iff.2 h, hv]; rfl)]

theorem State.windowStore_go_other (h : ¬ (s.running = false ∧ n = s.bootWindow) ∨ leNat (data.take 4) ≠ 1) : s.windowStore n 0x208 data = s := by
  unfold State.windowStore
  dsimp only
  rw [if_neg (by omega), if_neg (by omega), if_pos rfl, if_neg]
  rw [Bool.and_eq_true, decide_eq_true_eq]
  rintro ⟨hb, hv⟩
  exact h.elim (fun e => e (bootForm_iff.1 hb)) (fun e => e hv)

end

/-! ### The boot form -/

section
variable {s : State} {c : Client} {h : BitVec 128} {data : List (BitVec 8)}

/-- R372, R374: bytes go to the image area while it is open, which the path then claims. -/
theorem State.imageWrite_open {path off : Nat} (ho : s.imageOpen path = true) : s.imageWrite path off data =
    { s with host := { s.host with boot := { s.host.boot with
      claim := BitVec.ofNat 8 path, image := Mem.write s.host.boot.image off (data.take (16777216 - off)) } } } := if_pos ho

theorem State.imageWrite_closed {path off : Nat} (ho : s.imageOpen path = false) : s.imageWrite path off data = s :=
  if_neg (by rw [ho]; decide)

theorem State.imageGo_open {path : Nat} (ho : s.imageOpen path = true) :
    s.imageGo path = { s with host := { s.host with boot := { s.host.boot with state := 2, reason := 0 } } } := if_pos ho

theorem State.imageGo_closed {path : Nat} (ho : s.imageOpen path = false) : s.imageGo path = s := if_neg (by rw [ho]; decide)

/-- A download request of the field network reaches the service, before firmware runs too (R454). -/
theorem State.arriveMessage_download (hg : s.pwr.gateOn = true) (hc : s.cx.gap = false) (hp : c.path = .field)
    (hk : s.keptFor c h = none) (ho : hdrOp h = 3 ∨ hdrOp h = 4) : s.arriveMessage c h data =
      if hdrOp h = 4 && headerGood h data.length && c.path = .field then s.downloadGo c h
      else
        let a := s.perform c h data
        let s1 := a.2.2.odRespond c h a.1 a.2.1
        if a.1 = stOk && hdrOp h = 2 && hdrIndex h = 0x7C20 then s1.afterResetCommand (leNat data) else s1 := by
  have hn : s.notServed c h = false := by
    unfold State.notServed
    rcases ho with ho | ho <;> simp [hc, hp, ho]
  have ht : s.windowTakes c = true := by
    unfold State.windowTakes
    rw [hp]
  rw [State.arriveMessage_served hg ht hc]
  unfold State.odServe
  rw [if_neg (by rw [hn]; decide), hk]

/-- A DOWNLOAD is answered with what it finds of the image area (R453). -/
theorem execDownload_field {st : Nat} {u : State} (hg : s.pwr.gateOn = true) (hc : s.cx.gap = false) (hp : c.path = .field)
    (hk : s.keptFor c h = none) (hh : headerGood h data.length = true) (ho : hdrOp h = 3) (hl : data.length ≤ 1024)
    (e : (if !s.imageOpen 2 then ((stState, [], s) : Answered)
      else if 16777216 < hdrOffset h + data.length then (stLength, [], s)
      else (stOk, [], s.imageWrite 2 (hdrOffset h) data)) = (st, [], u)) :
    exec (.download c h data) s = .next (u.odRespond c h st []) := by
  have hd : s.perform c h data = (st, [], u) := by
    have hlim : pathLimit c = 1024 := by simp [pathLimit, clientGroup, hp]
    unfold State.perform
    rw [if_neg (by rw [hh]; decide), hlim, if_neg (by omega), if_neg (by omega), if_neg (by omega)]
    exact (if_neg (not_not.2 hp)).trans e
  refine congrArg ok ((State.arriveMessage_download hg hc hp hk (.inl ho)).trans ?_)
  rw [if_neg (by simp [ho]), hd]
  exact if_neg (by simp [ho])

theorem execDownloadGo_field (hg : s.pwr.gateOn = true) (hc : s.cx.gap = false) (hp : c.path = .field) (hk : s.keptFor c h = none)
    (hh : headerGood h 0 = true) (ho : hdrOp h = 4) : exec (.downloadGo c h) s = .next (s.downloadGo c h) := by
  refine congrArg ok ((State.arriveMessage_download hg hc hp hk (.inr ho)).trans ?_)
  exact if_pos (by simp [ho, hp, hh])

theorem State.downloadGo_closed (ho : s.imageOpen 2 = false) (hf : s.host.boot.goFrom = none) :
    s.downloadGo c h = s.odRespond c h stState [] :=
  (if_neg (by rw [ho]; decide)).trans (if_neg (by rw [hf]; exact Bool.false_ne_true))

theorem State.downloadGo_open (ho : s.imageOpen 2 = true) : s.downloadGo c h = { s with host := { s.host with boot := { s.host.boot with
    length := BitVec.ofNat 32 (hdrOffset h), goFrom := some (c, h), state := 2, reason := 0 } } } :=
  (if_pos ho).trans (State.imageGo_open (path := 2) ho)

/-- A check under way runs a good image (R372, R425). -/
theorem execFirmwareCheckDone_good (h2 : s.host.boot.state = 2) (hn : s.imageCheck s.host.boot.image s.host.boot.length.toNat = none) :
    exec .firmwareCheckDone s = .next (((({ s with host := { s.host with boot := { s.host.boot with
      state := 4, reason := 0, claim := 0 } } } : State).runImage s.host.boot.image).modCx .A
        (fun x => x.runs s.host.boot.image)).firmwareRuns).answerGo := by
  show execFirmwareCheckDone s = _
  unfold execFirmwareCheckDone
  dsimp only
  rw [if_neg (not_not.2 h2), hn]
  rfl

/-- It rejects another with its REASON, a count and a record. -/
theorem execFirmwareCheckDone_bad {r : Nat} (h2 : s.host.boot.state = 2)
    (hn : s.imageCheck s.host.boot.image s.host.boot.length.toNat = some r) :
    exec .firmwareCheckDone s = .next (((({ s with host := { s.host with boot := { s.host.boot with
      state := 3, reason := BitVec.ofNat 8 r, claim := 0 } } } : State).bump 32 0x5200 2).report kFirmwareRejected 0 0
        [(32, if s.host.boot.goFrom.isSome then 2 else 1), (8, r)]).answerGo) := by
  show execFirmwareCheckDone s = _
  unfold execFirmwareCheckDone
  dsimp only
  rw [if_neg (not_not.2 h2), hn]
  rfl

end

/-! ### The end of a gap -/

/-- FAILOVER_SERVICE_OPEN ends the gap (R371, R465, R471). -/
theorem execFailoverServiceOpen_gap {s : State} (ns : Nat) (hg : s.cx.gap = true) :
    let s1 : State := { s with cx := { s.cx with gap := false }, host := { s.host with gapQueue := [], gapLost := 0 } }
    let s2 := ((s1.fillGap ns).setPar 0x7C00 5 (ns % 2 ^ 32)).peak 0x7C00 6 (ns % 2 ^ 32)
    let s3 := if s.host.gapLost = 0 then s2 else s2.report kWindowWritesLost 0 0 [(32, s.host.gapLost)]
    let s4 := State.applyQueue s.host.gapQueue s3
    exec (.failoverServiceOpen ns) s =
      .next (if s4.running = true ∧ s4.interfaceVersion ≠ s.cx.gapIver.toNat then s4.changeVersion else s4) := by
  intro s1 s2 s3 s4
  have h3 : (if s.host.gapLost > 0 then s2.report kWindowWritesLost 0 0 [(32, s.host.gapLost)] else s2) = s3 := by
    by_cases h : s.host.gapLost = 0
    · exact (if_neg (by omega)).trans (if_pos h).symm
    · exact (if_pos (by omega)).trans (if_neg h).symm
  show execFailoverServiceOpen ns s = _
  unfold execFailoverServiceOpen
  rw [if_neg (by rw [hg]; decide)]
  dsimp only
  change (fun u : State => if u.running && decide (u.interfaceVersion ≠ s.cx.gapIver.toNat) then ok u.changeVersion else ok u)
    (State.applyQueue s.host.gapQueue (if s.host.gapLost > 0 then s2.report kWindowWritesLost 0 0 [(32, s.host.gapLost)] else s2)) = _
  rw [h3]
  change (if s4.running && decide (s4.interfaceVersion ≠ s.cx.gapIver.toNat) then ok s4.changeVersion else ok s4) = _
  by_cases h : s4.running = true ∧ s4.interfaceVersion ≠ s.cx.gapIver.toNat
  · rw [if_pos h, if_pos (by rw [Bool.and_eq_true, decide_eq_true_eq]; exact h)]
    rfl
  · rw [if_neg h, if_neg (by rw [Bool.and_eq_true, decide_eq_true_eq]; exact h)]
    rfl

/-- Settles O43, by what a window takes, by the registers that it stores, and by the state of the image area. -/
theorem windowsAndBoot : Obligations.WindowsAndBoot := by
  unfold Obligations.WindowsAndBoot
  refine ⟨fun s w hg hs hc => ⟨fun hv => ?_, fun v hr hi => ?_, fun v hn => ?_⟩, fun s w hg hs hc => ⟨fun off data hv h1 h8 => ?_,
    fun v => ?_, fun seq hv hp hq => ?_⟩, fun s w h => ⟨fun off data => ?_, fun seq => ?_, fun v => ?_⟩,
    fun s w h => ⟨fun off data h8 => ?_, fun seq => ?_⟩, fun s off data => ⟨fun ho => ⟨?_, ?_⟩, fun ho => ⟨?_, ?_⟩, fun v hv => if_neg hv⟩,
    fun s c h hg hc hp hk => ⟨fun data hh ho hl => ⟨fun hi hb => ?_, fun hi hb => ?_, fun hi => ?_⟩, fun hh ho => ⟨fun hi => ?_, fun hi hf => ?_⟩⟩,
    fun s => ⟨fun h => if_pos h, execFirmwareCheckDone_good, fun r => execFirmwareCheckDone_bad⟩, fun s ns => execFailoverServiceOpen_gap ns,
    fun s ns h => if_pos (by rw [h]; rfl)⟩
  · have hd := State.windowDrops_false (ack := false) hg hs (.inl hv)
    refine ⟨fun off data => ⟨fun h1 h2 => ?_, fun h => ?_, fun h hb => ?_, fun h hb h1 => ?_, fun h h1 => ?_, fun h hb => ?_, fun h => if_pos h,
      fun h => (if_neg (by rw [h]; decide)).trans (if_pos h)⟩,
      fun seq hp => congrArg ok (State.doorbell_serves hd hc hp), fun seq hp => congrArg ok (State.doorbell_overruns hd hp)⟩
    · rw [execWindowRequestWrite_stores hd hc (by rintro rfl; exact absurd h1 (by decide)) (by rintro rfl; exact absurd h1 (by decide)),
        State.windowStore_request h1 h2]
    · subst h
      exact execWindowRequestWrite_stores hd hc (by decide) (by decide)
    · subst h
      exact (execWindowRequestWrite_stores hd hc (by decide) (by decide)).trans (congrArg ok (State.windowStore_length hb))
    · subst h
      exact (execWindowRequestWrite_stores hd hc (by decide) (by decide)).trans (congrArg ok (State.windowStore_go hb h1))
    · subst h
      exact (execWindowRequestWrite_stores hd hc (by decide) (by decide)).trans (congrArg ok (State.windowStore_go_other (.inr h1)))
    · rcases h with rfl | rfl
      · exact (execWindowRequestWrite_stores hd hc (by decide) (by decide)).trans (congrArg ok (State.windowStore_length_other hb))
      · exact (execWindowRequestWrite_stores hd hc (by decide) (by decide)).trans (congrArg ok (State.windowStore_go_other (.inl hb)))
  · refine congrArg ok ((State.versionAck_acks (State.windowDrops_false hg hs (.inr rfl)) hc).trans (if_pos ?_))
    rw [hr, Bool.true_and]
    exact decide_eq_true hi
  · refine congrArg ok ((State.versionAck_acks (State.windowDrops_false hg hs (.inr rfl)) hc).trans (if_neg ?_))
    rcases hn with hn | hn <;> simp [hn]
  · exact execWindowRequestWrite_queued (State.windowDrops_false hg hs (.inl hv)) hc h1 h8
  · exact congrArg ok ((if_neg (by rw [State.windowDrops_false hg hs (.inr rfl)]; decide)).trans (if_pos hc))
  · exact congrArg ok (State.doorbell_queued (State.windowDrops_false hg hs (.inl hv)) hc hp hq)
  · exact execWindowRequestWrite_dropped (State.windowDrops_closed _ h) (fun _ => State.windowDrops_closed _ h)
  · exact congrArg ok (State.doorbell_dropped (State.windowDrops_closed _ h))
  · exact congrArg ok (State.versionAck_dropped (State.windowDrops_closed _ h))
  · exact execWindowRequestWrite_dropped (State.windowDrops_changed h) (fun e => absurd e h8)
  · exact congrArg ok (State.doorbell_dropped (State.windowDrops_changed h))
  · exact congrArg ok (State.imageWrite_open ho)
  · exact congrArg ok (State.imageGo_open ho)
  · exact congrArg ok (State.imageWrite_closed ho)
  · exact congrArg ok (State.imageGo_closed ho)
  · refine execDownload_field hg hc hp hk hh ho hl ((if_neg (by rw [hi]; decide)).trans ((if_neg (Nat.not_lt.2 hb)).trans ?_))
    rw [State.imageWrite_open hi]
    rfl
  · exact execDownload_field hg hc hp hk hh ho hl ((if_neg (by rw [hi]; decide)).trans (if_pos hb))
  · exact execDownload_field hg hc hp hk hh ho hl (if_pos (by rw [hi]; decide))
  · exact (execDownloadGo_field hg hc hp hk hh ho).trans (congrArg ok (State.downloadGo_open hi))
  · exact (execDownloadGo_field hg hc hp hk hh ho).trans (congrArg ok (State.downloadGo_closed hi hf))

end Machine
end Sys2Proof

namespace Sys2Proof
namespace Machine

/-! The throttle step and the loops that ask for it (R478-R484, R488). -/

/-! ### The largest of a list -/

/-- The greatest of a list and a first value, as a fold: no value is above it and it is one of them. -/
theorem foldl_max_spec {α : Type} [LinearOrder α] (l : List α) (a : α) :
    l.foldl max a ∈ a :: l ∧ ∀ b ∈ a :: l, b ≤ l.foldl max a :=
  List.max?_eq_some_iff.mp List.max?_cons'

/-! ### Voltages and steps -/

theorem State.writeVdd_cx (s : State) (step : Nat) : (s.writeVdd step).cx = s.cx := by
  unfold State.writeVdd
  dsimp only
  split <;> rfl

/-- R480: the state once a raise to another step than the one now asked for is given up. -/
def State.raiseKept (s : State) : State :=
  if s.pwr.raise.any (fun r => r.toNat ≠ s.effectiveStep) then
    ({ s with pwr := { s.pwr with raise := none, settled := false, pend := s.pwr.step } } : State).writeVdd s.pwr.step.toNat
  else s

theorem State.raiseKept_voltsOnly (s : State) : VoltsOnly s s.raiseKept := by
  unfold State.raiseKept
  split
  · exact VoltsOnly.trans (t := ({ s with pwr := { s.pwr with raise := none, settled := false, pend := s.pwr.step } } : State)) rfl
      (State.writeVdd_voltsOnly _ _)
  · rfl

theorem State.raiseKept_cx (s : State) : s.raiseKept.cx = s.cx := by
  unfold State.raiseKept
  split
  · exact State.writeVdd_cx _ _
  · rfl

@[simp] theorem State.raiseKept_slow (s : State) : s.raiseKept.pwr.slow = s.pwr.slow := by rw [s.raiseKept_voltsOnly]
@[simp] theorem State.raiseKept_step (s : State) : s.raiseKept.pwr.step = s.pwr.step := by rw [s.raiseKept_voltsOnly]

section
variable {s : State}

theorem State.retarget_of_le (h : s.pwr.step.toNat ≤ s.effectiveStep) :
    s.retarget = { s.raiseKept with pwr := { s.raiseKept.pwr with pend := BitVec.ofNat 3 s.effectiveStep } } := if_pos h

theorem State.retarget_of_barred (h : s.effectiveStep < s.pwr.step.toNat)
    (hb : s.raiseKept.pwr.raise.isSome = true ∨ s.pwr.slow = true ∨ s.cx.gap = true) : s.retarget = s.raiseKept := by
  have hbar : (s.raiseKept.pwr.raise.isSome || s.raiseKept.pwr.slow || s.raiseKept.cx.gap) = true := by
    simpa [s.raiseKept_cx, or_assoc] using hb
  exact (if_neg (Nat.not_le.mpr h)).trans (if_pos hbar)

theorem State.retarget_of_raise (h : s.effectiveStep < s.pwr.step.toNat) (hr : s.raiseKept.pwr.raise = none)
    (hs : s.pwr.slow = false) (hg : s.cx.gap = false) :
    s.retarget = ({ s.raiseKept with pwr := { s.raiseKept.pwr with
      raise := some (BitVec.ofNat 3 s.effectiveStep), settled := false, pend := s.pwr.step } } : State).writeVdd s.effectiveStep := by
  have hbar : ¬ (s.raiseKept.pwr.raise.isSome || s.raiseKept.pwr.slow || s.raiseKept.cx.gap) = true := by
    simp [s.raiseKept_cx, hr, hs, hg]
  rw [← s.raiseKept_step]
  exact (if_neg (Nat.not_le.mpr h)).trans (if_neg hbar)

end

/-- R484: what the sources ask for. -/
def State.stepRequests (s : State) : List Nat :=
  [s.pwr.reqPower.toNat, (s.pwr.reqTherm.map (fun t => t.toNat)).getD 0, if s.pwr.clamp then 5 else 0,
    if s.pwr.pin then s.par 0x2010 5 else 0, s.par 0x2010 4]

theorem State.effectiveStep_mem (s : State) : s.effectiveStep ∈ s.stepRequests := by
  rcases List.mem_cons.mp (foldl_max_spec s.stepRequests 0).1 with h | h
  · have hp : s.pwr.reqPower.toNat ≤ s.effectiveStep := (foldl_max_spec s.stepRequests 0).2 _ (by simp [State.stepRequests])
    have h0 : s.effectiveStep = 0 := h
    have : s.effectiveStep = s.pwr.reqPower.toNat := by omega
    exact this ▸ List.mem_cons_self
  · exact h

theorem State.le_effectiveStep {s : State} {n : Nat} (h : n ∈ s.stepRequests) : n ≤ s.effectiveStep :=
  (foldl_max_spec s.stepRequests 0).2 n (List.mem_cons_of_mem 0 h)

/-! ### The targets of the voltage -/

/-- R479: the table of targets once the steps below `n` have taken theirs. -/
def avsTable (targets : List Nat) (n : Nat) (t : Tab Nat) : Tab Nat :=
  (List.range n).foldl (fun t i =>
    match targets[i]? with
    | some v => Tab.set t i (Nat.max (avsRange i).1 (Nat.min v (avsRange i).2))
    | none => t) t

theorem get_avsTable (targets : List Nat) (t : Tab Nat) (d : Nat) {i n : Nat} (h : i < n) :
    Tab.get (avsTable targets n t) i d = match targets[i]? with
      | some v => Nat.max (avsRange i).1 (Nat.min v (avsRange i).2)
      | none => Tab.get t i d := by
  have hbelow : ∀ m, m ≤ i → Tab.get (avsTable targets m t) i d = Tab.get t i d := by
    intro m
    induction m with
    | zero => intro _; rfl
    | succ m ih =>
      intro hm
      rw [avsTable, List.range_succ, List.foldl_append, List.foldl_cons, List.foldl_nil, ← avsTable]
      cases targets[m]? with
      | none => exact ih (by omega)
      | some v => exact (Tab.get_set_other _ _ _ (by omega)).trans (ih (by omega))
  induction n with
  | zero => omega
  | succ n ih =>
    rw [avsTable, List.range_succ, List.foldl_append, List.foldl_cons, List.foldl_nil, ← avsTable]
    rcases Nat.lt_succ_iff_lt_or_eq.mp h with hlt | rfl
    · rw [← ih hlt]
      cases targets[n]? with
      | none => rfl
      | some v => exact Tab.get_set_other _ _ _ (by omega)
    · cases targets[i]? with
      | none => exact hbelow i le_rfl
      | some v => exact Tab.get_set_same _ _ _ _

/-! ### What bars the loops -/

theorem loopsBarred {s : State} (h : s.running = false ∨ s.cx.gap = true) : (!s.running || s.cx.gap) = true := by
  rcases h with h | h <;> simp [h]

theorem loopsRun {s : State} (hr : s.running = true) (hg : s.cx.gap = false) : ¬ (!s.running || s.cx.gap) = true := by simp [hr, hg]

/-! ### POWER_LOOP_RUN -/

/-- R482: the highest step whose prediction is within POWER_CAP, the lowest where none is. -/
def State.capStep (s : State) (dyn : Nat) : Nat := ((List.range 6).find? (fun k => s.fitsCap dyn k 100)).getD 5

theorem State.capStep_of_first {s : State} {dyn best : Nat} (hb : best < 6) (hf : s.fitsCap dyn best 100 = true)
    (hno : ∀ k, k < best → s.fitsCap dyn k 100 = false) : s.capStep dyn = best := by
  have h : (List.range 6).find? (fun k => s.fitsCap dyn k 100) = some best := by
    rw [List.find?_range_eq_some]
    exact ⟨hf, List.mem_range.mpr hb, fun k hk => by simp [hno k hk]⟩
  rw [State.capStep, h, Option.getD_some]

theorem State.capStep_of_none {s : State} {dyn : Nat} (hno : ∀ k, k < 6 → s.fitsCap dyn k 100 = false) : s.capStep dyn = 5 := by
  have h : (List.range 6).find? (fun k => s.fitsCap dyn k 100) = none :=
    List.find?_eq_none.mpr fun k hk => by simp [hno k (List.mem_range.mp hk)]
  rw [State.capStep, h, Option.getD_none]

/-- R482: the step that the power loop asks for. -/
def State.powerAsks (s : State) (n : Nat) : State := ({ s with pwr := { s.pwr with reqPower := BitVec.ofNat 3 n, slow := false } } : State).retarget

section
variable {s : State} (hr : s.running = true) (hg : s.cx.gap = false) (dyn : Nat)
include hr hg

theorem execPowerLoopRun_down (h : s.pwr.step.toNat ≤ s.capStep dyn) : execPowerLoopRun dyn s = .next (s.powerAsks (s.capStep dyn)) := by
  unfold execPowerLoopRun
  rw [if_neg (loopsRun hr hg)]
  exact congrArg (fun n => Host.Outcome.next (s.powerAsks n)) (if_pos h)

theorem execPowerLoopRun_up (h : s.capStep dyn < s.pwr.step.toNat) : execPowerLoopRun dyn s =
    .next (s.powerAsks (if s.fitsCap dyn (s.pwr.step.toNat - 1) 97 then s.pwr.step.toNat - 1 else s.pwr.step.toNat)) := by
  unfold execPowerLoopRun
  rw [if_neg (loopsRun hr hg)]
  exact congrArg (fun n => Host.Outcome.next (s.powerAsks n)) (if_neg (Nat.not_le.mpr h))

end

/-! ### The thermal loop -/

/-- R483: every temperature that the fans follow. -/
def State.readings (s : State) : List Int :=
  (List.range 64).map s.coreReading ++ (List.range 8).map s.hbmReading ++ (List.range 12).map s.dimmReading

theorem State.mem_readings {s : State} {h : Int} : h ∈ s.readings ↔
    (∃ i, i < 64 ∧ s.coreReading i = h) ∨ (∃ i, i < 8 ∧ s.hbmReading i = h) ∨ (∃ i, i < 12 ∧ s.dimmReading i = h) := by
  simp only [State.readings, List.mem_append, List.mem_map, List.mem_range, or_assoc]

/-- R483: the hottest reading. -/
def State.hottest (s : State) : Int := s.readings.foldl max (s.coreReading 0)

theorem State.hottest_mem (s : State) : s.hottest ∈ s.readings := by
  rcases List.mem_cons.mp (foldl_max_spec s.readings (s.coreReading 0)).1 with h | h
  · exact State.mem_readings.mpr (.inl ⟨0, by omega, h.symm⟩)
  · exact h

theorem State.le_hottest {s : State} {r : Int} (h : r ∈ s.readings) : r ≤ s.hottest :=
  (foldl_max_spec s.readings (s.coreReading 0)).2 r (List.mem_cons_of_mem _ h)

/-- R483, R486: the fans at a duty, unless the clamp holds them at full. -/
def State.fansAt (s : State) (d : Nat) : State :=
  if s.pwr.clamp then s else { s with pwr := { s.pwr with pwm := [(0, d), (1, d), (2, d), (3, d)] } }

@[simp] theorem State.fansAt_reqTherm (s : State) (d : Nat) : (s.fansAt d).pwr.reqTherm = s.pwr.reqTherm := by
  unfold State.fansAt; split <;> rfl
@[simp] theorem State.fansAt_coolFrom (s : State) (d : Nat) : (s.fansAt d).pwr.coolFrom = s.pwr.coolFrom := by
  unfold State.fansAt; split <;> rfl
@[simp] theorem State.fansAt_now (s : State) (d : Nat) : (s.fansAt d).now = s.now := by
  unfold State.fansAt; split <;> rfl

theorem execThermalLoopRun_run {s : State} (hr : s.running = true) (hg : s.cx.gap = false) :
    execThermalLoopRun s = .next (if s.pwr.reqTherm.isSome = true ∧ s.pwr.coolFrom.any (fun a => a + 10000000 ≤ s.now) = true then
      ({ s.fansAt (s.fanDuty s.hottest) with pwr := { (s.fansAt (s.fanDuty s.hottest)).pwr with reqTherm := none } } : State).retarget
      else s.fansAt (s.fanDuty s.hottest)) := by
  have hrun : execThermalLoopRun s = if (s.fansAt (s.fanDuty s.hottest)).pwr.reqTherm.isSome &&
      (s.fansAt (s.fanDuty s.hottest)).pwr.coolFrom.any (fun a => a + 10000000 ≤ (s.fansAt (s.fanDuty s.hottest)).now) then
      .next ({ s.fansAt (s.fanDuty s.hottest) with pwr := { (s.fansAt (s.fanDuty s.hottest)).pwr with reqTherm := none } } : State).retarget
      else .next (s.fansAt (s.fanDuty s.hottest)) := if_neg (loopsRun hr hg)
  rw [hrun]
  simp only [State.fansAt_reqTherm, State.fansAt_coolFrom, State.fansAt_now, Bool.and_eq_true]
  split <;> rfl

theorem State.anyHot_iff (s : State) : (List.range 64).any (fun i => s.coreReading i ≥ (s.par 0x2100 3 : Int)) = true ↔
    ∃ i, i < 64 ∧ s.coreReading i ≥ (s.par 0x2100 3 : Int) := by
  simp only [List.any_eq_true, List.mem_range, decide_eq_true_eq]

theorem execThermalStepLower_hot {s : State} {r : BitVec 3} (hr : s.running = true) (hg : s.cx.gap = false) (hq : s.pwr.reqTherm = some r)
    (hlt : r.toNat < 5) (hot : ∃ i, i < 64 ∧ s.coreReading i ≥ (s.par 0x2100 3 : Int)) :
    execThermalStepLower s = .next ({ s with pwr := { s.pwr with reqTherm := some (r + 1) } } : State).retarget := by
  unfold execThermalStepLower
  rw [if_neg (loopsRun hr hg), hq]
  exact if_pos (by rw [s.anyHot_iff.mpr hot, decide_eq_true hlt, Bool.and_self])

theorem execThermalStepLower_cool {s : State} {r : BitVec 3} (hq : s.pwr.reqTherm = some r)
    (h : 5 ≤ r.toNat ∨ ¬ ∃ i, i < 64 ∧ s.coreReading i ≥ (s.par 0x2100 3 : Int)) : execThermalStepLower s = .next s := by
  unfold execThermalStepLower
  split
  · rfl
  · rw [hq]
    refine if_neg ?_
    rw [Bool.and_eq_true, s.anyHot_iff, decide_eq_true_eq]
    rintro ⟨hot, hlt⟩
    rcases h with h | h
    · omega
    · exact h hot

theorem execThermalStepLower_idle {s : State} (h : s.running = false ∨ s.cx.gap = true ∨ s.pwr.reqTherm = none) :
    execThermalStepLower s = .next s := by
  rw [← or_assoc] at h
  rcases h with h | h
  · exact if_pos (loopsBarred h)
  · unfold execThermalStepLower
    rw [h]
    split <;> rfl

/-! ### AVS_MEASUREMENT -/

/-- R479: the targets of a measurement, clamped and kept. -/
def State.withTargets (s : State) (targets : List Nat) : State := { s with pwr := { s.pwr with avs := avsTable targets 6 s.pwr.avs } }

theorem execAvsMeasurement_run {s : State} (hr : s.running = true) (hg : s.cx.gap = false) (targets : List Nat) :
    execAvsMeasurement targets s = .next
      (if (s.withTargets targets).avsTarget s.pwr.step.toNat ≠ s.avsTarget s.pwr.step.toNat ∧ s.pwr.raise = none then
        (s.withTargets targets).writeVdd s.pwr.step.toNat else s.withTargets targets) := by
  have hrun : execAvsMeasurement targets s =
      if (s.withTargets targets).avsTarget s.pwr.step.toNat ≠ s.avsTarget s.pwr.step.toNat && s.pwr.raise.isNone then
        .next ((s.withTargets targets).writeVdd s.pwr.step.toNat) else .next (s.withTargets targets) := if_neg (loopsRun hr hg)
  rw [hrun]
  simp only [Bool.and_eq_true, decide_eq_true_eq, Option.isNone_iff_eq_none]
  split <;> rfl

/-! ### The obligation -/

/-- Settles O52, by the cases of `State.retarget` and the branches of each loop; the greatest request and the hottest
reading are greatest members of lists. -/
theorem throttleSteps : Obligations.ThrottleSteps := by
  unfold Obligations.ThrottleSteps
  refine ⟨fun s => ?_, fun s step => ?_, fun s => ?_, fun s targets => ?_, fun s us => ?_, fun s dyn => ?_, fun s => ?_, fun s => ?_,
    fun s => ?_⟩
  · exact ⟨State.retarget_of_le, State.retarget_of_barred, State.retarget_of_raise⟩
  · rfl
  · refine ⟨⟨?_, fun r hr => ?_, fun hc => ?_, fun hp => ?_, ?_⟩, ?_⟩
    · exact State.le_effectiveStep (by simp [State.stepRequests])
    · exact State.le_effectiveStep (by simp [State.stepRequests, hr])
    · exact State.le_effectiveStep (by simp [State.stepRequests, hc])
    · exact State.le_effectiveStep (by simp [State.stepRequests, hp])
    · exact State.le_effectiveStep (by simp [State.stepRequests])
    · have hpower : ∀ h : s.effectiveStep = 0, s.effectiveStep = s.pwr.reqPower.toNat := fun h => by
        have := State.le_effectiveStep (s := s) (n := s.pwr.reqPower.toNat) (by simp [State.stepRequests])
        omega
      have hmem := s.effectiveStep_mem
      simp only [State.stepRequests, List.mem_cons, List.not_mem_nil, or_false] at hmem
      rcases hmem with h | h | h | h | h
      · exact .inl h
      · cases hq : s.pwr.reqTherm with
        | none => exact .inl (hpower (by rw [h, hq]; rfl))
        | some r => exact .inr (.inl ⟨r, rfl, by rw [h, hq]; rfl⟩)
      · cases hc : s.pwr.clamp with
        | false => exact .inl (hpower (by rw [h, hc]; rfl))
        | true => exact .inr (.inr (.inl ⟨rfl, by rw [h, hc]; rfl⟩))
      · cases hp : s.pwr.pin with
        | false => exact .inl (hpower (by rw [h, hp]; rfl))
        | true => exact .inr (.inr (.inr (.inl ⟨rfl, by rw [h, hp]; rfl⟩)))
      · exact .inr (.inr (.inr (.inr h)))
  · refine ⟨fun hr hg => ⟨_, s.withTargets targets, execAvsMeasurement_run hr hg targets, ?_, rfl, fun i hi => get_avsTable targets _ _ hi, rfl⟩,
      fun h => if_pos (loopsBarred h)⟩
    split
    · exact fun a => congrArg (fun m => Mem.get m a) (State.writeVdd_mem _ _)
    · exact fun _ => rfl
  · refine ⟨fun r hr => ⟨?_, fun hs => ?_, fun hs => ?_⟩, fun hr => ⟨?_, ?_⟩⟩
    · change execRegulatorSettled s = _
      rw [execRegulatorSettled, hr]
      rfl
    · change execRegulatorSlow us s = _
      rw [execRegulatorSlow, hr]
      exact if_neg (by rw [hs]; decide)
    · change execRegulatorSlow us s = _
      rw [execRegulatorSlow, hr]
      exact if_pos hs
    · change execRegulatorSettled s = _
      rw [execRegulatorSettled, hr]
      rfl
    · change execRegulatorSlow us s = _
      rw [execRegulatorSlow, hr]
      rfl
  · refine ⟨fun hr hg => ⟨fun best hb hf hno => ?_, fun hno hle => ?_⟩, fun h => if_pos (loopsBarred h)⟩
    · have hcap := State.capStep_of_first hb hf hno
      exact ⟨fun h => (execPowerLoopRun_down hr hg dyn (hcap ▸ h)).trans (by rw [hcap, State.powerAsks]),
        fun h => execPowerLoopRun_up hr hg dyn (hcap ▸ h)⟩
    · have hcap := State.capStep_of_none hno
      exact (execPowerLoopRun_down hr hg dyn (hcap ▸ hle)).trans (by rw [hcap, State.powerAsks])
  · refine ⟨fun hr hg => ⟨s.hottest, fun i hi => ?_, fun i hi => ?_, fun i hi => ?_, State.mem_readings.mp s.hottest_mem,
      execThermalLoopRun_run hr hg⟩, fun h => if_pos (loopsBarred h)⟩
    · exact State.le_hottest (State.mem_readings.mpr (.inl ⟨i, hi, rfl⟩))
    · exact State.le_hottest (State.mem_readings.mpr (.inr (.inl ⟨i, hi, rfl⟩)))
    · exact State.le_hottest (State.mem_readings.mpr (.inr (.inr ⟨i, hi, rfl⟩)))
  · exact ⟨fun r hr hg hq hlt hot => execThermalStepLower_hot hr hg hq hlt hot, fun r hq h => execThermalStepLower_cool hq h,
      execThermalStepLower_idle⟩
  · exact ⟨fun h => if_neg (by rw [h]; decide), fun h => if_pos h, rfl⟩

end Machine
end Sys2Proof

namespace Sys2Proof
namespace Machine

/-! The clock monitors, what a clock's failure does, its return, and the time base (R514-R516, R519). -/

/-- R514: the chip is reset by the failure of these. -/
def resetsChip (k : Clock) : Bool := isCore k || k = .refPcie

theorem resetsChip_iff (k : Clock) : resetsChip k = true ↔ k = .refPcie ∨ isCore k = true := by
  simp [resetsChip, or_comm]

/-! ### A clock fails -/

section
variable (s : State) (k : Clock) (cause : Nat)

/-- R519: the clock's bit set, and the failure counted. -/
def State.clockMarked : State := ({ s with clk := { s.clk with
  status := s.clk.status ||| BitVec.ofNat 32 (2 ^ clockBit k), coreBad := if isCore k then clockNo k :: s.clk.coreBad else s.clk.coreBad } } : State).bump 32 0x7C40 5

/-- R514: the failure with its record, written at once or once firmware runs again. -/
def State.clockRecorded (later : Bool) : State :=
  let f := (s.clockMarked k).takeFree 32
  let fields : List (Nat × Nat) := [(32, clockBit k), (32, cause), (32, f.1.toNat)]
  if later then f.2.reportDeferredAlways kClockFailed fields else f.2.report kClockFailed 0 0 fields

variable {s k}

theorem State.failClock_again (h : s.clockFailed k = true) : s.failClock k cause = s := if_pos h

theorem State.failClock_first (h : s.clockFailed k = false) : s.failClock k cause = (s.clockRecorded k cause (resetsChip k)).clockAction k :=
  if_neg (by rw [h]; decide)

theorem State.failClock_reset (h : s.clockFailed k = false) (hk : k = .refPcie ∨ isCore k = true) :
    s.failClock k cause = (s.clockRecorded k cause true).chipReset .warmLost 8 := by
  rw [State.failClock_first cause h, (resetsChip_iff k).mpr hk]
  rcases hk with rfl | hk
  · rfl
  · cases k with
    | crossbarPll => rfl
    | hbmPll => rfl
    | ddrPll c => rfl
    | portPll p =>
      have : 7 + p.val = 5 := of_decide_eq_true hk
      omega
    | cxPll x => cases x <;> cases hk
    | _ => cases hk

/-- The failure of a clock that does not reset the chip is recorded at once. -/
theorem State.failClock_now (h : s.clockFailed k = false) (hk : resetsChip k = false) :
    s.failClock k cause = (s.clockRecorded k cause false).clockAction k := by
  rw [State.failClock_first cause h, hk]

end

theorem resetsChip_portPll (p : Fin 4) : resetsChip (.portPll p) = false := by
  have hne : ¬ 7 + p.val = 5 := by omega
  have hcore : isCore (.portPll p) = false := decide_eq_false hne
  rw [resetsChip, hcore]
  rfl

/-! ### A clock comes back -/

theorem LogOnly.clk {s t : State} (h : LogOnly s t) : t.clk = s.clk := by rw [h.1]

section
variable (s : State) (k : Clock) (us : Nat)

/-- R514: the clock's marks taken away, its bit too unless another core PLL is bad. -/
def State.clockBack : State :=
  let core := s.clk.coreBad.filter (fun n => n ≠ clockNo k)
  { s with clk := { s.clk with
      coreBad := core, suspect := s.clk.suspect.filter (fun n => n ≠ clockNo k),
      status := if isCore k = true ∧ core ≠ [] then s.clk.status else BitVec.ofNat 32 (setBits s.clk.status.toNat (clockBit k) (clockBit k) 0) } }

/-- R514: the same, with its record. -/
def State.clockBackTold : State := (s.clockBack k).report kClockRestored 0 0 [(32, clockBit k), (32, us)]

/-- R514: the pool links that are down train again. -/
def State.linksTrainAgain : State := (List.range 4).foldl (fun u p =>
  if u.linkEnabled p && (u.linkAt p).st = .down && !(u.linkAt p).held && !u.pool.broken then u.linkTo p .training else u) s

/-- R519: a core PLL's bit stays while another core PLL is bad. -/
theorem State.clockBack_eq : s.clockBack k =
    let core := s.clk.coreBad.filter (fun n => n ≠ clockNo k)
    { s with clk := { s.clk with
      coreBad := core, suspect := s.clk.suspect.filter (fun n => n ≠ clockNo k),
      status := if !isCore k || core = [] then BitVec.ofNat 32 (setBits s.clk.status.toNat (clockBit k) (clockBit k) 0) else s.clk.status } } := by
  unfold State.clockBack
  extract_lets core
  have hclear : (!isCore k || decide (core = [])) = !decide (isCore k = true ∧ core ≠ []) := by
    cases isCore k <;> by_cases h : core = [] <;> simp [h]
  rw [hclear]
  by_cases h : isCore k = true ∧ core ≠ []
  · rw [if_pos h, decide_eq_true h]; rfl
  · rw [if_neg h, decide_eq_false h]; rfl

theorem execClockRestored_failed (h : s.clockFailed k = true) : execClockRestored k us s =
    if (clockBit k = 1 || clockBit k = 6) && !(s.clockBackTold k us).poolClockBad then .next (s.clockBackTold k us).linksTrainAgain
    else .next (s.clockBackTold k us) := by
  rw [State.clockBackTold, State.clockBack_eq]
  exact if_neg (by rw [h]; decide)

/-- R514: the report leaves the clocks: a pool clock is bad by the bits of the clock status. -/
theorem State.clockBackTold_poolClockBad :
    (s.clockBackTold k us).poolClockBad = (bit (s.clockBack k).clk.status 1 || bit (s.clockBack k).clk.status 6) := by
  have h : (s.clockBackTold k us).clk = (s.clockBack k).clk := (State.report_logOnly _ _ _ _ _).clk
  rw [State.poolClockBad, h]

end

/-! ### The obligation -/

/-- Settles O50, by the kinds of clock in `failClock`, and by `execClockRestored_failed` for a clock's return. -/
theorem clocksAndTheTimeBase : Obligations.ClocksAndTheTimeBase := by
  unfold Obligations.ClocksAndTheTimeBase
  refine ⟨fun s k ppm => ?_, fun s k => ?_, fun s k cause => ?_, fun s k us => ?_, fun s sid => ?_⟩
  · extract_lets lim
    refine ⟨fun hk h1 h2 => ?_, fun hk ho hs => ?_, fun hk ho hs => ?_, fun hk => if_pos hk⟩
    · exact (if_neg hk).trans (if_pos (by simpa using ⟨h1, h2⟩))
    · have hout : ¬ (-lim ≤ ppm && ppm ≤ lim) = true := by simp; omega
      exact (if_neg hk).trans ((if_neg hout).trans (if_neg (by rw [hs]; decide)))
    · have hout : ¬ (-lim ≤ ppm && ppm ≤ lim) = true := by simp; omega
      exact (if_neg hk).trans ((if_neg hout).trans (if_pos hs))
  · exact ⟨rfl, fun h => if_pos h, fun h => if_neg (by rw [h]; decide)⟩
  · extract_lets s1 f fields now later
    refine ⟨State.failClock_again cause, fun h => ⟨State.failClock_reset cause h, ?_, ?_, ?_, ?_, ?_⟩⟩
    · rintro (rfl | rfl)
      · exact State.failClock_now cause h rfl
      · exact State.failClock_now cause h rfl
    · rintro p rfl
      exact State.failClock_now cause h (resetsChip_portPll p)
    · rintro x rfl
      exact State.failClock_now cause h (by cases x <;> rfl)
    · rintro rfl
      exact State.failClock_now cause h rfl
    · rintro (rfl | rfl)
      · exact State.failClock_now cause h rfl
      · exact State.failClock_now cause h rfl
  · have hback : (s.clockBackTold k us).poolClockBad = false ↔ bit (s.clockBack k).clk.status 1 = false ∧ bit (s.clockBack k).clk.status 6 = false := by
      rw [s.clockBackTold_poolClockBad, Bool.or_eq_false_iff]
    have htrains : ((clockBit k = 1 || clockBit k = 6) && !(s.clockBackTold k us).poolClockBad) = true ↔
        (clockBit k = 1 ∨ clockBit k = 6) ∧ bit (s.clockBack k).clk.status 1 = false ∧ bit (s.clockBack k).clk.status 6 = false := by
      rw [← hback, Bool.and_eq_true, Bool.or_eq_true, decide_eq_true_eq, decide_eq_true_eq, Bool.not_eq_true']
    refine ⟨fun hf => if_pos (by rw [hf]; rfl), fun hf h1 h6 => ?_, fun hf h16 => ⟨fun hbad => ?_, fun hb1 hb6 => ?_⟩⟩
    · exact (execClockRestored_failed s k us hf).trans (if_neg fun h => (htrains.mp h).1.elim h1 h6)
    · refine (execClockRestored_failed s k us hf).trans (if_neg fun h => ?_)
      obtain ⟨-, hb1, hb6⟩ := htrains.mp h
      rcases hbad with hb | hb
      · exact absurd (hb.symm.trans hb1) (by decide)
      · exact absurd (hb.symm.trans hb6) (by decide)
    · exact (execClockRestored_failed s k us hf).trans (if_pos (htrains.mpr ⟨h16, hb1, hb6⟩))
  · exact ⟨fun h => if_pos h, fun h => if_neg (Nat.not_le.mpr h)⟩

end Machine
end Sys2Proof

namespace Sys2Proof
namespace Machine

/-! The flits of a pool link: what a header brings, sequence numbers, replay and the flits sent (R382-R391). -/

/-! ### Sent flits -/

section
variable (s : State) (p : Fin 4) (kind arg width : Nat)

theorem State.control_eq : s.control p kind arg width =
    { s with out := .flit p (flitHeader 2 0 0 false 7 0 0) (s.controlPayload p kind arg width) :: s.out } := by
  rw [State.control, Fin.ofNat_val_eq_self]
  rfl

theorem State.idleAck_eq : s.idleAck p arg = { s with out := .flit p (flitHeader 0 0 arg true 7 0 0) 0 :: s.out } := by
  rw [State.idleAck, Fin.ofNat_val_eq_self]
  rfl

end

/-! ### What a header brings -/

theorem State.modLink_congr {s : State} {p : Nat} {f g : Link → Link} (h : f (s.linkAt p) = g (s.linkAt p)) :
    s.modLink p f = s.modLink p g := by
  unfold State.modLink
  rw [h]

section
variable {s : State} {p : Nat} {h : FlitHeader}

theorem State.takeAck_empty (hb : (s.linkAt p).buffer = []) : s.takeAck p h = s := by
  unfold State.takeAck
  simp only [hb]

variable {f : HeldFlit} {fs : List HeldFlit}

theorem State.takeAck_frees (hb : (s.linkAt p).buffer = f :: fs) (hv : h.ackValid = true) (hd : (h.ackSeq - f.seq).toNat < fs.length + 1) :
    s.takeAck p h = (s.modLink p (fun l => { l with buffer := (f :: fs).drop ((h.ackSeq - f.seq).toNat + 1) })).pump p := by
  have hmod : s.modLink p (fun l => { l with buffer := l.buffer.drop ((h.ackSeq - f.seq).toNat + 1) }) =
      s.modLink p (fun l => { l with buffer := (f :: fs).drop ((h.ackSeq - f.seq).toNat + 1) }) :=
    State.modLink_congr (by rw [hb])
  unfold State.takeAck
  rw [← hmod]
  simp only [hb]
  exact if_pos (by simpa [hv] using hd)

theorem State.takeAck_stale (hb : (s.linkAt p).buffer = f :: fs) (hs : h.ackValid = false ∨ fs.length + 1 ≤ (h.ackSeq - f.seq).toNat) :
    s.takeAck p h = s := by
  unfold State.takeAck
  simp only [hb]
  refine if_neg ?_
  rw [Bool.and_eq_true, decide_eq_true_eq, List.length_cons]
  rintro ⟨hv, hd⟩
  rcases hs with hs | hs
  · exact absurd (hv.symm.trans hs) (by decide)
  · omega

end

theorem State.takeCredit_taken {s : State} {p vc : Nat} {n : BitVec 16} (hvc : vc ≤ 4)
    (hn : (Tab.get (s.linkAt p).sent vc 0 - n).toNat ≤ vcSize vc) :
    s.takeCredit p vc n = (s.modLink p (fun l => { l with ret := Tab.set l.ret vc n })).pump p :=
  if_neg (by simp only [Bool.or_eq_true, decide_eq_true_eq]; omega)

theorem State.takeCredit_out {s : State} {p vc : Nat} {n : BitVec 16} (h : 4 < vc ∨ vcSize vc < (Tab.get (s.linkAt p).sent vc 0 - n).toNat) :
    s.takeCredit p vc n = s :=
  if_pos (by simpa only [Bool.or_eq_true, decide_eq_true_eq] using h)

/-! ### Flits on an ACTIVE link -/

section
variable {s : State} {p : Fin 4} (ha : (s.linkAt p.val).st = .active)
include ha

theorem State.linkActive_of_active : s.linkActive p.val = true := decide_eq_true ha

theorem not_inactive : ¬ (!s.linkActive p.val) = true := by rw [State.linkActive_of_active ha]; decide

variable (h : FlitHeader) (packets : List (BitVec 128 × List (BitVec 8)))

theorem execDataFlit_next (hd : (h.seq - ((s.takeHeader p.val h).linkAt p.val).expect).toNat = 0) :
    let s2 := ((s.takeHeader p.val h).modLink p.val (fun l => { l with expect := l.expect + 1, unacked := l.unacked + 1, replayReq := none })).light
      (lightFlitRx p.val) 1
    let s3 := packets.foldl (fun u q => u.receive (some p.val) q.1 q.2) s2
    execDataFlit p h packets s = .next (if 32 ≤ (s3.linkAt p.val).unacked then s3.sendAck p.val else s3) :=
  (if_neg (not_inactive ha)).trans (if_pos hd)

theorem execDataFlit_gap (hd : 0 < (h.seq - ((s.takeHeader p.val h).linkAt p.val).expect).toNat)
    (hle : (h.seq - ((s.takeHeader p.val h).linkAt p.val).expect).toNat ≤ 2047) : execDataFlit p h packets s =
    if ((s.takeHeader p.val h).linkAt p.val).replayReq.isSome then .next (s.takeHeader p.val h)
    else .next (((s.takeHeader p.val h).modLink p.val (fun l => { l with replayReq := some l.expect })).control p.val 2
      ((s.takeHeader p.val h).linkAt p.val).expect.toNat 0) :=
  (if_neg (not_inactive ha)).trans ((if_neg (Nat.pos_iff_ne_zero.mp hd)).trans (if_pos hle))

theorem execDataFlit_copy (hd : 2047 < (h.seq - ((s.takeHeader p.val h).linkAt p.val).expect).toNat) :
    execDataFlit p h packets s = .next (s.takeHeader p.val h) :=
  (if_neg (not_inactive ha)).trans ((if_neg (by omega)).trans (if_neg (Nat.not_le.mpr hd)))

end

/-! ### Replay -/

/-- R389: the first number that a link can send again. -/
def Link.oldest (l : Link) : BitVec 12 := (l.buffer.head?.map (fun f => f.seq)).getD l.txSeq

/-- R389: how often in a row the same number was asked for. -/
def Link.asked (l : Link) (n : BitVec 12) : Nat := match l.replays with | some (q, k) => if q = n then k + 1 else 1 | none => 1

section
variable {s u : State} {p : Fin 4} (h : FlitHeader) (n : BitVec 12)

/-- R389, R390: an ACTIVE link takes the header, and then replays or fails by the number asked for. -/
theorem execReplayReq_eq (hu : s.takeHeader p.val h = u) (hact : ¬ (!s.linkActive p.val) = true) : execReplayReq p h n s =
    if (n - (u.linkAt p.val).oldest).toNat > (u.linkAt p.val).buffer.length then .next (u.linkFatal p.val 1 n.toNat)
    else if (u.linkAt p.val).asked n ≥ 9 then .next (u.linkFatal p.val 2 n.toNat)
    else .next (((u.modLink p.val (fun l => { l with replays := some (n, (u.linkAt p.val).asked n) })).bump 64 (0x5410 + p.val) 5).emit
      (.replay p (((u.linkAt p.val).buffer.drop (n - (u.linkAt p.val).oldest).toNat).map (fun f => f.seq)))) := by
  subst hu
  exact if_neg hact

end

/-! ### The obligation -/

/-- Settles O55, by the branches of each flit's effect once the header is taken. -/
theorem poolFlits : Obligations.PoolFlits := by
  unfold Obligations.PoolFlits
  refine ⟨fun s p kind arg width => ⟨s.control_eq p kind arg width, s.idleAck_eq p arg⟩,
    fun s p h => ⟨State.takeAck_empty, fun f fs hb => ⟨State.takeAck_frees hb, State.takeAck_stale hb⟩⟩,
    fun s p vc n => ⟨State.takeCredit_taken, State.takeCredit_out⟩, fun s p h ha => ?_, fun s p ha => ?_, fun s p ha => ?_,
    fun s p => ⟨rfl, rfl⟩⟩
  · have hact := not_inactive ha
    extract_lets s1 l d
    refine ⟨if_pos (State.linkActive_of_active ha), fun credits => if_neg hact, fun packets hd => execDataFlit_next ha h packets hd,
      fun packets hpos hle => ⟨fun hr => ?_, fun hr => ?_⟩, fun packets hd => execDataFlit_copy ha h packets hd, fun n => ?_⟩
    · exact (execDataFlit_gap ha h packets hpos hle).trans (if_neg (Option.not_isSome_iff_eq_none.mpr hr))
    · exact (execDataFlit_gap ha h packets hpos hle).trans (if_pos (Option.isSome_iff_ne_none.mpr hr))
    · have heq := execReplayReq_eq h n (u := s1) rfl hact
      extract_lets o
      exact ⟨fun hin hk => heq.trans ((if_neg (Nat.not_lt.mpr hin)).trans (if_neg (Nat.not_le.mpr hk))), fun hout => heq.trans (if_pos hout),
        fun hin hk => heq.trans ((if_neg (Nat.not_lt.mpr hin)).trans (if_pos hk))⟩
  · have hact := State.linkActive_of_active ha
    refine ⟨fun hu => if_pos (by simpa [hact] using hu), fun hu => if_neg (by simp [hu]), fun _ he => ?_, fun he => ?_, if_pos hact⟩
    · change execReplayReqResend p s = _
      unfold execReplayReqResend
      rw [he]
      exact if_pos hact
    · change execReplayReqResend p s = _
      unfold execReplayReqResend
      rw [he]
      rfl
  · have hact : s.linkActive p.val = false := decide_eq_false ha
    have hoff : (!s.linkActive p.val) = true := by rw [hact]; rfl
    refine ⟨if_neg (by simp [hact]), ?_, if_neg (by simp [hact]), fun h => ⟨if_neg (by simp [hact]), fun _ => if_pos hoff, fun _ => if_pos hoff,
      fun _ => if_pos hoff⟩⟩
    change execReplayReqResend p s = _
    unfold execReplayReqResend
    cases (s.linkAt p.val).replayReq with
    | none => rfl
    | some e => exact if_neg (by simp [hact])

end Machine
end Sys2Proof

namespace Sys2Proof
namespace Machine

/-! The state right after a power-on reset (R491-R493). -/

/-- Memory that lists no byte is in its canonical form. -/
theorem State.memoryCanonical_of_empty {s : State} (h : s.med.mem = []) : s.MemoryCanonical := by
  rw [State.MemoryCanonical, h]
  rfl

/-- Settles O2, field by field; the defaults of R455 are read out of the default option record. -/
theorem resetState : Obligations.ResetState := by
  unfold Obligations.ResetState
  have hleft : State.reset.option 183 176 = 255 := by decide +kernel
  have hright : State.reset.option 191 184 = 8 := by decide +kernel
  have hlow : State.reset.option 175 0 = 0 := by decide +kernel
  exact ⟨rfl, State.memoryCanonical_of_empty rfl, fun _ => rfl, rfl, rfl, rfl, rfl, hleft, hright, hlow, rfl, rfl, rfl, rfl, rfl, rfl, rfl, rfl,
    rfl, rfl, rfl, fun _ _ => rfl⟩

end Machine
end Sys2Proof

namespace Sys2Proof
namespace Machine

/-! CLEAR_POISON of a line that the list of poisoned lines holds twice (R359). -/

/-- Tenant 0 ACTIVE, all of its partition HDM-H, reached by a decoder of the function; the poison list holds line 0 twice. -/
def twicePoisoned : State :=
  { State.reset with
    tenants := [(0, { (default : Tenant) with size := 0x200000, state := 2 })]
    med := { State.reset.med with poison := [0, 0] }
    host := { State.reset.host with gfd := [(0, BitVec.ofNat 256 (0x200000 * 2 ^ 64 + 2 ^ 192 + 2 ^ 200))] } }

theorem twicePoisoned_mld : twicePoisoned.mld = false := by decide +kernel

theorem twicePoisoned_reaches : twicePoisoned.reaches (0 : Fin 68).val (0 : BitVec 46).toNat = true := by decide +kernel

theorem twicePoisoned_owner : twicePoisoned.owner (0 : BitVec 46).toNat = some 0 := by decide +kernel

theorem twicePoisoned_tenant : (twicePoisoned.tenantAt 0).state = 2 ∧ (twicePoisoned.tenantAt 0).stopping = false := by decide +kernel

theorem twicePoisoned_notHdmDb : twicePoisoned.isHdmDb ((0 : BitVec 46).toNat / 64 * 64) = false := by decide +kernel

theorem twicePoisoned_open : twicePoisoned.open_ ((0 : BitVec 46).toNat / 64) := by
  have hopen : twicePoisoned.fatalAt ((0 : BitVec 46).toNat / 64 * 64) = false ∧ twicePoisoned.recordOf ((0 : BitVec 46).toNat / 64) = none ∧
      twicePoisoned.pageLocked (pageOf ((0 : BitVec 46).toNat / 64 * 64)) = false := by decide +kernel
  exact hopen

theorem twicePoisoned_parityElsewhere (line : Nat) : twicePoisoned.parityElsewhere line := by
  have hclass : twicePoisoned.ringClass = 0 := by decide +kernel
  refine .inr fun x hx => absurd hx ?_
  simp [State.parityHolders, hclass]

/-- The write takes one of the two entries away: the line is poison still. -/
theorem twicePoisoned_cleared : (Res.stateOr (exec (.clearPoison 0 0 []) twicePoisoned) twicePoisoned).isPoison ((0 : BitVec 46).toNat / 64) = true := by
  decide +kernel

/-- Refutes O39: the statement speaks of every state, also of one whose list of poisoned lines holds a line twice, which no command makes;
a full-line write takes one entry away, so CLEAR_POISON leaves that line poison. -/
theorem not_mailboxDoeAndCdat : ¬ Obligations.MailboxDoeAndCdat := by
  unfold Obligations.MailboxDoeAndCdat
  rintro ⟨-, hclear⟩
  obtain ⟨-, hplace⟩ := hclear twicePoisoned 0 0 []
  rw [if_neg (by rw [twicePoisoned_mld]; decide)] at hplace
  obtain ⟨-, -, hreached⟩ := hplace _ rfl
  obtain ⟨-, hplain⟩ := hreached 0 twicePoisoned_reaches twicePoisoned_owner twicePoisoned_tenant.1 twicePoisoned_tenant.2
  obtain ⟨u, hdone, hline⟩ := hplain twicePoisoned_notHdmDb
  obtain ⟨hclean, -, -⟩ := hline twicePoisoned_open (twicePoisoned_parityElsewhere _)
  have hstill := twicePoisoned_cleared
  rw [hdone] at hstill
  exact absurd (hclean.symm.trans hstill) (by decide)

end Machine
end Sys2Proof

namespace Sys2Proof
namespace Machine

/-! What no read of a line and no store below the glaze engine's watch touches: one lemma for each operation on the way. -/

/-- The entries of the object dictionary other than memory's counters (0x3800 to 0x38FF) and the fault log. -/
def otherEntries (od : Tab Nat) : Nat → Option Nat :=
  fun key => if key < 0x380000 ∨ (0x390000 ≤ key ∧ key < 0x780000) then Tab.find? od key else none

/-- Whether each slice is fatal. -/
def CalState.fatals (c : CalState) : Nat → Bool := fun k => (Tab.get c.slices k default).fatal

/-- The host ports, the option record, the tier map, the slices that are fatal, the rebuild engine and the entries other than memory's
counters are the same. -/
@[simp, reducible] def StoreKept (s t : State) : Prop :=
  t.host = s.host ∧ t.opt = s.opt ∧ t.h64 = s.h64 ∧ t.med.tier = s.med.tier ∧ t.cal.fatals = s.cal.fatals ∧
    t.pool.rebuild = s.pool.rebuild ∧ otherEntries t.od = otherEntries s.od

theorem StoreKept.refl (s : State) : StoreKept s s := ⟨rfl, rfl, rfl, rfl, rfl, rfl, rfl⟩

theorem StoreKept.trans {s t u : State} (h : StoreKept s t) (k : StoreKept t u) : StoreKept s u := by
  obtain ⟨h1, h2, h3, h4, h5, h6, h7⟩ := h
  obtain ⟨k1, k2, k3, k4, k5, k6, k7⟩ := k
  exact ⟨k1.trans h1, k2.trans h2, k3.trans h3, k4.trans h4, k5.trans h5, k6.trans h6, k7.trans h7⟩

@[simp] theorem foldl_storeKept {α : Type} (f : State → α → State) (h : ∀ s x, StoreKept s (f s x)) (l : List α) (s : State) :
    StoreKept s (l.foldl f s) :=
  List.foldlRecOn l f (.refl s) fun t ht x _ => ht.trans (h t x)

section
variable (c : Prop) [Decidable c] (a b : State)

@[simp] theorem ite_host : (if c then a else b).host = if c then a.host else b.host := apply_ite State.host c a b
@[simp] theorem ite_h64 : (if c then a else b).h64 = if c then a.h64 else b.h64 := apply_ite State.h64 c a b
@[simp] theorem ite_fatals : (if c then a else b).cal.fatals = if c then a.cal.fatals else b.cal.fatals :=
  apply_ite (fun s : State => s.cal.fatals) c a b
@[simp] theorem ite_rebuild : (if c then a else b).pool.rebuild = if c then a.pool.rebuild else b.pool.rebuild :=
  apply_ite (fun s : State => s.pool.rebuild) c a b
@[simp] theorem ite_otherEntries : otherEntries (if c then a else b).od = if c then otherEntries a.od else otherEntries b.od :=
  apply_ite (fun s : State => otherEntries s.od) c a b

end

/-- A counter of memory is none of them. -/
@[simp] theorem otherEntries_setPar (s : State) {i k : Nat} (v : Nat) (hl : 0x3800 ≤ i) (hi : i < 0x3900) (hk : k < 256) :
    otherEntries (s.setPar i k v).od = otherEntries s.od := by
  funext key
  unfold otherEntries
  split
  · exact Tab.find_set_other _ _ (by unfold odKey; omega)
  · rfl

@[simp] theorem otherEntries_bump (s : State) {i k : Nat} (w n : Nat) (hl : 0x3800 ≤ i) (hi : i < 0x3900) (hk : k < 256) :
    otherEntries (s.bump w i k n).od = otherEntries s.od := otherEntries_setPar s _ hl hi hk

/-- What a slice holds besides does not say whether it is fatal. -/
theorem State.modSlice_storeKept (s : State) (k : Nat) {f : Slice → Slice} (h : ∀ x, (f x).fatal = x.fatal) : StoreKept s (s.modSlice k f) := by
  refine ⟨rfl, rfl, rfl, rfl, funext fun j => ?_, rfl, rfl⟩
  by_cases hj : j = k
  · rw [hj]
    exact (congrArg Slice.fatal (s.sliceAt_modSlice k f)).trans (h _)
  · exact congrArg Slice.fatal (s.sliceAt_modSlice_other f hj)

theorem LogOnly.storeKept {s t : State} (h : LogOnly s t) : StoreKept s t := by
  obtain ⟨ht, hod⟩ := h
  refine ⟨by rw [ht], by rw [ht], by rw [ht], by rw [ht], by rw [ht], by rw [ht], funext fun key => ?_⟩
  unfold otherEntries
  split
  · have hkey : odKey (key / 256) (key % 256) = key := by unfold odKey; omega
    have hsame := hod (key / 256) (key % 256) (by omega)
    rwa [hkey] at hsame
  · rfl

/-! ### The ring's ports -/

theorem State.pumpN_rebuild (n p : Nat) (s : State) : (State.pumpN n p s).pool.rebuild = s.pool.rebuild := by
  induction n generalizing s with
  | zero => rfl
  | succ n ih =>
    unfold State.pumpN
    dsimp only
    split
    · rfl
    · split
      · refine (ih _).trans ?_
        split <;> rfl
      · rfl

theorem State.inject_rebuild {s t : State} {h : PktHdr} {d : List (BitVec 8)} (e : s.inject h d = some t) : t.pool.rebuild = s.pool.rebuild := by
  unfold State.inject State.forward at e
  split at e
  · cases e
  · split at e
    · cases e
    · cases e
      exact State.pumpN_rebuild ..

@[simp] theorem State.inject_storeKept (s : State) (h : PktHdr) (d : List (BitVec 8)) : StoreKept s ((s.inject h d).getD s) := by
  cases e : s.inject h d with
  | none => exact .refl s
  | some t =>
    have hring : RingOnly s t := State.forward_ringOnly e
    refine ⟨?_, ?_, ?_, ?_, ?_, State.inject_rebuild e, ?_⟩ <;> rw [Option.getD_some, hring]

/-! ### Counters, records and marks -/

@[simp] theorem State.report_storeKept (s : State) (k : FKind) (unit subject : Nat) (fields : List (Nat × Nat)) :
    StoreKept s (s.report k unit subject fields) := (State.submit_logOnly _ _).storeKept

@[simp] theorem State.reportTenant_storeKept (s : State) (k : FKind) (t : Option Nat) (subject : Nat) (fields : List (Nat × Nat)) :
    StoreKept s (s.reportTenant k t subject fields) := (State.submit_logOnly _ _).storeKept

@[simp] theorem State.peak_storeKept (s : State) (v : Nat) : StoreKept s (s.peak 0x3800 10 v) := by simp [State.peak]

@[simp] theorem State.light_storeKept (s : State) (i n : Nat) : StoreKept s (s.light i n) := .refl s
@[simp] theorem State.takeFree_storeKept (w : Nat) (s : State) : StoreKept s (s.takeFree w).2 := .refl s
@[simp] theorem State.clearErrors_storeKept (s : State) (line : Nat) : StoreKept s (s.clearErrors line) := .refl s
@[simp] theorem State.tagLine_storeKept (s : State) (line k : Nat) : StoreKept s (s.tagLine line k) := .refl s
@[simp] theorem State.dropMerge_storeKept (s : State) (line : Nat) : StoreKept s (s.dropMerge line) := .refl s
@[simp] theorem State.markDirty_storeKept (s : State) (dpa : Nat) : StoreKept s (s.markDirty dpa) := .refl s
@[simp] theorem State.enqueueBe_storeKept (s : State) (cls port : Nat) (write : Bool) (bytes dpa : Nat) (work : BeWork) :
    StoreKept s (s.enqueueBe cls port write bytes dpa work) := State.modSlice_storeKept s _ fun _ => rfl
@[simp] theorem State.dropScrubs_storeKept (s : State) (line : Nat) : StoreKept s (s.dropScrubs line) := by
  unfold State.dropScrubs
  dsimp only
  split
  · exact State.modSlice_storeKept s _ fun _ => rfl
  · exact .refl s

@[simp] theorem State.takeBytes_storeKept (n : Nat) (s : State) : StoreKept s (s.takeBytes n).2 := by
  induction n generalizing s with
  | zero => exact .refl s
  | succ n ih => exact StoreKept.trans (State.takeFree_storeKept 8 s) (ih (s.takeFree 8).2)

theorem flipSub_le (hbm : Bool) : flipSub hbm ≤ 3 := by cases hbm <;> decide

@[simp] theorem State.applyFlip_storeKept (s : State) (w : Nat) : StoreKept s (s.applyFlip w) := by
  have hsub : flipSub (s.onHbm w) + 1 < 256 := by have := flipSub_le (s.onHbm w); omega
  simp [State.applyFlip, hsub]

/-! ### Parity -/

@[simp] theorem State.writeParity_storeKept (s : State) (line : Nat) (d : BitVec 512) : StoreKept s (s.writeParity line d) := by
  simp [State.writeParity]

@[simp] theorem State.parityLost_storeKept (s : State) (line way : Nat) : StoreKept s (s.parityLost line way) := by
  simp [State.parityLost]

@[simp] theorem State.evictParity_storeKept (s : State) (line : Nat) : StoreKept s (s.evictParity line) := by
  simp only [State.evictParity]
  (repeat' split) <;> simp

@[simp] theorem State.fetchParity_storeKept (s : State) (line : Nat) : StoreKept s (s.fetchParity line).2 := by
  simp only [State.fetchParity]
  (repeat' split) <;> simp

@[simp] theorem State.addParity_storeKept (s : State) (dpa : Nat) (delta : List (BitVec 8)) : StoreKept s (s.addParity dpa delta) := by
  simp [State.addParity]

@[simp] theorem State.updateParity_storeKept (s : State) (dpa : Nat) (delta : List (BitVec 8)) (read : Bool) :
    StoreKept s (s.updateParity dpa delta read) := by
  simp [State.updateParity]

/-! ### Ring parity, stores and poison -/

@[simp] theorem State.storeStored_storeKept (s : State) (line : Nat) (d : List (BitVec 8)) : StoreKept s (s.storeStored line d) := by
  simp [State.storeStored]

@[simp] theorem State.applyDelta_storeKept (s : State) (dpa : Nat) (delta : List (BitVec 8)) (poison : Bool) :
    StoreKept s (s.applyDelta dpa delta poison) := by
  simp [State.applyDelta]

@[simp] theorem State.sendDeltas_storeKept (s : State) (dpa : Nat) (delta : List (BitVec 8)) (poison : Bool) :
    StoreKept s (s.sendDeltas dpa delta poison) := by
  simp [State.sendDeltas]

@[simp] theorem State.storeRaw_storeKept (s : State) (line : Nat) (d : List (BitVec 8)) (read : Bool) :
    StoreKept s (s.storeRaw line d read) := by
  simp [State.storeRaw]

@[simp] theorem State.storeHalf_storeKept (s : State) (dpa : Nat) (d : List (BitVec 8)) : StoreKept s (s.storeHalf dpa d) := by
  simp [State.storeHalf]

@[simp] theorem State.poisonLine_storeKept (s : State) (line : Nat) : StoreKept s (s.poisonLine line) := by
  simp [State.poisonLine]

@[simp] theorem State.wordLost_storeKept (s : State) (dpa port : Nat) (err : SymErrors) : StoreKept s (s.wordLost dpa port err) := by
  simp [State.wordLost]

/-! ### Recovery and reads -/

@[simp] theorem State.pageDecoded_storeKept (s : State) (pg word pass stall : Nat) (errs : List (Nat × BitVec 16)) :
    StoreKept s (s.pageDecoded pg word pass stall errs) := by
  simp [State.pageDecoded]

@[simp] theorem State.pageFailed_storeKept (s : State) (pg stall word : Nat) (errs : List (Nat × BitVec 16)) :
    StoreKept s (s.pageFailed pg stall word errs) := by
  simp [State.pageFailed]

@[simp] theorem State.pageWritten_storeKept (s : State) (pg : Nat) : StoreKept s (s.pageWritten pg) := by
  simp [State.pageWritten]

@[simp] theorem State.takeEscSlots_storeKept (s : State) (e : Nat) (plan : Option (Nat × Nat)) (scrub : Bool) (slots : List (Nat × Nat)) :
    StoreKept s (s.takeEscSlots e plan scrub slots) := by
  unfold State.takeEscSlots
  refine foldl_storeKept _ (fun u p => ?_) slots s
  exact State.modSlice_storeKept u p.1 fun _ => rfl

@[simp] theorem State.recover_storeKept (s : State) (word : Nat) : StoreKept s (s.recover word).2 := by
  simp only [State.recover]
  (repeat' split) <;> simp

@[simp] theorem State.countUnit_storeKept (s : State) (u : Nat × Nat × Nat) : StoreKept s (s.countUnit u) := by
  simp [State.countUnit]

@[simp] theorem State.countCorrected_storeKept (s : State) (dpa : Nat) (syms : List (Nat × Nat)) : StoreKept s (s.countCorrected dpa syms) := by
  have hsub : (if s.onHbm dpa = true then 1 else 2) < 256 := by split <;> decide
  simp [State.countCorrected, hsub]

@[simp] theorem State.countUe_storeKept (s : State) (dpa : Nat) : StoreKept s (s.countUe dpa) := by
  have hsub : (if s.onHbm dpa = true then 3 else 4) < 256 := by split <;> decide
  simp [State.countUe, hsub]

@[simp] theorem State.readWord_storeKept (s : State) (word port : Nat) (r : WordResult) : StoreKept s (s.readWord word port r).2 := by
  simp only [State.readWord]
  (repeat' split) <;> simp

/-- A fold that carries a value beside the state. -/
theorem foldl_pair_storeKept {α β : Type} (f : β × State → α → β × State) (h : ∀ a x, StoreKept a.2 (f a x).2) (l : List α) (a : β × State) :
    StoreKept a.2 (l.foldl f a).2 :=
  List.foldlRecOn l f (motive := fun b => StoreKept a.2 b.2) (.refl a.2) fun b hb x _ => hb.trans (h b x)

@[simp] theorem State.readLine_storeKept (s : State) (line port : Nat) : StoreKept s (s.readLine line port).2 := by
  unfold State.readLine
  split
  · exact .refl s
  · dsimp only
    generalize hr : List.foldl _ _ _ = r
    have h : StoreKept s r.2 := by
      rw [← hr]
      exact foldl_pair_storeKept (fun (a : Bool × State) w => (a.1 && (a.2.readWord w port (s.decodeWord w [])).1, (a.2.readWord w port (s.decodeWord w [])).2))
        (fun _ _ => State.readWord_storeKept ..) (s.lineWords line) (true, s)
    have hl (i n : Nat) : StoreKept s (r.2.light i n) := h
    (repeat' split) <;> exact hl ..

@[simp] theorem State.readBytes_storeKept (s : State) (dpa n : Nat) : StoreKept s (s.readBytes dpa n).2 :=
  foldl_pair_storeKept (fun (a : (List (BitVec 8) × Bool) × State) l =>
    ((a.1.1 ++ (a.2.readLine l).1.1, a.1.2 || (a.2.readLine l).1.2), (a.2.readLine l).2)) (fun _ _ => State.readLine_storeKept ..) _ (([], false), s)

/-! ### The merge buffer -/

@[simp] theorem State.dropPartial_storeKept (s : State) (e : MergeEntry) : StoreKept s (s.dropPartial e) := by
  simp [State.dropPartial]

@[simp] theorem State.rmwNow_storeKept (s : State) (e : MergeEntry) : StoreKept s (s.rmwNow e) := by
  simp [State.rmwNow]

@[simp] theorem State.releaseMerge_storeKept (s : State) (line : Nat) : StoreKept s (s.releaseMerge line) := by
  simp only [State.releaseMerge]
  (repeat' split) <;> simp

@[simp] theorem State.releaseAll_storeKept (s : State) : StoreKept s s.releaseAll := by simp [State.releaseAll]

@[simp] theorem State.mergeRoom_storeKept (s : State) : StoreKept s s.mergeRoom := by
  simp only [State.mergeRoom]
  (repeat' split) <;> simp

@[simp] theorem State.holdWrite_storeKept (s : State) (line : Nat) (d : List (BitVec 8)) (mask : BitVec 64) (req : Nat) :
    StoreKept s (s.holdWrite line d mask req) := .refl s

end Machine
end Sys2Proof

namespace Sys2Proof
namespace Machine

/-! The keys of IDE and of the glaze windows, and the packets of a glaze window (R360, R363-R365). -/

/-! ### What reads and stores leave of a window -/

theorem StoreKept.glazeAt {s t : State} (h : StoreKept s t) (w : Nat) : t.glazeAt w = s.glazeAt w := by
  unfold State.glazeAt
  rw [h.1]

/-- An entry other than memory's counters and the fault log's. -/
theorem StoreKept.find {s t : State} (h : StoreKept s t) {key : Nat} (hk : key < 0x380000 ∨ (0x390000 ≤ key ∧ key < 0x780000)) :
    Tab.find? t.od key = Tab.find? s.od key := by
  obtain ⟨-, -, -, -, -, -, hod⟩ := h
  simpa [otherEntries, hk] using congrFun hod key

/-- The entries of a glaze window lie above memory's counters, and their defaults rest on no state. -/
theorem StoreKept.par {s t : State} (h : StoreKept s t) {w k : Nat} (hw : w < 64) (hk : k < 256) : t.par (0x5100 + w) k = s.par (0x5100 + w) k := by
  have hfind : Tab.find? t.od (odKey (0x5100 + w) k) = Tab.find? s.od (odKey (0x5100 + w) k) := h.find (by unfold odKey; omega)
  have hdefault : ∀ u : State, u.odDefault (0x5100 + w) k = ((odRow (0x5100 + w) k).map (fun r => r.dflt)).getD 0 := by
    intro u
    have hne : ∀ n, n < 0x5100 ∨ 0x5140 ≤ n → 0x5100 + w ≠ n := fun n hn => by omega
    simp [State.odDefault, hne]
  rw [State.par, State.par, hfind, hdefault, hdefault]

/-- Every window's OUT_NEXT is the same. -/
structure NextKept (s t : State) : Prop where
  next : ∀ w, (t.glazeAt w).outNext = (s.glazeAt w).outNext

theorem NextKept.refl (s : State) : NextKept s s := ⟨fun _ => rfl⟩

theorem NextKept.trans {s t u : State} (h : NextKept s t) (k : NextKept t u) : NextKept s u := ⟨fun w => (k.next w).trans (h.next w)⟩

theorem StoreKept.nextKept {s t : State} (h : StoreKept s t) : NextKept s t := ⟨fun w => congrArg Glaze.outNext (h.glazeAt w)⟩

theorem State.armGlaze_nextKept (s : State) (line : Nat) : NextKept s (s.armGlaze line) := by
  refine ⟨fun w => ?_⟩
  unfold State.armGlaze
  refine foldl_keeps (fun u : State => (u.glazeAt w).outNext) (fun u p => ?_) _ _
  split
  · by_cases hw : w = p.1
    · rw [hw, State.glazeAt_modGlaze]
    · rw [State.glazeAt_modGlaze_other _ _ hw]
  · rfl

theorem State.storeLine_nextKept (s : State) (line : Nat) (d : List (BitVec 8)) (read : Bool) : NextKept s (s.storeLine line d read) := by
  unfold State.storeLine
  split
  · exact ⟨fun _ => rfl⟩
  · split
    · exact ⟨fun _ => rfl⟩
    · exact (State.storeRaw_storeKept s line d read).nextKept.trans (State.armGlaze_nextKept _ line)

theorem State.mergeWrite_nextKept (s : State) (line : Nat) (d : List (BitVec 8)) (mask : BitVec 64) (req : Nat) :
    NextKept s (s.mergeWrite line d mask req) := by
  unfold State.mergeWrite
  extract_lets put s0 _ r _ _ s1 s2 s3
  have h0 : StoreKept s s0 := by simp [s0]
  have h1 : NextKept s s1 := by
    unfold s1
    split
    · exact StoreKept.nextKept h0
    · exact StoreKept.nextKept (h0.trans (State.mergeRoom_storeKept s0))
  have h2 : NextKept s s2 := by
    unfold s2
    split
    · split
      · exact h1.trans (State.storeLine_nextKept ..)
      · exact h1
    · exact h1
  have h3 : NextKept s s3 := by
    unfold s3
    split
    · exact h2.trans (State.releaseAll_storeKept s2).nextKept
    · exact h2
  split
  · split
    · exact h3.trans ⟨(State.releaseMerge_storeKept s3 _).nextKept.next⟩
    · exact h3
  · exact h3

theorem State.storeMasked_nextKept (s : State) (line : Nat) (d : List (BitVec 8)) (mask : BitVec 64) (req : Nat) :
    NextKept s (s.storeMasked line d mask req) := by
  unfold State.storeMasked
  extract_lets f lo hi full s1 s2 rest
  have h1 : NextKept s s1 := by
    unfold s1
    split
    · exact (State.storeHalf_storeKept ..).nextKept
    · exact .refl s
  have h2 : NextKept s s2 := by
    unfold s2
    split
    · exact h1.trans (State.storeHalf_storeKept ..).nextKept
    · exact h1
  split
  · exact ⟨fun _ => rfl⟩
  · split
    · exact .refl s
    · split
      · exact ⟨fun _ => rfl⟩
      · split
        · exact State.storeLine_nextKept ..
        · split
          · split
            · exact h2
            · exact h2.trans (State.mergeWrite_nextKept ..)
          · split
            · exact .refl s
            · exact State.mergeWrite_nextKept ..

theorem State.writeBytes_nextKept (s : State) (dpa : Nat) (bs : List (BitVec 8)) (req : Nat) : NextKept s (s.writeBytes dpa bs req) :=
  ⟨fun w => foldl_keeps (fun u : State => (u.glazeAt w).outNext) (fun u l => (State.storeMasked_nextKept u l _ _ _).next w) _ _⟩

/-- R365: an answer raises OUT_NEXT by 1. -/
theorem State.glazeOut_next {s : State} {w : Nat} (hk : (s.glazeAt w).key.isSome = true) (op status off inSeq : Nat) (body : List (BitVec 8)) :
    ((s.glazeOut w op status off inSeq body).glazeAt w).outNext = (s.glazeAt w).outNext + 1 := by
  obtain ⟨⟨key, q, id⟩, hkey⟩ := Option.isSome_iff_exists.mp hk
  unfold State.glazeOut
  simp only [hkey]
  rw [State.glazeAt_modGlaze]
  exact congrArg (· + 1) (((State.writeBytes_nextKept ..).trans (State.storeLine_nextKept ..)).next w)

/-! ### A packet -/

section
variable (s : State) (w : Nat)

/-- R365: the header at the watched place, read once the room of the OUT ring is known. -/
def State.glazeHead : (List (BitVec 8) × Bool) × State :=
  (s.glazeRoom w).2.readBytes ((s.glazeRoom w).2.glazeHeader w) 64

/-- R365: the state in which a packet is taken: its header read, the window disarmed. -/
def State.glazeTaken : State := (s.glazeHead w).2.modGlaze w (fun g => { g with armed := false })

/-- R365: nothing stands against a packet of a keyed window. -/
def State.glazeReady : Prop :=
  (s.glazeAt w).armed = true ∧ s.par (0x5100 + w) 5 ≠ 0 ∧ (s.glazeRoom w).1 = true ∧ (s.glazeAt w).inCount < 2 ^ 32 ∧ (s.glazeAt w).outCount < 2 ^ 32

theorem State.glazeRoom_storeKept : StoreKept s (s.glazeRoom w).2 := State.readBytes_storeKept ..

theorem State.glazeHead_storeKept : StoreKept s (s.glazeHead w).2 := (s.glazeRoom_storeKept w).trans (State.readBytes_storeKept ..)

variable {s w}

theorem State.glazeRun_noKey (h : (s.glazeAt w).key = none) (only : Option Nat) : s.glazeRun w only = s := by
  unfold State.glazeRun
  simp only [h]

/-- R365: what stands against a packet, in the order of the checks. -/
theorem State.glazeRun_bar (n : Nat) : (!(s.glazeAt w).armed || s.par (0x5100 + w) 5 = 0 || !(s.glazeRoom w).1 || (s.glazeAt w).inCount ≥ n ||
    (s.glazeAt w).outCount ≥ n) = true ↔ ¬ ((s.glazeAt w).armed = true ∧ s.par (0x5100 + w) 5 ≠ 0 ∧ (s.glazeRoom w).1 = true ∧
      (s.glazeAt w).inCount < n ∧ (s.glazeAt w).outCount < n) := by
  cases (s.glazeAt w).armed <;> cases (s.glazeRoom w).1 <;> simp
  omega

theorem State.glazeRun_notReady (h : ¬ s.glazeReady w) (only : Option Nat) : s.glazeRun w only = s := by
  unfold State.glazeRun
  dsimp only
  split
  · rfl
  · exact if_pos ((State.glazeRun_bar _).mpr h)

variable {key : BitVec 256} {q : SpdmPath} {id : Nat} (hk : (s.glazeAt w).key = some (key, q, id)) (hr : s.glazeReady w)
include hk hr

theorem State.glazeRun_ready (only : Option Nat) : s.glazeRun w only =
    if only.any (fun k => (k = 2) ≠ (bytesBits (s.glazeHead w).1.1 163 160 = 2)) then s
    else if bytesBits (s.glazeHead w).1.1 63 0 ≠ (s.glazeAt w).inNext.toNat then
      (s.glazeTaken w).glazeOut w 4 2 0 (bytesBits (s.glazeHead w).1.1 63 0) []
    else (s.glazeTaken w).glazeTake w key (s.glazeHead w).1.1 (bytesBits (s.glazeHead w).1.1 63 0) := by
  unfold State.glazeRun
  simp only [hk]
  exact if_neg (fun h => (State.glazeRun_bar _).mp h hr)

/-- R365: a command that runs packets of the other kind leaves this one. -/
theorem State.glazeRun_otherKind {n : Nat} (h : (n = 2) ≠ (bytesBits (s.glazeHead w).1.1 163 160 = 2)) : s.glazeRun w (some n) = s :=
  (State.glazeRun_ready hk hr _).trans (if_pos (by simpa using h))

theorem State.glazeRun_kind {only : Option Nat} (h : only.any (fun k => (k = 2) ≠ (bytesBits (s.glazeHead w).1.1 163 160 = 2)) = false) :
    s.glazeRun w only = if bytesBits (s.glazeHead w).1.1 63 0 ≠ (s.glazeAt w).inNext.toNat then
      (s.glazeTaken w).glazeOut w 4 2 0 (bytesBits (s.glazeHead w).1.1 63 0) []
    else (s.glazeTaken w).glazeTake w key (s.glazeHead w).1.1 (bytesBits (s.glazeHead w).1.1 63 0) :=
  (State.glazeRun_ready hk hr only).trans (if_neg (by rw [h]; decide))

end

/-- R365: a READ that was taken is answered with its data, with poison, or waits. -/
def glazeReadOut (w : Nat) (inNext : BitVec 64) (inCount seq off : Nat) (r : Option (List (BitVec 8) × Bool) × State) : State :=
  match r.1 with
  | none => r.2.modGlaze w (fun g => { g with armed := true, inNext := inNext, inCount := inCount })
  | some (bs, poison) => if poison then r.2.glazeOut w 4 4 0 seq [] else r.2.glazeOut w 3 0 off seq bs

theorem glazeReadOut_cases (w : Nat) (inNext : BitVec 64) (inCount seq off : Nat) (r : Option (List (BitVec 8) × Bool) × State) :
    match r.1 with
    | none => glazeReadOut w inNext inCount seq off r = r.2.modGlaze w (fun g => { g with armed := true, inNext := inNext, inCount := inCount })
    | some (_, true) => glazeReadOut w inNext inCount seq off r = r.2.glazeOut w 4 4 0 seq []
    | some (bs, false) => glazeReadOut w inNext inCount seq off r = r.2.glazeOut w 3 0 off seq bs := by
  obtain ⟨got, u⟩ := r
  cases got with
  | none => rfl
  | some b =>
    obtain ⟨bs, bad⟩ := b
    cases bad with
    | true => rfl
    | false => rfl

/-- R364, R365: a packet that verified, in a window of tenant `t`: its operation, range and length are checked, and it is carried out. -/
def State.glazeCarried (s2 : State) (w t slot : Nat) (inNext : BitVec 64) (inCount op off len seq : Nat) (plain : List (BitVec 8)) : State :=
  let x := s2.tenantAt t
  if op ≠ 1 && op ≠ 2 then s2.glazeOut w 4 5 0 seq []
  else if x.state ≠ 2 || x.stopping || len % 64 ≠ 0 || len = 0 || len > slot || off % 64 ≠ 0 || off + len > x.size.toNat then
    s2.glazeOut w 4 3 0 seq []
  else if op = 1 then (s2.glazeStore (x.base.toNat + off) (fitBytes len plain)).glazeOut w 4 0 0 seq []
  else glazeReadOut w inNext inCount seq off (s2.glazeRead (x.base.toNat + off) len)

section
variable {s : State} {w slot seq op len : Nat} {key : BitVec 256} {hd : List (BitVec 8)}

/-- R365: the bytes of a packet that follow its header, read by its window. -/
def State.glazePacket (s : State) (w op len slot : Nat) : (List (BitVec 8) × Bool) × State :=
  s.readBytes (s.glazeHeader w + 64) (if op = 1 then Nat.min len slot else 0)

/-- R365: the packet is counted. -/
def State.glazeCounted (s : State) (w : Nat) : State := s.modGlaze w (fun g => { g with inNext := g.inNext + 1, inCount := g.inCount + 1 })

variable (hop : bytesBits hd 163 160 = op) (hlen : bytesBits hd 159 128 = len) (hslot : 2 ^ s.par (0x5100 + w) 3 - 64 = slot)
include hop hlen hslot

/-- R365: a packet whose tag does not verify. -/
theorem State.glazeTake_lost
    (htag : gcmOpen key (glazeIv w false seq) (hd.take 32) ((s.glazePacket w op len slot).1.1 ++ (hd.drop 32).take 16) = none) :
    s.glazeTake w key hd seq = ((((s.glazePacket w op len slot).2.glazeCounted w).bump 32 (0x5100 + w) 9).report kGlazeAuthFailed
      (s.par (0x5100 + w) 1) 0 [(32, w), (64, seq)]).glazeOut w 4 1 0 seq [] := by
  subst hop hlen hslot
  unfold State.glazePacket at htag
  unfold State.glazeTake
  dsimp only
  rw [htag]
  rfl

/-- R365: a packet that verifies is carried out. -/
theorem State.glazeTake_opened {plain : List (BitVec 8)}
    (htag : gcmOpen key (glazeIv w false seq) (hd.take 32) ((s.glazePacket w op len slot).1.1 ++ (hd.drop 32).take 16) = some plain) :
    s.glazeTake w key hd seq = ((s.glazePacket w op len slot).2.glazeCounted w).glazeCarried w (s.par (0x5100 + w) 1) slot (s.glazeAt w).inNext
      (s.glazeAt w).inCount op (bytesBits hd 109 64) len seq plain := by
  subst hop hlen hslot
  unfold State.glazePacket at htag
  unfold State.glazeTake
  dsimp only
  rw [htag]
  rfl

end

section
variable {s2 : State} {w t slot : Nat} {inNext : BitVec 64} {inCount op off len seq : Nat} {plain : List (BitVec 8)}

theorem State.glazeCarried_otherOp (h1 : op ≠ 1) (h2 : op ≠ 2) :
    s2.glazeCarried w t slot inNext inCount op off len seq plain = s2.glazeOut w 4 5 0 seq [] := if_pos (by simp [h1, h2])

/-- R364: the operation of a packet is one that the engine knows. -/
theorem knownOp (h : op = 1 ∨ op = 2) : ¬ (op ≠ 1 && op ≠ 2) = true := by rcases h with h | h <;> simp [h]

/-- R364: the checks of a range and its length. -/
theorem glazeRange_good {x : Tenant} : (x.state ≠ 2 || x.stopping || len % 64 ≠ 0 || len = 0 || len > slot || off % 64 ≠ 0 || off + len > x.size.toNat) = false ↔
    x.state = 2 ∧ x.stopping = false ∧ len % 64 = 0 ∧ len ≠ 0 ∧ len ≤ slot ∧ off % 64 = 0 ∧ off + len ≤ x.size.toNat := by
  simp only [Bool.or_eq_false_iff, decide_eq_false_iff_not, not_not, not_lt, and_assoc, ne_eq]

theorem State.glazeCarried_badRange (ho : op = 1 ∨ op = 2) (h : ¬ ((s2.tenantAt t).state = 2 ∧ (s2.tenantAt t).stopping = false ∧ len % 64 = 0 ∧ len ≠ 0 ∧
    len ≤ slot ∧ off % 64 = 0 ∧ off + len ≤ (s2.tenantAt t).size.toNat)) :
    s2.glazeCarried w t slot inNext inCount op off len seq plain = s2.glazeOut w 4 3 0 seq [] :=
  (if_neg (knownOp ho)).trans (if_pos ((Bool.not_eq_false _).mp fun hgood => h (glazeRange_good.mp hgood)))

variable (h : (s2.tenantAt t).state = 2 ∧ (s2.tenantAt t).stopping = false ∧ len % 64 = 0 ∧ len ≠ 0 ∧ len ≤ slot ∧ off % 64 = 0 ∧
  off + len ≤ (s2.tenantAt t).size.toNat)
include h

theorem State.glazeCarried_write (ho : op = 1) : s2.glazeCarried w t slot inNext inCount op off len seq plain =
    (s2.glazeStore ((s2.tenantAt t).base.toNat + off) (fitBytes len plain)).glazeOut w 4 0 0 seq [] :=
  (if_neg (knownOp (.inl ho))).trans ((if_neg (by rw [glazeRange_good.mpr h]; decide)).trans (if_pos ho))

theorem State.glazeCarried_read (ho : op = 2) : s2.glazeCarried w t slot inNext inCount op off len seq plain =
    glazeReadOut w inNext inCount seq off (s2.glazeRead ((s2.tenantAt t).base.toNat + off) len) :=
  (if_neg (knownOp (.inr ho))).trans ((if_neg (by rw [glazeRange_good.mpr h]; decide)).trans (if_neg (by omega)))

end

/-! ### The obligation -/

/-- R360: what stands against an IDE key. -/
theorem ideKm_bar {o m : Bool} {f : Nat} : (!o || (m && (f < 4 || (f - 4) % 16 ≠ 0)) || (!m && f ≥ 4)) = true ↔
    ¬ (o = true ∧ ((m = false ∧ f < 4) ∨ (m = true ∧ 4 ≤ f ∧ (f - 4) % 16 = 0))) := by
  cases o <;> cases m <;> simp
  omega

/-- Settles O40, by the conditions of each key command, and by the stages of a packet: ready, in sequence, verified, in range. -/
theorem keysAndGlazeWindows : Obligations.KeysAndGlazeWindows := by
  unfold Obligations.KeysAndGlazeWindows
  refine ⟨fun s f session key => ?_, fun s f session w key => ?_, fun s w h => ?_, fun s w key q id hk ha hon hroom hin hout => ?_,
    fun s w op status off inSeq body hk => State.glazeOut_next hk op status off inSeq body⟩
  · extract_lets takes
    exact ⟨fun h => if_neg (by rw [ideKm_bar]; exact not_not_intro h), fun h => if_pos (ideKm_bar.mpr h)⟩
  · extract_lets takes set
    have hbar : (!s.sessionOpen (.doe f) session || s.par 0x5040 (f.val + 1) ≠ s.par (0x5100 + w.val) 1) = true ↔ ¬ takes := by
      simp only [takes, Bool.or_eq_true, Bool.not_eq_true', decide_eq_true_eq, not_and_or, Bool.not_eq_true, ne_eq]
    exact ⟨fun h h5 => (if_neg (by rw [hbar]; exact not_not_intro h)).trans (if_neg h5),
      fun h h5 => (if_neg (by rw [hbar]; exact not_not_intro h)).trans (if_pos h5), fun h => if_neg (by rw [hbar]; exact not_not_intro h),
      fun h => ⟨if_pos (hbar.mpr h), if_pos (hbar.mpr h)⟩⟩
  · have hrun : ∀ only, s.glazeRun w.val only = s := by
      intro only
      by_cases hk : (s.glazeAt w.val).key = none
      · exact State.glazeRun_noKey hk only
      · refine State.glazeRun_notReady (fun hr => ?_) only
        obtain ⟨ha, hon, hroom, hin, hout⟩ := hr
        rcases h with h | h | h | h | h | h
        · exact hk h
        · exact absurd (h.symm.trans ha) (by decide)
        · exact hon h
        · exact absurd (h.symm.trans hroom) (by decide)
        · omega
        · omega
    exact ⟨congrArg Host.Outcome.next (hrun _), congrArg Host.Outcome.next (hrun _), congrArg Host.Outcome.next (hrun _)⟩
  · have hr : s.glazeReady w.val := ⟨ha, hon, hroom, hin, hout⟩
    extract_lets room h op seq off len slot s1 body p s2 x tag inRange r res
    have hs1 : StoreKept s h.2 := s.glazeHead_storeKept w.val
    have ht : s1.par (0x5100 + w.val) 1 = s.par (0x5100 + w.val) 1 := hs1.par w.isLt (by decide)
    have hslot : 2 ^ s1.par (0x5100 + w.val) 3 - 64 = slot := congrArg (2 ^ · - 64) (hs1.par w.isLt (by decide))
    have hglaze : s1.glazeAt w.val = { s.glazeAt w.val with armed := false } := by
      unfold s1
      rw [State.glazeAt_modGlaze, hs1.glazeAt]
    have hrun : ∀ only : Option Nat, only.any (fun k => (k = 2) ≠ (op = 2)) = false →
        s.glazeRun w.val only = if seq ≠ (s.glazeAt w.val).inNext.toNat then s1.glazeOut w.val 4 2 0 seq [] else s1.glazeTake w.val key h.1.1 seq :=
      fun only hkind => State.glazeRun_kind hk hr hkind
    have hother : ∀ n : Nat, (n = 2) ≠ (op = 2) → s.glazeRun w.val (some n) = s := fun n hn => State.glazeRun_otherKind hk hr hn
    have hlost : tag = none → s1.glazeTake w.val key h.1.1 seq =
        ((s2.bump 32 (0x5100 + w.val) 9).report kGlazeAuthFailed (s.par (0x5100 + w.val) 1) 0 [(32, w.val), (64, seq)]).glazeOut w.val 4 1 0 seq [] := by
      intro htag
      rw [← ht]
      exact State.glazeTake_lost (s := s1) (hd := h.1.1) (op := op) (len := len) rfl rfl hslot htag
    have hopened : ∀ plain, tag = some plain → s1.glazeTake w.val key h.1.1 seq =
        s2.glazeCarried w.val (s.par (0x5100 + w.val) 1) slot (s.glazeAt w.val).inNext (s.glazeAt w.val).inCount op off len seq plain := by
      intro plain htag
      have htake := State.glazeTake_opened (s := s1) (hd := h.1.1) (op := op) (len := len) rfl rfl hslot htag
      rw [ht, hglaze] at htake
      exact htake
    have hanswer : res (if seq ≠ (s.glazeAt w.val).inNext.toNat then s1.glazeOut w.val 4 2 0 seq [] else s1.glazeTake w.val key h.1.1 seq) := by
      clear hrun hother
      clear_value tag s2
      unfold res
      split
      · rfl
      · cases tag with
        | none => exact hlost rfl
        | some plain =>
          have htake := hopened plain rfl
          exact ⟨fun h1 h2 => htake.trans (State.glazeCarried_otherOp h1 h2), fun ho hbad => htake.trans (State.glazeCarried_badRange ho hbad),
            fun h1 hin => htake.trans (State.glazeCarried_write hin h1), fun h2 hin => by
              rw [htake.trans (State.glazeCarried_read hin h2)]
              exact glazeReadOut_cases ..⟩
    clear_value res
    exact ⟨fun h2 => ⟨⟨_, congrArg Host.Outcome.next (hrun (some 1) (by simp [h2])), hanswer⟩,
        congrArg Host.Outcome.next (hother 2 (by simpa using h2))⟩,
      fun h2 => ⟨⟨_, congrArg Host.Outcome.next (hrun (some 2) (by simp [h2])), hanswer⟩,
        congrArg Host.Outcome.next (hother 1 (by simpa using h2))⟩,
      ⟨_, congrArg Host.Outcome.next (hrun none rfl), hanswer⟩⟩

end Machine
end Sys2Proof

namespace Sys2Proof
namespace Machine

/-! Lines that are poisoned one after another: which slices are fatal, where a line lies and what was poison before all stand. -/

/-! ### Where a line lies -/

section
variable {s t : State} (h : StoreKept s t)
include h

theorem StoreKept.option (hi lo : Nat) : t.option hi lo = s.option hi lo := by
  unfold State.option
  rw [h.2.1]

theorem StoreKept.entry {idx sub : Nat} (hk : odKey idx sub < 0x380000 ∨ (0x390000 ≤ odKey idx sub ∧ odKey idx sub < 0x780000)) :
    t.par idx sub = s.par idx sub := by
  obtain ⟨-, hopt, h64, -⟩ := id h
  exact State.par_congr hopt h64 (h.find hk)

theorem StoreKept.coord : t.coord = s.coord := by
  have hepoch : t.epoch = s.epoch := congrArg (· % 2) (h.entry (by decide))
  have hroute : t.route s.epoch = s.route s.epoch := by
    have hlt : s.epoch < 2 := Nat.mod_lt _ (by decide)
    funext c
    exact congrArg (bitsAt · _ _) (h.entry (by unfold odKey; omega))
  unfold State.coord State.routePresent State.position
  rw [hepoch, hroute, h.option]

theorem StoreKept.channels : (List.range 12).map t.channelExtents = (List.range 12).map s.channelExtents := by
  refine List.map_congr_left fun c hc => ?_
  have hlt := List.mem_range.mp hc
  unfold State.channelExtents
  rw [h.entry (by unfold odKey; omega), h.entry (by unfold odKey; omega)]

theorem StoreKept.ringClass : t.ringClass = s.ringClass := h.option 141 140

theorem StoreKept.isSpare : t.isSpare = s.isSpare := by
  unfold State.isSpare State.rankOf State.spares State.ringChips
  rw [h.ringClass, h.coord, h.option, h.option]

theorem StoreKept.mediaExtents (tier : Nat) : t.mediaExtents tier = s.mediaExtents tier := by
  obtain ⟨-, -, h64, -⟩ := id h
  simp only [State.mediaExtents, State.hbmExtents, State.ddrExtents, h.channels, h64]

theorem StoreKept.reserved {tier : Nat} (ht : tier < 2) : t.reserved tier = s.reserved tier := by
  have harmour : t.armourExtents tier = s.armourExtents tier := by
    unfold State.armourExtents State.ddrExtents
    rw [h.find (key := odKey 0x3020 (tier + 1)) (by unfold odKey; omega), h.channels, h.ringClass]
  unfold State.reserved State.leftover State.ringParity State.levels State.stripeData State.stripeParity
  rw [h.ringClass, h.mediaExtents, harmour]

theorem StoreKept.usable {tier : Nat} (ht : tier < 2) : t.usable tier = s.usable tier := by
  rw [State.usable, State.usable, h.mediaExtents, h.reserved ht]

theorem StoreKept.defaultEntry (e : Nat) : t.defaultEntry e = s.defaultEntry e := by
  have hmap : (List.range 12).map (fun c => (c, t.channelExtents c)) = (List.range 12).map (fun c => (c, s.channelExtents c)) := by
    refine List.map_congr_left fun c hc => congrArg (Prod.mk c) ?_
    exact List.map_inj_left.mp h.channels c hc
  have hfree : t.freeBlocks = s.freeBlocks := by
    unfold State.freeBlocks
    rw [h.usable (by decide)]
    dsimp only
    congr 1
    refine List.foldl_ext _ _ _ fun a c hc => ?_
    rw [List.map_inj_left.mp h.channels c hc]
  unfold State.defaultEntry
  rw [h.ringClass, h.isSpare, hfree, hmap, h.usable Nat.two_pos, h.usable Nat.one_lt_two, h.reserved Nat.two_pos, h.reserved Nat.one_lt_two]

theorem StoreKept.fatalAt (dpa : Nat) : t.fatalAt dpa = s.fatalAt dpa := by
  obtain ⟨-, -, -, htier, hfatals, -⟩ := id h
  have hentry : t.entryAt dpa = s.entryAt dpa := by
    simp only [State.entryAt, State.tierEntry, htier, h.isSpare, h.defaultEntry]
  have hslice : t.sliceOf dpa = s.sliceOf dpa := by rw [State.sliceOf, State.sliceOf, State.locate, State.locate, hentry]
  rw [State.fatalAt, State.fatalAt, hslice]
  exact congrFun hfatals (s.sliceOf dpa)

end

/-! ### Poison -/

theorem State.poisonLine_morePoison (s : State) (line : Nat) : s.med.poison ⊆ (s.poisonLine line).med.poison := by
  unfold State.poisonLine
  extract_lets dpa old media s1 s2
  split
  · exact List.Subset.refl _
  · rw [foldl_applyFlip_poison]
    refine List.Subset.trans ?_ (State.sendDeltas_morePoison ..)
    show _ ⊆ (s1.updateParity dpa old false).med.poison
    rw [State.updateParity_poison]
    exact List.subset_cons_self ..

/-- What stands when lines have been poisoned: poison stays, slices and places are the same, and a line of the list is poison unless its
slice is fatal. -/
structure Poisoned (s t : State) (lines : List Nat) : Prop where
  kept : StoreKept s t
  more : s.med.poison ⊆ t.med.poison
  lines : ∀ l ∈ lines, s.fatalAt (l * 64) = false → t.isPoison l = true

theorem Poisoned.isPoison {s t : State} {lines : List Nat} (h : Poisoned s t lines) {l : Nat} (hl : s.isPoison l = true) : t.isPoison l = true :=
  List.contains_iff_mem.mpr (h.more (List.contains_iff_mem.mp hl))

theorem Poisoned.append {s t u : State} {l m : List Nat} (h : Poisoned s t l) (k : Poisoned t u m) : Poisoned s u (l ++ m) := by
  refine ⟨h.kept.trans k.kept, List.Subset.trans h.more k.more, fun x hx hf => ?_⟩
  rcases List.mem_append.mp hx with hx | hx
  · exact k.isPoison (h.lines x hx hf)
  · exact k.lines x hx ((h.kept.fatalAt _).trans hf)

theorem poisonLines_poisoned (lines : List Nat) (s : State) : Poisoned s (lines.foldl State.poisonLine s) lines := by
  induction lines generalizing s with
  | nil => exact ⟨.refl s, List.Subset.refl _, fun _ h => absurd h List.not_mem_nil⟩
  | cons l ls ih =>
    have hfirst : Poisoned s (s.poisonLine l) [l] := by
      refine ⟨State.poisonLine_storeKept s l, State.poisonLine_morePoison s l, fun x hx hf => ?_⟩
      rw [List.mem_singleton.mp hx] at hf ⊢
      exact State.isPoison_poisonLine s hf
    exact hfirst.append (ih _)

theorem poisonExtents_poisoned (es : List Nat) (s : State) :
    Poisoned s (es.foldl (fun u e => (extentLines e).foldl State.poisonLine u) s) (es.flatMap extentLines) := by
  induction es generalizing s with
  | nil => exact ⟨.refl s, List.Subset.refl _, fun _ h => absurd h List.not_mem_nil⟩
  | cons e es ih =>
    rw [List.foldl_cons, List.flatMap_cons]
    exact (poisonLines_poisoned (extentLines e) s).append (ih _)

end Machine
end Sys2Proof

namespace Sys2Proof
namespace Machine

/-! Routing tables, congestion counters and the rebuild engine (R397-R399, R410-R413, R431). -/

/-! ### Routing tables -/

/-- Byte `k` of the number that bytes make. -/
theorem bitsAt_leNat (bs : List (BitVec 8)) (k : Nat) : bitsAt (leNat bs) (8 * k + 7) (8 * k) = (bs.getD k 0).toNat := by
  have hbyte : ∀ n : Nat, bitsAt n (8 * k + 7) (8 * k) = n / 2 ^ (8 * k) % 256 := fun n => by
    have hw : 8 * k + 7 + 1 - 8 * k = 8 := by omega
    rw [bitsAt, hw, Nat.shiftRight_eq_div_pow]
    rfl
  rw [hbyte]
  clear hbyte
  induction bs generalizing k with
  | nil => simp [leNat]
  | cons b bs ih =>
    have hb := b.isLt
    cases k with
    | zero =>
      have h : (leNat (b :: bs)) % 256 = b.toNat := by rw [leNat]; omega
      simpa using h
    | succ k =>
      have hdiv : leNat (b :: bs) / 2 ^ (8 * (k + 1)) = leNat bs / 2 ^ (8 * k) := by
        have hhead : leNat (b :: bs) / 2 ^ 8 = leNat bs := by rw [leNat]; omega
        rw [show 8 * (k + 1) = 8 + 8 * k by omega, pow_add, ← Nat.div_div_eq_div_mul, hhead]
      rw [hdiv, ih k]
      rfl

/-- R398: a routing table with its reserved bits zero. -/
def routeClean (v : Nat) : Nat :=
  leNat ((List.range 64).map (fun c => BitVec.ofNat 8 (bitsAt v (8 * c + 5) (8 * c) + (if bitAt v (8 * c + 7) then 128 else 0))))

theorem bitsAt_routeClean (v : Nat) {k : Nat} (hk : k < 64) :
    bitsAt (routeClean v) (8 * k + 7) (8 * k) = bitsAt v (8 * k + 5) (8 * k) + (if bitAt v (8 * k + 7) then 128 else 0) := by
  have hlt : bitsAt v (8 * k + 5) (8 * k) < 64 := by
    have hw : 8 * k + 5 + 1 - 8 * k = 6 := by omega
    rw [bitsAt, hw]
    exact Nat.mod_lt _ (by decide)
  have hget : ((List.range 64).map (fun c => BitVec.ofNat 8 (bitsAt v (8 * c + 5) (8 * c) + (if bitAt v (8 * c + 7) then 128 else 0)))).getD k 0 =
      BitVec.ofNat 8 (bitsAt v (8 * k + 5) (8 * k) + (if bitAt v (8 * k + 7) then 128 else 0)) := by
    simp [List.getD_eq_getElem?_getD, hk]
  rw [routeClean, bitsAt_leNat, hget, BitVec.toNat_ofNat]
  refine Nat.mod_eq_of_lt ?_
  split <;> omega

theorem routeWrite_unused {s : State} {tbl v : Nat} (h : s.inFlight tbl = 0) :
    routeWrite tbl v s = done ((s.setPar 0x5400 (6 + tbl) (routeClean v)).checkPartners.checkRebuild) := if_neg (not_not_intro h)

theorem routeWrite_used {s : State} {tbl v : Nat} (h : s.inFlight tbl ≠ 0) : routeWrite tbl v s = refuse stRange s := if_pos h

/-! ### Partners and the rebuild that a table's change ends -/

section
variable {s : State}

theorem State.checkRebuild_done (h4 : s.pool.rebuild.st = 4) (hc : s.coord = s.pool.rebuild.lost.toNat) :
    s.checkRebuild = { s with pool := { s.pool with rebuild := { s.pool.rebuild with st := 5 } } } := if_pos (by simp [h4, hc])

theorem State.checkRebuild_notCopying (h : ¬ (s.pool.rebuild.st = 4 ∧ s.coord = s.pool.rebuild.lost.toNat)) (h2 : s.pool.rebuild.st ≠ 2) :
    s.checkRebuild = s := (if_neg (by simpa using h)).trans (if_pos h2)

/-- R230: where no plan waits at a ring barrier, no partner is missed. -/
theorem State.checkPartners_none (h : ∀ v, v < 34 → ∀ id q, (s.vatAt v).wait ≠ .ring id q) : s.checkPartners = s := by
  unfold State.checkPartners
  refine List.foldlRecOn _ _ (motive := fun u => u = s) rfl fun u hu v hv => ?_
  subst hu
  split
  · next hw _ => exact absurd hw (h v (List.mem_range.mp hv) _ _)
  · rfl

end

/-! ### Congestion -/

/-- One count more in each of a row of bins. -/
def countBins (bin : Nat → Nat) (n : Nat) (t : Tab Nat) : Tab Nat :=
  (List.range n).foldl (fun t vc => Tab.set t (bin vc) ((Tab.get t (bin vc) 0 + 1) % 2 ^ 32)) t

theorem countBins_succ (bin : Nat → Nat) (n : Nat) (t : Tab Nat) :
    countBins bin (n + 1) t = Tab.set (countBins bin n t) (bin n) ((Tab.get (countBins bin n t) (bin n) 0 + 1) % 2 ^ 32) := by
  rw [countBins, List.range_succ, List.foldl_append]
  rfl

theorem get_countBins_other {bin : Nat → Nat} {j n : Nat} (h : ∀ vc, vc < n → j ≠ bin vc) (t : Tab Nat) :
    Tab.get (countBins bin n t) j 0 = Tab.get t j 0 := by
  induction n with
  | zero => rfl
  | succ n ih =>
    rw [countBins_succ, Tab.get_set_other _ _ _ (h n (Nat.lt_succ_self n))]
    exact ih fun vc hv => h vc (Nat.lt_succ_of_lt hv)

theorem get_countBins {bin : Nat → Nat} (hinj : ∀ a b, bin a = bin b → a = b) {vc n : Nat} (h : vc < n) (t : Tab Nat) :
    Tab.get (countBins bin n t) (bin vc) 0 = (Tab.get t (bin vc) 0 + 1) % 2 ^ 32 := by
  induction n with
  | zero => omega
  | succ n ih =>
    rw [countBins_succ]
    by_cases hv : vc = n
    · subst hv
      rw [Tab.get_set_same, get_countBins_other fun v hlt e => absurd (hinj _ _ e) (by omega)]
    · rw [Tab.get_set_other _ _ _ fun e => hv (hinj _ _ e)]
      exact ih (by omega)

/-- The bins of two virtual channels differ: each channel has its own eight. -/
theorem bin_injective (f : Nat → Nat) (a b : Nat) (h : a * 8 + Nat.min 7 (f a) = b * 8 + Nat.min 7 (f b)) : a = b := by
  have ha : Nat.min 7 (f a) ≤ 7 := Nat.min_le_left 7 (f a)
  have hb : Nat.min 7 (f b) ≤ 7 := Nat.min_le_left 7 (f b)
  omega

/-! ### REBUILD_COMMAND -/

section
variable {s : State}

/-- R410: the fields of a START. -/
theorem start_fields (lost lost2 : BitVec 8) :
    bitsAt (1 + lost.toNat * 2 ^ 8 + lost2.toNat * 2 ^ 16) 7 0 = 1 ∧ bitsAt (1 + lost.toNat * 2 ^ 8 + lost2.toNat * 2 ^ 16) 15 8 = lost.toNat ∧
      bitsAt (1 + lost.toNat * 2 ^ 8 + lost2.toNat * 2 ^ 16) 23 16 = lost2.toNat := by
  have h1 := lost.isLt
  have h2 := lost2.isLt
  refine ⟨?_, ?_, ?_⟩ <;> simp only [bitsAt, Nat.shiftRight_eq_div_pow] <;> omega

/-- R410: a START of the rebuild of two coordinates, by the checks. -/
theorem rebuildCommand_start (lost lost2 : BitVec 8) : rebuildCommand (1 + lost.toNat * 2 ^ 8 + lost2.toNat * 2 ^ 16) s =
    if s.ringClass ≠ 0 && s.sec.ringKey.isNone then refuse stDenied s
    else if s.pool.rebuild.st ≠ 0 || s.ringClass = 0 || (s.ringClass = 1 && s.ringChips < 8) then refuse stState s
    else if lost.toNat > 63 || lost2.toNat > 63 then refuse stRange s
    else done (({ s with pool := { s.pool with rebuild := { (default : Rebuild) with
      st := 1, id := s.pool.rebuild.id + 1, lost := BitVec.ofNat 6 lost.toNat, lost2 := BitVec.ofNat 6 lost2.toNat } } }.setPar 0x5400 14 0).setPar
        0x5400 15 s.rebuildTotal) := by
  obtain ⟨h0, h1, h2⟩ := start_fields lost lost2
  unfold rebuildCommand
  simp only [h0, h1, h2]

theorem rebuildCommand_abort (h : s.pool.rebuild.st ≠ 0) : rebuildCommand 2 s =
    done (({ s with pool := { s.pool with rebuild := { (default : Rebuild) with id := s.pool.rebuild.id, lost2 := 0x3F } } }.setPar 0x5400 14 0).setPar
      0x5400 15 0) := if_neg h

theorem rebuildCommand_abort_idle (h : s.pool.rebuild.st = 0) : rebuildCommand 2 s = refuse stState s := if_pos h

end

end Machine
end Sys2Proof

namespace Sys2Proof
namespace Machine

/-! The rebuild engine's events, and the statement (R410-R413, R431). -/

/-! ### The map copy is loaded -/

/-- The entry of a key in a table made from a row of keys. -/
theorem Tab.find_rangeMap {α : Type} (f : Nat → α) {n e : Nat} (h : e < n) : Tab.find? ((List.range n).map (fun k => (k, f k))) e = some (f e) := by
  have hrow : ∀ n a, a ≤ e → e < a + n → Tab.find? ((List.range' a n).map (fun k => (k, f k))) e = some (f e) := by
    intro n
    induction n with
    | zero => intro a h1 h2; omega
    | succ n ih =>
      intro a h1 h2
      rw [List.range'_succ, List.map_cons, Tab.find?]
      by_cases ha : a = e
      · rw [if_pos ha, ha]
      · rw [if_neg ha]
        exact ih (a + 1) (by omega) (by omega)
  rw [List.range_eq_range']
  exact hrow n 0 (Nat.zero_le e) (by omega)

/-- The entry of a key in a table into which a row of keys is written. -/
theorem Tab.get_setRange {α : Type} (f : Nat → α) (d : α) {n k : Nat} (h : k < n) (t : Tab α) :
    Tab.get ((List.range n).foldl (fun m k => Tab.set m k (f k)) t) k d = f k := by
  induction n with
  | zero => omega
  | succ n ih =>
    rw [List.range_succ, List.foldl_append, List.foldl_cons, List.foldl_nil]
    by_cases hk : k = n
    · rw [hk, Tab.get_set_same]
    · rw [Tab.get_set_other _ _ _ hk]
      exact ih (by omega)

section
variable (s : State)

/-- R431: what the rebuilt map copy holds of the partition of a tenant. -/
def State.loadedRow (t : Nat) : Tenant :=
  let row := 0x700000 + 128 * t
  let st := s.mapBytes (row + 28) 1
  { s.tenantAt t with
    base := BitVec.ofNat 64 (s.mapBytes row 8), size := BitVec.ofNat 64 (s.mapBytes (row + 8) 8),
    dbSize := BitVec.ofNat 64 (s.mapBytes (row + 16) 8), keyGen := BitVec.ofNat 32 (s.mapBytes (row + 24) 4),
    state := BitVec.ofNat 8 (if st = 2 then 1 else st), stopping := false, keyWait := false, washed := 0 }

theorem State.loadedRow_base (t : Nat) : (s.loadedRow t).base = BitVec.ofNat 64 (s.mapBytes (0x700000 + 128 * t) 8) := by
  unfold State.loadedRow
  dsimp only

theorem State.loadedRow_size (t : Nat) : (s.loadedRow t).size = BitVec.ofNat 64 (s.mapBytes (0x700000 + 128 * t + 8) 8) := by
  unfold State.loadedRow
  dsimp only

/-- Log entry 167: a partition that was ACTIVE is loaded as STOPPED. -/
theorem State.loadedRow_state (t : Nat) : (s.loadedRow t).state =
    BitVec.ofNat 8 (if s.mapBytes (0x700000 + 128 * t + 28) 1 = 2 then 1 else s.mapBytes (0x700000 + 128 * t + 28) 1) := by
  unfold State.loadedRow
  dsimp only

/-- R431: the tier map as the rebuilt map copy holds it. -/
def State.loadedTier : Tab (BitVec 32) := (List.range s.dpaExtents).map (fun e => (e, BitVec.ofNat 32 (s.mapBytes (4 * e) 4)))

theorem State.find_loadedTier {e : Nat} (h : e < s.dpaExtents) : Tab.find? s.loadedTier e = some (BitVec.ofNat 32 (s.mapBytes (4 * e) 4)) :=
  Tab.find_rangeMap (fun e => BitVec.ofNat 32 (s.mapBytes (4 * e) 4)) h

/-- R431: the tier map and the partitions of tenants `ts` loaded. -/
def State.loadedBase (ts : List Nat) : State :=
  { s with
    med := { s.med with tier := s.loadedTier }, tenants := ts.foldl (fun m t => Tab.set m t (s.loadedRow t)) s.tenants,
    sec := { s.sec with keyOrigin := s.sec.keyOrigin + 1 } }

/-- R431: their entries too. -/
def State.loadedEntries (ts : List Nat) : State :=
  ts.foldl (fun s' t => (s'.setPar (0x4900 + t) 4 (s.mapBytes (0x700000 + 128 * t + 29) 1)).setPar (0x4900 + t) 7
    (s.mapBytes (0x700000 + 128 * t + 32) 32)) (s.loadedBase ts)

/-- R431: the keys of slots `ks` loaded as well. -/
def State.loadedKeys (ts ks : List Nat) : State :=
  { s.loadedEntries ts with sec := { (s.loadedEntries ts).sec with
    loaded := ks.foldl (fun m k => Tab.set m ((s.loadedEntries ts).slotKey k)
      (((List.range 257).map (fun k => BitVec.ofNat 512 (s.mapBytes (0x708000 + 64 * k) 64))).getD k 0)) (s.loadedEntries ts).sec.loaded } }

theorem State.loadMap_eq : s.loadMap = s.loadedKeys (List.range 256) (List.range 257) := rfl

section
variable (ts ks : List Nat)

theorem State.loadedBase_pool : (s.loadedBase ts).pool = s.pool := by
  unfold State.loadedBase
  dsimp only

/-- The entries are all that the fold over the tenants touches. -/
theorem State.loadedEntries_keeps {β : Type} (g : State → β) (hg : ∀ (u : State) i k v, g (u.setPar i k v) = g u) :
    g (s.loadedEntries ts) = g (s.loadedBase ts) := by
  unfold State.loadedEntries
  refine foldl_keeps g (fun u t => ?_) _ _
  rw [hg, hg]

theorem State.loadedKeys_eq : s.loadedKeys ts ks = { s.loadedEntries ts with sec := (s.loadedKeys ts ks).sec } := rfl

/-- R431: of memory's state the map copy is loaded into the tier map alone. -/
theorem State.loadedKeys_med : (s.loadedKeys ts ks).med = { s.med with tier := s.loadedTier } := by
  rw [State.loadedKeys_eq]
  exact s.loadedEntries_keeps ts State.med fun _ _ _ _ => rfl

theorem State.loadedKeys_pool : (s.loadedKeys ts ks).pool = s.pool := by
  rw [State.loadedKeys_eq]
  exact (s.loadedEntries_keeps ts State.pool fun _ _ _ _ => rfl).trans (s.loadedBase_pool ts)

theorem State.loadedKeys_tenants : (s.loadedKeys ts ks).tenants = ts.foldl (fun m t => Tab.set m t (s.loadedRow t)) s.tenants := by
  rw [State.loadedKeys_eq]
  exact s.loadedEntries_keeps ts State.tenants fun _ _ _ _ => rfl

end

theorem State.loadMap_med : s.loadMap.med = { s.med with tier := s.loadedTier } := by rw [State.loadMap_eq, State.loadedKeys_med]
theorem State.loadMap_pool : s.loadMap.pool = s.pool := by rw [State.loadMap_eq, State.loadedKeys_pool]

theorem State.find_loadMap_tier {e : Nat} (h : e < s.dpaExtents) : Tab.find? s.loadMap.med.tier e = some (BitVec.ofNat 32 (s.mapBytes (4 * e) 4)) := by
  have h := s.find_loadedTier h
  rw [State.loadMap_med]
  generalize s.loadedTier = tier at h ⊢
  exact h

theorem State.loadMap_tenantAt {t : Nat} (ht : t < 256) : s.loadMap.tenantAt t = s.loadedRow t := by
  rw [State.tenantAt, State.loadMap_eq, State.loadedKeys_tenants]
  exact Tab.get_setRange s.loadedRow _ ht s.tenants

end

end Machine
end Sys2Proof

namespace Sys2Proof
namespace Machine

/-! The events of the rebuild engine, and the statement (R398, R399, R410-R413). -/

theorem execRebuildMapDone_mapping {s : State} (h : s.pool.rebuild.st = 1) : execRebuildMapDone s =
    .next ({ s.loadMap with pool := { s.loadMap.pool with rebuild := { s.loadMap.pool.rebuild with st := 2 } } } : State).fillSlots.checkRebuild := by
  have hp := s.loadMap_pool
  unfold execRebuildMapDone
  generalize s.loadMap = u at hp ⊢
  exact if_neg (by rw [hp]; exact not_not_intro h)

theorem execRebuildMapDone_other {s : State} (h : s.pool.rebuild.st ≠ 1) : execRebuildMapDone s = .next s := by
  have hp := s.loadMap_pool
  unfold execRebuildMapDone
  generalize s.loadMap = u at hp ⊢
  exact if_pos (by rw [hp]; exact h)

/-! ### An extent is committed -/

section
variable {s : State} {slot : Fin 8} {v : BitVec 23}

theorem execRebuildExtentCommit_free (h : Tab.find? s.pool.rebuild.slots slot.val = none) : execRebuildExtentCommit slot s = .next s := by
  unfold execRebuildExtentCommit
  dsimp only
  rw [h]
  rfl

theorem execRebuildExtentCommit_not (h : Tab.find? s.pool.rebuild.slots slot.val = some v) (hn : s.pool.rebuild.st ≠ 2 ∨ bit v 22 = true) :
    execRebuildExtentCommit slot s = .next s := by
  unfold execRebuildExtentCommit
  dsimp only
  rw [h]
  exact if_pos (by simpa using hn)

/-- The DELTAs that are held for an extent. -/
def State.heldFor (s : State) (v : BitVec 23) (d : BitVec 128 × List (BitVec 8)) : Bool :=
  bits (s.entryAt (PktHdr.unpack d.1).dpa) 21 0 = bits v 21 0

/-- R412: the extent of a slot committed, the DELTAs held for it taken and applied, and the slots filled again. -/
def State.committed (s : State) (slot : Nat) (v : BitVec 23) : State :=
  let s1 : State := { s with pool := { s.pool with rebuild := { s.pool.rebuild with
    slots := Tab.set s.pool.rebuild.slots slot (BitVec.ofNat 23 (bits v 21 0 + 2 ^ 22)),
    heldD := s.pool.rebuild.heldD.filter (fun d => !s.heldFor v d) } } }
  let s2 := (s.pool.rebuild.heldD.filter (s.heldFor v)).foldl (fun u d =>
    u.applyDelta (PktHdr.unpack d.1).dpa (fitBytes 64 d.2) (decide ((PktHdr.unpack d.1).status = 1))) s1
  (State.advanceCursor 8 (s2.bump 32 0x5400 14)).fillSlots

/-- The engine in another state of R410. -/
def State.rebuildAt (s : State) (st : Nat) : State := { s with pool := { s.pool with rebuild := { s.pool.rebuild with st := st } } }

/-- R410: READY once every extent is committed. -/
def State.rebuildEnd (s : State) : State := if s.rebuildTotal ≤ s.par 0x5400 14 then s.rebuildAt 4 else s

theorem execRebuildExtentCommit_copying (h : Tab.find? s.pool.rebuild.slots slot.val = some v) (h2 : s.pool.rebuild.st = 2) (hv : bit v 22 = false) :
    execRebuildExtentCommit slot s = .next (s.committed slot.val v).rebuildEnd := by
  have hkeep : s.pool.rebuild.heldD.filter (fun d => bits (s.entryAt (PktHdr.unpack d.1).dpa) 21 0 ≠ bits v 21 0) =
      s.pool.rebuild.heldD.filter (fun d => !s.heldFor v d) :=
    List.filter_congr fun d _ => by simp [State.heldFor]
  unfold execRebuildExtentCommit
  extract_lets r
  rw [show Tab.find? r.slots slot.val = some v from h]
  refine (if_neg (by simpa using ⟨h2, hv⟩)).trans ?_
  extract_lets s1 s2 s3
  have h3 : s3 = s.committed slot.val v := by
    unfold s3 s2 s1 State.committed
    rw [hkeep]
    rfl
  rw [← h3]
  clear_value s3
  unfold State.rebuildEnd
  by_cases hc : s3.rebuildTotal ≤ s3.par 0x5400 14
  · rw [if_pos hc]
    exact congrArg Host.Outcome.next (if_pos hc).symm
  · rw [if_neg hc]
    exact congrArg Host.Outcome.next (if_neg hc).symm

end

/-! ### A rebuild that has failed -/

section
variable (s : State)

/-- R410: the media extents that are not committed: those in slots that only started, and those that the cursor has not reached. -/
def State.uncommitted : List Nat :=
  (s.pool.rebuild.slots.filter (fun p => !bit p.2 22)).map (fun p => bits p.2 21 0) ++
    (List.range s.rebuildTotal).filterMap (fun j => if j < s.pool.rebuild.next then none else
      (s.rebuildExtent j).map (fun q => s.rankMedia q.1 q.2 + q.1 * 2 ^ 21))

/-- The DPA extents that lie there. -/
def State.uncommittedExtents : List Nat := (List.range s.dpaExtents).filter (fun e => s.uncommitted.contains (bits (s.tierEntry e) 21 0))

/-- R410: every line of them poisoned. -/
def State.rebuildPoisoned : State := s.uncommittedExtents.foldl (fun u e => (extentLines e).foldl State.poisonLine u) s

variable {s}

theorem execRebuildPoisoningDone_failed (n : Nat) (h : s.pool.rebuild.st = 3) : execRebuildPoisoningDone n s =
    .next ((s.rebuildPoisoned.rebuildAt 4).report
      kRebuildFailed 0 0 [(32, s.pool.rebuild.lost.toNat), (32, s.pool.rebuild.lost2.toNat), (32, n)]) := by
  unfold execRebuildPoisoningDone
  extract_lets r started rest media es s1
  refine (if_neg (not_not_intro h)).trans ?_
  have h1 : s1 = s.rebuildPoisoned := rfl
  rw [← h1]
  clear_value s1
  rfl

theorem State.mem_uncommitted_slot {p : Nat × BitVec 23} (hp : p ∈ s.pool.rebuild.slots) (h : bit p.2 22 = false) : bits p.2 21 0 ∈ s.uncommitted :=
  List.mem_append_left _ (List.mem_map.mpr ⟨p, List.mem_filter.mpr ⟨hp, by rw [h]; rfl⟩, rfl⟩)

theorem State.mem_uncommitted_rest {j t r : Nat} (hn : s.pool.rebuild.next ≤ j) (hj : j < s.rebuildTotal) (h : s.rebuildExtent j = some (t, r)) :
    s.rankMedia t r + t * 2 ^ 21 ∈ s.uncommitted := by
  refine List.mem_append_right _ (List.mem_filterMap.mpr ⟨j, List.mem_range.mpr hj, ?_⟩)
  rw [if_neg (Nat.not_lt.mpr hn), h]
  rfl

theorem State.rebuildPoisoned_poisoned (s : State) : Poisoned s s.rebuildPoisoned (s.uncommittedExtents.flatMap extentLines) :=
  poisonExtents_poisoned _ s

/-- A line of an extent that is not committed is poison in the end. -/
theorem State.rebuildPoisoned_line {e i : Nat} (he : e < s.dpaExtents) (hu : bits (s.tierEntry e) 21 0 ∈ s.uncommitted) (hi : i < 32768)
    (hf : s.fatalAt ((e * 32768 + i) * 64) = false) : s.rebuildPoisoned.isPoison (e * 32768 + i) = true := by
  refine s.rebuildPoisoned_poisoned.lines _ ?_ hf
  refine List.mem_flatMap.mpr ⟨e, List.mem_filter.mpr ⟨List.mem_range.mpr he, List.contains_iff_mem.mpr hu⟩, ?_⟩
  exact List.mem_map.mpr ⟨i, List.mem_range.mpr hi, rfl⟩

end

/-! ### The obligation -/

/-- Settles O58, by the branches of each command and event; a routing table by its bytes, the congestion counters by their bins, and a failed
rebuild by what poisoning one line after another leaves. -/
theorem routesCongestionAndRebuild : Obligations.RoutesCongestionAndRebuild := by
  unfold Obligations.RoutesCongestionAndRebuild
  refine ⟨fun s c tbl v hs => ⟨fun h => ⟨routeClean v.toNat, fun k hk => bitsAt_routeClean _ hk, ?_⟩, fun h => ?_⟩, fun s c v hs => ⟨fun h => ?_, fun h => ?_⟩,
    fun s => ⟨State.checkRebuild_done, fun h4 hc => ?_, fun h2 h4 => ?_, State.checkPartners_none⟩, fun s p => ?_, fun s c p hr => ?_,
    fun s c lost lost2 hs => ?_, fun s c hs => ⟨fun h => ?_, fun h => ?_⟩, fun s => ?_, fun s slot => ?_, fun s n h => if_pos h, fun s n h => ?_⟩
  · exact congrArg Host.Outcome.next (State.request_eq_of_op hs (routeWrite_unused (s := s.modClient c id) h))
  · exact congrArg Host.Outcome.next (State.request_eq_of_op hs (routeWrite_used (s := s.modClient c id) h))
  · exact congrArg Host.Outcome.next (State.request_eq_of_op hs (if_neg (Nat.not_lt.mpr h)))
  · exact congrArg Host.Outcome.next (State.request_eq_of_op hs (if_pos h))
  · exact State.checkRebuild_notCopying (fun h => hc h.2) (by rw [h4]; decide)
  · exact State.checkRebuild_notCopying (fun h => h4 h.1) h2
  · extract_lets bin
    exact ⟨countBins bin 5 (s.linkAt p.val).congestion, rfl, fun vc hvc => get_countBins (bin_injective _) hvc _, fun j hj => get_countBins_other hj _⟩
  · exact congrArg Host.Outcome.next (State.query_served hr _)
  · extract_lets u tells may keyed
    have hstart := rebuildCommand_start (s := u) lost lost2
    have htells : ∀ {st : Nat} {t : State}, rebuildCommand (1 + lost.toNat * 2 ^ 8 + lost2.toNat * 2 ^ 16) u = (st, 0, t) → tells st t :=
      fun e => congrArg Host.Outcome.next (State.request_eq_of_op hs e)
    have hkeyed : ¬ (u.ringClass ≠ 0 && u.sec.ringKey.isNone) = true ↔ keyed := by
      show ¬ (s.ringClass ≠ 0 && s.sec.ringKey.isNone) = true ↔ s.ringClass = 0 ∨ s.sec.ringKey.isSome = true
      cases s.sec.ringKey <;> simp
    have hmay : (u.pool.rebuild.st ≠ 0 || u.ringClass = 0 || (u.ringClass = 1 && u.ringChips < 8)) = true ↔ ¬ may := by
      show (s.pool.rebuild.st ≠ 0 || s.ringClass = 0 || (s.ringClass = 1 && s.ringChips < 8)) = true ↔
        ¬ (s.pool.rebuild.st = 0 ∧ s.ringClass ≠ 0 ∧ ¬ (s.ringClass = 1 ∧ s.ringChips < 8))
      rw [Bool.or_eq_true, Bool.or_eq_true, Bool.and_eq_true, decide_eq_true_eq, decide_eq_true_eq, decide_eq_true_eq, decide_eq_true_eq]
      tauto
    refine ⟨fun hk => htells (hstart.trans (if_pos (not_not.mp (hkeyed.not.mpr hk)))), fun hk hm => ?_, fun hk hm hl => ?_, fun hk hm h1 h2 => ?_⟩
    · exact htells (hstart.trans ((if_neg (hkeyed.mpr hk)).trans (if_pos (hmay.mpr hm))))
    · exact htells (hstart.trans ((if_neg (hkeyed.mpr hk)).trans ((if_neg (hmay.not.mpr (not_not_intro hm))).trans (if_pos (by simpa using hl)))))
    · exact htells (hstart.trans ((if_neg (hkeyed.mpr hk)).trans ((if_neg (hmay.not.mpr (not_not_intro hm))).trans (if_neg (by simp; omega)))))
  · exact congrArg Host.Outcome.next (State.request_eq_of_op hs (rebuildCommand_abort (s := s.modClient c id) h))
  · exact congrArg Host.Outcome.next (State.request_eq_of_op hs (rebuildCommand_abort_idle (s := s.modClient c id) h))
  · refine ⟨execRebuildMapDone_mapping, execRebuildMapDone_other, s.loadMap_mem, s.loadMap_pool, fun e he => ?_, fun n hn => ?_⟩
    · have htier := s.find_loadMap_tier he
      generalize s.loadMap = u at htier ⊢
      exact htier
    · have htenant := s.loadMap_tenantAt hn
      extract_lets row st
      rw [htenant]
      have hrow : row = 0x700000 + 128 * n := rfl
      have hst : st = s.mapBytes (row + 28) 1 := rfl
      clear_value st row
      subst hst hrow
      exact ⟨s.loadedRow_base n, s.loadedRow_size n, s.loadedRow_state n⟩
  · refine ⟨execRebuildExtentCommit_free, fun v => execRebuildExtentCommit_not, fun v h h2 hv => ?_⟩
    intro mine s1 s2 u
    have hu : u = s.committed slot.val v := rfl
    have h := execRebuildExtentCommit_copying h h2 hv
    rw [← hu] at h
    clear_value u
    exact h
  · have hpoisoned := s.rebuildPoisoned_poisoned
    obtain ⟨-, -, -, -, -, hrebuild, -⟩ := hpoisoned.kept
    refine ⟨s.rebuildPoisoned, ?_, hrebuild, fun l hl => hpoisoned.isPoison hl, fun e p i he hp hv hm hi hf => ?_,
      fun e j t r i he hn hj hx hm hi hf => ?_⟩
    · have h := execRebuildPoisoningDone_failed n h
      generalize s.rebuildPoisoned = u at h ⊢
      exact h
    · exact State.rebuildPoisoned_line he (hm ▸ State.mem_uncommitted_slot hp hv) hi hf
    · exact State.rebuildPoisoned_line he (hm ▸ State.mem_uncommitted_rest hn hj hx) hi hf

end Machine
end Sys2Proof

namespace Sys2Proof
namespace Machine

/-! The bring-up machine (R60-R62, R456, R497-R501): what each of its events leaves. -/

/-! ### The pool links begin to train -/

/-- Of the state only the ring, the calendar, the dictionary, the light counters and what is sent may differ. -/
def LinksMoved (s t : State) : Prop := t = { s with pool := t.pool, tst := t.tst, out := t.out, cal := t.cal, od := t.od }

theorem LinksMoved.refl (s : State) : LinksMoved s s := rfl

theorem LinksMoved.trans {s t u : State} (h : LinksMoved s t) (k : LinksMoved t u) : LinksMoved s u := by
  unfold LinksMoved at *
  rw [k, h]

theorem LinksMoved.rst {s t : State} (h : LinksMoved s t) : t.rst = s.rst := by rw [h]
theorem LinksMoved.clk {s t : State} (h : LinksMoved s t) : t.clk = s.clk := by rw [h]
theorem LinksMoved.opt {s t : State} (h : LinksMoved s t) : t.opt = s.opt := by rw [h]

theorem LinksMoved.option {s t : State} (h : LinksMoved s t) (hi lo : Nat) : t.option hi lo = s.option hi lo := by
  unfold State.option
  rw [h.opt]

theorem RingOnly.linksMoved {s t : State} (h : RingOnly s t) : LinksMoved s t := by
  unfold LinksMoved
  rw [h]

theorem State.sendStored_ringOnly (s : State) : RingOnly s s.sendStored := by
  unfold State.sendStored
  refine RingOnly.trans (t := { s with pool := { s.pool with stored := [] } }) rfl ?_
  refine foldl_ringOnly (fun s d => ?_) _ _
  exact RingOnly.trans (t := { s with pool := { s.pool with deltas := s.pool.deltas ++ [(d.1, d.2, s.now)] } }) rfl (State.inject_ringOnly _ _ _)

theorem State.updateReady_linksMoved (s : State) : LinksMoved s s.updateReady := by
  unfold State.updateReady
  dsimp only
  split
  · rfl
  · split
    · split
      · rfl
      · exact LinksMoved.trans (t := { s with pool := { s.pool with ready := true } }) rfl (State.sendStored_ringOnly _).linksMoved
    · rfl

theorem State.linkTo_linksMoved (s : State) (p : Nat) (st : LinkSt) : LinksMoved s (s.linkTo p st) := by
  unfold State.linkTo
  exact LinksMoved.trans (t := s.modLink p _) rfl (State.updateReady_linksMoved _)

/-- A link may train: the option record enables it, it is down, the ring is not broken and its clock is good (R400). -/
def State.mayTrain (s : State) (p : Nat) : Bool := s.linkEnabled p && (s.linkAt p).st = .down && !s.pool.broken && !s.poolClockBad

/-- R400: with the PLLs locked a link that may trains. -/
def State.trainLink (s : State) (p : Nat) : State := if s.mayTrain p then s.linkTo p .training else s

theorem State.trainLink_linksMoved (s : State) (p : Nat) : LinksMoved s (s.trainLink p) := by
  unfold State.trainLink
  split
  · exact State.linkTo_linksMoved ..
  · exact .refl s

theorem foldl_trainLink_linksMoved (ps : List Nat) (s : State) : LinksMoved s (ps.foldl State.trainLink s) :=
  List.foldlRecOn ps State.trainLink (LinksMoved.refl s) fun t ht p _ => ht.trans (t.trainLink_linksMoved p)

theorem LinksMoved.linkEnabled {s t : State} (h : LinksMoved s t) (p : Nat) : t.linkEnabled p = s.linkEnabled p := by
  unfold State.linkEnabled
  rw [h.option]

theorem LinksMoved.poolClockBad {s t : State} (h : LinksMoved s t) : t.poolClockBad = s.poolClockBad := by
  unfold State.poolClockBad
  rw [h.clk]

theorem State.trainLink_broken (s : State) (p : Nat) : (s.trainLink p).pool.broken = s.pool.broken := by
  unfold State.trainLink
  split
  · exact State.linkTo_broken ..
  · rfl

theorem State.linkAt_trainLink_other (s : State) {p q : Nat} (h : q ≠ p) : ((s.trainLink p).linkAt q).st = (s.linkAt q).st := by
  unfold State.trainLink
  split
  · exact congrArg Prod.fst (State.linkAt_linkTo_other s .training h)
  · rfl

/-- An enabled link that is down trains once its turn has come. -/
theorem foldl_trainLink (ps : List Nat) {s : State} {q : Nat} (he : s.linkEnabled q = true) (hb : s.pool.broken = false) (hc : s.poolClockBad = false)
    (hq : (q ∈ ps ∧ (s.linkAt q).st = .down) ∨ (s.linkAt q).st = .training) : ((ps.foldl State.trainLink s).linkAt q).st = .training := by
  induction ps generalizing s with
  | nil => exact hq.resolve_left fun h => absurd h.1 List.not_mem_nil
  | cons p ps ih =>
    have hmoved := s.trainLink_linksMoved p
    refine ih ((hmoved.linkEnabled q).trans he) ((s.trainLink_broken p).trans hb) (hmoved.poolClockBad.trans hc) ?_
    by_cases hp : q = p
    · subst hp
      right
      unfold State.trainLink
      rcases hq with ⟨-, hd⟩ | ht
      · rw [if_pos (by simp [State.mayTrain, he, hd, hb, hc]), State.linkAt_linkTo_st, hb]
        rfl
      · rw [if_neg (by simp [State.mayTrain, ht])]
        exact ht
    · rw [State.linkAt_trainLink_other s hp]
      exact hq.imp_left fun h => ⟨(List.mem_cons.mp h.1).resolve_left hp, h.2⟩

theorem execPllLocked_pll {s : State} (h : s.rst.phase = .pll) : execPllLocked s =
    let s1 := (List.range 4).foldl State.trainLink s
    if s1.rst.kind = .cold || !s1.rst.trained then .next s1.startTraining else .next (s1.enterPhase .verify) := if_neg (not_not_intro h)

/-! ### The slices train -/

theorem State.startTraining_rate (s : State) : s.startTraining.par 0x3000 1 = hbmRate (s.option 145 144) :=
  (State.par_congr (s := s.setPar 0x3000 1 (hbmRate (s.option 145 144))) rfl rfl rfl).trans (State.par_setPar ..)

/-- R61, R66: one slice trained. -/
def State.sliceTrained (s : State) (k : Nat) : State :=
  let d := deviceGates (s.refreshSlots k)
  let put (t : Tab (BitVec 64)) : Tab (BitVec 64) := d ++ t.filter (fun (p : Nat × BitVec 64) => 3 ≤ p.1)
  s.modSlice k (fun x => { x with
    trained := true, fatal := false, frames := 0, gates := put x.gates, eff := put x.eff, retry := [], incident := [] })

/-- Of the state only the calendar with its slices may differ. -/
def SlicesOnly (s t : State) : Prop := t = { s with cal := t.cal }

theorem State.slicesTrained_slicesOnly (s : State) (ks : List Nat) : SlicesOnly s (s.slicesTrained ks) := by
  show SlicesOnly s (ks.foldl State.sliceTrained s)
  refine List.foldlRecOn ks State.sliceTrained rfl fun t ht k _ => ?_
  unfold SlicesOnly State.sliceTrained at *
  rw [ht]
  rfl

theorem State.sliceAt_sliceTrained (s : State) (k : Nat) : ((s.sliceTrained k).sliceAt k).trained = true ∧ ((s.sliceTrained k).sliceAt k).fatal = false := by
  unfold State.sliceTrained
  rw [State.sliceAt_modSlice]
  exact ⟨rfl, rfl⟩

theorem State.sliceAt_sliceTrained_other (s : State) {j k : Nat} (h : j ≠ k) : (s.sliceTrained k).sliceAt j = s.sliceAt j :=
  State.sliceAt_modSlice_other s _ h

theorem State.sliceAt_slicesTrained (ks : List Nat) {s : State} {k : Nat}
    (h : k ∈ ks ∨ ((s.sliceAt k).trained = true ∧ (s.sliceAt k).fatal = false)) :
    ((s.slicesTrained ks).sliceAt k).trained = true ∧ ((s.slicesTrained ks).sliceAt k).fatal = false := by
  show ((ks.foldl State.sliceTrained s).sliceAt k).trained = true ∧ ((ks.foldl State.sliceTrained s).sliceAt k).fatal = false
  induction ks generalizing s with
  | nil => exact h.resolve_left List.not_mem_nil
  | cons j ks ih =>
    refine ih ?_
    by_cases hj : k = j
    · exact .inr (hj ▸ s.sliceAt_sliceTrained j)
    · rw [State.sliceAt_sliceTrained_other s hj]
      exact h.imp_left fun h => (List.mem_cons.mp h).resolve_left hj

/-- R63: what the dictionary shows of a stack that trained. -/
def State.stackTrained (f : Nat → Nat) (s : State) (k : Nat) : State := (s.setPar (0x3100 + k) 1 1).setPar (0x3100 + k) 2 (f k)

theorem foldl_stackTrained_cal (f : Nat → Nat) (ks : List Nat) (s : State) : (ks.foldl (State.stackTrained f) s).cal = s.cal :=
  foldl_keeps State.cal (f := State.stackTrained f) (fun _ _ => by rfl) ks s

theorem par_foldl_stackTrained (f : Nat → Nat) (s : State) {n k : Nat} (h : k < n) :
    ((List.range n).foldl (State.stackTrained f) s).par (0x3100 + k) 1 = 1 ∧ ((List.range n).foldl (State.stackTrained f) s).par (0x3100 + k) 2 = f k := by
  induction n with
  | zero => omega
  | succ n ih =>
    rw [List.range_succ, List.foldl_append, List.foldl_cons, List.foldl_nil]
    generalize (List.range n).foldl (State.stackTrained f) s = t at ih ⊢
    unfold State.stackTrained
    by_cases hk : k = n
    · subst hk
      exact ⟨(State.par_setPar_other _ _ (odKey_ne (by decide))).trans (State.par_setPar ..), State.par_setPar ..⟩
    · have hother : ∀ sub, sub = 1 ∨ sub = 2 → ((t.setPar (0x3100 + n) 1 1).setPar (0x3100 + n) 2 (f n)).par (0x3100 + k) sub = t.par (0x3100 + k) sub :=
        fun sub hs => (State.par_setPar_other _ _ (by unfold odKey; omega)).trans (State.par_setPar_other _ _ (by unfold odKey; omega))
      rw [hother 1 (.inl rfl), hother 2 (.inr rfl)]
      exact ih (by omega)

end Machine
end Sys2Proof

namespace Sys2Proof
namespace Machine

/-! The DDR channels train (R55, R57, R61, R63). -/

theorem State.reportDeferred_logOnly (s : State) (k : FKind) (unit subject : Nat) (fields : List (Nat × Nat)) :
    LogOnly s (s.reportDeferred k unit subject fields) := by
  unfold State.reportDeferred
  split
  · exact State.report_logOnly ..
  · exact ⟨rfl, fun _ _ _ => rfl⟩

theorem LogOnly.sliceAt {s t : State} (h : LogOnly s t) (k : Nat) : t.sliceAt k = s.sliceAt k := by
  rw [h.1]
  rfl

theorem State.par_setElem_other (s : State) {i k e j l : Nat} (v : Nat) (h : odKey j l ≠ odKey i k (e + 1)) : (s.setElem i k e v).par j l = s.par j l :=
  State.par_congr rfl rfl (Tab.find_set_other _ _ h)

/-! ### What a channel shows -/

/-- R61: the rate and the erased device with which a channel comes up. -/
def State.channelUp (s : State) (r : DdrTraining) : Option (Nat × Nat) :=
  match r with
  | .single d fails => if dimmListed d then trainRates d fails (dimmRates d (s.option 175 160)) else none
  | _ => none

/-- R63: the state that the dictionary shows of a channel. -/
def State.channelStatus (s : State) (r : DdrTraining) : Nat := if (s.channelUp r).isSome then 1 else if r = .empty then 0 else 2

/-- What the slice of channel `c` and its entries show. -/
structure ChannelShows (up : Option (Nat × Nat)) (status c : Nat) (t : State) : Prop where
  trained : (t.sliceAt (32 + c)).trained = up.isSome
  fatal : (t.sliceAt (32 + c)).fatal = false
  status : t.par (0x3110 + c) 1 = status
  rate : t.par (0x3110 + c) 3 = (up.getD (0, 0xFF)).1
  erased : t.par (0x3110 + c) 5 = (up.getD (0, 0xFF)).2

/-- The options, and what any other channel shows, are as they were. -/
structure OthersShow (c : Nat) (s t : State) : Prop where
  opt : t.opt = s.opt
  slices : ∀ k, k ≠ 32 + c → t.sliceAt k = s.sliceAt k
  entries : ∀ d sub, d < 12 → d ≠ c → sub < 256 → t.par (0x3110 + d) sub = s.par (0x3110 + d) sub

section
variable {s t u : State} {c : Nat}

theorem OthersShow.trans (h : OthersShow c s t) (k : OthersShow c t u) : OthersShow c s u :=
  ⟨k.opt.trans h.opt, fun j hj => (k.slices j hj).trans (h.slices j hj), fun d sub hd hn hs => (k.entries d sub hd hn hs).trans (h.entries d sub hd hn hs)⟩

theorem LogOnly.othersShow (h : LogOnly s t) : OthersShow c s t :=
  ⟨by rw [h.1], fun k _ => h.sliceAt k, fun d sub hd _ hs => h.par (by omega)⟩

/-- What channel `d` shows stands while another one trains. -/
theorem ChannelShows.other {up : Option (Nat × Nat)} {status d : Nat} (h : ChannelShows up status d s) (k : OthersShow c s t) (hd : d < 12) (hn : d ≠ c) :
    ChannelShows up status d t := by
  have hslice : t.sliceAt (32 + d) = s.sliceAt (32 + d) := k.slices _ (by omega)
  exact ⟨hslice ▸ h.trained, hslice ▸ h.fatal, (k.entries d 1 hd hn (by decide)).trans h.status, (k.entries d 3 hd hn (by decide)).trans h.rate,
    (k.entries d 5 hd hn (by decide)).trans h.erased⟩

theorem ChannelShows.logOnly {up : Option (Nat × Nat)} {status : Nat} (h : ChannelShows up status c s) (hc : c < 12) (k : LogOnly s t) :
    ChannelShows up status c t :=
  ⟨k.sliceAt _ ▸ h.trained, k.sliceAt _ ▸ h.fatal, (k.par (by omega)).trans h.status, (k.par (by omega)).trans h.rate, (k.par (by omega)).trans h.erased⟩

end

section
variable (s : State) (c status module_ rate extents erased refresh : Nat)

theorem State.par_setChannel : (s.setChannel c status module_ rate extents erased refresh).par (0x3110 + c) 1 = status ∧
    (s.setChannel c status module_ rate extents erased refresh).par (0x3110 + c) 3 = rate ∧
    (s.setChannel c status module_ rate extents erased refresh).par (0x3110 + c) 5 = erased := by
  simp [State.setChannel, State.par_setPar_other, odKey_ne]

theorem State.setChannel_othersShow : OthersShow c s (s.setChannel c status module_ rate extents erased refresh) := by
  refine ⟨rfl, fun _ _ => rfl, fun d sub hd hn hs => ?_⟩
  have hk : ∀ k, k < 256 → odKey (0x3110 + d) sub ≠ odKey (0x3110 + c) k := fun k hk => by unfold odKey; omega
  simp [State.setChannel, State.par_setPar_other, hk]

theorem State.modSlice_othersShow (f : Slice → Slice) : OthersShow c s (s.modSlice (32 + c) f) :=
  ⟨rfl, fun _ h => State.sliceAt_modSlice_other s f h, fun _ _ _ _ _ => State.par_congr rfl rfl rfl⟩

theorem State.sliceTrained_othersShow : OthersShow c s (s.sliceTrained (32 + c)) := by
  unfold State.sliceTrained
  exact State.modSlice_othersShow s c _

theorem State.setElem_othersShow {k : Nat} (e v : Nat) (hc : c < 12) (hk : k < 256) : OthersShow c s (s.setElem (0x3110 + c) k e v) :=
  ⟨rfl, fun _ _ => rfl, fun d sub hd hn hs => State.par_setElem_other s v (by unfold odKey; omega)⟩

/-- R57: a channel that does not come up. -/
def State.channelAway : State := (s.setChannel c status 0 0 0 0xFF 40).modSlice (32 + c) (fun x => { x with trained := false, fatal := false })

theorem State.channelAway_shows : ChannelShows none status c (s.channelAway c status) := by
  obtain ⟨hstatus, hrate, herased⟩ := s.par_setChannel c status 0 0 0 0xFF 40
  have hpar : ∀ sub, (s.channelAway c status).par (0x3110 + c) sub = (s.setChannel c status 0 0 0 0xFF 40).par (0x3110 + c) sub :=
    fun sub => State.par_congr rfl rfl rfl
  have hslice := State.sliceAt_modSlice (s.setChannel c status 0 0 0 0xFF 40) (32 + c) (fun x => { x with trained := false, fatal := false })
  exact ⟨congrArg Slice.trained hslice, congrArg Slice.fatal hslice, (hpar 1).trans hstatus, (hpar 3).trans hrate, (hpar 5).trans herased⟩

theorem State.channelAway_othersShow : OthersShow c s (s.channelAway c status) :=
  (s.setChannel_othersShow c status 0 0 0 0xFF 40).trans (State.modSlice_othersShow _ c _)

/-- R57: one that is away with a CHANNEL_ABSENT record. -/
def State.channelAbsent (cause : Nat) : State := (s.channelAway c 2).reportDeferred kChannelAbsent 0 c [(32, cause)]

theorem State.channelAbsent_shows (cause : Nat) (hc : c < 12) :
    ChannelShows none 2 c (s.channelAbsent c cause) ∧ OthersShow c s (s.channelAbsent c cause) := by
  have hlog := State.reportDeferred_logOnly (s.channelAway c 2) kChannelAbsent 0 c [(32, cause)]
  exact ⟨(s.channelAway_shows c 2).logOnly hc hlog, (s.channelAway_othersShow c 2).trans hlog.othersShow⟩

/-- R61: a channel that comes up, with the device width and the ranks of its module. -/
def State.channelReady (x8 logRanks : Nat) : State :=
  (((s.setChannel c 1 module_ rate extents erased refresh).setElem (0x3110 + c) 2 0 x8).setElem (0x3110 + c) 2 1 logRanks).slicesTrained [32 + c]

theorem State.channelReady_shows (x8 logRanks : Nat) (hc : c < 12) :
    ChannelShows (some (rate, erased)) 1 c (s.channelReady c module_ rate extents erased refresh x8 logRanks) ∧
      OthersShow c s (s.channelReady c module_ rate extents erased refresh x8 logRanks) := by
  have hset := s.par_setChannel c 1 module_ rate extents erased refresh
  have hothers := s.setChannel_othersShow c 1 module_ rate extents erased refresh
  unfold State.channelReady
  generalize s.setChannel c 1 module_ rate extents erased refresh = a at hset hothers ⊢
  have helem : ∀ sub, sub < 256 → ((a.setElem (0x3110 + c) 2 0 x8).setElem (0x3110 + c) 2 1 logRanks).par (0x3110 + c) sub = a.par (0x3110 + c) sub :=
    fun sub hs => (State.par_setElem_other _ _ (by unfold odKey; omega)).trans (State.par_setElem_other _ _ (by unfold odKey; omega))
  have hb := (hothers.trans (a.setElem_othersShow c (k := 2) 0 x8 hc (by decide))).trans
    ((a.setElem (0x3110 + c) 2 0 x8).setElem_othersShow c (k := 2) 1 logRanks hc (by decide))
  generalize (a.setElem (0x3110 + c) 2 0 x8).setElem (0x3110 + c) 2 1 logRanks = b at helem hb ⊢
  have hpar : ∀ sub, (b.slicesTrained [32 + c]).par (0x3110 + c) sub = b.par (0x3110 + c) sub := fun sub => State.par_congr rfl rfl rfl
  obtain ⟨htrained, hfatal⟩ := State.sliceAt_slicesTrained [32 + c] (s := b) (.inl (List.mem_singleton.mpr rfl))
  obtain ⟨hstatus, hrate, herased⟩ := hset
  refine ⟨⟨htrained, hfatal, ?_, ?_, ?_⟩, hb.trans (State.sliceTrained_othersShow b c)⟩
  · exact (hpar 1).trans ((helem 1 (by decide)).trans hstatus)
  · exact (hpar 3).trans ((helem 3 (by decide)).trans hrate)
  · exact (hpar 5).trans ((helem 5 (by decide)).trans herased)

end

/-- R55, R57, R61: a channel shows what its training found, and the others what they showed. -/
theorem State.channelTrained_shows (s : State) {c : Nat} (r : DdrTraining) (hc : c < 12) :
    ChannelShows (s.channelUp r) (s.channelStatus r) c (s.channelTrained c r) ∧ OthersShow c s (s.channelTrained c r) := by
  have haway : ∀ {cause}, s.channelTrained c r = s.channelAbsent c cause → s.channelUp r = none → r ≠ .empty →
      ChannelShows (s.channelUp r) (s.channelStatus r) c (s.channelTrained c r) ∧ OthersShow c s (s.channelTrained c r) := fun h hup hr => by
    have hstatus : s.channelStatus r = 2 := by rw [State.channelStatus, hup, if_neg (by decide), if_neg hr]
    rw [h, hup, hstatus]
    exact s.channelAbsent_shows c _ hc
  cases r with
  | empty => exact ⟨s.channelAway_shows c 0, s.channelAway_othersShow c 0⟩
  | several => exact haway (cause := 2) rfl rfl (by decide)
  | single d fails =>
    by_cases hl : dimmListed d = true
    · have hup : s.channelUp (.single d fails) = trainRates d fails (dimmRates d (s.option 175 160)) := if_pos hl
      by_cases hrates : dimmRates d (s.option 175 160) = []
      · refine haway (cause := 2) (if_pos (by simp [hrates])) ?_ (by simp)
        rw [hup, hrates]
        rfl
      · have hgoes : s.channelTrained c (.single d fails) = match trainRates d fails (dimmRates d (s.option 175 160)) with
            | none => s.channelAbsent c 1
            | some (rate, erased) => s.channelReady c (if d.mrdimm then 2 else 1) rate (d.gib * 512) erased
                (if d.mrdimm && d.ranks = 4 then 56 else 40) (if d.x8 then 1 else 0) (dimmLogRanks d) := if_neg (by simp [hl, hrates])
        cases htrain : trainRates d fails (dimmRates d (s.option 175 160)) with
        | none =>
          rw [htrain] at hgoes hup
          exact haway hgoes hup (by simp)
        | some q =>
          rw [htrain] at hgoes hup
          have hstatus : s.channelStatus (.single d fails) = 1 := by rw [State.channelStatus, hup]; rfl
          rw [hgoes, hup, hstatus]
          exact s.channelReady_shows c _ q.1 _ q.2 _ _ _ hc
    · exact haway (cause := 2) (if_pos (by simp [hl])) (if_neg hl) (by simp)

/-- After the training of the first `n` channels each of them shows what its own found. -/
theorem foldl_channelTrained (r : List DdrTraining) (s : State) {n : Nat} (hn : n ≤ 12) :
    let t := (List.range n).foldl (fun s c => s.channelTrained c (r.getD c .empty)) s
    t.opt = s.opt ∧ ∀ c, c < n → ChannelShows (s.channelUp (r.getD c .empty)) (s.channelStatus (r.getD c .empty)) c t := by
  induction n with
  | zero => exact ⟨rfl, fun c hc => absurd hc (Nat.not_lt_zero c)⟩
  | succ n ih =>
    obtain ⟨hopt, hshow⟩ := ih (by omega)
    rw [List.range_succ, List.foldl_append, List.foldl_cons, List.foldl_nil]
    generalize (List.range n).foldl _ s = t at hopt hshow ⊢
    obtain ⟨hown, hothers⟩ := t.channelTrained_shows (r.getD n .empty) (c := n) (by omega)
    have hup : ∀ x, t.channelUp x = s.channelUp x := fun x => by
      unfold State.channelUp State.option
      rw [hopt]
    refine ⟨hothers.opt.trans hopt, fun c hc => ?_⟩
    by_cases hcn : c = n
    · subst hcn
      rw [State.channelStatus, hup] at hown
      exact hown
    · exact (hshow c (by omega)).other hothers (by omega) hcn

end Machine
end Sys2Proof

namespace Sys2Proof
namespace Machine

/-! The events of the bring-up machine, and the statement (R60-R62, R356, R456, R497-R501). -/

/-! ### Memory is verified and released -/

section
variable (s : State)

/-- A part of the state that the release touches in itself alone. -/
theorem State.enterReleased_keeps {β : Type} (g : State → β) (hp : ∀ (u : State) i k v, g (u.setPar i k v) = g u)
    (ht : ∀ (u : State) k f, g (u.modTenant k f) = g u) : g s.enterReleased = g { s.enterPhase .released with
      host := { s.host with boot := { s.host.boot with state := 1 } }, cx := { s.cx with a := { s.cx.a with st := .active }, active := .A } } := by
  unfold State.enterReleased
  refine foldl_keeps g (fun u p => ?_) _ _
  rw [ht, hp]

theorem State.enterReleased_phase : s.enterReleased.rst.phase = .released :=
  congrArg RstState.phase (s.enterReleased_keeps State.rst (fun _ _ _ _ => rfl) fun _ _ _ => rfl)

theorem State.enterReleased_boot : s.enterReleased.host.boot.state = 1 :=
  congrArg (fun h : HostState => h.boot.state) (s.enterReleased_keeps State.host (fun _ _ _ _ => rfl) fun _ _ _ => rfl)

/-- R501: complex A is active. -/
theorem State.enterReleased_cx : s.enterReleased.cx = { s.cx with a := { s.cx.a with st := .active }, active := .A } :=
  s.enterReleased_keeps State.cx (fun _ _ _ _ => rfl) fun _ _ _ => rfl

/-- R66: every slice counts its frames anew. -/
def State.framesCleared (ks : List Nat) : State := ks.foldl (fun s k => s.modSlice k (fun x => { x with frames := 0 })) s

theorem State.framesCleared_slicesOnly (ks : List Nat) : SlicesOnly s (s.framesCleared ks) :=
  List.foldlRecOn ks _ rfl fun t ht k _ => by
    unfold SlicesOnly at *
    rw [ht]
    rfl

variable {s}

theorem execVerifyDone_passes {failing : Option Nat} (hp : s.rst.phase = .verify) (hf : s.verifyFails failing = none) : execVerifyDone failing s =
    let u := s.framesCleared (List.range 44)
    if u.rst.kind = .warmHeld then .next ({ u with med := { u.med with valid := true } } : State).enterReleased
    else .next (u.buildMap.enterPhase .fill) := by
  unfold execVerifyDone
  rw [if_neg (not_not_intro hp), hf]
  rfl

theorem execVerifyDone_fails {failing : Option Nat} {n : Nat} (hp : s.rst.phase = .verify) (hf : s.verifyFails failing = some n) :
    execVerifyDone failing s = .next (({ s with med := { s.med.lost with eccMode := s.eccWanted }, rst := { s.rst with trained := false } } :
      State).reportDeferred kMemoryVerifyFailed 0 0 [(32, n)]).startTraining := by
  unfold execVerifyDone
  rw [if_neg (not_not_intro hp), hf]
  rfl

theorem State.verifyFails_some (n : Nat) :
    s.verifyFails (some n) = (if n < 20 ∧ ∃ k, k ∈ verifySlices n ∧ (s.sliceAt k).fatal = false then some n else none) := by
  simp [State.verifyFails, Option.filter_some]

end

/-! ### The option record is read -/

/-- R456: a copy is taken. -/
def State.optionTaken (s : State) (one : Bool) : State := { s with opt := { s.opt with inUse := if one then s.opt.copy1 else s.opt.copy0, used := one } }

/-- R456: the defaults are taken, and the record of it waits for firmware. -/
def State.optionDefaults (s : State) : State :=
  let f := s.takeWords 2
  ({ f.2 with opt := { s.opt with inUse := defaultOptions, used := false } } : State).reportDeferred kOptionRecordInvalid 0 0
    [(32, (f.1.getD 0 0).toNat), (32, (f.1.getD 1 0).toNat)]

/-- R456: what is taken. -/
def State.optionsRead (s : State) : State :=
  if !optionValid s.opt.copy0 s.opt.commit0 && !optionValid s.opt.copy1 s.opt.commit1 then s.optionDefaults
  else s.optionTaken (optionValid s.opt.copy1 s.opt.commit1 && (!optionValid s.opt.copy0 s.opt.commit0 || newerOne s.opt.copy0 s.opt.copy1))

section
variable {s : State}

theorem execOptionsReadDone_options (h : s.rst.phase = .options) : execOptionsReadDone s = .next (s.optionsRead.fixRails.enterPhase .pll) :=
  if_neg (not_not_intro h)

theorem State.optionsRead_taken {one : Bool}
    (hv : (!optionValid s.opt.copy0 s.opt.commit0 && !optionValid s.opt.copy1 s.opt.commit1) = false)
    (ho : (optionValid s.opt.copy1 s.opt.commit1 && (!optionValid s.opt.copy0 s.opt.commit0 || newerOne s.opt.copy0 s.opt.copy1)) = one) :
    s.optionsRead = s.optionTaken one := by
  unfold State.optionsRead
  rw [hv, ho]
  exact if_neg (by decide)

theorem State.optionsRead_invalid (h0 : optionValid s.opt.copy0 s.opt.commit0 = false) (h1 : optionValid s.opt.copy1 s.opt.commit1 = false) :
    s.optionsRead = s.optionDefaults := by
  unfold State.optionsRead
  rw [h0, h1]
  exact if_pos (by decide)

theorem State.optionDefaults_inUse (s : State) : s.optionDefaults.opt.inUse = defaultOptions := by
  unfold State.optionDefaults
  rw [(State.reportDeferred_logOnly _ _ _ _ _).1]

/-- R501: with no firmware the record waits. -/
theorem State.reportDeferred_waits {l : List FaultRec} (hr : s.running = false) (hl : s.flt.deferred = l) (k : FKind) (unit subject : Nat)
    (fields : List (Nat × Nat)) : ∃ r, (s.reportDeferred k unit subject fields).flt.deferred = l ++ [r] := by
  refine ⟨s.mkRec k unit subject fields, ?_⟩
  unfold State.reportDeferred
  rw [if_neg (by simp [hr]), hl]

theorem State.optionDefaults_deferred (hr : s.running = false) : ∃ r, s.optionDefaults.flt.deferred = s.flt.deferred ++ [r] := by
  unfold State.optionDefaults
  generalize defaultOptions = d
  extract_lets f
  have hf : f.2 = { s with fresh := s.fresh + 2 } := State.takeWords_state 2 s
  clear_value f
  have hrun : f.2.running = false := by
    rw [hf]
    exact hr
  have hflt : f.2.flt = s.flt := by rw [hf]
  refine State.reportDeferred_waits ?_ ?_ _ _ _ _
  · exact hrun
  · exact congrArg FaultState.deferred hflt

end

end Machine
end Sys2Proof

namespace Sys2Proof
namespace Machine

/-! What the bring-up machine's events leave, and the statement (R60-R62, R356, R456, R497-R501). -/

section
variable {s : State}

/-- R400, R499: the PLLs have locked. -/
theorem execPllLocked_spec (h : s.rst.phase = .pll) : ∃ t, execPllLocked s = .next t ∧
    (s.rst.kind = .cold ∨ s.rst.trained = false → t.rst.phase = .trainHbm ∧ t.par 0x3000 1 = hbmRate (s.option 145 144)) ∧
    (s.rst.kind ≠ .cold → s.rst.trained = true → t.rst.phase = .verify) ∧
    (s.pool.broken = false → s.poolClockBad = false → ∀ p, p < 4 → s.linkEnabled p = true → (s.linkAt p).st = .down → (t.linkAt p).st = .training) := by
  have hlinks : ∀ p, p < 4 → s.linkEnabled p = true → s.pool.broken = false → s.poolClockBad = false → (s.linkAt p).st = .down →
      (((List.range 4).foldl State.trainLink s).linkAt p).st = .training := fun p hp he hb hc hd =>
    foldl_trainLink _ he hb hc (.inl ⟨List.mem_range.mpr hp, hd⟩)
  have hmoved := foldl_trainLink_linksMoved (List.range 4) s
  have hgoes := execPllLocked_pll h
  generalize (List.range 4).foldl State.trainLink s = u at hlinks hmoved hgoes
  extract_lets at hgoes
  by_cases hc : s.rst.kind = .cold ∨ s.rst.trained = false
  · refine ⟨u.startTraining, hgoes.trans (if_pos (by rw [hmoved.rst]; simpa using hc)), fun _ => ⟨rfl, ?_⟩, fun hk ht => ?_, fun hb hc p hp he hd => ?_⟩
    · rw [State.startTraining_rate, hmoved.option]
    · exact absurd hc (by simp [hk, ht])
    · exact hlinks p hp he hb hc hd
  · exact ⟨u.enterPhase .verify, hgoes.trans (if_neg (by rw [hmoved.rst]; simpa using hc)), fun h => absurd h hc, fun _ _ => rfl,
      fun hb hc p hp he hd => hlinks p hp he hb hc hd⟩

/-- R60, R63: the stacks have trained. -/
theorem execHbmTrainingDone_ok {r : HbmTraining} (h : s.rst.phase = .trainHbm) (hr : r.ok = true) : ∃ t, execHbmTrainingDone r s = .next t ∧
    t.rst.phase = .trainDdr ∧ (∀ k, k < 32 → (t.sliceAt k).trained = true ∧ (t.sliceAt k).fatal = false) ∧
    ∀ k, k < 8 → t.par (0x3100 + k) 1 = 1 ∧ t.par (0x3100 + k) 2 = r.repaired.getD k 0 % 2 ^ 16 := by
  have hgoes : execHbmTrainingDone r s =
      .next (((List.range 8).foldl (State.stackTrained fun k => r.repaired.getD k 0 % 2 ^ 16) (s.slicesTrained (List.range 32))).enterPhase .trainDdr) :=
    (if_neg (not_not_intro h)).trans (if_pos hr)
  have hslices : ∀ k, k < 32 → ((s.slicesTrained (List.range 32)).sliceAt k).trained = true ∧ ((s.slicesTrained (List.range 32)).sliceAt k).fatal = false :=
    fun k hk => State.sliceAt_slicesTrained _ (.inl (List.mem_range.mpr hk))
  generalize s.slicesTrained (List.range 32) = u at hslices hgoes
  have hcal := foldl_stackTrained_cal (fun k => r.repaired.getD k 0 % 2 ^ 16) (List.range 8) u
  have hpar := fun k hk => par_foldl_stackTrained (fun k => r.repaired.getD k 0 % 2 ^ 16) u (n := 8) (k := k) hk
  generalize (List.range 8).foldl _ u = v at hcal hpar hgoes
  refine ⟨_, hgoes, rfl, fun k hk => ?_, fun k hk => hpar k hk⟩
  have hslice : (v.enterPhase .trainDdr).sliceAt k = u.sliceAt k := congrArg (fun c : CalState => Tab.get c.slices k default) hcal
  rw [hslice]
  exact hslices k hk

/-- R43, R61: the channels have trained, and the tier map is built. -/
theorem execDdrTrainingDone_spec (r : List DdrTraining) (h : s.rst.phase = .trainDdr) : ∃ t, execDdrTrainingDone r s = .next t ∧
    t.rst.phase = .fill ∧ t.med.valid = true ∧ t.med.tier = [] ∧ t.rst.trained = true ∧
    ∀ c, c < 12 → ChannelShows (s.channelUp (r.getD c .empty)) (s.channelStatus (r.getD c .empty)) c t := by
  obtain ⟨-, hshow⟩ := foldl_channelTrained r s (le_refl 12)
  have hgoes : execDdrTrainingDone r s = .next (let u := (List.range 12).foldl (fun s c => s.channelTrained c (r.getD c .empty)) s
      ({ u with rst := { u.rst with trained := true } } : State).buildMap.enterPhase .fill) := if_neg (not_not_intro h)
  generalize (List.range 12).foldl _ s = u at hshow hgoes
  refine ⟨_, hgoes, rfl, rfl, rfl, rfl, fun c hc => ?_⟩
  obtain ⟨htrained, hfatal, hstatus, hrate, herased⟩ := hshow c hc
  exact ⟨htrained, hfatal, hstatus, hrate, herased⟩

/-- R62, R499: memory that passes the verify is released where it was held, and is filled otherwise. -/
theorem execVerifyDone_passes_spec {failing : Option Nat} (h : s.rst.phase = .verify) (hf : s.verifyFails failing = none) :
    (s.rst.kind = .warmHeld → ∃ t, execVerifyDone failing s = .next t ∧ SameBytes s t ∧ t.rst.phase = .released ∧ t.med.valid = true ∧
      t.med.tier = s.med.tier ∧ t.host.boot.state = 1 ∧ t.cx.active = .A) ∧
    (s.rst.kind ≠ .warmHeld → ∃ t, execVerifyDone failing s = .next t ∧ t.rst.phase = .fill ∧ t.med.valid = true ∧ t.med.tier = []) := by
  have hgoes := execVerifyDone_passes h hf
  have hslices := s.framesCleared_slicesOnly (List.range 44)
  generalize s.framesCleared (List.range 44) = u at hslices hgoes
  have hkind : u.rst.kind = s.rst.kind := by rw [hslices]
  have hmed : u.med = s.med := by rw [hslices]
  extract_lets at hgoes
  refine ⟨fun hk => ?_, fun hk => ⟨_, hgoes.trans (if_neg (hkind ▸ hk)), rfl, rfl, rfl⟩⟩
  have hreleased := State.enterReleased_med { u with med := { u.med with valid := true } }
  refine ⟨_, hgoes.trans (if_pos (hkind.trans hk)), fun a => ?_, State.enterReleased_phase _, ?_, ?_, State.enterReleased_boot _, ?_⟩
  · rw [hreleased, ← hmed]
  · rw [hreleased]
  · rw [hreleased, ← hmed]
  · rw [State.enterReleased_cx]

/-- R62: memory that fails it is lost, and the slices train again. -/
theorem execVerifyDone_fails_spec {failing : Option Nat} {n : Nat} (h : s.rst.phase = .verify) (hf : s.verifyFails failing = some n) :
    ∃ t, execVerifyDone failing s = .next t ∧ t.rst.phase = .trainHbm ∧ t.med.mem = [] ∧ t.rst.trained = false := by
  have hgoes := execVerifyDone_fails h hf
  have hlog := State.reportDeferred_logOnly ({ s with med := { s.med.lost with eccMode := s.eccWanted }, rst := { s.rst with trained := false } } : State)
    kMemoryVerifyFailed 0 0 [(32, n)]
  generalize State.reportDeferred _ _ _ _ _ = u at hlog hgoes
  exact ⟨_, hgoes, rfl, congrArg MediaState.mem hlog.med, congrArg RstState.trained hlog.rst⟩

/-- R138, R500: both tiers hold zeros, and the chip is released. -/
theorem execFillDone_spec (h : s.rst.phase = .fill) : ∃ t, execFillDone s = .next t ∧ t.rst.phase = .released ∧ (∀ a, Mem.get t.med.mem a = 0) ∧
    t.med.poison = [] ∧ t.med.parity = [] ∧ t.host.boot.state = 1 ∧ t.cx.active = .A ∧ t.cx.a.st = .active := by
  refine ⟨_, if_neg (not_not_intro h), State.enterReleased_phase _, fun a => ?_, ?_, ?_, State.enterReleased_boot _, ?_, ?_⟩
  · rw [State.enterReleased_med]
    rfl
  · rw [State.enterReleased_med]
  · rw [State.enterReleased_med]
  · rw [State.enterReleased_cx]
  · rw [State.enterReleased_cx]

end

/-- Settles O60, by the machine's states one after another: the links and the stacks by their folds, a channel by what its training shows. -/
theorem bringUpMachine : Obligations.BringUpMachine := by
  unfold Obligations.BringUpMachine
  have hspares {s t : State} {i : Instr} (hi : i.sparesMemory = true) (e : exec i s = .next t) : SameBytes s t := commandsThatSpareMemory s t i hi e
  refine ⟨fun s => ⟨fun h => ⟨if_pos h, if_pos h⟩, fun h => ⟨if_neg (by simp [h]), if_neg (by simp [h])⟩⟩, fun s h => ?_, fun s => rfl, fun s h => ⟨?_, ?_⟩,
    fun s r h => ⟨fun hr => ?_, fun hr => ?_⟩, fun s r h => ?_, fun s h => ?_, fun s failing h => ⟨fun hf => execVerifyDone_passes_spec h hf, fun n hf =>
    execVerifyDone_fails_spec h hf⟩, fun s n => ⟨rfl, State.verifyFails_some n⟩, fun s h => execFillDone_spec h, fun s h hr => ?_, fun s => ?_⟩
  · intro v0 v1 take
    have htake : ∀ one, (!v0 && !v1) = false → (v1 && (!v0 || newerOne s.opt.copy0 s.opt.copy1)) = one →
        take (if one then s.opt.copy1 else s.opt.copy0) one := fun one hv ho => by
      have hgoes := execOptionsReadDone_options h
      rw [State.optionsRead_taken hv ho] at hgoes
      exact hgoes
    refine ⟨fun h0 h1 => htake false (by simp [h0]) (by simp [h1]), fun h0 h1 => htake true (by simp [h1]) (by simp [h0, h1]),
      fun h0 h1 hn => htake true (by simp [h0]) (by simp [h1, hn]), fun h0 h1 hn => htake false (by simp [h0]) (by simp [h0, hn]), fun h0 h1 => ?_⟩
    have hgoes := execOptionsReadDone_options h
    rw [State.optionsRead_invalid h0 h1] at hgoes
    exact ⟨_, hgoes, hspares (i := .optionsReadDone) rfl hgoes, rfl, s.optionDefaults_inUse, State.optionDefaults_deferred⟩
  · obtain ⟨t, e, hspec⟩ := execPllLocked_spec h
    exact ⟨t, e, hspares (i := .pllLocked) rfl e, hspec⟩
  · have e : exec .pllLockTimeout s = .next s.bringUpStops := if_pos h
    exact ⟨_, e, hspares rfl e, rfl, rfl⟩
  · obtain ⟨t, e, hspec⟩ := execHbmTrainingDone_ok h hr
    exact ⟨t, e, hspares (i := .hbmTrainingDone r) rfl e, hspec⟩
  · have hgoes : exec (.hbmTrainingDone r) s = if s.par 0x3000 1 = 8000 then .next (s.setPar 0x3000 1 7200)
        else if s.par 0x3000 1 = 7200 then .next (s.setPar 0x3000 1 6400) else .next s.bringUpStops :=
      (if_neg (not_not_intro h)).trans (if_neg (by simp [hr]))
    exact ⟨fun h8 => hgoes.trans (if_pos h8), fun h7 => hgoes.trans ((if_neg (by rw [h7]; decide)).trans (if_pos h7)),
      fun h8 h7 => hgoes.trans ((if_neg h8).trans (if_neg h7))⟩
  · extract_lets up
    obtain ⟨t, e, hphase, hvalid, htier, htrained, hshow⟩ := execDdrTrainingDone_spec r h
    refine ⟨t, e, hspares (i := .ddrTrainingDone r) rfl e, hphase, hvalid, htier, htrained, fun c hc => ?_⟩
    obtain ⟨h1, h2, h3, h4, h5⟩ := hshow c hc
    exact ⟨h1, h2, h3, h4, h5⟩
  · exact if_pos (by simpa using h)
  · have e : exec .serviceStateLoaded s = .next (let u := s.enterPhase .active
        { u with host := { u.host with active := true }, coh := { u.coh with startUp := false } }) := if_neg (by simp [h, hr])
    exact ⟨_, e, hspares rfl e, rfl, rfl⟩
  · refine ⟨fun h => if_pos h, fun h => ⟨if_pos h, if_neg h⟩, fun h r => if_pos h, fun h r => if_pos h, fun h1 h2 => if_neg (by simp [h1, h2]),
      fun h n => if_pos h, fun h => if_pos h, fun h => if_pos ?_⟩
    simpa using h

end Machine
end Sys2Proof

namespace Sys2Proof
namespace Machine

/-! What a chip reset leaves, of each kind (R475, R476, R491-R494). -/

/-! ### The end of a reset -/

section
variable (s : State)

/-- Of the state only the reset machine may differ. -/
def MachineOnly (s t : State) : Prop := t = { s with rst := t.rst }

theorem State.leaveReset_machineOnly : MachineOnly s s.leaveReset := by
  unfold State.leaveReset
  split <;> rfl

theorem State.leaveReset_cause : s.leaveReset.rst.cause = s.rst.cause ∧ s.leaveReset.rst.sources = s.rst.sources ∧ s.leaveReset.rst.kind = s.rst.kind ∧
    s.leaveReset.rst.prstLow = s.rst.prstLow := by
  unfold State.leaveReset
  split <;> exact ⟨rfl, rfl, rfl, rfl⟩

variable {s}

theorem State.leaveReset_stays (h : s.rst.phase ≠ .reset ∨ s.rst.prstLow = true ∨ s.pwr.gateOn = false) : s.leaveReset = s :=
  if_pos (by simpa [or_assoc] using h)

theorem State.leaveReset_goes (hp : s.rst.phase = .reset) (hl : s.rst.prstLow = false) (hg : s.pwr.gateOn = true) :
    s.leaveReset = s.enterPhase (if s.rst.kind = .cold then .options else .pll) := if_neg (by simp [hp, hl, hg])

end

/-! ### What a reset clears and keeps -/

section
variable (s : State) (kind : ResetKind) (cause sources : Nat)

/-- R507: a warm reset is counted, unless it takes the place of one. -/
def State.resetCounted (t : State) : State := if s.rst.phase = .reset ∧ s.rst.kind ≠ .cold then t else t.bump 32 0x7C20 7

/-- R491: what a reset leaves but for the reset machine. -/
def State.resetLeft : State :=
  match kind with
  | .cold => s.coldState
  | .warmHeld => s.resetCounted (s.warmState true)
  | .warmLost => s.resetCounted (s.warmState false)

/-- The reset while it is asserted. -/
def State.resetAsserted : State :=
  let t : State := { s.resetLeft kind with rst := { (default : RstState) with
    phase := .reset, cause := BitVec.ofNat 8 cause, sources := BitVec.ofNat 16 sources, kind := kind, prstLow := s.rst.prstLow,
    trained := kind ≠ ResetKind.cold && s.rst.trained, since := s.now } }
  (t.setPar 0x3400 2 0).setPar 0x3400 3 0

theorem State.assertReset_eq : s.assertReset kind cause sources = (s.resetAsserted kind cause sources).leaveReset := by
  have hcount : ∀ t : State, (if (decide (s.rst.phase = .reset) && decide (s.rst.kind ≠ .cold)) = true then t else t.bump 32 0x7C20 7) = s.resetCounted t :=
    fun t => by simp [State.resetCounted]
  unfold State.assertReset State.resetAsserted State.resetLeft
  simp only [hcount] <;> cases kind <;> rfl

theorem State.assertReset_machineOnly : MachineOnly (s.resetAsserted kind cause sources) (s.assertReset kind cause sources) := by
  rw [State.assertReset_eq]
  exact State.leaveReset_machineOnly _

theorem State.assertReset_rst : (s.assertReset kind cause sources).rst.cause = BitVec.ofNat 8 cause ∧
    (s.assertReset kind cause sources).rst.sources = BitVec.ofNat 16 sources ∧ (s.assertReset kind cause sources).rst.kind = kind := by
  rw [State.assertReset_eq]
  obtain ⟨hcause, hsources, hkind, -⟩ := (s.resetAsserted kind cause sources).leaveReset_cause
  exact ⟨hcause, hsources, hkind⟩

/-- A part of the state that neither the count of resets nor the reset machine touches. -/
theorem State.resetAsserted_keeps {β : Type} (g : State → β) (hp : ∀ (u : State) i k v, g (u.setPar i k v) = g u) (hr : ∀ (u : State) r, g { u with rst := r } = g u) :
    g (s.resetAsserted kind cause sources) = match kind with
      | .cold => g s.coldState
      | .warmHeld => g (s.warmState true)
      | .warmLost => g (s.warmState false) := by
  have hcount : ∀ u, g (s.resetCounted u) = g u := fun u => by
    unfold State.resetCounted State.bump
    split
    · rfl
    · exact hp ..
  unfold State.resetAsserted
  dsimp only
  rw [hp, hp, hr]
  unfold State.resetLeft
  cases kind with
  | cold => rfl
  | warmHeld => exact hcount _
  | warmLost => exact hcount _

/-- R491: memory is held, or no byte of it is listed. -/
theorem State.assertReset_mem : (kind = .warmHeld → SameBytes s (s.assertReset kind cause sources)) ∧
    (kind ≠ .warmHeld → (s.assertReset kind cause sources).med.mem = []) := by
  rw [SameBytes, State.assertReset_med]
  cases kind with
  | cold => exact ⟨fun h => (ResetKind.noConfusion h), fun _ => rfl⟩
  | warmHeld => exact ⟨fun _ _ => rfl, fun h => absurd rfl h⟩
  | warmLost => exact ⟨fun h => (ResetKind.noConfusion h), fun _ => rfl⟩

/-- R455: a warm reset reads no option record. -/
theorem State.assertReset_inUse (h : kind ≠ .cold) : (s.assertReset kind cause sources).opt.inUse = s.opt.inUse := by
  have hcut : s.opt.cut.inUse = s.opt.inUse := by
    unfold OptState.cut
    split <;> rfl
  rw [State.assertReset_machineOnly s kind cause sources]
  have hkept := s.resetAsserted_keeps kind cause sources State.opt (fun _ _ _ _ => rfl) (fun _ _ => rfl)
  cases kind with
  | cold => exact absurd rfl h
  | warmHeld => exact (congrArg OptState.inUse hkept).trans hcut
  | warmLost => exact (congrArg OptState.inUse hkept).trans hcut

theorem Tab.find_mapVal {α β : Type} (f : α → β) (t : Tab α) (k : Nat) :
    Tab.find? (t.map (fun p => (p.1, f p.2))) k = (Tab.find? t k).map f := by
  induction t with
  | nil => rfl
  | cons p t ih =>
    rw [List.map_cons, Tab.find?, Tab.find?]
    split
    · rfl
    · exact ih

/-- R491: what a held reset leaves of a context. -/
def Ctx.held (x : Ctx) : Ctx := { (default : Ctx) with
  entry := x.entry, binding := x.binding, counterLog := x.counterLog, dumps := x.dumps, dumpsNext := x.dumpsNext,
  recordNo := x.recordNo, lastCount := x.lastCount, lastFault := x.lastFault }

/-- R491: every context is IDLE. -/
theorem State.assertReset_idle (k : Nat) : ((s.assertReset kind cause sources).ctxAt k).state = 0 := by
  rw [State.assertReset_machineOnly s kind cause sources]
  have hkept := s.resetAsserted_keeps kind cause sources State.ctxs (fun _ _ _ _ => rfl) (fun _ _ => rfl)
  show (Tab.get (s.resetAsserted kind cause sources).ctxs k default).state = 0
  rw [hkept]
  cases kind with
  | cold => rfl
  | warmLost => rfl
  | warmHeld =>
    show ((Tab.find? (s.ctxs.map (fun (p : Nat × Ctx) => (p.1, p.2.held))) k).getD default).state = 0
    rw [Tab.find_mapVal]
    cases Tab.find? s.ctxs k <;> rfl

end

/-! ### The gate goes off -/

section
variable {s : State}

theorem State.assertReset_cold_off (cause sources : Nat) (h : s.pwr.gateOn = false) :
    s.assertReset .cold cause sources = s.resetAsserted .cold cause sources :=
  (s.assertReset_eq .cold cause sources).trans (State.leaveReset_stays (.inr (.inr h)))

/-- R476: the SID's own registers outlast a cold reset. -/
theorem State.resetAsserted_cold_entry (cause sources : Nat) : (s.resetAsserted .cold cause sources).par 0x2000 7 =
    (Tab.find? s.od (odKey 0x2000 7)).getD ((s.resetAsserted .cold cause sources).odDefault 0x2000 7) := by
  have hfind : Tab.find? (s.resetAsserted .cold cause sources).od (odKey 0x2000 7) = Tab.find? s.coldState.od (odKey 0x2000 7) :=
    (State.find_setPar_other _ _ (by decide)).trans (State.find_setPar_other _ _ (by decide))
  have hkept : Tab.find? s.coldState.od (odKey 0x2000 7) = Tab.find? s.od (odKey 0x2000 7) :=
    (Tab.find_filter (fun k => decide (k = odKey 0x2000 7) || decide (k = odKey 0x2000 8)) s.od _).trans (if_pos (by decide))
  rw [State.par, hfind, hkept]

/-- R475, R476: the gate is off, with the event that turned it off. -/
def State.gateLost (s : State) (event : Nat) (latch : Bool) : State :=
  (({ s with pwr := { s.pwr with gateOn := false, latched := latch, gateRec := true } } : State).setPar 0x2000 7 event).bump 32 0x2000 8

theorem State.gateOff_spec (h : s.pwr.gateOn = true) (event cause : Nat) (latch : Bool) : let t := s.gateOff event cause latch
    t.pwr.gateOn = false ∧ t.pwr.latched = latch ∧ t.pwr.gateRec = true ∧ t.rst.phase = .reset ∧ t.rst.kind = .cold ∧ t.rst.cause = BitVec.ofNat 8 cause ∧
      t.med.mem = [] ∧ t.par 0x2000 7 = event ∧ t.out = .gate false :: s.out := by
  have hgoes : s.gateOff event cause latch = ((s.gateLost event latch).resetAsserted .cold cause (2 ^ cause)).emit (.gate false) :=
    (if_neg (by simp [h])).trans (congrArg (State.emit · (.gate false)) ((s.gateLost event latch).assertReset_cold_off cause (2 ^ cause) rfl))
  have hevent : Tab.find? (s.gateLost event latch).od (odKey 0x2000 7) = some event :=
    (State.find_setPar_other _ _ (by decide)).trans (Tab.find_set_same ..)
  rw [hgoes]
  refine ⟨rfl, rfl, rfl, rfl, rfl, rfl, rfl, ?_, rfl⟩
  refine (State.par_congr (s := (s.gateLost event latch).resetAsserted .cold cause (2 ^ cause)) rfl rfl rfl).trans ?_
  rw [State.resetAsserted_cold_entry, hevent]
  rfl

end

end Machine
end Sys2Proof

namespace Sys2Proof
namespace Machine

/-! The supply, the pins and the software resets, and the statement (R420, R475-R477, R489-R496, R503-R506, R515). -/

/-! ### Sources of a chip reset -/

section
variable {s : State} {kind : ResetKind} {src : Nat}

theorem State.chipReset_running (h : s.rst.phase = .reset ∨ s.rst.entry = true) : s.chipReset kind src =
    if s.rst.kind.strength < kind.strength then s.assertReset kind src (s.mergeSource src).rst.sources.toNat else s.mergeSource src :=
  if_pos (by simpa using h)

theorem State.chipReset_stopped (h : ¬ (s.rst.phase = .reset ∨ s.rst.entry = true)) (hp : s.rst.phase = .stopped) (hs : ¬ (1 ≤ src ∧ src ≤ 4)) :
    s.chipReset kind src = s :=
  (if_neg (by simpa using h)).trans (if_pos (by simp [hp]; omega))

theorem State.chipReset_starts (h : ¬ (s.rst.phase = .reset ∨ s.rst.entry = true)) (hp : s.rst.phase ≠ .stopped ∨ (1 ≤ src ∧ src ≤ 4)) :
    s.chipReset kind src = match kind with
      | .cold => s.assertReset .cold src (2 ^ src)
      | .warmLost => s.stopWork.assertReset .warmLost src (2 ^ src)
      | .warmHeld => if s.rst.phase = .released ∨ s.rst.phase = .active ∨ (s.rst.phase = .verify ∧ s.rst.kind = .warmHeld) then
          ({ s with rst := { s.rst with
            entry := true, kind := .warmHeld, cause := BitVec.ofNat 8 src, sources := BitVec.ofNat 16 (2 ^ src) } } : State).enterHeld
          else s.stopWork.assertReset .warmLost src (2 ^ src) := by
  refine (if_neg (by simpa using h)).trans ((if_neg ?_).trans ?_)
  · have hsrc : s.rst.phase = .stopped → 1 ≤ src ∧ src ≤ 4 := fun h => hp.resolve_left (not_not_intro h)
    simpa [Nat.one_le_iff_ne_zero] using hsrc
  · cases kind with
    | cold | warmLost => rfl
    | warmHeld => simp [or_assoc]

end

/-! ### The reset command -/

section
variable {s : State} {c : Client} (hs : s.serves c 0x7C20 6 = true)
include hs

theorem State.resetWrite_scoped {v : Nat} {u : State} (hv : v % 16 ≠ 1) (e : resetScoped v (s.modClient c id) = (stOk, 0, u)) :
    s.resetWrite c v = u.answer c stOk 0 := by
  have hreq : s.request c 0x7C20 6 (leBytes 4 v) (resetCommand v) = u.answer c stOk 0 := State.request_eq_of_op hs ((if_neg hv).trans e)
  have hafter : ∀ t : State, t.afterResetCommand v = t := fun t => if_neg hv
  unfold State.resetWrite State.requestThen
  simp only [hafter, hreq]
  split
  · split <;> rfl
  · rfl

theorem State.resetWrite_chip {v : Nat} (hv : v % 16 = 1) (he : s.rst.entry = false) :
    s.resetWrite c v = ((s.modClient c id).answer c stOk 0).chipReset (if bitAt v 4 then .warmHeld else .warmLost) 6 := by
  have hreq : s.request c 0x7C20 6 (leBytes 4 v) (resetCommand v) = (s.modClient c id).answer c stOk 0 :=
    State.request_eq_of_op hs ((if_pos hv).trans (if_neg (by simp [he, State.modClient])))
  unfold State.resetWrite State.requestThen
  rw [hreq]
  refine Eq.trans (b := ((s.modClient c id).answer c stOk 0).afterResetCommand v) ?_ (if_pos hv)
  exact if_pos (by simp [State.answer, State.emit, State.countResponse, State.bump, State.setPar, State.modClient, stOk])

theorem State.resetWrite_busy {v : Nat} (hv : v % 16 = 1) (he : s.rst.entry = true) : s.resetWrite c v = (s.modClient c id).answer c stBusy 0 := by
  have hreq : s.request c 0x7C20 6 (leBytes 4 v) (resetCommand v) = (s.modClient c id).answer c stBusy 0 :=
    State.request_eq_of_op hs ((if_pos hv).trans (if_pos (by simp [he, State.modClient])))
  unfold State.resetWrite State.requestThen
  rw [hreq]
  exact if_neg (by simp [stBusy, stOk])

end

/-- Bits 17:8 of RESET_COMMAND. -/
theorem bitsAt_resetUnit {k n : Nat} (hk : k < 16) (hn : n < 1024) : bitsAt (k + n * 256) 17 8 = n ∧ (k + n * 256) % 16 = k := by
  unfold bitsAt
  rw [Nat.shiftRight_eq_div_pow]
  omega

section
variable (s : State)

theorem resetScoped_tenant (t : Fin 256) : resetScoped (2 + t.val * 256) s = done (s.resetTenantWork t.val) := by
  obtain ⟨hunit, hscope⟩ := bitsAt_resetUnit (k := 2) (n := t.val) (by decide) (by omega)
  unfold resetScoped
  dsimp only
  rw [hunit, hscope]
  exact if_pos t.isLt

theorem resetScoped_context (k : Fin 1024) : resetScoped (3 + k.val * 256) s = done (s.resetContext k.val) := by
  obtain ⟨hunit, hscope⟩ := bitsAt_resetUnit (k := 3) (by decide) k.isLt
  unfold resetScoped
  simp only [hunit, hscope]

theorem resetScoped_vat (v : Fin 34) : resetScoped (4 + v.val * 256) s = done (s.resetVat v.val) := by
  obtain ⟨hunit, hscope⟩ := bitsAt_resetUnit (k := 4) (n := v.val) (by decide) (by omega)
  unfold resetScoped
  dsimp only
  rw [hunit, hscope]
  exact if_pos v.isLt

theorem resetScoped_hostPort (p : Fin 4) : resetScoped (5 + p.val * 256) s = done (s.resetHostPort p) := by
  obtain ⟨hunit, hscope⟩ := bitsAt_resetUnit (k := 5) (n := p.val) (by decide) (by omega)
  unfold resetScoped
  dsimp only
  rw [hunit, hscope]
  exact dif_pos p.isLt

theorem resetScoped_poolLink (p : Fin 4) : resetScoped (6 + p.val * 256) s = done (s.resetLink p) := by
  obtain ⟨hunit, hscope⟩ := bitsAt_resetUnit (k := 6) (n := p.val) (by decide) (by omega)
  unfold resetScoped
  dsimp only
  rw [hunit, hscope]
  exact dif_pos p.isLt

end

/-! ### The obligation -/

/-- R494, R499: PRST_N is released with the supply on. -/
theorem execPrstNRelease_goes {s : State} (hp : s.rst.phase = .reset) (hg : s.pwr.gateOn = true) : ∃ t, exec .prstNRelease s = .next t ∧ SameBytes s t ∧
    t.rst.prstLow = false ∧ t.rst.phase = (if s.rst.kind = .cold then .options else .pll) := by
  have hgoes := State.leaveReset_goes (s := { s with rst := { s.rst with prstLow := false } }) hp rfl hg
  exact ⟨_, congrArg Host.Outcome.next hgoes, fun _ => rfl, rfl, rfl⟩

/-- R477: PRST_N ends a gate-off latch. -/
theorem State.turnOn_mergeSource_gate (s : State) (src : Nat) : (s.turnOn.mergeSource src).pwr.gateOn = true := by
  show s.turnOn.pwr.gateOn = true
  unfold State.turnOn
  rw [State.leaveReset_machineOnly]
  rfl

/-- Settles O59, by what a reset asserted leaves of each kind, the branches of the events, and the units of the reset command. -/
theorem supplyPinsAndResets : Obligations.SupplyPinsAndResets := by
  unfold Obligations.SupplyPinsAndResets
  refine ⟨fun s hg => ?_, fun s hg => ?_, fun s => ⟨fun hg hl => ?_, fun h => ?_⟩, fun s => ?_, fun s c hs => ?_, fun s kind src => ?_, fun s => ⟨fun hp hg =>
    execPrstNRelease_goes hp hg, fun h => ?_⟩, fun s => ?_, fun s kind cause sources => ?_, fun s c hs => ?_, fun s v => rfl, fun s b hb => ?_⟩
  · extract_lets off
    have hoff : ∀ {i : Instr} {u : State} {event cause : Nat} {latch : Bool}, u.pwr.gateOn = true → u.out = s.out →
        exec i s = .next (u.gateOff event cause latch) → off i event cause latch := fun hu ho e => by
      obtain ⟨h1, h2, h3, h4, h5, h6, h7, h8, h9⟩ := State.gateOff_spec hu _ _ _
      exact ⟨_, e, h1, h2, h3, h4, h5, h6, h7, h8, h9.trans (congrArg _ ho)⟩
    exact ⟨hoff hg rfl rfl, hoff hg rfl rfl, hoff hg rfl rfl, hoff hg rfl rfl,
      hoff (u := { s with pwr := { s.pwr with thermtrip := true } }) hg rfl rfl⟩
  · have hstays : ∀ event cause latch, s.gateOff event cause latch = s := fun _ _ _ => if_pos (by simp [hg])
    exact ⟨congrArg Host.Outcome.next (hstays ..), congrArg Host.Outcome.next (hstays ..), congrArg Host.Outcome.next (hstays ..),
      congrArg Host.Outcome.next (hstays ..), congrArg Host.Outcome.next (if_pos (by simp [hg])), if_neg (by simp [hg])⟩
  · exact if_neg (by simp [hg, hl])
  · exact if_pos (by simpa using h)
  · intro s1
    exact ⟨fun hl => ⟨if_pos hl, State.turnOn_mergeSource_gate s1 4⟩, fun hl hg => (if_neg (by simp [hl])).trans (if_pos (by simp [hg])),
      fun hl hg => (if_neg (by simp [hl])).trans (if_neg (by simp [hg])), fun hg => if_pos hg, rfl, fun h => if_pos (by simpa using h),
      fun h1 h4 => if_neg (by simpa using ⟨h1, h4⟩), rfl⟩
  · extract_lets u
    refine ⟨fun he => ⟨?_, ?_⟩, fun he hold => ?_⟩
    · exact congrArg Host.Outcome.next (State.resetWrite_chip hs (v := 17) (by decide) he)
    · exact congrArg Host.Outcome.next (State.resetWrite_chip hs (v := 1) (by decide) he)
    · exact congrArg Host.Outcome.next (State.resetWrite_busy hs (by cases hold <;> rfl) he)
  · extract_lets runs holds
    refine ⟨fun h hk => (State.chipReset_running h).trans (if_pos hk), fun h hk => (State.chipReset_running h).trans (if_neg (Nat.not_lt.mpr hk)),
      fun h hp hsrc => State.chipReset_stopped h hp hsrc, fun h hp => ⟨?_, ?_, ?_, ?_⟩⟩
    · rintro rfl
      exact State.chipReset_starts h hp
    · rintro rfl
      exact State.chipReset_starts h hp
    · rintro rfl hn
      exact (State.chipReset_starts h hp).trans (if_neg hn)
    · rintro rfl hh
      exact (State.chipReset_starts h hp).trans (if_pos hh)
  · exact congrArg Host.Outcome.next (State.leaveReset_stays (s := { s with rst := { s.rst with prstLow := false } }) (h.imp_right .inr))
  · have hreset := State.assertReset_cold_off (s := { s with pwr := { s.pwr with gateOn := false } }) 1 2 rfl
    refine ⟨_, rfl, rfl, rfl, ?_, ?_, rfl⟩
    · exact congrArg (fun t : State => t.rst.phase) hreset
    · exact congrArg (fun t : State => t.rst.kind) hreset
  · obtain ⟨hcause, hsources, hkind⟩ := s.assertReset_rst kind cause sources
    obtain ⟨hheld, hlost⟩ := s.assertReset_mem kind cause sources
    exact ⟨hcause, hsources, hkind, hheld, hlost, s.assertReset_inUse kind cause sources, s.assertReset_idle kind cause sources⟩
  · extract_lets u
    have hscoped : ∀ {v : Nat} {w : State}, v % 16 ≠ 1 → resetScoped v u = done w → ok (s.resetWrite c v) = .next (w.answer c stOk 0) :=
      fun hv e => congrArg Host.Outcome.next (State.resetWrite_scoped hs hv e)
    exact ⟨fun t => hscoped (by omega) (resetScoped_tenant u t), fun k => hscoped (by omega) (resetScoped_context u k),
      fun v => hscoped (by omega) (resetScoped_vat u v), fun p => hscoped (by omega) (resetScoped_hostPort u p),
      fun p => hscoped (by omega) (resetScoped_poolLink u p)⟩
  · cases b with
    | vat v => exact absurd rfl (hb v)
    | _ => rfl

end Machine
end Sys2Proof
